-- ==== Sys2Proof/Word.lean ====
section
/-!
DEFINITION. Word types and sparse data: the plain types every other file uses.
Every multi-byte value of the module is little-endian and bits are numbered from 0 at the least significant end (R7).
-/

namespace Sys2Proof

/-- One byte of any memory. -/
abbrev Byte := BitVec 8
/-- A 16-bit field (reason codes, tags). -/
abbrev W16 := BitVec 16
/-- A 32-bit word: a general register of a thread, an accumulator entry, an FP32 encoding. -/
abbrev W32 := BitVec 32
/-- A 64-bit word: a register slot of BAR0, a descriptor word, a location code. -/
abbrev W64 := BitVec 64

/-- Sparse data by a numeric key, keys strictly rising, no entry equal to the map's default
(the operations that read and write one are in Machine/Sparse.lean). -/
abbrev Sp (α : Type) := List (Nat × α)

end Sys2Proof
end

