-- ==== Sys2Proof/Syntax.lean ====
section
/-!
DEFINITION. The commands of the block: one constructor per row of the table of operations and events.
-/

namespace Sys2Proof

/-- Who performs an access, for the outcome of an error (R601, Table 19-4). -/
inductive Agent where
  /-- a kernel: Frond and kernel slot -/
  | kernel (f k : Nat)
  /-- a descriptor: ring and index -/
  | ring (r i : Nat)
  | engine
  | host
  | fabric
  | hub
  deriving DecidableEq, Repr

/-- What a maintenance request does (R301). -/
inductive MntWork where
  | refresh
  | scrub
  | ledger
  deriving DecidableEq, Repr

/-- Master classes in the order of their codes (Table 09-4). -/
inductive MClass where
  | feed
  | dma
  | frx
  | ftx
  | hst
  | pfc
  | mnt
  | gth
  deriving DecidableEq, Repr
/-- A request waiting at a regulated instance: its source there, its class, the cycles it has waited, the fill in percent of
the buffer it came through, and what it does where its class is MNT (R295–R301). -/
structure NetReq where
  src : Nat
  cls : MClass
  waited : Nat
  fill : Nat
  work : MntWork
  deriving DecidableEq, Repr

/-- A request that crosses a dual-clock queue: its agent, and the fill in percent of the buffer it came through (R289, R301). -/
structure CrossReq where
  agent : Agent
  fill : Nat
  deriving DecidableEq, Repr

/-- What an access needs of a leaf (Table 04-6). -/
inductive Need where
  | r
  | w
  | x
  deriving DecidableEq, Repr

/-- What an instruction of a thread with no row of its own does to the threads that execute it (INSTRUCTION_ISSUE). -/
inductive IssueKind where
  /-- it reads and writes these general registers and goes on -/
  | plain (reads writes : List Nat)
  /-- it reads a special register (R139) into rd -/
  | special (rd n : Nat)
  /-- a branch: the registers it reads and each thread's target -/
  | branch (reads targets : List Nat)
  /-- an undefined or reserved encoding -/
  | illegal
  deriving DecidableEq, Repr

/-- An SPDM request the module answers (R480), with what it carries. -/
inductive SpdmReq where
  | getVersion
  | getCertificate (slot : Nat)
  | challenge (slot : Nat) (nonce : List Byte)
  | getMeasurements (nonce : List Byte)
  /-- the requester's ephemeral public key -/
  | keyExchange (key : List Byte)
  | heartbeat (session : Nat)
  | keyUpdate (session : Nat)
  | endSession (session : Nat)
  /-- a request outside Table 14-6 -/
  | unsupported
  deriving DecidableEq, Repr

/-- What the housekeeping sequencer measured in a round (R495, R508–R514, R519–R524, R589, R613). Lists by key give 0 for what they do
not list; a sensor not listed reads its node's estimate. -/
structure HkSample where
  /-- voltage (0.01 V) and current (0.1 A) of the main and the backup input -/
  volts : Sp Nat
  amps : Sp Nat
  /-- contact currents (mA) by set·16 + pole·8 + contact -/
  contacts : Sp Nat
  /-- energy of the round by input (nJ), and module input power (W) -/
  energy : Sp Nat
  inputW : Nat
  /-- by tower: power in the round, demand with busy Fronds at 1,400 MHz, Thallus and network power (W); everything else (W) -/
  towerW : Sp Nat
  demandW : Sp Nat
  thallusW : Sp Nat
  networkW : Sp Nat
  otherW : Nat
  /-- predicted power of a Frond (W) by Frond·32 + clock step, step 0 being 350 MHz -/
  predictW : Sp Nat
  /-- power of a node of the thermal model (mW) -/
  nodeMw : Sp Nat
  /-- lid temperatures (0.01 °C), validity of the inlet sensor, and flow (0.01 L/min, negative when reversed) -/
  inlet : Int
  outlet : Int
  flow : Int
  /-- sensor readings (0.001 °C) -/
  sensors : Sp Int
  /-- laser bias in percent of its start-of-life bias by engine·32 + laser, and lasers that cannot reach the minimum launch OMA -/
  bias : Sp Nat
  dim : List Nat
  /-- arithmetic cycles delivered by Frond -/
  cycles : Sp Nat
  /-- an uncorrectable error was found in the model state or the calibration matrices -/
  modelBad : Bool
  deriving DecidableEq, Repr

/-- What a wire test found (R184): the link's tower, quadrant, kind (0 read, 1 write, 2 TSV) and column, and its failed wires as
(segment, wire). -/
structure WireFail where
  tower : Nat
  quad : Nat
  kind : Nat
  column : Nat
  failed : List (Nat × Nat)
  deriving DecidableEq, Repr

/-- A command: one constructor per row of the table of operations and events, in its order, with the row's operands. Indices are those of the
chapters: `f` Frond, `g` group slot or reduction group, `t` thread or tower, `r` and `i` ring and descriptor index, `l` link code. -/
inductive Instr where
  /-- REGISTER_WRITE (R9) -/
  | registerWrite (off size val : Nat)
  /-- LOAD_CB (R80) -/
  | loadCb (f a : Nat)
  /-- LOAD_CB_COMPLETE (R80) -/
  | loadCbComplete (f a : Nat)
  /-- LOAD_STAT (R75) -/
  | loadStat (f a : Nat)
  /-- SHADOW_LOAD_COMPLETE (R67) -/
  | shadowLoadComplete (f a : Nat)
  /-- PASS (R65) -/
  | pass (f a stall : Nat) (upset : Option Nat)
  /-- SWAP_MARKER_RELEASE (R68) -/
  | swapMarkerRelease (f a held stall : Nat) (upset : Option Nat)
  /-- DRAIN (R88) -/
  | drain (f a : Nat)
  /-- DRAIN_COMPLETE (R90) -/
  | drainComplete (f a : Nat)
  /-- ACCUMULATOR_PATTERN_TEST (R86) -/
  | accumulatorPatternTest (f a : Nat) (fails : Bool)
  /-- COMMAND_TIMEOUT (R96) -/
  | commandTimeout (f a : Nat)
  /-- THREAD_LOAD (R145) -/
  | threadLoad (f g mask : Nat) (reads vas : List Nat) (size rd conv : Nat)
  /-- THREAD_STORE (R109) -/
  | threadStore (f g mask : Nat) (reads vas : List Nat) (size rs : Nat)
  /-- STORE_BUFFER_WRITE (R109) -/
  | storeBufferWrite (f : Nat)
  /-- ALIAS_STORE (R105) -/
  | aliasStore (f g mask : Nat) (reads vas : List Nat) (size rs : Nat)
  /-- ATOMIC (R146) -/
  | atomic (f g mask op : Nat) (reads vas : List Nat) (size rv rc rd : Nat)
  /-- FENCE_L (R114) -/
  | fenceL (f g mask : Nat)
  /-- FENCE_M (R114) -/
  | fenceM (f g mask : Nat)
  /-- FENCE_MI (R114) -/
  | fenceMi (f g mask : Nat)
  /-- CINV (R114) -/
  | cinv (f g mask : Nat) (reads vas : List Nat)
  /-- TRANSLATION_WALK (R118) -/
  | translationWalk (f g t agent va : Nat) (need : Need)
  /-- COPY (R128) -/
  | copy (f c : Nat)
  /-- FILL (R128) -/
  | fill (f c : Nat)
  /-- DMA_COMPLETE (R129) -/
  | dmaComplete (f c : Nat)
  /-- DUSK_ENTRY (R132) -/
  | duskEntry (f : Nat)
  /-- NIGHT_ENTRY (R132) -/
  | nightEntry (f : Nat)
  /-- DARK_ENTRY (R132) -/
  | darkEntry (f : Nat)
  /-- SLEEP_ENTRY_COMPLETE (R133) -/
  | sleepEntryComplete (f : Nat)
  /-- WAKE_REQUEST (R133) -/
  | wakeRequest (f : Nat) (slow : Bool)
  /-- WAKE_COMPLETE (R131) -/
  | wakeComplete (f : Nat)
  /-- WAKE_TIMEOUT (R135) -/
  | wakeTimeout (f : Nat)
  /-- SLEEPING_LOCAL_STORE_ACCESS (R134) -/
  | sleepingLocalStoreAccess (f : Nat) (agent : Agent) (addr : Nat) (wr : Bool) (bytes : List Byte)
  /-- FRD_SLEEP_CTL_WRITE (R132) -/
  | frdSleepCtlWrite (f : Nat) (v : W64)
  /-- INSTRUCTION_ISSUE (R141) -/
  | instructionIssue (f g mask : Nat) (kind : IssueKind) (upset : List Nat)
  /-- FMA_INSTRUCTION (R58) -/
  | fmaInstruction (f g mask op rd ra rb rc : Nat)
  /-- SPECIAL_FUNCTION (R61) -/
  | specialFunction (f g mask fn rd ra : Nat)
  /-- GSHUF (R151) -/
  | gshuf (f g mask d sreg i : Nat)
  /-- GXPOSE (R151) -/
  | gxpose (f g mask d sreg : Nat)
  /-- GMV (R151) -/
  | gmv (f g mask d sreg v : Nat)
  /-- GRED (R151) -/
  | gred (f g mask op d sreg : Nat)
  /-- GSCAN (R151) -/
  | gscan (f g mask ty d sreg : Nat)
  /-- BAR_G (R155) -/
  | barG (f g mask b : Nat)
  /-- BAR_K (R155) -/
  | barK (f g mask b : Nat)
  /-- EXIT (R173) -/
  | exit (f g mask : Nat)
  /-- TRAP (R161) -/
  | trap (f g mask arg : Nat)
  /-- CLUSTER_PATTERN_TEST (R167) -/
  | clusterPatternTest (f c : Nat) (fails : Bool)
  /-- ACMD (R147) -/
  | acmd (f g mask a n : Nat)
  /-- DCMD (R147) -/
  | dcmd (f g mask c n : Nat)
  /-- AWAIT (R147) -/
  | await (f g mask a n : Nat)
  /-- DWAIT (R147) -/
  | dwait (f g mask c n : Nat)
  /-- DIVERGENT_COLLECTIVE (R159) -/
  | divergentCollective (f g : Nat)
  /-- BARRIER_DEADLOCK (R159) -/
  | barrierDeadlock (f g : Nat)
  /-- KERNEL_ABORT (R163) -/
  | kernelAbort (f k : Nat)
  /-- LAUNCH_RECORD (R168) -/
  | launchRecord (f : Nat) (w0 w1 w2 w3 : W64) (r i image : Nat)
  /-- KERNEL_ADMISSION (R170) -/
  | kernelAdmission (f : Nat)
  /-- KERNEL_EXIT (R172) -/
  | kernelExit (f k : Nat)
  /-- SCRATCHPAD_ACCESS (R186) -/
  | scratchpadAccess (agent : Agent) (off : Nat) (wr : Bool) (bytes : List Byte) (crc : List Nat)
  /-- BUNDLE_WIRE_TEST (R184) -/
  | bundleWireTest (t q kind b : Nat) (failed : List (Nat × Nat))
  /-- ROW_REPAIR (R197) -/
  | rowRepair (t die q b m row : Nat)
  /-- PATROL_READ (R205) -/
  | patrolRead (t die q b len : Nat)
  /-- PATROL_LATE (R207) -/
  | patrolLate
  /-- THALLUS_BAND_CHANGE (R208) -/
  | thallusBandChange (t die q b : Nat)
  /-- RETENTION_ENTRY (R209) -/
  | retentionEntry (t die q b : Nat)
  /-- CACHE_READ (R223) -/
  | cacheRead (agent : Agent) (pa len : Nat)
  /-- CACHE_WRITE (R224) -/
  | cacheWrite (agent : Agent) (pa : Nat) (bytes : List Byte)
  /-- FILL_WAIT_RELEASE (R244) -/
  | fillWaitRelease (sl set : Nat)
  /-- SET_CACHE_MODE (R228) -/
  | setCacheMode (r i : Nat)
  /-- SWITCH_TO_CACHE (R229) -/
  | switchToCache (t q b : Nat)
  /-- SWITCH_TO_SCRATCHPAD (R230) -/
  | switchToScratchpad (t q b : Nat)
  /-- MODE_SWITCH_COMPLETE (R231) -/
  | modeSwitchComplete (t q b : Nat)
  /-- PREFETCH (R233) -/
  | prefetch (r i : Nat)
  /-- FLUSH (R233) -/
  | flush (r i : Nat)
  /-- INVALIDATE (R233) -/
  | invalidate (r i : Nat)
  /-- PIN (R238) -/
  | pin (r i : Nat)
  /-- UNPIN (R233) -/
  | unpin (r i : Nat)
  /-- POSTED_REDUCTION (R240) -/
  | postedReduction (agent : Agent) (op ty pa : Nat) (bytes : List Byte)
  /-- SLICE_ATOMIC (R242) -/
  | sliceAtomic (agent : Agent) (op size pa v cmp : Nat)
  /-- LINE_LOCK_END (R243) -/
  | lineLockEnd (pa : Nat)
  /-- APPLY (R258) -/
  | apply
  /-- APPLY_LATCHED_START (R260) -/
  | applyLatchedStart
  /-- REGION_LOST_CLEAR (R263) -/
  | regionLostClear (n : Nat)
  /-- DRAM_ACCESS (R265) -/
  | dramAccess (agent : Agent) (pa : Nat) (wr : Bool) (bytes : List Byte)
  /-- REFRESH (R270) -/
  | refresh (ch bank : Nat) (postpone : Bool)
  /-- PILE_BAND_CHANGE (R270) -/
  | pileBandChange (p : Nat)
  /-- PILE_SCRUB (R271) -/
  | pileScrub (ch n : Nat)
  /-- ROW_RETIREMENT (R272) -/
  | rowRetirement (ch bank row : Nat)
  /-- COIL_LOSS (R274) -/
  | coilLoss (ch layer coil : Nat)
  /-- PILE_FAILED (R275) -/
  | pileFailed (p : Nat)
  /-- FLIT_REPLAY (R286) -/
  | flitReplay (link : Nat) (req : Option CrossReq)
  /-- NETWORK_LINK_RETRAIN (R286) -/
  | networkLinkRetrain (link : Nat) (failed : List Nat)
  /-- ROUTER_FAILED (R288) -/
  | routerFailed (t k : Nat)
  /-- ROUTE_TABLE_WRITE (R281) -/
  | routeTableWrite (t : Nat)
  /-- FROND_DRAIN (R292) -/
  | frondDrain (f : Nat)
  /-- DRAIN_TIMEOUT (R292) -/
  | drainTimeout (f : Nat)
  /-- REQUEST_PROMOTION (R299) -/
  | requestPromotion (kind inst : Nat) (reqs : List NetReq)
  /-- SLOT_TABLE_COMMIT (R302) -/
  | slotTableCommit (bits : Nat)
  /-- SLOT_TABLE_LATCHED_COMMIT (R302) -/
  | slotTableLatchedCommit (k : Nat)
  /-- HOST_PORT_RESET (R312) -/
  | hostPortReset
  /-- LINK_DOWN (R312) -/
  | linkDown (long : Bool)
  /-- HOST_LINK_UP (R312) -/
  | hostLinkUp (rate width : Nat)
  /-- IDE_INTEGRITY (R314) -/
  | ideIntegrity (stream : Nat)
  /-- SIDEBAND_FRAME (R319) -/
  | sidebandFrame (toModule perst : Bool)
  /-- SIDEBAND_LOST (R319) -/
  | sidebandLost
  /-- CXL_MEM_ACCESS (R308) -/
  | cxlMemAccess (hpa : Nat) (wr : Bool) (bytes : List Byte)
  /-- HDM_DECODER_COMMIT (R308) -/
  | hdmDecoderCommit (n base size ways gran : Nat) (on : Bool)
  /-- RING_ENABLE (R326) -/
  | ringEnable (r : Nat)
  /-- RING_DISABLE (R327) -/
  | ringDisable (r : Nat)
  /-- RING_DISABLE_DONE (R327) -/
  | ringDisableDone (r : Nat)
  /-- SQ_TAIL (R331) -/
  | sqTail (r size v : Nat) (image : List (Nat × List Byte))
  /-- CQ_HEAD (R332) -/
  | cqHead (r size v : Nat)
  /-- DESCRIPTOR_FETCH (R333) -/
  | descriptorFetch (cp : Nat)
  /-- DESCRIPTOR_START (R334) -/
  | descriptorStart (r : Nat)
  /-- COMPLETION_WRITE (R346) -/
  | completionWrite (r : Nat)
  /-- NOP (R338) -/
  | nop (r i : Nat)
  /-- FENCE (R338) -/
  | fence (r i : Nat)
  /-- XLAT_INV (R124) -/
  | xlatInv (r i : Nat)
  /-- LAUNCH (R339) -/
  | launch (r i : Nat)
  /-- IMAGE_LOAD (R349) -/
  | imageLoad (r i : Nat)
  /-- IMAGE_UNLOAD (R351) -/
  | imageUnload (r i : Nat)
  /-- RING_COPY (R341) -/
  | ringCopy (r i : Nat)
  /-- RING_FILL (R341) -/
  | ringFill (r i : Nat)
  /-- RING_IRQ_TIMER (R347) -/
  | ringIrqTimer (r : Nat)
  /-- OPEN (R368) -/
  | openSession (r i upset : Nat)
  /-- CLOSE (R370) -/
  | close (r i upset : Nat)
  /-- STEP (R373) -/
  | step (r i : Nat)
  /-- PLAN_LAUNCH (R375) -/
  | planLaunch (h : Nat)
  /-- PLAN_GATHER (R376) -/
  | planGather (h : Nat)
  /-- STEP_COMPLETE (R378) -/
  | stepComplete (h : Nat)
  /-- STEP_FAIL (R379) -/
  | stepFail (h : Nat)
  /-- PARK (R382) -/
  | park (r i : Nat)
  /-- RESUME (R383) -/
  | resume (r i : Nat)
  /-- TRUNCATE (R369) -/
  | truncate (r i : Nat)
  /-- QUERY (R371) -/
  | query (r i upset : Nat)
  /-- POOL_CREATE (R362) -/
  | poolCreate (r i : Nat)
  /-- POOL_DESTROY (R363) -/
  | poolDestroy (r i : Nat)
  /-- SLOT_LATCHED_START (R357) -/
  | slotLatchedStart (x : Nat)
  /-- SESSION_SEQUENCE_RESTART (R387) -/
  | sessionSequenceRestart
  /-- SSIG (R398) -/
  | ssig (f g mask gs gn : Nat)
  /-- SWAIT (R395) -/
  | swait (f g mask gs : Nat) (inv : Bool)
  /-- SWAIT_T (R395) -/
  | swaitT (f g mask gs gt : Nat) (inv : Bool)
  /-- SRD (R405) -/
  | srd (f g mask gd gs : Nat)
  /-- SORUS_UPDATE_APPLY (R393) -/
  | sorusUpdateApply (bank : Nat)
  /-- WATCH_RELEASE (R400) -/
  | watchRelease (f n : Nat)
  /-- WAIT_TIMEOUT (R401) -/
  | waitTimeout (f g t : Nat)
  /-- CREATE (R404) -/
  | create (r i : Nat)
  /-- DESTROY (R404) -/
  | destroy (r i : Nat)
  /-- SIGNAL (R394) -/
  | signal (r i : Nat)
  /-- SET (R395) -/
  | setSorus (r i : Nat)
  /-- WAIT (R405) -/
  | wait (r i : Nat)
  /-- WAIT_SATISFIED (R405) -/
  | waitSatisfied (r i : Nat)
  /-- WAIT_TIMED_OUT (R405) -/
  | waitTimedOut (r i : Nat)
  /-- READ (R405) -/
  | read (r i : Nat)
  /-- FAB_PORT_CFG_WRITE (R415) -/
  | fabPortCfgWrite (p : Nat) (v : W64)
  /-- PORT_LATCHED_CHANGE (R415) -/
  | portLatchedChange (p : Nat)
  /-- LINK_TRAINING (R424) -/
  | linkTraining (l : Nat) (ok : Bool)
  /-- TRAINING_RETRY (R424) -/
  | trainingRetry (l : Nat) (light : Bool)
  /-- CROSSED_SWAP (R425) -/
  | crossedSwap (l : Nat) (again : Bool)
  /-- BLOCK_RECEIVE (R417–R420): the 512 bytes of a block, as they arrive on a physical lane -/
  | blockReceive (l phys : Nat) (block : List Byte)
  /-- FLIT_RECEIVE (R430) -/
  | flitReceive (l : Nat) (w0 w1 : W64) (area : List Byte) (crcOk tagOk : Bool)
  /-- NAK_REPEAT (R430) -/
  | nakRepeat (l : Nat)
  /-- ACK_REPORT (R430) -/
  | ackReport (l : Nat)
  /-- LINK_RETRAINED (R431) -/
  | linkRetrained (l : Nat) (ok : Bool)
  /-- REKEY_START (R428) -/
  | rekeyStart (l : Nat)
  /-- MESSAGE_DROPPED (R433) -/
  | messageDropped (l : Nat)
  /-- FABRIC_LINK_DOWN (R450) -/
  | fabricLinkDown (l : Nat)
  /-- MSG_WRITE (R439) -/
  | msgWrite (l : Nat)
  /-- MSG_RED_WRITE (R439) -/
  | msgRedWrite (l : Nat)
  /-- MSG_READ (R439) -/
  | msgRead (l : Nat)
  /-- MSG_SIGNAL (R440) -/
  | msgSignal (l : Nat)
  /-- MSG_SESS (R449) -/
  | msgSess (l : Nat)
  /-- MSG_DONE (R443) -/
  | msgDone (l : Nat)
  /-- MSG_DATA (R443) -/
  | msgData (l : Nat)
  /-- MSG_ERROR (R443) -/
  | msgError (l : Nat)
  /-- MSG_CHUNK (R445) -/
  | msgChunk (l : Nat)
  /-- MSG_ADVANCE (R447) -/
  | msgAdvance (l : Nat)
  /-- MSG_ABORT (R448) -/
  | msgAbort (l : Nat)
  /-- MSG_LEAVE (R450) -/
  | msgLeave (l : Nat)
  /-- MSG_REKEY (R428) -/
  | msgRekey (l : Nat)
  /-- MSG_IDENT (R426) -/
  | msgIdent (l : Nat)
  /-- MSG_KEYX (R427) -/
  | msgKeyx (l : Nat)
  /-- WIN_OPEN (R438) -/
  | winOpen (r i : Nat)
  /-- WIN_CLOSE (R438) -/
  | winClose (r i : Nat)
  /-- PUT (R443) -/
  | put (r i : Nat)
  /-- GET (R443) -/
  | get (r i : Nat)
  /-- FABRIC_SIGNAL (R441) -/
  | fabricSignal (r i : Nat)
  /-- REDUCE (R445) -/
  | reduce (r i : Nat)
  /-- REDUCE_COMPLETE (R447) -/
  | reduceComplete (g : Nat)
  /-- REDUCTION_TIMEOUT (R448) -/
  | reductionTimeout (g : Nat)
  /-- SESSION_SEND (R449) -/
  | sessionSend (r i : Nat)
  /-- FAB_TABLE (R437) -/
  | fabTable (r i : Nat)
  /-- FABRIC_TIMEOUT (R443) -/
  | fabricTimeout (tag : Nat)
  /-- RANDOM_SOURCE_FAILURE (R459) -/
  | randomSourceFailure
  /-- RANDOM_SOURCE_RETEST (R459) -/
  | randomSourceRetest (pass : Bool)
  /-- LMS_RESERVATION (R468) -/
  | lmsReservation
  /-- LMS_RESERVATION_DONE (R468) -/
  | lmsReservationDone
  /-- LMS_TREE_BUILT (R470) -/
  | lmsTreeBuilt
  /-- LMS_INDEX_LOW (R470) -/
  | lmsIndexLow
  /-- TENANT_ERASE (R474) -/
  | tenantErase (r i : Nat)
  /-- KEY_SLOT_UNCORRECTABLE (R476) -/
  | keySlotUncorrectable (kind slot : Nat)
  /-- OWNER_CLAIM (R477) -/
  | ownerClaim (k counter : Nat) (key : List Byte)
  /-- OWNER_RELEASE (R478) -/
  | ownerRelease (k counter : Nat) (sig : List Byte)
  /-- POLICY_SET (R478) -/
  | policySet (k counter policy : Nat) (sig : List Byte)
  /-- PEER_TABLE_LOAD (R479) -/
  | peerTableLoad (k counter : Nat) (peers : List (Nat × List Byte)) (sig : List Byte)
  /-- SPDM_REQUEST (R480) -/
  | spdmRequest (night : Bool) (q : SpdmReq)
  /-- GET_EVIDENCE (R482) -/
  | getEvidence (night : Bool) (nonce : Nat)
  /-- KEY_PROG (R483) -/
  | keyProg (k stream set : Nat) (key : List Byte)
  /-- K_SET_GO (R483) -/
  | kSetGo (stream set : Nat)
  /-- LOCK_INTERFACE_REQUEST (R484) -/
  | lockInterfaceRequest
  /-- STOP_INTERFACE_REQUEST (R485) -/
  | stopInterfaceRequest
  /-- INPUT_QUALIFIED (R490) -/
  | inputQualified (i : Nat)
  /-- INPUT_DISQUALIFIED (R490) -/
  | inputDisqualified (i : Nat)
  /-- RETURN_TO_MAIN (R491) -/
  | returnToMain
  /-- BOTH_SUPPLIES_LOST (R493) -/
  | bothSuppliesLost (begun : Nat)
  /-- REVERSE_POLARITY (R494) -/
  | reversePolarity (i : Nat)
  /-- INPUT_SHORT (R494) -/
  | inputShort (i : Nat)
  /-- CELL_SHED (R496) -/
  | cellShed (c : Nat)
  /-- BRANCH_SHORT (R497) -/
  | branchShort (b : Nat)
  /-- PHASE_FAIL (R500) -/
  | phaseFail (k ph : Nat)
  /-- ZONE_LATCHED_SWITCH_ON (R506) -/
  | zoneLatchedSwitchOn (z : Nat)
  /-- RAIL_OVER_LIMIT (R511) -/
  | railOverLimit (t rail : Nat)
  /-- INPUT_OVER_LIMIT (R511) -/
  | inputOverLimit
  /-- HOUSEKEEPING_ROUND (R522) -/
  | housekeepingRound (h : HkSample)
  /-- FLOW_PRESENT (R519) -/
  | flowPresent
  /-- LOW_FLOW (R519) -/
  | lowFlow
  /-- COOLANT_LOST (R519) -/
  | coolantLost
  /-- REVERSED_FLOW (R520) -/
  | reversedFlow
  /-- REVERSED_FLOW_CLEARED (R520) -/
  | reversedFlowCleared
  /-- HOURLY_COMMIT (R524) -/
  | hourlyCommit
  /-- NIGHT_STAGE (R537) -/
  | nightStage (romOk : Bool)
  /-- PREDAWN (R537) -/
  | predawn (fuseOk : Bool) (sensorsBad : List Nat) (inlet : Option Int)
  /-- FIRST_LIGHT (R542) -/
  | firstLight (crc mac : List (Bool × Nat)) (unreadable secStarts : Bool) (coresBad : List Nat)
  /-- DAWN (R544) -/
  | dawn (lost : List (Nat × Nat × List (Nat × Nat)))
  /-- SUNRISE (R537) -/
  | sunrise (piles : List Nat) (coils : List (Nat × Nat × Nat)) (march : List (Nat × List Nat × List Nat)) (wires : List WireFail)
  /-- MORNING (R550) -/
  | morning (routers : List (Nat × Nat)) (links : List (Nat × List Nat)) (tests : List (Nat × Nat))
  /-- NOON (R551) -/
  | noon
  /-- STAGE_TIMEOUT (R538) -/
  | stageTimeout
  /-- FAILED_START_COUNTED (R554) -/
  | failedStartCounted
  /-- START_RETRY (R555) -/
  | startRetry
  /-- FAILED_START_COUNT_CLEARED (R554) -/
  | failedStartCountCleared
  /-- RETRY (R557) -/
  | retry
  /-- RECOVERY_LOADER_START (R558) -/
  | recoveryLoaderStart
  /-- RESTART (R559) -/
  | restart (r i : Nat) (wbOk : Bool)
  /-- RESTART_COMPLETED (R562) -/
  | restartCompleted (u : Nat) (ok : Bool) (tests : List (Nat × Nat)) (chans : List Nat) (wires : List WireFail) (links : List (Nat × List Nat))
      (routers : List (Nat × Nat))
  /-- RESTART_LATCHED_START (R562) -/
  | restartLatchedStart (u : Nat) (wbOk : Bool)
  /-- AUTO_FROND_RESTART (R563) -/
  | autoFrondRestart (f : Nat)
  /-- LEDGER_COMMIT (R572) -/
  | ledgerCommit (badA badB : Option Nat)
  /-- COMPACTION (R575) -/
  | compaction (b : Bool)
  /-- LEDGER_DAILY_READ (R584) -/
  | ledgerDailyRead (pages : List (Nat × Nat)) (crc : List (Bool × Nat))
  /-- LASER_FAILED (R590) -/
  | laserFailed (e n : Nat)
  /-- RECORD_HOLD_END (R597) -/
  | recordHoldEnd (seq : Nat)
  /-- FAULT_RING_ENABLE (R606) -/
  | faultRingEnable (v : W64)
  /-- FAULT_RING_IRQ (R607) -/
  | faultRingIrq
  /-- ARM (R611) -/
  | arm (v : W64)
  /-- EVICT_WRITE (R616) -/
  | evictWrite (v : W64)
  /-- START (R636) -/
  | start (pages : List (Nat × List Byte))
  /-- ENDPOINT_SWITCH (R629) -/
  | endpointSwitch
  /-- ENDPOINT_READY (R628) -/
  | endpointReady
  /-- SWITCH_FAILED (R632) -/
  | switchFailed (oldFails : List Nat)
  /-- ABANDON (R634) -/
  | abandon
  /-- PLDM_TRANSFER (R637) -/
  | pldmTransfer (c : Nat) (manifest image : List Byte)
  /-- ACTIVATE_FIRMWARE (R637) -/
  | activateFirmware
  /-- FW_SPORE (R641) -/
  | fwSpore (r i : Nat)
  /-- PRESENCE_CHANGE (R647) -/
  | presenceChange (p0 p1 : Nat)
  /-- LATCH_OPEN (R654) -/
  | latchOpen
  /-- LATCH_CLOSE (R656) -/
  | latchClose
  /-- REMOVAL_PHASE_END (R655) -/
  | removalPhaseEnd
  /-- SURPRISE_EXTRACTION (R658) -/
  | surpriseExtraction (begun : Nat)
  /-- BLOCK_CROSSED (R651) -/
  | blockCrossed (night : Bool)
  /-- LOW_LIGHT (R652) -/
  | lowLight (e lane : Nat)
  /-- LOSS_OF_LIGHT (R650) -/
  | lossOfLight (e : Nat)
  /-- NIGHT_FRAME (R660) -/
  | nightFrame (bytes : List Byte)
  /-- LINK_CONTROL_FRAME (R660) -/
  | linkControlFrame
  /-- MCTP_MESSAGE (R661) -/
  | mctpMessage (ty : Nat) (body : List Byte)
  /-- MANAGEMENT_READ (R661) -/
  | managementRead (off size : Nat)
  /-- NIGHT_PORT_DOWN (R652) -/
  | nightPortDown
  /-- APPLY_COMPLETE (R259) -/
  | applyComplete
  /-- START_INTERFACE_REQUEST (R484) -/
  | startInterfaceRequest
  /-- ATS_INVALIDATION (R352) -/
  | atsInvalidation (addr len how : Nat)
  /-- NIGHT_PORT_UP (R659) -/
  | nightPortUp
  /-- SIDEBAND_LOCK_GAINED (R319) -/
  | sidebandLockGained
  /-- VOLTAGE_RAMP_DONE (R512) -/
  | voltageRampDone (f : Nat)
  deriving DecidableEq, Repr

end Sys2Proof
end

