-- ==== Sys2Proof/Decode.lean ====
section
/-!
DEFINITION. Commands spelled by words. The table of operations gives no row any bits: a command reaches the block by name with its operands,
so no word spells one.
-/

namespace Sys2Proof

/-- The command a word spells by the table's bits: none, since no row of the table has any. -/
def decodeTableWord (_nbits _w : Nat) : Option Instr := none

end Sys2Proof
end

