-- ==== Sys2Proof/Config.lean ====
section
/-!
DEFINITION. What an implementation fixes and the values the spec leaves open.
Every constant without a body is a free value: nothing in Lean can evaluate it, so a claim holds for every value of it.
-/

namespace Sys2Proof.Config

/-- A fresh word the spec leaves open, applied to the counter the state reads and advances (assumption 3). -/
opaque freeWord : Nat → BitVec 64

/-- Result of a special function whose value Table 02-7 bounds but does not state (function number, operand) (R61). -/
opaque specialFn : Nat → BitVec 32 → BitVec 32

/-- Digests and keys of the algorithms the spec names by their standards (chapter Security), as bytes:
algorithm number, key or context, message. -/
opaque crypto : Nat → List (BitVec 8) → List (BitVec 8) → List (BitVec 8)

/-- Whether a signature verifies: algorithm number, public key, message, signature (R466, R621). -/
opaque verifies : Nat → List (BitVec 8) → List (BitVec 8) → List (BitVec 8) → Bool

/-- What the fuse map and the boot ROM hold of each module and the spec gives no value for: 0 the unique device secret,
1 the module serial, 2 the node identity, 3 the boot ROM and recovery loader, 4 the DevID certificate chain, 16 + k vendor ECDSA key k, 32 + k vendor HSS key k (R460, R461, R464). -/
opaque fused : Nat → List (BitVec 8)

/-- Manifest and image the factory placed in a firmware slot, by bank·16 + class (Table 18-1). -/
opaque factoryFw : Nat → List (BitVec 8) × List (BitVec 8)

/-- Thermal calibration set at manufacture, by kind (0 a, 1 b, 2 g, 3 h, 4 the position of sensor i), flow band, i and j, in units of
2^-20 of its dimension (R522, R524). -/
opaque calib : Nat → Nat → Nat → Nat → Int

end Sys2Proof.Config
end

