-- ==== Sys2Proof/Machine/Bits.lean ====
section
/-!
DEFINITION. Bit fields, byte order and small list helpers (R7, R8).
-/

namespace Sys2Proof.Machine

/-- Bits `hi` to `lo` of `w`, as a number. -/
def fld {n : Nat} (w : BitVec n) (hi lo : Nat) : Nat := (w.toNat >>> lo) % 2 ^ (hi + 1 - lo)

/-- Bits `hi` to `lo` of the number `w`. -/
def nfld (w hi lo : Nat) : Nat := (w >>> lo) % 2 ^ (hi + 1 - lo)

/-- `w` with bits `hi` to `lo` replaced by the low bits of `v`. -/
def setFld {n : Nat} (w : BitVec n) (hi lo v : Nat) : BitVec n :=
  let k := 2 ^ (hi + 1 - lo)
  BitVec.ofNat n (w.toNat - ((w.toNat >>> lo) % k) * 2 ^ lo + (v % k) * 2 ^ lo)

/-- Bit `i` of a number. -/
def nbit (w i : Nat) : Bool := (w >>> i) % 2 == 1

/-- Bit `i` of a word. -/
def bit {n : Nat} (w : BitVec n) (i : Nat) : Bool := nbit w.toNat i

/-- A Bool as a bit. -/
def b2n (b : Bool) : Nat := if b then 1 else 0

/-- The `n` low bytes of `v`, least significant first (R7). -/
def leBytes : Nat → Nat → List Byte
  | 0, _ => []
  | n + 1, v => BitVec.ofNat 8 v :: leBytes n (v / 256)

/-- The number the bytes spell, least significant first (R7). -/
def leNat : List Byte → Nat
  | [] => 0
  | b :: bs => b.toNat + 256 * leNat bs

/-- Largest multiple of `a` not above `n`. -/
def alignDown (n a : Nat) : Nat := n / a * a

/-- Smallest multiple of `a` not below `n`. -/
def alignUp (n a : Nat) : Nat := (n + a - 1) / a * a

/-- Counter increment that saturates at `top`. -/
def satAdd (top n k : Nat) : Nat := if n + k > top then top else n + k

/-- The numbers of `0 … n-1` whose bit is set in `w`. -/
def bitsOf (n w : Nat) : List Nat := (List.range n).filter (nbit w)

/-- The word whose set bits are those of the list. -/
def ofBits (l : List Nat) : Nat := l.foldl (fun a i => a ||| (1 <<< i)) 0

/-- Number of set bits among the low `n`. -/
def popCount (n w : Nat) : Nat := (bitsOf n w).length

/-- Insert keeping a list of numbers in rising order, no repeats. -/
def insNat : List Nat → Nat → List Nat
  | [], k => [k]
  | j :: m, k => if k < j then k :: j :: m else if k = j then j :: m else j :: insNat m k

/-- Sign extension of the low `n` bits, as an integer. -/
def sgn (n v : Nat) : Int := if v % 2 ^ n < 2 ^ (n - 1) then (v % 2 ^ n : Nat) else ((v % 2 ^ n : Nat) : Int) - 2 ^ n

/-- First element of a list that meets a test, with its place. -/
def findIdxFrom {α : Type} (p : α → Bool) : List α → Nat → Option Nat
  | [], _ => none
  | x :: xs, i => if p x then some i else findIdxFrom p xs (i + 1)

/-- The list with the element at place `i` changed. -/
def modAt {α : Type} (f : α → α) : List α → Nat → List α
  | [], _ => []
  | x :: xs, 0 => f x :: xs
  | x :: xs, i + 1 => x :: modAt f xs i

/-- Bytes `off … off+len-1` of a byte list. -/
def slice {α : Type} (l : List α) (off len : Nat) : List α := (l.drop off).take len

/-- One step of the reflected CRC-32 (IEEE 802.3) over one bit. -/
def crc32Bit (c : Nat) : Nat := if c % 2 == 1 then (c / 2) ^^^ 0xEDB88320 else c / 2

/-- One byte of the CRC-32. -/
def crc32Byte (c : Nat) (b : Byte) : Nat :=
  crc32Bit (crc32Bit (crc32Bit (crc32Bit (crc32Bit (crc32Bit (crc32Bit (crc32Bit (c ^^^ b.toNat))))))))

/-- CRC-32, IEEE 802.3 polynomial, of a byte list. -/
def crc32 (l : List Byte) : Nat := (l.foldl crc32Byte 0xFFFFFFFF) ^^^ 0xFFFFFFFF

/-- One bit, and one byte, of the reflected CRC-32C (Castagnoli). -/
def crc32cBit (c : Nat) : Nat := if c % 2 == 1 then (c / 2) ^^^ 0x82F63B78 else c / 2
def crc32cByte (c : Nat) (b : Byte) : Nat :=
  crc32cBit (crc32cBit (crc32cBit (crc32cBit (crc32cBit (crc32cBit (crc32cBit (crc32cBit (c ^^^ b.toNat))))))))
/-- CRC-32C of a byte list. -/
def crc32c (l : List Byte) : Nat := (l.foldl crc32cByte 0xFFFFFFFF) ^^^ 0xFFFFFFFF

end Sys2Proof.Machine
end

