-- ==== Sys2Proof/Machine/RegMap.lean ====
section
/-!
DEFINITION. The register map: every register of BAR0 at the offset R12 and Table 10-4 give it, every field with its
bits, its access code (Table 00-3) and its reset value, from the register tables of the chapters.
A reset value given as "fuse" or "ledger" stands here as 0; where the part reports its repair and wear state, the value is
computed from the state that holds it (Machine/RegView.lean).
-/

namespace Sys2Proof.Machine

/-- A field of a BAR0 register: byte offset of its 8-byte slot and its bits. -/
structure Fd where
  off : Nat
  hi : Nat
  lo : Nat
  deriving DecidableEq, Repr

/-- Access codes (R9, Table 00-3). `setup`: RW only while the ring it configures is disabled (R325, R606).
`own`: a field whose write is a command of its own in the table of operations. -/
inductive Acc where
  | ro | rw | w1c | w1s | wo | rwl | setup | own
  deriving DecidableEq, Repr

/-- One field in the map: bits, access code and reset value. -/
structure FRow where
  hi : Nat
  lo : Nat
  acc : Acc
  rst : Nat
  deriving DecidableEq, Repr

/-- One 8-byte slot pattern: first offset, up to three index counts with their strides, and the fields of the slot. -/
structure RRow where
  base : Nat
  n1 : Nat
  s1 : Nat
  n2 : Nat
  s2 : Nat
  n3 : Nat
  s3 : Nat
  fields : List FRow
  deriving DecidableEq, Repr

/-- FRD_ARR_CTL.WDOG_LOG2 (03). -/
def Fd.FRD_ARR_CTL_WDOG_LOG2 (i : Nat) : Fd := ⟨0x200000 + i * 0x10000, 4, 0⟩
/-- FRD_ARR_STAT_a.FENCED (03). -/
def Fd.FRD_ARR_STAT_FENCED (i j : Nat) : Fd := ⟨0x200008 + i * 0x10000 + j * 0x8, 63, 63⟩
/-- FRD_ARR_STAT_a.SEQ_UP (03). -/
def Fd.FRD_ARR_STAT_SEQ_UP (i j : Nat) : Fd := ⟨0x200008 + i * 0x10000 + j * 0x8, 62, 62⟩
/-- FRD_ARR_STAT_a.QDEPTH (03). -/
def Fd.FRD_ARR_STAT_QDEPTH (i j : Nat) : Fd := ⟨0x200008 + i * 0x10000 + j * 0x8, 58, 54⟩
/-- FRD_ARR_STAT_a.SWAP_STALL (03). -/
def Fd.FRD_ARR_STAT_SWAP_STALL (i j : Nat) : Fd := ⟨0x200008 + i * 0x10000 + j * 0x8, 47, 24⟩
/-- FRD_ARR_STAT_a.ENTRY_STALL (03). -/
def Fd.FRD_ARR_STAT_ENTRY_STALL (i j : Nat) : Fd := ⟨0x200008 + i * 0x10000 + j * 0x8, 23, 0⟩
/-- FRD_ASPACE_BASE.BASE (04). -/
def Fd.FRD_ASPACE_BASE_BASE (i : Nat) : Fd := ⟨0x200048 + i * 0x10000, 43, 16⟩
/-- FRD_ASPACE_BASE.EN (04). -/
def Fd.FRD_ASPACE_BASE_EN (i : Nat) : Fd := ⟨0x200048 + i * 0x10000, 0, 0⟩
/-- FRD_SLEEP_CTL.FLOOR (04). -/
def Fd.FRD_SLEEP_CTL_FLOOR (i : Nat) : Fd := ⟨0x200050 + i * 0x10000, 49, 48⟩
/-- FRD_SLEEP_CTL.DARK_S (04). -/
def Fd.FRD_SLEEP_CTL_DARK_S (i : Nat) : Fd := ⟨0x200050 + i * 0x10000, 47, 32⟩
/-- FRD_SLEEP_CTL.NIGHT_MS (04). -/
def Fd.FRD_SLEEP_CTL_NIGHT_MS (i : Nat) : Fd := ⟨0x200050 + i * 0x10000, 31, 16⟩
/-- FRD_SLEEP_CTL.DUSK_US (04). -/
def Fd.FRD_SLEEP_CTL_DUSK_US (i : Nat) : Fd := ⟨0x200050 + i * 0x10000, 7, 0⟩
/-- FRD_SLEEP_STAT.WAKE_PENDING (04). -/
def Fd.FRD_SLEEP_STAT_WAKE_PENDING (i : Nat) : Fd := ⟨0x200058 + i * 0x10000, 3, 3⟩
/-- FRD_SLEEP_STAT.ENTERING (04). -/
def Fd.FRD_SLEEP_STAT_ENTERING (i : Nat) : Fd := ⟨0x200058 + i * 0x10000, 2, 2⟩
/-- FRD_SLEEP_STAT.STATE (04). -/
def Fd.FRD_SLEEP_STAT_STATE (i : Nat) : Fd := ⟨0x200058 + i * 0x10000, 1, 0⟩
/-- FRD_DMA_CTL.RING_MASK (04). -/
def Fd.FRD_DMA_CTL_RING_MASK (i : Nat) : Fd := ⟨0x200060 + i * 0x10000, 15, 0⟩
/-- FRD_DMA_STAT_c.HALTED (04). -/
def Fd.FRD_DMA_STAT_HALTED (i j : Nat) : Fd := ⟨0x200068 + i * 0x10000 + j * 0x8, 31, 31⟩
/-- FRD_DMA_STAT_c.QDEPTH (04). -/
def Fd.FRD_DMA_STAT_QDEPTH (i j : Nat) : Fd := ⟨0x200068 + i * 0x10000 + j * 0x8, 4, 0⟩
/-- FRD_XLAT_FAULT.ASID (04). -/
def Fd.FRD_XLAT_FAULT_ASID (i : Nat) : Fd := ⟨0x2000F0 + i * 0x10000 + 8, 11, 0⟩
/-- FRD_XLAT_FAULT.VALID (04). -/
def Fd.FRD_XLAT_FAULT_VALID (i : Nat) : Fd := ⟨0x2000F0 + i * 0x10000, 63, 63⟩
/-- FRD_XLAT_FAULT.KIND (04). -/
def Fd.FRD_XLAT_FAULT_KIND (i : Nat) : Fd := ⟨0x2000F0 + i * 0x10000, 62, 60⟩
/-- FRD_XLAT_FAULT.LEVEL (04). -/
def Fd.FRD_XLAT_FAULT_LEVEL (i : Nat) : Fd := ⟨0x2000F0 + i * 0x10000, 59, 58⟩
/-- FRD_XLAT_FAULT.AGENT (04). -/
def Fd.FRD_XLAT_FAULT_AGENT (i : Nat) : Fd := ⟨0x2000F0 + i * 0x10000, 57, 56⟩
/-- FRD_XLAT_FAULT.VA (04). -/
def Fd.FRD_XLAT_FAULT_VA (i : Nat) : Fd := ⟨0x2000F0 + i * 0x10000, 47, 0⟩
/-- FRD_TG_CTL.CWDOG_LOG2 (05). -/
def Fd.FRD_TG_CTL_CWDOG_LOG2 (i : Nat) : Fd := ⟨0x200100 + i * 0x10000, 12, 8⟩
/-- FRD_TG_STAT.CLUSTER_FENCED (05). -/
def Fd.FRD_TG_STAT_CLUSTER_FENCED (i : Nat) : Fd := ⟨0x200108 + i * 0x10000, 63, 60⟩
/-- FRD_TG_STAT.CLUSTER_HELD (05). -/
def Fd.FRD_TG_STAT_CLUSTER_HELD (i : Nat) : Fd := ⟨0x200108 + i * 0x10000, 59, 56⟩
/-- FRD_TG_STAT.KERNELS (05). -/
def Fd.FRD_TG_STAT_KERNELS (i : Nat) : Fd := ⟨0x200108 + i * 0x10000, 51, 48⟩
/-- FRD_TG_STAT.LQ_DEPTH (05). -/
def Fd.FRD_TG_STAT_LQ_DEPTH (i : Nat) : Fd := ⟨0x200108 + i * 0x10000, 45, 40⟩
/-- FRD_TG_STAT.GROUPS_FREE (05). -/
def Fd.FRD_TG_STAT_GROUPS_FREE (i : Nat) : Fd := ⟨0x200108 + i * 0x10000, 38, 32⟩
/-- FRD_TG_STAT.TRAP_COUNT (05). -/
def Fd.FRD_TG_STAT_TRAP_COUNT (i : Nat) : Fd := ⟨0x200108 + i * 0x10000, 15, 0⟩
/-- FRD_TRAP.KTAG (05). -/
def Fd.FRD_TRAP_KTAG (i : Nat) : Fd := ⟨0x200110 + i * 0x10000 + 8, 63, 48⟩
/-- FRD_TRAP.ARG (05). -/
def Fd.FRD_TRAP_ARG (i : Nat) : Fd := ⟨0x200110 + i * 0x10000 + 8, 47, 32⟩
/-- FRD_TRAP.CODE (05). -/
def Fd.FRD_TRAP_CODE (i : Nat) : Fd := ⟨0x200110 + i * 0x10000 + 8, 31, 24⟩
/-- FRD_TRAP.KSLOT (05). -/
def Fd.FRD_TRAP_KSLOT (i : Nat) : Fd := ⟨0x200110 + i * 0x10000 + 8, 23, 21⟩
/-- FRD_TRAP.GROUP (05). -/
def Fd.FRD_TRAP_GROUP (i : Nat) : Fd := ⟨0x200110 + i * 0x10000 + 8, 20, 15⟩
/-- FRD_TRAP.THREAD (05). -/
def Fd.FRD_TRAP_THREAD (i : Nat) : Fd := ⟨0x200110 + i * 0x10000 + 8, 14, 10⟩
/-- FRD_TRAP.VALID (05). -/
def Fd.FRD_TRAP_VALID (i : Nat) : Fd := ⟨0x200110 + i * 0x10000 + 8, 0, 0⟩
/-- FRD_TRAP.CSEQ (05). -/
def Fd.FRD_TRAP_CSEQ (i : Nat) : Fd := ⟨0x200110 + i * 0x10000, 63, 48⟩
/-- FRD_TRAP.PC (05). -/
def Fd.FRD_TRAP_PC (i : Nat) : Fd := ⟨0x200110 + i * 0x10000, 47, 0⟩
/-- THL_SCRUB_CTL.EN (06). -/
def Fd.THL_SCRUB_CTL_EN : Fd := ⟨0x28000, 31, 31⟩
/-- THL_SCRUB_CTL.PERIOD_S (06). -/
def Fd.THL_SCRUB_CTL_PERIOD_S : Fd := ⟨0x28000, 15, 0⟩
/-- THL_SCRUB_STAT.LATE (06). -/
def Fd.THL_SCRUB_STAT_LATE : Fd := ⟨0x28008, 63, 63⟩
/-- THL_SCRUB_STAT.PASSES (06). -/
def Fd.THL_SCRUB_STAT_PASSES : Fd := ⟨0x28008, 31, 0⟩
/-- THL_ERR_STAT.UNCORRECTED (06). -/
def Fd.THL_ERR_STAT_UNCORRECTED : Fd := ⟨0x28010, 63, 32⟩
/-- THL_ERR_STAT.CORRECTED (06). -/
def Fd.THL_ERR_STAT_CORRECTED : Fd := ⟨0x28010, 31, 0⟩
/-- THL_DIST_CTL.IRQ_EN (06). -/
def Fd.THL_DIST_CTL_IRQ_EN : Fd := ⟨0x28018, 31, 31⟩
/-- THL_DIST_CTL.VECTOR (06). -/
def Fd.THL_DIST_CTL_VECTOR : Fd := ⟨0x28018, 10, 0⟩
/-- THL_SPARE_t_q.COLS_RETIRED (06). -/
def Fd.THL_SPARE_COLS_RETIRED (i j : Nat) : Fd := ⟨0x28020 + i * 0x20 + j * 0x8, 57, 52⟩
/-- THL_SPARE_t_q.BUNDLE_SPARE_MIN (06). -/
def Fd.THL_SPARE_BUNDLE_SPARE_MIN (i j : Nat) : Fd := ⟨0x28020 + i * 0x20 + j * 0x8, 51, 48⟩
/-- THL_SPARE_t_q.TSV_SPARE_MIN (06). -/
def Fd.THL_SPARE_TSV_SPARE_MIN (i j : Nat) : Fd := ⟨0x28020 + i * 0x20 + j * 0x8, 47, 46⟩
/-- THL_SPARE_t_q.MACROS_NO_ROW (06). -/
def Fd.THL_SPARE_MACROS_NO_ROW (i j : Nat) : Fd := ⟨0x28020 + i * 0x20 + j * 0x8, 43, 32⟩
/-- THL_SPARE_t_q.MACROS_NO_COL (06). -/
def Fd.THL_SPARE_MACROS_NO_COL (i j : Nat) : Fd := ⟨0x28020 + i * 0x20 + j * 0x8, 31, 20⟩
/-- THL_SPARE_t_q.ROWS_LEFT (06). -/
def Fd.THL_SPARE_ROWS_LEFT (i j : Nat) : Fd := ⟨0x28020 + i * 0x20 + j * 0x8, 15, 0⟩
/-- MSC_PIN_CTL.CAP_MIB (07). -/
def Fd.MSC_PIN_CTL_CAP_MIB : Fd := ⟨0x30000, 28, 16⟩
/-- MSC_PIN_CTL.WAYS_MAX (07). -/
def Fd.MSC_PIN_CTL_WAYS_MAX : Fd := ⟨0x30000, 3, 0⟩
/-- MSC_PIN_STAT.PINNED_LINES (07). -/
def Fd.MSC_PIN_STAT_PINNED_LINES : Fd := ⟨0x30008, 31, 0⟩
/-- MSC_MODE_t_q.SWITCHING (07). -/
def Fd.MSC_MODE_SWITCHING (i j : Nat) : Fd := ⟨0x30010 + i * 0x20 + j * 0x8, 63, 32⟩
/-- MSC_MODE_t_q.CACHE (07). -/
def Fd.MSC_MODE_CACHE (i j : Nat) : Fd := ⟨0x30010 + i * 0x20 + j * 0x8, 31, 0⟩
/-- MSC_PEND_t_q.PENDING (07). -/
def Fd.MSC_PEND_PENDING (i j : Nat) : Fd := ⟨0x30090 + i * 0x20 + j * 0x8, 63, 32⟩
/-- MSC_PEND_t_q.PEND_MODE (07). -/
def Fd.MSC_PEND_PEND_MODE (i j : Nat) : Fd := ⟨0x30090 + i * 0x20 + j * 0x8, 31, 0⟩
/-- MSC_THRASH_CTL.IRQ_EN (07). -/
def Fd.MSC_THRASH_CTL_IRQ_EN : Fd := ⟨0x30110, 31, 31⟩
/-- MSC_THRASH_CTL.THRESH_PCT (07). -/
def Fd.MSC_THRASH_CTL_THRESH_PCT : Fd := ⟨0x30110, 30, 24⟩
/-- MSC_THRASH_CTL.VECTOR (07). -/
def Fd.MSC_THRASH_CTL_VECTOR : Fd := ⟨0x30110, 10, 0⟩
/-- MSC_THRASH_s.EARLY_EVICT (07). -/
def Fd.MSC_THRASH_EARLY_EVICT (i : Nat) : Fd := ⟨0x30118 + i * 0x8, 63, 32⟩
/-- MSC_THRASH_s.MISSES (07). -/
def Fd.MSC_THRASH_MISSES (i : Nat) : Fd := ⟨0x30118 + i * 0x8, 31, 0⟩
/-- MSC_ERR_STAT.REFETCHED (07). -/
def Fd.MSC_ERR_STAT_REFETCHED : Fd := ⟨0x30518, 63, 32⟩
/-- MSC_ERR_STAT.POISONED (07). -/
def Fd.MSC_ERR_STAT_POISONED : Fd := ⟨0x30518, 31, 0⟩
/-- PIL_MAP_CTL.LOCK (08). -/
def Fd.PIL_MAP_CTL_LOCK : Fd := ⟨0x40000, 31, 31⟩
/-- PIL_MAP_CTL.BUSY (08). -/
def Fd.PIL_MAP_CTL_BUSY : Fd := ⟨0x40000, 30, 30⟩
/-- PIL_MAP_CTL.PENDING (08). -/
def Fd.PIL_MAP_CTL_PENDING : Fd := ⟨0x40000, 29, 29⟩
/-- PIL_MAP_CTL.STATUS (08). -/
def Fd.PIL_MAP_CTL_STATUS : Fd := ⟨0x40000, 23, 20⟩
/-- PIL_MAP_CTL.APPLY (08). -/
def Fd.PIL_MAP_CTL_APPLY : Fd := ⟨0x40000, 0, 0⟩
/-- PIL_REGION_n.EN (08). -/
def Fd.PIL_REGION_EN (i : Nat) : Fd := ⟨0x40008 + i * 0x8, 63, 63⟩
/-- PIL_REGION_n.MODE (08). -/
def Fd.PIL_REGION_MODE (i : Nat) : Fd := ⟨0x40008 + i * 0x8, 62, 62⟩
/-- PIL_REGION_n.TOWER (08). -/
def Fd.PIL_REGION_TOWER (i : Nat) : Fd := ⟨0x40008 + i * 0x8, 61, 60⟩
/-- PIL_REGION_n.LOST (08). -/
def Fd.PIL_REGION_LOST (i : Nat) : Fd := ⟨0x40008 + i * 0x8, 59, 59⟩
/-- PIL_REGION_n.SIZE_GIB (08). -/
def Fd.PIL_REGION_SIZE_GIB (i : Nat) : Fd := ⟨0x40008 + i * 0x8, 40, 32⟩
/-- PIL_REGION_n.BASE_GIB (08). -/
def Fd.PIL_REGION_BASE_GIB (i : Nat) : Fd := ⟨0x40008 + i * 0x8, 24, 16⟩
/-- PIL_REGION_n.CHOFF_MIB (08). -/
def Fd.PIL_REGION_CHOFF_MIB (i : Nat) : Fd := ⟨0x40008 + i * 0x8, 11, 0⟩
/-- PIL_STAT_p.CH_FENCED (08). -/
def Fd.PIL_STAT_CH_FENCED (i : Nat) : Fd := ⟨0x40088 + i * 0x8, 63, 48⟩
/-- PIL_STAT_p.BAND (08). -/
def Fd.PIL_STAT_BAND (i : Nat) : Fd := ⟨0x40088 + i * 0x8, 47, 46⟩
/-- PIL_STAT_p.THROTTLED (08). -/
def Fd.PIL_STAT_THROTTLED (i : Nat) : Fd := ⟨0x40088 + i * 0x8, 45, 45⟩
/-- PIL_STAT_p.SHUTDOWN (08). -/
def Fd.PIL_STAT_SHUTDOWN (i : Nat) : Fd := ⟨0x40088 + i * 0x8, 44, 44⟩
/-- PIL_STAT_p.CTRL_UP (08). -/
def Fd.PIL_STAT_CTRL_UP (i : Nat) : Fd := ⟨0x40088 + i * 0x8, 43, 43⟩
/-- PIL_SPARE_p.BANKS_NO_ROW (08). -/
def Fd.PIL_SPARE_BANKS_NO_ROW (i : Nat) : Fd := ⟨0x400C8 + i * 0x8, 57, 48⟩
/-- PIL_SPARE_p.ROWS_RETIRED (08). -/
def Fd.PIL_SPARE_ROWS_RETIRED (i : Nat) : Fd := ⟨0x400C8 + i * 0x8, 40, 24⟩
/-- PIL_SPARE_p.COIL_SPARE_MIN (08). -/
def Fd.PIL_SPARE_COIL_SPARE_MIN (i : Nat) : Fd := ⟨0x400C8 + i * 0x8, 23, 21⟩
/-- PIL_SPARE_p.ROWS_LEFT (08). -/
def Fd.PIL_SPARE_ROWS_LEFT (i : Nat) : Fd := ⟨0x400C8 + i * 0x8, 16, 0⟩
/-- PIL_SCRUB_CTL.EN (08). -/
def Fd.PIL_SCRUB_CTL_EN : Fd := ⟨0x40108, 31, 31⟩
/-- PIL_SCRUB_CTL.PERIOD_H (08). -/
def Fd.PIL_SCRUB_CTL_PERIOD_H : Fd := ⟨0x40108, 7, 0⟩
/-- PIL_ERR_STAT.UNCORRECTED (08). -/
def Fd.PIL_ERR_STAT_UNCORRECTED : Fd := ⟨0x40110, 63, 32⟩
/-- PIL_ERR_STAT.CORRECTED (08). -/
def Fd.PIL_ERR_STAT_CORRECTED : Fd := ⟨0x40110, 31, 0⟩
/-- PNW_SLOT_CTL.LOCK (09). -/
def Fd.PNW_SLOT_CTL_LOCK : Fd := ⟨0x50000, 31, 31⟩
/-- PNW_SLOT_CTL.PENDING (09). -/
def Fd.PNW_SLOT_CTL_PENDING : Fd := ⟨0x50000, 24, 20⟩
/-- PNW_SLOT_CTL.REFUSED (09). -/
def Fd.PNW_SLOT_CTL_REFUSED : Fd := ⟨0x50000, 12, 8⟩
/-- PNW_SLOT_CTL.COMMIT (09). -/
def Fd.PNW_SLOT_CTL_COMMIT : Fd := ⟨0x50000, 4, 0⟩
/-- PNW_SLOT_k_w.SLOTS (09). -/
def Fd.PNW_SLOT_SLOTS (i j : Nat) : Fd := ⟨0x50008 + i * 0x20 + j * 0x8, 63, 0⟩
/-- PNW_URG_CTL.HST_T3 (09). -/
def Fd.PNW_URG_CTL_HST_T3 : Fd := ⟨0x500A8, 55, 48⟩
/-- PNW_URG_CTL.HST_T2 (09). -/
def Fd.PNW_URG_CTL_HST_T2 : Fd := ⟨0x500A8, 47, 40⟩
/-- PNW_URG_CTL.HST_T1 (09). -/
def Fd.PNW_URG_CTL_HST_T1 : Fd := ⟨0x500A8, 39, 32⟩
/-- PNW_URG_CTL.FRX_T3 (09). -/
def Fd.PNW_URG_CTL_FRX_T3 : Fd := ⟨0x500A8, 23, 16⟩
/-- PNW_URG_CTL.FRX_T2 (09). -/
def Fd.PNW_URG_CTL_FRX_T2 : Fd := ⟨0x500A8, 15, 8⟩
/-- PNW_URG_CTL.FRX_T1 (09). -/
def Fd.PNW_URG_CTL_FRX_T1 : Fd := ⟨0x500A8, 7, 0⟩
/-- PNW_REG_STAT_k.PROMOTED (09). -/
def Fd.PNW_REG_STAT_PROMOTED (i : Nat) : Fd := ⟨0x500B0 + i * 0x8, 63, 32⟩
/-- PNW_REG_STAT_k.BG_GRANTS (09). -/
def Fd.PNW_REG_STAT_BG_GRANTS (i : Nat) : Fd := ⟨0x500B0 + i * 0x8, 31, 0⟩
/-- PNW_LINK_STAT_t.FENCED (09). -/
def Fd.PNW_LINK_STAT_FENCED (i : Nat) : Fd := ⟨0x500D8 + i * 0x8, 63, 63⟩
/-- PNW_LINK_STAT_t.LANES (09). -/
def Fd.PNW_LINK_STAT_LANES (i : Nat) : Fd := ⟨0x500D8 + i * 0x8, 55, 50⟩
/-- PNW_LINK_STAT_t.SPARES_LEFT (09). -/
def Fd.PNW_LINK_STAT_SPARES_LEFT (i : Nat) : Fd := ⟨0x500D8 + i * 0x8, 49, 48⟩
/-- PNW_LINK_STAT_t.RETIRED (09). -/
def Fd.PNW_LINK_STAT_RETIRED (i : Nat) : Fd := ⟨0x500D8 + i * 0x8, 47, 38⟩
/-- PNW_LINK_STAT_t.REPLAYS (09). -/
def Fd.PNW_LINK_STAT_REPLAYS (i : Nat) : Fd := ⟨0x500D8 + i * 0x8, 31, 0⟩
/-- RNG_CTL.ENABLE (10). -/
def Fd.RNG_CTL_ENABLE (i : Nat) : Fd := ⟨0x400000 + i * 0x100, 63, 63⟩
/-- RNG_CTL.STATE (10). -/
def Fd.RNG_CTL_STATE (i : Nat) : Fd := ⟨0x400000 + i * 0x100, 62, 61⟩
/-- RNG_CTL.PEND (10). -/
def Fd.RNG_CTL_PEND (i : Nat) : Fd := ⟨0x400000 + i * 0x100, 60, 60⟩
/-- RNG_CTL.ERR (10). -/
def Fd.RNG_CTL_ERR (i : Nat) : Fd := ⟨0x400000 + i * 0x100, 55, 48⟩
/-- RNG_CTL.LOG2N (10). -/
def Fd.RNG_CTL_LOG2N (i : Nat) : Fd := ⟨0x400000 + i * 0x100, 44, 40⟩
/-- RNG_CTL.PRIV (10). -/
def Fd.RNG_CTL_PRIV (i : Nat) : Fd := ⟨0x400000 + i * 0x100, 39, 39⟩
/-- RNG_CTL.CP (10). -/
def Fd.RNG_CTL_CP (i : Nat) : Fd := ⟨0x400000 + i * 0x100, 38, 36⟩
/-- RNG_CTL.TENANT (10). -/
def Fd.RNG_CTL_TENANT (i : Nat) : Fd := ⟨0x400000 + i * 0x100, 31, 22⟩
/-- RNG_CTL.ASID (10). -/
def Fd.RNG_CTL_ASID (i : Nat) : Fd := ⟨0x400000 + i * 0x100, 21, 10⟩
/-- RNG_SQ_BASE.BASE (10). -/
def Fd.RNG_SQ_BASE_BASE (i : Nat) : Fd := ⟨0x400008 + i * 0x100, 63, 12⟩
/-- RNG_CQ_BASE.BASE (10). -/
def Fd.RNG_CQ_BASE_BASE (i : Nat) : Fd := ⟨0x400010 + i * 0x100, 63, 12⟩
/-- RNG_IRQ.IRQ_EN (10). -/
def Fd.RNG_IRQ_IRQ_EN (i : Nat) : Fd := ⟨0x400018 + i * 0x100, 63, 63⟩
/-- RNG_IRQ.VECTOR (10). -/
def Fd.RNG_IRQ_VECTOR (i : Nat) : Fd := ⟨0x400018 + i * 0x100, 58, 48⟩
/-- RNG_IRQ.COUNT (10). -/
def Fd.RNG_IRQ_COUNT (i : Nat) : Fd := ⟨0x400018 + i * 0x100, 47, 32⟩
/-- RNG_IRQ.TIME_US (10). -/
def Fd.RNG_IRQ_TIME_US (i : Nat) : Fd := ⟨0x400018 + i * 0x100, 15, 0⟩
/-- RNG_STAT.SQ_HEAD (10). -/
def Fd.RNG_STAT_SQ_HEAD (i : Nat) : Fd := ⟨0x400020 + i * 0x100, 63, 32⟩
/-- RNG_STAT.SQ_TAIL (10). -/
def Fd.RNG_STAT_SQ_TAIL (i : Nat) : Fd := ⟨0x400020 + i * 0x100, 31, 0⟩
/-- RNG_CSTAT.CQ_TAIL (10). -/
def Fd.RNG_CSTAT_CQ_TAIL (i : Nat) : Fd := ⟨0x400028 + i * 0x100, 63, 32⟩
/-- RNG_CSTAT.CQ_HEAD (10). -/
def Fd.RNG_CSTAT_CQ_HEAD (i : Nat) : Fd := ⟨0x400028 + i * 0x100, 31, 0⟩
/-- RNG_CNT.DONE (10). -/
def Fd.RNG_CNT_DONE (i : Nat) : Fd := ⟨0x400030 + i * 0x100, 63, 32⟩
/-- RNG_CNT.FAILED (10). -/
def Fd.RNG_CNT_FAILED (i : Nat) : Fd := ⟨0x400030 + i * 0x100, 31, 0⟩
/-- HPT_LINK_STAT.UP (10). -/
def Fd.HPT_LINK_STAT_UP : Fd := ⟨0x60000, 63, 63⟩
/-- HPT_LINK_STAT.RATE (10). -/
def Fd.HPT_LINK_STAT_RATE : Fd := ⟨0x60000, 62, 61⟩
/-- HPT_LINK_STAT.WIDTH (10). -/
def Fd.HPT_LINK_STAT_WIDTH : Fd := ⟨0x60000, 60, 56⟩
/-- HPT_LINK_STAT.IDE_IO (10). -/
def Fd.HPT_LINK_STAT_IDE_IO : Fd := ⟨0x60000, 55, 55⟩
/-- HPT_LINK_STAT.IDE_CM (10). -/
def Fd.HPT_LINK_STAT_IDE_CM : Fd := ⟨0x60000, 54, 54⟩
/-- HPT_LINK_STAT.TDISP (10). -/
def Fd.HPT_LINK_STAT_TDISP : Fd := ⟨0x60000, 53, 52⟩
/-- HPT_LINK_STAT.SIDEBAND (10). -/
def Fd.HPT_LINK_STAT_SIDEBAND : Fd := ⟨0x60000, 51, 51⟩
/-- HPT_LINK_STAT.LINK_DOWNS (10). -/
def Fd.HPT_LINK_STAT_LINK_DOWNS : Fd := ⟨0x60000, 31, 0⟩
/-- HPT_CAP_IRQ.IRQ_EN (10). -/
def Fd.HPT_CAP_IRQ_IRQ_EN : Fd := ⟨0x60008, 31, 31⟩
/-- HPT_CAP_IRQ.VECTOR (10). -/
def Fd.HPT_CAP_IRQ_VECTOR : Fd := ⟨0x60008, 10, 0⟩
/-- HPT_HDM_CTL.LOCK (10). -/
def Fd.HPT_HDM_CTL_LOCK : Fd := ⟨0x60010, 63, 63⟩
/-- HPT_HDM_CTL.BASE_GIB (10). -/
def Fd.HPT_HDM_CTL_BASE_GIB : Fd := ⟨0x60010, 40, 32⟩
/-- HPT_ATS_STAT.FAILS (10). -/
def Fd.HPT_ATS_STAT_FAILS : Fd := ⟨0x60018, 63, 32⟩
/-- HPT_ATS_STAT.INVALS (10). -/
def Fd.HPT_ATS_STAT_INVALS : Fd := ⟨0x60018, 31, 0⟩
/-- SES_CTL.IRQ_EN (11). -/
def Fd.SES_CTL_IRQ_EN : Fd := ⟨0x70000, 31, 31⟩
/-- SES_CTL.VECTOR (11). -/
def Fd.SES_CTL_VECTOR : Fd := ⟨0x70000, 10, 0⟩
/-- SES_STAT.ENGINE_UP (11). -/
def Fd.SES_STAT_ENGINE_UP : Fd := ⟨0x70008, 63, 63⟩
/-- SES_STAT.STEPS (11). -/
def Fd.SES_STAT_STEPS : Fd := ⟨0x70008, 55, 51⟩
/-- SES_STAT.PARKED (11). -/
def Fd.SES_STAT_PARKED : Fd := ⟨0x70008, 50, 34⟩
/-- SES_STAT.RESIDENT (11). -/
def Fd.SES_STAT_RESIDENT : Fd := ⟨0x70008, 33, 17⟩
/-- SES_STAT.FREE (11). -/
def Fd.SES_STAT_FREE : Fd := ⟨0x70008, 16, 0⟩
/-- SES_POOL_p.VALID (11). -/
def Fd.SES_POOL_VALID (i : Nat) : Fd := ⟨0x70010 + i * 0x8, 63, 63⟩
/-- SES_POOL_p.TENANT (11). -/
def Fd.SES_POOL_TENANT (i : Nat) : Fd := ⟨0x70010 + i * 0x8, 62, 53⟩
/-- SES_POOL_p.ASID (11). -/
def Fd.SES_POOL_ASID (i : Nat) : Fd := ⟨0x70010 + i * 0x8, 52, 41⟩
/-- SES_POOL_p.FREE (11). -/
def Fd.SES_POOL_FREE (i : Nat) : Fd := ⟨0x70010 + i * 0x8, 23, 0⟩
/-- SOR_CTL.WAIT_TO_MS (12). -/
def Fd.SOR_CTL_WAIT_TO_MS : Fd := ⟨0x80000, 15, 0⟩
/-- SOR_STAT.ALLOCATED (12). -/
def Fd.SOR_STAT_ALLOCATED : Fd := ⟨0x80008, 45, 32⟩
/-- SOR_STAT.DESC_WAITS (12). -/
def Fd.SOR_STAT_DESC_WAITS : Fd := ⟨0x80008, 28, 16⟩
/-- SOR_STAT.LOST (12). -/
def Fd.SOR_STAT_LOST : Fd := ⟨0x80008, 13, 0⟩
/-- SOR_ERR_STAT.REMOTE_REFUSED (12). -/
def Fd.SOR_ERR_STAT_REMOTE_REFUSED : Fd := ⟨0x80010, 63, 32⟩
/-- SOR_ERR_STAT.SATURATED (12). -/
def Fd.SOR_ERR_STAT_SATURATED : Fd := ⟨0x80010, 31, 0⟩
/-- FAB_ID.LOCK (13). -/
def Fd.FAB_ID_LOCK : Fd := ⟨0x90000, 63, 63⟩
/-- FAB_ID.VALID (13). -/
def Fd.FAB_ID_VALID : Fd := ⟨0x90000, 62, 62⟩
/-- FAB_ID.DEVID (13). -/
def Fd.FAB_ID_DEVID : Fd := ⟨0x90000, 13, 0⟩
/-- FAB_CTL.RED_TO_MS (13). -/
def Fd.FAB_CTL_RED_TO_MS : Fd := ⟨0x90008, 47, 32⟩
/-- FAB_CTL.E2E_TO_US (13). -/
def Fd.FAB_CTL_E2E_TO_US : Fd := ⟨0x90008, 31, 0⟩
/-- FAB_STAT.FRU (13). -/
def Fd.FAB_STAT_FRU : Fd := ⟨0x90010, 63, 63⟩
/-- FAB_STAT.WINDOWS (13). -/
def Fd.FAB_STAT_WINDOWS : Fd := ⟨0x90010, 44, 34⟩
/-- FAB_STAT.OUTSTANDING (13). -/
def Fd.FAB_STAT_OUTSTANDING : Fd := ⟨0x90010, 33, 17⟩
/-- FAB_STAT.REDUCING (13). -/
def Fd.FAB_STAT_REDUCING : Fd := ⟨0x90010, 8, 0⟩
/-- FAB_PORT_CFG_p.EN (13). -/
def Fd.FAB_PORT_CFG_EN (i : Nat) : Fd := ⟨0x90018 + i * 0x8, 63, 63⟩
/-- FAB_PORT_CFG_p.SPLIT (13). -/
def Fd.FAB_PORT_CFG_SPLIT (i : Nat) : Fd := ⟨0x90018 + i * 0x8, 62, 62⟩
/-- FAB_PORT_CFG_p.EXPECT (13). -/
def Fd.FAB_PORT_CFG_EXPECT (i : Nat) : Fd := ⟨0x90018 + i * 0x8, 61, 61⟩
/-- FAB_PORT_CFG_p.EXP_PORT1 (13). -/
def Fd.FAB_PORT_CFG_EXP_PORT1 (i : Nat) : Fd := ⟨0x90018 + i * 0x8, 37, 33⟩
/-- FAB_PORT_CFG_p.EXP_DEV1 (13). -/
def Fd.FAB_PORT_CFG_EXP_DEV1 (i : Nat) : Fd := ⟨0x90018 + i * 0x8, 32, 19⟩
/-- FAB_PORT_CFG_p.EXP_PORT0 (13). -/
def Fd.FAB_PORT_CFG_EXP_PORT0 (i : Nat) : Fd := ⟨0x90018 + i * 0x8, 18, 14⟩
/-- FAB_PORT_CFG_p.EXP_DEV0 (13). -/
def Fd.FAB_PORT_CFG_EXP_DEV0 (i : Nat) : Fd := ⟨0x90018 + i * 0x8, 13, 0⟩
/-- FAB_PORT_STAT_p.STATE (13). -/
def Fd.FAB_PORT_STAT_STATE (i : Nat) : Fd := ⟨0x90098 + i * 0x8, 31, 29⟩
/-- FAB_PORT_STAT_p.CROSSED (13). -/
def Fd.FAB_PORT_STAT_CROSSED (i : Nat) : Fd := ⟨0x90098 + i * 0x8, 28, 28⟩
/-- FAB_PORT_STAT_p.PEND (13). -/
def Fd.FAB_PORT_STAT_PEND (i : Nat) : Fd := ⟨0x90098 + i * 0x8, 27, 27⟩
/-- FAB_PORT_STAT_p.PEER_PORT (13). -/
def Fd.FAB_PORT_STAT_PEER_PORT (i : Nat) : Fd := ⟨0x90098 + i * 0x8, 26, 22⟩
/-- FAB_PORT_STAT_p.PEER_DEV (13). -/
def Fd.FAB_PORT_STAT_PEER_DEV (i : Nat) : Fd := ⟨0x90098 + i * 0x8, 21, 8⟩
/-- FAB_PORT_CNT_p.DISCARDS (13). -/
def Fd.FAB_PORT_CNT_DISCARDS (i : Nat) : Fd := ⟨0x90120 + i * 0x10 + 8, 63, 32⟩
/-- FAB_PORT_CNT_p.RETRAINS (13). -/
def Fd.FAB_PORT_CNT_RETRAINS (i : Nat) : Fd := ⟨0x90120 + i * 0x10 + 8, 31, 0⟩
/-- FAB_PORT_CNT_p.FEC_CORR (13). -/
def Fd.FAB_PORT_CNT_FEC_CORR (i : Nat) : Fd := ⟨0x90120 + i * 0x10, 63, 32⟩
/-- FAB_PORT_CNT_p.REPLAYS (13). -/
def Fd.FAB_PORT_CNT_REPLAYS (i : Nat) : Fd := ⟨0x90120 + i * 0x10, 31, 0⟩
/-- SEC_STAT.ENGINE_UP (14). -/
def Fd.SEC_STAT_ENGINE_UP : Fd := ⟨0xA0000, 63, 63⟩
/-- SEC_STAT.RNG_OK (14). -/
def Fd.SEC_STAT_RNG_OK : Fd := ⟨0xA0000, 62, 62⟩
/-- SEC_STAT.OWNED (14). -/
def Fd.SEC_STAT_OWNED : Fd := ⟨0xA0000, 61, 61⟩
/-- SEC_STAT.REVOKED (14). -/
def Fd.SEC_STAT_REVOKED : Fd := ⟨0xA0000, 60, 57⟩
/-- SEC_STAT.POLICY (14). -/
def Fd.SEC_STAT_POLICY : Fd := ⟨0xA0000, 51, 48⟩
/-- SEC_STAT.TENANT_KEYS (14). -/
def Fd.SEC_STAT_TENANT_KEYS : Fd := ⟨0xA0000, 16, 0⟩
/-- SEC_LMS.NEXT_Q (14). -/
def Fd.SEC_LMS_NEXT_Q : Fd := ⟨0xA0008, 39, 0⟩
/-- SEC_TDI.BIND_VALID (14). -/
def Fd.SEC_TDI_BIND_VALID : Fd := ⟨0xA0010, 31, 31⟩
/-- SEC_TDI.STATE (14). -/
def Fd.SEC_TDI_STATE : Fd := ⟨0xA0010, 11, 10⟩
/-- SEC_TDI.TENANT (14). -/
def Fd.SEC_TDI_TENANT : Fd := ⟨0xA0010, 9, 0⟩
/-- SEC_ERR_STAT.RNG_FAILS (14). -/
def Fd.SEC_ERR_STAT_RNG_FAILS : Fd := ⟨0xA0018, 63, 32⟩
/-- SEC_ERR_STAT.REFUSED (14). -/
def Fd.SEC_ERR_STAT_REFUSED : Fd := ⟨0xA0018, 31, 0⟩
/-- PWR_CTL.LOCK (15). -/
def Fd.PWR_CTL_LOCK : Fd := ⟨0xB0000, 63, 63⟩
/-- PWR_CTL.RETURN (15). -/
def Fd.PWR_CTL_RETURN : Fd := ⟨0xB0000, 62, 62⟩
/-- PWR_CTL.TOWER_CAP_W (15). -/
def Fd.PWR_CTL_TOWER_CAP_W : Fd := ⟨0xB0000, 40, 32⟩
/-- PWR_CTL.PKG_CAP_W (15). -/
def Fd.PWR_CTL_PKG_CAP_W : Fd := ⟨0xB0000, 11, 0⟩
/-- PWR_IN_STAT_i.STATE (15). -/
def Fd.PWR_IN_STAT_STATE (i : Nat) : Fd := ⟨0xB0008 + i * 0x8, 63, 61⟩
/-- PWR_IN_STAT_i.PHYS (15). -/
def Fd.PWR_IN_STAT_PHYS (i : Nat) : Fd := ⟨0xB0008 + i * 0x8, 60, 60⟩
/-- PWR_IN_STAT_i.SUP_OK (15). -/
def Fd.PWR_IN_STAT_SUP_OK (i : Nat) : Fd := ⟨0xB0008 + i * 0x8, 59, 56⟩
/-- PWR_IN_STAT_i.RET_OK (15). -/
def Fd.PWR_IN_STAT_RET_OK (i : Nat) : Fd := ⟨0xB0008 + i * 0x8, 55, 52⟩
/-- PWR_IN_STAT_i.CURRENT (15). -/
def Fd.PWR_IN_STAT_CURRENT (i : Nat) : Fd := ⟨0xB0008 + i * 0x8, 47, 32⟩
/-- PWR_IN_STAT_i.VOLTAGE (15). -/
def Fd.PWR_IN_STAT_VOLTAGE (i : Nat) : Fd := ⟨0xB0008 + i * 0x8, 31, 16⟩
/-- PWR_IN_STAT_i.RET_FLAG (15). -/
def Fd.PWR_IN_STAT_RET_FLAG (i : Nat) : Fd := ⟨0xB0008 + i * 0x8, 15, 8⟩
/-- PWR_IN_STAT_i.SUP_FLAG (15). -/
def Fd.PWR_IN_STAT_SUP_FLAG (i : Nat) : Fd := ⟨0xB0008 + i * 0x8, 7, 0⟩
/-- PWR_ENERGY_MAIN.MJ (15). -/
def Fd.PWR_ENERGY_MAIN_MJ : Fd := ⟨0xB0018, 63, 0⟩
/-- PWR_ENERGY_BACKUP.MJ (15). -/
def Fd.PWR_ENERGY_BACKUP_MJ : Fd := ⟨0xB0020, 63, 0⟩
/-- PWR_CAP_STAT.LIMITER (15). -/
def Fd.PWR_CAP_STAT_LIMITER : Fd := ⟨0xB0028, 63, 60⟩
/-- PWR_CAP_STAT.CELLS_OK (15). -/
def Fd.PWR_CAP_STAT_CELLS_OK : Fd := ⟨0xB0028, 59, 56⟩
/-- PWR_CAP_STAT.EFFECTIVE_W (15). -/
def Fd.PWR_CAP_STAT_EFFECTIVE_W : Fd := ⟨0xB0028, 55, 44⟩
/-- PWR_CAP_STAT.INPUT_W (15). -/
def Fd.PWR_CAP_STAT_INPUT_W : Fd := ⟨0xB0028, 43, 32⟩
/-- PWR_CAP_STAT.SLOW (15). -/
def Fd.PWR_CAP_STAT_SLOW : Fd := ⟨0xB0028, 31, 0⟩
/-- PWR_TWR_t.TOWER_W (15). -/
def Fd.PWR_TWR_TOWER_W (i : Nat) : Fd := ⟨0xB0030 + i * 0x8, 63, 52⟩
/-- PWR_TWR_t.FAST_LIMITS (15). -/
def Fd.PWR_TWR_FAST_LIMITS (i : Nat) : Fd := ⟨0xB0030 + i * 0x8, 47, 32⟩
/-- PWR_TWR_t.CLK (15). -/
def Fd.PWR_TWR_CLK (i : Nat) : Fd := ⟨0xB0030 + i * 0x8, 31, 0⟩
/-- PWR_PHASE_t.SHED (15). -/
def Fd.PWR_PHASE_SHED (i : Nat) : Fd := ⟨0xB0050 + i * 0x8, 63, 56⟩
/-- PWR_PHASE_t.DARK (15). -/
def Fd.PWR_PHASE_DARK (i : Nat) : Fd := ⟨0xB0050 + i * 0x8, 47, 24⟩
/-- PWR_PHASE_t.REDUCED (15). -/
def Fd.PWR_PHASE_REDUCED (i : Nat) : Fd := ⟨0xB0050 + i * 0x8, 23, 0⟩
/-- PWR_ZONE_STAT.ZONE (15). -/
def Fd.PWR_ZONE_STAT_ZONE : Fd := ⟨0xB0070, 47, 0⟩
/-- THM_CTL.IRQ_EN (16). -/
def Fd.THM_CTL_IRQ_EN : Fd := ⟨0xC0000, 31, 31⟩
/-- THM_CTL.VECTOR (16). -/
def Fd.THM_CTL_VECTOR : Fd := ⟨0xC0000, 10, 0⟩
/-- THM_ZONE_z.HOT (16). -/
def Fd.THM_ZONE_HOT (i : Nat) : Fd := ⟨0xC0008 + i * 0x8, 63, 52⟩
/-- THM_ZONE_z.HOT_NODE (16). -/
def Fd.THM_ZONE_HOT_NODE (i : Nat) : Fd := ⟨0xC0008 + i * 0x8, 51, 48⟩
/-- THM_ZONE_z.WARN (16). -/
def Fd.THM_ZONE_WARN (i : Nat) : Fd := ⟨0xC0008 + i * 0x8, 47, 47⟩
/-- THM_ZONE_z.THROTTLE (16). -/
def Fd.THM_ZONE_THROTTLE (i : Nat) : Fd := ⟨0xC0008 + i * 0x8, 46, 46⟩
/-- THM_ZONE_z.SHUTDOWN (16). -/
def Fd.THM_ZONE_SHUTDOWN (i : Nat) : Fd := ⟨0xC0008 + i * 0x8, 45, 45⟩
/-- THM_ZONE_z.CALFAULT (16). -/
def Fd.THM_ZONE_CALFAULT (i : Nat) : Fd := ⟨0xC0008 + i * 0x8, 44, 44⟩
/-- THM_ZONE_z.LEVEL (16). -/
def Fd.THM_ZONE_LEVEL (i : Nat) : Fd := ⟨0xC0008 + i * 0x8, 43, 41⟩
/-- THM_ZONE_z.TCLK (16). -/
def Fd.THM_ZONE_TCLK (i : Nat) : Fd := ⟨0xC0008 + i * 0x8, 31, 0⟩
/-- THM_FLAG_z.FLAGGED (16). -/
def Fd.THM_FLAG_FLAGGED (i : Nat) : Fd := ⟨0xC0068 + i * 0x8, 31, 0⟩
/-- THM_COOL.REVERSED (16). -/
def Fd.THM_COOL_REVERSED : Fd := ⟨0xC00C8, 63, 63⟩
/-- THM_COOL.FLOW_OK (16). -/
def Fd.THM_COOL_FLOW_OK : Fd := ⟨0xC00C8, 62, 62⟩
/-- THM_COOL.BAND (16). -/
def Fd.THM_COOL_BAND : Fd := ⟨0xC00C8, 61, 59⟩
/-- THM_COOL.FLOW (16). -/
def Fd.THM_COOL_FLOW : Fd := ⟨0xC00C8, 47, 32⟩
/-- THM_COOL.OUTLET (16). -/
def Fd.THM_COOL_OUTLET : Fd := ⟨0xC00C8, 31, 16⟩
/-- THM_COOL.INLET (16). -/
def Fd.THM_COOL_INLET : Fd := ⟨0xC00C8, 15, 0⟩
/-- BOOT_STAT.STAGE (17). -/
def Fd.BOOT_STAT_STAGE : Fd := ⟨0xD0000, 63, 61⟩
/-- BOOT_STAT.AT_NOON (17). -/
def Fd.BOOT_STAT_AT_NOON : Fd := ⟨0xD0000, 60, 60⟩
/-- BOOT_STAT.TWILIGHT (17). -/
def Fd.BOOT_STAT_TWILIGHT : Fd := ⟨0xD0000, 59, 59⟩
/-- BOOT_STAT.LOADER (17). -/
def Fd.BOOT_STAT_LOADER : Fd := ⟨0xD0000, 58, 58⟩
/-- BOOT_STAT.FLOW_WAIT (17). -/
def Fd.BOOT_STAT_FLOW_WAIT : Fd := ⟨0xD0000, 57, 57⟩
/-- BOOT_STAT.FAIL_STAGE (17). -/
def Fd.BOOT_STAT_FAIL_STAGE : Fd := ⟨0xD0000, 55, 53⟩
/-- BOOT_STAT.FAILED_STARTS (17). -/
def Fd.BOOT_STAT_FAILED_STARTS : Fd := ⟨0xD0000, 52, 49⟩
/-- BOOT_STAT.FAIL_REASON (17). -/
def Fd.BOOT_STAT_FAIL_REASON : Fd := ⟨0xD0000, 47, 32⟩
/-- BOOT_STAT.NOON_S (17). -/
def Fd.BOOT_STAT_NOON_S : Fd := ⟨0xD0000, 31, 0⟩
/-- BOOT_CTL.RETRY (17). -/
def Fd.BOOT_CTL_RETRY : Fd := ⟨0xD0008, 31, 31⟩
/-- BOOT_CTL.AUTO_FROND (17). -/
def Fd.BOOT_CTL_AUTO_FROND : Fd := ⟨0xD0008, 30, 30⟩
/-- BOOT_RST_STAT.TOWER_RESTARTING (17). -/
def Fd.BOOT_RST_STAT_TOWER_RESTARTING : Fd := ⟨0xD0010, 63, 60⟩
/-- BOOT_RST_STAT.TOWER_PEND (17). -/
def Fd.BOOT_RST_STAT_TOWER_PEND : Fd := ⟨0xD0010, 59, 56⟩
/-- BOOT_RST_STAT.FROND_PEND (17). -/
def Fd.BOOT_RST_STAT_FROND_PEND : Fd := ⟨0xD0010, 47, 32⟩
/-- BOOT_RST_STAT.FROND_RESTARTING (17). -/
def Fd.BOOT_RST_STAT_FROND_RESTARTING : Fd := ⟨0xD0010, 31, 16⟩
/-- BOOT_RST_STAT.RESTARTS (17). -/
def Fd.BOOT_RST_STAT_RESTARTS : Fd := ⟨0xD0010, 15, 0⟩
/-- TWR_STAT.STATE (17). -/
def Fd.TWR_STAT_STATE (i : Nat) : Fd := ⟨0x300000 + i * 0x10000, 63, 61⟩
/-- TWR_STAT.STEWARD_UP (17). -/
def Fd.TWR_STAT_STEWARD_UP (i : Nat) : Fd := ⟨0x300000 + i * 0x10000, 60, 60⟩
/-- TWR_STAT.CHAIN_OK (17). -/
def Fd.TWR_STAT_CHAIN_OK (i : Nat) : Fd := ⟨0x300000 + i * 0x10000, 59, 59⟩
/-- TWR_STAT.FENCE_REASON (17). -/
def Fd.TWR_STAT_FENCE_REASON (i : Nat) : Fd := ⟨0x300000 + i * 0x10000, 47, 32⟩
/-- TWR_STAT.RESTARTS (17). -/
def Fd.TWR_STAT_RESTARTS (i : Nat) : Fd := ⟨0x300000 + i * 0x10000, 31, 16⟩
/-- TWR_SEQ_UP.DMA_SEQ_UP (17). -/
def Fd.TWR_SEQ_UP_DMA_SEQ_UP (i : Nat) : Fd := ⟨0x300008 + i * 0x10000, 35, 32⟩
/-- TWR_SEQ_UP.FEED_SEQ_UP (17). -/
def Fd.TWR_SEQ_UP_FEED_SEQ_UP (i : Nat) : Fd := ⟨0x300008 + i * 0x10000, 31, 0⟩
/-- LDG_STAT.MOUNTED (18). -/
def Fd.LDG_STAT_MOUNTED : Fd := ⟨0xE0000, 63, 63⟩
/-- LDG_STAT.SINGLE (18). -/
def Fd.LDG_STAT_SINGLE : Fd := ⟨0xE0000, 62, 62⟩
/-- LDG_STAT.READ_ONLY (18). -/
def Fd.LDG_STAT_READ_ONLY : Fd := ⟨0xE0000, 61, 61⟩
/-- LDG_STAT.LOW (18). -/
def Fd.LDG_STAT_LOW : Fd := ⟨0xE0000, 60, 60⟩
/-- LDG_STAT.HALF_A_OK (18). -/
def Fd.LDG_STAT_HALF_A_OK : Fd := ⟨0xE0000, 59, 59⟩
/-- LDG_STAT.HALF_B_OK (18). -/
def Fd.LDG_STAT_HALF_B_OK : Fd := ⟨0xE0000, 58, 58⟩
/-- LDG_STAT.QUEUE (18). -/
def Fd.LDG_STAT_QUEUE : Fd := ⟨0xE0000, 38, 32⟩
/-- LDG_STAT.REFUSED (18). -/
def Fd.LDG_STAT_REFUSED : Fd := ⟨0xE0000, 31, 0⟩
/-- LDG_SEQ.SEQ (18). -/
def Fd.LDG_SEQ_SEQ : Fd := ⟨0xE0008, 63, 0⟩
/-- LDG_SPACE.FREE_A (18). -/
def Fd.LDG_SPACE_FREE_A : Fd := ⟨0xE0010, 63, 48⟩
/-- LDG_SPACE.FREE_B (18). -/
def Fd.LDG_SPACE_FREE_B : Fd := ⟨0xE0010, 47, 32⟩
/-- LDG_SPACE.POOL_PAGES (18). -/
def Fd.LDG_SPACE_POOL_PAGES : Fd := ⟨0xE0010, 31, 16⟩
/-- LDG_WEAR.WEAR_B (18). -/
def Fd.LDG_WEAR_WEAR_B : Fd := ⟨0xE0018, 41, 32⟩
/-- LDG_WEAR.WEAR_A (18). -/
def Fd.LDG_WEAR_WEAR_A : Fd := ⟨0xE0018, 9, 0⟩
/-- LDG_RESERVE.ZERO (18). -/
def Fd.LDG_RESERVE_ZERO : Fd := ⟨0xE0020, 10, 0⟩
/-- LDG_LASER_e.SPARES_LEFT (18). -/
def Fd.LDG_LASER_SPARES_LEFT (i : Nat) : Fd := ⟨0xE0028 + i * 0x8, 63, 61⟩
/-- LDG_LASER_e.RETIRED (18). -/
def Fd.LDG_LASER_RETIRED (i : Nat) : Fd := ⟨0xE0028 + i * 0x8, 60, 56⟩
/-- LDG_LASER_e.BIAS_MAX_PCT (18). -/
def Fd.LDG_LASER_BIAS_MAX_PCT (i : Nat) : Fd := ⟨0xE0028 + i * 0x8, 47, 32⟩
/-- FLT_CTL.COAL_MS (19). -/
def Fd.FLT_CTL_COAL_MS : Fd := ⟨0xF0000, 23, 16⟩
/-- FLT_STAT.SEQ_NEXT (19). -/
def Fd.FLT_STAT_SEQ_NEXT : Fd := ⟨0xF0008, 63, 32⟩
/-- FLT_STAT.RING_SKIPPED (19). -/
def Fd.FLT_STAT_RING_SKIPPED : Fd := ⟨0xF0008, 31, 16⟩
/-- FLT_STAT.RETAIN_SKIPPED (19). -/
def Fd.FLT_STAT_RETAIN_SKIPPED : Fd := ⟨0xF0008, 15, 0⟩
/-- FLT_RING_BASE.BASE (19). -/
def Fd.FLT_RING_BASE_BASE : Fd := ⟨0xF0010, 63, 12⟩
/-- FLT_RING_CTL.EN (19). -/
def Fd.FLT_RING_CTL_EN : Fd := ⟨0xF0018, 63, 63⟩
/-- FLT_RING_CTL.LOG2N (19). -/
def Fd.FLT_RING_CTL_LOG2N : Fd := ⟨0xF0018, 62, 58⟩
/-- FLT_RING_CTL.MIN_SEV (19). -/
def Fd.FLT_RING_CTL_MIN_SEV : Fd := ⟨0xF0018, 57, 55⟩
/-- FLT_RING_CTL.IRQ_EN (19). -/
def Fd.FLT_RING_CTL_IRQ_EN : Fd := ⟨0xF0018, 54, 54⟩
/-- FLT_RING_CTL.VECTOR (19). -/
def Fd.FLT_RING_CTL_VECTOR : Fd := ⟨0xF0018, 42, 32⟩
/-- FLT_RING_PTR.HEAD (19). -/
def Fd.FLT_RING_PTR_HEAD : Fd := ⟨0xF0020, 63, 32⟩
/-- FLT_RING_PTR.DELIVERED (19). -/
def Fd.FLT_RING_PTR_DELIVERED : Fd := ⟨0xF0020, 31, 0⟩
/-- FLT_WIN_BASE.BASE (19). -/
def Fd.FLT_WIN_BASE_BASE : Fd := ⟨0xF0028, 31, 0⟩
/-- FLT_RET_SEL.BLOCK (19). -/
def Fd.FLT_RET_SEL_BLOCK : Fd := ⟨0xF0030, 5, 0⟩
/-- FLT_INJ_CTL.LOCK (19). -/
def Fd.FLT_INJ_CTL_LOCK : Fd := ⟨0xF0040, 63, 63⟩
/-- FLT_INJ_CTL.ARM (19). -/
def Fd.FLT_INJ_CTL_ARM : Fd := ⟨0xF0040, 62, 62⟩
/-- FLT_INJ_CTL.DONE (19). -/
def Fd.FLT_INJ_CTL_DONE : Fd := ⟨0xF0040, 61, 61⟩
/-- FLT_INJ_CTL.REFUSED (19). -/
def Fd.FLT_INJ_CTL_REFUSED : Fd := ⟨0xF0040, 60, 60⟩
/-- FLT_INJ_CTL.MODE (19). -/
def Fd.FLT_INJ_CTL_MODE : Fd := ⟨0xF0040, 59, 58⟩
/-- FLT_INJ_CTL.KIND (19). -/
def Fd.FLT_INJ_CTL_KIND : Fd := ⟨0xF0040, 55, 52⟩
/-- FLT_INJ_CTL.SYM_B (19). -/
def Fd.FLT_INJ_CTL_SYM_B : Fd := ⟨0xF0040, 44, 39⟩
/-- FLT_INJ_CTL.SYM_A (19). -/
def Fd.FLT_INJ_CTL_SYM_A : Fd := ⟨0xF0040, 38, 33⟩
/-- FLT_INJ_LOC.LOCATION (19). -/
def Fd.FLT_INJ_LOC_LOCATION : Fd := ⟨0xF0048, 63, 0⟩
/-- FLT_INJ_MASK.MASK (19). -/
def Fd.FLT_INJ_MASK_MASK : Fd := ⟨0xF0050, 63, 0⟩
/-- FLT_PACE_CTL.LOCK (19). -/
def Fd.FLT_PACE_CTL_LOCK : Fd := ⟨0xF0080, 63, 63⟩
/-- FLT_PACE_CTL.EVICT (19). -/
def Fd.FLT_PACE_CTL_EVICT : Fd := ⟨0xF0080, 62, 62⟩
/-- FLT_PACE_CTL.THRESH_PCT (19). -/
def Fd.FLT_PACE_CTL_THRESH_PCT : Fd := ⟨0xF0080, 55, 48⟩
/-- FLT_PACE_CTL.HOLD_MS (19). -/
def Fd.FLT_PACE_CTL_HOLD_MS : Fd := ⟨0xF0080, 47, 32⟩
/-- FLT_PACE_CTL.SCHED_MASK (19). -/
def Fd.FLT_PACE_CTL_SCHED_MASK : Fd := ⟨0xF0080, 15, 0⟩
/-- FLT_PACE_SUM.ROUND (19). -/
def Fd.FLT_PACE_SUM_ROUND : Fd := ⟨0xF0088, 63, 32⟩
/-- FLT_PACE_SUM.SAMPLES (19). -/
def Fd.FLT_PACE_SUM_SAMPLES : Fd := ⟨0xF0088, 20, 16⟩
/-- FLT_PACE_SUM.MEDIAN (19). -/
def Fd.FLT_PACE_SUM_MEDIAN : Fd := ⟨0xF0088, 10, 0⟩
/-- FLT_PACE_f.ROUND_LO (19). -/
def Fd.FLT_PACE_ROUND_LO (i : Nat) : Fd := ⟨0xF0100 + i * 0x8, 63, 48⟩
/-- FLT_PACE_f.FLAGGED (19). -/
def Fd.FLT_PACE_FLAGGED (i : Nat) : Fd := ⟨0xF0100 + i * 0x8, 47, 47⟩
/-- FLT_PACE_f.EVICTED (19). -/
def Fd.FLT_PACE_EVICTED (i : Nat) : Fd := ⟨0xF0100 + i * 0x8, 46, 46⟩
/-- FLT_PACE_f.IDLE (19). -/
def Fd.FLT_PACE_IDLE (i : Nat) : Fd := ⟨0xF0100 + i * 0x8, 45, 45⟩
/-- FLT_PACE_f.DENIED (19). -/
def Fd.FLT_PACE_DENIED (i : Nat) : Fd := ⟨0xF0100 + i * 0x8, 44, 44⟩
/-- FLT_PACE_f.LIMIT (19). -/
def Fd.FLT_PACE_LIMIT (i : Nat) : Fd := ⟨0xF0100 + i * 0x8, 43, 42⟩
/-- FLT_PACE_f.RUN_MS (19). -/
def Fd.FLT_PACE_RUN_MS (i : Nat) : Fd := ⟨0xF0100 + i * 0x8, 31, 16⟩
/-- FLT_PACE_f.PACE (19). -/
def Fd.FLT_PACE_PACE (i : Nat) : Fd := ⟨0xF0100 + i * 0x8, 10, 0⟩
/-- FWU_CTL.START (20). -/
def Fd.FWU_CTL_START : Fd := ⟨0x100000, 31, 31⟩
/-- FWU_CTL.ABANDON (20). -/
def Fd.FWU_CTL_ABANDON : Fd := ⟨0x100000, 30, 30⟩
/-- FWU_STAT.STATE (20). -/
def Fd.FWU_STAT_STATE : Fd := ⟨0x100008, 63, 61⟩
/-- FWU_STAT.CLASS (20). -/
def Fd.FWU_STAT_CLASS : Fd := ⟨0x100008, 60, 57⟩
/-- FWU_STAT.ENDPOINT (20). -/
def Fd.FWU_STAT_ENDPOINT : Fd := ⟨0x100008, 56, 49⟩
/-- FWU_STAT.REFUSE (20). -/
def Fd.FWU_STAT_REFUSE : Fd := ⟨0x100008, 48, 45⟩
/-- FWU_STAT.IFID (20). -/
def Fd.FWU_STAT_IFID : Fd := ⟨0x100008, 39, 24⟩
/-- FWU_STAT.ACTIVE_BANK (20). -/
def Fd.FWU_STAT_ACTIVE_BANK : Fd := ⟨0x100008, 15, 0⟩
/-- FWU_PKG_BASE.BASE (20). -/
def Fd.FWU_PKG_BASE_BASE : Fd := ⟨0x100010, 63, 12⟩
/-- FWU_PKG_LEN.LEN (20). -/
def Fd.FWU_PKG_LEN_LEN : Fd := ⟨0x100018, 31, 0⟩
/-- FWU_SPORE.EN (20). -/
def Fd.FWU_SPORE_EN : Fd := ⟨0x100020, 63, 63⟩
/-- FWU_SPORE.AUTO (20). -/
def Fd.FWU_SPORE_AUTO : Fd := ⟨0x100020, 62, 62⟩
/-- FWU_SPORE.RECEIVED (20). -/
def Fd.FWU_SPORE_RECEIVED : Fd := ⟨0x100020, 31, 0⟩
/-- HUB_CONN_STAT.LATCH_OPEN (21). -/
def Fd.HUB_CONN_STAT_LATCH_OPEN : Fd := ⟨0x10000, 63, 63⟩
/-- HUB_CONN_STAT.REMOVE (21). -/
def Fd.HUB_CONN_STAT_REMOVE : Fd := ⟨0x10000, 62, 62⟩
/-- HUB_CONN_STAT.READY (21). -/
def Fd.HUB_CONN_STAT_READY : Fd := ⟨0x10000, 61, 61⟩
/-- HUB_CONN_STAT.RM_PHASE (21). -/
def Fd.HUB_CONN_STAT_RM_PHASE : Fd := ⟨0x10000, 60, 58⟩
/-- HUB_CONN_STAT.PRES1 (21). -/
def Fd.HUB_CONN_STAT_PRES1 : Fd := ⟨0x10000, 57, 56⟩
/-- HUB_CONN_STAT.PRES0 (21). -/
def Fd.HUB_CONN_STAT_PRES0 : Fd := ⟨0x10000, 55, 54⟩
/-- HUB_CONN_STAT.HOST_CROSSED (21). -/
def Fd.HUB_CONN_STAT_HOST_CROSSED : Fd := ⟨0x10000, 53, 53⟩
/-- HUB_CONN_STAT.NIGHT_CROSSED (21). -/
def Fd.HUB_CONN_STAT_NIGHT_CROSSED : Fd := ⟨0x10000, 52, 52⟩
/-- HUB_CONN_STAT.NIGHT_UP (21). -/
def Fd.HUB_CONN_STAT_NIGHT_UP : Fd := ⟨0x10000, 51, 51⟩
/-- HUB_CONN_STAT.NIGHT_BAD (21). -/
def Fd.HUB_CONN_STAT_NIGHT_BAD : Fd := ⟨0x10000, 47, 32⟩
/-- HUB_CONN_STAT.SESS_PARKED (21). -/
def Fd.HUB_CONN_STAT_SESS_PARKED : Fd := ⟨0x10000, 31, 16⟩
/-- HUB_CONN_STAT.SESS_CLOSED (21). -/
def Fd.HUB_CONN_STAT_SESS_CLOSED : Fd := ⟨0x10000, 15, 0⟩
/-- HUB_RM_CTL.PARK_EN (21). -/
def Fd.HUB_RM_CTL_PARK_EN : Fd := ⟨0x10008, 63, 63⟩
/-- HUB_RM_CTL.VECTOR (21). -/
def Fd.HUB_RM_CTL_VECTOR : Fd := ⟨0x10008, 42, 32⟩
/-- HUB_RM_CTL.GRACE_MS (21). -/
def Fd.HUB_RM_CTL_GRACE_MS : Fd := ⟨0x10008, 9, 0⟩
/-- HUB_RM_PARK_BASE.BASE (21). -/
def Fd.HUB_RM_PARK_BASE_BASE : Fd := ⟨0x10010, 63, 16⟩
/-- HUB_RM_PARK_LEN.PAGES (21). -/
def Fd.HUB_RM_PARK_LEN_PAGES : Fd := ⟨0x10018, 31, 0⟩

/-- The FRD_ block. -/
def rowsFrd : List RRow :=
  [⟨0x200000, 16, 0x10000, 1, 0x0, 1, 0x0, [⟨4, 0, .rw, 24⟩]⟩,
   ⟨0x200008, 16, 0x10000, 8, 0x8, 1, 0x0, [⟨63, 63, .ro, 0⟩, ⟨62, 62, .ro, 0⟩, ⟨58, 54, .ro, 0⟩, ⟨47, 24, .rw, 0⟩, ⟨23, 0, .rw, 0⟩]⟩,
   ⟨0x200048, 16, 0x10000, 1, 0x0, 1, 0x0, [⟨43, 16, .rw, 0⟩, ⟨0, 0, .rw, 0⟩]⟩,
   ⟨0x200050, 16, 0x10000, 1, 0x0, 1, 0x0, [⟨49, 48, .own, 2⟩, ⟨47, 32, .own, 600⟩, ⟨31, 16, .own, 5⟩, ⟨7, 0, .own, 8⟩]⟩,
   ⟨0x200058, 16, 0x10000, 1, 0x0, 1, 0x0, [⟨3, 3, .ro, 0⟩, ⟨2, 2, .ro, 0⟩, ⟨1, 0, .ro, 0⟩]⟩,
   ⟨0x200060, 16, 0x10000, 1, 0x0, 1, 0x0, [⟨15, 0, .rw, 61440⟩]⟩,
   ⟨0x200068, 16, 0x10000, 16, 0x8, 1, 0x0, [⟨31, 31, .ro, 0⟩, ⟨4, 0, .ro, 0⟩]⟩,
   ⟨0x2000F0, 16, 0x10000, 1, 0x0, 1, 0x0, [⟨63, 63, .w1c, 0⟩, ⟨62, 60, .ro, 0⟩, ⟨59, 58, .ro, 0⟩, ⟨57, 56, .ro, 0⟩, ⟨47, 0, .ro, 0⟩]⟩,
   ⟨0x2000F8, 16, 0x10000, 1, 0x0, 1, 0x0, [⟨11, 0, .ro, 0⟩]⟩,
   ⟨0x200100, 16, 0x10000, 1, 0x0, 1, 0x0, [⟨12, 8, .rw, 20⟩]⟩,
   ⟨0x200108, 16, 0x10000, 1, 0x0, 1, 0x0, [⟨63, 60, .ro, 0⟩, ⟨59, 56, .ro, 0⟩, ⟨51, 48, .ro, 0⟩, ⟨45, 40, .ro, 0⟩, ⟨38, 32, .ro, 64⟩, ⟨15, 0, .rw, 0⟩]⟩,
   ⟨0x200110, 16, 0x10000, 1, 0x0, 1, 0x0, [⟨63, 48, .ro, 0⟩, ⟨47, 0, .ro, 0⟩]⟩,
   ⟨0x200118, 16, 0x10000, 1, 0x0, 1, 0x0, [⟨63, 48, .ro, 0⟩, ⟨47, 32, .ro, 0⟩, ⟨31, 24, .ro, 0⟩, ⟨23, 21, .ro, 0⟩, ⟨20, 15, .ro, 0⟩, ⟨14, 10, .ro, 0⟩, ⟨0, 0, .w1c, 0⟩]⟩]

/-- The THL_ block. -/
def rowsThl : List RRow :=
  [⟨0x28000, 1, 0x0, 1, 0x0, 1, 0x0, [⟨31, 31, .rw, 1⟩, ⟨15, 0, .rw, 600⟩]⟩,
   ⟨0x28008, 1, 0x0, 1, 0x0, 1, 0x0, [⟨63, 63, .w1c, 0⟩, ⟨31, 0, .ro, 0⟩]⟩,
   ⟨0x28010, 1, 0x0, 1, 0x0, 1, 0x0, [⟨63, 32, .rw, 0⟩, ⟨31, 0, .rw, 0⟩]⟩,
   ⟨0x28018, 1, 0x0, 1, 0x0, 1, 0x0, [⟨31, 31, .rw, 0⟩, ⟨10, 0, .rw, 0⟩]⟩,
   ⟨0x28020, 4, 0x20, 4, 0x8, 1, 0x0, [⟨57, 52, .ro, 0⟩, ⟨51, 48, .ro, 0⟩, ⟨47, 46, .ro, 0⟩, ⟨43, 32, .ro, 0⟩, ⟨31, 20, .ro, 0⟩, ⟨15, 0, .ro, 0⟩]⟩]

/-- The MSC_ block. -/
def rowsMsc : List RRow :=
  [⟨0x30000, 1, 0x0, 1, 0x0, 1, 0x0, [⟨28, 16, .rw, 2048⟩, ⟨3, 0, .rw, 8⟩]⟩,
   ⟨0x30008, 1, 0x0, 1, 0x0, 1, 0x0, [⟨31, 0, .ro, 0⟩]⟩,
   ⟨0x30010, 4, 0x20, 4, 0x8, 1, 0x0, [⟨63, 32, .ro, 0⟩, ⟨31, 0, .ro, 0⟩]⟩,
   ⟨0x30090, 4, 0x20, 4, 0x8, 1, 0x0, [⟨63, 32, .ro, 0⟩, ⟨31, 0, .ro, 0⟩]⟩,
   ⟨0x30110, 1, 0x0, 1, 0x0, 1, 0x0, [⟨31, 31, .rw, 0⟩, ⟨30, 24, .rw, 25⟩, ⟨10, 0, .rw, 0⟩]⟩,
   ⟨0x30118, 128, 0x8, 1, 0x0, 1, 0x0, [⟨63, 32, .ro, 0⟩, ⟨31, 0, .ro, 0⟩]⟩,
   ⟨0x30518, 1, 0x0, 1, 0x0, 1, 0x0, [⟨63, 32, .rw, 0⟩, ⟨31, 0, .rw, 0⟩]⟩]

/-- The PIL_ block. -/
def rowsPil : List RRow :=
  [⟨0x40000, 1, 0x0, 1, 0x0, 1, 0x0, [⟨31, 31, .w1s, 0⟩, ⟨30, 30, .ro, 0⟩, ⟨29, 29, .ro, 0⟩, ⟨23, 20, .ro, 0⟩, ⟨0, 0, .own, 0⟩]⟩,
   ⟨0x40008, 16, 0x8, 1, 0x0, 1, 0x0, [⟨63, 63, .rwl, 0⟩, ⟨62, 62, .rwl, 0⟩, ⟨61, 60, .rwl, 0⟩, ⟨59, 59, .own, 0⟩, ⟨40, 32, .rwl, 0⟩, ⟨24, 16, .rwl, 0⟩, ⟨11, 0, .ro, 0⟩]⟩,
   ⟨0x40088, 8, 0x8, 1, 0x0, 1, 0x0, [⟨63, 48, .ro, 0⟩, ⟨47, 46, .ro, 0⟩, ⟨45, 45, .ro, 0⟩, ⟨44, 44, .ro, 0⟩, ⟨43, 43, .ro, 0⟩]⟩,
   ⟨0x400C8, 8, 0x8, 1, 0x0, 1, 0x0, [⟨57, 48, .ro, 0⟩, ⟨40, 24, .ro, 0⟩, ⟨23, 21, .ro, 0⟩, ⟨16, 0, .ro, 0⟩]⟩,
   ⟨0x40108, 1, 0x0, 1, 0x0, 1, 0x0, [⟨31, 31, .rw, 1⟩, ⟨7, 0, .rw, 24⟩]⟩,
   ⟨0x40110, 1, 0x0, 1, 0x0, 1, 0x0, [⟨63, 32, .rw, 0⟩, ⟨31, 0, .rw, 0⟩]⟩]

/-- The PNW_ block. -/
def rowsPnw : List RRow :=
  [⟨0x50000, 1, 0x0, 1, 0x0, 1, 0x0, [⟨31, 31, .w1s, 0⟩, ⟨24, 20, .ro, 0⟩, ⟨12, 8, .w1c, 0⟩, ⟨4, 0, .own, 0⟩]⟩,
   ⟨0x50008, 5, 0x20, 4, 0x8, 1, 0x0, [⟨63, 0, .rwl, 0⟩]⟩,
   ⟨0x500A8, 1, 0x0, 1, 0x0, 1, 0x0, [⟨55, 48, .rw, 75⟩, ⟨47, 40, .rw, 50⟩, ⟨39, 32, .rw, 25⟩, ⟨23, 16, .rw, 75⟩, ⟨15, 8, .rw, 50⟩, ⟨7, 0, .rw, 25⟩]⟩,
   ⟨0x500B0, 5, 0x8, 1, 0x0, 1, 0x0, [⟨63, 32, .rw, 0⟩, ⟨31, 0, .rw, 0⟩]⟩,
   ⟨0x500D8, 4, 0x8, 1, 0x0, 1, 0x0, [⟨63, 63, .ro, 0⟩, ⟨55, 50, .ro, 40⟩, ⟨49, 48, .ro, 0⟩, ⟨47, 38, .ro, 0⟩, ⟨31, 0, .rw, 0⟩]⟩]

/-- The RNG_ block. -/
def rowsRng : List RRow :=
  [⟨0x400000, 1024, 0x100, 1, 0x0, 1, 0x0, [⟨63, 63, .own, 0⟩, ⟨62, 61, .ro, 0⟩, ⟨60, 60, .ro, 0⟩, ⟨55, 48, .ro, 0⟩, ⟨44, 40, .setup, 6⟩, ⟨39, 39, .setup, 0⟩, ⟨38, 36, .setup, 0⟩, ⟨31, 22, .setup, 0⟩, ⟨21, 10, .setup, 0⟩]⟩,
   ⟨0x400008, 1024, 0x100, 1, 0x0, 1, 0x0, [⟨63, 12, .setup, 0⟩]⟩,
   ⟨0x400010, 1024, 0x100, 1, 0x0, 1, 0x0, [⟨63, 12, .setup, 0⟩]⟩,
   ⟨0x400018, 1024, 0x100, 1, 0x0, 1, 0x0, [⟨63, 63, .rw, 0⟩, ⟨58, 48, .rw, 0⟩, ⟨47, 32, .rw, 1⟩, ⟨15, 0, .rw, 0⟩]⟩,
   ⟨0x400020, 1024, 0x100, 1, 0x0, 1, 0x0, [⟨63, 32, .ro, 0⟩, ⟨31, 0, .ro, 0⟩]⟩,
   ⟨0x400028, 1024, 0x100, 1, 0x0, 1, 0x0, [⟨63, 32, .ro, 0⟩, ⟨31, 0, .ro, 0⟩]⟩,
   ⟨0x400030, 1024, 0x100, 1, 0x0, 1, 0x0, [⟨63, 32, .rw, 0⟩, ⟨31, 0, .rw, 0⟩]⟩]

/-- The HPT_ block. -/
def rowsHpt : List RRow :=
  [⟨0x60000, 1, 0x0, 1, 0x0, 1, 0x0, [⟨63, 63, .ro, 0⟩, ⟨62, 61, .ro, 0⟩, ⟨60, 56, .ro, 0⟩, ⟨55, 55, .ro, 0⟩, ⟨54, 54, .ro, 0⟩, ⟨53, 52, .ro, 0⟩, ⟨51, 51, .ro, 0⟩, ⟨31, 0, .rw, 0⟩]⟩,
   ⟨0x60008, 1, 0x0, 1, 0x0, 1, 0x0, [⟨31, 31, .rw, 0⟩, ⟨10, 0, .rw, 0⟩]⟩,
   ⟨0x60010, 1, 0x0, 1, 0x0, 1, 0x0, [⟨63, 63, .w1s, 0⟩, ⟨40, 32, .rwl, 0⟩]⟩,
   ⟨0x60018, 1, 0x0, 1, 0x0, 1, 0x0, [⟨63, 32, .rw, 0⟩, ⟨31, 0, .rw, 0⟩]⟩]

/-- The SES_ block. -/
def rowsSes : List RRow :=
  [⟨0x70000, 1, 0x0, 1, 0x0, 1, 0x0, [⟨31, 31, .rw, 0⟩, ⟨10, 0, .rw, 0⟩]⟩,
   ⟨0x70008, 1, 0x0, 1, 0x0, 1, 0x0, [⟨63, 63, .ro, 0⟩, ⟨55, 51, .ro, 0⟩, ⟨50, 34, .ro, 0⟩, ⟨33, 17, .ro, 0⟩, ⟨16, 0, .ro, 65536⟩]⟩,
   ⟨0x70010, 64, 0x8, 1, 0x0, 1, 0x0, [⟨63, 63, .ro, 0⟩, ⟨62, 53, .ro, 0⟩, ⟨52, 41, .ro, 0⟩, ⟨23, 0, .ro, 0⟩]⟩]

/-- The SOR_ block. -/
def rowsSor : List RRow :=
  [⟨0x80000, 1, 0x0, 1, 0x0, 1, 0x0, [⟨15, 0, .rw, 1000⟩]⟩,
   ⟨0x80008, 1, 0x0, 1, 0x0, 1, 0x0, [⟨45, 32, .ro, 0⟩, ⟨28, 16, .ro, 0⟩, ⟨13, 0, .ro, 0⟩]⟩,
   ⟨0x80010, 1, 0x0, 1, 0x0, 1, 0x0, [⟨63, 32, .rw, 0⟩, ⟨31, 0, .rw, 0⟩]⟩]

/-- The FAB_ block. -/
def rowsFab : List RRow :=
  [⟨0x90000, 1, 0x0, 1, 0x0, 1, 0x0, [⟨63, 63, .w1s, 0⟩, ⟨62, 62, .rwl, 0⟩, ⟨13, 0, .rwl, 0⟩]⟩,
   ⟨0x90008, 1, 0x0, 1, 0x0, 1, 0x0, [⟨47, 32, .rw, 1000⟩, ⟨31, 0, .rw, 2000⟩]⟩,
   ⟨0x90010, 1, 0x0, 1, 0x0, 1, 0x0, [⟨63, 63, .ro, 0⟩, ⟨44, 34, .ro, 0⟩, ⟨33, 17, .ro, 0⟩, ⟨8, 0, .ro, 0⟩]⟩,
   ⟨0x90018, 16, 0x8, 1, 0x0, 1, 0x0, [⟨63, 63, .own, 1⟩, ⟨62, 62, .own, 0⟩, ⟨61, 61, .rw, 0⟩, ⟨37, 33, .rw, 0⟩, ⟨32, 19, .rw, 0⟩, ⟨18, 14, .rw, 0⟩, ⟨13, 0, .rw, 0⟩]⟩,
   ⟨0x90098, 16, 0x8, 1, 0x0, 1, 0x0, [⟨31, 29, .ro, 0⟩, ⟨28, 28, .ro, 0⟩, ⟨27, 27, .ro, 0⟩, ⟨26, 22, .ro, 0⟩, ⟨21, 8, .ro, 0⟩]⟩,
   ⟨0x90120, 16, 0x10, 1, 0x0, 1, 0x0, [⟨63, 32, .rw, 0⟩, ⟨31, 0, .rw, 0⟩]⟩,
   ⟨0x90128, 16, 0x10, 1, 0x0, 1, 0x0, [⟨63, 32, .rw, 0⟩, ⟨31, 0, .rw, 0⟩]⟩]

/-- The SEC_ block. -/
def rowsSec : List RRow :=
  [⟨0xA0000, 1, 0x0, 1, 0x0, 1, 0x0, [⟨63, 63, .ro, 0⟩, ⟨62, 62, .ro, 0⟩, ⟨61, 61, .ro, 0⟩, ⟨60, 57, .ro, 0⟩, ⟨51, 48, .ro, 0⟩, ⟨16, 0, .ro, 0⟩]⟩,
   ⟨0xA0008, 1, 0x0, 1, 0x0, 1, 0x0, [⟨39, 0, .ro, 0⟩]⟩,
   ⟨0xA0010, 1, 0x0, 1, 0x0, 1, 0x0, [⟨31, 31, .rwl, 0⟩, ⟨11, 10, .ro, 0⟩, ⟨9, 0, .rwl, 0⟩]⟩,
   ⟨0xA0018, 1, 0x0, 1, 0x0, 1, 0x0, [⟨63, 32, .rw, 0⟩, ⟨31, 0, .rw, 0⟩]⟩]

/-- The PWR_ block. -/
def rowsPwr : List RRow :=
  [⟨0xB0000, 1, 0x0, 1, 0x0, 1, 0x0, [⟨63, 63, .w1s, 0⟩, ⟨62, 62, .rw, 1⟩, ⟨40, 32, .rwl, 430⟩, ⟨11, 0, .rwl, 1800⟩]⟩,
   ⟨0xB0008, 2, 0x8, 1, 0x0, 1, 0x0, [⟨63, 61, .ro, 0⟩, ⟨60, 60, .ro, 0⟩, ⟨59, 56, .ro, 0⟩, ⟨55, 52, .ro, 0⟩, ⟨47, 32, .ro, 0⟩, ⟨31, 16, .ro, 0⟩, ⟨15, 8, .ro, 0⟩, ⟨7, 0, .ro, 0⟩]⟩,
   ⟨0xB0018, 1, 0x0, 1, 0x0, 1, 0x0, [⟨63, 0, .ro, 0⟩]⟩,
   ⟨0xB0020, 1, 0x0, 1, 0x0, 1, 0x0, [⟨63, 0, .ro, 0⟩]⟩,
   ⟨0xB0028, 1, 0x0, 1, 0x0, 1, 0x0, [⟨63, 60, .ro, 0⟩, ⟨59, 56, .ro, 8⟩, ⟨55, 44, .ro, 1800⟩, ⟨43, 32, .ro, 0⟩, ⟨31, 0, .rw, 0⟩]⟩,
   ⟨0xB0030, 4, 0x8, 1, 0x0, 1, 0x0, [⟨63, 52, .ro, 0⟩, ⟨47, 32, .rw, 0⟩, ⟨31, 0, .ro, 0⟩]⟩,
   ⟨0xB0050, 4, 0x8, 1, 0x0, 1, 0x0, [⟨63, 56, .ro, 0⟩, ⟨47, 24, .ro, 0⟩, ⟨23, 0, .ro, 0⟩]⟩,
   ⟨0xB0070, 1, 0x0, 1, 0x0, 1, 0x0, [⟨47, 0, .ro, 0⟩]⟩]

/-- The THM_ block. -/
def rowsThm : List RRow :=
  [⟨0xC0000, 1, 0x0, 1, 0x0, 1, 0x0, [⟨31, 31, .rw, 0⟩, ⟨10, 0, .rw, 0⟩]⟩,
   ⟨0xC0008, 12, 0x8, 1, 0x0, 1, 0x0, [⟨63, 52, .ro, 0⟩, ⟨51, 48, .ro, 0⟩, ⟨47, 47, .ro, 0⟩, ⟨46, 46, .ro, 0⟩, ⟨45, 45, .ro, 0⟩, ⟨44, 44, .ro, 0⟩, ⟨43, 41, .ro, 0⟩, ⟨31, 0, .ro, 0⟩]⟩,
   ⟨0xC0068, 12, 0x8, 1, 0x0, 1, 0x0, [⟨31, 0, .ro, 0⟩]⟩,
   ⟨0xC00C8, 1, 0x0, 1, 0x0, 1, 0x0, [⟨63, 63, .ro, 0⟩, ⟨62, 62, .ro, 0⟩, ⟨61, 59, .ro, 0⟩, ⟨47, 32, .ro, 0⟩, ⟨31, 16, .ro, 0⟩, ⟨15, 0, .ro, 0⟩]⟩]

/-- The BOOT_ block. -/
def rowsBoot : List RRow :=
  [⟨0xD0000, 1, 0x0, 1, 0x0, 1, 0x0, [⟨63, 61, .ro, 0⟩, ⟨60, 60, .ro, 0⟩, ⟨59, 59, .ro, 0⟩, ⟨58, 58, .ro, 0⟩, ⟨57, 57, .ro, 0⟩, ⟨55, 53, .ro, 0⟩, ⟨52, 49, .ro, 0⟩, ⟨47, 32, .ro, 0⟩, ⟨31, 0, .ro, 0⟩]⟩,
   ⟨0xD0008, 1, 0x0, 1, 0x0, 1, 0x0, [⟨31, 31, .own, 0⟩, ⟨30, 30, .rw, 1⟩]⟩,
   ⟨0xD0010, 1, 0x0, 1, 0x0, 1, 0x0, [⟨63, 60, .ro, 0⟩, ⟨59, 56, .ro, 0⟩, ⟨47, 32, .ro, 0⟩, ⟨31, 16, .ro, 0⟩, ⟨15, 0, .rw, 0⟩]⟩]

/-- The TWR_ block. -/
def rowsTwr : List RRow :=
  [⟨0x300000, 4, 0x10000, 1, 0x0, 1, 0x0, [⟨63, 61, .ro, 0⟩, ⟨60, 60, .ro, 0⟩, ⟨59, 59, .ro, 0⟩, ⟨47, 32, .ro, 0⟩, ⟨31, 16, .rw, 0⟩]⟩,
   ⟨0x300008, 4, 0x10000, 1, 0x0, 1, 0x0, [⟨35, 32, .ro, 0⟩, ⟨31, 0, .ro, 0⟩]⟩]

/-- The LDG_ block. -/
def rowsLdg : List RRow :=
  [⟨0xE0000, 1, 0x0, 1, 0x0, 1, 0x0, [⟨63, 63, .ro, 0⟩, ⟨62, 62, .ro, 0⟩, ⟨61, 61, .ro, 0⟩, ⟨60, 60, .ro, 0⟩, ⟨59, 59, .ro, 0⟩, ⟨58, 58, .ro, 0⟩, ⟨38, 32, .ro, 0⟩, ⟨31, 0, .rw, 0⟩]⟩,
   ⟨0xE0008, 1, 0x0, 1, 0x0, 1, 0x0, [⟨63, 0, .ro, 0⟩]⟩,
   ⟨0xE0010, 1, 0x0, 1, 0x0, 1, 0x0, [⟨63, 48, .ro, 0⟩, ⟨47, 32, .ro, 0⟩, ⟨31, 16, .ro, 0⟩]⟩,
   ⟨0xE0018, 1, 0x0, 1, 0x0, 1, 0x0, [⟨41, 32, .ro, 0⟩, ⟨9, 0, .ro, 0⟩]⟩,
   ⟨0xE0020, 1, 0x0, 1, 0x0, 1, 0x0, [⟨10, 0, .ro, 0⟩]⟩,
   ⟨0xE0028, 18, 0x8, 1, 0x0, 1, 0x0, [⟨63, 61, .ro, 0⟩, ⟨60, 56, .ro, 0⟩, ⟨47, 32, .ro, 0⟩]⟩]

/-- The FLT_ block. -/
def rowsFlt : List RRow :=
  [⟨0xF0000, 1, 0x0, 1, 0x0, 1, 0x0, [⟨23, 16, .rw, 10⟩]⟩,
   ⟨0xF0008, 1, 0x0, 1, 0x0, 1, 0x0, [⟨63, 32, .ro, 0⟩, ⟨31, 16, .rw, 0⟩, ⟨15, 0, .rw, 0⟩]⟩,
   ⟨0xF0010, 1, 0x0, 1, 0x0, 1, 0x0, [⟨63, 12, .setup, 0⟩]⟩,
   ⟨0xF0018, 1, 0x0, 1, 0x0, 1, 0x0, [⟨63, 63, .own, 0⟩, ⟨62, 58, .setup, 8⟩, ⟨57, 55, .setup, 0⟩, ⟨54, 54, .rw, 0⟩, ⟨42, 32, .rw, 0⟩]⟩,
   ⟨0xF0020, 1, 0x0, 1, 0x0, 1, 0x0, [⟨63, 32, .rw, 0⟩, ⟨31, 0, .ro, 0⟩]⟩,
   ⟨0xF0028, 1, 0x0, 1, 0x0, 1, 0x0, [⟨31, 0, .rw, 0⟩]⟩,
   ⟨0xF0030, 1, 0x0, 1, 0x0, 1, 0x0, [⟨5, 0, .rw, 0⟩]⟩,
   ⟨0xF0040, 1, 0x0, 1, 0x0, 1, 0x0, [⟨63, 63, .w1s, 0⟩, ⟨62, 62, .own, 0⟩, ⟨61, 61, .w1c, 0⟩, ⟨60, 60, .w1c, 0⟩, ⟨59, 58, .rw, 0⟩, ⟨55, 52, .rw, 0⟩, ⟨44, 39, .rw, 0⟩, ⟨38, 33, .rw, 0⟩]⟩,
   ⟨0xF0048, 1, 0x0, 1, 0x0, 1, 0x0, [⟨63, 0, .rw, 0⟩]⟩,
   ⟨0xF0050, 1, 0x0, 1, 0x0, 1, 0x0, [⟨63, 0, .rw, 0⟩]⟩,
   ⟨0xF0080, 1, 0x0, 1, 0x0, 1, 0x0, [⟨63, 63, .w1s, 0⟩, ⟨62, 62, .rwl, 0⟩, ⟨55, 48, .rwl, 85⟩, ⟨47, 32, .rwl, 100⟩, ⟨15, 0, .rwl, 65535⟩]⟩,
   ⟨0xF0088, 1, 0x0, 1, 0x0, 1, 0x0, [⟨63, 32, .ro, 0⟩, ⟨20, 16, .ro, 0⟩, ⟨10, 0, .ro, 0⟩]⟩,
   ⟨0xF0100, 16, 0x8, 1, 0x0, 1, 0x0, [⟨63, 48, .ro, 0⟩, ⟨47, 47, .ro, 0⟩, ⟨46, 46, .ro, 0⟩, ⟨45, 45, .ro, 0⟩, ⟨44, 44, .ro, 0⟩, ⟨43, 42, .ro, 0⟩, ⟨31, 16, .ro, 0⟩, ⟨10, 0, .ro, 0⟩]⟩]

/-- The FWU_ block. -/
def rowsFwu : List RRow :=
  [⟨0x100000, 1, 0x0, 1, 0x0, 1, 0x0, [⟨31, 31, .own, 0⟩, ⟨30, 30, .own, 0⟩]⟩,
   ⟨0x100008, 1, 0x0, 1, 0x0, 1, 0x0, [⟨63, 61, .ro, 0⟩, ⟨60, 57, .ro, 0⟩, ⟨56, 49, .ro, 0⟩, ⟨48, 45, .ro, 0⟩, ⟨39, 24, .ro, 0⟩, ⟨15, 0, .ro, 0⟩]⟩,
   ⟨0x100010, 1, 0x0, 1, 0x0, 1, 0x0, [⟨63, 12, .rw, 0⟩]⟩,
   ⟨0x100018, 1, 0x0, 1, 0x0, 1, 0x0, [⟨31, 0, .rw, 0⟩]⟩,
   ⟨0x100020, 1, 0x0, 1, 0x0, 1, 0x0, [⟨63, 63, .rw, 0⟩, ⟨62, 62, .rw, 0⟩, ⟨31, 0, .ro, 0⟩]⟩]

/-- The HUB_ block. -/
def rowsHub : List RRow :=
  [⟨0x10000, 1, 0x0, 1, 0x0, 1, 0x0, [⟨63, 63, .ro, 0⟩, ⟨62, 62, .ro, 0⟩, ⟨61, 61, .ro, 0⟩, ⟨60, 58, .ro, 0⟩, ⟨57, 56, .ro, 3⟩, ⟨55, 54, .ro, 3⟩, ⟨53, 53, .ro, 0⟩, ⟨52, 52, .ro, 0⟩, ⟨51, 51, .ro, 0⟩, ⟨47, 32, .rw, 0⟩, ⟨31, 16, .ro, 0⟩, ⟨15, 0, .ro, 0⟩]⟩,
   ⟨0x10008, 1, 0x0, 1, 0x0, 1, 0x0, [⟨63, 63, .rw, 0⟩, ⟨42, 32, .rw, 0⟩, ⟨9, 0, .rw, 500⟩]⟩,
   ⟨0x10010, 1, 0x0, 1, 0x0, 1, 0x0, [⟨63, 16, .rw, 0⟩]⟩,
   ⟨0x10018, 1, 0x0, 1, 0x0, 1, 0x0, [⟨31, 0, .rw, 0⟩]⟩]

/-- The rows of the block that holds an offset (Table 10-4). -/
def blockRows (off : Nat) : List RRow :=
  if off < 0x10000 then []
  else if off < 0x20000 then rowsHub
  else if off < 0x30000 then rowsThl
  else if off < 0x40000 then rowsMsc
  else if off < 0x50000 then rowsPil
  else if off < 0x60000 then rowsPnw
  else if off < 0x70000 then rowsHpt
  else if off < 0x80000 then rowsSes
  else if off < 0x90000 then rowsSor
  else if off < 0xA0000 then rowsFab
  else if off < 0xB0000 then rowsSec
  else if off < 0xC0000 then rowsPwr
  else if off < 0xD0000 then rowsThm
  else if off < 0xE0000 then rowsBoot
  else if off < 0xF0000 then rowsLdg
  else if off < 0x100000 then rowsFlt
  else if off < 0x200000 then rowsFwu
  else if off < 0x300000 then rowsFrd
  else if off < 0x400000 then rowsTwr
  else if off < 0x440000 then rowsRng
  else []

/-- Whether an offset is one of a row's indices: the remainders by the strides, outermost first. -/
def RRow.holds (r : RRow) (off : Nat) : Bool :=
  if off < r.base then false
  else
    let d := off - r.base
    let i1 := if r.s1 = 0 then 0 else d / r.s1
    let d1 := d - i1 * r.s1
    let i2 := if r.s2 = 0 then 0 else d1 / r.s2
    let d2 := d1 - i2 * r.s2
    let i3 := if r.s3 = 0 then 0 else d2 / r.s3
    let d3 := d2 - i3 * r.s3
    d3 == 0 && decide (i1 < r.n1) && decide (i2 < r.n2) && decide (i3 < r.n3)

/-- The first row of a list that holds the offset. -/
def findRow : List RRow → Nat → Option RRow
  | [], _ => none
  | r :: rs, off => if r.holds off then some r else findRow rs off

/-- The register slot at an offset. -/
def regRow (off : Nat) : Option RRow := findRow (blockRows off) off

/-- The slot's word with every field at its reset value. -/
def rowReset (fs : List FRow) : Nat := fs.foldl (fun a f => a + (f.rst % 2 ^ (f.hi + 1 - f.lo)) * 2 ^ f.lo) 0

/-- Slots each class owns at reset in a kind (Table 09-5), classes FEED DMA FRX FTX HST PFC MNT GTH. -/
def slotCounts (k : Nat) : List Nat :=
  match k with
  | 0 => [24, 8, 6, 4, 6, 8, 4, 4]
  | 1 => [40, 8, 2, 2, 2, 4, 2, 4]
  | 2 => [16, 10, 8, 8, 6, 8, 2, 6]
  | 3 => [8, 12, 12, 12, 8, 4, 4, 4]
  | _ => [0, 4, 8, 44, 0, 0, 4, 4]

/-- The reset slot words of a kind: the placement of Table 09-5's program, written out
(Tests/Slice0.lean proves kind 0 against the program). -/
def slotReset (k w : Nat) : Nat :=
  match k, w with
  | 0, 0 => 0x2051070630420510
  | 0, 1 => 0x0510420760350104
  | 0, 2 => 0x2051070630420510
  | 0, 3 => 0x0510420760350104
  | 1, 0 => 0x0301002007050100
  | 1, 1 => 0x0100705001006040
  | 1, 2 => 0x0301002007050100
  | 1, 3 => 0x0100705001006040
  | 2, 0 => 0x1605320170453210
  | 2, 1 => 0x0153270410532074
  | 2, 2 => 0x1605320170453210
  | 2, 3 => 0x0153270410532074
  | 3, 0 => 0x3214073216540321
  | 3, 1 => 0x3214073216540321
  | 3, 2 => 0x3214073216540321
  | 3, 3 => 0x3214073216540321
  | 4, 0 => 0x3323373633133233
  | 4, 1 => 0x3323373633133233
  | 4, 2 => 0x3323373633133233
  | 4, 3 => 0x3323373633133233
  | _, _ => 0

/-- The word an unwritten register slot holds: the reset values of the tables, the slot tables of Table 09-5 and
region 0, whose reset size is the DRAM of the variant (R276). -/
def resetWord (dramGib : Nat) (off : Nat) : W64 :=
  if off = 0x40008 then BitVec.ofNat 64 (2 ^ 63 + dramGib * 2 ^ 32)
  else if 0x50008 ≤ off && off < 0x500A8 && off % 8 == 0 then
    BitVec.ofNat 64 (slotReset ((off - 0x50008) / 32) ((off - 0x50008) % 32 / 8))
  else
    match regRow off with
    | some r => BitVec.ofNat 64 (rowReset r.fields)
    | none => 0#64

end Sys2Proof.Machine
end

