-- ==== Sys2Proof/Machine/Sparse.lean ====
section
/-!
DEFINITION. Sparse maps: a sorted list of key and value pairs read through a default for unlisted keys.
One canonical form: keys strictly rising and no entry equal to the default, so equal maps are equal lists.
-/

namespace Sys2Proof.Machine

/-- The value at key `k`, the default `d k` where none is listed. -/
def spGet {α : Type} (d : Nat → α) : Sp α → Nat → α
  | [], k => d k
  | (j, v) :: m, k => if j = k then v else spGet d m k

/-- The map without key `k`. -/
def spDel {α : Type} : Sp α → Nat → Sp α
  | [], _ => []
  | (j, v) :: m, k => if j = k then spDel m k else (j, v) :: spDel m k

/-- The map with `v` listed at key `k`, in key order. -/
def spIns {α : Type} : Sp α → Nat → α → Sp α
  | [], k, v => [(k, v)]
  | (j, w) :: m, k, v =>
    if k < j then (k, v) :: (j, w) :: m
    else if k = j then (k, v) :: m
    else (j, w) :: spIns m k v

/-- The map after writing `v` at `k`: writing the default removes the entry, so the form stays canonical. -/
def spPut {α : Type} [DecidableEq α] (d : Nat → α) (m : Sp α) (k : Nat) (v : α) : Sp α :=
  if v = d k then spDel m k else spIns m k v

/-- The map after changing the value at `k` by `f`. -/
def spMod {α : Type} [DecidableEq α] (d : Nat → α) (m : Sp α) (k : Nat) (f : α → α) : Sp α :=
  spPut d m k (f (spGet d m k))

/-- The canonical form: every key of the map is above `lo` (exclusive bound as `k ≥ lo`), rising, no default listed. -/
def spWf {α : Type} [DecidableEq α] (d : Nat → α) : Nat → Sp α → Bool
  | _, [] => true
  | lo, (j, v) :: m => decide (lo ≤ j) && decide (v ≠ d j) && spWf d (j + 1) m

/-- Change every key of a list in turn. -/
def spModAll {α : Type} [DecidableEq α] (d : Nat → α) (m : Sp α) (ks : List Nat) (f : Nat → α → α) : Sp α :=
  ks.foldl (fun m k => spMod d m k (f k)) m

end Sys2Proof.Machine
end

