-- ==== Sys2Proof/Machine/State.lean ====
section
/-!
DEFINITION. The machine's state as plain data: every register, memory, queue and unit state the spec gives the module,
the commands waiting, the faults and refusals of a step, and the state after reset.
-/

namespace Sys2Proof.Machine

/-! ## Variants, locations, fences (chapters 00, 19) -/

/-- The three parts of R1; the fitted units follow from it (Table 00-1, Table 00-2). -/
inductive Part where
  | fjd2848
  | fjd2840
  | fjd2824
  deriving DecidableEq, Repr

/-- A location code without its DEVICE_ID field (Table 00-5): class, site index, die, region, engine, macro, position. -/
structure Loc where
  cls : Nat
  idx : Nat
  die : Nat
  region : Nat
  engine : Nat
  mac : Nat
  pos : Nat
  deriving DecidableEq, Repr

/-- What a fence takes out of service (Table 00-7, Table 19-3). -/
inductive FUnit where
  | kernel (f k : Nat)
  | engine (l : Loc)
  | frond (f : Nat)
  | tower (t : Nat)
  | channel (c : Nat)
  | port (l : Loc)
  | modul
  deriving DecidableEq, Repr

/-- A fault record (Table 19-1). `held`: still held for coalescing (R597). -/
structure FaultRec where
  timestamp : Nat
  location : W64
  reason : Nat
  fence : Nat
  severity : Nat
  injected : Bool
  widened : Bool
  inside : Bool
  early : Bool
  count : Nat
  seq : Nat
  ctx : Option (Nat × Nat)
  held : Bool
  deriving DecidableEq, Repr

/-- A retained block of ledger section 0x10 (R608): the start count of its header and its records, newest first. -/
structure RetBlock where
  start : Nat
  recs : List FaultRec
  deriving DecidableEq, Repr

/-- The fault log, fences, fault-ring and retention state (chapter 19). -/
structure FltState where
  /-- the latest 16,384 records, newest first (R604) -/
  log : List FaultRec
  /-- SEQ of the next record (R598) -/
  seqNext : Nat
  /-- records of the keep die before First light, newest first, at most 256 (R604) -/
  early : List FaultRec
  /-- records beyond 256, counted for the stage report's NDROP -/
  earlyDrop : Nat
  /-- units out of service by a fence (R599) -/
  fences : List FUnit
  /-- SEQ of each record an array or DMA command raised, with the command's TAG, newest first (Table 03-3, Table 04-7) -/
  cmdTags : List (Nat × Nat)
  /-- SEQ_NEXT at the last FLT_RING_CTL.EN 0→1 (R606) -/
  ringFrom : Nat
  /-- clock of the last fault-ring interrupt, and whether one is due (R607) -/
  ringIrqAt : Option Nat
  ringIrqDue : Bool
  /-- retained blocks by KEY, the open block, and the commits made in the present second (R608) -/
  blocks : Sp RetBlock
  openBlock : Option Nat
  lastBlock : Nat
  retSecond : Nat
  retCommits : Nat
  /-- consecutive sampled rounds above or below, counted in FLT_PACE_f.RUN_MS; Fronds in Run for the whole round -/
  runWhole : List Nat
  deriving DecidableEq, Repr

/-! ## The ledger (chapter 18) -/

/-- What one record of a commit writes: section, key, DELETE and payload (words as the owning chapter lays them out)
with the payload's length in bytes. -/
structure LWrite where
  section_ : Nat
  key : Nat
  delete : Bool
  payload : List Nat
  len : Nat
  deriving DecidableEq, Repr

/-- A copy of a ledger record in one half (Table 18-2); `crcOk`, `macOk`: the checks R579 makes. -/
structure LCopy where
  w : LWrite
  seq : Nat
  txn : Nat
  sealed : Bool
  crcOk : Bool
  macOk : Bool
  deriving DecidableEq, Repr

/-- Who waits for a commit: nobody, the sequence that holds a session slot (R370, R382, R383), a tenant erase (R474), an LMS
reservation (R468), an owner message (R477), a class of an update (R628), a failed start (R554), the count of starts (R666). -/
inductive LWho where
  | nobody
  | slot (x : Nat)
  | erase (r i : Nat)
  | lms
  | owner
  | fw (c : Nat)
  | boot
  | starts
  deriving DecidableEq, Repr

/-- A commit: what it writes and who waits for it. -/
structure LReq where
  ws : List LWrite
  who : LWho
  deriving DecidableEq, Repr

/-- The ledger and the store controller (R568–R579). -/
structure LdgState where
  /-- copies in half A and half B, newest first -/
  halfA : List LCopy
  halfB : List LCopy
  okA : Bool
  okB : Bool
  /-- SEQ of the last record committed -/
  seq : Nat
  /-- commits accepted and waiting, oldest first; each is one record or one transaction (R573, R574) -/
  queue : List LReq
  mounted : Bool
  /-- count of starts since manufacture (R666) -/
  starts : Nat
  poolPages : Nat
  /-- bytes in use and bytes ever written in each half (R575, R583) -/
  usedA : Nat
  usedB : Nat
  writtenA : Nat
  writtenB : Nat
  /-- kinds of Table 18-5 whose reserve-at-zero record was raised, as (bit, instance) (R587) -/
  zeroSaid : List (Nat × Nat)
  /-- pages corrected in the last daily pass (region, page) (R584) -/
  correctedPages : List (Nat × Nat)
  /-- lasers by engine·32 + lane: 0 in service, 1 worn and awaiting replacement, 2 retired, 3 failed with no spare -/
  lasers : Sp Nat
  /-- spares used, by engine·4 + spare wavelength (Table 18-6) -/
  sparesUsed : Sp Nat
  /-- clock at which a worn laser's 24 h end, by engine·32 + lane (R590) -/
  wornDue : Sp Nat
  /-- wear of section 0x06: rounds in service at 0, rounds of zone z in temperature band b at 16 + 4·z + b; latest bias of each laser in per cent
  of its start of life, by engine·32 + lane (Table 18-3, R589) -/
  wear : Sp Nat
  bias : Sp Nat
  /-- clocks of the last hourly commit and of the last daily pass (R584, R589) -/
  hourAt : Nat
  dailyAt : Option Nat
  deriving DecidableEq, Repr

/-! ## Memories (chapters 03–08, 10) -/

/-- The addressed memories, each a canonical list of address and byte pairs, with the errors their checkers would find. -/
structure MemState where
  /-- DRAM as the channels store it: key channel·2^32 + channel address (R256) -/
  dram : List Host.Cell
  /-- symbols in error of a stored sector, as (symbol, mask), by channel·2^27 + sector (R266) -/
  dramBad : Sp (List (Nat × Nat))
  /-- the metadata byte of a stored sector, three copies of the poison flag (R266) -/
  dramMeta : Sp Nat
  /-- the Thallus dies, by scratchpad window offset (R185) -/
  thl : List Host.Cell
  /-- flipped bits of a stored 13-bit codeword, by window offset (R190) -/
  thlBad : Sp Nat
  /-- the local stores, by Frond·2^24 + offset (R100) -/
  ls : List Host.Cell
  /-- flipped bits of a stored 39-bit word, by Frond·2^22 + word (R103) -/
  lsBad : Sp Nat
  /-- host memory, by host address (R310, R311) -/
  host : List Host.Cell
  /-- stored errors that the flip mask made, as (memory, key): 0 local store word, 1 Thallus byte, 2 DRAM sector,
  3 accumulator, 4 register, 5 feeder memory, 6 store buffer, 7 sorus, 8 cached byte, 9 tag entry (R610) -/
  injected : List (Nat × Nat)
  deriving DecidableEq, Repr

/-! ## Matrix arrays (chapter 03) -/

/-- A stationary set of an array (R62, R63): cells by row·128 + column, scales by column·16 + group. -/
structure StatSet where
  fmt : Nat
  depth : Nat
  sparse : Bool
  /-- block scales are present (R71) -/
  scaled : Bool
  square : Bool
  /-- columns' 16-bit registers, 0 where not listed -/
  cells : Sp Nat
  /-- E8M0 scale registers, 0x7F where not listed -/
  scales : Sp Nat
  deriving DecidableEq, Repr

/-- A queued array command (R73) with the kernel slot that placed it; phase 0 waiting, 1 marker held (R68), 2 running, 3 a drain
whose destination cannot accept writes (R88). `desc`: the words of its tensor descriptor, read as the command started. -/
structure ArrCmd where
  w0 : W64
  w1 : W64
  w2 : W64
  w3 : W64
  kslot : Nat
  phase : Nat
  desc : List Nat
  deriving DecidableEq, Repr

/-- One matrix array with its feeders and drain. -/
structure Arr where
  queue : List ArrCmd
  active : Option StatSet
  shadow : Option StatSet
  /-- the shadow set is complete (R67) -/
  shadowDone : Bool
  /-- accumulator memory, by entry·128 + column (R83) -/
  acc : Sp W32
  /-- flipped bits of an accumulator codeword -/
  accBad : Sp Nat
  /-- feeder-memory slot states: 0 empty, 1 VQ2, 2 VQ3 head, 3 VQ3 body (R80) -/
  slots : Sp Nat
  fmem : Sp Byte
  fmemBad : Sp Nat
  /-- corrected errors of accumulator values, counted (R86) -/
  accCorr : Nat
  /-- macro awaiting its pattern test: an accumulator block, or 16 and a band of cell rows (R86, R93, 0x0107) -/
  test : Option Nat
  /-- kernel slot that owns the array (R170) -/
  owner : Option Nat
  /-- tenant of the last owning kernel whose contents remain (R91) -/
  lastTenant : Option Nat
  /-- the feeder sequencer runs a verified image (R95) -/
  seqUp : Bool
  /-- TAG of the command last completed (Table 03-3) -/
  doneTag : Option Nat
  deriving DecidableEq, Repr

/-! ## Fronds (chapters 04, 05, 09, 12) -/

/-- Who a kernel reports to (R170, R172, R285). -/
inductive Issuer where
  /-- a LAUNCH descriptor: ring and index -/
  | ring (r i : Nat)
  /-- entry e of session step h -/
  | step (h e : Nat)
  deriving DecidableEq, Repr

/-- A launch record's four words (Table 05-5) and its issuer. -/
structure Launch where
  w0 : W64
  w1 : W64
  w2 : W64
  w3 : W64
  issuer : Issuer
  /-- handle of the image ENTRY lies in (R350, R351) -/
  image : Nat
  deriving DecidableEq, Repr

/-- A store-buffer entry: line address, bytes by offset, the kernel that opened it, flipped bits of its codewords, and which of the 64
entries it is (R109, R136). -/
structure SbEntry where
  line : Nat
  bytes : Sp Byte
  kslot : Nat
  bad : Nat
  slot : Nat
  deriving DecidableEq, Repr

/-- A data cache line: physical line address and its 128 bytes (R108). -/
structure DLine where
  line : Nat
  data : List Byte
  deriving DecidableEq, Repr

/-- A TLB entry: a leaf (R123). -/
structure TlbE where
  asid : Nat
  vpage : Nat
  /-- 16 for a 64 KiB page, 21 for a 2 MiB page -/
  bits : Nat
  pte : W64
  deriving DecidableEq, Repr

/-- A walk-cache entry: the table the walk reads at `level` for a prefix of the virtual address (R123). -/
structure WalkE where
  asid : Nat
  level : Nat
  vprefix : Nat
  table : Nat
  deriving DecidableEq, Repr

/-- A cached address-space entry (R117, R123). -/
structure AspE where
  asid : Nat
  root : Nat
  tenant : Nat
  deriving DecidableEq, Repr

/-- A local store access held through a sleep entry or wake (R134). -/
structure HeldAcc where
  agent : Agent
  addr : Nat
  write : Bool
  bytes : List Byte
  deriving DecidableEq, Repr

/-- A DMA command with its place: kernel slot or ring descriptor, address space and tenant (R127, R128, R341). -/
structure DmaCmd where
  w0 : W64
  w1 : W64
  w2 : W64
  w3 : W64
  /-- kernel slot, or ring and index -/
  src : Agent
  asid : Nat
  tenant : Nat
  srcHost : Bool
  dstHost : Bool
  /-- posted reduction: operation and element type (R240) -/
  red : Option (Nat × Nat)
  /-- 0 waiting, 1 performed and not yet completed, 2 failed -/
  phase : Nat
  deriving DecidableEq, Repr

/-- A DMA channel (R127–R130); `doneTag`: TAG of the command last completed (Table 04-7). -/
structure Dma where
  queue : List DmaCmd
  doneTag : Option Nat
  deriving DecidableEq, Repr

/-- A thread's entry on the sorus watch list of its Frond (chapter 12): group, thread, sorus, threshold. -/
structure WatchE where
  g : Nat
  t : Nat
  sorus : Nat
  thr : Nat
  /-- a value sent by the hub met the threshold (R400) -/
  sat : Bool
  deriving DecidableEq, Repr

/-- What one Frond holds besides its arrays, kernels and local store. -/
structure Frond where
  lq : List Launch
  stub : List Launch
  sbuf : List SbEntry
  dcache : List DLine
  icache : List Nat
  /-- instruction-cache lines with a parity error (R112) -/
  icacheBad : List Nat
  icacheTenant : Option Nat
  /-- parity errors of the instruction cache, counted (R112) -/
  icParity : Nat
  tlb : List TlbE
  walk : List WalkE
  asp : List AspE
  heldAcc : List HeldAcc
  watch : List WatchE
  /-- uncorrectable local-store reads: (bank, clock) of the last second (R106) -/
  lsErr : List (Nat × Nat)
  /-- clusters held for their pattern test, and group slots held out of service (R167) -/
  clHeld : List Nat
  slotHeld : List Nat
  /-- a wake is in progress, its staging rate, and the state it started from (R131, R505) -/
  waking : Bool
  wakeSlow : Bool
  wakeFrom : Nat
  /-- clock at which the wake in progress started (R135), and clock from which the present count of idleness runs (R132) -/
  wakeAt : Nat
  idleFrom : Nat
  /-- corrected errors: words of the local store, store buffer entries, registers (R137, R176) -/
  lsCorr : Nat
  sbCorr : Nat
  regCorr : Nat
  /-- the stub is fenced for a drain or a fence, the drain still runs, the Frond is in reset (R292) -/
  stubFenced : Bool
  draining : Bool
  /-- clock at which the drain began (R292) -/
  drainAt : Nat
  inReset : Bool
  /-- a drain waits for the sleep entry or wake in progress (R292) -/
  drainPend : Bool
  dmaSeqUp : Bool
  deriving DecidableEq, Repr

/-- A resident kernel (R168–R174). -/
structure Kernel where
  launch : Launch
  groups : List Nat
  /-- aborting: the reason (R163, R165) -/
  abort : Option Nat
  deriving DecidableEq, Repr

/-- What a thread waits for (R141, R147, R152, R155, chapter 12). -/
inductive Wait where
  | ready
  | barG (b : Nat)
  | barK (b : Nat)
  /-- a group-wide instruction: code, its register operands, and the thread's predicate (R152) -/
  | coll (code d s x : Nat) (pred : Bool)
  | stores
  | acmd (a : Nat)
  | dcmd (c : Nat)
  | awaitA (a n : Nat)
  | awaitD (c n : Nat)
  /-- a sorus wait: sorus, threshold, and whether the data cache is invalidated after it -/
  | sorus (n thr : Nat) (inv : Bool)
  deriving DecidableEq, Repr

/-- A thread (R139–R142, R152). -/
structure Thread where
  live : Bool
  pc : Nat
  cseq : Nat
  wait : Wait
  /-- stamp of the start of the wait, for the oldest-wait watchdog (R158) -/
  since : Nat
  /-- clock at which a sorus wait began (chapter 12) -/
  waitClock : Nat
  /-- FENCE.L fences and other ordering events the thread has passed (R114) -/
  fences : Nat
  deriving DecidableEq, Repr

/-- A group slot: its kernel slot, GID, and the issue cycles its unchosen program counters have waited (R142). -/
structure Group where
  kernel : Option Nat
  gid : Nat
  skips : List (Nat × Nat)
  deriving DecidableEq, Repr

/-- All Frond-side state outside the arrays: Fronds by f, DMA channels by f·16 + c, kernels by f·8 + k,
groups by f·64 + g, threads by group·32 + t, registers by thread·128 + n. -/
structure FrdState where
  arr : Sp Arr
  frd : Sp Frond
  dma : Sp Dma
  krn : Sp (Option Kernel)
  grp : Sp Group
  thr : Sp Thread
  gregs : Sp W32
  /-- the 8 predicate registers of a thread, one bit each -/
  preds : Sp Nat
  /-- flipped bits of a general register's codeword (R139, R167) -/
  regBad : Sp Nat
  stamp : Nat
  deriving DecidableEq, Repr

/-! ## The Thallus dies (chapter 06) -/

/-- Repair, patrol and mode state of the Thallus. Bank groups by ((tower·2 + die)·4 + quadrant)·32 + b. -/
structure ThlState where
  /-- spare rows and spare bit columns used, by bank group·32 + macro -/
  rowsUsed : Sp Nat
  colsUsed : Sp Nat
  /-- rows in their spare, by (bank group·32 + macro)·1024 + row -/
  rowsRepaired : List Nat
  /-- rows whose row-spares-exhausted record was raised; columns whose column-suspect record was -/
  rowSaid : List Nat
  colSaid : List Nat
  /-- spare bit columns in use: (bank group·32 + macro)·6656 + the column replaced -/
  colsRepaired : List Nat
  /-- rows and bit columns repaired in manufacture, by the fuse map (R194) -/
  fuseRows : List Nat
  fuseCols : List Nat
  /-- the wire map: wires replaced by spares, in the order of the spares, by ((tower·4 + q)·3 + kind)·32·16 + b·16 + segment;
  kind 0 read, 1 write, 2 TSV (R183) -/
  wires : Sp (List Nat)
  /-- CRC failures of a link in the last 1 ms, as (link, clock), and links on which a transfer failed twice in succession (R184) -/
  crcFails : List (Nat × Nat)
  crcTwice : List Nat
  /-- columns with bundles retired and with the TSV link retired, by (tower·4 + q)·32 + b -/
  bundleRet : List Nat
  tsvRet : List Nat
  /-- bank groups out of service (R195, R202, R288) -/
  unavail : List Nat
  /-- next byte of the patrol pass per bank group; bytes corrected by the last pass (R205, R197) -/
  patrolPos : Sp Nat
  patrolFix : List Nat
  patrolNow : List Nat
  /-- passes completed per bank group, and the clock at which the present pass began (R205, R207) -/
  patrolDone : Sp Nat
  patrolAt : Sp Nat
  /-- rows with a hard error that await repair (R197) -/
  rowDue : List Nat
  /-- corrections: (row key, clock) of the last 24 h; (macro·6656 + column, row) seen correcting -/
  rowCorr : List (Nat × Nat)
  colCorr : List (Nat × Nat)
  /-- temperature band per bank group (Table 06-7), bank groups at retention voltage, and the clock of each one's last access (R209) -/
  band : Sp Nat
  retention : List Nat
  lastUse : Sp Nat
  /-- GEN of the distance table (R212) -/
  distGen : Nat
  deriving DecidableEq, Repr

/-! ## The memory-side cache (chapter 07) -/

/-- A cached sector: valid, dirty, poisoned, its 32 bytes and the flipped bits of their codewords (R190, R223–R246). -/
structure Sector where
  valid : Bool
  dirty : Bool
  poison : Bool
  data : List Byte
  bad : Sp Nat
  deriving DecidableEq, Repr

/-- A way of a set: tag, pin, hit since fill, locked (reductions accepted), and four sectors. -/
structure CLine where
  valid : Bool
  tag : Nat
  pinned : Bool
  hit : Bool
  locked : Bool
  s0 : Sector
  s1 : Sector
  s2 : Sector
  s3 : Sector
  deriving DecidableEq, Repr

/-- A posted reduction held while a fill waits for its set (R244). -/
structure HeldRed where
  agent : Agent
  pa : Nat
  op : Nat
  ty : Nat
  bytes : List Byte
  deriving DecidableEq, Repr

/-- A DRAM access held in a slice's input queue while a region table is applied (R259) or a fill waits (R244). -/
structure HeldMem where
  agent : Agent
  pa : Nat
  write : Bool
  bytes : List Byte
  deriving DecidableEq, Repr

/-- A set-cache-mode operation not yet complete (R231). -/
structure ModeOp where
  ring : Nat
  idx : Nat
  tq : Nat
  mask : Nat
  named : Nat
  /-- groups whose pending request a later operation replaced -/
  replaced : Nat
  deriving DecidableEq, Repr

structure MscState where
  /-- ways by (slice·32768 + set)·16 + way -/
  lines : Sp CLine
  /-- tree pseudo-LRU bits by slice·32768 + set (R225) -/
  plru : Sp Nat
  /-- errors of the two tag copies by way key: bits 0 and 1 copy A and B uncorrectable, bits 2 and 3 one flipped bit in them (R247) -/
  tagBad : Sp Nat
  /-- single-copy errors corrected, counted (R247) -/
  tagCorr : Nat
  /-- mode of lower bank groups by (tower·4 + q)·32 + b: 0 scratchpad, 1 cache, 2 switching to cache, 3 to scratchpad -/
  mode : Sp Nat
  /-- latched request: 0 none, 1 scratchpad, 2 cache (R231) -/
  pend : Sp Nat
  /-- bank groups whose switch has done its work and awaits its end (R229, R230) -/
  switched : List Nat
  modeOps : List ModeOp
  /-- lines reserved by PIN operations against CAP_MIB (R238) -/
  reserved_ : Nat
  /-- accesses in the input queues of slices whose fill waits for a way, and lines whose fill waits for a requester that holds its own
  access (R244) -/
  waiting : List HeldMem
  fills : List Nat
  heldRed : List HeldRed
  /-- demand misses and early evictions of the present round, by slice (R249) -/
  misses : Sp Nat
  early : Sp Nat
  /-- clock of the slice's last thrash record -/
  thrashAt : Sp Nat
  deriving DecidableEq, Repr

/-! ## Memory piles (chapter 08) -/

/-- An applied region (R256, R257). -/
structure Region where
  en : Bool
  global : Bool
  tower : Nat
  base : Nat
  size : Nat
  choff : Nat
  deriving DecidableEq, Repr

/-- Pile state. Banks by channel·48 + bank, rows by bank·32768 + row, links by channel·12 + layer − 1. -/
structure PilState where
  applied : List Region
  /-- the table being applied while BUSY, and the accesses held meanwhile, in arrival order (R259) -/
  applying : List Region
  held : List HeldMem
  rowsUsed : Sp Nat
  rowsRetired : List Nat
  rowSaid : List Nat
  coilsUsed : Sp Nat
  /-- the coils a link lost, oldest first (R274) -/
  coilMap : Sp (List Nat)
  /-- refreshes postponed per bank (R270) -/
  postponed : Sp Nat
  refreshes : Sp Nat
  /-- next sector of each channel's scrub pass; sectors corrected in the last pass and in the present one -/
  scrubPos : Sp Nat
  /-- when a channel's next pass may begin (R271) -/
  scrubNext : Sp Nat
  scrubFix : List Nat
  scrubNow : List Nat
  rowCorr : List (Nat × Nat)
  /-- rows that met a rule of R272 and await retirement -/
  rowDue : List Nat
  deriving DecidableEq, Repr

/-! ## The package network (chapter 09) -/

/-- An entry of a dual-clock queue: its request's agent, the urgency in its sideband, and the flipped bits of its codeword (R289). -/
structure QEntry where
  agent : Agent
  urgency : Nat
  bad : Nat
  inj : Bool
  deriving DecidableEq, Repr

/-- An instance of a regulated resource: its pointer, the grants of the present round by class, the source granted last, and whether this
round has had its level-0 grant (R296–R299). -/
structure RegInst where
  slot : Nat
  grants : Sp Nat
  last : Nat
  promoted : Bool
  deriving DecidableEq, Repr

structure PnwState where
  /-- spare and dropped lanes used, by link: 0–39 tower links 10·t + l, 40–43 tower-to-hub links (R286) -/
  lanesBad : Sp Nat
  /-- the lanes of a link that failed, oldest first (R286) -/
  laneMap : Sp (List Nat)
  /-- links being retrained, and the CRC failures of links as (link, clock) (R286) -/
  retraining : List Nat
  crcFails : List (Nat × Nat)
  /-- dual-clock queues by the link at whose network side they stand (R289) -/
  queues : Sp (List QEntry)
  /-- instances of regulated resources by kind·1,024 + instance -/
  insts : Sp RegInst
  /-- failed routers, by tower·5 + router -/
  routersBad : List Nat
  /-- next hop by ((tower·5 + router)·5 + destination) in force (R281) -/
  routes : Sp Nat
  /-- slot table in force by kind·4 + word (R302) -/
  slots : Sp W64
  /-- slot table of a commit taken but not yet by every instance, by kind·4 + word -/
  slotsNew : Sp W64
  /-- commits latched while PENDING was 1 -/
  latched : Nat
  deriving DecidableEq, Repr

/-! ## Host port and program images (chapter 10) -/

/-- An HDM decoder (R308). -/
structure Hdm where
  committed : Bool
  /-- its commit-error bit -/
  err : Bool
  base : Nat
  size : Nat
  /-- interleave ways and granularity -/
  ways : Nat
  gran : Nat
  deriving DecidableEq, Repr

/-- A loaded program image (R348–R351). -/
structure Image where
  handle : Nat
  asid : Nat
  va : Nat
  len : Nat
  /-- the unload descriptor that waits for it -/
  unload : Option (Nat × Nat)
  deriving DecidableEq, Repr

structure HptState where
  /-- PERST# as the sideband or the fundamental reset last carried it (R319) -/
  perst : Bool
  /-- clock at which the link went down, while it is down (R312) -/
  downSince : Option Nat
  /-- MSI-X table words by byte offset / 8, vectors pending while masked, and vectors sent, newest first (R347) -/
  msix : Sp W64
  pba : List Nat
  sent : List Nat
  /-- host pages whose translation the host refuses; host pages whose accesses end in a host error (R311, Table 10-18) -/
  atsRefused : List Nat
  hostErr : List Nat
  /-- pages of the ATS translation cache (Table 10-1) -/
  ats : List Nat
  hdm0 : Hdm
  hdm1 : Hdm
  images : List Image
  /-- GEN of the capability structure (R324) -/
  capGen : Nat
  /-- IDE streams an integrity failure made insecure (R314) -/
  ideBad : List Nat
  /-- unsupported requests completed (R321) -/
  ur : Nat
  /-- the sideband is out of lock, which counts as PERST# asserted; LINK_READY as last sent (R319) -/
  sbLost : Bool
  ready : Bool
  /-- ring last served by each command processor, plus 1 (R333) -/
  cpPtr : Sp Nat
  /-- the latest answer to a CXL.mem read: its bytes, or none for poison (R308) -/
  memAnswer : Option (List Byte)
  deriving DecidableEq, Repr

/-! ## Descriptor rings (chapter 10) -/

/-- A descriptor: eight words (R335). -/
structure Desc where
  w0 : W64
  w1 : W64
  w2 : W64
  w3 : W64
  w4 : W64
  w5 : W64
  w6 : W64
  w7 : W64
  deriving DecidableEq, Repr

/-- A started descriptor: its free-running index, whether its operation has begun, and for a LAUNCH the Fronds used,
those still running, those that failed and the reason of the lowest failing Frond (R339); FROND_SCHED as it stood when the
descriptor started (R617). -/
structure Started where
  idx : Nat
  d : Desc
  ran : Bool
  used : Nat
  running : Nat
  failed : Nat
  reason : Nat
  sched : Nat
  deriving DecidableEq, Repr

/-- A finished descriptor whose completion entry is not yet written (R343, R346). -/
structure Compl where
  idx : Nat
  userTag : Nat
  status : Nat
  ktag : Nat
  reason : Nat
  result : Nat
  irq : Bool
  cmpl : Bool
  deriving DecidableEq, Repr

/-- One ring beside its registers. An index in these lists is the free-running index plus 2^32 for each host port reset the
ring has gone through (`epoch`), so a descriptor still running after one is told from those of the ring enabled again.
Descriptors fetched and not started, started, and finished; entries written since the
last interrupt and the clock of the first of them (R347); completions of descriptors started before a host reset are
discarded (R312). -/
structure Ring where
  epoch : Nat
  fetched : List (Nat × Desc)
  started : List Started
  done : List Compl
  pendCnt : Nat
  pendAt : Option Nat
  discard : List Nat
  deriving DecidableEq, Repr

/-! ## Sessions (chapter 11) -/

/-- State of a session slot (Table 11-1). -/
inductive SlotSt where
  | free
  | resident
  | stepping
  | parking
  | parked
  | resuming
  | closing
  | lost
  deriving DecidableEq, Repr

/-- A session slot (R356, R360, R382). `key`: the session key held in the slot's key slot. `seq`: the descriptor whose
sequence holds the slot; `pend`: the latched one. `recBad`, `copyBad`: the record, and the second copy of the binding,
hold an uncorrectable error. `image`: size of the image being parked. -/
structure Slot where
  st : SlotSt
  bound : Bool
  tenant : Nat
  asid : Nat
  pool : Nat
  layersM1 : Nat
  tb : Nat
  tokens : Nat
  dir : Nat
  parkCount : Nat
  key : Option (List Byte)
  seq : Option (Nat × Nat)
  pend : Option (Nat × Nat)
  recBad : Bool
  copyBad : Bool
  image : Nat
  deriving DecidableEq, Repr

/-- A KV pool (R361, R364): pages `0 … npages-1` of the arena, with `free` entries on the free stack. -/
structure Pool where
  valid : Bool
  tenant : Nat
  asid : Nat
  base : Nat
  npages : Nat
  free : Nat
  deriving DecidableEq, Repr

/-- A page reserved by a step: the slot, whether it is a page list or a KV page, its place and its index, in the order
popped (R373). -/
structure Resv where
  slot : Nat
  list_ : Bool
  place : Nat
  page : Nat
  deriving DecidableEq, Repr

/-- A session admitted to a step, with its index in the batch list and TOKENS before the step. -/
structure Admit where
  slot : Nat
  batch : Nat
  old : Nat
  deriving DecidableEq, Repr

/-- A plan entry (Table 11-7): phase 0 not started, 1 running, 2 complete; for a LAUNCH the Fronds still running, and the
lowest failing Frond with its reason. -/
structure PlanE where
  w0 : W64
  w1 : W64
  w2 : W64
  w3 : W64
  phase : Nat
  running : Nat
  fail : Option (Nat × Nat)
  deriving DecidableEq, Repr

/-- A step in progress (R372–R379). `fail`: the first failure where it is not a kernel's; `failEntry`: the entry whose kernel
failed first where it is. -/
structure StepRec where
  ring : Nat
  idx : Nat
  seqNo : Nat
  admitted : List Admit
  excluded : Nat
  resv : List Resv
  plan : List PlanE
  advance : Nat
  pf : Bool
  remap : Bool
  gbuf0 : Nat
  gbuf1 : Nat
  fail : Option Nat
  failEntry : Option Nat
  deriving DecidableEq, Repr

/-- The session engine. Steps are listed by handle 0–15. -/
structure SesState where
  slots : Sp Slot
  pools : Sp Pool
  steps : Sp (Option StepRec)
  stepSeq : Nat
  /-- the engine-down record has been raised since the engine last ran (R387) -/
  downSaid : Bool
  /-- slots whose sequence stopped when the engine went down (R387) -/
  stopped : List Nat
  deriving DecidableEq, Repr

/-! ## Sori (chapter 12) -/

/-- State of a sorus (R392). -/
inductive SorSt where
  | free
  | allocated
  | lost
  deriving DecidableEq, Repr

/-- A sorus (R392). `bound`: a copy of its binding is readable. `badV`, `badT`, `badB`, `badC`: flipped bits of VALUE, of
THRESH, of the binding and of its second copy. -/
structure Sorus where
  value : W64
  thresh : W64
  tenant : Nat
  remote : Bool
  st : SorSt
  bound : Bool
  badV : Nat
  badT : Nat
  badB : Nat
  badC : Nat
  deriving DecidableEq, Repr

/-- Where a queued signal came from: a kernel's thread, or a message of another module (device, tag, multicast). -/
inductive SigSrc where
  | thread (f k t : Nat)
  | remote (dev tag : Nat) (mc : Bool)
  deriving DecidableEq, Repr

/-- A signal on its way to its bank (R393): input of the sorus unit (0–15 Fronds, 16–23 command processors, 24 session
engine, 25 remote-signal intake), sorus, amount, tenant. -/
structure SUpd where
  party : Nat
  sorus : Nat
  n : Nat
  tenant : Nat
  src : SigSrc
  deriving DecidableEq, Repr

/-- A descriptor-wait entry (R405): due clock of its timeout; satisfied. -/
structure DWait where
  ring : Nat
  idx : Nat
  sorus : Nat
  thr : Nat
  due : Nat
  sat : Bool
  deriving DecidableEq, Repr

/-- The sorus unit. -/
structure SorState where
  sori : Sp Sorus
  queue : List SUpd
  /-- last party served, by bank, plus 1 (R294) -/
  ptr : Sp Nat
  waits : List DWait
  deriving DecidableEq, Repr

/-! ## The fabric (chapter 13) -/

/-- A fabric message (Table 13-6). -/
structure Msg where
  op : Nat
  dst : Nat
  src : Nat
  tenant : Nat
  mc : Bool
  lenM1 : Nat
  redop : Nat
  rtype : Nat
  hops : Nat
  /-- the reserved bit of the header -/
  rsv : Nat
  tag : Nat
  target : Nat
  data : List Byte
  deriving DecidableEq, Repr

/-- The flit-stream bytes of a block (R417, R418): its BSEQ and its 480 bytes, none for those of a block that was discarded. -/
structure LaneBlock where
  seq : Nat
  bytes : List (Option Byte)
  deriving DecidableEq, Repr

/-- A physical receive lane of a link (R419): lock and the run of good or bad blocks. -/
structure Lane where
  lock : Bool
  good : Nat
  bad : Nat
  /-- state of the lane's scrambler, once a block with BSEQ = 0 has come (R418) -/
  scr : Option Nat
  /-- BSEQ and LANE of the last block (Table 13-3) -/
  bseq : Nat
  logical : Nat
  /-- blocks that wait for those of the other lanes (R420) -/
  blocks : List LaneBlock
  deriving DecidableEq, Repr

/-- What an unacknowledged message was sent for, so that its acknowledgement or loss is seen (R443, R447, R450). -/
inductive SentFor where
  | other
  /-- a copy of a multicast message of a descriptor -/
  | multicast (r i : Nat)
  /-- the last chunk of a group's contribution -/
  | lastChunk (g : Nat)
  deriving DecidableEq, Repr

/-- A message in the replay buffer with the SEQ of its last flit and how often it was sent (R430, R431). -/
structure Unack where
  seq : Nat
  flits : Nat
  sends : Nat
  msg : Msg
  why : SentFor
  deriving DecidableEq, Repr

/-- A received message waiting in a receive buffer since a clock (R433). -/
structure RxMsg where
  m : Msg
  at_ : Nat
  deriving DecidableEq, Repr

/-- Credits of the four virtual channels, in units of 32 bytes (R432). -/
structure Credits where
  req : Nat
  rsp : Nat
  red : Nat
  ctl : Nat
  deriving DecidableEq, Repr

/-- A link (R412): light, training, lanes, identity, keys, sequence numbers, buffers and credits. STATE, CROSSED and the
peer's IDs are its registers. -/
structure Link where
  light : Bool
  /-- the crossed condition of R425 holds; rounds of swapping so far -/
  crossed : Bool
  rounds : Nat
  /-- training step reached (R424), 0 when not training -/
  tstep : Nat
  /-- clock of the last failed attempt -/
  failedAt : Option Nat
  lanes : Sp Lane
  identTx : List Byte
  identRx : List Byte
  /-- link keys by direction, the old receive key, epochs, flits sent and start clock under the key (R427, R428) -/
  keyTx : Option (List Byte)
  keyRx : Option (List Byte)
  keyOld : Option (List Byte)
  epochTx : Bool
  epochRx : Bool
  sentCnt : Nat
  keyAt : Nat
  rekeying : Bool
  /-- the ephemeral private key of the key exchange in progress (R427, R428) -/
  ephem : List Byte
  txSeq : Nat
  rxSeq : Nat
  /-- clock of the last NAK while the expected flit has not come; SEQ last acknowledged to the peer (R430) -/
  nak : Option Nat
  ackSent : Nat
  txq : List (Msg × SentFor)
  unack : List Unack
  credTx : Credits
  /-- credits to be returned to the peer -/
  credRet : Credits
  /-- bytes of a message not yet whole -/
  partial_ : List Byte
  rxbuf : List RxMsg
  /-- clocks of tag failures, SEQ of the last one, clocks of undecodable blocks (R429, R431) -/
  tagFails : List Nat
  tagSeq : Option Nat
  badBlocks : List Nat
  /-- BSEQ of the next row of blocks once the lanes are deskewed, flit-stream bytes short of a flit, and flits that have come (R420, R421) -/
  nextB : Option Nat
  stream : List (Option Byte)
  flits : List (List (Option Byte))
  /-- retrains in succession that failed (R431) -/
  retrFails : Nat
  deriving DecidableEq, Repr

/-- A window (R438). -/
structure Win where
  open_ : Bool
  perm : Nat
  base : Nat
  len64k : Nat
  tenant : Nat
  asid : Nat
  deriving DecidableEq, Repr

/-- A reduction-group entry (Table 13-11). -/
structure RGrp where
  w0 : W64
  w1 : W64
  deriving DecidableEq, Repr

/-- A request outstanding (R444): its descriptor, first hop, what it asked and when it was sent. -/
structure Req where
  tag : Nat
  ring : Nat
  idx : Nat
  link : Nat
  op : Nat
  /-- for READ: where the data goes and how many bytes -/
  va : Nat
  len : Nat
  sentAt : Nat
  deriving DecidableEq, Repr

/-- A fabric descriptor in progress (R442, R443): next message, messages in all, requests or acknowledgements awaited, the
first error. -/
structure Job where
  ring : Nat
  idx : Nat
  next : Nat
  total : Nat
  waiting : Nat
  err : Option Nat
  deriving DecidableEq, Repr

/-- A chunk being combined (R445): index, value so far where a contribution came, links that contributed, local part in. -/
structure Chunk where
  index : Nat
  value : Option (List Byte)
  from_ : Nat
  local_ : Bool
  deriving DecidableEq, Repr

/-- A reduction in progress in a group (R445–R448). -/
structure Red where
  ring : Nat
  idx : Nat
  seq : Nat
  redop : Nat
  rtype : Nat
  chunks : Nat
  startAt : Nat
  /-- lowest incomplete chunk; chunks completed since the last ADVANCE; LIMIT from the parent; chunks sent to it -/
  low : Nat
  since : Nat
  limit : Nat
  sent : Nat
  /-- the last chunk is acknowledged by the parent link, or every chunk is performed (R447) -/
  fin : Bool
  window : List Chunk
  deriving DecidableEq, Repr

/-- A session being received (R449): sender, TOKENS and pages, pieces received, pages taken. -/
structure Xfer where
  src : Nat
  tokens : Nat
  np : Nat
  got : Nat
  resv : List Resv
  /-- the link it arrives on -/
  link : Nat
  deriving DecidableEq, Repr

/-- A spore broadcast of this module (R641): its descriptor, receivers with their device IDs, STATUS and bitmap bytes read so far;
phase 0 multicast, 1 reading bitmaps, 2 sending chunks; rounds done. -/
structure SporeJob where
  ring : Nat
  idx : Nat
  phase : Nat
  round : Nat
  waiting : Nat
  devs : List (Nat × Nat)
  maps : List (List Byte)
  /-- WRITEs of the round still to be sent, as (receiver, byte offset) -/
  todo : List (Nat × Nat)
  deriving DecidableEq, Repr

/-- The fabric. Links by link code; link code 32 is the module's own loop for messages to itself (R435). -/
structure FabState where
  links : Sp Link
  /-- latched EN·2 + SPLIT by port (R415) -/
  latched : Sp (Option Nat)
  wins : Sp Win
  routes : Sp W16
  mcast : Sp W64
  groups : Sp RGrp
  reqs : List Req
  jobs : List Job
  reds : Sp (Option Red)
  /-- ABORTs of a SEQ not yet started: (group, SEQ) (R448) -/
  aborted : List (Nat × Nat)
  /-- LIMITs of the latest ADVANCE of a SEQ not yet started: (group, SEQ, LIMIT) (R447) -/
  advs : List (Nat × Nat × Nat)
  spores : List SporeJob
  nextTag : Nat
  xfers : Sp (Option Xfer)
  deriving DecidableEq, Repr

/-! ## Security (chapter 14) -/

/-- An IDE stream (R483): its two key sets and the one in use. Stream 0 is the link stream of CXL.io, 1–4 its selective
streams, 5 CXL.cachemem. -/
structure IdeStream where
  set0 : Option (List Byte)
  set1 : Option (List Byte)
  use : Option Nat
  deriving DecidableEq, Repr

/-- An owner message (R477): 0 OWNER_CLAIM, 1 OWNER_RELEASE, 2 POLICY_SET, 3 PEER_TABLE_LOAD. -/
structure OwnerMsg where
  kind : Nat
  counter : Nat
  /-- the owner key of a claim -/
  key : List Byte
  policy : Nat
  /-- peer table: serials and DevID keys -/
  peers : List (Nat × List Byte)
  deriving DecidableEq, Repr

structure SecState where
  /-- consecutive passes of the random source's retest, clock of the last failure or retest; requests since the last reseed (R459) -/
  passes : Nat
  retestAt : Nat
  requests : Nat
  /-- the device keys are derived (R460) -/
  derived : Bool
  /-- the alias certificate as issued by the DevID key (R461) -/
  aliasCert : List Byte
  /-- LMS_NEXT as committed; a reservation is due, is being committed, has an outcome not yet taken up (R468, R469) -/
  lmsNext : Nat
  /-- next index to be used, SEC_LMS.NEXT_Q (R468) -/
  nextIdx : Nat
  lmsDue : Bool
  lmsBusy : Bool
  lmsDone : Option Bool
  /-- HSS signatures in a second (R470) -/
  sigSecond : Nat
  sigCount : Nat
  /-- the bottom tree being built and the last one built, by top-tree leaf (R470) -/
  building : Option Nat
  built : Nat
  /-- clock of the last LMS-index-low record -/
  lowAt : Option Nat
  /-- evidence requests that wait for a reserved index: nonce (R468) -/
  evWait : List Nat
  /-- tenant keys (R471, R473) -/
  tenantKeys : Sp (Option (List Byte))
  /-- anti-rollback counters by image class (R467) -/
  arc : Sp Nat
  ownerKey : Option (List Byte)
  /-- counter of the last owner message accepted -/
  ownerCtr : Nat
  /-- owner messages whose commits have not completed, oldest first -/
  ownerMsgs : List OwnerMsg
  /-- peer table (R479) -/
  peers : List (Nat × List Byte)
  ide : Sp IdeStream
  /-- secrets of the four SPDM sessions (Table 14-4) and whether each runs over the Night port -/
  spdm : Sp (Option (List Byte))
  spdmNight : List Nat
  /-- TENANT_ERASE descriptors that wait for their commit: ring, index, tenant, slots freed (R474) -/
  erasing : List (Nat × Nat × Nat × Nat)
  /-- an owner release waits for its commit (R478) -/
  releasing : Bool
  /-- the latest answer sent to a management or SPDM request (R480, R482, R661) -/
  reply : List Byte
  deriving DecidableEq, Repr


/-! ## Power and thermal (chapters 15, 16) -/

/-- Supplies and regulators. Inputs by role: 0 main, 1 backup; contact sets 0 and 1. Regulator groups by key: tower t group g at
24·t + g, pile p group g at 96 + 4·p + g, hub group g at 128 + g, light engine e at 136 + e, Night converter at 154. -/
structure PwrState where
  /-- clock since which each input is qualified without a break (R491); clock at which it was last disqualified (R490, R494) -/
  qualAt : Sp (Option Nat)
  offAt : Sp (Option Nat)
  /-- failed phases, as key·32 + phase -/
  phases : List Nat
  /-- cells shed (R496) -/
  cells : List Nat
  /-- branches tripped: 0–3 towers, 4–11 piles, 12 and 13 hub branches A and B (R497) -/
  branches : List Nat
  /-- rails of a tower gone dark, as tower·15 + rail (R501) -/
  dark : List Nat
  /-- consecutive rounds a contact's share was abnormal, by set·16 + pole·8 + contact (R495) -/
  contactRuns : Sp Nat
  /-- set whose input is out of service (R494) -/
  outOfService : List Nat
  /-- Fronds whose clock the power hold has stopped (R508) -/
  held : List Nat
  /-- cycles of 16 skipped between rounds, by Frond (R511) -/
  skip : Sp Nat
  /-- core voltage by tower·2 + rail, in tenths of a mV, and clock steps that wait for their ramp, each with the clock at which the ramp
  began, by Frond (R512) -/
  volt : Sp Nat
  clkUp : Sp (Option (Nat × Nat))
  /-- energy below a whole millijoule, by input, in nanojoules (R514) -/
  energyRest : Sp Nat
  /-- the hub and network clocks are held to 1,200 MHz (R502) -/
  hubSlow : Bool
  /-- piles held at half command issue rate by their regulators (R502) -/
  pileHalf : List Nat
  deriving DecidableEq, Repr

/-- The thermal model (R521–R533). Temperatures in thousandths of a degree. Nodes: tower t node n at 12·t + n (Frond regions 0–3,
upper 4–7, lower 8–11), pile p at 48 + 4·p + n (base, three layer groups), hub 80, light engine e at 81 + e, keep die 99.
Sensors: tower t sensor n at 32·t + n, pile p at 128 + 16·p + n, hub 256 + n, engine 264 + e, keep die 282. -/
structure ThmState where
  started : Bool
  /-- node temperatures, junction estimates, offsets -/
  temp : Sp Int
  junction : Sp Int
  off : Sp Int
  /-- rounds since Noon's clocks began, for every 10th round (R529) -/
  round : Nat
  flagged : List Nat
  /-- consecutive rounds a sensor disagreed (R525) -/
  disagree : Sp Nat
  /-- consecutive rounds in which all unflagged sensors of a zone disagreed: below the model, above it, and not so (R527) -/
  zoneLow : Sp Nat
  zoneHigh : Sp Nat
  zoneOk : Sp Nat
  /-- clock until which every zone is treated as in calibration fault (R523) -/
  faultUntil : Option Nat
  /-- throttle level and consecutive rounds below 100 °C, by Frond (R530) -/
  level : Sp Nat
  cool : Sp Nat
  /-- rounds a node's unflagged sensors have all agreed since its offset last moved (R524) -/
  agree : Sp Nat
  /-- the hub stands at or above its warning level; the hub's throttle -/
  hubWarn : Bool
  hubThrottle : Bool
  /-- light engines whose lasers are off for temperature (R533) -/
  engHot : List Nat
  deriving DecidableEq, Repr


/-! ## Bring-up (chapter 17) -/

/-- A stage report (Table 17-4); outcome 0 passed, 1 passed with fences, 2 fatal, 3 timeout, 4 not run. -/
structure StageRep where
  outcome : Nat
  attempt : Nat
  startTs : Nat
  elapsedUs : Nat
  fatal : Nat
  ndrop : Nat
  frondUp : Nat
  fportUp : Nat
  pileUp : Nat
  towerUp : Nat
  endpoints : Nat
  rounds : Nat
  /-- at most 62, in the order raised -/
  recs : List FaultRec
  deriving DecidableEq, Repr

structure BootState where
  /-- a start is in progress, and the stage at which its work stopped with its reason -/
  running : Bool
  failed : Option (Nat × Nat)
  /-- clock at which the stage began; SEQ and early records at that point (R552) -/
  stageAt : Nat
  seqAt : Nat
  earlyAt : Nat
  dropAt : Nat
  /-- reports of the current start and of the last failed start, by stage -/
  reports : Sp StageRep
  lastFailed : Sp StageRep
  /-- Predawn has begun in this start (R654) -/
  predawn : Bool
  /-- the waiting-for-coolant record was raised in this cold start (R539) -/
  coolantSaid : Bool
  /-- the raised count of starts is not yet committed; FAILED_STARTS is held (R666, R554) -/
  startsHeld : Bool
  failHeld : Bool
  /-- clock at which the 1 s wait after a failed start ends (R555) -/
  retryAt : Option Nat
  /-- the present start was made from Twilight mode or by the recovery loader (R557, R558) -/
  fromTwilight : Bool
  noonAt : Option Nat
  /-- management cores running -/
  cores : List Nat
  /-- light-engine controllers and pile base controllers that run a verified image -/
  lightCtl : List Nat
  pileCtl : List Nat
  /-- host and Night engines on their ROM image (Table 17-3) -/
  romEngines : List Nat
  /-- restarts in progress by unit (towers 16 + t): the descriptors that complete with it -/
  restarting : Sp (Option (List (Nat × Nat)))
  /-- latched restarts by unit, likewise -/
  latched : Sp (Option (List (Nat × Nat)))
  /-- units fenced again during their restart (R562) -/
  refenced : List Nat
  /-- Fronds the module restarted on its own (R563) -/
  autoTried : List Nat
  /-- Fronds fenced for wake timeout (R135, R563) -/
  wakeFenced : List Nat
  /-- bank each class started from in this start -/
  bankUsed : Sp Nat
  deriving DecidableEq, Repr


/-! ## Firmware update (chapter 20) -/

/-- A manifest and its image (R622). -/
structure FwImage where
  manifest : List Byte
  image : List Byte
  deriving DecidableEq, Repr

/-- The firmware banks, the hub image store, the update in progress and the staging of packages. -/
structure FwuState where
  /-- slots by bank·16 + class -/
  banks : Sp (Option FwImage)
  /-- hub image store: the image each class runs, and the new one of a class being switched (R547, R628) -/
  store : Sp (Option FwImage)
  fresh : Sp (Option FwImage)
  /-- classes of the update not yet committed, in order; endpoints of the first that run the new image -/
  todo : List Nat
  switched : List Nat
  /-- endpoint being switched -/
  cur : Option Nat
  /-- Night clock at which its switch began (Table 20-4) -/
  curAt : Nat
  /-- fences raised against its unit meanwhile, which take effect when the switch ends (R631) -/
  deferred : List FUnit
  /-- the class transaction is being committed -/
  committing : Bool
  /-- anti-rollback raises that wait for Noon: class, SVN, REVOKE (R638) -/
  raises : List (Nat × Nat × Nat)
  /-- spore staging (R639): bytes received by package offset, whole reads of the bitmap, package complete and verified -/
  spBytes : Sp (Option Byte)
  spReads : Nat
  spDone : Bool
  /-- PLDM staging: classes transferred into the inactive bank (R637) -/
  pldm : List Nat
  deriving DecidableEq, Repr

/-! ## Connections (chapter 21) -/

structure ConState where
  /-- clock of the removal request (R655) -/
  rmAt : Option Nat
  /-- next free byte of the park area, and sessions whose parking has begun in phase 3 -/
  parkNext : Nat
  /-- lanes that are low, by port (0–15 fabric, 16 host, 17 Night)·32 + lane (R652) -/
  lowLanes : List Nat
  /-- the link control frame last sent, and the answer to the last management read (R660, R661) -/
  frame : List Byte
  /-- clock at which a link control frame was last sent (R660) -/
  frameAt : Option Nat
  readAnswer : Nat
  /-- MCTP endpoint ID (R661) -/
  eid : Nat
  /-- sessions whose parking phase 3 began, in order -/
  parkList : List Nat
  /-- the shutdown of R493 has been carried out: everything but the Night domain is off until an input is qualified -/
  shutdown : Bool
  deriving DecidableEq, Repr


/-! ## Values of units nothing has written yet -/

def StatSet.zero : StatSet := ⟨0, 128, false, false, false, [], []⟩
def Arr.init : Arr :=
  { queue := [], active := none, shadow := none, shadowDone := false, acc := [], accBad := [], slots := [], fmem := [], fmemBad := [], accCorr := 0, test := none, owner := none, lastTenant := none, seqUp := false, doneTag := none }
def Frond.init : Frond :=
  { lq := [], stub := [], sbuf := [], dcache := [], icache := [], icacheBad := [], icacheTenant := none, icParity := 0, tlb := [], walk := [], asp := [], heldAcc := [], watch := [], lsErr := [], clHeld := [], slotHeld := [], waking := false, wakeSlow := false, wakeFrom := 0, wakeAt := 0, idleFrom := 0, lsCorr := 0, sbCorr := 0, regCorr := 0, stubFenced := false, draining := false, drainAt := 0, inReset := false, drainPend := false, dmaSeqUp := false }
def Dma.init : Dma := ⟨[], none⟩
def Thread.init : Thread := ⟨false, 0, 0, .ready, 0, 0, 0⟩
def Group.init : Group := ⟨none, 0, []⟩
def Sector.init : Sector := ⟨false, false, false, [], []⟩
def CLine.init : CLine := ⟨false, 0, false, false, false, Sector.init, Sector.init, Sector.init, Sector.init⟩
def Region.init : Region := ⟨false, false, 0, 0, 0, 0⟩
def Ring.init : Ring := ⟨0, [], [], [], 0, none, []⟩
def RetBlock.init : RetBlock := ⟨0, []⟩
def Slot.init : Slot :=
  { st := .free, bound := false, tenant := 0, asid := 0, pool := 0, layersM1 := 0, tb := 0, tokens := 0, dir := 0, parkCount := 0, key := none, seq := none, pend := none, recBad := false, copyBad := false, image := 0 }
def Pool.init : Pool := ⟨false, 0, 0, 0, 0, 0⟩
def Sorus.init : Sorus := ⟨0#64, 0#64, 0, false, .free, false, 0, 0, 0, 0⟩
def SesState.init : SesState := { slots := [], pools := [], steps := [], stepSeq := 0, downSaid := false, stopped := [] }
def SorState.init : SorState := { sori := [], queue := [], ptr := [], waits := [] }
def Lane.init : Lane := ⟨false, 0, 0, none, 0, 0, []⟩
def Credits.zero : Credits := ⟨0, 0, 0, 0⟩
def Link.init : Link :=
  { light := false, crossed := false, rounds := 0, tstep := 0, failedAt := none, lanes := [], identTx := [], identRx := [], keyTx := none, keyRx := none, keyOld := none, epochTx := false, epochRx := false, sentCnt := 0, keyAt := 0, rekeying := false, ephem := [], txSeq := 0, rxSeq := 0, nak := none, ackSent := 0, txq := [], unack := [], credTx := .zero, credRet := .zero, partial_ := [], rxbuf := [], tagFails := [], tagSeq := none, badBlocks := [], nextB := none, stream := [], flits := [], retrFails := 0 }
def Win.init : Win := ⟨false, 0, 0, 0, 0, 0⟩
def RGrp.init : RGrp := ⟨0#64, 0#64⟩
def FabState.init : FabState :=
  { links := [], latched := [], wins := [], routes := [], mcast := [], groups := [], reqs := [], jobs := [], reds := [], aborted := [], advs := [], spores := [], nextTag := 0, xfers := [] }
def IdeStream.init : IdeStream := ⟨none, none, none⟩
def SecState.init : SecState :=
  { passes := 0, retestAt := 0, requests := 0, derived := false, aliasCert := [], lmsNext := 0, nextIdx := 0, lmsDue := false, lmsBusy := false, lmsDone := none, sigSecond := 0, sigCount := 0, building := none, built := 0, lowAt := none, evWait := [], tenantKeys := [], arc := [], ownerKey := none, ownerCtr := 0, ownerMsgs := [], peers := [], ide := [], spdm := [], spdmNight := [], erasing := [], releasing := false, reply := [] }
def PwrState.init : PwrState :=
  { qualAt := [], offAt := [], phases := [], cells := [], branches := [], dark := [], contactRuns := [], outOfService := [], held := [], skip := [], volt := [], clkUp := [], energyRest := [], hubSlow := false, pileHalf := [] }
def ThmState.init : ThmState :=
  { started := false, temp := [], junction := [], off := [], round := 0, flagged := [], disagree := [], zoneLow := [], zoneHigh := [], zoneOk := [], faultUntil := none, level := [], cool := [], agree := [], hubWarn := false, hubThrottle := false, engHot := [] }
def StageRep.init : StageRep := ⟨4, 0, 0, 0, 0, 0, 0, 0, 0, 0, 0, 0, []⟩
def BootState.init : BootState :=
  { running := false, failed := none, stageAt := 0, seqAt := 0, earlyAt := 0, dropAt := 0, reports := [], lastFailed := [], predawn := false, coolantSaid := false, startsHeld := false, failHeld := false, retryAt := none, fromTwilight := false, noonAt := none, cores := [], lightCtl := [], pileCtl := [], romEngines := [], restarting := [], latched := [], refenced := [], autoTried := [], wakeFenced := [], bankUsed := [] }
def FwuState.init : FwuState :=
  { banks := [], store := [], fresh := [], todo := [], switched := [], cur := none, curAt := 0, deferred := [], committing := false, raises := [], spBytes := [], spReads := 0, spDone := false, pldm := [] }
def ConState.init : ConState :=
  { rmAt := none, parkNext := 0, lowLanes := [], frame := [], frameAt := none, readAnswer := 0, eid := 0, parkList := [], shutdown := false }

def MemState.init : MemState :=
  { dram := [], dramBad := [], dramMeta := [], thl := [], thlBad := [], ls := [], lsBad := [], host := [], injected := [] }
def FrdState.init : FrdState :=
  { arr := [], frd := [], dma := [], krn := [], grp := [], thr := [], gregs := [], preds := [], regBad := [], stamp := 0 }
def ThlState.init : ThlState :=
  { rowsUsed := [], colsUsed := [], rowsRepaired := [], rowSaid := [], colSaid := [], colsRepaired := [], fuseRows := [], fuseCols := [], wires := [], crcFails := [], crcTwice := [], bundleRet := [], tsvRet := [], unavail := [], patrolPos := [], patrolFix := [], patrolNow := [], patrolDone := [], patrolAt := [], rowDue := [], rowCorr := [], colCorr := [], band := [], retention := [], lastUse := [], distGen := 0 }
def MscState.init : MscState :=
  { lines := [], plru := [], tagBad := [], tagCorr := 0, mode := [], pend := [], switched := [], modeOps := [], reserved_ := 0, waiting := [], fills := [], heldRed := [], misses := [], early := [], thrashAt := [] }
def PilState.init : PilState :=
  { applied := [], applying := [], held := [], rowsUsed := [], rowsRetired := [], rowSaid := [], coilsUsed := [], coilMap := [], postponed := [], refreshes := [], scrubPos := [], scrubNext := [], scrubFix := [], scrubNow := [], rowCorr := [], rowDue := [] }
def RegInst.init : RegInst := ⟨0, [], 255, false⟩
def PnwState.init : PnwState :=
  { lanesBad := [], laneMap := [], retraining := [], crcFails := [], queues := [], insts := [], routersBad := [], routes := [], slots := [], slotsNew := [], latched := 0 }
def Hdm.init : Hdm := ⟨false, false, 0, 0, 1, 256⟩
def HptState.init : HptState :=
  { perst := true, downSince := none, msix := [], pba := [], sent := [], atsRefused := [], hostErr := [], ats := [], hdm0 := .init, hdm1 := .init, images := [], capGen := 0, ideBad := [], ur := 0, sbLost := true, ready := false, cpPtr := [], memAnswer := none }
def FltState.init : FltState :=
  { log := [], seqNext := 0, early := [], earlyDrop := 0, fences := [], cmdTags := [], ringFrom := 0, ringIrqAt := none, ringIrqDue := false, blocks := [], openBlock := none, lastBlock := 63, retSecond := 0, retCommits := 0, runWhole := [] }
/-- What the factory commits (R571): the counters and the revocation mask at 0 (R464, R467), no owner, LMS_NEXT and the start
count at 0, every class in bank 0, and the item sections with no item (assumption 35). -/
def factoryWrites : List LWrite :=
  [1, 2, 3, 4, 5, 0x0A, 0x0B, 0x0E, 0x0F, 0x10].map (fun n => ⟨n, 0, true, [], 0⟩) ++
  [⟨0x06, 0, false, [0], 8⟩, ⟨0x07, 0, false, List.replicate 17 0, 72⟩, ⟨0x08, 0, false, [0], 8⟩, ⟨0x09, 0, false, [0, 0, 0], 112⟩,
   ⟨0x0C, 0, false, [0, 0, 0], 16⟩] ++
  (List.range 8).map (fun c => ⟨0x0D, c, false, [0, 0], 16⟩)
/-- Bytes a record occupies (R570). -/
def LWrite.bytes (w : LWrite) : Nat := 80 + (w.len + 15) / 16 * 16
def factoryCopies : List LCopy := (List.range factoryWrites.length).reverse.filterMap (fun i =>
  (factoryWrites[i]?).map (fun w => ⟨w, i + 1, 0, false, true, true⟩))
def factoryBytes : Nat := factoryWrites.foldl (fun a w => a + w.bytes) 0
def LdgState.init : LdgState :=
  { halfA := factoryCopies, halfB := factoryCopies, okA := true, okB := true, seq := factoryWrites.length, queue := [], mounted := false, starts := 0, poolPages := 32768, usedA := factoryBytes, usedB := factoryBytes, writtenA := factoryBytes, writtenB := factoryBytes, zeroSaid := [], correctedPages := [], lasers := [], sparesUsed := [], wornDue := [], wear := [], bias := [], hourAt := 0, dailyAt := none }

/-! ## The state of the module -/

/-- The module: the part, the Night clock, the free-value counter, the commands waiting (oldest first), the registers by
BAR0 offset, the memories and every unit's state. -/
structure State where
  part : Part
  clock : Nat
  free : Nat
  pending : List Instr
  /-- an access of the command in progress met memory that holds accesses; false between commands (assumption 107) -/
  waited : Bool
  regs : Sp W64
  mem : MemState
  frd : FrdState
  thl : ThlState
  msc : MscState
  pil : PilState
  pnw : PnwState
  hpt : HptState
  rng : Sp Ring
  ses : SesState
  sor : SorState
  fab : FabState
  sec : SecState
  pwr : PwrState
  thm : ThmState
  boot : BootState
  fwu : FwuState
  con : ConState
  ldg : LdgState
  flt : FltState
  deriving DecidableEq, Repr

/-- Why a step stops with a fault: nothing stops this machine with a fault. Every command of the table has an effect the
spec states or leaves the state as it is; the module's own faults are records (R595), not stops (safe). -/
inductive Fault where
  deriving DecidableEq, Repr

/-- Why a step is refused. -/
inductive Refusal where
  /-- Raised by an arm of the dispatch whose command has no meaning yet (safe: no next state is claimed). -/
  | notModelled (mnemonic : String)
  deriving DecidableEq, Repr

/-- The module right after reset: an FJD-2848 before any input supply is qualified (R488, R666): no bring-up stage has
begun, every register holds its reset value, no memory lists a byte (assumptions 1, 2, 4). -/
def State.reset : State :=
  { part := .fjd2848, clock := 0, free := 0, pending := [], waited := false, regs := [], mem := .init, frd := .init, thl := .init,
    msc := .init, pil := .init, pnw := .init, hpt := .init, rng := [],
    ses := .init, sor := .init,
    fab := .init,
    sec := .init,
    pwr := .init, thm := .init,
    boot := .init,
    fwu := .init, con := .init,
    ldg := .init, flt := .init }

end Sys2Proof.Machine
end

