-- ==== Sys2Proof/Machine/Ops.lean ====
section
/-!
DEFINITION. The operations every command shares: registers, units by index, presence and reachability, host memory and
interrupts, fault records (chapter 19), fences, and the completion of descriptors and kernels.
-/

namespace Sys2Proof.Machine

/-! ## Variants (Table 00-1, Table 00-2) -/

def Part.towers : Part → Nat
  | .fjd2824 => 2
  | _ => 4
/-- DRAM of the variant in GiB (R255). -/
def Part.dramGib : Part → Nat
  | .fjd2824 => 192
  | _ => 384
def Part.fports : Part → Nat
  | .fjd2848 => 16
  | _ => 8
def Part.code : Part → Nat
  | .fjd2848 => 0x2848
  | .fjd2840 => 0x2840
  | .fjd2824 => 0x2824
def State.towers (s : State) : Nat := s.part.towers
def State.fronds (s : State) : Nat := 4 * s.part.towers
def State.piles (s : State) : Nat := 2 * s.part.towers
def State.channels (s : State) : Nat := 32 * s.part.towers
def State.hasFru (s : State) : Bool := s.part == .fjd2848

/-! ## Registers -/

/-- The word stored in a register slot. -/
def State.rword (s : State) (off : Nat) : W64 := spGet (resetWord s.part.dramGib) s.regs off
def State.setRword (s : State) (off : Nat) (v : W64) : State :=
  { s with regs := spPut (resetWord s.part.dramGib) s.regs off v }
/-- A register field. -/
def State.rget (s : State) (f : Fd) : Nat := fld (s.rword f.off) f.hi f.lo
/-- Write a register field. -/
def State.rset (s : State) (f : Fd) (v : Nat) : State := s.setRword f.off (setFld (s.rword f.off) f.hi f.lo v)
/-- Add to a counter field, saturating at all ones. -/
def State.radd (s : State) (f : Fd) (k : Nat) : State := s.rset f (satAdd (2 ^ (f.hi + 1 - f.lo) - 1) (s.rget f) k)
/-- Set or clear one bit of a field. -/
def State.rbit (s : State) (f : Fd) (i : Nat) (b : Bool) : State :=
  s.rset f (if b then s.rget f ||| (1 <<< i) else s.rget f &&& ((2 ^ (f.hi + 1 - f.lo) - 1) ^^^ (1 <<< i)))

/-- A fresh free value, and the state with the counter advanced (assumption 3). -/
def State.fresh (s : State) : W64 × State := (Config.freeWord s.free, { s with free := s.free + 1 })

/-- Memory that holds accesses was met (R134, R259, R312). -/
def State.setWaited (s : State) : State := { s with waited := true }
/-- The fills that an access which is held waits for go on in their slices (R244). -/
def State.keepFills (s t : State) : State := { s with msc.fills := t.msc.fills }
/-- A command one of whose accesses is held leaves the state as it was, and is given again (assumption 107). -/
def State.attempt (s : State) (act : State → State) : State :=
  let t := act s
  if t.waited then s.keepFills t else t

/-! ## Units by index -/

def State.arr (s : State) (f a : Nat) : Arr := spGet (fun _ => Arr.init) s.frd.arr (f * 8 + a)
def State.setArr (s : State) (f a : Nat) (v : Arr) : State :=
  { s with frd.arr := spPut (fun _ => Arr.init) s.frd.arr (f * 8 + a) v }
def State.modArr (s : State) (f a : Nat) (g : Arr → Arr) : State := s.setArr f a (g (s.arr f a))
def State.fr (s : State) (f : Nat) : Frond := spGet (fun _ => Frond.init) s.frd.frd f
def State.setFr (s : State) (f : Nat) (v : Frond) : State :=
  { s with frd.frd := spPut (fun _ => Frond.init) s.frd.frd f v }
def State.modFr (s : State) (f : Nat) (g : Frond → Frond) : State := s.setFr f (g (s.fr f))
def State.dma (s : State) (f c : Nat) : Dma := spGet (fun _ => Dma.init) s.frd.dma (f * 16 + c)
def State.setDma (s : State) (f c : Nat) (v : Dma) : State :=
  { s with frd.dma := spPut (fun _ => Dma.init) s.frd.dma (f * 16 + c) v }
def State.krn (s : State) (f k : Nat) : Option Kernel := spGet (fun _ => none) s.frd.krn (f * 8 + k)
def State.setKrn (s : State) (f k : Nat) (v : Option Kernel) : State :=
  { s with frd.krn := spPut (fun _ => none) s.frd.krn (f * 8 + k) v }
def State.grp (s : State) (f g : Nat) : Group := spGet (fun _ => Group.init) s.frd.grp (f * 64 + g)
def State.setGrp (s : State) (f g : Nat) (v : Group) : State :=
  { s with frd.grp := spPut (fun _ => Group.init) s.frd.grp (f * 64 + g) v }
def thrKey (f g t : Nat) : Nat := (f * 64 + g) * 32 + t
def State.thr (s : State) (f g t : Nat) : Thread := spGet (fun _ => Thread.init) s.frd.thr (thrKey f g t)
def State.setThr (s : State) (f g t : Nat) (v : Thread) : State :=
  { s with frd.thr := spPut (fun _ => Thread.init) s.frd.thr (thrKey f g t) v }
def State.modThr (s : State) (f g t : Nat) (h : Thread → Thread) : State := s.setThr f g t (h (s.thr f g t))
def State.greg (s : State) (f g t n : Nat) : W32 := spGet (fun _ => 0#32) s.frd.gregs (thrKey f g t * 128 + n)
def State.pred (s : State) (f g t : Nat) : Nat := spGet (fun _ => 0) s.frd.preds (thrKey f g t)
def State.setPred (s : State) (f g t : Nat) (v : Nat) : State :=
  { s with frd.preds := spPut (fun _ => 0) s.frd.preds (thrKey f g t) v }
def State.ring (s : State) (r : Nat) : Ring := spGet (fun _ => Ring.init) s.rng r
def State.setRing (s : State) (r : Nat) (v : Ring) : State := { s with rng := spPut (fun _ => Ring.init) s.rng r v }
def State.modRing (s : State) (r : Nat) (g : Ring → Ring) : State := s.setRing r (g (s.ring r))

/-! ## Locations (R14, R93, R136, R217, R252, R277, R304) -/

def Loc.whole : Loc := ⟨0, 0, 0, 0x3F, 0xFF, 0xFF, 0xFFFF⟩
def locFrond (f e m p : Nat) : Loc := ⟨1, f / 4, 0, f % 4, e, m, p⟩
def locFrondWhole (f : Nat) : Loc := locFrond f 0xFF 0xFF 0xFFFF
def locTower (t : Nat) : Loc := ⟨1, t, 0, 0x3F, 0xFF, 0xFF, 0xFFFF⟩
def locThl (t die q e m p : Nat) : Loc := ⟨1, t, die + 1, q, e, m, p⟩
def locPile (p die reg e m pos : Nat) : Loc := ⟨2, p, die, reg, e, m, pos⟩
def locHub (reg e m p : Nat) : Loc := ⟨3, 0, 0, reg, e, m, p⟩
def locRing (cp r : Nat) : Loc := locHub 0x11 cp 0xFF r
def locKeep (reg e m p : Nat) : Loc := ⟨6, 0, 0, reg, e, m, p⟩

/-- The location code of Table 00-5 with the device ID in force. -/
def Loc.code (l : Loc) (dev : Nat) : W64 :=
  BitVec.ofNat 64 (((((((dev % 2 ^ 14) * 16 + l.cls % 16) * 16 + l.idx % 16) * 16 + l.die % 16) * 64 + l.region % 64)
    * 256 + l.engine % 256) * 2 ^ 24 + (l.mac % 256) * 2 ^ 16 + l.pos % 2 ^ 16)

/-- The device ID written in location codes: the default 0 before one is assigned (R14). -/
def State.devId (s : State) : Nat := if s.rget Fd.FAB_ID_VALID = 1 then s.rget Fd.FAB_ID_DEVID else 0

/-- Whether everything at location `b` lies at or below location `a` (R15). -/
def Loc.encloses (a b : Loc) : Bool :=
  a.cls == b.cls && a.idx == b.idx && a.die == b.die &&
    (a.region == 0x3F || (a.region == b.region &&
      (a.engine == 0xFF || (a.engine == b.engine &&
        (a.mac == 0xFF || (a.mac == b.mac && (a.pos == 0xFFFF || a.pos == b.pos)))))))

/-- Whether the fenced unit `a` contains the unit `b` (R600). -/
def FUnit.encloses (a b : FUnit) : Bool :=
  a == b ||
  match a, b with
  | .modul, _ => true
  | .tower t, .frond f => f / 4 == t
  | .tower t, .kernel f _ => f / 4 == t
  | .tower t, .channel c => c / 32 == t
  | .tower t, .engine l => (l.cls == 1 && l.idx == t) || (l.cls == 2 && l.idx / 2 == t)
  | .frond f, .kernel g _ => f == g
  | .frond f, .engine l => l.cls == 1 && l.idx == f / 4 && l.die == 0 && l.region == f % 4
  | .channel c, .engine l => l.cls == 2 && l.idx == c / 16 && l.region == c % 16
  | .engine l, .engine m => l.encloses m
  | .port l, .engine m => l.encloses m
  | .port l, .port m => l.encloses m
  | _, _ => false

/-- The unit is a whole pile whose sixteen channels are all fenced. -/
def State.pileFenced (s : State) (u : FUnit) : Bool :=
  match u with
  | .engine l => l.cls == 2 && l.region == 0x3F &&
      (List.range 16).all (fun c => s.flt.fences.any (fun a => a.encloses (.channel (16 * l.idx + c))))
  | _ => false
/-- The unit lies inside a fence, or is a pile fenced channel by channel (R600). -/
def State.fencedIn (s : State) (u : FUnit) : Bool := s.flt.fences.any (fun a => a.encloses u) || s.pileFenced u
/-- The unit itself was fenced. -/
def State.fencedAt (s : State) (u : FUnit) : Bool := s.flt.fences.contains u
def arrLoc (f a : Nat) : Loc := locFrond f a 0xFF 0xFFFF
def clusterLoc (f c : Nat) : Loc := locFrond f (0x10 + c) 0xFF 0xFFFF
def State.arrFenced (s : State) (f a : Nat) : Bool := s.fencedIn (.engine (arrLoc f a))
def State.clusterFenced (s : State) (f c : Nat) : Bool := s.fencedIn (.engine (clusterLoc f c))

/-! ## The flip mask (R609–R612) -/

/-- The location FLT_INJ_LOC names. -/
def State.injLoc (s : State) : Loc :=
  let w := s.rget Fd.FLT_INJ_LOC_LOCATION
  ⟨nfld w 49 46, nfld w 45 42, nfld w 41 38, nfld w 37 32, nfld w 31 24, nfld w 23 16, nfld w 15 0⟩

/-- A target names a place: each field equal or, below REGION, any; a KIND 2 target with DIE 0 names every sector of its channel. -/
def injHits (kind : Nat) (a l : Loc) : Bool :=
  a.cls == l.cls && a.idx == l.idx && (a.die == l.die || (kind == 2 && a.die == 0)) && a.region == l.region &&
    (a.engine == 0xFF || a.engine == l.engine) && (a.mac == 0xFF || a.mac == l.mac) && (a.pos == 0xFFFF || a.pos == l.pos)

/-- The mask to apply to a write of a kind at a location, where one is armed for it. -/
def State.injMask (s : State) (kind : Nat) (l : Loc) : Option Nat :=
  if s.rget Fd.FLT_INJ_CTL_ARM = 1 && s.rget Fd.FLT_INJ_CTL_KIND = kind && injHits kind s.injLoc l then
    some (s.rget Fd.FLT_INJ_MASK_MASK)
  else none

/-- The state after an injection: mode 0 clears ARM and sets DONE (R612). -/
def State.injDone (s : State) : State :=
  if s.rget Fd.FLT_INJ_CTL_MODE = 1 then s
  else (s.rset Fd.FLT_INJ_CTL_ARM 0).rset Fd.FLT_INJ_CTL_DONE 1

/-- A transfer over a link whose CRC the flip mask spoils: it is sent again (KIND 3). A segment or wire in the target is any. -/
def State.injTransfer (s : State) (l : Loc) : State :=
  match s.injMask 3 { l with mac := s.injLoc.mac, pos := s.injLoc.pos } with
  | some _ => s.injDone
  | none => s

/-- Note that a stored error came from the flip mask (R610). -/
def State.noteInj (s : State) (c k : Nat) : State :=
  if s.mem.injected.contains (c, k) then s else { s with mem.injected := (c, k) :: s.mem.injected }
/-- Keep the mark of an injected error over a write that leaves its data poisoned (R610). -/
def State.keepInj (s : State) (b : Bool) (c k : Nat) : State := if b then s.noteInj c k else s
def State.isInj (s : State) (c k : Nat) : Bool := s.mem.injected.contains (c, k)
def State.dropInj (s : State) (c k : Nat) : State := { s with mem.injected := s.mem.injected.filter (· != (c, k)) }

/-- Forget the mark where all the data is new. -/
def State.clearInj (s : State) (b : Bool) (c k : Nat) : State := if b then s.dropInj c k else s

/-- A register write stores a clean codeword (R139); the flip mask may strike. A register lies in bank n mod 8 of its cluster. -/
def State.setGreg (s : State) (f g t n : Nat) (v : W32) : State :=
  let k := thrKey f g t * 128 + n
  let s := { s with frd.gregs := spPut (fun _ => 0#32) s.frd.gregs k v, frd.regBad := spDel s.frd.regBad k }.dropInj 4 k
  match s.injMask 0 (locFrond f (0x10 + g % 4) (0x20 + n % 8) 0xFFFF) with
  | some m => (({ s with frd.regBad := spPut (fun _ => 0) s.frd.regBad k (m % 2 ^ 39) } : State).noteInj 4 k).injDone
  | none => s

/-! ## Presence and reachability -/

/-- TOWER_UP (R567). -/
def State.towerUp (s : State) (t : Nat) : Bool := decide (t < s.towers) && s.rget (Fd.TWR_STAT_STATE t) == 4
/-- The tower is fenced, restarting or shut down (R261, R285). -/
def State.towerLost (s : State) (t : Nat) : Bool :=
  let st := s.rget (Fd.TWR_STAT_STATE t)
  st == 5 || st == 6 || st == 7
/-- FROND_UP: present, not fenced and not in reset (Table 10-6). -/
def State.frondUp (s : State) (f : Nat) : Bool :=
  s.towerUp (f / 4) && !s.fencedIn (.frond f) && !(s.fr f).stubFenced && !(s.fr f).inReset
/-- The channel is unreachable (R261). -/
def State.chanLost (s : State) (c : Nat) : Bool :=
  s.fencedIn (.channel c) || s.rget (Fd.PIL_STAT_SHUTDOWN (c / 16)) == 1 || s.towerLost (c / 32)
/-- CHAN_UP (Table 10-6). -/
def State.chanUp (s : State) (c : Nat) : Bool :=
  decide (c < s.channels) && s.towerUp (c / 32) && !s.chanLost c
/-- Sleep state of a Frond and whether an entry or wake is in progress (Table 04-9). -/
def State.sleep (s : State) (f : Nat) : Nat := s.rget (Fd.FRD_SLEEP_STAT_STATE f)
def State.entering (s : State) (f : Nat) : Bool := s.rget (Fd.FRD_SLEEP_STAT_ENTERING f) == 1
def State.moving (s : State) (f : Nat) : Bool := s.entering f || (s.fr f).waking
/-- The Frond is in Run, stable (Table 04-8). -/
def State.awake (s : State) (f : Nat) : Bool := s.sleep f == 0 && !s.moving f
/-- It is in Run and its clock is not stopped by the power hold, under which it is as in Dusk (R508). -/
def State.inRun (s : State) (f : Nat) : Bool := s.awake f && !s.pwr.held.contains f
/-- Stage in progress of bring-up, 6 at Noon, 7 in Twilight mode (Table 17-8). -/
def State.stage (s : State) : Nat := s.rget Fd.BOOT_STAT_STAGE
def State.twilight (s : State) : Bool := s.rget Fd.BOOT_STAT_TWILIGHT == 1
def State.atNoon (s : State) : Bool := s.rget Fd.BOOT_STAT_AT_NOON == 1

/-! ## Host memory and interrupts (chapter 10) -/

/-- The host link is trained. -/
def State.hostUp (s : State) : Bool := s.rget Fd.HPT_LINK_STAT_UP == 1

/-- The 4 KiB host pages of a range. -/
def hostPages (addr len : Nat) : List Nat :=
  (List.range ((addr + (if len = 0 then 1 else len) - 1) / 4096 - addr / 4096 + 1)).map (· + addr / 4096)

/-- Why an access to host memory fails: ATS translation refused, or a host error completion (R311, Table 10-18). -/
def State.hostFail (s : State) (addr len : Nat) : Option Nat :=
  if (hostPages addr len).any (fun p => s.hpt.atsRefused.contains p) then some 0x0704
  else if (hostPages addr len).any (fun p => s.hpt.hostErr.contains p) then some 0x0705
  else none

def memGet (m : List Host.Cell) (a : Nat) : Byte := spGet (fun _ => 0#8) m a
def memPut (m : List Host.Cell) (a : Nat) (b : Byte) : List Host.Cell := spPut (fun _ => 0#8) m a b
def memGetN (m : List Host.Cell) (a : Nat) : Nat → List Byte
  | 0 => []
  | n + 1 => memGet m a :: memGetN m (a + 1) n
def memPutN (m : List Host.Cell) (a : Nat) : List Byte → List Host.Cell
  | [] => m
  | b :: bs => memPutN (memPut m a b) (a + 1) bs

/-- The state after the host refuses or ends an access in error: a refused translation is counted (Table 10-17). -/
def State.countHostFail (s : State) (why : Nat) : State :=
  if why = 0x0704 then s.radd Fd.HPT_ATS_STAT_FAILS 1 else s

/-- Pages the ATS cache holds after an access, at most 4,096 (Table 10-1). -/
def State.atsFill (s : State) (addr len : Nat) : State :=
  { s with hpt.ats := ((hostPages addr len).filter (fun p => !s.hpt.ats.contains p) ++ s.hpt.ats).take 4096 }

def State.hostRead (s : State) (addr len : Nat) : Except Nat (List Byte) :=
  match s.hostFail addr len with
  | some e => .error e
  | none => .ok (memGetN s.mem.host addr len)

/-- A write to host memory that the host accepts. -/
def State.hostStore (s : State) (addr : Nat) (bytes : List Byte) : State :=
  { s with mem.host := memPutN s.mem.host addr bytes }

/-- A write to host memory: the state, and the reason where it failed. -/
def State.hostWrite (s : State) (addr : Nat) (bytes : List Byte) : State × Option Nat :=
  match s.hostFail addr bytes.length with
  | some e => (s.countHostFail e, some e)
  | none => ((s.atsFill addr bytes.length).hostStore addr bytes, none)

/-- The MSI-X vector is masked: bit 32 of the entry's second word (assumption 12). -/
def State.msiMasked (s : State) (v : Nat) : Bool := bit (spGet (fun k => if k % 2 = 1 then 0x100000000#64 else 0#64) s.hpt.msix (2 * v + 1)) 32

/-- Raise an MSI-X vector: sent, or pending while masked or while the link is down (R347). -/
def State.msi (s : State) (v : Nat) : State :=
  if s.msiMasked v || !s.hostUp then { s with hpt.pba := insNat s.hpt.pba v }
  else { s with hpt.sent := v :: s.hpt.sent }

/-- An update of the capability structure under R324: GEN moves to the next even value, and its interrupt. -/
def State.capBump (s : State) : State :=
  let s := { s with hpt.capGen := s.hpt.capGen + 2 }
  if s.rget Fd.HPT_CAP_IRQ_IRQ_EN = 1 then s.msi (s.rget Fd.HPT_CAP_IRQ_VECTOR) else s

/-- An update of the distance table under R212 and R214, and its interrupt; the capability structure is updated in the same
events (R324). -/
def State.distBump (s : State) : State :=
  let s := { s with thl.distGen := s.thl.distGen + 2 }
  (if s.rget Fd.THL_DIST_CTL_IRQ_EN = 1 then s.msi (s.rget Fd.THL_DIST_CTL_VECTOR) else s).capBump

/-! ## Ledger commits (chapter 18) -/

/-- Ask for a commit: the store controller takes it up in its queue (R574). -/
def State.commitFor (s : State) (ws : List LWrite) (who : LWho) : State := { s with ldg.queue := s.ldg.queue ++ [⟨ws, who⟩] }
def State.commit (s : State) (ws : List LWrite) : State := s.commitFor ws .nobody

/-! ## Fault records (chapter 19) -/

/-- What a unit gives when it raises a record. -/
structure RecArg where
  reason : Nat
  loc : Loc
  fence : Nat
  unit : FUnit
  /-- KTAG and tenant of the kernel, ring or session concerned -/
  ctx : Option (Nat × Nat)
  /-- the record completed a descriptor, host access or fabric request with an error (Table 19-2) -/
  err : Bool
  /-- the event commits to ledger sections 0x01 to 0x05 or sets a bit of LDG_RESERVE (Table 19-2) -/
  degr : Bool
  inj : Bool
  wid : Bool
  deriving DecidableEq, Repr

/-- A record with no fence. -/
def recNote (reason : Nat) (loc : Loc) : RecArg := ⟨reason, loc, 0, .engine loc, none, false, false, false, false⟩
/-- A record with no fence of an event that commits a repair. -/
def recDegr (reason : Nat) (loc : Loc) : RecArg := ⟨reason, loc, 0, .engine loc, none, false, true, false, false⟩
/-- A record of an access, descriptor or request that completed with an error and fenced nothing. -/
def recErr (reason : Nat) (loc : Loc) (ctx : Option (Nat × Nat)) : RecArg := ⟨reason, loc, 0, .engine loc, ctx, true, false, false, false⟩

/-- SEVERITY by the first row of Table 19-2 that applies (R596). -/
def severity (reason fence : Nat) (err degr : Bool) : Nat :=
  if fence = 7 || reason = 0x0D08 || reason = 0x0E05 || reason = 0x0F11 || reason = 0x0F12 then 4
  else if 2 ≤ fence && fence ≤ 6 then 3
  else if fence = 1 || err then 2
  else if degr then 1
  else 0

/-- The 32 bytes of a record (Table 19-1). -/
def FaultRec.bytes (r : FaultRec) : List Byte :=
  leBytes 8 r.timestamp ++ leBytes 8 r.location.toNat ++ leBytes 2 r.reason ++
    leBytes 1 (r.fence * 16 + r.severity) ++
    leBytes 1 (b2n r.injected + 2 * b2n r.widened + 4 * b2n r.inside + 8 * b2n r.early) ++
    leBytes 4 (min r.count 0xFFFFFFFF) ++ leBytes 4 r.seq ++
    (match r.ctx with
    | some (k, t) => leBytes 2 k ++ leBytes 2 (0x8000 + t % 1024)
    | none => leBytes 4 0)

/-- Entries of the fault ring (R606). -/
def State.fltRingN (s : State) : Nat := 2 ^ (max 6 (min 16 (s.rget Fd.FLT_RING_CTL_LOG2N)))

/-- Lowest SEQ not yet dealt with: the oldest record still held, or the next (R606). -/
def State.fltDelivered (s : State) : Nat :=
  s.flt.log.foldl (fun a r => if r.held && decide (s.flt.ringFrom ≤ r.seq) && decide (r.seq < a) then r.seq else a) s.flt.seqNext

/-- Commit a record to the open block of retained records, or to the next block when it is full (R608). -/
def State.retainNow (s : State) (r : FaultRec) : State :=
  let sec := s.clock / 25000000
  let n := if s.flt.retSecond = sec then s.flt.retCommits else 0
  if n ≥ 100 then s.radd Fd.FLT_STAT_RETAIN_SKIPPED 1
  else
    let open_ := match s.flt.openBlock with
      | some b => if (spGet (fun _ => RetBlock.init) s.flt.blocks b).recs.length < 64 then some b else none
      | none => none
    let key := match open_ with
      | some b => b
      | none => (s.flt.lastBlock + 1) % 64
    let old := match open_ with
      | some b => (spGet (fun _ => RetBlock.init) s.flt.blocks b).recs
      | none => []
    let blk : RetBlock := ⟨s.ldg.starts, r :: old⟩
    { s with flt.blocks := spPut (fun _ => RetBlock.init) s.flt.blocks key blk
             flt.openBlock := some key
             flt.lastBlock := key
             flt.retSecond := sec
             flt.retCommits := n + 1
             ldg.queue := s.ldg.queue ++ [⟨[⟨0x10, key, false, [blk.start, blk.recs.length] ++ blk.recs.reverse.map (fun q => leNat q.bytes), 16 + 32 * blk.recs.length⟩], .nobody⟩] }

/-- The record is one the ledger retains (R608). -/
def FaultRec.retained (r : FaultRec) : Bool := (r.severity == 1 || r.severity == 3 || r.severity == 4) && !r.injected
def State.retain (s : State) (r : FaultRec) : State := if r.retained then s.retainNow r else s

/-- Raise the fault ring's vector now or when 100 µs have passed since the last (R607). -/
def State.fltIrq (s : State) : State :=
  if s.rget Fd.FLT_RING_CTL_IRQ_EN = 1 then
    match s.flt.ringIrqAt with
    | some c =>
      if s.clock - c ≥ 2500 then { s with flt.ringIrqAt := some s.clock }.msi (s.rget Fd.FLT_RING_CTL_VECTOR)
      else { s with flt.ringIrqDue := true }
    | none => { s with flt.ringIrqAt := some s.clock }.msi (s.rget Fd.FLT_RING_CTL_VECTOR)
  else s

/-- Write a record to its slot of the fault ring, or filter or skip it (R606). -/
def State.toRing (s : State) (r : FaultRec) : State :=
  if s.rget Fd.FLT_RING_CTL_EN = 1 && decide (s.flt.ringFrom ≤ r.seq) then
    if r.severity < s.rget Fd.FLT_RING_CTL_MIN_SEV then s
    else if (r.seq + 2 ^ 32 - s.rget Fd.FLT_RING_PTR_HEAD) % 2 ^ 32 ≥ s.fltRingN then s.radd Fd.FLT_STAT_RING_SKIPPED 1
    else
      let addr := s.rget Fd.FLT_RING_BASE_BASE * 4096 + (r.seq % s.fltRingN) * 32
      match s.hostWrite addr r.bytes with
      | (s, some _) => s.radd Fd.FLT_STAT_RING_SKIPPED 1
      | (s, none) => s.fltIrq
  else s

/-- Deliver a record whose hold has ended or that was never held (R597, R606, R608). -/
def State.deliver (s : State) (r : FaultRec) : State :=
  let s := (s.retain r).toRing r
  if s.rget Fd.FLT_RING_CTL_EN = 1 then s.rset Fd.FLT_RING_PTR_DELIVERED s.fltDelivered else s

/-- The held record that coalesces a new occurrence: the log's latest record of the reason and location (R597). -/
def coalesceIdx (log : List FaultRec) (reason : Nat) (code : W64) : Option Nat :=
  match findIdxFrom (fun q => q.reason == reason && q.location == code) log 0 with
  | some i => match log[i]? with
    | some q => if q.held then some i else none
    | none => none
  | none => none

/-- The site of a location is fitted in the variant (R6). -/
def State.siteFitted (s : State) (l : Loc) : Bool :=
  match l.cls with
  | 1 => decide (l.idx < s.towers)
  | 2 => decide (l.idx < s.piles)
  | 4 => decide (l.idx < s.part.fports)
  | _ => true

/-- Raise a fault record of `n` occurrences (R595–R600, R604); it names no absent site (R6). -/
def State.raiseN (s : State) (a : RecArg) (n : Nat) : State :=
  let inside := s.fencedIn a.unit
  let fence := if inside then 0 else a.fence
  let code := (if s.siteFitted a.loc then a.loc else Loc.whole).code s.devId
  let early := decide (s.stage < 2)
  let hold := fence = 0 && s.rget Fd.FLT_CTL_COAL_MS ≠ 0
  let r : FaultRec := ⟨s.clock, code, a.reason, fence, severity a.reason fence a.err a.degr, a.inj, a.wid, inside, early, n,
    s.flt.seqNext, a.ctx, hold⟩
  if early then
    if s.flt.early.length < 256 then { s with flt.early := r :: s.flt.early }
    else { s with flt.earlyDrop := s.flt.earlyDrop + 1 }
  else
    match (if hold then coalesceIdx s.flt.log a.reason code else none) with
    | some i => { s with flt.log := modAt (fun q => { q with count := min (q.count + n) 0xFFFFFFFF }) s.flt.log i }
    | none =>
      let s := { s with flt.log := (r :: s.flt.log).take 16384
                        flt.seqNext := (s.flt.seqNext + 1) % 2 ^ 32 }
      if hold then s else s.deliver r
def State.raise (s : State) (a : RecArg) : State := s.raiseN a 1

/-- A spare reserve of Table 18-5 reaches zero in an instance: its bit, and one record (R587). -/
def State.zeroReserve (s : State) (kind inst : Nat) (loc : Loc) : State :=
  let s := s.rbit Fd.LDG_RESERVE_ZERO kind true
  if s.ldg.zeroSaid.contains (kind, inst) then s
  else { s with ldg.zeroSaid := (kind, inst) :: s.ldg.zeroSaid }.raise (recDegr 0x100A loc)

/-- The record raised since `s0` carries the TAG of the array or DMA command that raised it (Table 03-3, Table 04-7; assumption 109). -/
def State.noteTag (s s0 : State) (tag : Nat) : State :=
  if s.flt.seqNext = s0.flt.seqNext then s
  else { s with flt.cmdTags := ((s0.flt.seqNext, tag) :: s.flt.cmdTags).take 16384 }

/-- Enter a unit in the fence set. -/
def State.addFence (s : State) (u : FUnit) : State :=
  if s.flt.fences.contains u then s else { s with flt.fences := u :: s.flt.fences }
/-- Return a unit to service. -/
def State.dropFence (s : State) (u : FUnit) : State := { s with flt.fences := s.flt.fences.filter (· != u) }

/-! ## Descriptor and kernel completion -/

def Desc.word (d : Desc) (n : Nat) : W64 :=
  match n with
  | 0 => d.w0 | 1 => d.w1 | 2 => d.w2 | 3 => d.w3 | 4 => d.w4 | 5 => d.w5 | 6 => d.w6 | _ => d.w7
/-- Bits of a descriptor word. -/
def Desc.f (d : Desc) (n hi lo : Nat) : Nat := fld (d.word n) hi lo
def Desc.cls (d : Desc) : Nat := d.f 0 7 4
def Desc.op (d : Desc) : Nat := d.f 0 3 0

def Ring.find (q : Ring) (i : Nat) : Option Started := q.started.find? (fun x => x.idx == i)
def State.ringTenant (s : State) (r : Nat) : Nat := s.rget (Fd.RNG_CTL_TENANT r)
def State.ringAsid (s : State) (r : Nat) : Nat := s.rget (Fd.RNG_CTL_ASID r)
def State.ringLoc (s : State) (r : Nat) : Loc := locRing (s.rget (Fd.RNG_CTL_CP r)) r
def State.ringCtx (s : State) (r : Nat) : Option (Nat × Nat) := some (0, s.ringTenant r)

/-- A halted DMA channel goes on once the completion of its ring command is written, or is discarded by a host port reset (R130, R312). -/
def State.dmaResume (s : State) (r i : Nat) : State :=
  (List.range s.fronds).foldl (fun s f => (List.range 16).foldl (fun s c =>
    match (s.dma f c).queue with
    | x :: rest =>
      if x.phase = 2 && x.src == .ring r i then (s.setDma f c { s.dma f c with queue := rest }).rset (Fd.FRD_DMA_STAT_HALTED f c) 0 else s
    | [] => s) s) s

/-- A started descriptor finishes: its completion waits to be written, unless a host reset discards it (R312, R343);
DONE and FAILED count it (Table 10-7). -/
def State.complete (s : State) (r i status reason result : Nat) : State :=
  match (s.ring r).find i with
  | none => s
  | some st =>
    let ktag := if st.d.cls = 1 && st.d.op = 0 then st.d.f 1 63 48 else 0
    let c : Compl := ⟨i, st.d.f 0 63 32, status, ktag, reason, result, st.d.f 0 17 17 == 1, st.d.f 0 16 16 == 1⟩
    let drop := (s.ring r).discard.contains i
    let s := s.modRing r (fun q => { q with started := q.started.filter (fun x => x.idx != i)
                                            done := if drop then q.done else q.done ++ [c]
                                            discard := q.discard.filter (· != i) })
    if drop then s.dmaResume r i
    else
      let s := s.radd (Fd.RNG_CNT_DONE r) 1
      if status ≥ 0x80 then s.radd (Fd.RNG_CNT_FAILED r) 1 else s

/-- The started descriptor of a ring at an index, where its operation is the one named and has not begun. -/
def State.opOf (s : State) (r i cls op : Nat) : Option Desc :=
  match (s.ring r).find i with
  | some st => if !st.ran && st.d.cls == cls && st.d.op == op then some st.d else none
  | none => none
/-- The descriptor's operation has begun and completes later. -/
def State.markRan (s : State) (r i : Nat) : State :=
  s.modRing r (fun q => { q with started := q.started.map (fun x => if x.idx = i then { x with ran := true } else x) })

/-- A kernel of a LAUNCH has exited or failed: the descriptor completes with the last of them (R339). -/
def State.launchDone (s : State) (r i f : Nat) (ok : Bool) (reason : Nat) : State :=
  match (s.ring r).find i with
  | none => s
  | some st =>
    let st' := { st with running := st.running &&& (0xFFFF ^^^ (1 <<< f))
                         failed := if ok then st.failed else st.failed ||| (1 <<< f)
                         reason := if ok then st.reason
                                   else if st.failed % 2 ^ f = 0 then reason else st.reason }
    let s := s.modRing r (fun q => { q with started := q.started.map (fun x => if x.idx = i then st' else x) })
    if st'.running = 0 then
      s.complete r i (if st'.failed = 0 then 0 else 0x80) (if st'.failed = 0 then 0 else st'.reason) (st'.used + st'.failed * 65536)
    else s

end Sys2Proof.Machine
end

