-- ==== Sys2Proof/Machine/Fences.lean ====
section
/-!
DEFINITION. Fences (R16, R17, R599–R601): what each fence level takes out of service, and the faults of kernels and of
other agents.
-/

namespace Sys2Proof.Machine

/-- A session step by handle. -/
def State.step_ (s : State) (h : Nat) : Option StepRec := spGet (fun _ => none) s.ses.steps h
def State.setStep (s : State) (h : Nat) (v : Option StepRec) : State :=
  { s with ses.steps := spPut (fun _ => none) s.ses.steps h v }

/-- A plan entry after one of its kernels ended: it completes with the last, and keeps the reason of its lowest failing Frond
(R375, R379). -/
def PlanE.kernelEnd (p : PlanE) (f : Nat) (ok : Bool) (reason : Nat) : PlanE :=
  let running := p.running &&& (0xFFFF ^^^ (1 <<< f))
  { p with running := running
           phase := if running = 0 then 2 else p.phase
           fail := if ok then p.fail
             else match p.fail with
               | some (g, r) => if f < g then some (f, reason) else some (g, r)
               | none => some (f, reason) }

/-- The step has failed (R379). -/
def StepRec.failed (q : StepRec) : Bool := q.fail.isSome || q.failEntry.isSome
/-- A kernel of a session step has exited or failed; the first failure of the step is kept. -/
def State.stepKernelDone (s : State) (h e f : Nat) (ok : Bool) (reason : Nat) : State :=
  match s.step_ h with
  | none => s
  | some q => s.setStep h (some { q with plan := modAt (fun p => p.kernelEnd f ok reason) q.plan e
                                         failEntry := if ok || q.failed then q.failEntry else some e })

/-- Report a kernel's end, or a launch record's refusal, to its issuer (R172, R163, R285). -/
def State.kernelDone (s : State) (who : Issuer) (f : Nat) (ok : Bool) (reason : Nat) : State :=
  match who with
  | .ring r i => s.launchDone r i f ok reason
  | .step h e => s.stepKernelDone h e f ok reason

/-- Report several launch records with error status (R285, R284). -/
def State.failLaunches (s : State) (f reason : Nat) (l : List Launch) : State :=
  l.foldl (fun s x => s.kernelDone x.issuer f false reason) s

def Launch.ktag (l : Launch) : Nat := fld l.w0 63 48
def Launch.asid (l : Launch) : Nat := fld l.w0 47 36
def Launch.tenant (l : Launch) : Nat := fld l.w0 35 26
def Launch.arrays (l : Launch) : Nat := fld l.w0 25 18
def Launch.groupsM1 (l : Launch) : Nat := fld l.w0 17 12
def Launch.entry (l : Launch) : Nat := fld l.w1 47 0
def Launch.arg (l : Launch) : Nat := fld l.w2 47 0
def Launch.sorus (l : Launch) : Nat := fld l.w3 63 51
def Launch.sig (l : Launch) : Bool := bit l.w3 50

/-- KTAG and tenant of a kernel, for its records. -/
def State.kctx (s : State) (f k : Nat) : Option (Nat × Nat) :=
  (s.krn f k).map (fun q => (q.launch.ktag, q.launch.tenant))

/-- Mark a kernel as aborting with a reason; an abort already begun stands (R163, R165). -/
def State.markAbort (s : State) (f k reason : Nat) : State :=
  match s.krn f k with
  | none => s
  | some q =>
    match q.abort with
    | some _ => s
    | none => (s.setKrn f k (some { q with abort := some reason })).addFence (.kernel f k)

/-- A fault that fences a kernel from outside the thread-group engine (R165): the record, then the abort. A kernel that has
exited is fenced no more. `inj`: the flip mask caused it (R610). -/
def State.faultKernelI (s : State) (f k reason : Nat) (loc : Loc) (inj : Bool) : State :=
  match s.krn f k with
  | none => s.raise { recErr reason loc none with inj := inj }
  | some q =>
    (s.raise ⟨reason, loc, 1, .kernel f k, some (q.launch.ktag, q.launch.tenant), false, false, inj, false⟩).markAbort f k reason

/-- A fault of an access or command, against its agent (R601): a kernel is fenced, any other agent is not. -/
def State.faultAgentI (s : State) (a : Agent) (reason : Nat) (loc : Loc) (inj : Bool) : State :=
  match a with
  | .kernel f k => s.faultKernelI f k reason loc inj
  | .ring r _ => s.raise { recErr reason loc (s.ringCtx r) with inj := inj }
  | _ => s.raise { recErr reason loc none with inj := inj }

def State.faultKernel (s : State) (f k reason : Nat) (loc : Loc) : State := s.faultKernelI f k reason loc false
def State.faultAgent (s : State) (a : Agent) (reason : Nat) (loc : Loc) : State := s.faultAgentI a reason loc false

/-- A trap (R161–R166): one record a kernel, counted afterwards; the first is captured in FRD_TRAP. `inj`: the flip mask caused it
(R610). -/
def State.trapI (s : State) (f g t reason arg : Nat) (loc : Loc) (inj : Bool) : State :=
  match (s.grp f g).kernel with
  | none => s
  | some k =>
    match s.krn f k with
    | none => s
    | some q =>
      match q.abort with
      | some _ => s.radd (Fd.FRD_TG_STAT_TRAP_COUNT f) 1
      | none =>
        let s1 := s.raise ⟨reason, loc, 1, .kernel f k, some (q.launch.ktag, q.launch.tenant), false, false, inj, false⟩
        let s2 :=
          if s1.rget (Fd.FRD_TRAP_VALID f) = 1 then s1
          else
            ((((((((s1.rset (Fd.FRD_TRAP_KTAG f) q.launch.ktag).rset (Fd.FRD_TRAP_ARG f) arg).rset (Fd.FRD_TRAP_CODE f) (reason % 256)).rset
              (Fd.FRD_TRAP_KSLOT f) k).rset (Fd.FRD_TRAP_GROUP f) g).rset (Fd.FRD_TRAP_THREAD f) t).rset
              (Fd.FRD_TRAP_CSEQ f) (s1.thr f g t).cseq).rset (Fd.FRD_TRAP_PC f) (s1.thr f g t).pc).rset (Fd.FRD_TRAP_VALID f) 1
        s2.markAbort f k reason

def State.trap (s : State) (f g t reason arg : Nat) (loc : Loc) : State := s.trapI f g t reason arg loc false

/-- Location of a trap of a thread: its cluster, the group slot within it and the thread (R175). -/
def trapLoc (f g t : Nat) : Loc := locFrond f (0x10 + g % 4) (g / 4) t

/-- Abort every resident kernel of a Frond with a reason (R559, R165). -/
def State.abortAll (s : State) (f reason : Nat) : State :=
  (List.range 8).foldl (fun s k => s.markAbort f k reason) s

/-- Answer the launch records held in the queue and the stub of a Frond with the partition-unavailable response (R284,
R285). -/
def State.dropQueued (s : State) (f : Nat) : State :=
  let l := (s.fr f).lq ++ (s.fr f).stub
  (s.modFr f (fun q => { q with lq := [], stub := [] })).failLaunches f 0x0601 l

/-- Accesses to a Frond's local store that were held are answered with the partition-unavailable response (R283, R285). -/
def State.dropHeld (s : State) (f : Nat) : State :=
  (s.fr f).heldAcc.foldl (fun s a => s.faultAgent a.agent 0x0601 (locFrondWhole f)) (s.modFr f (fun q => { q with heldAcc := [] }))

/-- A Frond that is fenced or restarted loses its pace flag, eviction and run count (R617). -/
def State.clearPace (s : State) (f : Nat) : State :=
  (((s.rset (Fd.FLT_PACE_FLAGGED f) 0).rset (Fd.FLT_PACE_EVICTED f) 0).rset (Fd.FLT_PACE_DENIED f) 0).rset (Fd.FLT_PACE_RUN_MS f) 0

/-- Step 1 of the drain of R292: the stub is fenced at once, or when the sleep entry or wake in progress is stable. -/
def State.beginDrain (s : State) (f : Nat) : State :=
  if s.moving f then s.modFr f (fun q => { q with drainPend := true })
  else ((s.modFr f (fun q => { q with stubFenced := true, draining := true, drainAt := s.clock })).dropQueued f).dropHeld f

/-- The whole pile as an engine (R275). -/
def pileLoc (p : Nat) : Loc := locPile p 0 0x3F 0xFF 0xFF 0xFFFF

/-- Endpoint `i` of class `c` is being switched (R629). -/
def State.endpointSwitching (s : State) (c i : Nat) : Bool := s.fwu.cur == some i && s.fwu.todo.head? == some c

/-- The unit whose endpoint an update is switching (R629, R631). -/
def State.switching (s : State) : Option FUnit :=
  match s.fwu.cur, s.fwu.todo with
  | some i, 7 :: _ => some (.engine (arrLoc (i / 8) (i % 8)))
  | some i, 6 :: _ => some (.frond i)
  | some i, 3 :: _ => some (.engine (pileLoc i))
  | some i, 2 :: _ => some (.tower i)
  | _, _ => none

/-- The fence waits for the end of the switch (R631). -/
def State.defer (s : State) (u : FUnit) : State :=
  if s.fwu.deferred.contains u then s else { s with fwu.deferred := s.fwu.deferred ++ [u] }

def State.fenceEngineNow (s : State) (u : Loc) : State := (s.addFence (.engine u)).capBump

/-- A fence at engine level of the unit at `u` (R599). -/
def State.fenceEngine (s : State) (reason : Nat) (loc u : Loc) (wid degr : Bool) (ctx : Option (Nat × Nat)) : State :=
  let s := s.raise ⟨reason, loc, 2, .engine u, ctx, false, degr, false, wid⟩
  if s.switching = some (.engine u) then s.defer (.engine u) else s.fenceEngineNow u

/-- A restart of the unit (towers 16 + t) is in progress (R562). -/
def State.restarting (s : State) (u : Nat) : Bool := (spGet (fun _ => none) s.boot.restarting u).isSome
/-- A fence raised against a unit during its restart takes effect when the restart ends (R562). -/
def State.refence (s : State) (u : Nat) : State :=
  if s.restarting u then { s with boot.refenced := insNat s.boot.refenced u } else s

/-- The effect of a fence at Frond level: drain and fence under R292, resident kernels aborted, FROND_UP cleared. -/
def State.fenceFrondNow (s : State) (f : Nat) : State :=
  (((((s.addFence (.frond f)).abortAll f 0x0601).clearPace f).modFr f (fun q => { q with watch := [] })).beginDrain f).distBump

/-- A fence at Frond level (R599, R631). -/
def State.fenceFrond (s : State) (f reason : Nat) (loc : Loc) (wid : Bool) : State :=
  let already := s.fencedIn (.frond f)
  let s := s.raise ⟨reason, loc, 3, .frond f, none, false, false, false, wid⟩
  if already then s.refence f
  else if s.switching = some (.frond f) then s.defer (.frond f)
  else s.fenceFrondNow f

/-- Whether an applied region uses a channel (R261). -/
def Region.uses (r : Region) (nch c : Nat) : Bool := r.en && decide (c < nch) && (r.global || c / 32 == r.tower)

/-- LOST is set for every enabled region that uses an unreachable channel (R261). -/
def State.markLost (s : State) : State :=
  let lost := (List.range s.channels).filter s.chanLost
  (List.range 16).foldl (fun s n =>
    if lost.any (fun c => (s.pil.applied.getD n Region.init).uses s.channels c) then s.rset (Fd.PIL_REGION_LOST n) 1 else s) s

/-- Tower of a link: 0–39 tower network links, 40–43 tower links, 44–59 Frond interfaces, from 60 on slices (Table 09-1). -/
def linkTower (link : Nat) : Nat :=
  if link < 40 then link / 10 else if link < 44 then link - 40 else if link < 60 then (link - 44) / 4 else (link - 60) / 32
/-- A tower's network domain stops and is reset: route tables, retrains and dual-clock queues (R280, R291). -/
def State.networkOff (s : State) (t : Nat) : State :=
  { s with pnw.routes := s.pnw.routes.filter (fun p => p.1 / 25 != t)
           pnw.retraining := s.pnw.retraining.filter (fun l => linkTower l != t)
           pnw.crcFails := s.pnw.crcFails.filter (fun p => linkTower p.1 != t)
           pnw.queues := s.pnw.queues.filter (fun p => linkTower p.1 != t) }

/-- The effect of a fence at tower level (R25, R261). -/
def State.fenceTowerNow (s : State) (t reason : Nat) : State :=
  let s := (((s.networkOff t).addFence (.tower t)).rset (Fd.TWR_STAT_STATE t) 5).rset (Fd.TWR_STAT_FENCE_REASON t) reason
  let s := (List.range 4).foldl (fun s q => ((((s.abortAll (4 * t + q) 0x0601).clearPace (4 * t + q)).modFr (4 * t + q) (fun x => { x with watch := [] })).dropQueued (4 * t + q)).dropHeld (4 * t + q)) s
  s.markLost.distBump

/-- A fence at tower level (R25, R261, R599, R631); FENCE_REASON is set with the record. -/
def State.fenceTower (s : State) (t reason : Nat) (loc : Loc) (wid : Bool) : State :=
  let already := s.fencedIn (.tower t)
  let s := s.raise ⟨reason, loc, 4, .tower t, none, false, false, false, wid⟩
  if already then s.refence (16 + t)
  else if s.switching = some (.tower t) then (s.rset (Fd.TWR_STAT_FENCE_REASON t) reason).defer (.tower t)
  else s.fenceTowerNow t reason

/-- The effect of the fence of a whole pile (R275). -/
def State.fencePileNow (s : State) (p : Nat) : State :=
  let s := (List.range 16).foldl (fun s c => s.addFence (.channel (16 * p + c))) s
  (s.rset (Fd.PIL_STAT_CH_FENCED p) 0xFFFF).markLost.distBump

/-- The whole pile is fenced with one record (R275, R631); one already fenced changes nothing further (R600). -/
def State.fencePile (s : State) (p reason : Nat) (loc : Loc) (wid : Bool) : State :=
  let already := s.fencedIn (.engine (pileLoc p))
  let s := s.raise ⟨reason, loc, 5, .engine (pileLoc p), none, false, false, false, wid⟩
  if already then s
  else if s.switching = some (.engine (pileLoc p)) then s.defer (.engine (pileLoc p)) else s.fencePileNow p

/-- The fences that waited for the end of a switch take effect (R631). -/
def State.fencesDue (s : State) : State :=
  let l := s.fwu.deferred
  l.foldl (fun s u => match u with
    | .frond f => if s.fencedIn u then s else s.fenceFrondNow f
    | .tower t => if s.fencedIn u then s else s.fenceTowerNow t (s.rget (Fd.TWR_STAT_FENCE_REASON t))
    | .engine l => if l.cls = 2 && l.region = 0x3F then s.fencePileNow l.idx else s.fenceEngineNow l
    | _ => s) { s with fwu.deferred := [] }

/-- The effect of the fence of a DRAM channel. -/
def State.fenceChannelNow (s : State) (c : Nat) : State :=
  ((s.addFence (.channel c)).rbit (Fd.PIL_STAT_CH_FENCED (c / 16)) (c % 16) true).markLost.distBump

/-- A fence of one DRAM channel (R599, R261). -/
def State.fenceChannel (s : State) (c reason : Nat) (loc : Loc) (wid : Bool) : State :=
  (s.raise ⟨reason, loc, 5, .channel c, none, false, false, false, wid⟩).fenceChannelNow c

/-- A fence at module level: only the Night domain stays up (R23, R599). -/
def State.moduleFence (s : State) (reason : Nat) (loc : Loc) (wid : Bool) : State :=
  let s := (s.raise ⟨reason, loc, 7, .modul, none, false, false, false, wid⟩).addFence .modul
  (List.range s.towers).foldl (fun s t =>
    let s := s.rset (Fd.TWR_STAT_STATE t) 1
    (List.range 4).foldl (fun s q => (s.abortAll (4 * t + q) 0x0601).dropQueued (4 * t + q)) s) s

end Sys2Proof.Machine
end

