-- ==== Sys2Proof/Machine/Formats.lean ====
section
/-!
DEFINITION. Number formats and arithmetic (chapter 02): element encodings, exact values, rounding, the vector lanes and
the special functions. Every value is computed exactly as an integer times a power of two and rounded once.
-/

namespace Sys2Proof.Machine

/-- An exact value: a NaN, an infinity, or sign, magnitude and binary exponent (a zero keeps its sign). -/
inductive FV where
  | nan
  | inf (neg : Bool)
  | fin (neg : Bool) (m : Nat) (e : Int)
  deriving DecidableEq, Repr

/-- A row of Table 02-2, or MXINT8 (R33). `special`: 0 IEEE infinities and NaNs, 1 only E4M3's NaN, 2 none. -/
structure EFmt where
  bits : Nat
  mant : Nat
  bias : Nat
  special : Nat
  isInt : Bool
  maxCode : Nat
  emax : Int
  deriving DecidableEq, Repr

def efFp32 : EFmt := ⟨32, 23, 127, 0, false, 0x7F7FFFFF, 127⟩
def efBf16 : EFmt := ⟨16, 7, 127, 0, false, 0x7F7F, 127⟩
def efFp16 : EFmt := ⟨16, 10, 15, 0, false, 0x7BFF, 15⟩
def efE4m3 : EFmt := ⟨8, 3, 7, 1, false, 0x7E, 8⟩
def efE5m2 : EFmt := ⟨8, 2, 15, 0, false, 0x7B, 15⟩
def efE3m2 : EFmt := ⟨6, 2, 3, 2, false, 0x1F, 4⟩
def efE2m3 : EFmt := ⟨6, 3, 1, 2, false, 0x1F, 2⟩
def efE2m1 : EFmt := ⟨4, 1, 1, 2, false, 0x7, 2⟩
def efInt8 : EFmt := ⟨8, 6, 0, 2, true, 0x7F, 0⟩

/-- The element format of a format code (Table 02-1); a VQ code stands for its codebook's element format. -/
def elemFmt (code : Nat) : Option EFmt :=
  match code with
  | 0x00 => some efFp32
  | 0x01 => some efBf16
  | 0x02 => some efFp16
  | 0x03 => some efE4m3
  | 0x04 => some efE5m2
  | 0x05 => some efE4m3
  | 0x06 => some efE5m2
  | 0x07 => some efE3m2
  | 0x08 => some efE2m3
  | 0x09 => some efE2m1
  | 0x0A => some efInt8
  | 0x0B => some efE4m3
  | 0x0C => some efE5m2
  | 0x0D => some efE4m3
  | 0x0E => some efE5m2
  | _ => none

/-- VQ formats (R39). -/
def fmtIsVq (c : Nat) : Bool := 0x0B ≤ c && c ≤ 0x0E
/-- VQ3 formats. -/
def fmtIsVq3 (c : Nat) : Bool := c == 0x0D || c == 0x0E
/-- Formats with an E8M0 scale per 32 elements. -/
def fmtIsMx (c : Nat) : Bool := 0x05 ≤ c && c ≤ 0x0A
/-- The 16-bit operand formats. -/
def fmtIs16 (c : Nat) : Bool := c == 1 || c == 2
/-- MXFP4. -/
def fmtIsFp4 (c : Nat) : Bool := c == 9
/-- May stand as the stationary operand (Table 02-1). -/
def fmtStationary (c : Nat) : Bool := 0x01 ≤ c && c ≤ 0x0E
/-- May stand as the streamed operand (Table 02-1). -/
def fmtStreamed (c : Nat) : Bool := 0x01 ≤ c && c ≤ 0x0A
/-- May stand as the drain output (Table 02-1). -/
def fmtDrain (c : Nat) : Bool := c ≤ 0x0A
/-- May be 2:4 sparse (R42). -/
def fmtSparse (c : Nat) : Bool := c == 3 || c == 4 || c == 5 || c == 6 || c == 9

/-- The operand pairs of Table 02-4 (R45, R46). -/
def pairAllowed (stat str : Nat) : Bool :=
  fmtStationary stat && fmtStreamed str &&
    (if fmtIs16 stat || fmtIs16 str then stat == str else true)

/-- The value of an element encoding (R31–R33). -/
def decodeElem (f : EFmt) (code : Nat) : FV :=
  if f.isInt then
    let n := sgn 8 code
    .fin (decide (n < 0)) n.natAbs (-6)
  else
    let c := code % 2 ^ f.bits
    let neg := nbit c (f.bits - 1)
    let mag := c % 2 ^ (f.bits - 1)
    let ex := mag >>> f.mant
    let m := mag % 2 ^ f.mant
    let exMax := 2 ^ (f.bits - 1 - f.mant) - 1
    if f.special == 0 && ex == exMax then (if m == 0 then .inf neg else .nan)
    else if f.special == 1 && mag == 0x7F then .nan
    else if ex == 0 then .fin neg m (1 - (f.bias : Int) - f.mant)
    else .fin neg (m + 2 ^ f.mant) ((ex : Int) - f.bias - f.mant)

/-- Number of bits of `m` (0 for 0). -/
def bitLen (m : Nat) : Nat := if m = 0 then 0 else Nat.log2 m + 1

/-- floor of log2 of m·2^e, m not 0. -/
def flog2 (m : Nat) (e : Int) : Int := (bitLen m : Int) - 1 + e

/-- Exponent of the grid step at the magnitude m·2^e: subnormal grids keep the smallest step (R31). -/
def gridExp (f : EFmt) (m : Nat) (e : Int) : Int :=
  if f.isInt then -6
  else
    let q := flog2 m e - f.mant
    let qmin := 1 - (f.bias : Int) - f.mant
    if q < qmin then qmin else q

/-- m·2^e counted in steps of 2^q: whole steps, and the remainder with its modulus (remainder/modulus of a step). -/
def inSteps (m : Nat) (e q : Int) : Nat × Nat × Nat :=
  if q ≤ e then (m * 2 ^ (e - q).toNat, 0, 1)
  else
    let d := 2 ^ (q - e).toNat
    (m / d, m % d, d)

/-- Round to nearest, ties to even. -/
def rneSteps (m : Nat) (e q : Int) : Nat :=
  let (n, r, d) := inSteps m e q
  if 2 * r > d || (2 * r == d && n % 2 == 1) then n + 1 else n

/-- The magnitude code of `n` steps of 2^q (R31): consecutive codes are consecutive grid values. -/
def magCode (f : EFmt) (n : Nat) (q : Int) : Nat :=
  if f.isInt then n
  else ((q - (1 - (f.bias : Int) - f.mant)).toNat) * 2 ^ f.mant + n

/-- The code of a sign and a magnitude code. -/
def signCode (f : EFmt) (neg : Bool) (mag : Nat) : Nat :=
  if f.isInt then (if neg then (2 ^ 8 - mag) % 2 ^ 8 else mag)
  else mag + (if neg then 2 ^ (f.bits - 1) else 0)

/-- The infinity encoding's magnitude (formats with infinities). -/
def infMag (f : EFmt) : Nat := (2 ^ (f.bits - 1 - f.mant) - 1) * 2 ^ f.mant

/-- The canonical NaN the drain and the loads write (Table 02-6). -/
def nanCode (f : EFmt) : Nat :=
  if f.special == 1 then 0x7F else infMag f + 2 ^ (f.mant - 1)

/-- The largest finite magnitude code on the sign's side (R33). -/
def maxMag (f : EFmt) (neg : Bool) : Nat := if f.isInt && neg then 128 else f.maxCode

/-- What an overflow or an infinity becomes (Table 02-6). -/
def overflowCode (f : EFmt) (neg sat : Bool) : Nat :=
  if sat || f.special == 2 then signCode f neg (maxMag f neg)
  else if f.special == 1 then 0x7F
  else signCode f neg (infMag f)

/-- The encoding of a magnitude code already rounded, with overflow by Table 02-6. -/
def finishMag (f : EFmt) (neg sat : Bool) (mag : Nat) : Nat :=
  if mag > maxMag f neg then overflowCode f neg sat else signCode f neg mag

/-- Conversion to a format, round to nearest, ties to even (R53, R54, R60). -/
def encodeRne (f : EFmt) (sat : Bool) : FV → Nat
  | .nan => nanCode f
  | .inf neg => overflowCode f neg sat
  | .fin neg m e =>
    if m = 0 then signCode f (neg && !f.isInt) 0
    else
      let q := gridExp f m e
      finishMag f neg sat (magCode f (rneSteps m e q) q)

/-- One step of the generator of R56. -/
def xorshift32 (s : Nat) : Nat :=
  let a := (s ^^^ (s <<< 13)) % 2 ^ 32
  let b := a ^^^ (a >>> 17)
  (b ^^^ (b <<< 5)) % 2 ^ 32

/-- The initial generator state of a lane (R57). -/
def laneSeed (seed lane : Nat) : Nat :=
  let s := (seed ^^^ ((0x9E3779B9 * (lane + 1)) % 2 ^ 32)) % 2 ^ 32
  if s = 0 then 0x6D2B79F5 else s

/-- Stochastic conversion of a finite value with a 16-bit random number (R56). -/
def encodeStoch (f : EFmt) (sat : Bool) (r16 : Nat) : FV → Nat
  | .nan => nanCode f
  | .inf neg => overflowCode f neg sat
  | .fin neg m e =>
    if m = 0 then signCode f (neg && !f.isInt) 0
    else
      let q := gridExp f m e
      let (n, r, d) := inSteps m e q
      let f16 := r * 65536 / d
      finishMag f neg sat (magCode f (if f16 + r16 ≥ 65536 then n + 1 else n) q)

/-- An FP32 encoding's value. -/
def f32 (w : W32) : FV := decodeElem efFp32 w.toNat

/-- The canonical FP32 encoding of a value rounded to nearest even (R49, R51). -/
def toF32 (v : FV) : W32 := BitVec.ofNat 32 (encodeRne efFp32 false v)

def canonNaN : W32 := 0x7FC00000#32

/-- The signed magnitude of an exact value at exponent `e0` (not above its own). -/
def scaledInt (neg : Bool) (m : Nat) (e e0 : Int) : Int :=
  let k : Int := ((m * 2 ^ (e - e0).toNat : Nat) : Int)
  if neg then -k else k

/-- A sum as an exact value; `z` is the sign an exact zero takes. -/
def ofSum (k : Int) (e : Int) (z : Bool) : FV :=
  if k = 0 then .fin z 0 0 else .fin (decide (k < 0)) k.natAbs e

/-- Exact addition, IEEE special values (R50, R58). -/
def fvAdd : FV → FV → FV
  | .nan, _ => .nan
  | _, .nan => .nan
  | .inf a, .inf b => if a = b then .inf a else .nan
  | .inf a, _ => .inf a
  | _, .inf b => .inf b
  | .fin a m e, .fin b n g =>
    if m = 0 && n = 0 then .fin (a && b) 0 0
    else
      let e0 := min e g
      ofSum (scaledInt a m e e0 + scaledInt b n g e0) e0 false

/-- Exact multiplication, IEEE special values. -/
def fvMul : FV → FV → FV
  | .nan, _ => .nan
  | _, .nan => .nan
  | .inf a, .inf b => .inf (a != b)
  | .inf a, .fin b n _ => if n = 0 then .nan else .inf (a != b)
  | .fin a m _, .inf b => if m = 0 then .nan else .inf (a != b)
  | .fin a m e, .fin b n g => .fin (a != b) (m * n) (e + g)

def fvNeg : FV → FV
  | .nan => .nan
  | .inf a => .inf (!a)
  | .fin a m e => .fin (!a) m e

/-- FP32 addition (R50, R58). -/
def fAdd (a b : W32) : W32 := toF32 (fvAdd (f32 a) (f32 b))
/-- FP32 multiplication (R58). -/
def fMul (a b : W32) : W32 := toF32 (fvMul (f32 a) (f32 b))
/-- FP32 fused multiply-add with one rounding (R52, R58). -/
def fFma (a b c : W32) : W32 := toF32 (fvAdd (fvMul (f32 a) (f32 b)) (f32 c))

/-- Order of two non-NaN values, −0 below +0 (R58): less than. -/
def fvLt : FV → FV → Bool
  | .nan, _ => false
  | _, .nan => false
  | .inf a, .inf b => a && !b
  | .inf a, _ => a
  | _, .inf b => !b
  | .fin a m e, .fin b n g =>
    if m = 0 && n = 0 then a && !b
    else
      let e0 := min e g
      decide (scaledInt a m e e0 < scaledInt b n g e0)

/-- IEEE equality (zeros equal). -/
def fvEq : FV → FV → Bool
  | .nan, _ => false
  | _, .nan => false
  | .inf a, .inf b => a == b
  | .inf _, _ => false
  | _, .inf _ => false
  | .fin a m e, .fin b n g =>
    let e0 := min e g
    decide (scaledInt a m e e0 = scaledInt b n g e0)

def isNaN32 (a : W32) : Bool := match f32 a with | .nan => true | _ => false

/-- Minimum: the numeric operand when one is NaN, −0 below +0 (R58). -/
def fMin (a b : W32) : W32 :=
  if isNaN32 a then (if isNaN32 b then canonNaN else b)
  else if isNaN32 b then a
  else if fvLt (f32 b) (f32 a) then b else a

/-- Maximum (R58). -/
def fMax (a b : W32) : W32 :=
  if isNaN32 a then (if isNaN32 b then canonNaN else b)
  else if isNaN32 b then a
  else if fvLt (f32 a) (f32 b) then b else a

/-- Less than, with IEEE zeros equal (R58). -/
def fLt (a b : W32) : Bool := fvLt (f32 a) (f32 b) && !fvEq (f32 a) (f32 b)
/-- Equality (R58). -/
def fEq (a b : W32) : Bool := fvEq (f32 a) (f32 b)

/-- Not less than, less or equal, and the other relations of IEEE 754-2019 (R58): a NaN is unordered with everything. -/
def fUnordered (a b : W32) : Bool := isNaN32 a || isNaN32 b
/-- Less than or equal (R58). -/
def fLe (a b : W32) : Bool := fLt a b || fEq a b

/-- Conversion of a load's element to FP32: exact; infinities and NaNs are preserved, a NaN with its sign and payload at the top of
the wider fraction; E4M3's NaN is the canonical one (R60). -/
def toFp32From (fmt : Nat) (code : Nat) : W32 :=
  match elemFmt fmt with
  | some f =>
    let c := code % 2 ^ f.bits
    if f.special == 0 && !f.isInt && (match decodeElem f c with | .nan => true | _ => false) then
      BitVec.ofNat 32 (b2n (nbit c (f.bits - 1)) * 2 ^ 31 + 0x7F800000 + c % 2 ^ f.mant * 2 ^ (23 - f.mant))
    else toF32 (decodeElem f c)
  | none => BitVec.ofNat 32 code

/-- Conversion from FP32 to a narrow format, non-saturating or saturating (R60). -/
def fromFp32To (fmt : Nat) (sat : Bool) (w : W32) : Nat :=
  match elemFmt fmt with
  | some f => encodeRne f sat (f32 w)
  | none => w.toNat

/-! ## Group sums of the arrays (R48, R49, R51) -/

/-- Exact sum of exact products; the special values of Table 02-5. -/
def sumExact (ps : List FV) : FV :=
  if ps.any (fun p => match p with | .nan => true | _ => false) then .nan
  else if ps.any (fun p => p == .inf false) then
    (if ps.any (fun p => p == .inf true) then .nan else .inf false)
  else if ps.any (fun p => p == .inf true) then .inf true
  else
    let e0 := ps.foldl (fun a p => match p with | .fin _ _ e => min a e | _ => a) (0 : Int)
    let k := ps.foldl (fun a p => match p with | .fin n m e => a + scaledInt n m e e0 | _ => a) (0 : Int)
    ofSum k e0 false

/-- Leading-bit position of the largest product magnitude. -/
def topBit (ps : List FV) : Option Int :=
  ps.foldl (fun a p => match p with
    | .fin _ m e => if m = 0 then a else
        (match a with
        | none => some (flog2 m e)
        | some t => some (max t (flog2 m e)))
    | _ => a) none

/-- A magnitude without its bits more than 40 places below position `t` (R48, 16-bit formats). -/
def trunc40 (t : Int) : FV → FV
  | .fin n m e =>
    let q := t - 40
    if q ≤ e then .fin n m e else .fin n (m / 2 ^ (q - e).toNat) q
  | v => v

/-- The group sum before scaling: exact, or aligned to 40 places for the 16-bit formats (R48). -/
def groupSum (wide : Bool) (ps : List FV) : FV :=
  if wide then
    (match topBit ps with
    | some t => sumExact (ps.map (trunc40 t))
    | none => sumExact ps)
  else sumExact ps

/-- A value times 2^k. -/
def fvScale (k : Int) : FV → FV
  | .fin n m e => .fin n m (e + k)
  | v => v

/-- The rounded, scaled group sum of R49, with the scales' NaN of Table 02-5. -/
def scaledGroup (wide : Bool) (es et : Nat) (ps : List FV) : W32 :=
  if es == 0xFF || et == 0xFF then canonNaN
  else toF32 (fvScale ((es : Int) - 127 + ((et : Int) - 127)) (groupSum wide ps))

/-! ## Special functions (R61, Table 02-7) -/

/-- Integer square root by digits, structural on the number of result bits. -/
def isqrtBits : Nat → Nat → Nat → Nat
  | 0, _, r => r
  | k + 1, n, r =>
    let t := r + 2 ^ k
    isqrtBits k n (if t * t ≤ n then t else r)

/-- floor of the square root of `n`, `n` below 2^128. -/
def isqrt (n : Nat) : Nat := isqrtBits 64 n 0

/-- Correctly rounded FP32 square root of a positive m·2^e: 30 result bits and a sticky bit. -/
def sqrtFin (m : Nat) (e : Int) : FV :=
  let k := 2 * (62 - bitLen m / 2) + (if (e % 2 = 0) then 0 else 1)
  let n := m * 2 ^ k
  let r := isqrt n
  let sticky := if r * r = n then 0 else 1
  .fin false (2 * r + sticky) ((e - k) / 2 - 1)

/-- FP32 square root, correctly rounded: x < 0 gives NaN (−0 is not below 0). -/
def fSqrt (x : W32) : W32 :=
  match f32 x with
  | .nan => canonNaN
  | .inf neg => if neg then canonNaN else x
  | .fin neg m e => if m = 0 then x else if neg then canonNaN else toF32 (sqrtFin m e)

/-! ### Values within the bounds of Table 02-7

A function's exact value is bracketed in integers with 128 places after the point; a result is any FP32 number within the stated error of
it (assumption 5): the free value where it is one, else the bracketed value rounded. -/

/-- The largest integer whose square is at most `n`, for `n` below 2^220. -/
def isqrtWide (n : Nat) : Nat := isqrtBits 110 n 0

def ln2Fx : Nat := 235865763225513294137944142764154484399
def piFx : Nat := 1069028584064966747859680373161870783300

/-- A magnitude m·2^e in units of 2^-128. -/
def toFx (m : Nat) (e : Int) : Nat := if 0 ≤ e + 128 then m * 2 ^ (e + 128).toNat else m / 2 ^ (-(e + 128)).toNat

/-- Sum of r^j/j! from a term on: `t` is the term of index `j`, all in units of 2^-128. -/
def expTail : Nat → Nat → Nat → Nat → Nat
  | 0, _, _, _ => 0
  | n + 1, j, t, r => t + expTail n (j + 1) (t * r / ((j + 1) * 2 ^ 128)) r
/-- 2^f for a fraction f in units of 2^-128. -/
def exp2Fx (f : Nat) : Nat := expTail 48 0 (2 ^ 128) (f * ln2Fx / 2 ^ 128)

/-- Sum of z^(2j+1)/(2j+1): `t` is z^(2j+1). -/
def atanhTail : Nat → Nat → Nat → Nat → Nat
  | 0, _, _, _ => 0
  | n + 1, j, t, z2 => t / (2 * j + 1) + atanhTail n (j + 1) (t * z2 / 2 ^ 128) z2
/-- log2 of 1 + (m − 2^k)/2^k for 2^k ≤ m < 2^(k+1). -/
def log2Fx (m k : Nat) : Nat :=
  let z := (m - 2 ^ k) * 2 ^ 128 / (m + 2 ^ k)
  2 * atanhTail 48 0 z (z * z / 2 ^ 128) * 2 ^ 128 / ln2Fx

/-- Alternating sum of r^(2j+1)/(2j+1)!. -/
def sinTail : Nat → Nat → Nat → Nat → Int
  | 0, _, _, _ => 0
  | n + 1, j, t, r2 => (t : Int) - sinTail n (j + 1) (t * r2 / ((2 * j + 2) * (2 * j + 3) * 2 ^ 128)) r2
/-- Sine of an angle in units of 2^-128, reduced by the whole turns in it. -/
def sinFx (x : Nat) : Int :=
  let r := x % (2 * piFx)
  sinTail 48 0 r (r * r / 2 ^ 128)

/-- The FP32 number `w` where it lies within c·2^t of the bracketed value v·2^e, else that value rounded. -/
def pickWithin (w : W32) (v e : Int) (c : Nat) (t : Int) : W32 :=
  let dflt := toF32 (.fin (decide (v < 0)) v.natAbs e)
  match f32 w with
  | .fin n m g =>
    let e0 := min g (min e t)
    if (scaledInt n m g e0 - scaledInt (decide (v < 0)) v.natAbs e e0).natAbs ≤ c * 2 ^ (t - e0).toNat + 2 * 2 ^ (e - e0).toNat then w else dflt
  | _ => dflt
/-- Exponent of a unit in the last place of the binary32 numbers about v·2^e. -/
def ulpExp (v e : Int) : Int := max (flog2 v.natAbs e) (-126) - 23

/-- A free value of the result the spec bounds but does not state. -/
def freeSpecial (fn : Nat) (x : W32) : W32 := Config.specialFn fn x

/-- A free value held to the closed interval −1 to 1 (sine and cosine beyond 100π; R61). -/
def clampUnit (w : W32) : W32 :=
  if isNaN32 w then 0#32
  else if fvLt (f32 0x3F800000#32) (f32 w) then 0x3F800000#32
  else if fvLt (f32 w) (f32 0xBF800000#32) then 0xBF800000#32
  else w

/-- A value with its sign. -/
def signed (neg : Bool) (n : Nat) : Int := if neg then -(n : Int) else n

/-- Reciprocal, within 1 ulp; a value beyond the largest number is not stated (assumption 5). -/
def recip1 (w : W32) (neg : Bool) (m : Nat) (e : Int) : W32 :=
  let k : Nat := 2 ^ (bitLen m + 120) / m
  let g : Int := -((bitLen m : Int) + 120) - e
  if flog2 k g ≥ 128 then w else pickWithin w (signed neg k) g 1 (ulpExp k g)
/-- Reciprocal square root of a positive number, within 1 ulp. -/
def rsqrt1 (w : W32) (m : Nat) (e : Int) : W32 :=
  let n := if e % 2 = 0 then m else 2 * m
  let h : Int := (if e % 2 = 0 then e else e - 1) / 2
  let k : Nat := isqrtWide (2 ^ 200 / n)
  pickWithin w k (-100 - h) 1 (ulpExp k (-100 - h))
/-- Power of two, within 2 ulp, below 2^128 and not below 2^-149. -/
def exp2One (w : W32) (neg : Bool) (m : Nat) (e : Int) : W32 :=
  let x : Int := signed neg (toFx m e)
  let f : Nat := (x % 2 ^ 128).toNat
  let g : Int := x / 2 ^ 128 - 128
  let k : Nat := exp2Fx f
  pickWithin w k g 2 (ulpExp k g)
/-- Logarithm of a positive number: within 2^-22 from 0.5 to 2, elsewhere within 2 ulp. -/
def log2One (w : W32) (m : Nat) (e : Int) : W32 :=
  let k := bitLen m - 1
  let v : Int := (e + k) * 2 ^ 128 + log2Fx m k
  let mid := !fvLt (.fin false m e) (f32 0x3F000000#32) && !fvLt (f32 0x40000000#32) (.fin false m e)
  if mid then pickWithin w v (-128) 1 (-22) else pickWithin w v (-128) 2 (ulpExp v (-128))
/-- Sine, or cosine as the sine a quarter turn on, within 2^-21 up to 100π; beyond, from −1 to 1. -/
def sinCos (w : W32) (cosine neg : Bool) (m : Nat) (e : Int) : W32 :=
  if flog2 m e ≥ 9 || toFx m e > 100 * piFx then clampUnit w
  else
    let v := if cosine then sinFx (toFx m e + piFx / 2) else (if neg then -(sinFx (toFx m e)) else sinFx (toFx m e))
    pickWithin w v (-128) 1 (-21)
/-- Hyperbolic tangent of a finite number, within 2^-21: (1 − q)/(1 + q) with q = 2^(−2|x|/ln 2). -/
def tanh1 (w : W32) (neg : Bool) (m : Nat) (e : Int) : W32 :=
  let v : Nat :=
    if flog2 m e ≥ 6 then 2 ^ 128
    else
      let y := 2 * toFx m e * 2 ^ 128 / ln2Fx
      let q := exp2Fx (2 ^ 128 - y % 2 ^ 128) / 2 ^ (y / 2 ^ 128 + 1)
      (2 ^ 128 - q) * 2 ^ 128 / (2 ^ 128 + q)
  pickWithin w (signed neg v) (-128) 1 (-21)

/-- The special functions by number: 0 reciprocal, 1 reciprocal square root, 2 square root, 3 exp2, 4 log2, 5 sine,
6 cosine, 7 tanh. Where Table 02-7 states the result it is that; elsewhere any value within its error, or a free value where it bounds
none (assumption 5). -/
def specialFunction (fn : Nat) (x : W32) : W32 :=
  let w := freeSpecial fn x
  match f32 x with
  | .nan => canonNaN
  | .inf neg =>
    match fn with
    | 0 => if neg then 0x80000000#32 else 0#32
    | 1 => if neg then canonNaN else w
    | 2 => fSqrt x
    | 3 => if neg then 0#32 else 0x7F800000#32
    | 4 => if neg then canonNaN else w
    | 5 => clampUnit w
    | 6 => clampUnit w
    | 7 => if neg then 0xBF800000#32 else 0x3F800000#32
    | _ => w
  | .fin neg m e =>
    match fn with
    | 0 => if m = 0 then (if neg then 0xFF800000#32 else 0x7F800000#32) else recip1 w neg m e
    | 1 => if m = 0 then (if neg then w else 0x7F800000#32) else if neg then canonNaN else rsqrt1 w m e
    | 2 => fSqrt x
    | 3 =>
      -- results above the FP32 maximum or below 2^-149: the stated limits
      if !neg && fvLt (f32 0x42FFFFFF#32) (.fin neg m e) then 0x7F800000#32
      else if neg && fvLt (.fin neg m e) (f32 0xC3150000#32) then 0#32
      else exp2One w neg m e
    | 4 => if m = 0 then 0xFF800000#32 else if neg then canonNaN else log2One w m e
    | 5 => sinCos w false neg m e
    | 6 => sinCos w true neg m e
    | 7 => tanh1 w neg m e
    | _ => w

end Sys2Proof.Machine
end

