-- ==== Sys2Proof/Machine/SectorCode.lean ====
section
/-!
DEFINITION. The sector code of the memory piles (R266, R267): a shortened Reed-Solomon code over GF(2^8), field polynomial
x^8 + x^4 + x^3 + x^2 + 1, generator roots α^0 to α^3, and the three copies of the poison flag.
-/

namespace Sys2Proof.Machine

/-- Multiplication by α. -/
def gfDouble (a : Nat) : Nat := if a < 128 then 2 * a else (2 * a) ^^^ 0x11D
/-- Product of two field elements: `n` bits of b from the lowest. -/
def gfMulBits : Nat → Nat → Nat → Nat
  | 0, _, _ => 0
  | n + 1, a, b => (if b % 2 = 1 then a else 0) ^^^ gfMulBits n (gfDouble a) (b / 2)
def gfMul (a b : Nat) : Nat := gfMulBits 8 a b
/-- α to the power n. -/
def gfPow : Nat → Nat
  | 0 => 1
  | n + 1 => gfDouble (gfPow n)

/-- The check bytes after a data byte (division by the generator, highest check byte first). Its coefficients are those of
(x − α^0)(x − α^1)(x − α^2)(x − α^3) = x^4 + 15x^3 + 54x^2 + 120x + 64. -/
def rsFeed (c : Nat × Nat × Nat × Nat) (d : Nat) : Nat × Nat × Nat × Nat :=
  let k := d ^^^ c.1
  (c.2.1 ^^^ gfMul 15 k, c.2.2.1 ^^^ gfMul 54 k, c.2.2.2 ^^^ gfMul 120 k, gfMul 64 k)
/-- The 4 check bytes of a sector's 32 data bytes, which follow them in the codeword (R266). -/
def rsCheck (data : List Byte) : List Byte :=
  let c := data.foldl (fun c b => rsFeed c b.toNat) (0, 0, 0, 0)
  [BitVec.ofNat 8 c.1, BitVec.ofNat 8 c.2.1, BitVec.ofNat 8 c.2.2.1, BitVec.ofNat 8 c.2.2.2]

/-- Syndrome j of an error pattern, as (symbol, mask): the code is linear, so the pattern alone decides it. Symbol i of the 36 is the
coefficient of x^(35 − i). -/
def rsSyndrome (bad : List (Nat × Nat)) (j : Nat) : Nat := bad.foldl (fun a e => a ^^^ gfMul (e.2 % 256) (gfPow (j * (35 - e.1)))) 0

/-- Outcome of decoding (Table 08-2). -/
inductive SectorRead where
  | clean
  | corrected (symbol mask : Nat)
  | uncorrectable
  deriving DecidableEq, Repr

/-- Decoding of a stored sector by its error pattern: no symbol in error, one, or more (R267). -/
def rsDecode (bad : List (Nat × Nat)) : SectorRead :=
  let y0 := rsSyndrome bad 0
  let y1 := rsSyndrome bad 1
  let y2 := rsSyndrome bad 2
  let y3 := rsSyndrome bad 3
  if y0 = 0 && y1 = 0 && y2 = 0 && y3 = 0 then .clean
  else if y0 = 0 then .uncorrectable
  else match (List.range 36).find? (fun i =>
      let r := gfPow (35 - i)
      gfMul y0 r == y1 && gfMul y1 r == y2 && gfMul y2 r == y3) with
    | some i => .corrected i y0
    | none => .uncorrectable

/-- The metadata byte: the flag in bits 2:0, the rest 0; read as the majority of its copies (R266). -/
def poisonMeta (poison : Bool) : Nat := if poison then 7 else 0
def poisonRead (m : Nat) : Bool := decide (popCount 3 m ≥ 2)

end Sys2Proof.Machine
end

