-- ==== Sys2Proof/Machine/Operands.lean ====
section
/-!
DEFINITION. Operand forms: device physical addresses and what answers them (R100–R106, R185–R193, R222–R224, R255–R269,
R310, R665), the flip mask (R609–R612), reads and writes of bytes, posted reductions and atomics.
-/

namespace Sys2Proof.Machine

/-! ## Physical addresses (R665) -/

/-- What answers a device physical address. Local store windows: 0 plain, 1 bit-set alias, 2 bit-clear alias. -/
inductive PClass where
  | dram
  | host (h : Nat)
  | thallus (o : Nat)
  | lstore (f o win : Nat)
  | hub
  | unmapped
  | unassigned
  deriving DecidableEq, Repr

/-- Local store window at an offset from its first Frond's base (Table 04-2, R101). -/
def lsWindow (d win : Nat) : PClass :=
  if d < 16 * 0x4000000 && d % 0x4000000 < 0x1000000 then .lstore (d / 0x4000000) (d % 0x4000000) win else .unmapped

def physClass (pa : Nat) : PClass :=
  if pa < 0x6000000000 then .dram
  else if pa < 0x40000000000 then .unassigned
  else if pa < 0x80000000000 then .host (pa - 0x40000000000)
  else if pa < 0x80400000000 then .thallus (pa - 0x80000000000)
  else if pa < 0xC0000000000 then .unassigned
  else if pa < 0xE0000000000 then lsWindow (pa - 0xC0000000000) 0
  else if pa < 0xE0040000000 then lsWindow (pa - 0xE0000000000) 1
  else if pa < 0xE0080000000 then lsWindow (pa - 0xE0040000000) 2
  else if pa < 0xF0000000000 then .unmapped
  else if pa < 0x100000000000 then .hub
  else .unassigned

/-- Why an access fails: reason and location, whether the data was found uncorrectable, and whether the flip mask did it. -/
structure MErr where
  reason : Nat
  loc : Loc
  unc : Bool
  inj : Bool
  deriving DecidableEq, Repr

def merr (reason : Nat) (loc : Loc) : MErr := ⟨reason, loc, false, false⟩

/-! ## The slice hash, regions and channel addresses (R222, R256, R277) -/

def foldLine (l : Nat) : Nat := (l ^^^ (l >>> 7) ^^^ (l >>> 14) ^^^ (l >>> 21) ^^^ (l >>> 28)) % 2 ^ 32
def sliceOf (l : Nat) (global : Bool) (t nslice : Nat) : Nat :=
  if global then foldLine l % nslice else 32 * t + foldLine l % 32
def setOf (l : Nat) : Nat := (l >>> 7) % 32768
def tagOf (l : Nat) : Nat := (l >>> 22) * 128 + l % 128
/-- The line address a set and a tag spell (R222). -/
def lineOf (set tag : Nat) : Nat := (tag / 128) * 2 ^ 22 + set * 128 + tag % 128

/-- The applied region that holds a DRAM address, with its index (R255). -/
def State.regionOf (s : State) (pa : Nat) : Option (Nat × Region) :=
  match findIdxFrom (fun r : Region => r.en && decide (r.base * 2 ^ 30 ≤ pa) && decide (pa < (r.base + r.size) * 2 ^ 30)) s.pil.applied 0 with
  | some n => (s.pil.applied[n]?).map (fun r => (n, r))
  | none => none

/-- Channels a region uses. -/
def Region.nch (r : Region) (channels : Nat) : Nat := if r.global then channels else 32

/-- Channel and channel address of a DRAM address in a region (R256). -/
def chanAddr (r : Region) (channels pa : Nat) : Nat × Nat :=
  let l := pa / 128
  let nch := r.nch channels
  let k := 128 / nch
  let block := (l - r.base * 2 ^ 23) / 128
  let sub := (foldLine l / nch) % k
  (sliceOf l r.global r.tower channels, r.choff * 2 ^ 20 + (block * k + sub) * 128 + pa % 128)

/-- Storage key of a channel address, and its sector key. -/
def dramKey (ch a : Nat) : Nat := ch * 2 ^ 32 + a
def sectorKey (ch a : Nat) : Nat := ch * 2 ^ 27 + a / 32

/-- Bank of a channel address within the channel, and its row (R277). -/
def bankOf (a : Nat) : Nat := (a / 2048) % 48
def rowOf (a : Nat) : Nat := (a / 2048) / 48
/-- Location of a stored sector (R277). -/
def sectorLoc (ch a : Nat) : Loc :=
  ⟨2, ch / 16, 1 + bankOf a / 4, ch % 16, bankOf a % 4, rowOf a / 512, rowOf a⟩

/-- Slice geometry (R220). -/
def sliceTQ (sl : Nat) : Nat := (sl / 32) * 4 + (sl % 32) / 8
def sliceBg (sl i : Nat) : Nat := 4 * (sl % 8) + i
def modeKey (tq b : Nat) : Nat := tq * 32 + b
def State.bgMode (s : State) (tq b : Nat) : Nat := spGet (fun _ => 0) s.msc.mode (modeKey tq b)
/-- Mode of the bank group that holds a way (R220, R227–R230). -/
def State.wayMode (s : State) (sl way : Nat) : Nat := s.bgMode (sliceTQ sl) (sliceBg sl (way / 4))
/-- Owned bank groups in cache mode (R237 counts no switching group). -/
def State.sliceK (s : State) (sl : Nat) : Nat := ((List.range 4).filter (fun i => s.bgMode (sliceTQ sl) (sliceBg sl i) == 1)).length
def wayKey (sl set way : Nat) : Nat := (sl * 32768 + set) * 16 + way
def State.way (s : State) (sl set way : Nat) : CLine := spGet (fun _ => CLine.init) s.msc.lines (wayKey sl set way)
def State.setWay (s : State) (sl set way : Nat) (v : CLine) : State :=
  { s with msc.lines := spPut (fun _ => CLine.init) s.msc.lines (wayKey sl set way) v }

def State.modWay (s : State) (sl set way : Nat) (g : CLine → CLine) : State := s.setWay sl set way (g (s.way sl set way))

def CLine.sec (c : CLine) (i : Nat) : Sector :=
  match i with
  | 0 => c.s0 | 1 => c.s1 | 2 => c.s2 | _ => c.s3
def CLine.setSec (c : CLine) (i : Nat) (v : Sector) : CLine :=
  match i with
  | 0 => { c with s0 := v } | 1 => { c with s1 := v } | 2 => { c with s2 := v } | _ => { c with s3 := v }

/-- The way that holds a line, if any (R223). -/
def State.findWay (s : State) (sl set tag : Nat) : Option Nat :=
  (List.range 16).find? (fun w => (s.way sl set w).valid && (s.way sl set w).tag == tag)

/-! ## The per-byte code of the Thallus (R190, R191) -/

/-- Codeword position of stored bit i, 0 for c4 (Table 06-4). -/
def codePos (i : Nat) : Nat :=
  match i with
  | 0 => 3 | 1 => 5 | 2 => 6 | 3 => 7 | 4 => 9 | 5 => 10 | 6 => 11 | 7 => 12
  | 8 => 1 | 9 => 2 | 10 => 4 | 11 => 8 | _ => 0
/-- Stored bit at a codeword position. -/
def posBit (p : Nat) : Nat :=
  match p with
  | 3 => 0 | 5 => 1 | 6 => 2 | 7 => 3 | 9 => 4 | 10 => 5 | 11 => 6 | 12 => 7
  | 1 => 8 | 2 => 9 | 4 => 10 | 8 => 11 | _ => 12
/-- Syndrome of an error pattern: the code is linear, so the pattern alone decides it (R191). -/
def syndrome (mask : Nat) : Nat := (bitsOf 12 mask).foldl (fun a i => a ^^^ codePos i) 0
def parity13 (mask : Nat) : Nat := popCount 13 mask % 2
/-- The 13-bit codeword of a byte (Table 06-4). -/
def thlEncode (b : Nat) : Nat :=
  let c := syndrome b
  let w := b + (c % 2) * 256 + (c / 2 % 2) * 512 + (c / 4 % 2) * 1024 + (c / 8 % 2) * 2048
  w + parity13 w * 4096
/-- Decoding of Table 06-5: none uncorrectable, otherwise the data bits still wrong and whether a correction was made. -/
def thlDecode (mask : Nat) : Option (Nat × Bool) :=
  let sy := syndrome mask
  if parity13 mask = 0 then (if sy = 0 then some (mask % 256, false) else none)
  else if sy = 0 then some (mask % 256, true)
  else if sy ≤ 12 then some ((mask ^^^ (1 <<< posBit sy)) % 256, true)
  else none

/-- A SEC-DED word with this error pattern is uncorrectable (two or more bits; assumption 9). -/
def secdedBad (mask : Nat) : Bool := decide (popCount 72 mask ≥ 2)

/-! ## Errors of addresses (R101, R102, R186, R255, R262, R285) -/

def bgKey (t die q b : Nat) : Nat := ((t * 2 + die) * 4 + q) * 32 + b
/-- Fields of a scratchpad window offset (Table 06-3). -/
def thlTower (o : Nat) : Nat := nfld o 33 32
def thlDie (o : Nat) : Nat := nfld o 31 31
def thlQuad (o : Nat) : Nat := nfld o 30 29
def thlLine (o : Nat) : Nat := nfld o 28 12
def thlBg (o : Nat) : Nat := nfld o 11 7
def thlMacro (o : Nat) : Nat := nfld o 28 24
def thlRow (o : Nat) : Nat := nfld o 23 12 / 4
def thlBgLoc (o : Nat) : Loc := locThl (thlTower o) (thlDie o) (thlQuad o) (thlBg o) 0xFF 0xFFFF
def thlByteLoc (o : Nat) : Loc := locThl (thlTower o) (thlDie o) (thlQuad o) (thlBg o) (thlMacro o) (0x8000 + thlRow o)

/-- A DRAM channel as a whole (R277). -/
def chanLoc (ch : Nat) : Loc := locPile (ch / 16) 0 (ch % 16) 0xFF 0xFF 0xFFFF

/-- Why an access to a device physical address is refused before it reaches its memory, if it is. -/
def State.physErr (s : State) (pa : Nat) : Option MErr :=
  match physClass pa with
  | .dram =>
    match (if pa < s.part.dramGib * 2 ^ 30 then s.regionOf pa else none) with
    | none => some (merr 0x0502 Loc.whole)
    | some (n, r) =>
      if s.rget (Fd.PIL_REGION_LOST n) = 1 then some (merr 0x0501 (chanLoc (chanAddr r s.channels pa).1))
      else if s.towerUp ((chanAddr r s.channels pa).1 / 32) then none
      else some (merr 0x0601 (locTower ((chanAddr r s.channels pa).1 / 32)))
  | .host _ => none
  | .thallus o =>
    if thlTower o ≥ s.towers then some (merr 0x030C Loc.whole)
    else if !s.towerUp (thlTower o) then some (merr 0x0601 (locTower (thlTower o)))
    else if thlDie o = 1 && s.bgMode (thlTower o * 4 + thlQuad o) (thlBg o) ≠ 0 then some (merr 0x030D (thlBgLoc o))
    else if s.thl.unavail.contains (bgKey (thlTower o) (thlDie o) (thlQuad o) (thlBg o)) then some (merr 0x030E (thlBgLoc o))
    else none
  | .lstore f _ _ =>
    if !s.frondUp f then some (merr 0x0601 (if f < s.fronds then locFrondWhole f else Loc.whole))
    else if s.sleep f = 3 then some (merr 0x0209 (locFrond f 0x20 0xFF 0xFFFF))
    else none
  | .hub => some (merr 0x0202 Loc.whole)
  | .unmapped => some (merr 0x020C Loc.whole)
  | .unassigned => some (merr 0x020C Loc.whole)

/-! ## The flip mask (R609–R612) -/

/-! ## The local store (R103–R107) -/

def lsKey (f o : Nat) : Nat := f * 2 ^ 24 + o
def lsWordLoc (f o : Nat) : Loc := locFrond f 0x20 ((o / 64) % 32) (o / 2048)
def State.lsBadW (s : State) (w : Nat) : Nat := spGet (fun _ => 0) s.mem.lsBad w
/-- The words a range of a local store touches. -/
def wordsOf (k len : Nat) : List Nat := (List.range ((k + len - 1) / 4 - k / 4 + 1)).map (· + k / 4)

/-- Read bytes of a local store: any uncorrectable word fails the read (R106). -/
def State.lsPeek (s : State) (f o len : Nat) : Except MErr (List Byte) :=
  ((wordsOf (lsKey f o) len).find? (fun w => secdedBad (s.lsBadW w))).elim (.ok (memGetN s.mem.ls (lsKey f o) len))
    (fun w => .error ⟨0x0206, lsWordLoc f ((w * 4) % 2 ^ 24), true, s.isInj 0 w⟩)

/-- One byte range inside one word: a whole word replaces it, a narrower store merges (R103); the flip mask may strike. -/
def State.lsPutWord (s : State) (k : Nat) (bytes : List Byte) : State :=
  let w := k / 4
  let s := { s with mem.ls := memPutN s.mem.ls k bytes
                    mem.lsBad := spDel s.mem.lsBad w }.dropInj 0 w
  match s.injMask 0 (lsWordLoc (w / 2 ^ 22) ((w * 4) % 2 ^ 24)) with
  | some m => (({ s with mem.lsBad := spPut (fun _ => 0) s.mem.lsBad w (m % 2 ^ 39) }).noteInj 0 w).injDone
  | none => s

/-- Pieces of a byte list at key `k` by aligned words. -/
def wordPieces (k : Nat) : List Byte → List (Nat × List Byte)
  | [] => []
  | b :: bs =>
    match wordPieces (k + 1) bs with
    | [] => [(k, [b])]
    | (j, l) :: r => if j % 4 = 0 then (k, [b]) :: (j, l) :: r else (k, b :: l) :: r

/-- Write bytes to a local store: a merge over an uncorrectable word is not performed and is the error (R103). -/
def State.lsPoke (s : State) (f o : Nat) (bytes : List Byte) : State × Option MErr :=
  (wordPieces (lsKey f o) bytes).foldl (fun (p : State × Option MErr) (q : Nat × List Byte) =>
    if q.2.length < 4 && secdedBad (p.1.lsBadW (q.1 / 4)) then
      (p.1, some ⟨0x0206, lsWordLoc f ((q.1 / 4 * 4) % 2 ^ 24), true, p.1.isInj 0 (q.1 / 4)⟩)
    else (p.1.lsPutWord q.1 q.2, p.2)) (s, none)

/-- An alias store of 4 or 8 bytes (R105): word | value or word & ~value. -/
def State.aliasPoke (s : State) (f o win : Nat) (bytes : List Byte) : State × Option MErr :=
  if (bytes.length = 4 || bytes.length = 8) && o % bytes.length = 0 then
    match s.lsPeek f o bytes.length with
    | .error e => (s, some e)
    | .ok old =>
      s.lsPoke f o (List.zipWith (fun a b => if win = 1 then a ||| b else a &&& ~~~b) old bytes)
  else (s, some (merr 0x0208 (locFrond f 0x20 0xFF 0xFFFF)))

/-! ## The Thallus (R187–R193) -/

def State.thlMask (s : State) (o : Nat) : Nat := spGet (fun _ => 0) s.mem.thlBad o

def State.thlPeek (s : State) (o len : Nat) : Except MErr (List Byte) :=
  match (List.range len).find? (fun i => (thlDecode (s.thlMask (o + i))).isNone) with
  | some i => .error ⟨0x0301, thlByteLoc (o + i), true, s.isInj 1 (o + i)⟩
  | none => .ok ((List.range len).map (fun i =>
      match thlDecode (s.thlMask (o + i)) with
      | some (e, _) => memGet s.mem.thl (o + i) ^^^ BitVec.ofNat 8 e
      | none => 0#8))

/-- Physical row of a window offset: bank group, macro and row. -/
def thlRowKey (o : Nat) : Nat := (bgKey (thlTower o) (thlDie o) (thlQuad o) (thlBg o) * 32 + thlMacro o) * 1024 + thlRow o

/-- A correction in a row: four within 24 h are a hard error (R197); injected errors count toward nothing (R610). -/
def State.thlCorrected (s : State) (o : Nat) (inj : Bool) : State :=
  if inj then s
  else
    let l := (thlRowKey o, s.clock) :: s.thl.rowCorr.filter (fun p => decide (s.clock < p.2 + 2160000000000))
    { s with thl.rowCorr := l
             thl.rowDue := if (l.filter (fun p => p.1 == thlRowKey o)).length ≥ 4 then insNat s.thl.rowDue (thlRowKey o) else s.thl.rowDue }

/-- An access to a bank group ends its retention and starts its idle time anew (R209). -/
def State.bgUse (s : State) (key : Nat) : State :=
  { s with thl.retention := s.thl.retention.filter (· != key), thl.lastUse := spPut (fun _ => 0) s.thl.lastUse key s.clock }
def State.thlUse (s : State) (o : Nat) : State := s.bgUse (bgKey (thlTower o) (thlDie o) (thlQuad o) (thlBg o))

/-- A read of one byte counts a correction and writes the corrected codeword back, or counts an uncorrectable byte
(R192, R193). -/
def State.thlTouch1 (s : State) (o : Nat) : State :=
  if s.thlMask o = 0 then s
  else
    match thlDecode (s.thlMask o) with
    | some (_, false) => s
    | some (e, true) =>
      let inj := s.isInj 1 o
      (({ s with mem.thl := memPut s.mem.thl o (memGet s.mem.thl o ^^^ BitVec.ofNat 8 e)
                 mem.thlBad := spDel s.mem.thlBad o }.dropInj 1 o).radd Fd.THL_ERR_STAT_CORRECTED 1).thlCorrected o inj
    | none => s.radd Fd.THL_ERR_STAT_UNCORRECTED 1
def State.thlTouch (s : State) (o len : Nat) : State := (List.range len).foldl (fun s i => s.thlTouch1 (o + i)) (s.thlUse o)

def State.thlPoke1 (s : State) (o : Nat) (b : Byte) : State :=
  let s := { s with mem.thl := memPut s.mem.thl o b
                    mem.thlBad := spDel s.mem.thlBad o }.dropInj 1 o
  match s.injMask 1 (thlByteLoc o) with
  | some m => (({ s with mem.thlBad := spPut (fun _ => 0) s.mem.thlBad o (m % 2 ^ 13) }).noteInj 1 o).injDone
  | none => s
def State.thlPokes (s : State) (o : Nat) : List Byte → State
  | [] => s
  | b :: bs => (s.thlPoke1 o b).thlPokes (o + 1) bs
def State.thlPoke (s : State) (o : Nat) (bytes : List Byte) : State := (s.thlUse o).thlPokes o bytes

/-! ## Channels (R265–R269) -/

def State.sectorBad (s : State) (k : Nat) : List (Nat × Nat) := spGet (fun _ => []) s.mem.dramBad k
def State.sectorPoisoned (s : State) (k : Nat) : Bool := poisonRead (spGet (fun _ => 0) s.mem.dramMeta k)
/-- The 37 bytes of a sector as its layer holds them: data and check bytes with their wrong symbols, then the metadata byte (R266). -/
def State.storedSector (s : State) (ch a : Nat) : List Byte :=
  let data := memGetN s.mem.dram (dramKey ch (alignDown a 32)) 32
  (s.sectorBad (sectorKey ch a)).foldl (fun l e => modAt (· ^^^ BitVec.ofNat 8 e.2) l e.1) (data ++ rsCheck data) ++
    [BitVec.ofNat 8 (spGet (fun _ => 0) s.mem.dramMeta (sectorKey ch a))]

/-- Decoding of a stored sector by Table 08-2, for bytes inside it. -/
def State.chanPeek (s : State) (ch a len : Nat) : Except MErr (List Byte) :=
  let k := sectorKey ch a
  if s.sectorPoisoned k then .error ⟨0x0504, sectorLoc ch a, true, s.isInj 2 k⟩
  else if rsDecode (s.sectorBad k) = .uncorrectable then .error ⟨0x0503, sectorLoc ch a, true, s.isInj 2 k⟩
  else .ok (memGetN s.mem.dram (dramKey ch a) len)

/-- Row of a stored sector, by channel, bank and row. -/
def rowKeyOf (ch a : Nat) : Nat := (ch * 48 + bankOf a) * 32768 + rowOf a

/-- A row meets a rule of R272: it is due for retirement. -/
def State.rowIsDue (s : State) (ch a : Nat) : State :=
  if s.pil.rowDue.contains (rowKeyOf ch a) then s else { s with pil.rowDue := rowKeyOf ch a :: s.pil.rowDue }

/-- A correction in a row: four within 24 h make it due (R272). -/
def State.rowCorrected (s : State) (ch a : Nat) : State :=
  let l := (rowKeyOf ch a, s.clock) :: s.pil.rowCorr.filter (fun p => decide (s.clock < p.2 + 2160000000000))
  let s := { s with pil.rowCorr := l }
  if (l.filter (fun p => p.1 == rowKeyOf ch a)).length ≥ 4 then s.rowIsDue ch a else s

/-- A read of a sector: one wrong symbol is corrected, counted and written back; an uncorrectable sector is counted, and
its row becomes due for retirement (R267, R272). Injected errors count toward nothing but the counters (R610). -/
def State.chanTouch (s : State) (ch a : Nat) : State :=
  let k := sectorKey ch a
  let inj := s.isInj 2 k
  if s.sectorPoisoned k then s
  else match rsDecode (s.sectorBad k) with
  | .clean => s
  | .corrected _ _ =>
    let s := ({ s with mem.dramBad := spDel s.mem.dramBad k }.dropInj 2 k).radd Fd.PIL_ERR_STAT_CORRECTED 1
    if inj then s else s.rowCorrected ch a
  | .uncorrectable =>
    let s := s.radd Fd.PIL_ERR_STAT_UNCORRECTED 1
    if inj then s else s.rowIsDue ch a

/-- Symbols in error after the flip mask of a KIND 2 target (R609): equal symbols combine. -/
def injSymbols (m a b : Nat) : List (Nat × Nat) :=
  if a = b then (if (m % 256) ^^^ (m / 256 % 256) = 0 then [] else [(a, (m % 256) ^^^ (m / 256 % 256))])
  else (if m % 256 = 0 then [] else [(a, m % 256)]) ++ (if m / 256 % 256 = 0 then [] else [(b, m / 256 % 256)])

/-- Store a whole sector: new check bytes, poison as given (R268), and the flip mask. -/
def State.chanPutSector (s : State) (ch a : Nat) (data : List Byte) (poison : Bool) : State :=
  let k := sectorKey ch a
  let s := { s with mem.dram := memPutN s.mem.dram (dramKey ch (alignDown a 32)) data
                    mem.dramBad := spDel s.mem.dramBad k
                    mem.dramMeta := spPut (fun _ => 0) s.mem.dramMeta k (poisonMeta poison) }.dropInj 2 k
  match s.injMask 2 (sectorLoc ch a) with
  | some m => (({ s with mem.dramBad := spPut (fun _ => []) s.mem.dramBad k
                           (injSymbols m (s.rget Fd.FLT_INJ_CTL_SYM_A) (s.rget Fd.FLT_INJ_CTL_SYM_B)) }).noteInj 2 k).injDone
  | none => s

/-- A masked write merged by the base die (R269): the sector is read and decoded; over an uncorrectable one it writes the bytes poisoned
and records. -/
def State.chanMerge (s : State) (ch a : Nat) (bytes : List Byte) : State :=
  let k := sectorKey ch a
  let unc := rsDecode (s.sectorBad k) == .uncorrectable
  let base := alignDown a 32
  let old := memGetN s.mem.dram (dramKey ch base) 32
  let new := old.take (a - base) ++ bytes ++ old.drop (a - base + bytes.length)
  let inj := s.isInj 2 k
  let poisoned := s.sectorPoisoned k
  let s := s.chanTouch ch a
  if poisoned then (s.chanPutSector ch a new true).keepInj inj 2 k
  else if unc then
    ((s.chanPutSector ch a new true).keepInj inj 2 k).raise { recNote 0x0505 (sectorLoc ch a) with inj := inj }
  else s.chanPutSector ch a new false

/-! ## The memory-side cache (R223–R226, R245, R246) -/

/-- A cached byte's data after the code, none where uncorrectable. -/
def Sector.byte (c : Sector) (i : Nat) : Option Byte :=
  match thlDecode (spGet (fun _ => 0) c.bad i) with
  | some (e, _) => some (c.data.getD i 0#8 ^^^ BitVec.ofNat 8 e)
  | none => none
/-- Whether a range of a cached sector holds an uncorrectable byte. -/
def Sector.uncIn (c : Sector) (off len : Nat) : Bool := (List.range len).any (fun i => (c.byte (off + i)).isNone)
def Sector.bytes (c : Sector) (off len : Nat) : List Byte := (List.range len).map (fun i => (c.byte (off + i)).getD 0#8)
/-- The sector's data as held: an uncorrectable byte as its cells hold it (R268). -/
def Sector.held (c : Sector) : List Byte := (List.range 32).map (fun i =>
  (c.byte i).getD (c.data.getD i 0#8 ^^^ BitVec.ofNat 8 (spGet (fun _ => 0) c.bad i % 256)))

/-- Tree pseudo-LRU: way a walk of the 15 bits names, taking the other side where a side holds no allowed way
(assumption 11). -/
def plruPick (bits : Nat) (ok : Nat → Bool) : Nat → Nat → Nat → Nat → Option Nat
  | 0, _, lo, _ => if ok lo then some lo else none
  | n + 1, node, lo, size =>
    let h := size / 2
    let l := fun _ : Unit => plruPick bits ok n (2 * node + 1) lo h
    let r := fun _ : Unit => plruPick bits ok n (2 * node + 2) (lo + h) h
    if nbit bits node then (match r () with | some w => some w | none => l ())
    else (match l () with | some w => some w | none => r ())

/-- The bits after a use of a way: each node on its path points to the other side. -/
def plruTouch : Nat → Nat → Nat → Nat → Nat → Nat → Nat
  | 0, _, bits, _, _, _ => bits
  | n + 1, way, bits, node, lo, size =>
    let h := size / 2
    if way < lo + h then plruTouch n way (bits ||| (1 <<< node)) (2 * node + 1) lo h
    else plruTouch n way (bits &&& (0x7FFF ^^^ (1 <<< node))) (2 * node + 2) (lo + h) h

def State.plruUse (s : State) (sl set way : Nat) : State :=
  { s with msc.plru := spPut (fun _ => 0) s.msc.plru (sl * 32768 + set)
             (plruTouch 4 way (spGet (fun _ => 0) s.msc.plru (sl * 32768 + set)) 0 0 16) }

/-- Write a line's dirty sectors to their channel; an uncorrectable dirty sector goes out poisoned (R225, R246, R268). -/
def State.writeBack (s : State) (sl set way : Nat) : State :=
  let c := s.way sl set way
  let pa := lineOf set c.tag * 128
  match s.regionOf pa with
  | none => s
  | some (_, r) =>
    let (ch, a) := chanAddr r s.channels pa
    (List.range 4).foldl (fun s i =>
      let x := c.sec i
      if x.valid && x.dirty then
        let bad := x.poison || x.uncIn 0 32
        (s.chanPutSector ch (a + 32 * i) x.held bad).keepInj (bad && s.isInj 8 (pa / 32 + i)) 2 (sectorKey ch (a + 32 * i))
      else s) s

/-- Forget what the flip mask struck in a cached line that leaves (R610). -/
def State.forgetLine (s : State) (l : Nat) : State := (List.range 4).foldl (fun s i => s.dropInj 8 (l * 4 + i)) s

/-- Evict a way: dirty sectors written back, the line dropped; a line with no hit since its fill counts as early (R225,
R249). -/
def State.evict (s : State) (sl set way : Nat) : State :=
  let c := s.way sl set way
  if c.valid then
    let s := s.writeBack sl set way
    let s := if !c.hit && !c.pinned then { s with msc.early := spMod (fun _ => 0) s.msc.early sl (· + 1) } else s
    (s.setWay sl set way CLine.init).forgetLine (lineOf set c.tag)
  else s

/-- A way a fill may take: an invalid one in cache mode, else the pseudo-LRU victim among the ways neither pinned, locked
nor switching (R225, R244). -/
def State.fillWay (s : State) (sl set : Nat) : Option Nat :=
  match (List.range 16).find? (fun w => s.wayMode sl w == 1 && !(s.way sl set w).valid) with
  | some w => some w
  | none => plruPick (spGet (fun _ => 0) s.msc.plru (sl * 32768 + set))
      (fun w => s.wayMode sl w == 1 && !(s.way sl set w).pinned && !(s.way sl set w).locked) 4 0 0 16

/-- The slice has ways at all (R220). -/
def State.hasWays (s : State) (sl : Nat) : Bool := (List.range 16).any (fun w => s.wayMode sl w == 1)

def sliceLoc (sl m : Nat) : Loc := locThl (sl / 32) 1 (sl % 32 / 8) (0x90 + sl % 8) m 0xFFFF
def State.setTagBad (s : State) (k v : Nat) : State := { s with msc.tagBad := spPut (fun _ => 0) s.msc.tagBad k v }
/-- The flip mask on a tag entry's copy, 0 A or 1 B: two flipped bits or more leave the copy uncorrectable, one does not (R247, R609). -/
def State.tagInject (s : State) (sl k copy : Nat) : State :=
  match s.injMask 0 (sliceLoc sl copy) with
  | some m =>
    let bad := spGet (fun _ => 0) s.msc.tagBad k
    ((s.setTagBad k (bad ||| (if secdedBad m then 1 <<< copy else if popCount 64 m = 1 then 4 <<< copy else 0))).noteInj 9 k).injDone
  | none => s

/-- The line's way, allocated where it is absent; none where no way is free to take it (R223, R244). -/
def State.allocLine (s : State) (sl set tag : Nat) : State × Option Nat :=
  match s.findWay sl set tag with
  | some w => (s.plruUse sl set w, some w)
  | none =>
    match s.fillWay sl set with
    | none => (s, none)
    | some w =>
      let s := (s.evict sl set w).setWay sl set w { CLine.init with valid := true, tag := tag }
      let s := { s with msc.fills := s.msc.fills.filter (fun p => !(setOf (p / 128) == set && tagOf (p / 128) == tag)) }
      ((((s.setTagBad (wayKey sl set w) 0).tagInject sl (wayKey sl set w) 0).tagInject sl (wayKey sl set w) 1).plruUse sl set w, some w)

/-- Fetch a sector of an allocated line from its channel where it is absent; a sector that fails its check is not installed
(R223, R267). -/
def State.fetchSector (s : State) (sl set way i ch a : Nat) : State :=
  let c := s.way sl set way
  if (c.sec i).valid then s
  else
    let s := s.chanTouch ch (a + 32 * i)
    match s.chanPeek ch (a + 32 * i) 32 with
    | .error _ => s
    | .ok d => s.setWay sl set way (c.setSec i ⟨true, false, false, d, []⟩)

/-- The value of bytes of one DRAM sector: the cached sector first, then the channel (R221, R245, R246). -/
def State.dramPeek (s : State) (pa len : Nat) : Except MErr (List Byte) :=
  match s.regionOf pa with
  | none => .error (merr 0x0502 Loc.whole)
  | some (_, r) =>
    let (ch, a) := chanAddr r s.channels pa
    let l := pa / 128
    let i := pa % 128 / 32
    match s.findWay ch (setOf l) (tagOf l) with
    | some w =>
      let x := (s.way ch (setOf l) w).sec i
      if x.valid then
        if x.poison then .error ⟨0x0401, locThl (ch / 32) 1 (ch % 32 / 8) (sliceBg ch (w / 4)) 0xFF 0xFFFF, true, s.isInj 8 (pa / 32)⟩
        else if x.uncIn (pa % 32) len then
          if x.dirty then .error ⟨0x0401, locThl (ch / 32) 1 (ch % 32 / 8) (sliceBg ch (w / 4)) 0xFF 0xFFFF, true, s.isInj 8 (pa / 32)⟩
          else s.chanPeek ch a len
        else .ok (x.bytes (pa % 32) len)
      else s.chanPeek ch a len
    | none => s.chanPeek ch a len

/-- A demand read of an absent sector: the miss is counted, the line allocated and the sector fetched; with no way to take, the
channel alone answers (R220, R223, R249). -/
def State.demandFill (s : State) (pa : Nat) : State :=
  match s.regionOf pa with
  | none => s
  | some (_, r) =>
    let (ch, a) := chanAddr r s.channels pa
    let l := pa / 128
    if s.hasWays ch then
      let s := { s with msc.misses := spMod (fun _ => 0) s.msc.misses ch (· + 1) }
      match s.allocLine ch (setOf l) (tagOf l) with
      | (s, some w) => s.fetchSector ch (setOf l) w (pa % 128 / 32) ch (a - a % 128)
      | (s, none) => s.chanTouch ch a
    else s.chanTouch ch a

/-- The slice and set of a DRAM address in a region. -/
def State.sliceSet (s : State) (pa : Nat) : Option (Nat × Nat) :=
  (s.regionOf pa).map (fun r => ((chanAddr r.2 s.channels pa).1, setOf (pa / 128)))

/-- Each tag read checks both copies of the set's tags: a bad copy is rewritten from the other and counted; two bad copies of one entry
fence the channel (R247). -/
def State.tagCheck (s : State) (pa : Nat) : State :=
  match s.sliceSet pa with
  | none => s
  | some (sl, set) =>
    let keys := ((List.range 16).map (fun w => wayKey sl set w)).filter (fun k => spGet (fun _ => 0) s.msc.tagBad k != 0)
    if keys.isEmpty then s
    else
      let inj := keys.any (s.isInj 9)
      let both := keys.filter (fun k => spGet (fun _ => 0) s.msc.tagBad k % 4 == 3)
      let s := { s with msc.tagBad := keys.foldl (fun m k => spDel m k) s.msc.tagBad
                        msc.tagCorr := s.msc.tagCorr + (keys.length - both.length) }
      if both.isEmpty then s
      else (s.raise ⟨0x0403, sliceLoc sl 0, 5, .channel sl, none, false, false, inj, true⟩).fenceChannelNow sl

/-- A fill of this line must wait: its slice has ways, and none of its set may be taken (R244). -/
def State.mustWait (s : State) (pa : Nat) : Bool :=
  match physClass pa, s.physErr pa with
  | .dram, none =>
    (match s.sliceSet pa with
    | none => false
    | some (sl, set) => (List.range 16).any (fun w => s.wayMode sl w != 0) && (s.findWay sl set (tagOf (pa / 128))).isNone &&
        (s.fillWay sl set).isNone)
  | _, _ => false

/-- A fill waits in the set of a line, so the slice holds new reductions to the set (R244). -/
def State.setWaits (s : State) (pa : Nat) : Bool :=
  match s.sliceSet pa with
  | none => false
  | some x => s.msc.waiting.any (fun w => s.sliceSet w.pa == some x) || s.msc.fills.any (fun p => s.sliceSet p == some x)

/-- Window offset of a byte of a cached line: byte n of its bank group is at (line n / 128) of Table 06-3. -/
def cellOff (sl set way off : Nat) : Nat :=
  ((sl / 32 * 2 + 1) * 4 + sl % 32 / 8) * 2 ^ 29 + sliceBg sl (way / 4) * 128 + (set * 4 + way % 4) * 4096 + off

/-- A read of cached bytes corrects them, counts them, and writes the corrected codewords back (R191, R192, R197). -/
def State.sectorFix (s : State) (sl set way i : Nat) (offs : List Nat) : State :=
  offs.foldl (fun s j =>
    let c := s.way sl set way
    let x := c.sec i
    match thlDecode (spGet (fun _ => 0) x.bad j) with
    | some (e, true) =>
      ((s.setWay sl set way (c.setSec i { x with bad := spDel x.bad j, data := modAt (· ^^^ BitVec.ofNat 8 e) x.data j })).radd
        Fd.THL_ERR_STAT_CORRECTED 1).thlCorrected (cellOff sl set way (32 * i + j)) (s.isInj 8 (lineOf set c.tag * 4 + i))
    | _ => s) s

/-- What a read of one DRAM sector changes: a clean bad sector is dropped and refetched, a dirty one is poisoned and
recorded, a hit is noted, and a channel read corrects (R245, R246, R267). -/
def State.dramTouch (s : State) (pa len : Nat) : State :=
  match s.regionOf pa with
  | none => s
  | some (_, r) =>
    let (ch, a) := chanAddr r s.channels pa
    let l := pa / 128
    let i := pa % 128 / 32
    match s.findWay ch (setOf l) (tagOf l) with
    | some w =>
      let s := s.bgUse (bgKey (ch / 32) 1 (ch % 32 / 8) (sliceBg ch (w / 4)))
      let c := s.way ch (setOf l) w
      let x := c.sec i
      if x.valid then
        if !x.poison && x.uncIn (pa % 32) len then
          let s := s.radd Fd.THL_ERR_STAT_UNCORRECTED ((List.range len).filter (fun j => (x.byte (pa % 32 + j)).isNone)).length
          if x.dirty then
            ((s.setWay ch (setOf l) w (c.setSec i { x with poison := true })).radd Fd.MSC_ERR_STAT_POISONED 1).raise
              { recNote 0x0402 (locThl (ch / 32) 1 (ch % 32 / 8) (sliceBg ch (w / 4)) 0xFF 0xFFFF) with inj := s.isInj 8 (pa / 32) }
          else
            let s := ((s.setWay ch (setOf l) w (c.setSec i Sector.init)).radd Fd.MSC_ERR_STAT_REFETCHED 1).dropInj 8 (pa / 32)
            s.fetchSector ch (setOf l) w i ch (a - a % 128)
        else ((s.sectorFix ch (setOf l) w i ((List.range len).map (· + pa % 32))).modWay ch (setOf l) w (fun c => { c with hit := true })).plruUse
          ch (setOf l) w
      else s.demandFill pa
    | none => s.demandFill pa

/-- A cached sector after a write of bytes at an offset: dirty, without the errors of the bytes written (R224). -/
def Sector.put (x : Sector) (off : Nat) (bytes : List Byte) : Sector :=
  if bytes.length = 32 then ⟨true, true, false, bytes, []⟩
  else ⟨true, true, x.poison, x.data.take off ++ bytes ++ x.data.drop (off + bytes.length),
    x.bad.filter (fun p => decide (p.1 < off) || decide (off + bytes.length ≤ p.1))⟩

/-- The sector is in the cache. -/
def State.sectorCached (s : State) (ch l i : Nat) : Bool :=
  match s.findWay ch (setOf l) (tagOf l) with
  | some w => ((s.way ch (setOf l) w).sec i).valid
  | none => false

/-- A write to a sector of an allocated way; the flip mask may strike its first byte (R224, R609). -/
def State.wayPoke (s : State) (ch set w i off pa : Nat) (bytes : List Byte) : State :=
  let c := s.way ch set w
  let x := (c.sec i).put off bytes
  let s := s.clearInj (bytes.length == 32) 8 (pa / 32)
  match s.injMask 1 (locThl (ch / 32) 1 (ch % 32 / 8) (sliceBg ch (w / 4)) 0xFF 0xFFFF) with
  | some m => ((s.setWay ch set w { c.setSec i { x with bad := spPut (fun _ => 0) x.bad off (m % 2 ^ 13) } with hit := true }).noteInj 8 (pa / 32)).injDone
  | none => s.setWay ch set w { c.setSec i x with hit := true }

/-- A write to bytes of one DRAM sector (R224): a present sector is updated and dirty; a whole absent sector installs dirty
where the line has or gets a way; a part of an absent sector goes to the channel as a masked write. -/
def State.dramPoke (s : State) (pa : Nat) (bytes : List Byte) : State :=
  match s.regionOf pa with
  | none => s
  | some (_, r) =>
    let (ch, a) := chanAddr r s.channels pa
    let l := pa / 128
    let i := pa % 128 / 32
    if s.sectorCached ch l i || bytes.length = 32 then
      if !s.hasWays ch && !s.sectorCached ch l i then s.chanPutSector ch a bytes false
      else
        match s.allocLine ch (setOf l) (tagOf l) with
        | (s, none) => s.chanPutSector ch a bytes false
        | (s, some w) => s.wayPoke ch (setOf l) w i (pa % 32) pa bytes
    else s.chanMerge ch a bytes

/-! ## Vertical links (R179–R181, R199, R203) -/

/-- Location of a wire: kind 0 read bundle, 1 write bundle, 2 TSV link (R217). -/
def wireLoc (t q kind b seg wire : Nat) : Loc :=
  if kind = 2 then locThl t 1 q (0x60 + b) seg wire else locThl t 0 q (0x20 + 0x20 * kind + b) seg wire
def wireKey (t q kind b seg : Nat) : Nat := (((t * 4 + q) * 3 + kind) * 32 + b) * 16 + seg
def wireSpares (kind : Nat) : Nat := if kind = 2 then 2 else 4

/-- Key of a link: kind 0 read bundle, 1 write bundle, 2 TSV link of column b. -/
def linkKey (t q kind b : Nat) : Nat := ((t * 4 + q) * 3 + kind) * 32 + b
def colKey (t q b : Nat) : Nat := (t * 4 + q) * 32 + b
/-- The links a transfer of a scratchpad byte goes over, to or from the Frond above, as (kind, column): for the lower die its TSV link,
then a bundle; a retired one's place is taken by the partner column's (R180, R199, R203). -/
def State.thlPath (s : State) (o : Nat) (wr : Bool) : List (Nat × Nat) :=
  let t := thlTower o
  let q := thlQuad o
  let b := thlBg o
  let bundle := (if wr then 1 else 0, if s.thl.bundleRet.contains (colKey t q b) then b ^^^ 1 else b)
  if thlDie o = 1 then [(2, if s.thl.tsvRet.contains (colKey t q b) then b ^^^ 1 else b), bundle] else [bundle]
/-- A Frond's own access to the quadrant under it makes a transfer on each link of its path (R181); a flip mask may spoil one (KIND 3). -/
def State.bundleUse (s : State) (f pa : Nat) (wr : Bool) : State :=
  match physClass pa with
  | .thallus o =>
    if 4 * thlTower o + thlQuad o = f && (s.physErr pa).isNone then
      (s.thlPath o wr).foldl (fun s p => s.injTransfer (wireLoc (thlTower o) (thlQuad o) p.1 p.2 0 0)) s
    else s
  | _ => s

/-! ## Reads and writes of any device physical address -/

/-- The aligned 32-byte pieces of a range. -/
def pieces (pa len : Nat) : List (Nat × Nat) :=
  if len = 0 then []
  else (List.range ((pa + len - 1) / 32 - pa / 32 + 1)).map (fun j =>
    let b := (pa / 32 + j) * 32
    let lo := max pa b
    (lo, min (pa + len) (b + 32) - lo))

def hostLoc (why : Nat) : Loc := locHub 0x10 (if why = 0x0704 then 0x05 else 0x02) 0xFF 0xFFFF

/-- Where a failed access is recorded: at the host port where the host refused it (R353), at `loc` otherwise. -/
def failLoc (why : Nat) (loc : Loc) : Loc := if why = 0x0704 || why = 0x0705 then hostLoc why else loc
/-- The record of an access to host memory that fails, for a unit that runs no kernel (R311, Table 10-18). -/
def State.hostFault (s : State) (why : Nat) (ctx : Option (Nat × Nat)) : State := s.raise (recErr why (hostLoc why) ctx)

/-- Read bytes inside one piece. -/
def State.peekPiece (s : State) (pa len : Nat) : Except MErr (List Byte) :=
  match s.physErr pa with
  | some e => .error e
  | none =>
    match physClass pa with
    | .dram => s.dramPeek pa len
    | .host h => match s.hostRead h len with
      | .ok l => .ok l
      | .error e => .error (merr e (hostLoc e))
    | .thallus o => s.thlPeek o len
    | .lstore f o _ => s.lsPeek f o len
    | _ => .error (merr 0x020C Loc.whole)

/-- The value of a range of device physical addresses, or its first error. -/
def State.peek (s : State) (pa len : Nat) : Except MErr (List Byte) :=
  (pieces pa len).foldl (fun acc p =>
    match acc with
    | .error e => .error e
    | .ok l => match s.peekPiece p.1 p.2 with
      | .error e => .error e
      | .ok m => .ok (l ++ m)) (.ok [])

/-- An access from another agent to a Frond's local store in Night raises it to operating voltage and leaves Dusk (R134). -/
def State.lsWakeDusk (s : State) (f : Nat) : State :=
  let s := s.modFr f (fun q => { q with idleFrom := s.clock })
  if s.sleep f = 2 && !s.moving f then s.rset (Fd.FRD_SLEEP_STAT_STATE f) 1 else s

/-- A read of local store words counts those it corrects (R137). -/
def State.lsCount (s : State) (f o len : Nat) : State :=
  let ws := (wordsOf (lsKey f o) len).filter (fun w => popCount 39 (s.lsBadW w) == 1)
  if ws.isEmpty then s else s.modFr f (fun q => { q with lsCorr := q.lsCorr + ws.length })

/-- What a read of one piece changes. -/
def State.touchPiece (s : State) (pa len : Nat) : State :=
  match s.physErr pa with
  | some _ => s
  | none =>
    match physClass pa with
    | .dram => (s.tagCheck pa).dramTouch pa len
    | .host h => match s.hostFail h len with
      | some e => s.countHostFail e
      | none => s.atsFill h len
    | .thallus o => s.thlTouch o len
    | .lstore f o _ => (s.lsWakeDusk f).lsCount f o len
    | _ => s
def State.touch (s : State) (pa len : Nat) : State := (pieces pa len).foldl (fun s p => s.touchPiece p.1 p.2) s

/-- The tags of the lines of a range are read (R247). -/
def State.tagReads (s : State) (pa len : Nat) : State :=
  (pieces pa len).foldl (fun s p => if physClass p.1 == .dram && (s.physErr p.1).isNone then s.tagCheck p.1 else s) s

/-- A read: the state after it, and its value or error. -/
def State.read (s : State) (pa len : Nat) : State × Except MErr (List Byte) :=
  let s := s.tagReads pa len
  (s.touch pa len, s.peek pa len)

/-- Write bytes inside one piece. -/
def State.pokePiece (s : State) (pa : Nat) (bytes : List Byte) : State × Option MErr :=
  match s.physErr pa with
  | some e => (s, some e)
  | none =>
    match physClass pa with
    | .dram =>
      let s := s.tagCheck pa
      (match s.physErr pa with
      | some e => (s, some e)
      | none => (s.dramPoke pa bytes, none))
    | .host h => match s.hostWrite h bytes with
      | (s, some e) => (s, some (merr e (hostLoc e)))
      | (s, none) => (s, none)
    | .thallus o => (s.thlPoke o bytes, none)
    | .lstore f o 0 => (s.lsWakeDusk f).lsPoke f o bytes
    | .lstore f o win => (s.lsWakeDusk f).aliasPoke f o win bytes
    | _ => (s, some (merr 0x020C Loc.whole))

/-- A write: one that meets an address that refuses it has no effect (R186, R255, R262); bytes up to another error are written. -/
def State.write (s : State) (pa : Nat) (bytes : List Byte) : State × Option MErr :=
  match (pieces pa bytes.length).findSome? (fun p => s.physErr p.1) with
  | some e => (s, some e)
  | none =>
    (pieces pa bytes.length).foldl (fun (q : State × Option MErr) p =>
      match q.2 with
      | some e => (q.1, some e)
      | none => q.1.pokePiece p.1 (slice bytes (p.1 - pa) p.2)) (s, none)

/-! ## Accesses that are held (R134, R244, R259, R312) -/

/-- An access is held: a local store in a sleep entry or wake (R134), DRAM while a region table is applied (R259), or the host
window while the host link is down (R312). -/
def State.accHeld (s : State) (pa : Nat) : Bool :=
  match physClass pa with
  | .lstore f _ _ => decide (f < s.fronds) && s.moving f
  | .dram => s.rget Fd.PIL_MAP_CTL_BUSY == 1
  | .host _ => !s.hostUp
  | _ => false
/-- A read is held; one whose line is absent waits for a way to fill (R244). -/
def State.rdHeld (s : State) (pa len : Nat) : Bool := (pieces pa len).any (fun p => s.accHeld p.1 || s.mustWait p.1)
/-- A write is held; one that installs a whole absent sector waits for a way. -/
def State.wrHeld (s : State) (pa len : Nat) : Bool := (pieces pa len).any (fun p => s.accHeld p.1 || (p.2 == 32 && s.mustWait p.1))
/-- A reduction or atomic is held; also while a fill waits in the set of its line. -/
def State.redHeld (s : State) (pa len : Nat) : Bool :=
  (pieces pa len).any (fun p => s.accHeld p.1 || s.mustWait p.1 || (physClass p.1 == .dram && (s.physErr p.1).isNone && s.setWaits p.1))
/-- The lines of a range whose fill waits for a way are noted in their slices (R244). -/
def State.noteFills (s : State) (pa len : Nat) : State :=
  { s with msc.fills := (pieces pa len).foldl (fun l p => if s.mustWait p.1 then insNat l (alignDown p.1 128) else l) s.msc.fills }

/-- Uncorrectable reads of one local store bank: four within 1 s fence the Frond (R106). -/
def State.bankCheck (s : State) (f bank : Nat) : State :=
  let l := (bank, s.clock) :: (s.fr f).lsErr.filter (fun p => decide (s.clock < p.2 + 25000000))
  let s := s.modFr f (fun q => { q with lsErr := l })
  if (l.filter (fun p => p.1 == bank)).length = 4 then
    s.fenceFrond f 0x020E (locFrond f 0x20 bank 0xFFFF) true
  else s

/-- The fault of a failed access against its agent, with the bank rule of R106; injected errors count toward nothing
(R610). -/
def State.accFault (s : State) (a : Agent) (e : MErr) : State :=
  let s := s.faultAgentI a e.reason e.loc e.inj
  if e.reason = 0x0206 && !e.inj then s.bankCheck (e.loc.idx * 4 + e.loc.region) e.loc.mac else s

/-! ## Words and atomics (R146, R240, Table 07-4) -/

/-- Operations of Table 07-4 on an n-bit element; element types 0 int32, 1 int64, 2 FP32. -/
def reduceElem (op ty old v : Nat) : Nat :=
  let n := if ty = 1 then 64 else 32
  match ty, op with
  | 2, 0 => (fAddNat old v)
  | 2, 1 => (fMinNat old v)
  | 2, _ => (fMaxNat old v)
  | _, 0 => (old + v) % 2 ^ n
  | _, 1 => if sgn n v < sgn n old then v else old
  | _, 2 => if sgn n old < sgn n v then v else old
  | _, 3 => min old v
  | _, _ => max old v
where
  fAddNat (a b : Nat) : Nat := (fAdd (BitVec.ofNat 32 a) (BitVec.ofNat 32 b)).toNat
  fMinNat (a b : Nat) : Nat := (fMin (BitVec.ofNat 32 a) (BitVec.ofNat 32 b)).toNat
  fMaxNat (a b : Nat) : Nat := (fMax (BitVec.ofNat 32 a) (BitVec.ofNat 32 b)).toNat

/-- Reserved operation or element type of a posted reduction (R240). -/
def reduceReserved (op ty : Nat) : Bool := decide (op ≥ 5) || decide (ty ≥ 3) || (ty == 2 && decide (op ≥ 3))
/-- Bytes of an element. -/
def elemSize (ty : Nat) : Nat := if ty = 1 then 8 else 4

/-- Apply a posted reduction element by element to old bytes. -/
def reduceBytes (op ty : Nat) : Nat → List Byte → List Byte → List Byte
  | 0, old, _ => old
  | n + 1, old, v =>
    if old.length < elemSize ty then old
    else leBytes (elemSize ty) (reduceElem op ty (leNat (old.take (elemSize ty))) (leNat (v.take (elemSize ty)))) ++
      reduceBytes op ty n (old.drop (elemSize ty)) (v.drop (elemSize ty))

/-- Atomic operations of R146 by number: 0 add, 1 smin, 2 smax, 3 umin, 4 umax, 5 and, 6 or, 7 xor, 8 swap,
9 compare-and-swap, 10 FP32 add. -/
def atomicNew (op size old v cmp : Nat) : Nat :=
  let n := 8 * size
  match op with
  | 0 => (old + v) % 2 ^ n
  | 1 => if sgn n v < sgn n old then v else old
  | 2 => if sgn n old < sgn n v then v else old
  | 3 => min old v
  | 4 => max old v
  | 5 => old &&& v
  | 6 => old ||| v
  | 7 => old ^^^ v
  | 8 => v
  | 9 => if old = cmp then v else old
  | _ => (fAdd (BitVec.ofNat 32 old) (BitVec.ofNat 32 v)).toNat

/-- The line of a DRAM word is locked, or its lock ends (R243). -/
def State.lockLine (s : State) (pa : Nat) (v : Bool) : State :=
  match s.sliceSet pa with
  | none => s
  | some (sl, set) =>
    match s.findWay sl set (tagOf (pa / 128)) with
    | some w => s.modWay sl set w (fun c => { c with locked := v })
    | none => s

/-- Apply a posted reduction to bytes already there: atomics element by element at the owning slice, which locks each line from its
acceptance (R240, R241, R243). -/
def State.reduceAt (s : State) (op ty pa : Nat) (bytes : List Byte) : State × Option MErr :=
  match s.read pa bytes.length with
  | (s, .error e) => (s, some e)
  | (s, .ok old) =>
    match s.write pa (reduceBytes op ty bytes.length old bytes) with
    | (s, some e) => (s, some e)
    | (s, none) => ((pieces pa bytes.length).foldl (fun s p => s.lockLine p.1 true) s, none)

/-- An atomic at the memory that holds the word: the old value, or the error; nothing changes on an error (R146, R103). -/
def State.atomicAt (s : State) (op size pa v cmp : Nat) : State × Except MErr Nat :=
  match s.read pa size with
  | (s, .error e) => (s, .error e)
  | (s, .ok old) =>
    match s.write pa (leBytes size (atomicNew op size (leNat old) v cmp)) with
    | (s, none) => (s, .ok (leNat old))
    | (s, some e) => (s, .error e)

end Sys2Proof.Machine
end

