-- ==== Sys2Proof/Machine/Translate.lean ====
section
/-!
DEFINITION. Address translation (R116–R126): address-space entries, the four-level walk, the caches of the translation
unit, and reads and writes of virtual addresses by a Frond's units or by the hub.
-/

namespace Sys2Proof.Machine

/-- A failed translation: KIND and LEVEL of FRD_XLAT_FAULT, and the reason code (R125, R126). -/
structure XErr where
  kind : Nat
  level : Nat
  reason : Nat
  /-- caused by the flip mask (R610) -/
  inj : Bool
  deriving DecidableEq, Repr

/-- A failed virtual access: its reason and location, whether data was uncorrectable or injected, and the translation
failure if it was one; or an access that is held (`accHeld`), which has not failed. -/
structure VErr where
  reason : Nat
  loc : Loc
  unc : Bool
  inj : Bool
  xl : Option XErr
  held : Bool
  deriving DecidableEq, Repr

def VErr.ofM (e : MErr) : VErr := ⟨e.reason, e.loc, e.unc, e.inj, none, false⟩
def VErr.ofX (l : Loc) (e : XErr) : VErr := ⟨e.reason, l, false, e.inj, some e, false⟩
/-- The access is held. -/
def VErr.wait : VErr := ⟨0, Loc.whole, false, false, none, true⟩
def VErr.toM (e : VErr) : MErr := ⟨e.reason, e.loc, e.unc, e.inj⟩

/-- Index of a virtual address at a level (Table 04-5). -/
def vaIndex (va level : Nat) : Nat :=
  match level with
  | 0 => nfld va 47 39
  | 1 => nfld va 38 30
  | 2 => nfld va 29 21
  | _ => nfld va 20 16
/-- The bits of the address above a level's table. -/
def vaPrefix (va level : Nat) : Nat :=
  match level with
  | 0 => 0
  | 1 => va / 2 ^ 39
  | 2 => va / 2 ^ 30
  | _ => va / 2 ^ 21

/-- A table lies in the DRAM window or the Thallus scratchpad window, whole windows whatever the variant (R120). -/
def tableWindow (pa : Nat) : Bool :=
  match physClass pa with
  | .dram => true
  | .thallus _ => true
  | _ => false

def pteV (e : Nat) : Bool := nbit e 0
def pteT (e : Nat) : Bool := nbit e 1
def pteR (e : Nat) : Bool := nbit e 2
def pteW (e : Nat) : Bool := nbit e 3
def pteX (e : Nat) : Bool := nbit e 4
def pteNC (e : Nat) : Bool := nbit e 5
def pteAddr (e : Nat) : Nat := nfld e 43 8 * 256

/-- A table read: an uncorrectable error is KIND 5, any other refusal KIND 6 with the refusing rule's code (R126). -/
def State.tableRead (s : State) (pa level len : Nat) : Except XErr Nat :=
  match s.peek pa len with
  | .ok l => .ok (leNat l)
  | .error e => .error (if e.unc then ⟨5, level, 0x0205, e.inj⟩ else ⟨6, level, e.reason, e.inj⟩)

/-- Format checks of a present entry (R120): `none` where it is well formed. -/
def pteFormat (e level : Nat) : Bool :=
  if pteT e then
    level ≠ 3 && !pteR e && !pteW e && !pteX e && !pteNC e &&
      (if level < 2 then pteAddr e % 4096 == 0 else true) && tableWindow (pteAddr e)
  else
    decide (2 ≤ level) && !(pteW e && pteX e) &&
      (if level = 2 then pteAddr e % 2 ^ 21 == 0 else pteAddr e % 2 ^ 16 == 0) &&
      (physClass (pteAddr e) != .unassigned)

/-- The walk from a table at a level (R118–R122): the leaf with its level, and the table pointers met, or the failure. -/
def State.walkFrom (s : State) (va : Nat) : Nat → Nat → Nat → List (Nat × Nat) → Except XErr (Nat × Nat × List (Nat × Nat))
  | 0, level, _, _ => .error ⟨4, level, 0x0204, false⟩
  | n + 1, level, table, seen =>
    match s.tableRead (table + 8 * vaIndex va level) level 8 with
    | .error e => .error e
    | .ok e =>
      if !pteV e then .error ⟨1, level, 0x0201, false⟩
      else if !pteFormat e level then .error ⟨4, level, 0x0204, false⟩
      else if pteT e then s.walkFrom va n (level + 1) (pteAddr e) ((level + 1, pteAddr e) :: seen)
      else .ok (e, level, seen)

/-- What a read of a table entry changes; a table in memory that holds accesses holds the whole command (R259). -/
def State.tableTouch (s : State) (a len : Nat) : State := if s.rdHeld a len then (s.noteFills a len).setWaited else s.touch a len

/-- What the entries read on a walk change: a table read is a read like any other (R122, R267). -/
def State.walkTouch (s : State) (va : Nat) : Nat → Nat → Nat → State
  | 0, _, _ => s
  | n + 1, level, table =>
    let a := table + 8 * vaIndex va level
    match s.tableRead a level 8 with
    | .error _ => s.tableTouch a 8
    | .ok e => if pteV e && pteFormat e level && pteT e then (s.tableTouch a 8).walkTouch va n (level + 1) (pteAddr e) else s.tableTouch a 8

/-- R, W or X of the leaf, and no leaf into the hub register window (R121). -/
def permitted (pte pa : Nat) (need : Need) : Bool :=
  (match need with
  | .r => pteR pte
  | .w => pteW pte
  | .x => pteX pte) && physClass pa != .hub

/-- The address-space entry of an ASID (R116): root and tenant where VALID. -/
def State.aspRead (s : State) (base asid : Nat) : Except XErr (Option (Nat × Nat)) :=
  match s.tableRead (base * 65536 + asid * 16) 0 16 with
  | .error e => .error e
  | .ok w => .ok (if nbit w 0 then some (nfld w 43 12 * 4096, nfld w 73 64) else none)

/-- Room for one more entry: the one replaced is chosen by the implementation (R123), a free value. -/
def State.roomFor {α : Type} (s : State) (cap : Nat) (l : List α) : State × List α :=
  if l.length < cap then (s, l)
  else
    let (w, s) := s.fresh
    (s, l.eraseIdx (w.toNat % cap))

/-- Translation by a Frond's unit (`some f`) or by the hub units, which use Frond 0's register and keep no cache (R116,
R117, R123): the physical address and leaf, with the caches filled. -/
def State.xlate (s : State) (who : Option Nat) (asid tenant va : Nat) (need : Need) : State × Except XErr (Nat × Nat) :=
  let f := who.getD 0
  if s.rget (Fd.FRD_ASPACE_BASE_EN f) = 0 then (s, .error ⟨3, 0, 0x0203, false⟩)
  else
    let q := s.fr f
    let cachedAsp := if who.isSome then q.asp.find? (fun e => e.asid == asid) else none
    let asp : Except XErr (Option (Nat × Nat)) := match cachedAsp with
      | some e => .ok (some (e.root, e.tenant))
      | none => s.aspRead (s.rget (Fd.FRD_ASPACE_BASE_BASE f)) asid
    let s := if cachedAsp.isNone then s.tableTouch (s.rget (Fd.FRD_ASPACE_BASE_BASE f) * 65536 + asid * 16) 16 else s
    match asp with
    | .error e => (s, .error e)
    | .ok none => (s, .error ⟨3, 0, 0x0203, false⟩)
    | .ok (some (root, ten)) =>
      let s := if who.isSome && cachedAsp.isNone then s.modFr f (fun q => { q with asp := ⟨asid, root, ten⟩ :: q.asp }) else s
      if ten ≠ tenant then (s, .error ⟨3, 0, 0x0203, false⟩)
      else if va ≥ 2 ^ 48 then (s, .error ⟨1, 0, 0x0201, false⟩)
      else
        let hit := if who.isSome then q.tlb.find? (fun e => e.asid == asid && e.vpage == va / 2 ^ e.bits) else none
        match hit with
        | some e =>
          let pa := pteAddr e.pte.toNat + va % 2 ^ e.bits
          if permitted e.pte.toNat pa need then (s, .ok (pa, e.pte.toNat)) else (s, .error ⟨2, if e.bits = 21 then 2 else 3, 0x0202, false⟩)
        | none =>
          let start := if who.isSome then
              (match q.walk.find? (fun e => e.asid == asid && e.level == 3 && e.vprefix == vaPrefix va 3) with
              | some e => (3, e.table)
              | none => match q.walk.find? (fun e => e.asid == asid && e.level == 2 && e.vprefix == vaPrefix va 2) with
                | some e => (2, e.table)
                | none => match q.walk.find? (fun e => e.asid == asid && e.level == 1 && e.vprefix == vaPrefix va 1) with
                  | some e => (1, e.table)
                  | none => (0, root))
            else (0, root)
          if start.1 = 0 && !tableWindow root then (s, .error ⟨4, 0, 0x0204, false⟩)
          else
            let found := s.walkFrom va (4 - start.1) start.1 start.2 []
            let s := s.walkTouch va (4 - start.1) start.1 start.2
            match found with
            | .error e => (s, .error e)
            | .ok (pte, level, seen) =>
              let bits := if level = 2 then 21 else 16
              let pa := pteAddr pte + va % 2 ^ bits
              let s := if who.isSome then
                  let (s, tl) := s.roomFor 2048 (s.fr f).tlb
                  let (s, wl) := seen.foldl (fun (p : State × List WalkE) x =>
                      let (s, l) := p.1.roomFor 256 p.2
                      (s, ⟨asid, x.1, vaPrefix va x.1, x.2⟩ :: l)) (s, (s.fr f).walk)
                  s.modFr f (fun q => { q with tlb := ⟨asid, va / 2 ^ bits, bits, BitVec.ofNat 64 pte⟩ :: tl, walk := wl })
                else s
              if permitted pte pa need then (s, .ok (pa, pte)) else (s, .error ⟨2, level, 0x0202, false⟩)

def atuLoc (f : Nat) : Loc := locFrond f 0x24 0xFF 0xFFFF
/-- Location of a translation failure: the Frond's unit, or the command processors' for the hub. -/
def xlateLoc (who : Option Nat) : Loc :=
  match who with
  | some f => atuLoc f
  | none => locHub 0x11 0xFF 0xFF 0xFFFF

/-- The first failure on a Frond since VALID was cleared is captured (R125); agents 0 thread, 1 feeder or drain, 2 DMA,
3 instruction fetch. -/
def State.captureXlate (s : State) (f agent asid va : Nat) (e : XErr) : State :=
  if s.rget (Fd.FRD_XLAT_FAULT_VALID f) = 1 then s
  else
    (((((s.rset (Fd.FRD_XLAT_FAULT_ASID f) asid).rset (Fd.FRD_XLAT_FAULT_KIND f) e.kind).rset (Fd.FRD_XLAT_FAULT_LEVEL f) e.level).rset
      (Fd.FRD_XLAT_FAULT_AGENT f) agent).rset (Fd.FRD_XLAT_FAULT_VA f) (va % 2 ^ 48)).rset (Fd.FRD_XLAT_FAULT_VALID f) 1

/-- A Frond unit's transfer to the Thallus under it goes over its bundles (R181). -/
def State.wiresOf (s : State) (who : Option Nat) (pa : Nat) (wr : Bool) : State :=
  match who with
  | some f => s.bundleUse f pa wr
  | none => s

/-- The state of an access that is held: for a hub unit, its whole command waits (assumption 107). -/
def State.holdFor (s : State) (who : Option Nat) : State := if who.isSome then s else s.setWaited

/-- Read one piece of a virtual range. -/
def State.vreadPiece (s : State) (who : Option Nat) (agent asid tenant va len : Nat) : State × Except VErr (List Byte) :=
  match s.xlate who asid tenant va .r with
  | (s, .error e) =>
    (match who with
    | some f => (s.captureXlate f agent asid va e, .error (.ofX (xlateLoc who) e))
    | none => (s, .error (.ofX (xlateLoc who) e)))
  | (s, .ok (pa, _)) =>
    if s.rdHeld pa len then ((s.noteFills pa len).holdFor who, .error .wait) else
    match (s.wiresOf who pa false).read pa len with
    | (s, .error e) => (s, .error (.ofM e))
    | (s, .ok l) => (s, .ok l)

/-- Read a virtual range in the address space of a kernel or ring, by a unit that reaches memory directly (R99). -/
def State.vread (s : State) (who : Option Nat) (agent asid tenant va len : Nat) : State × Except VErr (List Byte) :=
  (pieces va len).foldl (fun (p : State × Except VErr (List Byte)) x =>
    match p.2 with
    | .error e => (p.1, .error e)
    | .ok l => match p.1.vreadPiece who agent asid tenant x.1 x.2 with
      | (s, .error e) => (s, .error e)
      | (s, .ok m) => (s, .ok (l ++ m))) (s, .ok [])

/-- Write one piece of a virtual range. -/
def State.vwritePiece (s : State) (who : Option Nat) (agent asid tenant va : Nat) (bytes : List Byte) : State × Option VErr :=
  match s.xlate who asid tenant va .w with
  | (s, .error e) =>
    (match who with
    | some f => (s.captureXlate f agent asid va e, some (.ofX (xlateLoc who) e))
    | none => (s, some (.ofX (xlateLoc who) e)))
  | (s, .ok (pa, _)) =>
    if s.wrHeld pa bytes.length then ((s.noteFills pa bytes.length).holdFor who, some .wait) else
    match (s.wiresOf who pa true).write pa bytes with
    | (s, some e) => (s, some (.ofM e))
    | (s, none) => (s, none)

/-- Write a virtual range; bytes before the first error are written. -/
def State.vwrite (s : State) (who : Option Nat) (agent asid tenant va : Nat) (bytes : List Byte) : State × Option VErr :=
  (pieces va bytes.length).foldl (fun (p : State × Option VErr) x =>
    match p.2 with
    | some e => (p.1, some e)
    | none => p.1.vwritePiece who agent asid tenant x.1 (slice bytes (x.1 - va) x.2)) (s, none)

/-- The fault of a failed virtual access against its agent. -/
def State.vFault (s : State) (a : Agent) (e : VErr) : State := s.accFault a e.toM

/-- Drop what a translation invalidate names (R124): entries of an ASID or of all, over pages that touch the range. -/
def State.xlatInv (s : State) (allAsid allVa : Bool) (asid lo hi : Nat) : State :=
  (List.range s.fronds).foldl (fun s f => s.modFr f (fun q =>
    { q with
      tlb := q.tlb.filter (fun e => !((allAsid || e.asid == asid) &&
        (allVa || (decide (e.vpage * 2 ^ e.bits < hi) && decide (lo < (e.vpage + 1) * 2 ^ e.bits)))))
      walk := q.walk.filter (fun e =>
        let sh := if e.level = 1 then 39 else if e.level = 2 then 30 else 21
        !((allAsid || e.asid == asid) &&
          (allVa || (decide (e.vprefix * 2 ^ sh < hi) && decide (lo < (e.vprefix + 1) * 2 ^ sh)))))
      asp := q.asp.filter (fun e => !(allAsid || e.asid == asid)) })) s

end Sys2Proof.Machine
end

