-- ==== Sys2Proof/Machine/Arrays.lean ====
section
/-!
DEFINITION. Matrix arrays and their feeders (chapter 03): codebook loads, stationary loads, passes, drains, and the faults
of a command before and while it runs (R96, R97).
-/

namespace Sys2Proof.Machine

/-- Outcome of a command: the module's next state. -/
abbrev Out := Host.Outcome State Fault Refusal

/-! ## Commands and tensor descriptors (R73, R77, R78) -/

def ArrCmd.op (c : ArrCmd) : Nat := fld c.w0 3 0
/-- TAG of a command (Table 03-3). -/
def ArrCmd.tag (c : ArrCmd) : Nat := fld c.w0 63 48

/-- First command of a queue that has not begun to run, with its place. -/
def nextCmd (q : List ArrCmd) : Option (Nat × ArrCmd) :=
  match findIdxFrom (fun c : ArrCmd => decide (c.phase < 2)) q 0 with
  | some i => (q[i]?).map (fun c => (i, c))
  | none => none

/-- The command fault of R73: an undefined OP, a reserved bit, a range, an alignment or a reserved value. -/
def ArrCmd.bad (c : ArrCmd) : Bool :=
  fld c.w0 7 4 != 0 ||
  match c.op with
  | 1 => fld c.w0 47 15 != 0 || fld c.w1 63 48 != 0 || c.w2 != 0#64 || c.w3 != 0#64 || fld c.w1 47 0 % 64 != 0
  | 2 => fld c.w0 47 10 != 0 || fld c.w0 9 8 == 3 || fld c.w1 63 48 != 0 || fld c.w3 39 8 != 0 || fld c.w2 31 0 % 32 != 0 ||
      decide (fld c.w3 7 0 > 127) || fld c.w1 47 0 % 64 != 0
  | 3 => fld c.w0 47 11 != 0 || fld c.w1 63 48 != 0 || fld c.w3 63 26 != 0 || fld c.w2 63 32 % 32 != 0
  | 4 => fld c.w0 19 18 != 0 || fld c.w0 17 16 == 3 || !fmtDrain (fld c.w0 12 8) || decide (fld c.w0 47 40 > 127) || fld c.w1 63 48 != 0 || fld c.w3 63 48 != 0
  | _ => true

/-- A tensor descriptor's words (Table 03-7, Table 03-8). -/
structure Tensor where
  w : List Nat
  deriving DecidableEq, Repr
def Tensor.f (d : Tensor) (n hi lo : Nat) : Nat := nfld (d.w.getD n 0) hi lo
def Tensor.fmt (d : Tensor) : Nat := d.f 0 63 59
def Tensor.kind (d : Tensor) : Nat := d.f 0 58 56
def Tensor.scaledBit (d : Tensor) : Bool := d.f 0 55 55 == 1
def Tensor.sparse (d : Tensor) : Bool := d.f 0 54 54 == 1
def Tensor.sq (d : Tensor) : Bool := d.f 0 53 53 == 1
def Tensor.base (d : Tensor) : Nat := d.f 0 47 0
def Tensor.scaleBase (d : Tensor) : Nat := d.f 1 47 0
def Tensor.metaBase (d : Tensor) : Nat := d.f 2 47 0
def Tensor.size1 (d : Tensor) : Nat := d.f 3 63 32
def Tensor.size0 (d : Tensor) : Nat := d.f 3 31 0
def Tensor.size2 (d : Tensor) : Nat := d.f 4 31 0
def Tensor.stride2 (d : Tensor) : Nat := d.f 5 63 32
def Tensor.stride1 (d : Tensor) : Nat := d.f 5 31 0
def Tensor.sstride2 (d : Tensor) : Nat := d.f 6 63 32
def Tensor.sstride1 (d : Tensor) : Nat := d.f 6 31 0
/-- Convolution fields (KIND 1). -/
def Tensor.cN (d : Tensor) : Nat := d.f 3 63 48
def Tensor.cW (d : Tensor) : Nat := d.f 3 47 32
def Tensor.cH (d : Tensor) : Nat := d.f 3 31 16
def Tensor.cC (d : Tensor) : Nat := d.f 3 15 0
def Tensor.cP (d : Tensor) : Nat := d.f 4 63 48
def Tensor.cPL (d : Tensor) : Nat := d.f 4 47 40
def Tensor.cPT (d : Tensor) : Nat := d.f 4 39 32
def Tensor.cDW (d : Tensor) : Nat := d.f 4 31 28
def Tensor.cDH (d : Tensor) : Nat := d.f 4 27 24
def Tensor.cV (d : Tensor) : Nat := d.f 4 23 20
def Tensor.cU (d : Tensor) : Nat := d.f 4 19 16
def Tensor.cKW (d : Tensor) : Nat := d.f 4 15 8
def Tensor.cKH (d : Tensor) : Nat := d.f 4 7 0
def Tensor.cSH (d : Tensor) : Nat := d.f 5 63 32
def Tensor.cSW (d : Tensor) : Nat := d.f 5 31 0
def Tensor.cQ (d : Tensor) : Nat := d.f 6 63 48
def Tensor.cSN (d : Tensor) : Nat := d.f 6 31 0

/-- Element bits of a format code. -/
def fmtBits (c : Nat) : Nat :=
  match c with
  | 0 => 32 | 1 => 16 | 2 => 16 | 7 => 6 | 8 => 6 | 9 => 4 | _ => 8
/-- Element byte size, 1 for narrower elements (R78). -/
def fmtBytes (c : Nat) : Nat := (fmtBits c + 7) / 8
/-- Block bytes of a K-row (Table 02-3, R44). -/
def blockBytes (c : Nat) (sparse : Bool) : Nat :=
  if fmtIsVq c then (if fmtIsVq3 c then 12 else 8)
  else if sparse then (if c = 9 then 8 else 16)
  else 4 * fmtBits c
/-- The tensor carries block scales: every MX format, and VQ with SCALED (Table 03-7). -/
def Tensor.hasScales (d : Tensor) : Bool := fmtIsMx d.fmt || (fmtIsVq d.fmt && d.scaledBit)
/-- Rows of a plain tensor. -/
def Tensor.rows (d : Tensor) : Nat := d.size1 * d.size2
/-- Logical K of a tensor (R79). -/
def Tensor.k (d : Tensor) : Nat := if d.kind = 1 then d.cKH * d.cKW * d.cC else d.size0

/-- The descriptor fault of R78; role 0 stationary, 1 streamed, 2 destination. -/
def Tensor.bad (d : Tensor) (role : Nat) : Bool :=
  let eb := fmtBytes d.fmt
  decide (d.kind ≥ 2) || (d.kind == 1 && role != 1) ||
  (if d.kind = 1 then
    [d.cN, d.cW, d.cH, d.cC, d.cP, d.cQ, d.cKW, d.cKH, d.cDW, d.cDH, d.cU, d.cV].any (· == 0) || d.cC % 32 != 0 ||
      d.cSW % eb != 0 || d.cSH % eb != 0 || d.cSN % eb != 0
  else
    [d.size0, d.size1, d.size2].any (· == 0) || d.stride1 % eb != 0 || d.stride2 % eb != 0 ||
      ((fmtIsMx d.fmt || fmtIsVq d.fmt || d.sparse) && d.stride1 % blockBytes d.fmt d.sparse != 0)) ||
  (d.sq && (d.kind == 1 || role != 0)) || (d.sparse && role != 0) || (d.scaledBit && !fmtIsVq d.fmt) ||
  d.base % eb != 0 || (d.sparse && d.metaBase % 4 != 0)

/-! ## Outcome of a command's faults (R97) -/

/-- Feeder location of an array: 0 stationary, 1 streamed, 2 drain, 3 feeder memory, 4 sequencer (R93). Which of them a refused command
names is the model's choice (assumption 110). -/
def feederLoc (f a m : Nat) : Loc := locFrond f (8 + a) m 0xFFFF

/-- Discard the command at a place and every later command of its kernel in the queue (R97). -/
def dropFrom (q : List ArrCmd) (i kslot : Nat) : List ArrCmd :=
  q.take i ++ (q.drop i).filter (fun c => c.kslot != kslot)

/-- Place of the first running command of an operation. -/
def runningCmd (q : List ArrCmd) (op : Nat) : Option Nat := findIdxFrom (fun c : ArrCmd => c.phase == 2 && c.op == op) q 0

/-- The array with commands discarded: a stationary load still running leaves no shadow set (R69, R97). -/
def Arr.discard (q : Arr) (l : List ArrCmd) : Arr :=
  if (runningCmd q.queue 2).isSome && (runningCmd l 2).isNone then { q with queue := l, shadow := none, shadowDone := false }
  else { q with queue := l }

/-- TAG of the command at a place of a queue. -/
def State.tagAt (s : State) (f a i : Nat) : Nat := ((s.arr f a).queue[i]?.map ArrCmd.tag).getD 0

/-- A fault of the command at place `i`: the kernel is fenced and its commands from there are discarded. -/
def State.arrFault (s : State) (f a i kslot reason : Nat) (loc : Loc) (inj : Bool) : State :=
  ((s.modArr f a (fun q => q.discard (dropFrom q.queue i kslot))).faultKernelI f kslot reason loc inj).noteTag s (s.tagAt f a i)
/-- A failed feeder access; one that is held (R134, R244, R259, R312) leaves the command to a later event, from the state before it. -/
def State.arrVFault (s s0 : State) (f a i kslot : Nat) (e : VErr) : State :=
  if e.held then s0.keepFills s
  else ((s.modArr f a (fun q => q.discard (dropFrom q.queue i kslot))).vFault (.kernel f kslot) e).noteTag s (s.tagAt f a i)

/-- The array can start a command: its Frond in service and in Run, no fence, no pattern test due (R86, R94). -/
def State.arrReady (s : State) (f a : Nat) : Bool :=
  s.frondUp f && s.inRun f && !s.arrFenced f a && (s.arr f a).test.isNone && decide (a < 8)

/-- Address space and tenant of a kernel. -/
def State.kspace (s : State) (f k : Nat) : Nat × Nat :=
  match s.krn f k with
  | some q => (q.launch.asid, q.launch.tenant)
  | none => (0, 0)
def State.kRunning (s : State) (f k : Nat) : Bool :=
  match s.krn f k with
  | some q => q.abort.isNone
  | none => false

/-- The next command of an array where it has operation `op` (or no defined one) and its kernel still runs; none starts while the feeder
sequencer is being switched (Table 20-4). -/
def State.arrNext (s : State) (f a op : Nat) : Option (Nat × ArrCmd) :=
  if s.arrReady f a && !s.endpointSwitching 7 (8 * f + a) then
    match nextCmd (s.arr f a).queue with
    | some (i, c) =>
      if s.kRunning f c.kslot && (c.op == op || c.op == 0 || decide (c.op > 4)) then some (i, c) else none
    | none => none
  else none

def State.setCmd (s : State) (f a i : Nat) (g : ArrCmd → ArrCmd) : State :=
  s.modArr f a (fun q => { q with queue := modAt g q.queue i })
def State.dropCmd (s : State) (f a i : Nat) : State := s.modArr f a (fun q => { q with queue := q.queue.eraseIdx i })

/-! ## LOAD_CB (R80, R85) -/

def Arr.slot (q : Arr) (n : Nat) : Nat := spGet (fun _ => 0) q.slots n
/-- The VQ3 head a slot belongs to, if any. -/
def Arr.headOf (q : Arr) (n : Nat) : Option Nat :=
  if q.slot n = 2 || q.slot n = 3 then some (n / 16 * 16) else none
/-- Slot states after a load of `cnt` slots from `n` (R80). -/
def Arr.loadSlots (q : Arr) (n cnt : Nat) : Sp Nat :=
  let hit := (List.range cnt).filterMap (fun i => q.headOf (n + i))
  let m := hit.foldl (fun m h => (List.range 16).foldl (fun m i => spPut (fun _ => 0) m (h + i) 0) m) q.slots
  if cnt = 1 then spPut (fun _ => 0) m n 1
  else (List.range 16).foldl (fun m i => spPut (fun _ => 0) m (n + i) (if i = 0 then 2 else 3)) m

/-- Codebook slots a LOAD_STAT names: column group j's field (Table 03-5), for the groups it loads. -/
def statSlots (c : ArrCmd) : List Nat :=
  (List.range (fld c.w3 7 0 / 32 + 1)).map (fun j => fld c.w3 (45 + 6 * j) (40 + 6 * j))
/-- Slots a LOAD_CB writes. -/
def cbSlots (c : ArrCmd) : List Nat :=
  if fld c.w0 14 14 = 1 then (List.range 16).map (· + fld c.w0 13 8) else [fld c.w0 13 8]

/-- The interlock of R85 between codebook loads and stationary loads still running. -/
def cbClash (q : List ArrCmd) (op : Nat) (slots : List Nat) : Bool :=
  q.any (fun c => c.phase == 2 && c.op == op &&
    (if op = 2 then (statSlots c).any (fun x => slots.contains x) else (cbSlots c).any (fun x => slots.contains x)))

def fmemWord (i : Nat) : Nat := i / 4

/-- Store codebook bytes in feeder memory; the flip mask may strike (R609). -/
def State.fmemPut (s : State) (f a off : Nat) (bytes : List Byte) : State :=
  let q := s.arr f a
  let s := s.setArr f a { q with
    fmem := (List.range bytes.length).foldl (fun m i => spPut (fun _ => 0#8) m (off + i) (bytes.getD i 0#8)) q.fmem
    fmemBad := q.fmemBad.filter (fun p => decide (p.1 < off / 4) || decide ((off + bytes.length) / 4 ≤ p.1)) }
  match s.injMask 0 (feederLoc f a 3) with
  | some m => (((s.modArr f a (fun q => { q with fmemBad := spPut (fun _ => 0) q.fmemBad (off / 4) (m % 2 ^ 39) })).noteInj 5
      ((f * 8 + a) * 16384 + off / 4))).injDone
  | none => s

def State.loadCb (s : State) (f a : Nat) : State :=
  let s0 := s
  match s.arrNext f a 1 with
  | none => s
  | some (i, c) =>
    let slot := fld c.w0 13 8
    let big := fld c.w0 14 14 == 1
    if c.bad then s.arrFault f a i c.kslot 0x010D (feederLoc f a 4) false
    else if big && slot % 16 != 0 then s.arrFault f a i c.kslot 0x0103 (feederLoc f a 3) false
    else if cbClash (s.arr f a).queue 2 (cbSlots c) || cbClash (s.arr f a).queue 1 (cbSlots c) then s
    else
      let sp := s.kspace f c.kslot
      match s.vread (some f) 1 sp.1 sp.2 (fld c.w1 47 0) (if big then 16384 else 1024) with
      | (s, .error e) => s.arrVFault s0 f a i c.kslot e
      | (s, .ok bytes) =>
        let q := s.arr f a
        ((s.setArr f a { q with slots := q.loadSlots slot (if big then 16 else 1) }).fmemPut f a (slot * 1024) bytes).setCmd f a i
          (fun c => { c with phase := 2 })

/-- LOAD_CB (R80). -/
def execLoadCb (f a : Nat) (s : State) : Out := .next (s.attempt fun s => s.loadCb f a)

/-- The running command of an operation completes: its TAG is returned, and it leaves the queue. -/
def State.finishCmd (s : State) (f a op : Nat) : State :=
  match runningCmd (s.arr f a).queue op with
  | some i => s.modArr f a (fun q => { q with queue := q.queue.eraseIdx i, doneTag := some (s.tagAt f a i) })
  | none => s

/-- LOAD_CB_COMPLETE (R80): the load leaves the queue, so a LOAD_STAT held on its slots may start. -/
def execLoadCbComplete (f a : Nat) (s : State) : Out := .next (s.finishCmd f a 1)

/-! ## LOAD_STAT (R63, R71, R75, R81, R82) -/

/-- Depth of a set (Table 03-5). -/
def depthOf (d : Nat) : Nat := if d = 0 then 128 else if d = 1 then 256 else 512
/-- Whether a stationary format has a row of Table 03-1 at a depth. -/
def depthRow (fmt : Nat) (sparse : Bool) (depth : Nat) : Bool :=
  if sparse then (depth == 256 || (fmt == 9 && depth == 512)) else (depth == 128 || (fmt == 9 && depth == 256))

/-- Bytes of `n` stored elements of a format. -/
def rowBytes (fmt : Nat) (sparse : Bool) (n : Nat) : Nat :=
  if fmtIsVq fmt then (if fmtIsVq3 fmt then (n * 3 + 7) / 8 else (n + 3) / 4)
  else ((if sparse then n / 2 else n) * fmtBits fmt + 7) / 8

/-- Element `i` of packed elements (R36). -/
def packedElem (fmt : Nat) (row : List Byte) (i : Nat) : Nat :=
  let b := fun j => (row.getD j 0#8).toNat
  match fmtBits fmt with
  | 32 => b (4 * i) + 256 * b (4 * i + 1) + 65536 * b (4 * i + 2) + 16777216 * b (4 * i + 3)
  | 16 => b (2 * i) + 256 * b (2 * i + 1)
  | 6 => ((b (6 * i / 8) + 256 * b (6 * i / 8 + 1)) >>> (6 * i % 8)) % 64
  | 4 => if i % 2 = 0 then b (i / 2) % 16 else b (i / 2) / 16
  | _ => b i

/-- Code g of a VQ row (R40). -/
def vqCode (vq3 : Bool) (row : List Byte) (g : Nat) : Nat :=
  let b := fun j => (row.getD j 0#8).toNat
  if vq3 then ((b (12 * g / 8) + 256 * b (12 * g / 8 + 1)) >>> (12 * g % 8)) % 4096 else b g

/-- What the stationary feeder has of one column: its codes, scale bytes and metadata words; empty for a zero column. -/
structure StatCol where
  n : Nat
  row : List Byte
  scales : List Nat
  metas : List Nat
  cb : Nat
  deriving DecidableEq, Repr

/-- Logical element k (from the start of the load) of a column: an element code (R41, R82). -/
def StatCol.elem (c : StatCol) (fmt : Nat) (fmem : Sp Byte) (k : Nat) : Nat :=
  if k ≥ c.n then 0
  else if fmtIsVq fmt then
    (spGet (fun _ => 0#8) fmem (c.cb * 1024 + 4 * vqCode (fmtIsVq3 fmt) c.row (k / 4) + k % 4)).toNat
  else packedElem fmt c.row k
/-- Metadata nibble of group q (R43). -/
def StatCol.nib (c : StatCol) (q : Nat) : Nat := (c.metas.getD (q / 8) 0 >>> (4 * (q % 8))) % 16

/-- The register of the cell in row r (Table 03-1). -/
def StatCol.cell (c : StatCol) (fmt : Nat) (sparse : Bool) (depth : Nat) (fmem : Sp Byte) (r : Nat) : Nat :=
  if sparse then
    if depth = 256 then
      let q := r / 2
      if 4 * q ≥ c.n then 0
      else packedElem fmt c.row r + 256 * (if r % 2 = 0 then c.nib q % 4 else c.nib q / 4)
    else
      if 4 * r ≥ c.n then 0
      else packedElem fmt c.row (2 * r) + 16 * packedElem fmt c.row (2 * r + 1) + 256 * (c.nib r % 4) + 1024 * (c.nib r / 4)
  else if depth = 256 then c.elem fmt fmem (2 * r) + 16 * c.elem fmt fmem (2 * r + 1)
  else c.elem fmt fmem r

/-- A nibble of the column breaks R44. -/
def StatCol.badNib (c : StatCol) (sparse : Bool) : Bool :=
  sparse && (List.range (c.n / 4)).any (fun q => decide (c.nib q % 4 ≥ c.nib q / 4))

/-- The first codebook word the column's decode finds uncorrectable. -/
def StatCol.badWord (c : StatCol) (fmt : Nat) (bad : Sp Nat) : Option Nat :=
  if fmtIsVq fmt then
    ((List.range ((c.n + 3) / 4)).map (fun g => c.cb * 256 + vqCode (fmtIsVq3 fmt) c.row g)).find?
      (fun w => secdedBad (spGet (fun _ => 0) bad w))
  else none

/-- Read the data of array column c of a stationary tensor (R75, R77). -/
def State.readCol (s : State) (f asid tenant : Nat) (d : Tensor) (nStart kStart depth cb c : Nat) : State × Except VErr StatCol :=
  let i := nStart + c
  if i ≥ d.rows || kStart ≥ d.size0 then (s, .ok ⟨0, [], [], [], cb⟩)
  else
    let n := min depth (d.size0 - kStart)
    let sm := i / d.size1
    let r := i % d.size1
    let blk := kStart / 32
    let nb := (n + 31) / 32
    let o := sm * d.sstride2 + r * d.sstride1 + blk
    let so := if d.sq then sm * d.sstride2 + r / 32 * ((d.size0 + 31) / 32) + blk else o
    match s.vread (some f) 1 asid tenant (d.base + sm * d.stride2 + r * d.stride1 + rowBytes d.fmt d.sparse kStart)
        (rowBytes d.fmt d.sparse n) with
    | (s, .error e) => (s, .error e)
    | (s, .ok row) =>
      match (if d.hasScales then s.vread (some f) 1 asid tenant (d.scaleBase + so) nb else (s, .ok [])) with
      | (s, .error e) => (s, .error e)
      | (s, .ok sc) =>
        match (if d.sparse then s.vread (some f) 1 asid tenant (d.metaBase + 4 * o) (4 * nb) else (s, .ok [])) with
        | (s, .error e) => (s, .error e)
        | (s, .ok mt) =>
          (s, .ok ⟨n, row, sc.map BitVec.toNat, (List.range nb).map (fun j => leNat (slice mt (4 * j) 4)), cb⟩)

/-- Read every column of a stationary load; the first failure stops it. -/
def State.readCols (s : State) (f asid tenant : Nat) (d : Tensor) (c : ArrCmd) (depth : Nat) : State × Except VErr (List StatCol) :=
  (List.range (fld c.w3 7 0 + 1)).foldl (fun (p : State × Except VErr (List StatCol)) j =>
    match p.2 with
    | .error e => (p.1, .error e)
    | .ok l =>
      match p.1.readCol f asid tenant d (fld c.w2 63 32) (fld c.w2 31 0) depth ((statSlots c).getD (j / 32) 0) j with
      | (s, .error e) => (s, .error e)
      | (s, .ok x) => (s, .ok (l ++ [x]))) (s, .ok [])

/-- The shadow set the columns make (R63, R75): cells and scales not loaded are zero elements and 0x7F. -/
def mkSet (d : Tensor) (depth : Nat) (fmem : Sp Byte) (cols : List StatCol) : StatSet :=
  let empty : StatCol := ⟨0, [], [], [], 0⟩
  { fmt := d.fmt, depth := depth, sparse := d.sparse, scaled := d.hasScales, square := d.sq
    cells := (List.range 16384).filterMap (fun k =>
      let v := (cols.getD (k % 128) empty).cell d.fmt d.sparse depth fmem (k / 128)
      if v = 0 then none else some (k, v))
    scales := (List.range 2048).filterMap (fun k =>
      let v := (cols.getD (k / 16) empty).scales.getD (k % 16) 0x7F
      if v = 0x7F then none else some (k, v)) }

/-- Read the 64 bytes of a tensor descriptor. -/
def State.readTensor (s : State) (f asid tenant va : Nat) : State × Except VErr Tensor :=
  match s.vread (some f) 1 asid tenant va 64 with
  | (s, .error e) => (s, .error e)
  | (s, .ok b) => (s, .ok ⟨(List.range 8).map (fun j => leNat (slice b (8 * j) 8))⟩)

/-- An uncorrectable codebook word empties the slots of its codebook (Table 03-13). -/
def Arr.emptyBook (q : Arr) (slot : Nat) : Arr :=
  { q with slots := (match q.headOf slot with
      | some h => (List.range 16).foldl (fun m i => spPut (fun _ => 0) m (h + i) 0) q.slots
      | none => spPut (fun _ => 0) q.slots slot 0) }

def State.loadStat (s : State) (f a : Nat) : State :=
  let s0 := s
  match s.arrNext f a 2 with
  | none => s
  | some (i, c) =>
    let sp := s.kspace f c.kslot
    if c.bad then s.arrFault f a i c.kslot 0x010D (feederLoc f a 4) false
    else if cbClash (s.arr f a).queue 1 (statSlots c) || (runningCmd (s.arr f a).queue 2).isSome then s
    else
      match s.readTensor f sp.1 sp.2 (fld c.w1 47 0) with
      | (s, .error e) => s.arrVFault s0 f a i c.kslot e
      | (s, .ok d) =>
        let depth := depthOf (fld c.w0 9 8)
        let want := if fmtIsVq3 d.fmt then 2 else 1
        if d.bad 0 then s.arrFault f a i c.kslot 0x0102 (feederLoc f a 0) false
        else if fmtIsVq d.fmt && (statSlots c).any (fun n => (s.arr f a).slot n != want) then
          s.arrFault f a i c.kslot 0x0103 (feederLoc f a 3) false
        else if !fmtStationary d.fmt || (d.sparse && !fmtSparse d.fmt) || !depthRow d.fmt d.sparse depth then
          s.arrFault f a i c.kslot 0x0101 (feederLoc f a 0) false
        else
          match s.readCols f sp.1 sp.2 d c depth with
          | (s, .error e) => s.arrVFault s0 f a i c.kslot e
          | (s, .ok cols) =>
            if cols.any (fun x => x.badNib d.sparse) then s.arrFault f a i c.kslot 0x0101 (feederLoc f a 0) false
            else
              match (cols.filterMap (fun x => x.badWord d.fmt (s.arr f a).fmemBad)).head? with
              | some w =>
                (s.modArr f a (fun q => q.emptyBook (w / 256))).arrFault f a i c.kslot 0x010B (feederLoc f a 3)
                  (s.isInj 5 ((f * 8 + a) * 16384 + w))
              | none =>
                (s.modArr f a (fun q => { q with shadow := some (mkSet d depth q.fmem cols), shadowDone := false })).setCmd f a i
                  (fun c => { c with phase := 2 })

/-- LOAD_STAT (R75). -/
def execLoadStat (f a : Nat) (s : State) : Out := .next (s.attempt fun s => s.loadStat f a)

/-- SHADOW_LOAD_COMPLETE (R67): all 128 rows and the scale bank are written. -/
def execShadowLoadComplete (f a : Nat) (s : State) : Out :=
  .next (match runningCmd (s.arr f a).queue 2 with
    | some _ => (s.finishCmd f a 2).modArr f a (fun q => { q with shadowDone := true })
    | none => s)

/-! ## PASS (R63–R72, R76, R79, R84–R86) -/

def StatSet.cell (t : StatSet) (r c : Nat) : Nat := spGet (fun _ => 0) t.cells (r * 128 + c)
def StatSet.scale (t : StatSet) (c g : Nat) : Nat := spGet (fun _ => 0x7F) t.scales (c * 16 + g)

/-- A streamed vector as the feeder delivers it: element codes and one scale per 32 positions. -/
structure Vec where
  codes : List Nat
  scales : List Nat
  deriving DecidableEq, Repr

/-- The streamed format forms a row of Table 03-1 with the set (R76). -/
def streamRow (t : StatSet) (str : Nat) : Bool :=
  pairAllowed t.fmt str &&
    (if t.fmt = 9 then
      (if t.sparse then (if str = 9 then t.depth == 512 else t.depth == 256)
       else (if str = 9 then t.depth == 256 else t.depth == 128))
     else true)

/-- The block of 32 logical positions from k of row i of a plain streamed tensor: its bytes and scale byte. -/
def State.plainBlock (s : State) (f asid tenant : Nat) (d : Tensor) (i k : Nat) : State × Except VErr (List Nat × Nat) :=
  if k ≥ d.size0 then (s, .ok (List.replicate 32 0, 0x7F))
  else
    let n := min 32 (d.size0 - k)
    let sm := i / d.size1
    let r := i % d.size1
    match s.vread (some f) 1 asid tenant (d.base + sm * d.stride2 + r * d.stride1 + k * fmtBits d.fmt / 8) ((n * fmtBits d.fmt + 7) / 8) with
    | (s, .error e) => (s, .error e)
    | (s, .ok b) =>
      match (if d.hasScales then s.vread (some f) 1 asid tenant (d.scaleBase + sm * d.sstride2 + r * d.sstride1 + k / 32) 1
             else (s, .ok [0x7F#8])) with
      | (s, .error e) => (s, .error e)
      | (s, .ok sc) => (s, .ok ((List.range 32).map (fun j => if j < n then packedElem d.fmt b j else 0), (sc.getD 0 0x7F#8).toNat))

/-- The block of a convolution (R79): padding costs no read and enters as zero with scale 0x7F. -/
def State.convBlock (s : State) (f asid tenant : Nat) (d : Tensor) (m k : Nat) : State × Except VErr (List Nat × Nat) :=
  if k ≥ d.k then (s, .ok (List.replicate 32 0, 0x7F))
  else
    let ch := k % d.cC
    let tap := k / d.cC
    let ti := tap / d.cKW
    let tj := tap % d.cKW
    let q := m % d.cQ
    let p := m / d.cQ % d.cP
    let n := m / d.cQ / d.cP
    let h : Int := (p * d.cU : Nat) - (d.cPT : Int) + (ti * d.cDH : Nat)
    let w : Int := (q * d.cV : Nat) - (d.cPL : Int) + (tj * d.cDW : Nat)
    if h < 0 || h ≥ d.cH || w < 0 || w ≥ d.cW then (s, .ok (List.replicate 32 0, 0x7F))
    else
      let hn := h.toNat
      let wn := w.toNat
      match s.vread (some f) 1 asid tenant (d.base + n * d.cSN + hn * d.cSH + wn * d.cSW + ch * fmtBits d.fmt / 8) (4 * fmtBits d.fmt) with
      | (s, .error e) => (s, .error e)
      | (s, .ok b) =>
        match (if d.hasScales then s.vread (some f) 1 asid tenant (d.scaleBase + ((n * d.cH + hn) * d.cW + wn) * (d.cC / 32) + ch / 32) 1
               else (s, .ok [0x7F#8])) with
        | (s, .error e) => (s, .error e)
        | (s, .ok sc) => (s, .ok ((List.range 32).map (fun j => packedElem d.fmt b j), (sc.getD 0 0x7F#8).toNat))

/-- One streamed vector of `n` logical positions from kStart. -/
def State.readVec (s : State) (f asid tenant : Nat) (d : Tensor) (m kStart n : Nat) : State × Except VErr Vec :=
  (List.range (n / 32)).foldl (fun (p : State × Except VErr Vec) g =>
    match p.2 with
    | .error e => (p.1, .error e)
    | .ok v =>
      match (if d.kind = 1 then p.1.convBlock f asid tenant d m (kStart + 32 * g) else p.1.plainBlock f asid tenant d m (kStart + 32 * g)) with
      | (s, .error e) => (s, .error e)
      | (s, .ok (c, sc)) => (s, .ok ⟨v.codes ++ c, v.scales ++ [sc]⟩)) (s, .ok ⟨[], []⟩)

def elemVal (fmt code : Nat) : FV :=
  match elemFmt fmt with
  | some e => decodeElem e code
  | none => .nan

/-- Products a cell makes with the vector (Table 03-1): each stored element by the streamed element at its position. -/
def cellProducts (t : StatSet) (str : Nat) (v : Vec) (r c : Nat) : List FV :=
  let x := fun k => elemVal str (v.codes.getD k 0)
  let w := fun code => elemVal t.fmt code
  let e := t.cell r c
  if t.sparse then
    if t.depth = 256 then [fvMul (w (e % 256)) (x (4 * (r / 2) + e / 256 % 4))]
    else [fvMul (w (e % 16)) (x (4 * r + e / 256 % 4)), fvMul (w (e / 16 % 16)) (x (4 * r + e / 1024 % 4))]
  else if t.depth = 256 then [fvMul (w (e % 16)) (x (2 * r)), fvMul (w (e / 16 % 16)) (x (2 * r + 1))]
  else [fvMul (w e) (x r)]

/-- Rows of a group (Table 03-1). -/
def rowsPerGroup (t : StatSet) : Nat := if fmtIs16 t.fmt then 8 else if t.depth = 128 then 32 else if t.depth = 256 then 16 else 8

/-- A streamed element that is a NaN among `n` logical positions from k: it makes the group's sum a NaN, at a position no element is
stored for too (Table 02-5). -/
def Vec.nanIn (v : Vec) (str k n : Nat) : List FV :=
  if (List.range n).any (fun j => elemVal str (v.codes.getD (k + j) 0) == .nan) then [.nan] else []

/-- The rounded group sums of column c for a normal pass, ascending (R49, R65). -/
def colGroups (t : StatSet) (str : Nat) (v : Vec) (c : Nat) : List W32 :=
  let n := rowsPerGroup t
  (List.range (128 / n)).map (fun g =>
    let ps := (List.range n).flatMap (fun j => cellProducts t str v (g * n + j) c)
    if fmtIs16 t.fmt then scaledGroup true 0x7F 0x7F ps
    else scaledGroup false (t.scale c g) (v.scales.getD g 0x7F) (v.nanIn str (32 * g) 32 ++ ps))

/-- The group sums of row r for a transposed pass (R70): groups run along the columns. A group takes the scale of its
first column, also where its columns span two squares (assumption 111). -/
def rowGroups (t : StatSet) (str : Nat) (v : Vec) (r : Nat) : List W32 :=
  let n := if fmtIs16 t.fmt then 8 else 32
  (List.range (128 / n)).map (fun g =>
    let ps := (List.range n).map (fun j => fvMul (elemVal t.fmt (t.cell r (g * n + j))) (elemVal str (v.codes.getD (g * n + j) 0)))
    if fmtIs16 t.fmt then scaledGroup true 0x7F 0x7F ps
    else scaledGroup false (t.scale (32 * g) (r / 32)) (v.scales.getD g 0x7F) ps)

def Arr.accGet (q : Arr) (e c : Nat) : W32 := spGet (fun _ => 0#32) q.acc (e * 128 + c)
def accLoc (f a e c : Nat) : Loc := locFrond f a (e / 64) c
/-- Location of a cell by row·128 + column: the band of its row, and its column (R93). -/
def cellLoc (f a x : Nat) : Loc := locFrond f a (0x10 + x / 1024 % 16) (x % 128)

/-- Write an accumulator value with clean check bits; the flip mask may strike (R83, R609). -/
def State.accPut (s : State) (f a e c : Nat) (v : W32) : State :=
  let q := s.arr f a
  let k := e * 128 + c
  let s := s.setArr f a { q with acc := spPut (fun _ => 0#32) q.acc k v, accBad := spDel q.accBad k }
  match s.injMask 0 (accLoc f a e c) with
  | some m => ((s.modArr f a (fun q => { q with accBad := spPut (fun _ => 0) q.accBad k (m % 2 ^ 39) })).noteInj 3
      ((f * 8 + a) * 131072 + k)).injDone
  | none => s

/-- Columns below `n` of an entry whose stored value has an error that a read corrects. -/
def Arr.corrected (q : Arr) (e n : Nat) : Nat :=
  ((List.range n).filter (fun c => popCount 39 (spGet (fun _ => 0) q.accBad (e * 128 + c)) == 1)).length
/-- Corrected errors of an entry's values are counted (R86). -/
def State.accCount (s : State) (f a e n : Nat) : State := s.modArr f a (fun q => { q with accCorr := q.accCorr + q.corrected e n })

/-- First column of an entry whose stored value is uncorrectable. -/
def Arr.badCol (q : Arr) (e : Nat) : Option Nat :=
  (List.range 128).find? (fun c => secdedBad (spGet (fun _ => 0) q.accBad (e * 128 + c)))

/-- Accumulate one vector into an entry: every column takes its groups in ascending order (R50, R65, R70). -/
def State.accEntry (s : State) (f a e : Nat) (t : StatSet) (str : Nat) (v : Vec) (trans acc : Bool) : State :=
  (List.range 128).foldl (fun s c =>
    let start := if acc then (s.arr f a).accGet e c else 0#32
    let gs := if trans then rowGroups t str v c else colGroups t str v c
    s.accPut f a e c (gs.foldl fAdd start)) s

/-- The vectors of a pass in order, stopped by the first failed read or uncorrectable entry; how many were done. -/
def State.passVecs (s s0 : State) (f a i : Nat) (c : ArrCmd) (t : StatSet) (d : Tensor) : Nat → Nat → State
  | 0, _ => s.finishCmd f a 3
  | n + 1, m =>
    let sp := s.kspace f c.kslot
    let e := fld c.w3 25 16 + m
    let trans := fld c.w0 9 9 == 1
    let acc := fld c.w0 8 8 == 1
    match s.readVec f sp.1 sp.2 d (fld c.w2 31 0 + m) (fld c.w2 63 32) (if trans then 128 else t.depth) with
    | (s, .error e) => s.arrVFault s0 f a i c.kslot e
    | (s, .ok v) =>
      match (if acc then (s.arr f a).badCol e else none) with
      | some col =>
        let inj := s.isInj 3 ((f * 8 + a) * 131072 + e * 128 + col)
        (s.arrFault f a i c.kslot 0x0106 (accLoc f a e col) inj).modArr f a (fun q => { q with test := some (e / 64) })
      | none => ((if acc then s.accCount f a e 128 else s).accEntry f a e t d.fmt v trans acc).passVecs s0 f a i c t d n (m + 1)

/-- Run a pass whose checks hold, swapping first where it carries a marker (R66, R68, R84). `upset`: the cell, by row·128 + column, whose
active register fails its parity as it is used (0x0107). -/
def State.passRun (s s0 : State) (f a i : Nat) (c : ArrCmd) (d : Tensor) (upset : Option Nat) : State :=
  let s := if fld c.w0 10 10 = 1 then
      s.modArr f a (fun q => { q with active := q.shadow, shadow := none, shadowDone := false })
    else s
  let s := s.setCmd f a i (fun c => { c with phase := 2 })
  match (s.arr f a).active with
  | none => s.arrFault f a i c.kslot 0x0104 (feederLoc f a 1) false
  | some t =>
    match upset with
    | some x =>
      (s.arrFault f a i c.kslot 0x0107 (cellLoc f a x) false).modArr f a
        (fun q => { q with active := none, test := some (0x10 + x / 1024 % 16) })
    | none => s.passVecs s0 f a i c t d (fld c.w3 15 0) 0

/-- The descriptor checks of a pass: its ranges (R76). -/
def passRange (c : ArrCmd) : Bool :=
  fld c.w3 15 0 == 0 || decide (fld c.w3 15 0 > 1024) || decide (fld c.w3 25 16 + fld c.w3 15 0 > 1024)
/-- Vectors of the streamed tensor. -/
def Tensor.vectors (d : Tensor) : Nat := if d.kind = 1 then d.cN * d.cP * d.cQ else d.rows

/-- A transposed pass R71 does not permit. -/
def transBad (t : StatSet) : Bool := t.depth != 128 || t.sparse || (t.scaled && !t.square)

/-- Accumulator blocks of `n` entries from e on, as first and last. -/
def blocksOf (e n : Nat) : Nat × Nat := (e / 64, (e + n - 1) / 64)
/-- A drain in one of two phases reads one of these blocks (R74, R85). -/
def drainIn (q : List ArrCmd) (b : Nat × Nat) (ph : Nat → Bool) : Bool :=
  q.any (fun x => ph x.phase && x.op == 4 &&
    decide (fld x.w0 39 30 / 64 ≤ b.2) && decide (b.1 ≤ (fld x.w0 39 30 + fld x.w0 29 20) / 64))
def passBlocks (c : ArrCmd) : Nat × Nat := blocksOf (fld c.w3 25 16) (fld c.w3 15 0)
/-- A drain whose writes are stalled has not read a block the pass targets: the pass waits (R85, R88). -/
def drainWaits (q : List ArrCmd) (c : ArrCmd) : Bool := drainIn q (passBlocks c) (· == 3)
/-- An earlier drain reads a block the pass targets, so slots were held for it (second interlock of R85). -/
def drainClash (q : List ArrCmd) (c : ArrCmd) : Bool := drainIn q (passBlocks c) (· == 2)

/-- The descriptor read as a command starts stays with it (R77). -/
def State.keepDesc (s : State) (f a i : Nat) (d : Tensor) (phase : Nat) : State :=
  s.setCmd f a i (fun c => { c with phase := phase, desc := d.w })

/-- Slots held under the second interlock of R85 are counted in ENTRY_STALL where a drain held the pass. -/
def State.entryStall (s : State) (f a : Nat) (c : ArrCmd) (stall : Nat) : State :=
  if drainClash (s.arr f a).queue c then s.radd (Fd.FRD_ARR_STAT_ENTRY_STALL f a) stall else s

/-- A pass at its start: the checks of R96 in order, then the pass, or its marker held until the swap is legal (R68).
`stall`: slots held under the second interlock of R85; `upset`: a cell whose parity fails. -/
def State.pass (s : State) (f a stall : Nat) (upset : Option Nat) : State :=
  let s0 := s
  match s.arrNext f a 3 with
  | none => s
  | some (i, c) =>
    let sp := s.kspace f c.kslot
    if c.phase = 1 then s
    else if c.bad then s.arrFault f a i c.kslot 0x010D (feederLoc f a 4) false
    else if passRange c || fld c.w1 47 0 % 64 != 0 then s.arrFault f a i c.kslot 0x0102 (feederLoc f a 1) false
    else
      match s.readTensor f sp.1 sp.2 (fld c.w1 47 0) with
      | (s, .error e) => s.arrVFault s0 f a i c.kslot e
      | (s, .ok d) =>
        let swap := fld c.w0 10 10 == 1
        let set := if swap then (s.arr f a).shadow else (s.arr f a).active
        if d.bad 1 || decide (fld c.w2 31 0 + fld c.w3 15 0 > d.vectors) then s.arrFault f a i c.kslot 0x0102 (feederLoc f a 1) false
        else if !fmtStreamed d.fmt then s.arrFault f a i c.kslot 0x0101 (feederLoc f a 1) false
        else
          match set with
          | none => s.arrFault f a i c.kslot 0x0104 (feederLoc f a 1) false
          | some t =>
            if !streamRow t d.fmt then s.arrFault f a i c.kslot 0x0101 (feederLoc f a 1) false
            else if fld c.w0 9 9 = 1 && transBad t then s.arrFault f a i c.kslot 0x0105 (feederLoc f a 1) false
            else if swap && !(s.arr f a).shadowDone then s.keepDesc f a i d 1
            else if drainWaits (s.arr f a).queue c then s0
            else (s.entryStall f a c stall).passRun s0 f a i c d upset

/-- PASS (R65). -/
def execPass (f a stall : Nat) (upset : Option Nat) (s : State) : Out := .next (s.attempt fun s => s.pass f a stall upset)

/-- A held marker whose swap has become legal: the held slots are counted and the pass runs, on the descriptor read as it started (R68,
R77). `held`: slots held for the swap; `stall`, `upset` as for a pass. -/
def State.swapRelease (s : State) (f a held stall : Nat) (upset : Option Nat) : State :=
  let s0 := s
  match s.arrNext f a 3 with
  | none => s
  | some (i, c) =>
    if c.phase = 1 && (s.arr f a).shadowDone && !drainWaits (s.arr f a).queue c then
      ((s.radd (Fd.FRD_ARR_STAT_SWAP_STALL f a) held).entryStall f a c stall).passRun s0 f a i c ⟨c.desc⟩ upset
    else s

/-- SWAP_MARKER_RELEASE (R68). -/
def execSwapMarkerRelease (f a held stall : Nat) (upset : Option Nat) (s : State) : Out :=
  .next (s.attempt fun s => s.swapRelease f a held stall upset)

/-! ## DRAIN (R52–R57, R88–R90) -/

/-- One converted row: the element codes, the block scales and the lanes' generator states after it. -/
structure DrainRow where
  codes : List Nat
  scales : List Nat
  lanes : List Nat
  deriving DecidableEq, Repr

/-- Magnitude order of finite values. -/
def magLt (a b : FV) : Bool :=
  match a, b with
  | .fin _ m e, .fin _ n g => fvLt (.fin false m e) (.fin false n g)
  | _, _ => false

/-- Conversion of one element with its lane's generator (R53, R56, R57): every element written steps the lane once. -/
def drainElem (e : EFmt) (sat rnd : Bool) (y : FV) (lane : Nat) : Nat × Nat :=
  let st := xorshift32 lane
  if rnd then (encodeStoch e sat (st / 65536) y, st) else (encodeRne e sat y, lane)

/-- Conversion of up to 32 values of an MX block (R55): scale, codes and lanes. -/
def drainBlock (e : EFmt) (rnd : Bool) (ys : List FV) (lanes : List Nat) : Nat × List Nat × List Nat :=
  let step := fun l => if rnd then xorshift32 l else l
  if ys.any (fun y => match y with | .fin _ _ _ => false | _ => true) then (0xFF, ys.map (fun _ => 0), lanes.map step)
  else
    let top := ys.foldl (fun a y => if magLt a y then y else a) (.fin false 0 0)
    match top with
    | .fin _ m ex =>
      if m = 0 then (0, ys.map (fun y => encodeRne e true y), lanes.map step)
      else
        let x := max (-127) (min 127 (flog2 m ex - e.emax))
        let r := (ys.zip lanes).map (fun p => drainElem e true rnd (fvScale (-x) p.1) p.2)
        ((x + 127).toNat, r.map Prod.fst, r.map Prod.snd)
    | _ => (0xFF, ys.map (fun _ => 0), lanes.map step)

/-- Conversion of a row of values to the output format; to FP32 it is the identity (R53). -/
def drainRow (ofmt : Nat) (sat rnd : Bool) (ys : List FV) (lanes : List Nat) : DrainRow :=
  match elemFmt ofmt with
  | none => ⟨[], [], lanes⟩
  | some e =>
    if fmtIsMx ofmt then
      (List.range (ys.length / 32)).foldl (fun (p : DrainRow) b =>
        let (sc, c, l) := drainBlock e rnd (slice ys (32 * b) 32) (slice lanes (32 * b) 32)
        ⟨p.codes ++ c, p.scales ++ [sc], p.lanes ++ l⟩) ⟨[], [], []⟩
    else
      let r := (ys.zip lanes).map (fun p => drainElem e (sat && ofmt != 0) (rnd && ofmt != 0) p.1 p.2)
      ⟨r.map Prod.fst, [], r.map Prod.snd⟩

/-- Pack element codes into bytes (R36). -/
def packCodes (fmt : Nat) (codes : List Nat) : List Byte :=
  let n := fmtBits fmt
  let total := (List.range codes.length).foldl (fun a i => a + codes.getD i 0 * 2 ^ (n * i)) 0
  leBytes ((codes.length * n + 7) / 8) total

/-- The bias elements of a drain as FP32 (R52). -/
def biasVals (fmt : Nat) (b : List Byte) (n : Nat) : List W32 :=
  (List.range n).map (fun j =>
    if fmt = 0 then BitVec.ofNat 32 (leNat (slice b (4 * j) 4))
    else toFp32From fmt (leNat (slice b (2 * j) 2)))

/-- A failed access of a drain; one that is held stalls the drain, from the state before it, while the array's other commands go on
(R88). -/
def State.drainVFault (s s0 : State) (f a i kslot : Nat) (d : Tensor) (e : VErr) : State :=
  if e.held then (s0.keepFills s).keepDesc f a i d 3 else s.arrVFault s0 f a i kslot e

/-- Rows of a drain in ascending order (R88, R89): read, convert, write; stopped by an uncorrectable entry or a refused
write. -/
def State.drainRows (s s0 : State) (f a i : Nat) (c : ArrCmd) (d : Tensor) (bias : List W32) : Nat → Nat → List Nat → State
  | 0, _, _ => s.setCmd f a i (fun c => { c with phase := 2 })
  | n + 1, row, lanes =>
    let sp := s.kspace f c.kslot
    let e := fld c.w0 39 30 + row
    let ncol := fld c.w0 47 40 + 1
    match (s.arr f a).badCol e with
    | some col =>
      let inj := s.isInj 3 ((f * 8 + a) * 131072 + e * 128 + col)
      (s.arrFault f a i c.kslot 0x0106 (accLoc f a e col) inj).modArr f a (fun q => { q with test := some (e / 64) })
    | none =>
      let s := s.accCount f a e 128
      let ys := (List.range ncol).map (fun j =>
        f32 (fFma ((s.arr f a).accGet e j) (BitVec.ofNat 32 (fld c.w2 31 0)) (bias.getD j 0#32)))
      let r := drainRow d.fmt (fld c.w0 14 14 == 1) (fld c.w0 13 13 == 1) ys lanes
      let sm := row / d.size1
      let rr := row % d.size1
      match s.vwrite (some f) 1 sp.1 sp.2 (d.base + sm * d.stride2 + rr * d.stride1) (packCodes d.fmt r.codes) with
      | (s, some e) => s.drainVFault s0 f a i c.kslot d e
      | (s, none) =>
        match (if r.scales.isEmpty then (s, none)
               else s.vwrite (some f) 1 sp.1 sp.2 (d.scaleBase + sm * d.sstride2 + rr * d.sstride1) (r.scales.map (BitVec.ofNat 8))) with
        | (s, some e) => s.drainVFault s0 f a i c.kslot d e
        | (s, none) => s.drainRows s0 f a i c d bias n (row + 1) r.lanes

/-- Read the bias of a drain and convert its rows. -/
def State.drainRun (s s0 : State) (f a i : Nat) (c : ArrCmd) (d : Tensor) : State :=
  let sp := s.kspace f c.kslot
  let ncol := fld c.w0 47 40 + 1
  let bf := fld c.w0 17 16
  match (if fld c.w0 15 15 = 1 then s.vread (some f) 1 sp.1 sp.2 (fld c.w3 47 0) (ncol * (if bf = 0 then 4 else 2))
         else (s, .ok [])) with
  | (s, .error e) => s.drainVFault s0 f a i c.kslot d e
  | (s, .ok b) =>
    let bias := if fld c.w0 15 15 = 1 then biasVals bf b ncol else List.replicate ncol 0#32
    s.drainRows s0 f a i c d bias (fld c.w0 29 20 + 1) 0 ((List.range ncol).map (laneSeed (fld c.w2 63 32)))

/-- The drain of an array that is stalled on its writes (R88). -/
def stalledDrain (q : List ArrCmd) : Option (Nat × ArrCmd) :=
  match findIdxFrom (fun c : ArrCmd => c.phase == 3) q 0 with
  | some i => (q[i]?).map (fun c => (i, c))
  | none => none

/-- A drain goes on: one stalled on its writes first, else the next command of the queue, which waits for an earlier drain of a block it
reads (R74, R88). -/
def State.drain (s : State) (f a : Nat) : State :=
  let s0 := s
  match (if s.arrReady f a then stalledDrain (s.arr f a).queue else none) with
  | some (i, c) => s.drainRun s0 f a i c ⟨c.desc⟩
  | none =>
  match s.arrNext f a 4 with
  | none => s
  | some (i, c) =>
    let sp := s.kspace f c.kslot
    let ofmt := fld c.w0 12 8
    let ncol := fld c.w0 47 40 + 1
    if c.bad then s.arrFault f a i c.kslot 0x010D (feederLoc f a 4) false
    else if fld c.w1 47 0 % 64 != 0 || decide (fld c.w0 39 30 + fld c.w0 29 20 > 1023) then
      s.arrFault f a i c.kslot 0x0102 (feederLoc f a 2) false
    else if drainIn (s.arr f a).queue (blocksOf (fld c.w0 39 30) (fld c.w0 29 20 + 1)) (2 ≤ ·) then s
    else
      match s.readTensor f sp.1 sp.2 (fld c.w1 47 0) with
      | (s, .error e) => s.arrVFault s0 f a i c.kslot e
      | (s, .ok d) =>
        if d.bad 2 || d.fmt != ofmt || decide (ncol > d.size0) || decide (fld c.w0 29 20 + 1 > d.rows) then
          s.arrFault f a i c.kslot 0x0102 (feederLoc f a 2) false
        else if fmtIsMx ofmt && ncol % 32 != 0 then s.arrFault f a i c.kslot 0x0101 (feederLoc f a 2) false
        else s.drainRun s0 f a i c d

/-- DRAIN (R88). -/
def execDrain (f a : Nat) (s : State) : Out := .next (s.attempt fun s => s.drain f a)

/-- DRAIN_COMPLETE (R90): every write has been performed at the destination. -/
def execDrainComplete (f a : Nat) (s : State) : Out := .next (s.finishCmd f a 4)

/-- ACCUMULATOR_PATTERN_TEST (R86): a passed test lets the array accept commands and leaves what the macro holds (assumption 112); a failed
one fences it, widened. -/
def execAccumulatorPatternTest (f a : Nat) (fails : Bool) (s : State) : Out :=
  .next (match (s.arr f a).test with
    | none => s
    | some b =>
      let s := s.modArr f a (fun q => { q with test := none })
      if fails then s.fenceEngine 0x0108 (locFrond f a b 0xFFFF) (arrLoc f a) true false none else s)

/-- COMMAND_TIMEOUT (R96, Table 03-12): the command at the head of the queue is discarded and its kernel fenced. The cycles of a sequencer's
switch are not counted (Table 20-4). -/
def execCommandTimeout (f a : Nat) (s : State) : Out :=
  .next (match (s.arr f a).queue with
    | [] => s
    | c :: _ => if s.endpointSwitching 7 (8 * f + a) then s else s.arrFault f a 0 c.kslot 0x010C (feederLoc f a 4) false)

end Sys2Proof.Machine
end

