-- ==== Sys2Proof/Machine/Messages.lean ====
section
/-!
DEFINITION. Fabric messages on their way (R421–R436): links and their buffers, credits and the replay buffer, routing and
multicast, and the answers to requests.
-/

namespace Sys2Proof.Machine

/-! ## Links (R412, Table 13-12) -/

def State.link (s : State) (l : Nat) : Link := spGet (fun _ => Link.init) s.fab.links l
def State.setLink (s : State) (l : Nat) (v : Link) : State :=
  { s with fab.links := spPut (fun _ => Link.init) s.fab.links l v }
def State.modLink (s : State) (l : Nat) (g : Link → Link) : State := s.setLink l (g (s.link l))

/-- A field of FAB_PORT_STAT for the half of a link code. -/
def linkFd (mk : Nat → Fd) (l : Nat) : Fd :=
  let d := mk (l / 2)
  ⟨d.off, d.hi + 32 * (l % 2), d.lo + 32 * (l % 2)⟩
def State.linkState (s : State) (l : Nat) : Nat := s.rget (linkFd Fd.FAB_PORT_STAT_STATE l)
def State.setLinkState (s : State) (l v : Nat) : State := s.rset (linkFd Fd.FAB_PORT_STAT_STATE l) v
def State.portSplit (s : State) (p : Nat) : Bool := s.rget (Fd.FAB_PORT_CFG_SPLIT p) == 1
/-- The link code names a link of a port present. -/
def State.linkThere (s : State) (l : Nat) : Bool :=
  decide (l < 2 * s.part.fports) && (l % 2 == 0 || s.portSplit (l / 2))
/-- The link carries messages: up, or retraining, which loses none (R431; assumption 20). -/
def State.linkUp (s : State) (l : Nat) : Bool := s.linkThere l && (s.linkState l == 2 || s.linkState l == 3)
def State.linkWidth (s : State) (l : Nat) : Nat := if s.portSplit (l / 2) then 4 else 8
/-- Replay buffer of a link in flits (R430). -/
def State.replayCap (s : State) (l : Nat) : Nat := if s.portSplit (l / 2) then 512 else 1024
/-- Port controller of a link (R454). -/
def portLoc (l : Nat) : Loc := locHub 0x14 (l / 2) (l % 2) 0xFFFF

/-! ## Sizes, virtual channels, credits (R422, R432) -/

/-- Virtual channel by OP: 0 REQ, 1 RSP, 2 RED, 3 CTL. -/
def Msg.vc (m : Msg) : Nat :=
  if 1 ≤ m.op && m.op ≤ 5 then 0 else if 0x10 ≤ m.op && m.op ≤ 0x12 then 1 else if m.op = 0x20 then 2 else 3
def Msg.isReq (m : Msg) : Bool := m.vc == 0
/-- The OP is one of Table 13-7. -/
def opKnown (op : Nat) : Bool :=
  [1, 2, 3, 4, 5, 0x10, 0x11, 0x12, 0x20, 0x30, 0x31, 0x32, 0x33, 0x34, 0x35].contains op
/-- Addressed to the neighbour and never forwarded (R423). -/
def Msg.linkLocal (m : Msg) : Bool := decide (m.op ≥ 0x20)
/-- 32-byte slots of a message. -/
def Msg.slots (m : Msg) : Nat := (16 + m.data.length + 31) / 32
/-- Flits of a message that starts a flit of its own (assumption 21). -/
def Msg.flits (m : Msg) : Nat := (m.slots + 6) / 7
def Credits.get (c : Credits) (vc : Nat) : Nat :=
  match vc with
  | 0 => c.req | 1 => c.rsp | 2 => c.red | _ => c.ctl
def Credits.put (c : Credits) (vc v : Nat) : Credits :=
  match vc with
  | 0 => { c with req := v } | 1 => { c with rsp := v } | 2 => { c with red := v } | _ => { c with ctl := v }
def Credits.add (c : Credits) (vc n : Nat) : Credits := c.put vc (c.get vc + n)
/-- Receive buffers of a link in units of 32 bytes (R432). -/
def State.ownCredits (s : State) (l : Nat) : Credits :=
  let k := if s.portSplit (l / 2) then 2 else 1
  ⟨8192 / k, 6144 / k, 1024 / k, 1024 / k⟩

/-- Flits held in the replay buffer. -/
def Link.inFlight (q : Link) : Nat := q.unack.foldl (fun a u => a + u.flits) 0
/-- The message can be sent now: the peer's credits cover it and the replay buffer has room (R430, R432). -/
def Link.room (q : Link) (cap : Nat) (m : Msg) : Bool :=
  decide (m.slots ≤ q.credTx.get m.vc) && decide (q.inFlight + m.flits ≤ cap)
def Link.send (q : Link) (m : Msg) (why : SentFor) : Link :=
  { q with credTx := q.credTx.put m.vc (q.credTx.get m.vc - m.slots)
           txSeq := (q.txSeq + m.flits) % 4096
           sentCnt := q.sentCnt + m.flits
           unack := q.unack ++ [⟨(q.txSeq + m.flits + 4095) % 4096, m.flits, 1, m, why⟩] }

/-- Send queued messages while credits and the replay buffer allow: a message waits only behind those of its own channel, so
a response never waits behind a request (R432). -/
def pumpTx (cap : Nat) : List (Msg × SentFor) → Link → List Nat → Link
  | [], q, _ => q
  | (m, why) :: l, q, held =>
    if !held.contains m.vc && q.room cap m then pumpTx cap l (q.send m why) held
    else pumpTx cap l { q with txq := q.txq ++ [(m, why)] } (m.vc :: held)
def State.pump (s : State) (l : Nat) : State :=
  if s.linkState l = 2 then
    let q := s.link l
    let q' := pumpTx (s.replayCap l) q.txq { q with txq := [] } []
    let s := s.setLink l q'
    if q'.txSeq = q.txSeq then s else s.injTransfer ⟨4, l / 2, 0, 0x3F, 0, 0, 0xFFFF⟩
  else s

/-- Queue a message for a link. -/
def State.toLink (s : State) (l : Nat) (m : Msg) (why : SentFor) : State :=
  (s.modLink l (fun q => { q with txq := q.txq ++ [(m, why)] })).pump l

/-- Link code of the module's own loop. -/
def selfLink : Nat := 32
/-- Deliver a message to this module (R435). -/
def State.deliverMsg (s : State) (l : Nat) (m : Msg) : State :=
  s.modLink l (fun q => { q with rxbuf := q.rxbuf ++ [⟨m, s.clock⟩] })

/-! ## Routing (R434–R436) -/

def routeLoc : Loc := locHub 0x14 0x20 0xFF 0xFFFF
def State.idValid (s : State) : Bool := s.rget Fd.FAB_ID_VALID == 1

/-- Links a multicast group copies to, the arriving link left out. -/
def mcLinks (e : W64) (from_ : Option Nat) : List Nat :=
  (bitsOf 32 (fld e 31 0)).filter (fun l => from_ != some l)

/-- The link a unicast message is forwarded on (R435). -/
def State.nextLink (s : State) (dst : Nat) : Option Nat :=
  let e := spGet (fun _ => 0#16) s.fab.routes dst
  if bit e 15 && s.linkUp (fld e 14 10) then some (fld e 14 10)
  else if bit e 9 && s.linkUp (fld e 8 4) then some (fld e 8 4)
  else none

/-- Route a message whose drop is answered to nobody. -/
def State.routeQuiet (s : State) (m : Msg) (why : SentFor) : State :=
  if m.dst = s.devId then s.deliverMsg selfLink m
  else match s.nextLink m.dst with
  | some l => s.toLink l m why
  | none => s

/-- An answer to a request's originator, with its tag (Table 13-7). -/
def State.answer (s : State) (q : Msg) (op target : Nat) (data : List Byte) : State :=
  s.routeQuiet ⟨op, q.src, s.devId, q.tenant, false, data.length - 1, 0, 0, 15, 0, q.tag, target, data⟩ .other

/-- A dropped message: a unicast request returns ERROR (R433, R435). -/
def State.dropMsg (s : State) (m : Msg) (reason : Nat) (loc : Loc) : State :=
  let s := s.raise (recErr reason loc none)
  if m.isReq && !m.mc then s.answer m 0x12 reason [] else s

/-- Route a message (R435, R436); `from_`: the link it arrived on. -/
def State.route (s : State) (m : Msg) (from_ : Option Nat) (why : SentFor) : State :=
  if m.mc then
    let e := spGet (fun _ => 0#64) s.fab.mcast m.dst
    if bit e 63 then
      let s := (mcLinks e from_).foldl (fun s l =>
        if s.linkUp l then s.toLink l m why
        else s.radd (Fd.FAB_PORT_CNT_DISCARDS (l / 2)) 1) s
      if bit e 62 then s.deliverMsg selfLink m else s
    else s
  else if m.dst = s.devId then s.deliverMsg selfLink m
  else match s.nextLink m.dst with
  | some l => s.toLink l m why
  | none => s.dropMsg m 0x0B0A routeLoc

/-- Forward a message that arrived (R435): HOPS counts the forwards. -/
def State.forward (s : State) (m : Msg) (from_ : Nat) : State :=
  if m.hops = 0 then s.dropMsg m 0x0B0F routeLoc
  else s.route { m with hops := m.hops - 1 } (some from_) .other

/-- A message has left a receive buffer: its credits are returned to the peer (R432). -/
def State.freeRx (s : State) (l : Nat) (m : Msg) : State :=
  s.modLink l (fun q => { q with credRet := q.credRet.add m.vc m.slots })

end Sys2Proof.Machine
end

