-- ==== Sys2Proof/Machine/Signals.lean ====
section
/-!
DEFINITION. Operations on sori (R392–R396): the checks in order, signals and their saturation, waits, and signals on their
way to their bank.
-/

namespace Sys2Proof.Machine

def State.sorus (s : State) (n : Nat) : Sorus := spGet (fun _ => Sorus.init) s.sor.sori n
def State.setSorus (s : State) (n : Nat) (v : Sorus) : State :=
  { s with sor.sori := spPut (fun _ => Sorus.init) s.sor.sori n v }
/-- Location of a sorus (R410). -/
def sorLoc (n : Nat) : Loc := locHub 0x13 (n % 8) 0xFF n
/-- Location of a sorus fault raised against a thread (R410). -/
def sorThreadLoc (f t : Nat) : Loc := locFrond f 0x14 0xFF t

/-- Threads on a Frond's watch list for a sorus become free of it: each traps with a reason (R401). -/
def State.trapWatchers (s : State) (n reason : Nat) : State :=
  (List.range s.fronds).foldl (fun s f =>
    let l := (s.fr f).watch.filter (fun w => w.sorus == n)
    let s := s.modFr f (fun q => { q with watch := q.watch.filter (fun w => w.sorus != n) })
    l.foldl (fun s w => s.trap f w.g w.t reason 0 (sorThreadLoc f w.t)) s) s

/-- An uncorrectable error in a sorus makes it LOST, with its binding where a copy of it is readable (R392, R410); threads
and descriptors waiting on it fail (R401, R407). -/
def State.sorCheckErr (s : State) (n : Nat) : State :=
  let q := s.sorus n
  if q.st == .allocated && (secdedBad q.badV || secdedBad q.badT || secdedBad q.badB) then
    let s := s.setSorus n { q with st := .lost, bound := !(secdedBad q.badB && secdedBad q.badC) }
    let s := s.raise { recNote 0x0A06 (sorLoc n) with inj := s.isInj 7 n }
    let s := s.trapWatchers n 0x0A06
    let ws := s.sor.waits.filter (fun w => w.sorus == n)
    let s := { s with sor.waits := s.sor.waits.filter (fun w => w.sorus != n) }
    ws.foldl (fun s w => (s.raise (recErr 0x0A06 (sorLoc n) (s.ringCtx w.ring))).complete w.ring w.idx 0x80 0x0A06 0) s
  else s

/-- The checks of R396 in order, for an operation other than CREATE and DESTROY; `remote`: from another module. -/
def State.sorRefuse (s : State) (n tenant : Nat) (remote : Bool) : Option Nat :=
  let q := s.sorus n
  if q.st == .lost then some 0x0A06
  else if q.st == .free then some 0x0A01
  else if remote then (if q.remote && q.tenant == tenant then none else some 0x0A03)
  else if q.tenant = tenant then none else some 0x0A02

/-- Store a new VALUE; the flip mask may strike its word (R609). -/
def State.sorWrite (s : State) (n : Nat) (v : W64) : State :=
  let q := s.sorus n
  match s.injMask 0 (sorLoc n) with
  | some m => ((s.setSorus n { q with value := v, badV := m % 2 ^ 64 }).noteInj 7 n).injDone
  | none => (s.setSorus n { q with value := v, badV := 0 }).dropInj 7 n

/-- Every wait on a sorus whose threshold VALUE has reached is satisfied, and stays so (R395, R400, R405). -/
def State.sorEval (s : State) (n : Nat) : State :=
  let v := (s.sorus n).value.toNat
  let s := { s with sor.waits := s.sor.waits.map (fun w => if w.sorus = n && w.thr ≤ v then { w with sat := true } else w) }
  (List.range s.fronds).foldl (fun s f => s.modFr f (fun q =>
    { q with watch := q.watch.map (fun w => if w.sorus = n && w.thr ≤ v then { w with sat := true } else w) })) s

/-- Apply a signal that passed its checks: VALUE never wraps (R394). -/
def State.sorAdd (s : State) (n amount : Nat) : State :=
  let sum := (s.sorus n).value.toNat + amount
  let s := if sum ≥ 2 ^ 64 then (s.raise (recNote 0x0A07 (sorLoc n))).radd Fd.SOR_ERR_STAT_SATURATED 1 else s
  ((s.sorWrite n (BitVec.ofNat 64 (min sum (2 ^ 64 - 1))))).sorEval n

/-- A signal reaches its sorus: the reason where it fails under R396. -/
def State.sorSignal (s : State) (n amount tenant : Nat) (remote : Bool) : State × Option Nat :=
  let s := s.sorCheckErr n
  match s.sorRefuse n tenant remote with
  | some e => (s, some e)
  | none => (s.sorAdd n amount, none)

/-- A queued signal is applied; a failure is a fault of the kernel that sent it, or refused to the module it came from
(R401, R408, R443). -/
def State.applyUpd (s : State) (u : SUpd) : State :=
  match u.src with
  | .thread f k t =>
    match s.sorSignal u.sorus u.n u.tenant false with
    | (s, some e) =>
      if (match s.krn f k with
        | some q => q.launch.tenant == u.tenant
        | none => false) then s.faultKernel f k e (sorThreadLoc f t)
      else s.raise (recErr e (sorLoc u.sorus) none)
    | (s, none) => s
  | .remote dev tag mc =>
    let m : Msg := ⟨4, s.devId, dev, u.tenant, mc, 3, 0, 0, 0, 0, tag, u.sorus, []⟩
    match s.sorSignal u.sorus u.n u.tenant true with
    | (s, some e) =>
      let s := (s.raise (recErr e (locHub 0x13 0x09 0xFF u.sorus) none))
      let s := if e = 0x0A03 then s.radd Fd.SOR_ERR_STAT_REMOTE_REFUSED 1 else s
      if mc then s.raise (recErr 0x0B12 (locHub 0x14 0x21 0xFF 0xFFFF) none) else s.answer m 0x12 e []
    | (s, none) => if mc then s else s.answer m 0x10 0 []

/-- Signals of one input to one bank, and the others. -/
def SUpd.at_ (u : SUpd) (party bank : Nat) : Bool := u.party == party && u.sorus % 8 == bank

/-- A signal delivered and applied at once, after the signals its input sent to the bank before it (R393). -/
def State.sorNow (s : State) (party n amount tenant : Nat) : State × Option Nat :=
  let mine := s.sor.queue.filter (fun u => u.at_ party (n % 8))
  let s := { s with sor.queue := s.sor.queue.filter (fun u => !u.at_ party (n % 8)) }
  (mine.foldl (fun s u => s.applyUpd u) s).sorSignal n amount tenant false

/-- A watch-list slot is taken: 128 entries a Frond, one per distinct sorus (R400). -/
def Frond.watchFull (q : Frond) (n : Nat) : Bool :=
  !(q.watch.any (fun w => w.sorus == n)) &&
    decide ((q.watch.foldl (fun l w => insNat l w.sorus) ([] : List Nat)).length ≥ 128)

end Sys2Proof.Machine
end

