-- ==== Sys2Proof/Machine/Issue.lean ====
section
/-!
DEFINITION. Issue of a group's instruction (R140–R142, R161–R167): the threads that may execute, the convergence scheduler, the fetch, and the
checks each executing thread makes before it acts. Every instruction of a thread, whatever it does, is issued here.
-/

namespace Sys2Proof.Machine

/-! ## Kernels of group slots -/

/-- The kernel of a group slot, while it is resident. -/
def State.slotKernel (s : State) (f g : Nat) : Option (Nat × Kernel) :=
  match (s.grp f g).kernel with
  | none => none
  | some k => (s.krn f k).map (fun q => (k, q))

/-- The kernel of a group slot, while it is resident and not aborting. -/
def State.grpKernel (s : State) (f g : Nat) : Option (Nat × Kernel) :=
  match s.slotKernel f g with
  | none => none
  | some (k, q) => if q.abort.isNone then some (k, q) else none

/-- The thread has executed its instruction (R140). -/
def State.advance (s : State) (f g t : Nat) : State :=
  s.modThr f g t (fun q => { q with pc := (q.pc + 8) % 2 ^ 48, wait := .ready })
def State.advanceAll (s : State) (f g : Nat) (ts : List Nat) : State := ts.foldl (fun s t => s.advance f g t) s

/-- Start of a wait: the clock and a stamp that orders waits (R158). -/
def State.startWait (s : State) (f g t : Nat) (w : Wait) : State :=
  { s.modThr f g t (fun q => { q with wait := w, since := s.frd.stamp, waitClock := s.clock }) with frd.stamp := s.frd.stamp + 1 }

/-! ## Traps and their places (R161, R164, R175) -/

/-- Location of a trap of the instruction fetch, of the scheduler and barrier unit, and of a register bank (R175). -/
def fetchLoc (f t : Nat) : Loc := locFrond f 0x15 0xFF t
def schedLoc (f t : Nat) : Loc := locFrond f 0x14 0xFF t
def bankLoc (f g n t : Nat) : Loc := locFrond f (0x10 + g % 4) (0x20 + n % 8) t

/-- A thread trap at its instruction. -/
def State.trapHere (s : State) (f g t reason : Nat) : State := s.trap f g t reason 0 (trapLoc f g t)
/-- Threads that trap together: the lowest is recorded, the others are counted (R164). -/
def State.trapEach (s : State) (f g reason : Nat) (loc : Nat → Loc) (inj : Bool) (ts : List Nat) : State :=
  ts.foldl (fun s t => s.trapI f g t reason 0 (loc t) inj) s
/-- The trap of a failed translation (R126). -/
def State.xTrap (s : State) (f g t : Nat) (e : XErr) : State := s.trapI f g t e.reason 0 (trapLoc f g t) e.inj

/-! ## The scheduler (R141, R142) -/

/-- Commands of a kernel in an array queue or a DMA channel, not yet completed (R147). -/
def State.kArrCmds (s : State) (f k a : Nat) : Nat := ((s.arr f a).queue.filter (fun c => c.kslot == k)).length
def State.kDmaCmds (s : State) (f k c : Nat) : Nat :=
  ((s.dma f c).queue.filter (fun x => x.src == Agent.kernel f k)).length

/-- The wait of a thread is over: it would be ready to issue again (R147). -/
def State.waitOver (s : State) (f k : Nat) (w : Wait) : Bool :=
  match w with
  | .ready => true
  | .stores => (s.fr f).sbuf.isEmpty
  | .acmd a => decide ((s.arr f a).queue.length < 16)
  | .dcmd c => decide ((s.dma f c).queue.length < 16)
  | .awaitA a n => decide (s.kArrCmds f k a ≤ n)
  | .awaitD c n => decide (s.kDmaCmds f k c ≤ n)
  | _ => false

/-- The ready threads of a group, with their program counters (R141). -/
def State.readyThreads (s : State) (f g : Nat) : List (Nat × Nat) :=
  match s.slotKernel f g with
  | none => []
  | some (k, _) =>
    if s.frondUp f && s.inRun f then
      (List.range 32).filterMap (fun t =>
        let q := s.thr f g t
        if q.live && s.waitOver f k q.wait then some (t, q.pc) else none)
    else []

/-- Program counters of the ready threads, each once, in rising order. -/
def pcsOf (l : List (Nat × Nat)) : List Nat := l.foldl (fun a p => insNat a p.2) []
def countPc (l : List (Nat × Nat)) (pc : Nat) : Nat := (l.filter (fun p => p.2 == pc)).length
/-- Issue cycles of its group a program counter has waited. -/
def skipOf (skips : List (Nat × Nat)) (pc : Nat) : Nat := ((skips.find? (fun k => k.1 == pc)).map Prod.snd).getD 0

/-- The greatest of a list by a measure, the first of equals. -/
def firstMax (m : Nat → Nat) : List Nat → Option Nat
  | [] => none
  | x :: l =>
    match firstMax m l with
    | none => some x
    | some y => if m x < m y then some y else some x

/-- The program counter chosen: of those passed over 64 times the one that reached the bound first, the lower of two that reached it
together; else the one most threads hold, ties to the lowest (R141, R142). -/
def choosePc (l : List (Nat × Nat)) (skips : List (Nat × Nat)) : Option Nat :=
  match firstMax (skipOf skips) ((pcsOf l).filter (fun pc => decide (skipOf skips pc ≥ 64))) with
  | some pc => some pc
  | none => firstMax (countPc l) (pcsOf l)

/-- Counts of issue cycles not chosen, after the choice of `pc`. -/
def skipsAfter (l : List (Nat × Nat)) (skips : List (Nat × Nat)) (pc : Nat) : List (Nat × Nat) :=
  ((pcsOf l).filter (· != pc)).map (fun p => (p, skipOf skips p + 1))

/-- The threads that issue in a group now, and the state with the counts of the rest (R141, R142). -/
def State.pick (s : State) (f g : Nat) : State × Option (Nat × List Nat) :=
  let l := s.readyThreads f g
  match choosePc l (s.grp f g).skips with
  | none => (s, none)
  | some pc =>
    (s.setGrp f g { s.grp f g with skips := skipsAfter l (s.grp f g).skips pc },
      some (pc, (l.filter (fun p => p.2 == pc)).map (·.1)))

/-! ## Register errors (R161, R167, R176) -/

def regKey (f g t n : Nat) : Nat := thrKey f g t * 128 + n
/-- Flipped bits of a general register's codeword. -/
def State.regMask (s : State) (f g t n : Nat) : Nat := spGet (fun _ => 0) s.frd.regBad (regKey f g t n)
/-- The first register of a list in which a thread finds an uncorrectable error. -/
def State.badReg (s : State) (f g t : Nat) (ns : List Nat) : Option Nat := ns.find? (fun n => secdedBad (s.regMask f g t n))
/-- Registers read with an error that is corrected are counted (R176). -/
def State.countRegs (s : State) (f g t : Nat) (ns : List Nat) : State :=
  let l := ns.filter (fun n => popCount 39 (s.regMask f g t n) == 1)
  if l.isEmpty then s else s.modFr f (fun q => { q with regCorr := q.regCorr + l.length })

/-- An uncorrectable register traps the reader; its slot is held and its cluster accepts no new group (R167). -/
def State.regFault (s : State) (f g t n : Nat) : State :=
  (s.trapI f g t 0x0288 0 (bankLoc f g n t) (s.isInj 4 (regKey f g t n))).modFr f
    (fun q => { q with clHeld := insNat q.clHeld (g % 4), slotHeld := insNat q.slotHeld g })

/-! ## The fetch (R112, R140, R162) -/

/-- Fill of an instruction cache line: 4 ways of 256 sets, the victim left open (assumption 22). -/
def State.icFill (s : State) (f line : Nat) : State :=
  let same := (s.fr f).icache.filter (fun x => x % 256 == line % 256)
  let (s, l) :=
    if same.length < 4 then (s, (s.fr f).icache)
    else
      let (w, s) := s.fresh
      (s, (s.fr f).icache.filter (· != same.getD (w.toNat % 4) 0))
  s.modFr f (fun q => { q with icache := line :: l })

/-- A line of the instruction cache that fails its parity is dropped and counted (R112). -/
def State.icParityCheck (s : State) (f line : Nat) : State :=
  if (s.fr f).icacheBad.contains line then
    s.modFr f (fun q => { q with icache := q.icache.filter (· != line), icacheBad := q.icacheBad.filter (· != line),
                                 icParity := q.icParity + 1 })
  else s

/-- Fetch of the instruction at `pc` for the threads `ts` of kernel k: the state, and whether it may execute. -/
def State.fetch (s : State) (f g k : Nat) (q : Kernel) (pc : Nat) (ts : List Nat) : State × Bool :=
  match s.xlate (some f) q.launch.asid q.launch.tenant pc .x with
  | (s, .error e) => ((s.captureXlate f 3 q.launch.asid pc e).trapEach f g e.reason (fetchLoc f) e.inj ts, false)
  | (s, .ok (pa, _)) =>
    let s := s.icParityCheck f (pa / 128)
    if (s.fr f).icache.contains (pa / 128) then (s, true)
    else if s.rdHeld (pa / 128 * 128) 128 then (s.noteFills (pa / 128 * 128) 128, false)
    else
      match (s.bundleUse f pa false).read (pa / 128 * 128) 128 with
      | (s, .ok _) => (s.icFill f (pa / 128), true)
      | (s, .error e) =>
        if e.unc then (s.trapEach f g 0x0281 (fetchLoc f) e.inj ts, false) else (s.accFault (.kernel f k) e, false)

/-! ## Issue -/

/-- One instruction of a group: the choice, the fetch, then the effect on the chosen threads, given its kernel. -/
def State.issueNow (s : State) (f g : Nat) (eff : State → Nat → Kernel → List Nat → State) : State :=
  match s.slotKernel f g with
  | none => s
  | some (k, q) =>
    match s.pick f g with
    | (s, none) => s
    | (s, some (pc, ts)) =>
      match s.fetch f g k q pc ts with
      | (s, false) => s
      | (s, true) => eff s k q ts

/-- Issue of an instruction of a group. Of a kernel that is being aborted no instruction takes effect; its traps are counted (R163, R164). -/
def State.issue (s : State) (f g : Nat) (eff : State → Nat → Kernel → List Nat → State) : State :=
  s.attempt fun s =>
    match s.slotKernel f g with
    | none => s
    | some (_, q) =>
      if q.abort.isNone then s.issueNow f g eff
      else s.rset (Fd.FRD_TG_STAT_TRAP_COUNT f) ((s.issueNow f g eff).rget (Fd.FRD_TG_STAT_TRAP_COUNT f))

/-- The chosen threads in ascending index: one whose predicate fails goes on, one that meets an uncorrectable register traps, the others
act (R141, R146, R147, R161). -/
def State.eachThread (s : State) (f g mask : Nat) (reads : List Nat) (ts : List Nat) (act : State → Nat → State) : State :=
  ts.foldl (fun s t =>
    if nbit mask t then
      match s.badReg f g t reads with
      | some n => s.regFault f g t n
      | none => act (s.countRegs f g t reads) t
    else s.advance f g t) s

end Sys2Proof.Machine
end

