-- ==== Sys2Proof/Machine/FrondMemory.lean ====
section
/-!
DEFINITION. Frond memory (chapter 04): loads and stores of threads, the store buffer and data cache, fences, translation
walks, DMA channels and sleep states.
-/

namespace Sys2Proof.Machine

/-- Registers `n …` of a thread from 32-bit pieces of bytes. -/
def State.putRegs (s : State) (f g t n : Nat) : List Nat → State
  | [] => s
  | w :: ws => (s.setGreg f g t (n % 128) (BitVec.ofNat 32 w)).putRegs f g t (n + 1) ws

/-! ## The store buffer (R109) -/

/-- Location of a store buffer entry (R136). -/
def sbLoc (f e : Nat) : Loc := locFrond f 0x23 e 0xFFFF
/-- Key of an entry's injected error (R610). -/
def sbKey (f e : Nat) : Nat := f * 64 + e

/-- Runs of consecutive bytes of an entry. -/
def sbRuns : Sp Byte → List (Nat × List Byte)
  | [] => []
  | (o, b) :: m =>
    match sbRuns m with
    | [] => [(o, [b])]
    | (p, l) :: r => if p = o + 1 then (o, b :: l) :: r else (o, [b]) :: (p, l) :: r

/-- The fault of an uncorrectable entry, against the kernel that opened it (R137); the entry is discarded by the caller. -/
def State.sbFault (s : State) (f : Nat) (e : SbEntry) : State :=
  (s.faultKernelI f e.kslot 0x0207 (sbLoc f e.slot) (s.isInj 6 (sbKey f e.slot))).dropInj 6 (sbKey f e.slot)

/-- The oldest entry is written to memory, its masked bytes only, and leaves the buffer; an uncorrectable entry is discarded
and fences the kernel that opened it, a corrected one is counted (R109, R137). -/
def State.sbWrite (s : State) (f : Nat) : State :=
  match (s.fr f).sbuf with
  | [] => s
  | e :: rest =>
    let s := s.modFr f (fun q => { q with sbuf := rest, sbCorr := q.sbCorr + (if popCount 39 e.bad = 1 then 1 else 0) })
    if secdedBad e.bad then s.sbFault f e
    else
      (sbRuns e.bytes).foldl (fun s r =>
        match (s.bundleUse f (e.line * 128 + r.1) true).write (e.line * 128 + r.1) r.2 with
        | (s, none) => s
        | (s, some x) => s.accFault (.kernel f e.kslot) x) (s.dropInj 6 (sbKey f e.slot))

/-- Write out every entry, oldest first. -/
def State.sbDrain (s : State) (f : Nat) : State := (s.fr f).sbuf.foldl (fun s _ => s.sbWrite f) s

/-- The write of an entry is held (R134, R244, R259, R312). -/
def State.entryHeld (s : State) (e : SbEntry) : Bool := (sbRuns e.bytes).any (fun r => s.wrHeld (e.line * 128 + r.1) r.2.length)
/-- A store of the buffer is held. -/
def State.sbHeld (s : State) (f : Nat) : Bool := (s.fr f).sbuf.any s.entryHeld

/-- The entry of the 64 that a new one takes: the lowest free. -/
def sbFree (l : List SbEntry) : Nat := ((List.range 64).find? (fun i => l.all (fun e => e.slot != i))).getD 0

/-- A new store must wait: all 64 entries are in use, and the oldest is held. -/
def State.sbStuck (s : State) (f pa : Nat) : Bool :=
  !((s.fr f).sbuf.any (fun e => e.line == pa / 128)) && decide ((s.fr f).sbuf.length ≥ 64) && ((s.fr f).sbuf.take 1).any s.entryHeld

/-- Put bytes of one line in the buffer: merged with the line's entry, or a new entry, the oldest written out first when all
64 are in use. -/
def State.sbPut (s : State) (f k pa : Nat) (bytes : List Byte) : State :=
  let line := pa / 128
  let put := fun (m : Sp Byte) => (List.range bytes.length).foldl (fun m i => spIns m (pa % 128 + i) (bytes.getD i 0#8)) m
  let s := if !((s.fr f).sbuf.any (fun e => e.line == line)) && (s.fr f).sbuf.length ≥ 64 then s.sbWrite f else s
  let l := (s.fr f).sbuf
  match findIdxFrom (fun e : SbEntry => e.line == line) l 0 with
  | some i => s.modFr f (fun q => { q with sbuf := modAt (fun e => { e with bytes := put e.bytes }) l i })
  | none =>
    let n := sbFree l
    match s.injMask 0 (sbLoc f n) with
    | some m => ((s.modFr f (fun q => { q with sbuf := l ++ [⟨line, put [], k, m % 2 ^ 39, n⟩] })).noteInj 6 (sbKey f n)).injDone
    | none => s.modFr f (fun q => { q with sbuf := l ++ [⟨line, put [], k, 0, n⟩] })

/-- The line is updated in the data cache where it is present. -/
def State.dcUpdate (s : State) (f pa : Nat) (bytes : List Byte) : State :=
  s.modFr f (fun q => { q with dcache := q.dcache.map (fun d =>
    if d.line = pa / 128 then { d with data := d.data.take (pa % 128) ++ bytes ++ d.data.drop (pa % 128 + bytes.length) } else d) })
def State.dcDrop (s : State) (f line : Nat) : State :=
  s.modFr f (fun q => { q with dcache := q.dcache.filter (fun d => d.line != line) })

/-- Bytes as a load sees them: the youngest value, in the store buffer or beneath it (R109). -/
def State.forwarded (s : State) (f pa : Nat) (bytes : List Byte) : List Byte :=
  (List.range bytes.length).map (fun i =>
    (s.fr f).sbuf.foldl (fun b e => if e.line = (pa + i) / 128 then spGet (fun _ => b) e.bytes ((pa + i) % 128) else b)
      (bytes.getD i 0#8))

/-- A load meets the entry of its line: an uncorrectable one is discarded with its fault (R137). -/
def State.sbCheck (s : State) (f line : Nat) : State :=
  match (s.fr f).sbuf.find? (fun e => e.line == line && secdedBad e.bad) with
  | some e => (s.modFr f (fun q => { q with sbuf := q.sbuf.filter (fun x => x.slot != e.slot) })).sbFault f e
  | none => s

/-! ## Loads and stores of a thread -/

/-- Fill of a data cache line (R108): 8 ways, 256 sets, the victim left open (assumption 22). -/
def State.dcFill (s : State) (f pa : Nat) (data : List Byte) : State :=
  let line := pa / 128
  let inSet := fun d : DLine => d.line % 256 == line % 256
  let (s, l) :=
    if ((s.fr f).dcache.filter inSet).length < 8 then (s, (s.fr f).dcache)
    else
      let (w, s) := s.fresh
      let victim := ((s.fr f).dcache.filter inSet).getD (w.toNat % 8) ⟨0, []⟩
      (s, (s.fr f).dcache.filter (fun d => d.line != victim.line))
  s.modFr f (fun q => { q with dcache := ⟨line, data⟩ :: l })

/-- Loads of the leaf's page in this window go through the data cache (R108, Table 04-6). -/
def cacheable (pa pte : Nat) : Bool :=
  !pteNC pte && (match physClass pa with
    | .dram => true
    | .thallus _ => true
    | _ => false)

/-- What a thread's load of `size` bytes finds: through the data cache where the leaf and the window allow, a miss filling the whole line,
with the stores still in the buffer merged over it (R99, R108, R109). -/
def State.loadBytes (s : State) (f pa pte size : Nat) : State × Except MErr (List Byte) :=
  let s := s.sbCheck f (pa / 128)
  if cacheable pa pte then
    match (s.fr f).dcache.find? (fun d => d.line == pa / 128) with
    | some d => (s, .ok (s.forwarded f pa (slice d.data (pa % 128) size)))
    | none =>
      match (s.bundleUse f pa false).read (pa / 128 * 128) 128 with
      | (s, .ok l) =>
        let l := s.forwarded f (pa / 128 * 128) l
        (s.dcFill f pa l, .ok (slice l (pa % 128) size))
      | (s, .error e) => (s, .error e)
  else
    match (s.bundleUse f pa false).read pa size with
    | (s, .ok l) => (s, .ok (s.forwarded f pa l))
    | (s, .error e) => (s, .error e)

/-- Conversion of a load into FP32 (R60): 1 bfloat16, 2 FP16, 3 E4M3, 4 E5M2. -/
def convFmt (c : Nat) : Option Nat :=
  match c with
  | 1 => some 1 | 2 => some 2 | 3 => some 3 | 4 => some 4 | _ => none

def sizeOk (n : Nat) : Bool := n == 1 || n == 2 || n == 4 || n == 8 || n == 16

/-- The register values a load leaves: 4-byte words, a converted value, or a narrow value whose upper bits the spec leaves to
the encoding (assumption 23). -/
def State.loadRegs (s : State) (bytes : List Byte) (conv : Nat) : State × List Nat :=
  match convFmt conv with
  | some fmt => (s, [(toFp32From fmt (leNat bytes)).toNat])
  | none =>
    if bytes.length < 4 then
      let (w, s) := s.fresh
      (s, [leNat bytes + (w.toNat % 2 ^ 32) / 2 ^ (8 * bytes.length) * 2 ^ (8 * bytes.length)])
    else (s, (List.range (bytes.length / 4)).map (fun i => leNat (slice bytes (4 * i) 4)))

/-- A load is held at the memory it reads; one that the data cache serves is not. -/
def State.loadHeld (s : State) (f pa pte size : Nat) : Bool :=
  if cacheable pa pte then !((s.fr f).dcache.any (fun d => d.line == pa / 128)) && s.rdHeld (pa / 128 * 128) 128
  else s.rdHeld pa size

/-- A load by a thread of a kernel (R109, R110, R145); one that is held stays at its instruction. -/
def State.load (s : State) (f g k : Nat) (q : Kernel) (t va size rd conv : Nat) : State :=
  if va % size ≠ 0 then s.trapHere f g t 0x0282
  else
    match s.xlate (some f) q.launch.asid q.launch.tenant va .r with
    | (s, .error e) => (s.captureXlate f 0 q.launch.asid va e).xTrap f g t e
    | (s, .ok (pa, pte)) =>
      if s.loadHeld f pa pte size then s.noteFills (pa / 128 * 128) 128
      else
        match s.loadBytes f pa pte size with
        | (s, .error e) => s.accFault (.kernel f k) e
        | (s, .ok l) =>
          let (s, ws) := s.loadRegs l conv
          (s.putRegs f g t rd ws).advance f g t

/-- THREAD_LOAD (R145): each executing thread loads from its own address `vas`; `reads`: the registers its address comes from. -/
def execThreadLoad (f g mask : Nat) (reads vas : List Nat) (size rd conv : Nat) (s : State) : Out :=
  .next (if sizeOk size then
      s.issue f g (fun s k q ts => s.eachThread f g mask reads ts (fun s t => s.load f g k q t (vas.getD t 0) size rd conv))
    else s)

/-- Bytes of a store's value: the low bytes of rs, or rs and the registers after it for 8 and 16 bytes (assumption 23). -/
def State.storeBytes (s : State) (f g t rs size : Nat) : List Byte :=
  ((List.range 4).flatMap (fun i => leBytes 4 (s.greg f g t ((rs + i) % 128)).toNat)).take size
/-- Registers a value of `size` bytes stands in. -/
def valueRegs (rs size : Nat) : List Nat := (List.range ((size + 3) / 4)).map (fun i => (rs + i) % 128)

/-- A misaligned store: the alias-access fault where its address lies in an alias window, else the trap of R145. -/
def State.storeMisaligned (s : State) (f g k : Nat) (q : Kernel) (t va : Nat) : State :=
  match s.xlate (some f) q.launch.asid q.launch.tenant va .w with
  | (s1, .ok (pa, _)) =>
    (match physClass pa with
    | .lstore h _ (_ + 1) => s1.accFault (.kernel f k) (merr 0x0208 (locFrond h 0x20 0xFF 0xFFFF))
    | _ => s.trapHere f g t 0x0282)
  | _ => s.trapHere f g t 0x0282

/-- A store by a thread: to an alias window it is an alias store, performed at the local store (R105); elsewhere it enters
the store buffer and updates a line present in the data cache (R109). `alias_`: the thread means an alias store, which the
host window refuses (R310). -/
def State.store (s : State) (f g k : Nat) (q : Kernel) (t va : Nat) (bytes : List Byte) (alias_ : Bool) : State :=
  if va % bytes.length ≠ 0 then s.storeMisaligned f g k q t va
  else
    match s.xlate (some f) q.launch.asid q.launch.tenant va .w with
    | (s, .error e) => (s.captureXlate f 0 q.launch.asid va e).xTrap f g t e
    | (s, .ok (pa, _)) =>
      if s.sbStuck f pa then s
      else
        match physClass pa with
        | .lstore _ _ (_ + 1) =>
          if s.sbHeld f || s.accHeld pa then s
          else (match (s.sbDrain f).write pa bytes with
          | (s, none) => s.advance f g t
          | (s, some e) => (s.accFault (.kernel f k) e).advance f g t)
        | .host _ =>
          if alias_ then s.accFault (.kernel f k) (merr 0x0707 (locHub 0x10 0x02 0xFF 0xFFFF))
          else (s.sbPut f k pa bytes).advance f g t
        | _ => ((s.sbPut f k pa bytes).dcUpdate f pa bytes).advance f g t

/-- A store instruction of a group: each executing thread stores the registers from rs on at its own address. -/
def State.storeEach (s : State) (f g mask : Nat) (reads vas : List Nat) (size rs : Nat) (alias_ : Bool) : State :=
  if sizeOk size then
    s.issue f g (fun s k q ts => s.eachThread f g mask (reads ++ valueRegs rs size) ts
      (fun s t => s.store f g k q t (vas.getD t 0) (s.storeBytes f g t rs size) alias_))
  else s

/-- THREAD_STORE (R109). -/
def execThreadStore (f g mask : Nat) (reads vas : List Nat) (size rs : Nat) (s : State) : Out :=
  .next (s.storeEach f g mask reads vas size rs false)

/-- STORE_BUFFER_WRITE (R109). -/
def execStoreBufferWrite (f : Nat) (s : State) : Out :=
  .next (match (s.fr f).sbuf with
    | [] => s
    | e :: _ => if s.entryHeld e then (sbRuns e.bytes).foldl (fun s r => s.noteFills (e.line * 128 + r.1) r.2.length) s else s.sbWrite f)

/-- ALIAS_STORE (R105). -/
def execAliasStore (f g mask : Nat) (reads vas : List Nat) (size rs : Nat) (s : State) : Out :=
  .next (s.storeEach f g mask reads vas size rs true)

/-- An atomic of a thread, at the memory that holds the word; the line leaves the data cache (R146, Table 04-3). -/
def State.atomic (s : State) (f g k : Nat) (q : Kernel) (t op va size v cmp rd : Nat) : State :=
  if va % size ≠ 0 then s.trapHere f g t 0x0282
  else
    match s.xlate (some f) q.launch.asid q.launch.tenant va .w with
    | (s, .error e) => (s.captureXlate f 0 q.launch.asid va e).xTrap f g t e
    | (s, .ok (pa, _)) =>
      if s.redHeld pa size || s.sbHeld f then s.noteFills pa size
      else
        match physClass pa with
        | .host _ => s.accFault (.kernel f k) (merr 0x0707 (locHub 0x10 0x02 0xFF 0xFFFF))
        | _ =>
          match ((s.sbDrain f).bundleUse f pa true).atomicAt op size pa v cmp with
          | (s, .error e) => s.accFault (.kernel f k) e
          | (s, .ok old) =>
            ((s.dcDrop f (pa / 128)).putRegs f g t rd ((List.range (size / 4)).map (fun i => old / 2 ^ (32 * i) % 2 ^ 32))).advance f g t

/-- An operation and size of R146. -/
def atomicOk (op size : Nat) : Bool := (size = 4 || (size = 8 && op ≠ 10)) && op ≤ 10

/-- ATOMIC (R146): the executing threads in ascending index; operand and comparand stand in the registers from rv and rc on. -/
def execAtomic (f g mask op : Nat) (reads vas : List Nat) (size rv rc rd : Nat) (s : State) : Out :=
  .next (if atomicOk op size then
      s.issue f g (fun s k q ts => s.eachThread f g mask (reads ++ valueRegs rv size ++ (if op = 9 then valueRegs rc size else [])) ts
        (fun s t => s.atomic f g k q t op (vas.getD t 0) size (leNat (s.storeBytes f g t rv size)) (leNat (s.storeBytes f g t rc size)) rd))
    else s)

/-! ## Fences (Table 04-3) -/

/-- FENCE.L: the store buffer is already one order of stores for the Frond's threads (R114); the fence is counted. -/
def execFenceL (f g mask : Nat) (s : State) : Out :=
  .next (s.issue f g (fun s _ _ ts => s.eachThread f g mask [] ts
    (fun s t => (s.modThr f g t (fun q => { q with fences := q.fences + 1 })).advance f g t)))

/-- FENCE.M: the threads go on when every store before it has been performed at memory. -/
def execFenceM (f g mask : Nat) (s : State) : Out :=
  .next (if s.sbHeld f then s
    else s.issue f g (fun s _ _ ts => s.eachThread f g mask [] ts (fun s t => (s.sbDrain f).advance f g t)))

def State.dcClear (s : State) (f : Nat) : State := s.modFr f (fun q => { q with dcache := [] })

/-- FENCE.MI: FENCE.M, then the whole data cache is invalidated. -/
def execFenceMi (f g mask : Nat) (s : State) : Out :=
  .next (if s.sbHeld f then s
    else s.issue f g (fun s _ _ ts => s.eachThread f g mask [] ts (fun s t => ((s.sbDrain f).dcClear f).advance f g t)))

/-- CINV of a thread's address: its line is invalidated. Its translation needs a readable leaf (assumption 119). -/
def State.cinv1 (s : State) (f g : Nat) (q : Kernel) (t va : Nat) : State :=
  match s.xlate (some f) q.launch.asid q.launch.tenant va .r with
  | (s, .error e) => (s.captureXlate f 0 q.launch.asid va e).xTrap f g t e
  | (s, .ok (pa, _)) => (s.dcDrop f (pa / 128)).advance f g t

/-- CINV: the line that holds the address is invalidated. -/
def execCinv (f g mask : Nat) (reads vas : List Nat) (s : State) : Out :=
  .next (s.issue f g (fun s _ q ts => s.eachThread f g mask reads ts (fun s t => s.cinv1 f g q t (vas.getD t 0))))

/-- TRANSLATION_WALK (R118): the walk for an address of a kernel, with the agent as AGENT codes it (Table 04-10). -/
def execTranslationWalk (f g t agent va : Nat) (need : Need) (s : State) : Out :=
  .next (s.attempt fun s => 
    match s.grpKernel f g with
    | none => s
    | some (k, q) =>
      match s.xlate (some f) q.launch.asid q.launch.tenant va need with
      | (s, .ok _) => s
      | (s, .error e) =>
        let s := s.captureXlate f agent q.launch.asid va e
        if agent = 3 then s.trapI f g t e.reason 0 (fetchLoc f t) e.inj
        else if agent = 0 then s.xTrap f g t e else s.faultKernelI f k e.reason (atuLoc f) e.inj)

/-! ## DMA channels (R127–R130, R341) -/

def DmaCmd.op (c : DmaCmd) : Nat := fld c.w0 3 0
/-- TAG of a command (Table 04-7). -/
def DmaCmd.tag (c : DmaCmd) : Nat := fld c.w0 63 48
def DmaCmd.len (c : DmaCmd) : Nat := fld c.w3 31 0
def DmaCmd.dst (c : DmaCmd) : Nat := if c.dstHost then c.w2.toNat else fld c.w2 47 0
def DmaCmd.srcA (c : DmaCmd) : Nat := if c.srcHost then c.w1.toNat else fld c.w1 47 0
/-- The command fault of R129. -/
def DmaCmd.bad (c : DmaCmd) : Bool :=
  (c.op != 1 && c.op != 2) || fld c.w0 33 4 != 0 || (c.op == 1 && !c.srcHost && fld c.w1 63 48 != 0) ||
    (!c.dstHost && fld c.w2 63 48 != 0) || fld c.w3 63 32 != 0 || c.len == 0

def dmaLoc (f c : Nat) : Loc := locFrond f (0x30 + c) 0xFF 0xFFFF
def State.modCmd (s : State) (f c : Nat) (g : DmaCmd → DmaCmd) : State :=
  s.setDma f c { s.dma f c with queue := modAt g (s.dma f c).queue 0 }
/-- The head command leaves its channel. -/
def State.popDma (s : State) (f c : Nat) : State := s.setDma f c { s.dma f c with queue := (s.dma f c).queue.drop 1 }
/-- The head command completes: its TAG is returned. -/
def State.doneDma (s : State) (f c : Nat) : State :=
  s.setDma f c ⟨(s.dma f c).queue.drop 1, (s.dma f c).queue.head?.map DmaCmd.tag⟩
/-- TAG of the head command. -/
def State.dmaTag (s : State) (f c : Nat) : Nat := ((s.dma f c).queue.head?.map DmaCmd.tag).getD 0

/-- An uncorrectable word of a local store counts in its bank (R106), by its reason and place. -/
def State.bankNote (s : State) (reason : Nat) (loc : Loc) (inj : Bool) : State :=
  if reason = 0x0206 && !inj then s.bankCheck (loc.idx * 4 + loc.region) loc.mac else s

/-- The head command fails: its kernel is fenced and its commands leave the channel, or its descriptor completes with
error. The record carries the command's TAG. -/
def State.dmaFault (s : State) (f c reason : Nat) (loc : Loc) (src : Agent) (inj : Bool) : State :=
  let tag := s.dmaTag f c
  let redFault := ((s.dma f c).queue.head?.map (fun x => x.red.isSome)).getD false && decide (0x0201 ≤ reason) && decide (reason ≤ 0x0204)
  (match src with
  | .kernel _ k =>
    ((s.setDma f c { s.dma f c with queue := (s.dma f c).queue.filter (fun x => x.src != src) }).faultKernelI f k reason loc inj).noteTag s tag
  | .ring r i =>
    -- a posted reduction's translation fault is a completion status and no record (R251)
    if redFault then (s.popDma f c).complete r i 3 reason 0
    else (((s.popDma f c).faultAgentI src reason loc inj).noteTag s tag).complete r i 0x80 reason 0
  | _ => ((s.popDma f c).faultAgentI src reason loc inj).noteTag s tag).bankNote reason loc inj

/-- Read from a source address, device or host. -/
def State.dmaRead (s : State) (f : Nat) (c : DmaCmd) (a len : Nat) : State × Except VErr (List Byte) :=
  if c.srcHost then
    match s.hostRead a len with
    | .ok l => (s.atsFill a len, .ok l)
    | .error e => (s.countHostFail e, .error (.ofM (merr e (hostLoc e))))
  else s.vread (some f) 2 c.asid c.tenant a len

/-- Write to a destination address. -/
def State.dmaWrite (s : State) (f : Nat) (c : DmaCmd) (a : Nat) (bytes : List Byte) : State × Option VErr :=
  if c.dstHost then
    match s.hostWrite a bytes with
    | (s, some e) => (s, some (.ofM (merr e (hostLoc e))))
    | (s, none) => (s, none)
  else
    match c.red with
    | some (op, ty) =>
      (pieces a bytes.length).foldl (fun (p : State × Option VErr) x =>
        match p.2 with
        | some e => (p.1, some e)
        | none =>
          match p.1.xlate (some f) c.asid c.tenant x.1 .w with
          | (s, .error e) => (s.captureXlate f 2 c.asid x.1 e, some (.ofX (xlateLoc (some f)) e))
          | (s, .ok (pa, _)) =>
            if s.redHeld pa x.2 then (s.noteFills pa x.2, some .wait) else
            match s.reduceAt op ty pa (slice bytes (x.1 - a) x.2) with
            | (s, some e) => (s, some (.ofM e))
            | (s, none) => (s, none)) (s, none)
    | none => s.vwrite (some f) 2 c.asid c.tenant a bytes

/-- Source and destination ranges of a COPY overlap: the result is not defined (R129). -/
def DmaCmd.overlaps (c : DmaCmd) : Bool :=
  c.op == 1 && c.srcHost == c.dstHost && decide (c.srcA < c.dst + c.len) && decide (c.dst < c.srcA + c.len)

/-- `n` free bytes (assumption 3). -/
def State.freeBytes : Nat → State → State × List Byte
  | 0, s => (s, [])
  | n + 1, s =>
    let (w, s) := s.fresh
    let (s, l) := s.freeBytes n
    (s, BitVec.ofNat 8 w.toNat :: l)

/-- The read units of a source range (R130): aligned 128-byte blocks clipped to it. -/
def readUnits (a len : Nat) : List (Nat × Nat) :=
  if len = 0 then []
  else (List.range ((a + len - 1) / 128 - a / 128 + 1)).map (fun j =>
    let lo := max a ((a / 128 + j) * 128)
    (lo, min (a + len) ((a / 128 + j + 1) * 128) - lo))

/-- One read unit of a COPY: the state, and how it failed; `true` for an uncorrectable source. -/
def State.copyUnit (s : State) (f : Nat) (c : DmaCmd) (u : Nat × Nat) : State × Option (VErr × Bool) :=
  match s.dmaRead f c u.1 u.2 with
  | (s, .error e) => (s, some (e, e.unc))
  | (s, .ok l) =>
    let (s, l) := if c.overlaps then s.freeBytes l.length else (s, l)
    match s.dmaWrite f c (c.dst + (u.1 - c.srcA)) l with
    | (s, some e) => (s, some (e, false))
    | (s, none) => (s, none)

/-- The command is held: it reaches host memory by a host address while the host link is down (R312). -/
def State.dmaHeld (s : State) (x : DmaCmd) : Bool := !s.hostUp && (x.srcHost || x.dstHost)

/-- The head command of a channel where it waits to start and has an operation (or an undefined one). -/
def State.dmaHead (s : State) (f c op : Nat) : Option DmaCmd :=
  if s.frondUp f && s.inRun f && c < 16 && s.rget (Fd.FRD_DMA_STAT_HALTED f c) = 0 && !s.endpointSwitching 6 f then
    match (s.dma f c).queue with
    | x :: _ =>
      if x.phase = 0 && (x.op = op || (x.op ≠ 1 && x.op ≠ 2)) &&
        (match x.src with
        | .kernel g k => s.kRunning g k
        | _ => true) && !s.dmaHeld x then some x else none
    | [] => none
  else none

/-- The channel halts at an uncorrectable source read `e` (R130). -/
def State.dmaHalt (s : State) (f c : Nat) (x : DmaCmd) (e : VErr) : State :=
  let s := (s.rset (Fd.FRD_DMA_STAT_HALTED f c) 1).modCmd f c (fun q => { q with phase := 2 })
  (match x.src with
  | .kernel _ k => (s.faultKernelI f k 0x020A (dmaLoc f c) e.inj).noteTag s x.tag
  | .ring r i => ((s.faultAgentI x.src 0x020A (dmaLoc f c) e.inj).noteTag s x.tag).complete r i 0x80 0x020A 0
  | _ => s).bankNote e.reason e.loc e.inj

/-- A COPY, read unit by read unit; while one of its accesses is held it has not begun (R134, R244, R259). -/
def State.dmaCopy (s : State) (f c : Nat) (x : DmaCmd) : State :=
  match (readUnits x.srcA x.len).foldl (fun (p : State × Option (VErr × Bool)) u =>
      match p.2 with
      | some e => (p.1, some e)
      | none => p.1.copyUnit f x u) (s, none) with
  | (t, none) => t.modCmd f c (fun q => { q with phase := 1 })
  | (t, some (e, unc)) =>
    if e.held then s.keepFills t
    else if unc then t.dmaHalt f c x e else t.dmaFault f c e.reason e.loc x.src e.inj

/-- COPY (R128). -/
def execCopy (f c : Nat) (s : State) : Out :=
  .next (s.attempt fun s => match s.dmaHead f c 1 with
    | none => s
    | some x => if x.bad then s.dmaFault f c 0x020B (dmaLoc f c) x.src false else s.dmaCopy f c x)

/-- FILL (R128): the pattern byte (a − DST) mod 8 at address a. -/
def execFill (f c : Nat) (s : State) : Out :=
  .next (s.attempt fun s => match s.dmaHead f c 2 with
    | none => s
    | some x =>
      if x.bad then s.dmaFault f c 0x020B (dmaLoc f c) x.src false
      else
        match (readUnits x.dst x.len).foldl (fun (p : State × Option VErr) u =>
            match p.2 with
            | some e => (p.1, some e)
            | none => p.1.dmaWrite f x u.1 ((List.range u.2).map (fun j => (leBytes 8 x.w1.toNat).getD ((u.1 - x.dst + j) % 8) 0#8)))
            (s, none) with
        | (t, none) => t.modCmd f c (fun q => { q with phase := 1 })
        | (t, some e) => if e.held then s.keepFills t else t.dmaFault f c e.reason e.loc x.src e.inj)

/-- DMA_COMPLETE (R129): every byte is performed; the sorus is signalled, and the command leaves the channel. A channel whose sequencer is
being switched holds its place (Table 20-4). -/
def execDmaComplete (f c : Nat) (s : State) : Out :=
  .next (match (s.dma f c).queue with
    | [] => s
    | x :: _ =>
      if x.phase ≠ 1 || s.endpointSwitching 6 f then s
      else
        let (s, err) := if bit x.w0 34 then s.sorNow f (fld x.w0 47 35) 1 x.tenant else (s, none)
        match err, x.src with
        | some e, _ => s.dmaFault f c e (dmaLoc f c) x.src false
        | none, .ring r i => (s.doneDma f c).complete r i 0 0 0
        | none, _ => s.doneDma f c)

/-! ## Sleep states (R131–R135) -/

/-- The Frond is idle (R132). -/
def State.idle (s : State) (f : Nat) : Bool :=
  (List.range 8).all (fun k => (s.krn f k).isNone) && (s.fr f).lq.isEmpty && (List.range 8).all (fun a => (s.arr f a).queue.isEmpty) &&
    (List.range 16).all (fun c => (s.dma f c).queue.isEmpty) && (s.fr f).sbuf.isEmpty && (s.fr f).heldAcc.isEmpty &&
    s.rget (Fd.FRD_SLEEP_STAT_WAKE_PENDING f) == 0 && !s.moving f

/-- Night clocks of idleness before a state is entered; a field of 0 acts as 1 (R132, Table 04-9). -/
def State.idleDue (s : State) (f depth : Nat) : Nat :=
  match depth with
  | 1 => 25 * max 1 (s.rget (Fd.FRD_SLEEP_CTL_DUSK_US f))
  | 2 => 25000 * max 1 (s.rget (Fd.FRD_SLEEP_CTL_NIGHT_MS f))
  | _ => 25000000 * max 1 (s.rget (Fd.FRD_SLEEP_CTL_DARK_S f))

/-- A Frond that is not idle keeps its count of idleness at 0 (R132). -/
def State.idleMark (s : State) (f : Nat) : State := if s.idle f then s else s.modFr f (fun q => { q with idleFrom := s.clock })

/-- An idle Frond begins to enter a deeper state when its time of idleness has passed, never below FLOOR (R132). -/
def State.sleepEnter (s : State) (f depth : Nat) : State :=
  if s.frondUp f && s.idle f && s.sleep f + 1 = depth && s.rget (Fd.FRD_SLEEP_CTL_FLOOR f) ≥ depth &&
      s.clock - (s.fr f).idleFrom ≥ s.idleDue f depth then
    (({ s with flt.runWhole := s.flt.runWhole.filter (· != f) } : State).rset (Fd.FRD_SLEEP_STAT_STATE f) depth).rset
      (Fd.FRD_SLEEP_STAT_ENTERING f) 1
  else s

/-- DUSK_ENTRY (R132). -/
def execDuskEntry (f : Nat) (s : State) : Out := .next (s.sleepEnter f 1)
/-- NIGHT_ENTRY (R132). -/
def execNightEntry (f : Nat) (s : State) : Out := .next (s.sleepEnter f 2)
/-- DARK_ENTRY (R132). -/
def execDarkEntry (f : Nat) (s : State) : Out := .next (s.sleepEnter f 3)

/-- Logic and arrays lose their contents in Night and Dark (Table 04-8, R92). -/
def State.logicLost (s : State) (f : Nat) : State :=
  let s := (List.range 8).foldl (fun s a => s.modArr f a (fun q =>
    { Arr.init with seqUp := q.seqUp, test := q.test, accCorr := q.accCorr, doneTag := q.doneTag })) s
  s.modFr f (fun q => { q with dcache := [], icache := [], icacheBad := [], icacheTenant := none, tlb := [], walk := [], asp := [] })

/-- The DMA channels of a Frond lose their commands; those of ring descriptors end with the partition-unavailable reason (R130, R285). -/
def State.dmaOut (s : State) (f : Nat) : State :=
  (List.range 16).foldl (fun (s : State) c =>
    let l := (s.dma f c).queue
    let s := (s.setDma f c { s.dma f c with queue := [] }).rset (Fd.FRD_DMA_STAT_HALTED f c) 0
    l.foldl (fun (s : State) x => match x.src with
      | .ring r i => s.complete r i 0x80 0x0601 0
      | _ => s) s) s

/-- The local store zeroed with valid check bits (R107). -/
def State.lsZero (s : State) (f : Nat) : State :=
  { s with mem.ls := s.mem.ls.filter (fun c => c.1 / 2 ^ 24 != f)
           mem.lsBad := s.mem.lsBad.filter (fun c => c.1 / 2 ^ 22 != f)
           mem.injected := s.mem.injected.filter (fun c => !(c.1 == 0 && c.2 / 2 ^ 22 == f)) }

/-- A wake starts, at the normal or the slow staging rate; slow staging is counted (R133, R504, R505). STATE shows its target
(assumption 29). From Dark the local store is zeroed (R107). -/
def State.wakeStart (s : State) (f : Nat) (slow : Bool) : State :=
  let st := s.sleep f
  let s := if slow && decide (2 ≤ st) then s.radd Fd.PWR_CAP_STAT_SLOW 1 else s
  let s := if st = 3 then s.lsZero f else s
  ((s.rset (Fd.FRD_SLEEP_STAT_WAKE_PENDING f) 0).rset (Fd.FRD_SLEEP_STAT_STATE f) 0).modFr f
    (fun q => { q with waking := true, wakeSlow := slow, wakeFrom := st, wakeAt := s.clock })

/-- Microseconds of a wake at its staging rate, the reload after Dark at its most (Table 04-8). -/
def wakeUs (st : Nat) (slow : Bool) : Nat :=
  match st with
  | 1 => 2
  | 2 => if slow then 250 else 40
  | _ => if slow then 2500 + 300 else 400 + 300

/-- A wake request: latched during an entry (R133). -/
def State.wakeReq (s : State) (f : Nat) (slow : Bool) : State :=
  if s.entering f then s.rset (Fd.FRD_SLEEP_STAT_WAKE_PENDING f) 1
  else if s.sleep f = 0 || (s.fr f).waking then s
  else s.wakeStart f slow

/-- A local store access by another agent, in the state the Frond is in (R134). -/
def State.lsAccess (s : State) (f : Nat) (a : HeldAcc) : State :=
  let pa := 0xC0000000000 + f * 0x4000000 + a.addr % 0x1000000
  if a.write then
    match s.write pa a.bytes with
    | (s, none) => s
    | (s, some e) => s.accFault a.agent e
  else
    match s.read pa a.bytes.length with
    | (s, .ok _) => s
    | (s, .error e) => s.accFault a.agent e

/-- Serve the accesses held through an entry or a wake (R134). -/
def State.serveHeld (s : State) (f : Nat) : State :=
  (s.fr f).heldAcc.foldl (fun s a => s.lsAccess f a) (s.modFr f (fun q => { q with heldAcc := [] }))

/-- A drain that waited for a stable state begins (R292). -/
def State.drainDue (s : State) (f : Nat) : State :=
  if (s.fr f).drainPend then (s.modFr f (fun q => { q with drainPend := false })).beginDrain f else s

/-- SLEEP_ENTRY_COMPLETE (R133): the state is stable, held accesses are handled in it, and a latched wake starts. -/
def execSleepEntryComplete (f : Nat) (s : State) : Out :=
  .next (
    if s.entering f then
      let pend := s.rget (Fd.FRD_SLEEP_STAT_WAKE_PENDING f) == 1
      let s := s.rset (Fd.FRD_SLEEP_STAT_ENTERING f) 0
      let s := if s.sleep f ≥ 2 then s.logicLost f else s
      let s := s.modFr f (fun q => { q with idleFrom := s.clock })
      let s := s.serveHeld f
      let s := s.drainDue f
      if pend then s.wakeStart f false else s
    else s)

/-- WAKE_REQUEST (R133). -/
def execWakeRequest (f : Nat) (slow : Bool) (s : State) : Out :=
  .next (if f < s.fronds then s.wakeReq f slow else s)

/-- Sequencers of a Frond reloaded during an update of their class start the new image and count as switched (R621). -/
def State.reloaded (s : State) (f : Nat) : State :=
  match s.fwu.todo with
  | 7 :: _ => { s with fwu.switched := (List.range 8).foldl (fun l a => insNat l (8 * f + a)) s.fwu.switched }
  | 6 :: _ => { s with fwu.switched := insNat s.fwu.switched f }
  | _ => s

/-- WAKE_COMPLETE (R131): Run is reached, after Dark with the sequencers reloaded; launch records held by the stub go on to the
queue, and held accesses are served. -/
def execWakeComplete (f : Nat) (s : State) : Out :=
  .next (
    if (s.fr f).waking then
      let dark := (s.fr f).wakeFrom == 3
      let s := s.modFr f (fun q => { q with waking := false, idleFrom := s.clock })
      let s := s.rset (Fd.FRD_SLEEP_STAT_STATE f) 0
      let s := if dark then s.reloaded f else s
      let s := s.modFr f (fun q => { q with lq := q.lq ++ q.stub, stub := [] })
      (s.serveHeld f).drainDue f
    else s)

/-- WAKE_TIMEOUT (R135): a wake that has taken more than four times its wake time fences the Frond; a drain that waited for it begins, and
the records and accesses held are answered. -/
def execWakeTimeout (f : Nat) (s : State) : Out :=
  .next (
    let q := s.fr f
    if q.waking && decide (s.clock - q.wakeAt > 100 * wakeUs q.wakeFrom q.wakeSlow) then
      let s := { s with boot.wakeFenced := insNat s.boot.wakeFenced f }
      let s := (s.modFr f (fun q => { q with waking := false, drainPend := false })).fenceFrond f 0x020D (locFrondWhole f) false
      if q.drainPend then s.beginDrain f else s
    else s)

/-- SLEEPING_LOCAL_STORE_ACCESS (R134): served, refused, or held until the entry or wake is stable. -/
def execSleepingLocalStoreAccess (f : Nat) (agent : Agent) (addr : Nat) (wr : Bool) (bytes : List Byte) (s : State) : Out :=
  .next (
    let a : HeldAcc := ⟨agent, addr, wr, bytes⟩
    if s.frondUp f && s.moving f then s.modFr f (fun q => { q with heldAcc := q.heldAcc ++ [a] })
    else s.lsAccess f a)

/-- FRD_SLEEP_CTL_WRITE (R132): a FLOOR shallower than the state raises a wake request. -/
def execFrdSleepCtlWrite (f : Nat) (v : W64) (s : State) : Out :=
  .next (
    if f < s.fronds then
      let s := (((s.rset (Fd.FRD_SLEEP_CTL_FLOOR f) (fld v 49 48)).rset (Fd.FRD_SLEEP_CTL_DARK_S f) (fld v 47 32)).rset
        (Fd.FRD_SLEEP_CTL_NIGHT_MS f) (fld v 31 16)).rset (Fd.FRD_SLEEP_CTL_DUSK_US f) (fld v 7 0)
      if fld v 49 48 < s.sleep f then s.wakeReq f false else s
    else s)

end Sys2Proof.Machine
end

