-- ==== Sys2Proof/Machine/Thallus.lean ====
section
/-!
DEFINITION. The Thallus dies (chapter 06): scratchpad accesses, wire tests and retirements, row repairs, patrol, temperature
bands and retention.
-/

namespace Sys2Proof.Machine

/-- The bank group exists in the variant. -/
def State.bgThere (s : State) (t die q b : Nat) : Bool := decide (t < s.towers) && decide (die < 2) && decide (q < 4) && decide (b < 32)

/-! ## Wires (R183, R184, R199–R203) -/

/-- CRC failures of one transfer on a link are counted over 1 ms, and two in succession are noted (R184). -/
def State.crcFail (s : State) (link n : Nat) : State :=
  { s with thl.crcFails := List.replicate n (link, s.clock) ++ s.thl.crcFails.filter (fun p => decide (s.clock < p.2 + 25000))
           thl.crcTwice := if n ≥ 2 then insNat s.thl.crcTwice link else s.thl.crcTwice }
/-- The transfers of an access of the Frond above a quadrant: each link of the path in turn fails its CRC as often as `crc` says, and is
replayed, which only delays the access (R180, R182). -/
def State.transfers (s : State) (f pa o : Nat) (wr : Bool) (crc : List Nat) : State :=
  if 4 * thlTower o + thlQuad o = f && (s.physErr pa).isNone then
    ((s.thlPath o wr).zip crc).foldl (fun s p => s.crcFail (linkKey (thlTower o) (thlQuad o) p.1.1 p.1.2) p.2) (s.bundleUse f pa wr)
  else s

/-- SCRATCHPAD_ACCESS (R186): an access at a window offset; a refused or failing one faults its agent (R193). Only an access of the Frond
above goes over the vertical links (R181); `crc`: CRC failures of its transfer on each link of its path. -/
def execScratchpadAccess (agent : Agent) (off : Nat) (wr : Bool) (bytes : List Byte) (crc : List Nat) (s : State) : Out :=
  .next (
    let o := off % 0x400000000
    let pa := 0x80000000000 + o
    let s := match agent with
      | .kernel f _ => s.transfers f pa o wr crc
      | _ => s
    if wr then
      match s.write pa bytes with
      | (s, none) => s
      | (s, some e) => s.accFault agent e
    else
      match s.read pa bytes.length with
      | (s, .ok _) => s
      | (s, .error e) => s.accFault agent e)

/-- Spares of a segment in use: the wires they replace (R183). -/
def State.wiresUsed (s : State) (t q kind b seg : Nat) : Nat := (spGet (fun _ => []) s.thl.wires (wireKey t q kind b seg)).length

/-- Bank groups become unavailable, with the column record (R202, R203); a lower one in cache mode does not (R204). -/
def State.columnGone (s : State) (t q b : Nat) (lowerOnly : Bool) : State :=
  let keys := if lowerOnly then [bgKey t 1 q b, bgKey t 1 q (b ^^^ 1)]
    else [bgKey t 0 q b, bgKey t 1 q b, bgKey t 0 q (b ^^^ 1), bgKey t 1 q (b ^^^ 1)]
  let keys := keys.filter (fun k => k / 128 % 2 == 0 || s.bgMode (t * 4 + q) (k % 32) == 0)
  let loc := if lowerOnly then locThl t 1 q b 0xFF 0xFFFF else locThl t 0 q b 0xFF 0xFFFF
  let s := { s with thl.unavail := keys.foldl insNat s.thl.unavail }
  ((s.raise ⟨0x030A, loc, 2, .engine loc, none, false, true, false, false⟩).addFence (.engine loc)).distBump

/-- The lower bank groups of a quadrant leave cache mode, their lines with them: an unavailable bank group is in neither mode (R227). -/
def State.neitherMode (s : State) (t q : Nat) : State :=
  let tq := t * 4 + q
  { s with msc.mode := (List.range 32).foldl (fun m b => spPut (fun _ => 0) m (modeKey tq b) 0) s.msc.mode
           msc.pend := (List.range 32).foldl (fun m b => spPut (fun _ => 0) m (modeKey tq b) 0) s.msc.pend
           msc.lines := s.msc.lines.filter (fun p => p.1 / (32768 * 16) / 8 != tq) }

/-- Nothing serves a scratchpad bank group of the column: it and its partner have lost their bundles, or for the lower die their TSV links
(R202, R203). -/
def State.columnDead (s : State) (t q b : Nat) : Bool :=
  let both (l : List Nat) : Bool := l.contains (colKey t q b) && l.contains (colKey t q (b ^^^ 1))
  both s.thl.bundleRet || both s.thl.tsvRet

/-- A link is retired: lateral service, exceptions, commit, record, in that order (R201, R203); two partners retired leave
nothing to serve them. -/
def State.retireLink (s : State) (t q kind b : Nat) : State :=
  let col := (t * 4 + q) * 32 + b
  let partner := (t * 4 + q) * 32 + (b ^^^ 1)
  let loc := wireLoc t q kind b 0xFF 0xFFFF
  if kind = 2 then
    if s.thl.tsvRet.contains col then s
    else
      let s := ({ s with thl.tsvRet := insNat s.thl.tsvRet col }.distBump).commit [⟨1, 0x40000000 + col, false, [1], 8⟩]
      let s := (s.raise ⟨0x0309, loc, 2, .engine loc, none, false, true, false, false⟩).addFence (.engine loc)
      if s.thl.tsvRet.contains partner then s.columnGone t q b true else s
  else
    if s.thl.bundleRet.contains col then s
    else
      let s := ({ s with thl.bundleRet := insNat s.thl.bundleRet col }.distBump).commit [⟨1, 0x50000000 + col, false, [1], 8⟩]
      let s := (s.raise ⟨0x0308, loc, 2, .engine loc, none, false, true, false, false⟩).addFence (.engine loc)
      if s.thl.bundleRet.contains partner then s.columnGone t q b false else s

/-- One failed wire: an unused spare of its segment replaces it (R183). -/
def State.replaceWire (s : State) (t q kind b : Nat) (w : Nat × Nat) : State :=
  let k := wireKey t q kind b w.1
  let used := s.wiresUsed t q kind b w.1
  if used < wireSpares kind then
    let map := spGet (fun _ => []) s.thl.wires k ++ [w.2]
    let s := { s with thl.wires := spPut (fun _ => []) s.thl.wires k map }
    let s := s.commit [⟨1, 0x20000000 + k, false, map.length :: map, 8 * (map.length + 1)⟩]
    let s := s.raise (recDegr (if kind = 2 then 0x0307 else 0x0306) (wireLoc t q kind b w.1 w.2))
    if used + 1 = wireSpares kind then s.zeroReserve (if kind = 2 then 3 else 2) k (wireLoc t q kind b w.1 0xFFFF) else s
  else s

/-- The result of a link's wire test: the failed wires found, as (segment, wire); a segment with more than its spares retires the
link (R183, R199, R203). -/
def State.wireTest (s : State) (t q kind b : Nat) (failed : List (Nat × Nat)) : State :=
  let beyond := (List.range 16).any (fun seg =>
    decide (s.wiresUsed t q kind b seg + (failed.filter (fun w => w.1 == seg)).length > wireSpares kind))
  if beyond then s.retireLink t q kind b
  else (failed.filter (fun w => decide (w.1 < 16))).foldl (fun (s : State) w => s.replaceWire t q kind b w) s

/-- The link is in service. -/
def State.linkServes (s : State) (t q kind b : Nat) : Bool :=
  !(if kind = 2 then s.thl.tsvRet else s.thl.bundleRet).contains (colKey t q b)
/-- A link's wires are to be tested: 16 CRC failures within 1 ms, or two of one transfer in succession (R184). -/
def State.wireTestDue (s : State) (link : Nat) : Bool :=
  s.thl.crcTwice.contains link ||
    decide ((s.thl.crcFails.filter (fun p => p.1 == link && decide (s.clock < p.2 + 25000))).length ≥ 16)

/-- BUNDLE_WIRE_TEST (R184): the test of a link in service whose CRC failures call for it; `failed`: the failed wires it finds. -/
def execBundleWireTest (t q kind b : Nat) (failed : List (Nat × Nat)) (s : State) : Out :=
  .next (
    let link := linkKey t q kind b
    if s.bgThere t 0 q b && kind < 3 && s.towerUp t && s.linkServes t q kind b && s.wireTestDue link then
      ({ s with thl.crcFails := s.thl.crcFails.filter (fun p => p.1 != link)
                thl.crcTwice := s.thl.crcTwice.filter (· != link) } : State).wireTest t q kind b failed
    else s)

/-! ## Rows and patrol (R197, R198, R205–R207) -/

def bgOff (t die q b : Nat) : Nat := ((t * 2 + die) * 4 + q) * 2 ^ 29 + b * 128
/-- Window offset of byte n of a bank group (Table 06-3). -/
def bgByte (t die q b n : Nat) : Nat := bgOff t die q b + (n / 128) * 4096 + n % 128
/-- The 512 window offsets of a row. -/
def rowBytesOf (t die q b m row : Nat) : List Nat :=
  (List.range 512).map (fun i => bgByte t die q b ((m * 4096 + row * 4 + i / 128) * 128 + i % 128))

def rowLoc (t die q b m row : Nat) : Loc := locThl t die q b m (0x8000 + row)

/-- The single errors of a cached byte's codeword are corrected in place; a window offset names it by its bank group's cells. -/
def State.cellClean (s : State) (o : Nat) : State :=
  let sl := thlTower o * 32 + thlQuad o * 8 + thlBg o / 4
  let set := thlLine o / 4
  let way := 4 * (thlBg o % 4) + thlLine o % 4
  let i := o % 128 / 32
  let j := o % 32
  let x := (s.way sl set way).sec i
  match thlDecode (spGet (fun _ => 0) x.bad j) with
  | some (e, true) => s.modWay sl set way (fun c => c.setSec i { x with bad := spDel x.bad j, data := modAt (· ^^^ BitVec.ofNat 8 e) x.data j })
  | _ => s
/-- A byte's codeword copied to a spare row: a single error corrected, an uncorrectable one unchanged (R197). -/
def State.byteClean (s : State) (o : Nat) : State :=
  match thlDecode (s.thlMask o) with
  | some (e, true) =>
    { s with mem.thl := memPut s.mem.thl o (memGet s.mem.thl o ^^^ BitVec.ofNat 8 e)
             mem.thlBad := spDel s.mem.thlBad o }.dropInj 1 o
  | _ => s

/-- ROW_REPAIR (R197, R198): a row with a hard error moves to a spare row, its single errors corrected on the way; with no
spare left the row stays, and one record says so. -/
def execRowRepair (t die q b m row : Nat) (s : State) : Out :=
  .next (
    let mk := bgKey t die q b * 32 + m
    let key := mk * 1024 + row
    if s.bgThere t die q b && m < 32 && row < 1024 && s.thl.rowDue.contains key then
      let used := spGet (fun _ => 0) s.thl.rowsUsed mk
      let s := { s with thl.rowDue := s.thl.rowDue.filter (· != key)
                        thl.rowCorr := s.thl.rowCorr.filter (fun p => p.1 != key) }
      if used < 16 then
        let cached := die == 1 && s.bgMode (t * 4 + q) b != 0
        let s := (rowBytesOf t die q b m row).foldl (fun s o => if cached then s.cellClean o else s.byteClean o) s
        let s := { s with thl.rowsUsed := spPut (fun _ => 0) s.thl.rowsUsed mk (used + 1)
                          thl.rowsRepaired := insNat s.thl.rowsRepaired key }
        let s := (s.raise (recDegr 0x0303 (rowLoc t die q b m row))).commit [⟨1, mk, false, (used + 1) :: (s.thl.rowsRepaired.filter (fun k => k / 1024 == mk)).map (· % 1024), 48⟩]
        if used + 1 = 16 then s.zeroReserve 0 mk (locThl t die q b m 0xFFFF) else s
      else if s.thl.rowSaid.contains key then s
      else { s with thl.rowSaid := insNat s.thl.rowSaid key }.raise (recNote 0x0304 (rowLoc t die q b m row))
    else s)

/-- Bit column of a stored bit (R217). -/
def bitColumn (o i : Nat) : Nat := (o / 4096 % 4) * 1664 + (o % 128) * 13 + i

/-- A bit column found correcting in eight or more rows of a macro (R198). -/
def State.columnSeen (s : State) (o i : Nat) : State :=
  let mk := bgKey (thlTower o) (thlDie o) (thlQuad o) (thlBg o) * 32 + thlMacro o
  let col := mk * 6656 + bitColumn o i
  let l := if s.thl.colCorr.contains (col, thlRow o) then s.thl.colCorr else (col, thlRow o) :: s.thl.colCorr
  let s := { s with thl.colCorr := l }
  if (l.filter (fun p => p.1 == col)).length ≥ 8 && !s.thl.colSaid.contains col then
    { s with thl.colSaid := insNat s.thl.colSaid col }.raise
      (recNote 0x0305 (locThl (thlTower o) (thlDie o) (thlQuad o) (thlBg o) (thlMacro o) (bitColumn o i)))
  else s

/-- The patrol corrected a byte: on two passes in succession it is a hard error, and its bit columns are noted (R197, R198). -/
def State.patrolSeen (s : State) (o mask : Nat) : State :=
  let s := if s.thl.patrolFix.contains o then { s with thl.rowDue := insNat s.thl.rowDue (thlRowKey o) } else s
  let s := { s with thl.patrolNow := insNat s.thl.patrolNow o }
  (bitsOf 13 mask).foldl (fun s i => s.columnSeen o i) s

/-- Patrol of one byte: corrected and written back, or recorded without a fence (R205, R206). A byte corrected on two passes
in succession is a hard error (R197). -/
def State.patrolByte (s : State) (o : Nat) : State :=
  let mask := s.thlMask o
  if mask = 0 then s
  else
    match thlDecode mask with
    | none => (s.radd Fd.THL_ERR_STAT_UNCORRECTED 1).raise { recNote 0x0302 (thlByteLoc o) with inj := s.isInj 1 o }
    | some (_, fixed) =>
      let inj := s.isInj 1 o
      let s := s.thlTouch1 o
      if inj || !fixed then s else s.patrolSeen o mask

/-- Patrol of one byte of a cache-mode bank group (R245, R246): byte n lies in line n/128 of the group's ways, four to a
set. -/
def State.patrolCached (s : State) (t q b n : Nat) : State :=
  let sl := t * 32 + q * 8 + b / 4
  let set := n / 512
  let way := 4 * (b % 4) + n / 128 % 4
  let c := s.way sl set way
  let i := n % 128 / 32
  let x := c.sec i
  let mask := spGet (fun _ => 0) x.bad (n % 32)
  if !c.valid || !x.valid || mask = 0 then s
  else
    match thlDecode mask with
    | some (_, fixed) =>
      let inj := s.isInj 8 (lineOf set c.tag * 4 + i)
      let s := s.sectorFix sl set way i [n % 32]
      if inj || !fixed then s else s.patrolSeen (cellOff sl set way (n % 128)) mask
    | none =>
      let inj := s.isInj 8 (lineOf set c.tag * 4 + i)
      let s := s.radd Fd.THL_ERR_STAT_UNCORRECTED 1
      let bg := locThl t 1 q b 0xFF 0xFFFF
      if x.dirty then
        if x.poison then s
        else ((s.setWay sl set way (c.setSec i { x with poison := true })).radd Fd.MSC_ERR_STAT_POISONED 1).raise { recNote 0x0402 bg with inj := inj }
      else
        let s := (s.setWay sl set way (c.setSec i Sector.init)).radd Fd.MSC_ERR_STAT_REFETCHED 1
        let pa := lineOf set c.tag * 128
        match s.regionOf pa with
        | some (_, r) => s.fetchSector sl set way i (chanAddr r s.channels pa).1 (chanAddr r s.channels pa).2
        | none => s

/-- Bank groups in service: their tower up, and available. -/
def State.liveBgs (s : State) : List Nat :=
  (List.range (s.towers * 256)).filter (fun k => s.towerUp (k / 256) && !s.thl.unavail.contains k)

/-- A pass of a bank group ends: PASSES counts passes that every bank group in service has finished. -/
def State.patrolWrap (s : State) (key : Nat) : State :=
  let mine := fun o => bgKey (thlTower o) (thlDie o) (thlQuad o) (thlBg o) == key
  let s := { s with thl.patrolFix := s.thl.patrolFix.filter (fun o => !mine o) ++ s.thl.patrolNow.filter mine
                    thl.patrolNow := s.thl.patrolNow.filter (fun o => !mine o)
                    thl.patrolDone := spMod (fun _ => 0) s.thl.patrolDone key (· + 1) }
  s.rset Fd.THL_SCRUB_STAT_PASSES (max (s.rget Fd.THL_SCRUB_STAT_PASSES)
    (s.liveBgs.foldl (fun m k => min m (spGet (fun _ => 0) s.thl.patrolDone k)) (spGet (fun _ => 0) s.thl.patrolDone key)))

/-- PERIOD_S in Night clocks; values below 60 act as 60 (Table 06-13). -/
def State.patrolPeriod (s : State) : Nat := 25000000 * max 60 (s.rget Fd.THL_SCRUB_CTL_PERIOD_S)
/-- A pass of a bank group goes on, or a new one may begin: one in each period (R205). -/
def State.patrolOpen (s : State) (key : Nat) : Bool :=
  spGet (fun _ => 0) s.thl.patrolPos key != 0 || spGet (fun _ => 0) s.thl.patrolDone key == 0 ||
    decide (s.clock ≥ spGet (fun _ => 0) s.thl.patrolAt key + s.patrolPeriod)

/-- PATROL_READ (R205): the next `len` bytes of a bank group's pass. -/
def execPatrolRead (t die q b len : Nat) (s : State) : Out :=
  .next (
    let key := bgKey t die q b
    if s.bgThere t die q b && s.towerUp t && s.rget Fd.THL_SCRUB_CTL_EN = 1 && !s.thl.unavail.contains key && s.patrolOpen key && len ≠ 0 then
      let pos := spGet (fun _ => 0) s.thl.patrolPos key
      let n := min len (2 ^ 24 - pos)
      let s := if pos = 0 then { s with thl.patrolAt := spPut (fun _ => 0) s.thl.patrolAt key s.clock } else s
      let s := s.bgUse key
      let s := (List.range n).foldl (fun s i =>
        if die = 1 && s.bgMode (t * 4 + q) b ≠ 0 then s.patrolCached t q b (pos + i) else s.patrolByte (bgByte t die q b (pos + i))) s
      if pos + n = 2 ^ 24 then { s with thl.patrolPos := spPut (fun _ => 0) s.thl.patrolPos key 0 }.patrolWrap key
      else { s with thl.patrolPos := spPut (fun _ => 0) s.thl.patrolPos key (pos + n) }
    else s)

/-- PATROL_LATE (R207): the pass of some bank group in service has taken longer than 2 × PERIOD_S. -/
def execPatrolLate (s : State) : Out :=
  .next (
    if s.rget Fd.THL_SCRUB_CTL_EN = 1 && s.liveBgs.any (fun k => spGet (fun _ => 0) s.thl.patrolPos k != 0 &&
        decide (s.clock > spGet (fun _ => 0) s.thl.patrolAt k + 2 * s.patrolPeriod)) then s.rset Fd.THL_SCRUB_STAT_LATE 1
    else s)

/-! ## Temperature bands and retention (R208, R209) -/

/-- The band of an estimate in 0.001 °C: edges at 85, 95 and 105 °C, left 2 °C below the edge (Table 06-7, Table 08-3). -/
def bandStep (old : Nat) (est : Int) : Nat :=
  let up := b2n (decide (est ≥ 85000)) + b2n (decide (est ≥ 95000)) + b2n (decide (est > 105000))
  let down := b2n (decide (est ≥ 83000)) + b2n (decide (est ≥ 93000)) + b2n (decide (est > 103000))
  max up (min old down)
/-- Estimate of a bank group's die region: the thermal node of its quadrant (Table 16-2). -/
def State.bgEstimate (s : State) (t die q : Nat) : Int := spGet (fun _ => 0) s.thm.junction (12 * t + 4 * (die + 1) + q)
/-- Settings by band: level of the read assist, write assist on, half the issue rate (Table 06-7). -/
def bandReadAssist (band : Nat) : Nat := if band = 0 then 0 else if band = 1 then 1 else 2
def bandWriteAssist (band : Nat) : Bool := decide (band ≥ 2)
def bandHalfRate (band : Nat) : Bool := decide (band ≥ 3)

/-- THALLUS_BAND_CHANGE (R208): the bank group takes the band of its estimate, which sets its assists and issue rate. -/
def execThallusBandChange (t die q b : Nat) (s : State) : Out :=
  .next (
    if s.bgThere t die q b then
      let key := bgKey t die q b
      { s with thl.band := spPut (fun _ => 0) s.thl.band key (bandStep (spGet (fun _ => 0) s.thl.band key) (s.bgEstimate t die q)) }
    else s)

/-- RETENTION_ENTRY (R209): a bank group with no access for 4 µs; contents are kept. -/
def execRetentionEntry (t die q b : Nat) (s : State) : Out :=
  .next (
    let key := bgKey t die q b
    if s.bgThere t die q b && s.towerUp t && s.clock ≥ spGet (fun _ => 0) s.thl.lastUse key + 100 then
      { s with thl.retention := insNat s.thl.retention key }
    else s)

end Sys2Proof.Machine
end

