-- ==== Sys2Proof/Machine/Cache.lean ====
section
/-!
DEFINITION. The memory-side cache (chapter 07): reads and writes of a slice, fills that wait, bank group modes, range
operations and pins, posted reductions and atomics.
-/

namespace Sys2Proof.Machine

/-! ## Accesses (R221–R226, R244–R247) -/

/-- An access waits in a slice's input queue: while a region table is applied (R259), or until a way can be taken (R244). -/
def State.holdMem (s : State) (agent : Agent) (pa : Nat) (wr : Bool) (bytes : List Byte) : State :=
  if s.accHeld pa then { s with pil.held := s.pil.held ++ [⟨agent, pa, wr, bytes⟩] }
  else { s with msc.waiting := s.msc.waiting ++ [⟨agent, pa, wr, bytes⟩] }

/-- The host's read of the region it sees as memory is answered, with poison where it failed (R308, R485). -/
def State.memReply (s : State) (a : Agent) (v : Option (List Byte)) : State := if a = .host then { s with hpt.memAnswer := v } else s
/-- A held access is performed; a failure is its agent's fault. -/
def State.heldMemGo (s : State) (h : HeldMem) : State :=
  if h.write then
    match s.write h.pa h.bytes with
    | (s, none) => s
    | (s, some e) => s.accFault h.agent e
  else
    match s.read h.pa h.bytes.length with
    | (s, .ok l) => s.memReply h.agent (some l)
    | (s, .error e) => (s.accFault h.agent e).memReply h.agent none

/-- CACHE_READ (R223): a read by an agent that issues device physical addresses; a fill with no way to take waits (R244). -/
def execCacheRead (agent : Agent) (pa len : Nat) (s : State) : Out :=
  .next (
    match physClass pa with
    | .dram =>
      if s.rdHeld pa len then s.holdMem agent pa false (List.replicate len 0#8)
      else
        match s.read pa len with
        | (s, .ok _) => s
        | (s, .error e) => s.accFault agent e
    | _ => s)

/-- CACHE_WRITE (R224): a whole absent sector waits for a way too (R244). -/
def execCacheWrite (agent : Agent) (pa : Nat) (bytes : List Byte) (s : State) : Out :=
  .next (
    match physClass pa with
    | .dram =>
      if s.wrHeld pa bytes.length then s.holdMem agent pa true bytes else
      match s.write pa bytes with
      | (s, none) => s
      | (s, some e) => s.accFault agent e
    | _ => s)

/-! ## Posted reductions and atomics (R240–R243) -/

/-- Apply a posted reduction. -/
def State.reducePosted (s : State) (agent : Agent) (op ty pa : Nat) (bytes : List Byte) : State :=
  match s.reduceAt op ty pa bytes with
  | (s, none) => s
  | (s, some e) => s.accFault agent e

/-- POSTED_REDUCTION (R240): held while a region table is applied, while its line waits for a way, or while a fill waits in its set (R244,
R259). -/
def execPostedReduction (agent : Agent) (op ty pa : Nat) (bytes : List Byte) (s : State) : Out :=
  .next (
    if reduceReserved op ty || bytes.length % elemSize ty ≠ 0 || pa % elemSize ty ≠ 0 || (physClass pa != .dram) then s
    else if s.redHeld pa bytes.length then
      { s.noteFills pa bytes.length with msc.heldRed := s.msc.heldRed ++ [⟨agent, pa, op, ty, bytes⟩] }
    else s.reducePosted agent op ty pa bytes)

/-- SLICE_ATOMIC (R242): an atomic at the slice that owns the word; one that is held is given again (R244, R259). -/
def execSliceAtomic (agent : Agent) (op size pa v cmp : Nat) (s : State) : Out :=
  .next (
    if (physClass pa != .dram) || !(size = 4 || size = 8) || pa % size ≠ 0 then s
    else if s.redHeld pa size then s.noteFills pa size
    else
      match s.atomicAt op size pa v cmp with
      | (s, .ok _) => s.lockLine pa true
      | (s, .error e) => s.accFault agent e)

/-- LINE_LOCK_END (R243). -/
def execLineLockEnd (pa : Nat) (s : State) : Out := .next (s.lockLine pa false)

/-! ## Range operations (R233–R239) -/

/-- The lines of a range, as virtual addresses in rising order. -/
def rangeLines (va len : Nat) : List Nat := (List.range ((va + len - 1) / 128 - va / 128 + 1)).map (fun i => (va / 128 + i) * 128)

/-- The line lies in a region of the variant's DRAM (R233). -/
def State.dramLine (s : State) (pa : Nat) : Bool :=
  physClass pa == .dram && decide (pa < s.part.dramGib * 2 ^ 30) && (s.regionOf pa).isSome

/-- Fetch every absent sector of a line; where no way of its set can be taken, the operation waits (R244). -/
def State.fetchLine (s : State) (pa : Nat) : State :=
  match s.regionOf pa with
  | none => s
  | some (_, r) =>
    let (ch, a) := chanAddr r s.channels pa
    let l := pa / 128
    if s.mustWait pa then (s.noteFills pa 1).setWaited
    else if !s.hasWays ch then s
    else
      match (s.tagCheck pa).allocLine ch (setOf l) (tagOf l) with
      | (s, none) => s
      | (s, some w) => (List.range 4).foldl (fun s i => s.fetchSector ch (setOf l) w i ch (a - a % 128)) s

/-- Apply `g` to the way that holds a line. -/
def State.onLine (s : State) (pa : Nat) (g : State → Nat → Nat → Nat → State) : State :=
  match s.regionOf pa with
  | none => s
  | some (_, r) =>
    let ch := (chanAddr r s.channels pa).1
    match s.findWay ch (setOf (pa / 128)) (tagOf (pa / 128)) with
    | some w => g s ch (setOf (pa / 128)) w
    | none => s

def CLine.clean (c : CLine) : CLine :=
  { c with s0 := { c.s0 with dirty := false }, s1 := { c.s1 with dirty := false }, s2 := { c.s2 with dirty := false },
           s3 := { c.s3 with dirty := false } }

/-- Write back a line's dirty sectors; the line stays valid and clean (Table 07-3). A locked line holds the operation (R235). -/
def State.flushWay (s : State) (ch set w : Nat) : State :=
  if (s.way ch set w).locked then s.setWaited
  else
    let s := s.writeBack ch set w
    s.modWay ch set w CLine.clean

/-- Walk a range line by line under translation; `g` gives the state, or a status that stops the walk. The result: the state,
the status (0x03 for a translation fault) and its reason. -/
def State.walkRange (s : State) (r : Nat) (need : Need) (g : State → Nat → Nat → State × Nat) : List Nat → State × Nat × Nat
  | [] => (s, 0, 0)
  | va :: l =>
    match s.xlate none (s.ringAsid r) (s.ringTenant r) va need with
    | (s, .error e) => (s, 3, e.reason)
    | (s, .ok (pa, _)) =>
      if s.dramLine pa then
        if s.accHeld pa then (s.setWaited, 0, 0)
        else match g s va pa with
        | (s, 0) => s.walkRange r need g l
        | (s, st) => (s, st, ((s.physErr pa).map MErr.reason).getD 0)
      else s.walkRange r need g l

/-- The end of a range operation: a status of Table 07-6, which raises no record, or the error of a fetch from a region that is lost or a
tower that is unavailable, with its record (R251, R262, R285). -/
def State.rangeEnd (s : State) (r i st reason : Nat) : State :=
  if st = 0x80 then (s.raise (recErr reason (s.ringLoc r) (s.ringCtx r))).complete r i st reason 0 else s.complete r i st reason 0

/-- A range operation of a started descriptor; it waits while a line of it is held (R235, R244, R259). -/
def State.rangeOp (s : State) (r i op : Nat) (need : Need) (g : Desc → State → Nat → Nat → State × Nat) : State :=
  s.attempt fun s =>
    match s.opOf r i 6 op with
    | none => s
    | some d =>
      match s.walkRange r need (g d) (rangeLines (d.f 1 47 0) (d.f 2 47 0)) with
      | (s, st, e) => s.rangeEnd r i st e

/-- One line of a PREFETCH; a line that cannot be read stops the walk. -/
def State.prefetch1 (s : State) (pa : Nat) : State × Nat := if (s.physErr pa).isSome then (s, 0x80) else (s.fetchLine pa, 0)
/-- One line of a FLUSH. -/
def State.flush1 (s : State) (pa : Nat) : State × Nat := (s.onLine pa State.flushWay, 0)
/-- One line of an INVALIDATE; one only partly inside the range is flushed before it is dropped. -/
def State.invalidate1 (s : State) (d : Desc) (va pa : Nat) : State × Nat :=
  let whole := decide (d.f 1 47 0 ≤ va) && decide (va + 128 ≤ d.f 1 47 0 + d.f 2 47 0)
  (s.onLine pa (fun s ch set w =>
    if (s.way ch set w).locked then s.setWaited
    else (if whole then s else s.flushWay ch set w).setWay ch set w CLine.init), 0)
/-- One line of an UNPIN. -/
def State.unpin1 (s : State) (pa : Nat) : State × Nat :=
  (s.onLine pa (fun s ch set w => s.modWay ch set w (fun c => { c with pinned := false })), 0)

/-- PREFETCH (R233). -/
def execPrefetch (r i : Nat) (s : State) : Out := .next (s.rangeOp r i 1 .r (fun _ s _ pa => s.prefetch1 pa))

/-- FLUSH (R233, R235). -/
def execFlush (r i : Nat) (s : State) : Out := .next (s.rangeOp r i 2 .r (fun _ s _ pa => s.flush1 pa))

/-- INVALIDATE (R233, R235). -/
def execInvalidate (r i : Nat) (s : State) : Out := .next (s.rangeOp r i 3 .w (fun d s va pa => s.invalidate1 d va pa))

/-- UNPIN (R233, R239). -/
def execUnpin (r i : Nat) (s : State) : Out := .next (s.rangeOp r i 5 .r (fun _ s _ pa => s.unpin1 pa))

/-- Lines pinned in the module (Table 07-5). -/
def State.pinnedLines (s : State) : Nat := (s.msc.lines.filter (fun p => p.2.valid && p.2.pinned)).length
/-- Lines pinned in a set. -/
def State.pinnedIn (s : State) (sl set : Nat) : Nat :=
  ((List.range 16).filter (fun w => (s.way sl set w).valid && (s.way sl set w).pinned)).length
/-- The quota of R237 with k bank groups in cache mode. -/
def State.pinQuota (s : State) (k : Nat) : Nat :=
  if k ≤ 1 then 0 else min (min (s.rget Fd.MSC_PIN_CTL_WAYS_MAX) 12) (4 * k - 4)
/-- CAP_MIB in lines (R236, Table 07-5). -/
def State.pinCap (s : State) : Nat :=
  min (s.rget Fd.MSC_PIN_CTL_CAP_MIB) (if s.part == .fjd2824 then 3072 else 6144) * 8192

/-- Pin one line: fetched, then pinned, unless its set is at its quota (R237, R238); the lines pinned so far come with it. -/
def State.pinLine (s : State) (pa : Nat) : State × Bool × Bool :=
  match s.regionOf pa with
  | none => (s, true, false)
  | some (_, r) =>
    let ch := (chanAddr r s.channels pa).1
    let set := setOf (pa / 128)
    let already := match s.findWay ch set (tagOf (pa / 128)) with
      | some w => (s.way ch set w).pinned
      | none => false
    if already then (s.fetchLine pa, true, false)
    else if s.pinnedIn ch set ≥ s.pinQuota (s.sliceK ch) then (s, false, false)
    else ((s.fetchLine pa).onLine pa (fun s ch set w => s.modWay ch set w (fun c => { c with pinned := true })), true, true)

/-- The lines of a PIN in turn: state, status and reason, and the lines it pinned itself. -/
def State.pinWalk (s : State) (r : Nat) : List Nat → List Nat → State × Nat × Nat × List Nat
  | [], mine => (s, 0, 0, mine)
  | va :: l, mine =>
    match s.xlate none (s.ringAsid r) (s.ringTenant r) va .r with
    | (s, .error e) => (s, 3, e.reason, mine)
    | (s, .ok (pa, _)) =>
      if s.dramLine pa then
        if (s.physErr pa).isSome then (s, 0x80, ((s.physErr pa).map MErr.reason).getD 0, mine)
        else if s.accHeld pa then (s.setWaited, 0, 0, mine)
        else match s.pinLine pa with
        | (s, false, _) => (s, 1, 0, mine)
        | (s, true, new) => s.pinWalk r l (if new then pa :: mine else mine)
      else s.pinWalk r l mine

/-- PIN (R238): reserved as a whole against CAP_MIB, then line by line; a PIN that stops unpins what it pinned. -/
def execPin (r i : Nat) (s : State) : Out :=
  .next (s.attempt fun s =>
    match s.opOf r i 6 4 with
    | none => s
    | some d =>
      let lines := rangeLines (d.f 1 47 0) (d.f 2 47 0)
      if s.pinnedLines + s.msc.reserved_ + lines.length > s.pinCap then s.complete r i 2 0 0
      else
        match s.pinWalk r lines [] with
        | (s, 0, _, _) => s.complete r i 0 0 0
        | (s, st, e, mine) =>
          (mine.foldl (fun s pa => (s.unpin1 pa).1) s).rangeEnd r i st e)

/-! ## Fills that wait (R244) -/

/-- The address lies in a set of a slice. -/
def State.inSet (s : State) (sl set pa : Nat) : Bool := s.sliceSet pa == some (sl, set)
/-- A waiting access whose ways can be taken goes on. -/
def State.waitGo (s : State) (w : HeldMem) : State :=
  if (if w.write then s.wrHeld w.pa w.bytes.length else s.rdHeld w.pa w.bytes.length) then s
  else ({ s with msc.waiting := s.msc.waiting.erase w }).heldMemGo w
/-- A waiting fill whose requester holds its own access is done, once a way can be taken. -/
def State.fillGo (s : State) (pa : Nat) : State :=
  if s.mustWait pa || s.accHeld pa then s
  else
    let s := { s with msc.fills := s.msc.fills.filter (· != pa) }
    if (s.physErr pa).isSome then s else (s.tagCheck pa).demandFill pa

/-- FILL_WAIT_RELEASE (R244): waiting fills of a set take the ways that became available; when none waits any more the held
reductions of the set are released in arrival order. -/
def execFillWaitRelease (sl set : Nat) (s : State) : Out :=
  .next (
    let s := (s.msc.waiting.filter (fun w => s.inSet sl set w.pa)).foldl (fun s w => s.waitGo w) s
    let s := (s.msc.fills.filter (s.inSet sl set)).foldl (fun s pa => s.fillGo pa) s
    if s.msc.waiting.any (fun w => s.inSet sl set w.pa) || s.msc.fills.any (s.inSet sl set) then s
    else
      let l := s.msc.heldRed.filter (fun h => s.inSet sl set h.pa && !s.redHeld h.pa h.bytes.length)
      l.foldl (fun s h => s.reducePosted h.agent h.op h.ty h.pa h.bytes)
        { s with msc.heldRed := s.msc.heldRed.filter (fun h => !l.contains h) })

/-! ## Bank group modes (R227–R232) -/

def State.setMode (s : State) (tq b v : Nat) : State := { s with msc.mode := spPut (fun _ => 0) s.msc.mode (modeKey tq b) v }
def State.setPend (s : State) (tq b v : Nat) : State := { s with msc.pend := spPut (fun _ => 0) s.msc.pend (modeKey tq b) v }
def State.pendOf (s : State) (tq b : Nat) : Nat := spGet (fun _ => 0) s.msc.pend (modeKey tq b)
def State.bgAvail (s : State) (tq b : Nat) : Bool := !s.thl.unavail.contains (bgKey (tq / 4) 1 (tq % 4) b)

/-- A switch begins: 2 toward cache, 3 toward scratchpad (R229, R230 step 1). -/
def State.switchStart (s : State) (tq b : Nat) (cache : Bool) : State := s.setMode tq b (if cache then 2 else 3)

/-- Switching this bank group to scratchpad would leave a set of its slice above the quota (R228). -/
def State.pinsExceed (s : State) (sl k : Nat) : Bool :=
  (s.msc.lines.foldl (fun (l : List Nat) p =>
    if p.1 / (32768 * 16) = sl && p.2.valid && p.2.pinned then insNat l (p.1 / 16 % 32768) else l) []).any
      (fun set => decide (s.pinnedIn sl set > s.pinQuota k))

/-- A request of a set-cache-mode operation for one bank group: started, latched, or without effect (R231). -/
def State.modeRequest (s : State) (tq b : Nat) (cache : Bool) : State :=
  let m := s.bgMode tq b
  if m = 2 || m = 3 then
    -- an earlier operation's pending request for the group is replaced
    let s := if s.pendOf tq b ≠ 0 then
        { s with msc.modeOps := s.msc.modeOps.map (fun o => if o.tq = tq && nbit o.named b then { o with replaced := o.replaced ||| (1 <<< b) } else o) }
      else s
    s.setPend tq b (if cache then 2 else 1)
  else if (m = 1) = (cache = true) then s
  else s.switchStart tq b cache

/-- Bank groups a set-cache-mode operation names are stable with nothing pending (R231). -/
def State.modeOpDone (s : State) (o : ModeOp) : Bool :=
  (bitsOf 32 o.named).all (fun b => (s.bgMode o.tq b == 0 || s.bgMode o.tq b == 1) && s.pendOf o.tq b == 0)

/-- Complete the set-cache-mode operations whose groups are stable (R231). -/
def State.modeOpsCheck (s : State) : State :=
  let done := s.msc.modeOps.filter s.modeOpDone
  done.foldl (fun s o =>
    let ok := (bitsOf 32 o.named).all (fun b => (s.bgMode o.tq b == 1) == nbit o.mask b)
    s.complete o.ring o.idx (if ok then 0 else 6) 0 0) { s with msc.modeOps := s.msc.modeOps.filter (fun o => !s.modeOpDone o) }

/-- SET_CACHE_MODE (R228, R231). -/
def execSetCacheMode (r i : Nat) (s : State) : Out :=
  .next (
    match s.opOf r i 7 1 with
    | none => s
    | some d =>
      let t := d.f 1 1 0
      let tq := t * 4 + d.f 1 3 2
      let mask := d.f 1 63 32
      let named := (List.range 32).filter (s.bgAvail tq)
      let toScr := named.filter (fun b => !nbit mask b && s.bgMode tq b == 1)
      let bad := t ≥ s.towers || (bitsOf 32 mask).any (fun b => !s.bgAvail tq b) ||
        toScr.any (fun b =>
          let sl := t * 32 + (tq % 4) * 8 + b / 4
          s.pinsExceed sl (s.sliceK sl - (toScr.filter (fun c => c / 4 == b / 4)).length))
      if bad then s.complete r i 4 0 0
      else
        let s := named.foldl (fun s b => s.modeRequest tq b (nbit mask b)) (s.markRan r i)
        ({ s with msc.modeOps := s.msc.modeOps ++ [⟨r, i, tq, mask, ofBits named, 0⟩] } : State).modeOpsCheck)

/-- Drop the stored bytes of a lower bank group: lost, or written with zero and valid codewords (R229, R230). -/
def State.bgZero (s : State) (t die q b : Nat) : State :=
  let mine := fun o => bgKey (thlTower o) (thlDie o) (thlQuad o) (thlBg o) == bgKey t die q b
  { s with mem.thl := s.mem.thl.filter (fun c => !mine c.1)
           mem.thlBad := s.mem.thlBad.filter (fun c => !mine c.1)
           mem.injected := s.mem.injected.filter (fun c => !(c.1 == 1 && mine c.2)) }

/-- SWITCH_TO_CACHE (R229): accepted accesses are complete; the ways are made invalid. -/
def execSwitchToCache (t q b : Nat) (s : State) : Out :=
  .next (
    let tq := t * 4 + q
    if s.bgMode tq b = 2 then
      let sl := t * 32 + q * 8 + b / 4
      let s := (s.bgZero t 1 q b)
      { s with msc.lines := s.msc.lines.filter (fun p => !(p.1 / (32768 * 16) == sl && p.1 % 16 / 4 == b % 4))
               msc.switched := insNat s.msc.switched (modeKey tq b) }
    else s)

/-- Move a pinned line to another way of its set (R230 step 2). -/
def State.movePinned (s : State) (sl set way : Nat) : State :=
  let ok := fun (s : State) w => s.wayMode sl w == 1 && !(s.way sl set w).pinned
  let target := match (List.range 16).find? (fun w => ok s w && !(s.way sl set w).valid) with
    | some w => some w
    | none =>
      match plruPick (spGet (fun _ => 0) s.msc.plru (sl * 32768 + set)) (fun w => ok s w && !(s.way sl set w).locked) 4 0 0 16 with
      | some w => some w
      | none => (List.range 16).find? (ok s)
  match target with
  | none => s
  | some w =>
    let c := s.way sl set way
    ((s.evict sl set w).setWay sl set w c).setWay sl set way CLine.init

/-- SWITCH_TO_SCRATCHPAD (R230): pinned lines move, dirty sectors are written back, the ways become invalid, the bank group
is zeroed. -/
def execSwitchToScratchpad (t q b : Nat) (s : State) : Out :=
  .next (
    let tq := t * 4 + q
    if s.bgMode tq b = 3 then
      let sl := t * 32 + q * 8 + b / 4
      let mine := fun k : Nat => k / (32768 * 16) == sl && k % 16 / 4 == b % 4
      let keys := (s.msc.lines.filter (fun p => mine p.1 && p.2.valid)).map (·.1)
      let s := keys.foldl (fun s k => if (s.way sl (k / 16 % 32768) (k % 16)).pinned then s.movePinned sl (k / 16 % 32768) (k % 16) else s) s
      let s := keys.foldl (fun s k => s.evict sl (k / 16 % 32768) (k % 16)) s
      let s := s.bgZero t 1 q b
      { s with msc.switched := insNat s.msc.switched (modeKey tq b) }
    else s)

/-- MODE_SWITCH_COMPLETE (R231, R232): the stable state; the distance table; a pending request starts or is dropped. -/
def execModeSwitchComplete (t q b : Nat) (s : State) : Out :=
  .next (
    let tq := t * 4 + q
    let k := modeKey tq b
    if s.msc.switched.contains k then
      let cache := s.bgMode tq b == 2
      let p := s.pendOf tq b
      let s := ({ s with msc.switched := s.msc.switched.filter (· != k) }.setMode tq b (if cache then 1 else 0)).setPend tq b 0
      -- a scratchpad bank group that nothing serves becomes unavailable (R202, R203)
      let s := if !cache && s.columnDead t q b then { s with thl.unavail := insNat s.thl.unavail (bgKey t 1 q b) } else s
      let s := s.distBump
      let s := if p ≠ 0 && (p = 2) ≠ (cache = true) then s.switchStart tq b (p = 2) else s
      s.modeOpsCheck
    else s)

end Sys2Proof.Machine
end

