-- ==== Sys2Proof/Machine/Piles.lean ====
section
/-!
DEFINITION. Memory piles (chapter 08): the region table and its application, accesses of a channel, refresh and bands,
scrubbing and row retirement, and the loss of coils, channels and piles.
-/

namespace Sys2Proof.Machine

/-! ## The region table (R255–R260) -/

/-- The region the registers of region n name. -/
def State.regionReg (s : State) (n : Nat) : Region :=
  ⟨s.rget (Fd.PIL_REGION_EN n) == 1, s.rget (Fd.PIL_REGION_MODE n) == 0, s.rget (Fd.PIL_REGION_TOWER n),
    s.rget (Fd.PIL_REGION_BASE_GIB n), s.rget (Fd.PIL_REGION_SIZE_GIB n), 0⟩

/-- MiB a region takes of each channel it uses (R256). -/
def Region.take_ (r : Region) (channels : Nat) : Nat := r.size * 1024 / r.nch channels

/-- CHOFF_MIB of the enabled regions in rising index (R257), with the channels' ends so far. -/
def placeRegions (channels : Nat) : List Region → List Nat → List Region
  | [], _ => []
  | r :: l, ends =>
    if r.en then
      let uses := fun c => r.uses channels c
      let off := ((List.range channels).zip ends).foldl (fun m p => if uses p.1 then max m p.2 else m) 0
      { r with choff := off } :: placeRegions channels l
        (((List.range channels).zip ends).map (fun p => if uses p.1 then off + r.take_ channels else p.2))
    else { r with choff := 0 } :: placeRegions channels l ends

/-- The table the region registers spell, with its channel offsets. -/
def State.regionTable (s : State) : List Region :=
  placeRegions s.channels ((List.range 16).map s.regionReg) (List.replicate s.channels 0)

def regionOverlap (a b : Region) : Bool := a.en && b.en && decide (a.base < b.base + b.size) && decide (b.base < a.base + a.size)
def anyOverlap : List Region → Bool
  | [] => false
  | r :: l => l.any (regionOverlap r) || anyOverlap l

/-- STATUS of a table (R258): 0 accepted, 1 overlap, 2 size or range, 3 absent tower, 4 channel over 3,072 MiB. -/
def State.tableStatus (s : State) (l : List Region) : Nat :=
  if anyOverlap l then 1
  else if l.any (fun r => r.en && (r.size == 0 || decide (r.base + r.size > s.part.dramGib))) then 2
  else if l.any (fun r => r.en && !r.global && decide (r.tower ≥ s.towers)) then 3
  else if l.any (fun r => r.en && decide (r.choff + r.take_ s.channels > 3072)) then 4
  else 0

/-- Every dirty line is written back, every line invalidated, every pin and reservation released (R259 step 2). -/
def State.flushAll (s : State) : State :=
  let keys := (s.msc.lines.filter (fun p => p.2.valid)).map (·.1)
  let s := keys.foldl (fun s k => s.writeBack (k / 16 / 32768) (k / 16 % 32768) (k % 16)) s
  { s with msc.lines := [], msc.reserved_ := 0 }

/-- Check and start an apply (R258, R259 steps 1 and 2). -/
def State.applyStart (s : State) : State :=
  let l := s.regionTable
  let st := s.tableStatus l
  let s := s.rset Fd.PIL_MAP_CTL_STATUS st
  if st = 0 then { (s.flushAll).rset Fd.PIL_MAP_CTL_BUSY 1 with pil.applying := l } else s

/-- APPLY (R258, R260): a write of PIL_MAP_CTL.APPLY = 1. -/
def execApply (s : State) : Out :=
  .next (
    if s.rget Fd.PIL_MAP_CTL_LOCK = 1 then s
    else if s.rget Fd.PIL_MAP_CTL_BUSY = 1 then s.rset Fd.PIL_MAP_CTL_PENDING 1
    else s.applyStart)

/-- APPLY_LATCHED_START (R260). -/
def execApplyLatchedStart (s : State) : Out :=
  .next (
    if s.rget Fd.PIL_MAP_CTL_PENDING = 1 && s.rget Fd.PIL_MAP_CTL_BUSY = 0 then (s.rset Fd.PIL_MAP_CTL_PENDING 0).applyStart else s)

/-- Free bytes in place of the listed bytes of a region's channel ranges: its contents are undefined (R259; assumption 24). -/
def State.regionUndefined (s : State) (r : Region) : State :=
  let lo := r.choff * 2 ^ 20
  let hi := (r.choff + r.take_ s.channels) * 2 ^ 20
  let mine := fun k : Nat => r.uses s.channels (k / 2 ^ 32) && decide (lo ≤ k % 2 ^ 32) && decide (k % 2 ^ 32 < hi)
  (s.mem.dram.filter (fun c => mine c.1)).foldl (fun s c =>
    let (w, s) := s.fresh
    { s with mem.dram := memPut s.mem.dram c.1 (BitVec.ofNat 8 w.toNat) }) s

/-- One region of the new table takes effect: kept where its base, size, mode, tower and offset are unchanged, else undefined contents and a fresh LOST
(R259). -/
def State.applyRegion (s : State) (old new_ : Region) (n : Nat) : State :=
  let s := s.rset (Fd.PIL_REGION_CHOFF_MIB n) new_.choff
  if !new_.en then s.rset (Fd.PIL_REGION_LOST n) 0
  else if { old with en := true } = new_ then s
  else
    let lost := (List.range s.channels).any (fun c => new_.uses s.channels c && s.chanLost c)
    (s.regionUndefined new_).rset (Fd.PIL_REGION_LOST n) (b2n lost)

/-- APPLY_COMPLETE (R259 steps 3 to 5). -/
def execApplyComplete (s : State) : Out :=
  .next (
    if s.rget Fd.PIL_MAP_CTL_BUSY = 1 then
      let old := s.pil.applied
      let new_ := s.pil.applying
      let s := (List.range 16).foldl (fun s n => s.applyRegion (old.getD n Region.init) (new_.getD n Region.init) n) s
      let s := ({ s with pil.applied := new_, pil.applying := [] }.rset Fd.PIL_MAP_CTL_BUSY 0)
      let l := s.pil.held
      (l.foldl (fun (s : State) h => s.heldMemGo h) ({ s with pil.held := [] } : State)).distBump
    else s)

/-- REGION_LOST_CLEAR (R263): a write of 1 to LOST, whatever LOCK holds. -/
def execRegionLostClear (n : Nat) (s : State) : Out :=
  .next (
    if n < 16 && !((List.range s.channels).any (fun c => (s.pil.applied.getD n Region.init).uses s.channels c && s.chanLost c)) then
      s.rset (Fd.PIL_REGION_LOST n) 0
    else s)

/-! ## Channels (R264–R269) -/

/-- One piece of a request at its channel. -/
def State.chanAccess (s : State) (agent : Agent) (pa : Nat) (wr : Bool) (bytes : List Byte) : State :=
  match s.physErr pa with
  | some e => s.accFault agent e
  | none =>
    match s.regionOf pa with
    | none => s
    | some (_, r) =>
      let (ch, a) := chanAddr r s.channels pa
      if wr then
        (if bytes.length = 32 then s.chanPutSector ch a bytes false else s.chanMerge ch a bytes)
      else
        match s.chanPeek ch a bytes.length with
        | .ok _ => s.chanTouch ch a
        | .error e => (s.chanTouch ch a).accFault agent e

/-- DRAM_ACCESS (R265): a request reaches its channel, sector by sector. -/
def execDramAccess (agent : Agent) (pa : Nat) (wr : Bool) (bytes : List Byte) (s : State) : Out :=
  .next (
    match physClass pa with
    | .dram =>
      if (if wr then s.wrHeld pa bytes.length else s.rdHeld pa bytes.length) then s.holdMem agent pa wr bytes
      else (pieces pa bytes.length).foldl (fun s p => s.chanAccess agent p.1 wr (slice bytes (p.1 - pa) p.2)) s
    | _ => s)

/-- REFRESH (R270): at the end of a bank's refresh interval the scheduler refreshes it, which keeps its contents, or postpones the
refresh, never by more than 8 intervals. -/
def execRefresh (ch bank : Nat) (postpone : Bool) (s : State) : Out :=
  .next (
    if ch < s.channels && bank < 48 then
      let k := ch * 48 + bank
      let late := spGet (fun _ => 0) s.pil.postponed k
      if postpone && late < 8 then { s with pil.postponed := spPut (fun _ => 0) s.pil.postponed k (late + 1) }
      else { s with pil.refreshes := spMod (fun _ => 0) s.pil.refreshes k (· + 1)
                    pil.postponed := spPut (fun _ => 0) s.pil.postponed k 0 }
    else s)

/-- The estimate of a pile's hottest layer: the higher of its DRAM nodes (Table 16-2). -/
def State.pileEstimate (s : State) (p : Nat) : Int :=
  [2, 3].foldl (fun (a : Int) n => max a (spGet (fun _ => 0) s.thm.junction (48 + 4 * p + n))) (spGet (fun _ => 0) s.thm.junction (48 + 4 * p + 1))
/-- A zone whose calibration or model is at fault is run at its throttled band (R523, R527). -/
def State.calFault (s : State) (z : Nat) : Bool :=
  s.rget (Fd.THM_ZONE_CALFAULT z) == 1 || (match s.thm.faultUntil with
    | some c => decide (s.clock < c)
    | none => false)
/-- A pile enters a band: its refresh interval and issue rate; entering or leaving the throttled band is recorded. -/
def State.setPileBand (s : State) (p band : Nat) : State :=
  let was := s.rget (Fd.PIL_STAT_THROTTLED p)
  let s := (s.rset (Fd.PIL_STAT_BAND p) band).rset (Fd.PIL_STAT_THROTTLED p) (if band = 3 then 1 else 0)
  if was ≠ s.rget (Fd.PIL_STAT_THROTTLED p) then s.raise (recNote 0x050C (pileLoc p)) else s

/-- PILE_BAND_CHANGE (R270): at its next refresh interval boundary a pile takes the band of its hottest layer, or the throttled band under a
calibration fault. -/
def execPileBandChange (p : Nat) (s : State) : Out :=
  .next (
    if p < s.piles then
      s.setPileBand p (if s.calFault (4 + p) then 3 else bandStep (s.rget (Fd.PIL_STAT_BAND p)) (s.pileEstimate p))
    else s)

/-! ## Scrubbing and retirement (R271–R275) -/

/-- Scrub of one sector: corrected on two passes in succession, its row is due (R271, R272). -/
def State.scrubSector (s : State) (ch a : Nat) : State :=
  let k := sectorKey ch a
  let inj := s.isInj 2 k
  if s.sectorPoisoned k then s
  else match rsDecode (s.sectorBad k) with
  | .clean => s
  | .corrected _ _ =>
    let s := s.chanTouch ch a
    if inj then s
    else
      let s := if s.pil.scrubFix.contains k then s.rowIsDue ch a else s
      { s with pil.scrubNow := insNat s.pil.scrubNow k }
  | .uncorrectable => (s.chanTouch ch a).raise { recNote 0x0506 (sectorLoc ch a) with inj := inj }

/-- Sectors of a channel. -/
def chanSectors : Nat := 3072 * 32768

/-- One pass takes PERIOD_H hours, at least 4, in Night clock ticks (R271, Table 08-4). -/
def State.scrubPeriod (s : State) : Nat := 90000000000 * max 4 (s.rget Fd.PIL_SCRUB_CTL_PERIOD_H)
/-- The base die of a channel runs and serves it: a tower's fence leaves its piles powered (R261, R271). -/
def State.scrubbed (s : State) (ch : Nat) : Bool :=
  decide (ch < s.channels) && !s.fencedIn (.channel ch) && s.rget (Fd.PIL_STAT_SHUTDOWN (ch / 16)) == 0
/-- A channel's pass goes on, or a new one may begin: one in each period (R271). -/
def State.scrubOpen (s : State) (ch : Nat) : Bool :=
  spGet (fun _ => 0) s.pil.scrubPos ch != 0 || decide (s.clock ≥ spGet (fun _ => 0) s.pil.scrubNext ch)

/-- PILE_SCRUB (R271): the next `n` sectors of a channel's pass. -/
def execPileScrub (ch n : Nat) (s : State) : Out :=
  .next (
    if s.scrubbed ch && !s.endpointSwitching 3 (ch / 16) && s.rget Fd.PIL_SCRUB_CTL_EN = 1 && s.scrubOpen ch && n ≠ 0 then
      let pos := spGet (fun _ => 0) s.pil.scrubPos ch
      let k := min n (chanSectors - pos)
      let s := if pos = 0 then { s with pil.scrubNext := spPut (fun _ => 0) s.pil.scrubNext ch (s.clock + s.scrubPeriod) } else s
      let s := (List.range k).foldl (fun s i => s.scrubSector ch ((pos + i) * 32)) s
      if pos + k = chanSectors then
        let mine := fun x : Nat => x / 2 ^ 27 == ch
        { s with pil.scrubPos := spPut (fun _ => 0) s.pil.scrubPos ch 0
                 pil.scrubFix := s.pil.scrubFix.filter (fun x => !mine x) ++ s.pil.scrubNow.filter mine
                 pil.scrubNow := s.pil.scrubNow.filter (fun x => !mine x) }
      else { s with pil.scrubPos := spPut (fun _ => 0) s.pil.scrubPos ch (pos + k) }
    else s)

/-- Channel address of sector i of a row (R277). -/
def rowSector (bank row i : Nat) : Nat := ((row * 48 + bank) * 64 + i) * 32

/-- A sector copied to the spare row: a single wrong symbol corrected, an uncorrectable sector with the poison flag set
(R272). -/
def State.spareSector (s : State) (ch a : Nat) : State :=
  let k := sectorKey ch a
  match rsDecode (s.sectorBad k) with
  | .clean => s
  | .corrected _ _ => ({ s with mem.dramBad := spDel s.mem.dramBad k } : State).dropInj 2 k
  | .uncorrectable => { s with mem.dramBad := spDel s.mem.dramBad k
                               mem.dramMeta := spPut (fun _ => 0) s.mem.dramMeta k (poisonMeta true) }

/-- ROW_RETIREMENT (R272, R273). -/
def execRowRetirement (ch bank row : Nat) (s : State) : Out :=
  .next (
    let key := (ch * 48 + bank) * 32768 + row
    if ch < s.channels && bank < 48 && s.pil.rowDue.contains key && !s.endpointSwitching 3 (ch / 16) then
      let loc := sectorLoc ch (rowSector bank row 0)
      let bk := ch * 48 + bank
      let used := spGet (fun _ => 0) s.pil.rowsUsed bk
      let s := { s with pil.rowDue := s.pil.rowDue.filter (· != key)
                        pil.rowCorr := s.pil.rowCorr.filter (fun p => p.1 != key) }
      if used < 128 then
        let s := (List.range 64).foldl (fun s i => s.spareSector ch (rowSector bank row i)) s
        let s := { s with pil.rowsUsed := spPut (fun _ => 0) s.pil.rowsUsed bk (used + 1)
                          pil.rowsRetired := insNat s.pil.rowsRetired key }
        let s := (s.raise (recDegr 0x0507 loc)).commit [⟨2, bk, false, (used + 1) :: (s.pil.rowsRetired.filter (fun k => k / 32768 == bk)).map (· % 32768), 272⟩]
        if used + 1 = 128 then s.zeroReserve 4 bk loc else s
      else if s.pil.rowSaid.contains key then s
      else { s with pil.rowSaid := insNat s.pil.rowSaid key }.raise (recNote 0x0508 loc)
    else s)

def coilLoc (ch layer coil : Nat) : Loc := locPile (ch / 16) 0 (ch % 16) (0x10 + layer - 1) 0xFF coil

/-- A link loses a coil: repaired from its 4 spares, or the channel is fenced (R274). -/
def State.coilLost (s : State) (ch layer coil : Nat) : State :=
  if ch < s.channels && 1 ≤ layer && layer ≤ 12 then
    let k := ch * 12 + layer - 1
    let used := spGet (fun _ => 0) s.pil.coilsUsed k
    if used < 4 then
      let map := spGet (fun _ => []) s.pil.coilMap k ++ [coil]
      let s := { s with pil.coilsUsed := spPut (fun _ => 0) s.pil.coilsUsed k (used + 1), pil.coilMap := spPut (fun _ => []) s.pil.coilMap k map }
      let s := (s.raise (recDegr 0x0509 (coilLoc ch layer coil))).commit [⟨2, 0x10000 + k, false, (used + 1) :: map, 40⟩]
      if used + 1 = 4 then s.zeroReserve 5 k (coilLoc ch layer 0xFFFF) else s
    else s.fenceChannel ch 0x050A (coilLoc ch layer coil) false
  else s

/-- A unit of the base die fails for one channel: its scheduler 0, code unit 1 or bridge port 3 (R274, R277). -/
def State.baseUnitLost (s : State) (ch unit : Nat) : State :=
  if ch < s.channels && [0, 1, 3].contains unit then s.fenceChannel ch 0x050A (locPile (ch / 16) 0 (ch % 16) unit 0xFF 0xFFFF) false else s

/-- COIL_LOSS (R274): a coil of a layer's link, or with layer 0 a unit of the base die that fails for the channel in the same way. -/
def execCoilLoss (ch layer coil : Nat) (s : State) : Out :=
  .next (if layer = 0 then s.baseUnitLost ch coil else s.coilLost ch layer coil)

/-- PILE_FAILED (R275): all 16 channels, one record. -/
def execPileFailed (p : Nat) (s : State) : Out :=
  .next (if p < s.piles then s.fencePile p 0x050B (pileLoc p) false else s)

end Sys2Proof.Machine
end

