-- ==== Sys2Proof/Machine/Regulation.lean ====
section
/-!
DEFINITION. Clock crossings and regulation (chapter 09): the dual-clock queues, master classes, urgency, and one resource cycle of a
regulated instance (R289–R301).
-/

namespace Sys2Proof.Machine

/-! ## Classes and urgency (R295, R301) -/

/-- Class codes (Table 09-4). -/
def classCode : MClass → Nat
  | .feed => 0
  | .dma => 1
  | .frx => 2
  | .ftx => 3
  | .hst => 4
  | .pfc => 5
  | .mnt => 6
  | .gth => 7
/-- Real-time classes. -/
def classRealTime : MClass → Bool
  | .frx => true
  | .hst => true
  | .mnt => true
  | _ => false
/-- The class of what an agent asks for, and of the slice fills it causes; `array`: by a feeder or a drain of its kernel. -/
def agentClass (a : Agent) (array : Bool) : MClass :=
  match a with
  | .kernel _ _ => if array then .feed else .dma
  | .ring _ _ => .dma
  | .engine => .gth
  | .host => .hst
  | .fabric => .frx
  | .hub => .hst
/-- The class of a slice's own traffic: prefetches, pins and write-backs (R226). -/
def sliceCls : MClass := .pfc

/-- The urgency of a buffer's fill in percent under the three thresholds of PNW_URG_CTL; a threshold above 100 acts as 100. -/
def fillUrgency (fill t1 t2 t3 : Nat) : Nat :=
  if fill ≥ min 100 t3 then 3 else if fill ≥ min 100 t2 then 2 else if fill ≥ min 100 t1 then 1 else 0
/-- The most refreshes postponed in a bank of a channel (R270). -/
def State.chanPostponed (s : State) (ch : Nat) : Nat :=
  (List.range 48).foldl (fun a b => max a (spGet (fun _ => 0) s.pil.postponed (ch * 48 + b))) 0

/-! ## Dual-clock queues (R289, R291) -/

/-- The queue at the network side of a link, as links are coded for FLIT_REPLAY: 40–43 tower links, 44–59 the interfaces of Fronds, from 60
on the slices of channels. Links inside a tower network have one clock and none. -/
def queueLoc (link : Nat) : Loc :=
  if link < 44 then ⟨1, link - 40, 0, 4, 0xA2, 0xFF, 0xFFFF⟩
  else if link < 60 then locFrond (link - 44) 0xA2 0xFF 0xFFFF
  else ⟨1, (link - 60) / 32, 0, (link - 60) % 32 / 8, 0xA2, 0xFF, 0xFFFF⟩
def State.queue (s : State) (link : Nat) : List QEntry := spGet (fun _ => []) s.pnw.queues link
def State.setQueue (s : State) (link : Nat) (l : List QEntry) : State := { s with pnw.queues := spPut (fun _ => []) s.pnw.queues link l }
/-- A queue has 16 entries; a writer that finds it full waits. -/
def State.queueFull (s : State) (link : Nat) : Bool := decide (16 ≤ (s.queue link).length)
/-- A request is written behind the others, with its urgency in the sideband; the flip mask may strike its codeword (R609). -/
def State.queuePut (s : State) (link : Nat) (agent : Agent) (urgency : Nat) : State :=
  match s.injMask 0 (queueLoc link) with
  | some m => (s.setQueue link (s.queue link ++ [⟨agent, urgency, m, true⟩])).injDone
  | none => s.setQueue link (s.queue link ++ [⟨agent, urgency, 0, false⟩])
/-- An entry is read: a single error is corrected; an uncorrectable entry is discarded and its request fails (R291). -/
def State.queueRead (s : State) (link : Nat) (e : QEntry) : State :=
  if secdedBad e.bad then s.faultAgentI e.agent 0x0602 (queueLoc link) e.inj else s
/-- The read side takes every entry, oldest first. -/
def State.queueDrain (s : State) (link : Nat) : State :=
  (s.queue link).foldl (fun (s : State) e => s.queueRead link e) (s.setQueue link [])
/-- A queue is reset on both sides together: every entry is discarded (R291). -/
def State.queueReset (s : State) (link : Nat) : State := s.setQueue link []

/-! ## One resource cycle of an instance (R296–R300) -/

/-- Word w of the slot table of kind k in force. -/
def slotDefault (n : Nat) : W64 := BitVec.ofNat 64 (slotReset (n / 4) (n % 4))
/-- Class of a slot of the table in force for a kind. -/
def State.slotClass (s : State) (kind slot : Nat) : Nat :=
  nfld (spGet slotDefault s.pnw.slots (kind * 4 + slot / 16)).toNat (4 * (slot % 16) + 3) (4 * (slot % 16))
/-- Slots a class owns. -/
def State.slotsOwned (s : State) (kind cls : Nat) : Nat := ((List.range 64).filter (fun i => s.slotClass kind i == cls)).length
/-- Instances of a kind (Table 09-5). -/
def State.instances (s : State) (kind : Nat) : Nat :=
  match kind with
  | 0 => s.channels
  | 1 => 256 * s.towers
  | 2 => 2 * s.towers
  | 3 => if s.part.fports = 16 then 22 else if s.towers = 4 then 14 else 12
  | 4 => s.part.fports
  | _ => 0
def State.inst (s : State) (kind i : Nat) : RegInst := spGet (fun _ => RegInst.init) s.pnw.insts (kind * 1024 + i)

/-- The class is in budget: fewer grants in this round than slots owned (R297). -/
def State.inBudget (s : State) (kind i : Nat) (cls : MClass) : Bool :=
  decide (spGet (fun _ => 0) (s.inst kind i).grants (classCode cls) < s.slotsOwned kind (classCode cls))
/-- Urgency of a waiting request (R301): by the fill of its buffer, by refreshes postponed, 3 for a ledger commit, 0 for scrubbing. -/
def State.urgency (s : State) (kind i : Nat) (q : NetReq) : Nat :=
  match q.cls with
  | .frx => fillUrgency q.fill (s.rget Fd.PNW_URG_CTL_FRX_T1) (s.rget Fd.PNW_URG_CTL_FRX_T2) (s.rget Fd.PNW_URG_CTL_FRX_T3)
  | .hst => fillUrgency q.fill (s.rget Fd.PNW_URG_CTL_HST_T1) (s.rget Fd.PNW_URG_CTL_HST_T2) (s.rget Fd.PNW_URG_CTL_HST_T3)
  | .mnt => match q.work with
    | .ledger => 3
    | .scrub => 0
    | .refresh => if kind = 0 then min 3 (s.chanPostponed i / 2) else 0
  | _ => 0
/-- A request that has waited 4,096 cycles is promoted; an instance grants one promoted request a round (R299). -/
def State.reqPromoted (s : State) (kind i : Nat) (q : NetReq) : Bool := decide (4096 ≤ q.waited) && !(s.inst kind i).promoted
/-- Priority level of a waiting request (Table 09-6). -/
def State.reqLevel (s : State) (kind i : Nat) (q : NetReq) : Nat :=
  let rt := classRealTime q.cls
  let budget := s.inBudget kind i q.cls
  if s.reqPromoted kind i q then 0
  else if s.slotClass kind (s.inst kind i).slot = classCode q.cls && budget then 1
  else if rt && s.urgency kind i q = 3 then 2
  else if rt && s.urgency kind i q = 2 && budget then 3
  else if budget then 4
  else 5
/-- Places a source stands behind the rotating pointer (R294). -/
def RegInst.turn (x : RegInst) (src : Nat) : Nat := (src + 256 - (x.last + 1) % 256) % 256
/-- Whether `a` is granted before `b`: the higher level, among promoted requests the older, and within a level the next in rotating
order. -/
def State.grantBefore (s : State) (kind i : Nat) (a b : NetReq) : Bool :=
  let x := s.inst kind i
  let la := s.reqLevel kind i a
  let lb := s.reqLevel kind i b
  decide (la < lb) || (la == lb && (if la = 0 && a.waited != b.waited then decide (b.waited < a.waited) else decide (x.turn a.src < x.turn b.src)))
/-- The request an instance grants in this cycle. -/
def State.grantWinner (s : State) (kind i : Nat) (l : List NetReq) : Option NetReq :=
  l.foldl (fun best q => match best with
    | some b => if s.grantBefore kind i q b then some q else some b
    | none => some q) none
/-- The pointer advances by one slot whether or not the resource grants; at slot 0 a round begins. -/
def RegInst.next (x : RegInst) : RegInst :=
  if x.slot = 63 then { x with slot := 0, grants := [], promoted := false } else { x with slot := x.slot + 1 }
def State.setInst (s : State) (kind i : Nat) (x : RegInst) : State :=
  { s with pnw.insts := spPut (fun _ => RegInst.init) s.pnw.insts (kind * 1024 + i) x }
/-- One resource cycle: the winner is counted in its class, and at level 0 or 5 in PNW_REG_STAT. -/
def State.resourceCycle (s : State) (kind i : Nat) (l : List NetReq) : State :=
  let x := s.inst kind i
  match s.grantWinner kind i l with
  | none => s.setInst kind i x.next
  | some q =>
    let lv := s.reqLevel kind i q
    let t := s.setInst kind i ({ x with grants := spMod (fun _ => 0) x.grants (classCode q.cls) (· + 1), last := q.src, promoted := x.promoted || lv == 0 } : RegInst).next
    if lv = 0 then t.radd (Fd.PNW_REG_STAT_PROMOTED kind) 1
    else if lv = 5 then t.radd (Fd.PNW_REG_STAT_BG_GRANTS kind) 1 else t

end Sys2Proof.Machine
end

