-- ==== Sys2Proof/Machine/Network.lean ====
section
/-!
DEFINITION. The package network (chapter 09): replays, link retrains and repairs, router failures and routes, the drain of a
Frond, and regulation.
-/

namespace Sys2Proof.Machine

/-! ## Links and routes (R279, R281, R286–R288) -/

/-- Link of a tower between two of its routers, quadrant routers 0–3 and hub-link router 4 (R304). -/
def routerLink (a b : Nat) : Nat :=
  match min a b, max a b with
  | 0, 1 => 0 | 0, 2 => 1 | 0, 3 => 2 | 1, 2 => 3 | 1, 3 => 4 | 2, 3 => 5
  | q, _ => 6 + q

/-- Lower-numbered end of a tower network link. -/
def linkEnd (l : Nat) : Nat :=
  match l with
  | 0 => 0 | 1 => 0 | 2 => 0 | 3 => 1 | 4 => 1 | 5 => 2
  | _ => l - 6

def netLinkLoc (t l lane : Nat) : Loc := locFrond (4 * t + linkEnd l) (0xB0 + l) lane 0xFFFF
def towerLinkLoc (t lane : Nat) : Loc := locHub t 0x01 lane 0xFFFF
/-- A router's location: a quadrant's, or the hub-link router in region 0x04 (R304). -/
def routerLoc (t k : Nat) : Loc := ⟨1, t, 0, k, 0xA0, 0xFF, 0xFFFF⟩

def State.linkRetired (s : State) (t l : Nat) : Bool := nbit (s.rget (Fd.PNW_LINK_STAT_RETIRED t)) l
/-- Both routers work and the link between them is in service. -/
def State.hopOk (s : State) (t a b : Nat) : Bool :=
  a != b && !s.pnw.routersBad.contains (t * 5 + a) && !s.pnw.routersBad.contains (t * 5 + b) &&
    !s.linkRetired t (routerLink a b) && !s.pnw.retraining.contains (t * 10 + routerLink a b)

/-- Length of the shortest path over links in service, at most `n` hops. -/
def State.pathLen (s : State) (t : Nat) : Nat → Nat → Nat → Option Nat
  | 0, _, _ => none
  | n + 1, a, b =>
    if s.hopOk t a b then some 1
    else ((List.range 5).filterMap (fun c => if s.hopOk t a c then (s.pathLen t n c b).map (· + 1) else none)).foldl
      (fun m x => match m with
        | none => some x
        | some y => some (min x y)) none

/-- Next hop of a route: the shortest path, the lowest-numbered intermediate router among equals (R281). -/
def State.nextHop (s : State) (t a b : Nat) : Option Nat :=
  if s.hopOk t a b then some b
  else
    match s.pathLen t 4 a b with
    | none => none
    | some n => (List.range 5).find? (fun c => s.hopOk t a c && s.pathLen t 4 c b == some (n - 1))

/-- The five route tables of a tower, written together (R281). -/
def State.routeTables (s : State) (t : Nat) : State :=
  { s with pnw.routes := (List.range 25).foldl (fun m i =>
      spPut (fun _ => 0) m (t * 25 + i) (match s.nextHop t (i / 5) (i % 5) with
        | some c => c + 1
        | none => 0)) s.pnw.routes }

/-- ROUTE_TABLE_WRITE (R281): detours are published (R214). A route change finds no packet on its way: accesses are performed as they
are given (R282; assumption 123). -/
def execRouteTableWrite (t : Nat) (s : State) : Out :=
  .next (if s.towerUp t then (s.routeTables t).distBump else s)

/-- Location of a link's faults: the router port, the tower link, the Frond's interface or the slice's queue (R294). -/
def linkLoc (link : Nat) : Loc :=
  if link < 40 then netLinkLoc (link / 10) (link % 10) 0
  else if link < 44 then towerLinkLoc (link - 40) 0
  else if link < 60 then locFrond (link - 44) 0xA1 0 0xFFFF
  else queueLoc link
/-- CRC failures of a link within the last 1 ms. -/
def State.linkCrc (s : State) (link : Nat) : Nat := (s.pnw.crcFails.filter (fun p => p.1 == link && decide (s.clock < p.2 + 25000))).length
/-- A CRC failure of a link: 16 within 1 ms begin its retrain (R286). -/
def State.crcFailed (s : State) (link : Nat) : State :=
  let s := { s with pnw.crcFails := (link, s.clock) :: s.pnw.crcFails }
  if s.linkCrc link ≥ 16 then { s with pnw.retraining := insNat s.pnw.retraining link } else s
/-- A request crosses the dual-clock queue of its link: held there while the link is retrained, else read at once (R286, R289). -/
def State.crossing (s : State) (link : Nat) (req : Option CrossReq) : State :=
  match req with
  | none => s
  | some a =>
    if link < 40 then s
    else
      let s := s.queuePut link a.agent (s.urgency 2 0 ⟨0, agentClass a.agent false, 0, a.fill, .scrub⟩)
      if s.pnw.retraining.contains link then s else s.queueDrain link

/-- FLIT_REPLAY (R286, R291): a flit whose CRC failed is sent again and takes effect once; a tower link's replays are counted. `req`: the
requester whose request it carries through the dual-clock queue of the link, where a full queue makes its writer wait (R289). -/
def execFlitReplay (link : Nat) (req : Option CrossReq) (s : State) : Out :=
  .next (
    let t := linkTower link
    if !s.towerUp t || (req.isSome && s.queueFull link) then s
    else
      let s := (s.injTransfer (linkLoc link)).crcFailed link
      let s := if 40 ≤ link && link < 44 then s.radd (Fd.PNW_LINK_STAT_REPLAYS t) 1 else s
      s.crossing link req)

/-- A quadrant router is out of every route: its Frond, its 8 channels and its bank groups go with it (R288). -/
def State.quadrantLost (s : State) (t q : Nat) : State :=
  let s := { s with pnw.routersBad := insNat s.pnw.routersBad (t * 5 + q) }
  let s := s.fenceFrond (4 * t + q) 0x0606 (routerLoc t q) false
  let s := (List.range 8).foldl (fun s j => s.fenceChannel (32 * t + 8 * q + j) 0x0607 (sliceLoc (32 * t + 8 * q + j) 0x03) false) s
  let keys := (List.range 32).map (bgKey t 0 q) ++ (List.range 32).map (bgKey t 1 q)
  let s := s.neitherMode t q
  { s with thl.unavail := keys.foldl insNat s.thl.unavail }.distBump

/-- A router fails: a quadrant's, or the hub-link router, whose tower is fenced (R288). -/
def State.routerFailed (s : State) (t k : Nat) : State :=
  if t < s.towers && k < 5 then
    if k = 4 then ({ s with pnw.routersBad := insNat s.pnw.routersBad (t * 5 + 4) } : State).fenceTower t 0x0606 (routerLoc t 4) false
    else s.quadrantLost t k
  else s

/-- ROUTER_FAILED (R288). -/
def execRouterFailed (t k : Nat) (s : State) : Out := .next (if s.towerUp t then s.routerFailed t k else s)

/-- A quadrant whose four links are retired is unreachable (R288). -/
def State.quadrantCheck (s : State) (t q : Nat) : State :=
  if ((List.range 5).filter (· != q)).all (fun c => s.linkRetired t (routerLink q c)) && !s.pnw.routersBad.contains (t * 5 + q) then
    s.quadrantLost t q
  else s

/-- Lanes of a link that failed so far, with one more (R286). -/
def State.laneAdd (s : State) (k lane : Nat) : State :=
  { s with pnw.laneMap := spPut (fun _ => []) s.pnw.laneMap k (spGet (fun _ => []) s.pnw.laneMap k ++ [lane]) }
/-- The lane map of a link is committed: its failed lanes counted, then named. -/
def State.laneCommit (s : State) (k used : Nat) : State := s.commit [⟨3, k, false, used :: spGet (fun _ => []) s.pnw.laneMap k, 192⟩]

/-- One failed lane of a tower network link: its spare, or the link is retired (R286, R287). -/
def State.netLane (s : State) (t l lane : Nat) : State :=
  let k := t * 10 + l
  let used := spGet (fun _ => 0) s.pnw.lanesBad k
  if s.linkRetired t l then s
  else if used < 1 then
    let s := ({ s with pnw.lanesBad := spPut (fun _ => 0) s.pnw.lanesBad k 1 } : State).laneAdd k lane
    ((s.raise (recDegr 0x0603 (netLinkLoc t l lane))).laneCommit k 1).zeroReserve 6 k (netLinkLoc t l 0xFF)
  else
    let s := s.rbit (Fd.PNW_LINK_STAT_RETIRED t) l true
    let loc := netLinkLoc t l 0xFF
    let s := ((s.raise ⟨0x0604, loc, 2, .engine loc, none, false, true, false, false⟩).addFence (.engine loc)).laneCommit k 2
    (List.range 4).foldl (fun s q => s.quadrantCheck t q) s

/-- A failed lane of a tower link that a spare replaces (R287). -/
def State.towerSpare (s : State) (t lane used : Nat) : State :=
  let s := (s.raise (recDegr 0x0603 (towerLinkLoc t lane))).laneCommit (40 + t) used
  if used = 2 then s.zeroReserve 6 (40 + t) (towerLinkLoc t 0xFF) else s
/-- A failed lane with no spare left: the link narrows; below 20 lanes the tower is fenced (R287). -/
def State.towerNarrow (s : State) (t lane used : Nat) : State :=
  let s := s.laneCommit (40 + t) used
  if s.rget (Fd.PNW_LINK_STAT_FENCED t) = 1 then s
  else if used > 22 then (s.rset (Fd.PNW_LINK_STAT_FENCED t) 1).fenceTower t 0x0605 (towerLinkLoc t lane) true
  else (s.rset (Fd.PNW_LINK_STAT_LANES t) (42 - used)).distBump
/-- One failed lane of a tower link: a spare, or it is dropped and the link narrows (R287). -/
def State.towerLane (s : State) (t lane : Nat) : State :=
  let used := spGet (fun _ => 0) s.pnw.lanesBad (40 + t) + 1
  let s := ({ s with pnw.lanesBad := spPut (fun _ => 0) s.pnw.lanesBad (40 + t) used } : State).laneAdd (40 + t) lane
  if used ≤ 2 then s.towerSpare t lane used else s.towerNarrow t lane used

/-- A failed lane of a Frond's interface: its spare, or the link is retired; nothing else reaches the Frond (R286, R287; assumption 122). -/
def State.stubLane (s : State) (f lane : Nat) : State :=
  let k := 44 + f
  let loc := locFrond f 0xA1 lane 0xFFFF
  if spGet (fun _ => 0) s.pnw.lanesBad k < 1 then
    (((({ s with pnw.lanesBad := spPut (fun _ => 0) s.pnw.lanesBad k 1 } : State).laneAdd k lane).raise (recDegr 0x0603 loc)).laneCommit k 1).zeroReserve
      6 k loc
  else if s.fencedIn (.frond f) then s
  else ((s.raise ⟨0x0604, loc, 2, .engine loc, none, false, true, false, false⟩).addFence (.engine loc)).fenceFrond f 0x0604 loc true

/-- NETWORK_LINK_RETRAIN (R286, R287): the retrain of a link ends, with the lanes that failed their test; what its queue held goes on. -/
def execNetworkLinkRetrain (link : Nat) (failed : List Nat) (s : State) : Out :=
  .next (
    if !s.pnw.retraining.contains link then s
    else
      let s := { s with pnw.retraining := s.pnw.retraining.filter (· != link), pnw.crcFails := s.pnw.crcFails.filter (fun p => p.1 != link) }
      let s := if link < 40 then failed.foldl (fun s lane => s.netLane (link / 10) (link % 10) lane) s
        else if link < 44 then failed.foldl (fun s lane => s.towerLane (link - 40) lane) s
        else if link < 60 then failed.foldl (fun s lane => s.stubLane (link - 44) lane) s
        else s
      s.queueDrain link)

/-! ## The drain (R291, R292) -/

def stubLoc (f : Nat) : Loc := locFrond f 0xA1 0xFF 0xFFFF

/-- Reset is applied to the Frond (R292 step 5): its units lose what they hold, the local store aside until a restart. -/
def State.applyReset (s : State) (f : Nat) : State :=
  (((((s.dropHeld f).dmaOut f).logicLost f).queueDrain (44 + f)).queueReset (44 + f)).modFr f (fun q => { q with draining := false, inReset := true, stubFenced := true, sbuf := [], heldAcc := [], watch := [] })

/-- FROND_DRAIN (R292): the stub is fenced, what was accepted completes, and reset is applied; during a sleep entry or wake it
waits for the stable state. -/
def execFrondDrain (f : Nat) (s : State) : Out :=
  .next (
    if f < s.fronds then
      let s := if (s.fr f).stubFenced then s else s.beginDrain f
      if (s.fr f).draining then (s.sbDrain f).applyReset f else s
    else s)

/-- DRAIN_TIMEOUT (R292 step 4): 100 µs after the drain began, late responses are discarded with the record; reset follows. -/
def execDrainTimeout (f : Nat) (s : State) : Out :=
  .next (
    if (s.fr f).draining && s.clock ≥ (s.fr f).drainAt + 2500 then ((s.sbDrain f).raise (recNote 0x0608 (stubLoc f))).applyReset f else s)

/-! ## Regulation (R296–R302) -/

/-- REQUEST_PROMOTION (R297–R299): a resource cycle of an instance with the requests waiting there; a promoted one among them, one that
has waited 4,096 cycles, is granted at level 0 before the others. -/
def execRequestPromotion (kind inst : Nat) (reqs : List NetReq) (s : State) : Out :=
  .next (if kind < 5 && inst < s.instances kind then s.resourceCycle kind inst reqs else s)

/-- Slots of a table word whose bit 3 is set (R302). -/
def slotBad (w : Nat) : Bool := (List.range 16).any (fun i => nbit w (4 * i + 3))

/-- Check and accept the table of one kind (R302). -/
def State.slotCommit (s : State) (k : Nat) : State :=
  let ws := (List.range 4).map (fun w => s.rget (Fd.PNW_SLOT_SLOTS k w))
  if ws.any slotBad then s.rbit Fd.PNW_SLOT_CTL_REFUSED k true
  else
    { s with pnw.slotsNew := (List.range 4).foldl (fun m w => spPut (fun _ => 0#64) m (k * 4 + w) (BitVec.ofNat 64 (ws.getD w 0))) s.pnw.slotsNew }.rbit
      Fd.PNW_SLOT_CTL_PENDING k true

/-- SLOT_TABLE_COMMIT (R302): a write of COMMIT bits; a kind still pending latches its bit. -/
def execSlotTableCommit (bits : Nat) (s : State) : Out :=
  .next (
    if s.rget Fd.PNW_SLOT_CTL_LOCK = 1 then s
    else (bitsOf 5 bits).foldl (fun s k =>
      if nbit (s.rget Fd.PNW_SLOT_CTL_PENDING) k then { s with pnw.latched := s.pnw.latched ||| (1 <<< k) } else s.slotCommit k) s)

/-- Every instance of a kind has begun a round with the new table (R302). -/
def State.slotTake (s : State) (k : Nat) : State :=
  if nbit (s.rget Fd.PNW_SLOT_CTL_PENDING) k then
    { s with pnw.slots := (List.range 4).foldl (fun m w => spPut slotDefault m (k * 4 + w) (spGet (fun _ => 0#64) s.pnw.slotsNew (k * 4 + w))) s.pnw.slots }.rbit
      Fd.PNW_SLOT_CTL_PENDING k false
  else s

/-- SLOT_TABLE_LATCHED_COMMIT (R302): the commit in progress is taken by every instance, and the latched one is applied. -/
def execSlotTableLatchedCommit (k : Nat) (s : State) : Out :=
  .next (
    if k < 5 && nbit s.pnw.latched k then
      let s := s.slotTake k
      ({ s with pnw.latched := s.pnw.latched &&& (31 ^^^ (1 <<< k)) } : State).slotCommit k
    else s)

end Sys2Proof.Machine
end

