-- ==== Sys2Proof/Machine/Clock.lean ====
section
/-!
DEFINITION. A tick of the Night clock, 25 MHz, which every time stamp counts: what the block does while no command waits.
-/

namespace Sys2Proof.Machine

/-- One tick: the clock advances, every instance has begun a round with a slot table committed before (R302), and a Frond that is not
idle starts its count of idleness anew (R132). -/
def State.tick (s : State) : State :=
  let s := (List.range 5).foldl (fun (s : State) k => s.slotTake k) s
  let s := (List.range s.fronds).foldl (fun (s : State) f => s.idleMark f) s
  { s with clock := s.clock + 1 }

end Sys2Proof.Machine
end

