-- ==== Sys2Proof/Machine/Keys.lean ====
section
/-!
DEFINITION. Random bytes (R459), keys and the algorithms the security engine uses (R456–R462), as bytes.
-/

namespace Sys2Proof.Machine

/-- An ASCII string as bytes. -/
def ascii (t : String) : List Byte := t.toList.map (fun c => BitVec.ofNat 8 c.toNat)

/-- The algorithms, numbered for `Config.crypto`. -/
def algHkdf : Nat := 1
def algEcdsa : Nat := 2
def algHss : Nat := 3
def algKeystream : Nat := 4
def algGcmTag : Nat := 5
def algSha384 : Nat := 6
def algEcdh : Nat := 7
def algHmac : Nat := 8

/-- The first `n` bytes of an algorithm's output (assumption 6). -/
def cryptoN (alg n : Nat) (key msg : List Byte) : List Byte :=
  let out := Config.crypto alg key msg
  (List.range n).map (fun i => out.getD i 0#8)

def sha384 (m : List Byte) : List Byte := cryptoN algSha384 48 [] m
/-- A device key of Table 14-2 by its info string (R460). -/
def deviceKey (n : Nat) (info : List Byte) : List Byte := cryptoN algHkdf n (Config.fused 0) info
def devIdKey : List Byte := deviceKey 48 (ascii "fjardecen devid v1")
/-- AES-256-GCM: counter mode is an exclusive OR with the keystream of key and nonce. -/
def gcmCrypt (key nonce bytes : List Byte) : List Byte :=
  List.zipWith (fun a b => a ^^^ b) bytes (cryptoN algKeystream bytes.length key nonce)
def gcmTag (key nonce aad cipher : List Byte) : List Byte :=
  cryptoN algGcmTag 16 key (nonce ++ leBytes 8 aad.length ++ aad ++ cipher)

/-- The random source is in service (R459). -/
def State.rngOk (s : State) : Bool := s.rget Fd.SEC_STAT_RNG_OK == 1

/-- Random bytes: fresh words of the source (assumption 3). -/
def State.drawBytes : Nat → State → State × List Byte
  | 0, s => (s, [])
  | n + 1, s =>
    let (w, s) := s.fresh
    let (s, l) := s.drawBytes n
    (s, leBytes 8 w.toNat ++ l)

/-- A request for `8·n` bytes of randomness; the DRBG is reseeded every 2^20 requests (R459). -/
def State.random (s : State) (n : Nat) : Option (State × List Byte) :=
  if s.rngOk then
    some (({ s with sec.requests := (s.sec.requests + 1) % 2 ^ 20 } : State).drawBytes n)
  else none

/-- An ECDSA signature over SHA-384; `add` is the additional data of its nonce (R462). -/
def signEcdsa (key msg add : List Byte) : List Byte := cryptoN algEcdsa 96 key (sha384 msg ++ add)
/-- A signature the module makes: 48 bytes of the DRBG as additional data (R462). DESIGN CHOICE (assumption 130): while the source is refused
keys already held keep working (R459), and a signature is made without additional data. -/
def State.ecdsa (s : State) (key msg : List Byte) : State × List Byte :=
  match s.random 6 with
  | some (s, add) => (s, signEcdsa key msg add)
  | none => (s, signEcdsa key msg [])

/-- The security engine is being switched: requests for randomness, signatures, key exchange and SPDM wait (Table 20-4). -/
def State.secSwitching (s : State) : Bool := s.fwu.cur.isSome && s.fwu.todo.head? == some 0
/-- A fresh AES-256 key. -/
def State.newKey (s : State) : Option (State × List Byte) := s.random 4

/-- The public key of a private key, and the secret two of them share (ECDH P-384, Table 14-1). -/
def publicKey (priv : List Byte) : List Byte := cryptoN algEcdh 96 priv []
def sharedSecret (priv pub : List Byte) : List Byte := cryptoN algEcdh 48 priv pub

/-- Alias key (Table 14-2): it depends on the boot ROM and on the running security engine image. -/
def State.aliasKey (s : State) : List Byte :=
  deviceKey 48 (ascii "fjardecen alias v1" ++ sha384 (Config.fused 3) ++ sha384 ((spGet (fun _ => none) s.fwu.store 0).map FwImage.image |>.getD []))
/-- The DevID key issues the alias certificate at each First light and after each update of the security engine (R461). -/
def State.issueAlias (s : State) : State :=
  let r := s.ecdsa devIdKey (publicKey s.aliasKey)
  { r.1 with sec.aliasCert := publicKey s.aliasKey ++ r.2 }

def secLoc (e m p : Nat) : Loc := locHub 0x15 e m p
/-- The random source is refused: the record is raised when it fails, and a request is refused with its reason. -/
def rngReason : Nat := 0x0C06

end Sys2Proof.Machine
end

