-- ==== Sys2Proof/Machine/Manifest.lean ====
section
/-!
DEFINITION. Signed manifests (R463–R467), their bodies and chunk tags (R622–R624), the interface check (R625, R626), and packages
(R635).
-/

namespace Sys2Proof.Machine

/-- The number held in `n` bytes at offset `o`. -/
def rdLe (m : List Byte) (o n : Nat) : Nat := leNat (slice m o n)
/-- Bytes `o … o+n-1` are all 0. -/
def zeroAt (m : List Byte) (o n : Nat) : Bool := (slice m o n).all (· == 0#8)

/-! ## Fields of a manifest (Table 14-3, Table 20-2) -/

def manClass (m : List Byte) : Nat := rdLe m 6 1
def manKeyset (m : List Byte) : Nat := rdLe m 7 1
def manSvn (m : List Byte) : Nat := rdLe m 8 4
def manRevoke (m : List Byte) : Nat := rdLe m 12 1
def manImageLen (m : List Byte) : Nat := rdLe m 0x10 4
def manBodyLen (m : List Byte) : Nat := rdLe m 0x14 4
def manDigest (m : List Byte) : List Byte := slice m 0x40 48
def manNif (m : List Byte) : Nat := rdLe m 0x70 2
def manChunks (m : List Byte) : Nat := rdLe m 0x72 2
/-- Tag of chunk n (R623). -/
def manTag (m : List Byte) (n : Nat) : List Byte := slice m (0x80 + 8 * manNif m + 16 * n) 16
/-- Manifest bytes: the body and its two signatures (R463). -/
def manLen (m : List Byte) : Nat := manBodyLen m + 5812

/-- An interface entry: identifier, whether it uses the interface, major and minor version. -/
structure Iface where
  id : Nat
  uses : Bool
  major : Nat
  minor : Nat
  deriving DecidableEq, Repr

def manIfaces (m : List Byte) : List Iface :=
  (List.range (manNif m)).map (fun i =>
    let o := 0x80 + 8 * i
    ⟨rdLe m o 2, rdLe m (o + 2) 1 == 1, rdLe m (o + 6) 2, rdLe m (o + 4) 2⟩)

/-- Interface entries hold ROLE 0 or 1 and a reserved byte of 0. -/
def manIfacesOk (m : List Byte) : Bool :=
  (List.range (manNif m)).all (fun i => decide (rdLe m (0x82 + 8 * i) 1 ≤ 1) && zeroAt m (0x83 + 8 * i) 1)

/-- The body follows Table 14-3 and Table 20-2 (check 1 of R465, R622, R623), REVOKE aside. -/
def manFormat (m : List Byte) : Bool :=
  let used := 0x80 + 8 * manNif m + 16 * manChunks m
  rdLe m 0 4 == 0x4E4D4A46 && rdLe m 4 2 == 1 && decide (manClass m < 8) && decide (manKeyset m < 4) && decide (manRevoke m < 16) &&
    zeroAt m 0x0D 3 && zeroAt m 0x18 40 && decide (0x100 ≤ manBodyLen m) && decide (manBodyLen m ≤ 0x10000) && manBodyLen m % 16 == 0 &&
    m.length == manLen m && decide (manImageLen m ≤ 10354688) && decide (manNif m ≤ 32) && manChunks m == (manImageLen m + 4095) / 4096 &&
    zeroAt m 0x74 12 && manIfacesOk m && decide (used ≤ manBodyLen m) && zeroAt m used (manBodyLen m - used)

/-- REVOKE names the manifest's own set, or would leave none (R466). -/
def manRevokeBad (m : List Byte) (mask : Nat) : Bool := nbit (manRevoke m) (manKeyset m) || (mask ||| manRevoke m) % 16 == 15

def manBody (m : List Byte) : List Byte := m.take (manBodyLen m)

def State.arc (s : State) (c : Nat) : Nat := spGet (fun _ => 0) s.sec.arc c
def State.revoked (s : State) : Nat := s.rget Fd.SEC_STAT_REVOKED

/-- The checks of R465 in order on a manifest and its image: the reason of the first that fails. -/
def State.manCheck (s : State) (m image : List Byte) : Option Nat :=
  if !manFormat m || manRevokeBad m s.revoked then some 0x0C01
  else if nbit s.revoked (manKeyset m) then some 0x0C02
  else if !Config.verifies algEcdsa (Config.fused (16 + manKeyset m)) (manBody m) (slice m (manBodyLen m) 96) then some 0x0C03
  else if !Config.verifies algHss (Config.fused (32 + manKeyset m)) (manBody m) (slice m (manBodyLen m + 96) 5716) then some 0x0C04
  else if manSvn m < s.arc (manClass m) then some 0x0C05
  else if manDigest m != sha384 image || image.length != manImageLen m then some 0x0C03
  else none

/-- Tag of a chunk by its contents (R624). -/
def chunkTag (cls n : Nat) (chunk : List Byte) : List Byte :=
  (sha384 (leBytes 1 cls ++ leBytes 4 n ++ (chunk ++ List.replicate 4096 0#8).take 4096)).take 16

/-! ## Endpoints (R620, R621, R643, R565) -/

/-- The order in which an update takes the classes (Table 20-1). -/
def updateOrder : List Nat := [7, 6, 3, 4, 5, 2, 1, 0]
/-- Endpoints of a class in a variant, ascending index (Table 20-1). -/
def State.endpoints (s : State) (c : Nat) : List Nat :=
  match c with
  | 7 => List.range (8 * s.fronds)
  | 6 => List.range s.fronds
  | 3 => List.range s.piles
  | 4 => List.range s.part.fports ++ [16, 17]
  | 5 => [0]
  | 2 => List.range s.towers
  | 1 => List.range 4
  | 0 => [0]
  | _ => []

def stewardLoc (t : Nat) : Loc := ⟨1, t, 0, 5, 0xC0, 0xFF, 0xFFFF⟩
/-- Light-engine controller: 0–15 fabric, 16 host, 17 Night (R565). -/
def lightCtlLoc (e : Nat) : Loc := if e < 16 then ⟨4, e, 1, 0x3F, 3, 0xFF, 0xFFFF⟩ else ⟨5, e - 16, 1, 0x3F, 3, 0xFF, 0xFFFF⟩
/-- Location of an endpoint by class and index. -/
def endpointLoc (c i : Nat) : Loc :=
  match c with
  | 7 => locFrond (i / 8) (8 + i % 8) 4 0xFFFF
  | 6 => locFrond i 0x40 0xFF 0xFFFF
  | 3 => locPile i 0 0x3F 0x20 0xFF 0xFFFF
  | 4 => lightCtlLoc i
  | 5 => locHub 0x12 4 0xFF 0xFFFF
  | 2 => stewardLoc i
  | 1 => locHub 0x17 i 0xFF 0xFFFF
  | _ => secLoc 5 0xFF 0xFFFF

/-- A manifest is refused: counted, and recorded at the endpoint (R465, R486, R487). -/
def State.manRefused (s : State) (c reason : Nat) : State :=
  (s.radd Fd.SEC_ERR_STAT_REFUSED 1).raise (recNote reason (endpointLoc c 0))

/-! ## Compatibility (R625, R626) -/

/-- The interface of a USE entry that some PROVIDE entry of the set does not meet. -/
def incompatible (l : List Iface) : Option Nat :=
  (l.find? (fun u => u.uses && l.any (fun p => !p.uses && p.id == u.id && !(p.major == u.major && decide (u.minor ≤ p.minor))))).map Iface.id

/-- Every state an update passes through, by class: the first class and interface that fail (R626). `run`: interfaces of the running
image of a class; `new_`: of the included ones. -/
def orderCheck (run new_ : Nat → List Iface) : List Nat → List Nat → Option (Nat × Nat)
  | [], _ => none
  | k :: rest, done =>
    let set := (List.range 8).flatMap (fun c =>
      if done.contains c then new_ c else if c = k then run c ++ new_ c else run c)
    match incompatible set with
    | some i => some (k, i)
    | none => orderCheck run new_ rest (k :: done)

/-! ## Packages (R635) -/

/-- A component of a package. -/
structure Comp where
  cls : Nat
  off : Nat
  len : Nat
  img : FwImage
  deriving DecidableEq, Repr

/-- A component at an offset, where its length is that of its manifest and image. -/
def compAt (p : List Byte) (off len : Nat) : Option Comp :=
  let m := slice p off len
  let n := manLen m
  if off % 4096 = 0 && 4096 ≤ off && off + len ≤ p.length && decide (0x100 ≤ len) && decide (manBodyLen m ≤ 0x10000) && len == n + manImageLen m then
    some ⟨manClass m, off, len, ⟨m.take n, m.drop n⟩⟩
  else none

/-- No two components overlap or carry one class. -/
def compsApart : List Comp → Bool
  | [] => true
  | c :: l => l.all (fun d => c.cls != d.cls && (decide (c.off + c.len ≤ d.off) || decide (d.off + d.len ≤ c.off))) && compsApart l

def collect {α : Type} : List (Option α) → Option (List α)
  | [] => some []
  | none :: _ => none
  | some x :: l => (collect l).map (fun r => x :: r)

/-- The components of a package, or none where it is malformed; its reserved fields are ignored (R8). -/
def packageComps (p : List Byte) : Option (List Comp) :=
  let n := rdLe p 6 1
  if rdLe p 0 4 == 0x4B504A46 && rdLe p 4 2 == 1 && decide (1 ≤ n) && decide (n ≤ 8) &&
      decide (0x1000 ≤ p.length) && decide (p.length ≤ 96 * 2 ^ 20) then
    match collect ((List.range n).map (fun i => compAt p (rdLe p (0x10 + 8 * i) 4) (rdLe p (0x14 + 8 * i) 4))) with
    | some l => if compsApart l then some l else none
    | none => none
  else none

end Sys2Proof.Machine
end

