-- ==== Sys2Proof/Machine/Blocks.lean ====
section
/-!
DEFINITION. Blocks of a fabric lane (R417–R420): the four codewords of a block, the scrambler of a lane, and the deskew that puts the lanes of
a link together into its flit stream, which is cut into flits (R421).
-/

namespace Sys2Proof.Machine

/-! ## The code of a block: RS(128,122), generator roots α^0 to α^5 (R417) -/

/-- Syndromes 0 to 5 of a codeword, symbol 0 the highest-degree coefficient. -/
def fecSyndromes (w : List Nat) : List Nat := (List.range 6).map (fun j => w.foldl (fun a c => gfMul (gfPow j) a ^^^ c) 0)
/-- The inverse of a field element: its power 254. -/
def gfInv (a : Nat) : Nat :=
  let a2 := gfMul a a
  let a4 := gfMul a2 a2
  let a8 := gfMul a4 a4
  let a16 := gfMul a8 a8
  let a32 := gfMul a16 a16
  let a64 := gfMul a32 a32
  gfMul a2 (gfMul a4 (gfMul a8 (gfMul a16 (gfMul a32 (gfMul a64 (gfMul a64 a64))))))

/-- Coefficients, highest degree first, of a multiple of the polynomial whose roots are the places of three, two or one symbols in error; none
where the syndromes are not those of so many. -/
def fecLocator (y : List Nat) : Option (List Nat) :=
  match y with
  | [a, b, c, d, e, f] =>
    let det (p q r t u v w x z : Nat) : Nat :=
      gfMul p (gfMul u z ^^^ gfMul v x) ^^^ gfMul q (gfMul t z ^^^ gfMul v w) ^^^ gfMul r (gfMul t x ^^^ gfMul u w)
    let d3 := det a b c b c d c d e
    let d2 := gfMul a c ^^^ gfMul b b
    if d3 ≠ 0 then some [d3, det a b d b c e c d f, det a d c b e d c f e, det d b c e c d f d e]
    else if d2 ≠ 0 then some [d2, gfMul a d ^^^ gfMul b c, gfMul c c ^^^ gfMul b d]
    else if a ≠ 0 then some [a, b]
    else none
  | _ => none

/-- Place of a symbol in the code: symbol p is the coefficient of x^(127 − p). -/
def fecPlace (p : Nat) : Nat := gfPow (127 - p)
/-- The symbols of a word that a locator names. -/
def fecRoots (l : List Nat) : List Nat := (List.range 128).filter (fun p => l.foldl (fun a c => gfMul a (fecPlace p) ^^^ c) 0 == 0)
/-- The error in symbol p, the other symbols in error being `others`. -/
def fecValue (y : List Nat) (p : Nat) (others : List Nat) : Nat :=
  let x := others.foldl (fun y o => (y.zip (y.drop 1)).map (fun q => q.2 ^^^ gfMul (fecPlace o) q.1)) y
  gfMul (x.getD 0 0) (gfInv (others.foldl (fun a o => gfMul a (fecPlace p ^^^ fecPlace o)) 1))
/-- A codeword after its correction, and the symbols corrected, at most 3; none where it cannot be decoded (R419). -/
def fecDecode (w : List Nat) : Option (List Nat × Nat) :=
  let y := fecSyndromes w
  if y.all (· == 0) then some (w, 0)
  else match fecLocator y with
    | none => none
    | some l =>
      let roots := fecRoots l
      let w' := roots.foldl (fun w p => w.set p (w.getD p 0 ^^^ fecValue y p (roots.filter (· != p)))) w
      if roots.length + 1 == l.length && (fecSyndromes w').all (· == 0) then some (w', roots.length) else none

/-- Codeword k of a block: bytes k, k + 4, … (R417). -/
def blockWord (b : List Byte) (k : Nat) : List Nat := (List.range 128).map (fun i => (b.getD (4 * i + k) 0#8).toNat)
/-- The 488 data bytes of a block and the symbols corrected in it; none where a codeword cannot be decoded (R417, R419). -/
def blockDecode (b : List Byte) : Option (List Byte × Nat) :=
  match fecDecode (blockWord b 0), fecDecode (blockWord b 1), fecDecode (blockWord b 2), fecDecode (blockWord b 3) with
  | some w0, some w1, some w2, some w3 =>
    let ws := [w0.1, w1.1, w2.1, w3.1]
    some ((List.range 488).map (fun j => BitVec.ofNat 8 ((ws.getD (j % 4) []).getD (j / 4) 0)), w0.2 + w1.2 + w2.2 + w3.2)
  | _, _, _, _ => none

/-! ## The scrambler of a lane (R418) -/

/-- One bit of the scrambler x^31 + x^28 + 1: the state after it and the bit. DESIGN CHOICE (assumption 126): the newest bit enters at bit 0, and
the taps are bits 30 and 27. -/
def prbsBit (x : Nat) : Nat × Nat :=
  let o := (x / 2 ^ 30 + x / 2 ^ 27) % 2
  ((2 * x + o) % 2 ^ 31, o)
/-- n bits, the first in bit 0. -/
def prbsBits : Nat → Nat → Nat × Nat
  | 0, x => (x, 0)
  | n + 1, x =>
    let (x, o) := prbsBit x
    let (x, r) := prbsBits n x
    (x, o + 2 * r)
/-- Bytes with the scrambler of a lane taken off, and its state after them. -/
def descramble : List Byte → Nat → List Byte × Nat
  | [], x => ([], x)
  | b :: l, x =>
    let (x, k) := prbsBits 8 x
    let (r, x) := descramble l x
    ((b ^^^ BitVec.ofNat 8 k) :: r, x)
/-- State of a lane's scrambler at the start of a block with BSEQ = 0. -/
def prbsSeed (lane : Nat) : Nat := 0x7FFFFFF0 ||| lane

/-! ## Lanes and their blocks (R417–R420) -/

def Link.lane (q : Link) (p : Nat) : Lane := spGet (fun _ => Lane.init) q.lanes p
/-- Physical lanes of a link. -/
def State.linkLanes (s : State) (l : Nat) : List Nat := (List.range (s.linkWidth l)).map (· + 4 * (l % 2))
/-- Every lane of the link has block lock. -/
def State.allLocked (s : State) (l : Nat) : Bool := (s.linkLanes l).all (fun p => ((s.link l).lane p).lock)

/-- SYNC of the decoded bytes of a block. -/
def blockSync (b : List Byte) : Bool := rdLe b 0 2 == 0x5A3C
/-- Block lock (R419): gained after 64 good blocks in succession, lost after 16 others. -/
def Lane.count (a : Lane) (good : Bool) : Lane :=
  let a := if good then { a with good := min 64 (a.good + 1), bad := 0 } else { a with good := 0, bad := min 16 (a.bad + 1) }
  if a.good ≥ 64 then { a with lock := true } else if a.bad ≥ 16 then { a with lock := false } else a
/-- The 480 bytes of a block enter the buffer of its lane under their BSEQ (R418, R420): those of a decoded block, and a gap for one that was
discarded, whose count follows that of the block before it. A lane takes part from its first block with BSEQ = 0 on. -/
def Lane.take (a : Lane) (dec : Option (List Byte)) : Lane :=
  match dec with
  | some b =>
    let lane := nfld (rdLe b 2 1) 2 0
    let seq := rdLe b 3 1
    match (if seq = 0 then some (prbsSeed lane) else a.scr) with
    | none => { a with logical := lane, bseq := seq }
    | some x =>
      let (d, x) := descramble (b.drop 8) x
      { a with scr := some x, logical := lane, bseq := seq, blocks := a.blocks ++ [⟨seq, d.map some⟩] }
  | none =>
    let seq := (a.bseq + 1) % 256
    match (if seq = 0 then some (prbsSeed a.logical) else a.scr) with
    | none => { a with bseq := seq }
    | some x => { a with scr := some (prbsBits 3840 x).1, bseq := seq, blocks := a.blocks ++ [⟨seq, List.replicate 480 none⟩] }

/-- Skew the receiver tolerates, in blocks (R420). -/
def maxSkew : Nat := 8
/-- The physical lane that carries logical lane k (R420). -/
def Link.carrier (q : Link) (lanes : List Nat) (k : Nat) : Option Lane := (lanes.map q.lane).find? (fun a => a.logical == k && !a.blocks.isEmpty)
/-- The bytes of block `seq` of every lane, in logical order; none until the last of them has come. -/
def Link.row (q : Link) (lanes : List Nat) (seq : Nat) : Option (List (List (Option Byte))) :=
  (List.range lanes.length).mapM (fun k =>
    match q.carrier lanes k with
    | none => none
    | some a => match a.blocks.find? (fun b => b.seq == seq) with
      | some b => some b.bytes
      | none => none)
/-- Flit-stream bytes of a row: byte b travels on logical lane (b >> 5) mod W (R420). -/
def stripe (row : List (List (Option Byte))) : List (Option Byte) :=
  ((List.range 15).map (fun i => (row.map (fun d => (d.drop (32 * i)).take 32)).flatten)).flatten
/-- Whole flits at the front of a stream, and the bytes after them (R421). -/
def cutFlits : Nat → List (Option Byte) → List (List (Option Byte)) × List (Option Byte)
  | 0, b => ([], b)
  | n + 1, b =>
    if b.length < 256 then ([], b)
    else
      let (f, r) := cutFlits n (b.drop 256)
      (b.take 256 :: f, r)
/-- The next row of blocks leaves the lanes for the flit stream, where every lane holds it. DESIGN CHOICE (assumption 126): a link begins at a row
with BSEQ = 0, and a flit begins there. -/
def Link.deskew (q : Link) (lanes : List Nat) : Link :=
  let seq := q.nextB.getD 0
  match q.row lanes seq with
  | none => q
  | some row =>
    let (f, rest) := cutFlits 16 ((if q.nextB.isSome then q.stream else []) ++ stripe row)
    { q with nextB := some ((seq + 1) % 256), stream := rest, flits := q.flits ++ f
             lanes := lanes.foldl (fun m p =>
               let a := spGet (fun _ => Lane.init) m p
               spPut (fun _ => Lane.init) m p { a with blocks := a.blocks.filter (fun b => b.seq != seq) }) q.lanes }
/-- A lane that runs more than 8 blocks ahead of another gives up its oldest, and the link is no longer deskewed (R420). -/
def Link.overrun (q : Link) (p : Nat) : Link :=
  let a := q.lane p
  if a.blocks.length > maxSkew + 1 then
    { q with nextB := none, stream := [], lanes := spPut (fun _ => Lane.init) q.lanes p { a with blocks := a.blocks.drop 1 } }
  else q

/-! ## Flits of the stream (R421, R430) -/

/-- The 256 bytes of a flit, where no block it came in was discarded. -/
def flitBytes (f : List (Option Byte)) : Option (List Byte) := f.mapM id
/-- What the receiver makes of the next flit: its link header, its message area and whether its CRC-32C is right. Where the flit stream holds
one, its bytes say so (a data flit's decrypted area is the command's); a flit with a gap has no right CRC. -/
def Link.flitSeen (q : Link) (w0 w1 : W64) (area : List Byte) (crcOk : Bool) : W64 × W64 × List Byte × Bool :=
  match q.flits with
  | [] => (w0, w1, area, crcOk)
  | f :: _ =>
    match flitBytes f with
    | none => (w0, w1, area, false)
    | some b =>
      let h := BitVec.ofNat 64 (rdLe b 0 8)
      (h, BitVec.ofNat 64 (rdLe b 8 8), if fld h 63 60 = 2 then slice b 16 224 else area, crc32c (b.take 252) == rdLe b 252 4)

end Sys2Proof.Machine
end

