-- ==== Sys2Proof/Machine/LedgerOps.lean ====
section
/-!
DEFINITION. Live ledger records (R571, R579): of the copies of an item whose CRC and MAC are correct and whose transaction is
sealed, the one with the highest SEQ.
-/

namespace Sys2Proof.Machine

def State.ldgCopies (s : State) : List LCopy := s.ldg.halfA ++ s.ldg.halfB
/-- A sealed transaction has a SEAL record with a correct CRC and MAC in either half (R579). -/
def State.txnSealed (s : State) (txn : Nat) : Bool :=
  s.ldgCopies.any (fun c => c.txn == txn && c.sealed && c.crcOk && c.macOk)
def State.copyGood (s : State) (c : LCopy) : Bool := c.crcOk && c.macOk && (c.txn == 0 || s.txnSealed c.txn)
/-- The committed record of an item with the highest SEQ. -/
def State.ldgLast (s : State) (sec key : Nat) : Option LCopy :=
  s.ldgCopies.foldl (fun best c =>
    if c.w.section_ == sec && c.w.key == key && s.copyGood c then
      match best with
      | some b => if b.seq < c.seq then some c else best
      | none => some c
    else best) none
/-- The live record of an item that exists (R571). -/
def State.ldgLive (s : State) (sec key : Nat) : Option LWrite :=
  match s.ldgLast sec key with
  | some c => if c.w.delete then none else some c.w
  | none => none
/-- Keys of a section that have a live record. -/
def State.ldgKeys (s : State) (sec : Nat) : List Nat :=
  ((s.ldgCopies.filter (fun c => c.w.section_ == sec)).foldl (fun l c => insNat l c.w.key) []).filter (fun k => (s.ldgLive sec k).isSome)

/-! ## Writing (R570, R572, R573) -/

/-- The first `n` records of a commit are written to every half that accepts records: consecutive SEQ values, one TXN for a
transaction, SEAL on its last record. -/
def State.ldgAppend (s : State) (ws : List LWrite) (n : Nat) : State :=
  let first := s.ldg.seq + 1
  let txn := if ws.length ≤ 1 then 0 else first
  let cs := (List.range (min n ws.length)).reverse.filterMap (fun i =>
    (ws[i]?).map (fun w => (⟨w, first + i, txn, decide (1 < ws.length) && decide (i + 1 = ws.length), true, true⟩ : LCopy)))
  let b := (ws.take n).foldl (fun a w => a + w.bytes) 0
  let add (ok : Bool) : Nat := if ok then b else 0
  { s with ldg.seq := s.ldg.seq + cs.length
           ldg.halfA := if s.ldg.okA then cs ++ s.ldg.halfA else s.ldg.halfA
           ldg.halfB := if s.ldg.okB then cs ++ s.ldg.halfB else s.ldg.halfB
           ldg.usedA := s.ldg.usedA + add s.ldg.okA, ldg.writtenA := s.ldg.writtenA + add s.ldg.okA
           ldg.usedB := s.ldg.usedB + add s.ldg.okB, ldg.writtenB := s.ldg.writtenB + add s.ldg.okB }

end Sys2Proof.Machine
end

