-- ==== Sys2Proof/Machine/Descriptors.lean ====
section
/-!
DEFINITION. Descriptor layouts (R335–R342 and the tables of the classes): the fields each operation has, and the cases in
which a descriptor is malformed (R337). A bit that no field of the layout covers is reserved.
-/

namespace Sys2Proof.Machine

/-- Mask of a field in a word. -/
def fmask (hi lo : Nat) : Nat := (2 ^ (hi + 1 - lo) - 1) * 2 ^ lo

/-- The bits of words 1 to 7 that fields cover, by class and operation: Tables 10-10 to 10-13, 11-3, 11-4, 12-2, 13-10,
20-6, and R349, R351, R474, R559. `none`: no such operation. -/
def descMasks (cls op : Nat) : Option (List Nat) :=
  match cls, op with
  | 0, 0 => some []
  | 0, 1 => some []
  | 0, 2 => some [fmask 13 0, fmask 47 0, fmask 47 0]
  | 1, 0 => some [fmask 63 48 + fmask 30 0, fmask 47 0, fmask 47 0, fmask 13 0]
  | 1, 1 => some [fmask 47 0]
  | 1, 2 => some [fmask 7 0]
  | 2, 0 => some [fmask 36 16 + fmask 15 0 - fmask 23 23]
  | 2, 1 => some [fmask 15 0]
  | 2, 2 => some [fmask 63 52 + fmask 31 20 + fmask 18 16 + fmask 13 0, fmask 47 0, fmask 47 0, fmask 47 0, fmask 47 0,
      fmask 47 0, fmask 31 0]
  | 2, 3 => some [fmask 15 0, fmask 63 0, fmask 63 0]
  | 2, 4 => some [fmask 15 0, fmask 63 0]
  | 2, 5 => some [fmask 15 0, fmask 23 0]
  | 2, 6 => some [fmask 15 0]
  | 3, 1 => some [fmask 45 32 + fmask 19 14 + fmask 10 8 + fmask 3 0, fmask 63 0, fmask 63 0, fmask 31 0]
  | 3, 2 => some [fmask 45 32 + fmask 19 14 + fmask 10 8 + fmask 3 0, fmask 63 0, fmask 63 0, fmask 31 0]
  | 4, 0 => some [fmask 16 16 + fmask 12 0, fmask 63 0, fmask 63 0]
  | 4, 1 => some [fmask 12 0]
  | 4, 2 => some [fmask 12 0, fmask 31 0]
  | 4, 3 => some [fmask 12 0, fmask 63 0, fmask 63 0]
  | 4, 4 => some [fmask 17 17 + fmask 12 0, fmask 63 0, fmask 31 0]
  | 4, 5 => some [fmask 12 0]
  | 5, 0 => some [fmask 18 16 + fmask 9 0, fmask 47 0, fmask 31 0]
  | 5, 1 => some [fmask 9 0]
  | 5, 2 => some [fmask 57 36 + fmask 9 0, fmask 47 0, fmask 37 0, fmask 31 0]
  | 5, 3 => some [fmask 57 44 + fmask 9 0, fmask 47 0, fmask 37 0, fmask 31 0]
  | 5, 4 => some [fmask 57 43 + fmask 12 0, fmask 31 0]
  | 5, 5 => some [fmask 63 34 + fmask 13 0, fmask 47 0, fmask 31 0]
  | 5, 6 => some [fmask 57 44 + fmask 31 0]
  | 6, 1 => some [fmask 47 0, fmask 47 0]
  | 6, 2 => some [fmask 47 0, fmask 47 0]
  | 6, 3 => some [fmask 47 0, fmask 47 0]
  | 6, 4 => some [fmask 47 0, fmask 47 0]
  | 6, 5 => some [fmask 47 0, fmask 47 0]
  | 7, 1 => some [fmask 63 32 + fmask 3 0]
  | 7, 2 => some [fmask 37 16 + fmask 5 0, fmask 47 0, fmask 23 0]
  | 7, 3 => some [fmask 5 0]
  | 7, 4 => some [fmask 17 0, fmask 47 0, fmask 15 0]
  | 7, 5 => some [fmask 9 0]
  | 7, 6 => some [fmask 8 8 + fmask 3 0]
  | 7, 7 => some [fmask 11 0, fmask 47 0, fmask 31 0, fmask 47 0, fmask 13 0, fmask 47 0]
  | _, _ => none

/-- A device-side address of a COPY or FILL uses bits 47:0 only; with RED its rules of Table 10-12 hold. -/
def Desc.copyOk (d : Desc) : Bool :=
  let fill := d.op == 2
  let srcHost := d.f 1 8 8 == 1
  let dstHost := d.f 1 9 9 == 1
  let red := d.f 1 10 10 == 1
  let es := if d.f 1 19 18 = 1 then 8 else 4
  d.f 4 31 0 ≥ 1 && !(fill && (srcHost || red)) && (fill || srcHost || d.f 2 63 48 == 0) && (dstHost || d.f 3 63 48 == 0) &&
    (!red || (!dstHost && (d.f 1 19 18 == 3 || (d.f 4 31 0 % es == 0 && d.f 2 63 0 % es == 0 && d.f 3 63 0 % es == 0))))

/-- The ranges that the tables state of fields. -/
def Desc.rangesOk (d : Desc) : Bool :=
  match d.cls, d.op with
  | 0, 2 => d.f 1 13 13 == 1 || decide (d.f 3 47 0 ≥ 1)
  | 1, 0 => d.f 1 15 0 != 0
  | 2, 0 => decide (8 ≤ d.f 1 36 32) && decide (d.f 1 36 32 ≤ 16)
  | 2, 2 => d.f 2 0 0 == 0 && d.f 4 5 0 == 0 && d.f 5 5 0 == 0 && d.f 6 5 0 == 0
  | 2, 3 => d.f 2 15 0 == 0
  | 2, 4 => d.f 2 15 0 == 0
  | 3, _ => d.copyOk
  | 4, 2 => decide (d.f 2 31 0 ≥ 1)
  | 5, 0 => d.f 2 15 0 == 0 && decide (d.f 3 31 0 ≥ 1)
  | 5, 2 => decide (d.f 4 31 0 ≥ 1) && !(d.f 1 43 43 == 1 && d.f 1 42 42 == 1)
  | 5, 3 => decide (d.f 4 31 0 ≥ 1)
  | 5, 4 => decide (d.f 2 31 0 ≥ 1)
  | 5, 5 => d.f 3 6 0 == 0 && decide (128 ≤ d.f 3 31 0) && decide (d.f 3 31 0 ≤ 2 ^ 31 - 128)
  | 6, _ => decide (d.f 2 47 0 ≥ 1)
  | 7, 2 => decide (2 ≤ d.f 3 23 0) && decide (d.f 3 23 0 ≤ 8388608) && d.f 2 15 0 == 0
  | 7, 4 => decide (d.f 1 17 16 ≤ 2) && decide (d.f 3 15 0 ≥ 1)
  | _, _ => true

/-- Bits of words 1 to 7 outside their masks are 0. -/
def Desc.reservedClear (d : Desc) (ms : List Nat) : Bool :=
  (List.range 7).all (fun n => (d.word (n + 1)).toNat &&& (ms.getD n 0) == (d.word (n + 1)).toNat)

/-- The descriptor is well formed (R337): class and operation defined, reserved fields 0, fields in range. -/
def Desc.wellFormed (d : Desc) : Bool :=
  d.f 0 31 19 == 0 && d.f 0 15 8 == 0 &&
    (match descMasks d.cls d.op with
    | none => false
    | some ms => d.reservedClear ms && d.rangesOk)

/-- A descriptor from its 64 bytes (R335). -/
def Desc.ofBytes (l : List Byte) : Desc :=
  let w (n : Nat) : W64 := BitVec.ofNat 64 (leNat (slice l (8 * n) 8))
  ⟨w 0, w 1, w 2, w 3, w 4, w 5, w 6, w 7⟩

end Sys2Proof.Machine
end

