-- ==== Sys2Proof/Machine/HostPort.lean ====
section
/-!
DEFINITION. The host port (R306–R321, R483–R485): resets, link and sideband events, IDE failures, ATS invalidations, and the
host's access to exposed memory.
-/

namespace Sys2Proof.Machine



def hptLoc (e : Nat) : Loc := locHub 0x10 e 0xFF 0xFFFF
/-- The host light engine (R353). -/
def hostEngineLoc (e m : Nat) : Loc := ⟨5, 0, 0, 0x3F, e, m, 0xFFFF⟩
def hostPortFence : FUnit := .port (hptLoc 0)

/-! ## The TDI (R484, R485) -/

/-- State of the TDI: 0 CONFIG_UNLOCKED, 1 CONFIG_LOCKED, 2 RUN, 3 ERROR. -/
def State.tdi (s : State) : Nat := s.rget Fd.SEC_TDI_STATE
def State.setTdi (s : State) (v : Nat) : State := (s.rset Fd.SEC_TDI_STATE v).rset Fd.HPT_LINK_STAT_TDISP v
/-- CONFIG_LOCKED or RUN. -/
def State.tdiLocked (s : State) : Bool := s.tdi == 1 || s.tdi == 2
/-- The ring belongs to the tenant bound to the TDI. -/
def State.ringOfTdi (s : State) (r : Nat) : Bool :=
  s.rget Fd.SEC_TDI_BIND_VALID == 1 && s.ringTenant r == s.rget Fd.SEC_TDI_TENANT
/-- A write that CONFIG_LOCKED or RUN ignores raises its record (R315). -/
def State.tdispLock (s : State) : State := s.raise (recNote 0x0709 (hptLoc 1))

/-! ## Rings that halt (R329) -/

/-- A ring halts: what it fetched and did not start completes with 0x82, and it fetches nothing more (R329, Table 10-15). A ring
already disabling goes on disabling (R328). -/
def State.ringHalt (s : State) (r reason : Nat) (loc : Loc) : State :=
  let s := s.raise { recNote reason loc with ctx := s.ringCtx r }
  let st := s.rget (Fd.RNG_CTL_STATE r)
  let s := s.rset (Fd.RNG_CTL_ERR r) (reason % 256)
  if st = 1 then
    let q := s.ring r
    let ends := q.fetched.map (fun p => (⟨p.1, p.2.f 0 63 32, 0x82, 0, 0, 0, p.2.f 0 17 17 == 1, false⟩ : Compl))
    (((s.setRing r { q with fetched := [], done := q.done ++ ends }).rset (Fd.RNG_CTL_STATE r) 3).radd (Fd.RNG_CNT_DONE r) ends.length).radd
      (Fd.RNG_CNT_FAILED r) ends.length
  else s

/-- Rings in state enabled, disabling or halted. -/
def State.liveRings (s : State) : List Nat := (List.range 1024).filter (fun r => s.rget (Fd.RNG_CTL_STATE r) != 0)

/-! ## IDE streams (R483, R314) -/

def State.ideStream (s : State) (n : Nat) : IdeStream := spGet (fun _ => IdeStream.init) s.sec.ide n
def State.setIde (s : State) (n : Nat) (v : IdeStream) : State := { s with sec.ide := spPut (fun _ => IdeStream.init) s.sec.ide n v }
/-- A stream is secure when a key set is in use. -/
def State.ideSecure (s : State) (n : Nat) : Bool := (s.ideStream n).use.isSome
/-- HPT_LINK_STAT follows the streams. -/
def State.ideStat (s : State) : State :=
  (s.rset Fd.HPT_LINK_STAT_IDE_IO (b2n ((List.range 5).any s.ideSecure))).rset Fd.HPT_LINK_STAT_IDE_CM (b2n (s.ideSecure 5))
def State.ideZero (s : State) : State := ({ s with sec.ide := [] }).ideStat
def State.hdm (s : State) (n : Nat) : Hdm := if n = 0 then s.hpt.hdm0 else s.hpt.hdm1
/-- The streams a locked TDI relies on (R484, R485). -/
def State.tdiRelies (s : State) (n : Nat) : Bool := n < 5 || s.hpt.hdm0.committed || s.hpt.hdm1.committed

/-- The TDI enters ERROR: the bound tenant's rings halt (R485). -/
def State.tdiError (s : State) : State :=
  if s.tdiLocked then
    (s.liveRings.filter s.ringOfTdi).foldl (fun s r => s.ringHalt r 0x0C0D (s.ringLoc r)) (s.setTdi 3)
  else s

/-- Stream `n` becomes insecure: the fault, the port's fence, every key set zeroed, and the TDI in ERROR (R314, R483, R485). -/
def State.ideFail (s : State) (n : Nat) : State :=
  let relied := s.tdiRelies n
  let s := (s.raise ⟨0x0703, hptLoc 4, 6, hostPortFence, none, false, false, false, false⟩).addFence hostPortFence
  let s := (({ s with hpt.ideBad := insNat s.hpt.ideBad n }).ideZero).rset Fd.HPT_LINK_STAT_UP 0
  let s := { s with hpt.downSince := some s.clock }
  if relied then s.tdiError else s

/-! ## Resets (R312) -/

/-- One ring at a host port reset: disabled, with its registers at reset; what was fetched is dropped, and what was started runs
on with its completion discarded. -/
def State.ringReset (s : State) (r : Nat) : State :=
  let q := s.ring r
  q.done.foldl (fun s c => s.dmaResume r c.idx)
    (s.setRing r { q with epoch := q.epoch + 1, fetched := [], done := [], pendCnt := 0, pendAt := none
                          discard := q.started.map Started.idx })

/-- The host port is reset (R312): rings, HPT_ and RNG_ registers, the MSI-X table, the decoders, IDE keys, the TDI, the fault
ring, and every started WAIT. The sideband's lock is what it is (assumption 7). -/
def State.hostPortReset (s : State) : State :=
  let s := (s.rng.map (·.1)).foldl (fun s r => s.ringReset r) s
  let s := s.sor.waits.foldl (fun s w => s.complete w.ring w.idx 4 0 0) s
  let s := { s with sor.waits := [] }
  let side := s.rget Fd.HPT_LINK_STAT_SIDEBAND
  let s := { s with regs := s.regs.filter (fun p => !(decide (0x60000 ≤ p.1) && decide (p.1 < 0x70000)) &&
                      !(decide (0x400000 ≤ p.1) && decide (p.1 < 0x440000)))
                    hpt.msix := [], hpt.pba := [], hpt.hdm0 := .init, hpt.hdm1 := .init, hpt.ats := [], hpt.ideBad := []
                    sec.spdm := s.sec.spdm.filter (fun p => s.sec.spdmNight.contains p.1) }
  (((s.rset Fd.HPT_LINK_STAT_SIDEBAND side).ideZero).setTdi 0).rset Fd.FLT_RING_CTL_EN 0

/-- HOST_PORT_RESET (R312): a fundamental, hot or function-level reset. -/
def execHostPortReset (s : State) : Out := .next s.hostPortReset

/-- The host link goes down (R312). -/
def State.hostLinkDown (s : State) : State :=
  if s.hostUp then
    ((({ s with hpt.downSince := some s.clock }).rset Fd.HPT_LINK_STAT_UP 0).rset Fd.HPT_LINK_STAT_RATE 0).rset Fd.HPT_LINK_STAT_WIDTH 0
      |>.radd Fd.HPT_LINK_STAT_LINK_DOWNS 1
  else s

/-- LINK_DOWN (R312): the link goes down, or has been down for more than 100 ms, which resets the host port. -/
def execLinkDown (long : Bool) (s : State) : Out :=
  .next (
    let s := s.hostLinkDown
    if long && s.hpt.downSince.isSome then
      ((s.raise ⟨0x0701, hptLoc 0, 6, hostPortFence, none, false, false, false, false⟩).addFence hostPortFence).hostPortReset
    else s)

/-- PERST# counts as asserted (R319). -/
def State.perstOn (s : State) : Bool := s.hpt.perst || s.hpt.sbLost

/-- HOST_LINK_UP (R312, R313): the link trains at a rate and width of Table 10-1; what was held goes on, and vectors that waited
for the link are sent. -/
def execHostLinkUp (rate width : Nat) (s : State) : Out :=
  .next (
    if !s.perstOn && !s.hostUp && (s.atNoon || s.twilight) && (rate = 1 || rate = 2) && (width = 4 || width = 8 || width = 16) then
      let s := ((s.rset Fd.HPT_LINK_STAT_UP 1).rset Fd.HPT_LINK_STAT_RATE rate).rset Fd.HPT_LINK_STAT_WIDTH width
      let s := ({ s with hpt.downSince := none }).dropFence hostPortFence
      let s := if rate = 1 || width < 16 then s.raise (recNote 0x0702 (hostEngineLoc 0 0xFF)) else s
      let go := s.hpt.pba.filter (fun v => !s.msiMasked v)
      { s with hpt.pba := s.hpt.pba.filter s.msiMasked, hpt.sent := go.reverse ++ s.hpt.sent
               con.lowLanes := s.con.lowLanes.filter (fun k => k / 32 != 16) }
    else s)

/-- IDE_INTEGRITY (R314): an integrity failure on a secure stream. -/
def execIdeIntegrity (stream : Nat) (s : State) : Out :=
  .next (if stream < 6 && s.ideSecure stream then s.ideFail stream else s)

/-! ## The sideband (R319) -/

/-- SIDEBAND_FRAME (R319): a frame to the module carries PERST#, whose assertion is a fundamental reset; a frame from it carries
LINK_READY, set while the host port can train. -/
def execSidebandFrame (toModule perst : Bool) (s : State) : Out :=
  .next (
    if toModule then
      if s.rget Fd.HPT_LINK_STAT_SIDEBAND = 1 then
        let s' := { s with hpt.perst := perst }
        if perst && !s.hpt.perst then s'.hostPortReset else s'
      else s
    else { s with hpt.ready := s.atNoon || s.twilight })

/-- The sideband is out of lock for 10 µs, which counts as PERST# asserted (R319). -/
def State.sidebandLost (s : State) : State :=
  if s.rget Fd.HPT_LINK_STAT_SIDEBAND = 1 then
    let s := ((s.rset Fd.HPT_LINK_STAT_SIDEBAND 0).raise ⟨0x0708, hostEngineLoc 0 0x10, 6, hostPortFence, none, false, false, false, false⟩).addFence hostPortFence
    let s := { s with hpt.sbLost := true }
    s.hostPortReset
  else s

/-- SIDEBAND_LOST (R319). -/
def execSidebandLost (s : State) : Out := .next s.sidebandLost

/-- SIDEBAND_LOCK_GAINED (R319). -/
def execSidebandLockGained (s : State) : Out :=
  .next (({ s with hpt.sbLost := false }).rset Fd.HPT_LINK_STAT_SIDEBAND 1)

/-! ## ATS (R311) -/

/-- ATS_INVALIDATION (R352): cached translations of the pages are dropped and counted; `how` says how the host answers for them
from now on: 0 translated, 1 refused, 2 accesses end in a host error. -/
def execAtsInvalidation (addr len how : Nat) (s : State) : Out :=
  .next (
    let ps := hostPages addr len
    let keep (l : List Nat) : List Nat := l.filter (fun p => !ps.contains p)
    ({ s with hpt.ats := keep s.hpt.ats
              hpt.atsRefused := if how = 1 then ps.foldl insNat (keep s.hpt.atsRefused) else keep s.hpt.atsRefused
              hpt.hostErr := if how = 2 then ps.foldl insNat (keep s.hpt.hostErr) else keep s.hpt.hostErr }).radd Fd.HPT_ATS_STAT_INVALS 1)

/-! ## Exposed memory (R308) -/

/-- Bytes of device memory a decoder exposes. -/
def Hdm.span (h : Hdm) : Nat := if h.committed then h.size / h.ways else 0
/-- Decoded device address of a host physical address in a decoder's range: the interleave removed. -/
def Hdm.decode (h : Hdm) (hpa : Nat) : Option Nat :=
  if h.committed && decide (h.base ≤ hpa) && decide (hpa < h.base + h.size) then
    let o := hpa - h.base
    some (o / (h.gran * h.ways) * h.gran + o % h.gran)
  else none
/-- Decoded device address: decoder 1 follows decoder 0. -/
def State.hdmDecode (s : State) (hpa : Nat) : Option Nat :=
  match s.hpt.hdm0.decode hpa with
  | some d => some d
  | none => (s.hpt.hdm1.decode hpa).map (· + s.hpt.hdm0.span)
def State.hdmBase (s : State) : Nat := s.rget Fd.HPT_HDM_CTL_BASE_GIB * 2 ^ 30

/-- HDM_DECODER_COMMIT (R308, R315): decoder `n` is committed to a range, or uncommitted. Beyond the limits of Table 10-1, 64 GiB or
the DRAM of the variant, the commit-error bit is set and nothing is exposed. -/
def execHdmDecoderCommit (n base size ways gran : Nat) (on : Bool) (s : State) : Out :=
  .next (
    if n ≥ 2 then s
    else if s.tdiLocked then s.tdispLock
    else
      let put (h : Hdm) : State := if n = 0 then { s with hpt.hdm0 := h } else { s with hpt.hdm1 := h }
      if !on then put .init
      else
        let h : Hdm := ⟨true, false, base, size, ways, gran⟩
        let legal := [1, 2, 4, 8].contains ways && [256, 512, 1024, 2048, 4096, 8192, 16384].contains gran
        let total := (if legal then h.span else 0) + (s.hdm (1 - n)).span
        if legal && total ≤ 64 * 2 ^ 30 && s.hdmBase + total ≤ s.part.dramGib * 2 ^ 30 then put h
        else (put ⟨false, true, base, size, ways, gran⟩).raise (recNote 0x0706 (hptLoc 3)))

/-- CXL_MEM_ACCESS (R308, R485): a read that fails returns poison; a write that fails is not performed. -/
def execCxlMemAccess (hpa : Nat) (wr : Bool) (bytes : List Byte) (s : State) : Out :=
  .next (
    if !s.hostUp || s.twilight || bytes.length ≠ 64 || hpa % 64 ≠ 0 then s
    else
      let poison (s : State) : State := if wr then s else { s with hpt.memAnswer := none }
      if s.tdi = 3 then poison s
      else
        match s.hdmDecode hpa with
        | none => poison (s.raise (recErr 0x0706 (hptLoc 3) none))
        | some d =>
          let pa := s.hdmBase + d
          if (if wr then s.wrHeld pa 64 else s.rdHeld pa 64) then s.holdMem .host pa wr bytes
          else if wr then
            match s.write pa bytes with
            | (s, some e) => s.accFault .host e
            | (s, none) => s
          else
            match s.read pa 64 with
            | (s, .ok l) => { s with hpt.memAnswer := some l }
            | (s, .error e) => poison (s.accFault .host e))

end Sys2Proof.Machine
end

