-- ==== Sys2Proof/Machine/Threads.lean ====
section
/-!
DEFINITION. Thread groups (chapter 05): issue and the convergence scheduler, arithmetic of the lanes, group-wide
instructions, barriers and their watchdog, command issue, and kernels from their launch records to their ends.
-/

namespace Sys2Proof.Machine

/-- A free word to each listed register of a thread. -/
def State.freeRegs (s : State) (f g t : Nat) : List Nat → State
  | [] => s
  | n :: l =>
    let (w, s) := s.fresh
    (s.setGreg f g t (n % 128) (BitVec.ofNat 32 w.toNat)).freeRegs f g t l

/-- Words of a special register of a thread: 0 TID, 1 GID, 2 NGROUPS, 3 FROND, 4 ARG as a low and a high word, 5 KTAG (R139; the
numbers and the place of ARG's high word are the model's, assumption 113). -/
def State.specialReg (s : State) (f g : Nat) (q : Kernel) (t n : Nat) : List Nat :=
  match n with
  | 0 => [t]
  | 1 => [(s.grp f g).gid]
  | 2 => [q.launch.groupsM1 + 1]
  | 3 => [f]
  | 4 => [q.launch.arg % 2 ^ 32, q.launch.arg / 2 ^ 32]
  | _ => [q.launch.ktag]

/-- INSTRUCTION_ISSUE (R141): an instruction with no row of its own. Branches give each thread its target, rounded down to an instruction
(assumption 114); special registers are read as R139 gives them; register results that only the encoding states are free (assumption 23).
`upset`: instruction cache lines whose parity fails from now on (R112). -/
def execInstructionIssue (f g mask : Nat) (kind : IssueKind) (upset : List Nat) (s : State) : Out :=
  .next (
    let s := if upset.isEmpty then s else s.modFr f (fun q => { q with icacheBad := upset ++ q.icacheBad })
    match kind with
    | .plain reads writes =>
      s.issue f g (fun s _ _ ts => s.eachThread f g mask reads ts (fun s t => (s.freeRegs f g t writes).advance f g t))
    | .special rd n =>
      s.issue f g (fun s _ q ts => s.eachThread f g mask [] ts (fun s t => (s.putRegs f g t rd (s.specialReg f g q t n)).advance f g t))
    | .branch reads targets =>
      s.issue f g (fun s _ _ ts => s.eachThread f g mask reads ts (fun s t =>
        s.modThr f g t (fun q => { q with pc := targets.getD t 0 / 8 * 8 % 2 ^ 48, wait := .ready })))
    | .illegal => s.issue f g (fun s _ _ ts => s.trapEach f g 0x0280 (trapLoc f g) false ts))

/-! ## Lanes (R58–R61) -/

/-- A thread's operand register. -/
def State.rg (s : State) (f g t n : Nat) : W32 := s.greg f g t (n % 128)

/-- FMA-class operations: 0 add, 1 multiply, 2 fused multiply-add, 3 minimum, 4 maximum; comparisons to a predicate: 5 less than,
6 equal, 8 less or equal, 9 greater than, 10 greater or equal, 11 not equal, 12 unordered, 13 ordered; 7 paired fused multiply-add on the
register pairs n and n + 1 (modulo 128); 16 + format and 24 + format conversions from FP32, not saturating and saturating, zero above the
result (R58–R60; the pairs and the zeros are the model's, assumption 115). -/
def State.fma1 (s : State) (f g op rd ra rb rc : Nat) (t : Nat) : State :=
  let a := s.rg f g t ra
  let b := s.rg f g t rb
  let c := s.rg f g t rc
  let setP := fun (v : Bool) =>
    s.setPred f g t (if v then s.pred f g t ||| (1 <<< (rd % 8)) else s.pred f g t &&& (0xFF ^^^ (1 <<< (rd % 8))))
  match op with
  | 0 => s.setGreg f g t (rd % 128) (fAdd a b)
  | 1 => s.setGreg f g t (rd % 128) (fMul a b)
  | 2 => s.setGreg f g t (rd % 128) (fFma a b c)
  | 3 => s.setGreg f g t (rd % 128) (fMin a b)
  | 4 => s.setGreg f g t (rd % 128) (fMax a b)
  | 5 => setP (fLt a b)
  | 6 => setP (fEq a b)
  | 8 => setP (fLe a b)
  | 9 => setP (fLt b a)
  | 10 => setP (fLe b a)
  | 11 => setP (!fEq a b)
  | 12 => setP (fUnordered a b)
  | 13 => setP (!fUnordered a b)
  | 7 => (s.setGreg f g t (rd % 128) (fFma a b c)).setGreg f g t ((rd + 1) % 128)
      (fFma (s.rg f g t (ra + 1)) (s.rg f g t (rb + 1)) (s.rg f g t (rc + 1)))
  | _ =>
    if 17 ≤ op && op ≤ 20 then s.setGreg f g t (rd % 128) (BitVec.ofNat 32 (fromFp32To (op - 16) false a))
    else if 25 ≤ op && op ≤ 28 then s.setGreg f g t (rd % 128) (BitVec.ofNat 32 (fromFp32To (op - 24) true a))
    else s

/-- Registers an FMA-class operation reads. -/
def fmaReads (op ra rb rc : Nat) : List Nat :=
  if op = 7 then [ra % 128, rb % 128, rc % 128, (ra + 1) % 128, (rb + 1) % 128, (rc + 1) % 128]
  else if op = 2 then [ra % 128, rb % 128, rc % 128] else if op ≥ 16 then [ra % 128] else [ra % 128, rb % 128]

/-- FMA_INSTRUCTION (R58, R59). -/
def execFmaInstruction (f g mask op rd ra rb rc : Nat) (s : State) : Out :=
  .next (s.issue f g (fun s _ _ ts => s.eachThread f g mask (fmaReads op ra rb rc) ts
    (fun s t => (s.fma1 f g op rd ra rb rc t).advance f g t)))

/-- SPECIAL_FUNCTION (R61). -/
def execSpecialFunction (f g mask fn rd ra : Nat) (s : State) : Out :=
  .next (s.issue f g (fun s _ _ ts => s.eachThread f g mask [ra % 128] ts
    (fun s t => (s.setGreg f g t (rd % 128) (specialFunction fn (s.rg f g t ra))).advance f g t)))

/-! ## Group-wide instructions (R151–R154) -/

/-- Threads of a group that are live. -/
def State.liveThreads (s : State) (f g : Nat) : List Nat := (List.range 32).filter (fun t => (s.thr f g t).live)

/-- Rows that take part: live with a true predicate (R152, R153). -/
def State.rowsIn (s : State) (f g : Nat) : List Nat :=
  (s.liveThreads f g).filter (fun t => match (s.thr f g t).wait with
    | .coll _ _ _ _ p => p
    | _ => false)

/-- Combination in pairs by thread index (R154): neighbours first. -/
def pairwise (h : W32 → W32 → W32) : Nat → List W32 → W32
  | 0, l => l.headD 0#32
  | n + 1, l =>
    match l with
    | [] => 0#32
    | [x] => x
    | _ => pairwise h n (pairs l)
where
  pairs : List W32 → List W32
    | a :: b :: l => h a b :: pairs l
    | l => l

/-- Operation of GRED and its identity: FP32 add, minimum, maximum, int32 add, minimum, maximum (R151, R153). -/
def gredOp (op : Nat) : (W32 → W32 → W32) × W32 :=
  match op with
  | 0 => (fAdd, 0#32)
  | 1 => (fMin, 0x7F800000#32)
  | 2 => (fMax, 0xFF800000#32)
  | 3 => (fun a b => a + b, 0#32)
  | 4 => (fun a b => if a.toInt ≤ b.toInt then a else b, 0x7FFFFFFF#32)
  | _ => (fun a b => if a.toInt ≤ b.toInt then b else a, 0x80000000#32)

/-- A row's register, the identity for rows that take no part. -/
def State.row (s : State) (f g : Nat) (inn : List Nat) (ident : W32) (n t : Nat) : W32 :=
  if inn.contains t then s.rg f g t n else ident

/-- What a group-wide instruction writes to thread t, as (register, value), from the state before it: codes 0 GSHUF, 1 GXPOSE,
2 GMV, 3 GRED, 4 GSCAN (Table 05-3). A row that takes no part reads as +0 for GXPOSE too; GMV rounds each product to FP32 before
it is summed (assumptions 38, 116). -/
def State.collResult (s : State) (f g code d sreg x : Nat) (inn : List Nat) (t : Nat) : List (Nat × W32) :=
  match code with
  | 0 => [(d, s.row f g inn 0#32 sreg ((s.rg f g t x).toNat % 32))]
  | 1 => (List.range 32).map (fun j => (d + j, s.row f g inn 0#32 (sreg + t) j))
  | 2 => [(d, pairwise fAdd 6 ((List.range 32).map (fun j => fMul (s.rg f g t (sreg + j)) (s.row f g inn 0#32 x j))))]
  | 3 => [(d, pairwise (gredOp x).1 6 ((List.range 32).map (s.row f g inn (gredOp x).2 sreg)))]
  | _ => [(d, pairwise (if x = 0 then fAdd else fun a b => a + b) 6 ((List.range (t + 1)).map (s.row f g inn 0#32 sreg)))]

/-- Registers thread t's row of a group-wide instruction reads. -/
def collReads (code sreg x : Nat) : List Nat :=
  match code with
  | 0 => [sreg % 128, x % 128]
  | 1 => (List.range 32).map (fun j => (sreg + j) % 128)
  | 2 => x % 128 :: (List.range 32).map (fun j => (sreg + j) % 128)
  | _ => [sreg % 128]

/-- A group-wide instruction issues when every live thread waits at it, at one program counter with one CSEQ (R152). -/
def State.evalColl (s : State) (f g : Nat) : State :=
  match s.liveThreads f g with
  | [] => s
  | t0 :: rest =>
    let q := s.thr f g t0
    match q.wait with
    | .coll code d sreg x _ =>
      if rest.all (fun t => (match (s.thr f g t).wait with
          | .coll c _ _ _ _ => c == code
          | _ => false) && (s.thr f g t).pc == q.pc && (s.thr f g t).cseq == q.cseq) then
        let inn := s.rowsIn f g
        match inn.filterMap (fun t => (s.badReg f g t (collReads code sreg x)).map (fun n => (t, n))) with
        | b :: l => (b :: l).foldl (fun s p => s.regFault f g p.1 p.2) s
        | [] =>
          let s := inn.foldl (fun s t => s.countRegs f g t (collReads code sreg x)) s
          let out := inn.map (fun t => (t, s.collResult f g code d sreg x inn t))
          let s := out.foldl (fun s r => r.2.foldl (fun s w => s.setGreg f g r.1 (w.1 % 128) w.2) s) s
          (t0 :: rest).foldl (fun s t => (s.advance f g t).modThr f g t (fun q => { q with cseq := (q.cseq + 1) % 65536 })) s
      else s
    | _ => s

/-- Threads begin a wait in one cycle. -/
def State.beginWaits (s : State) (f g : Nat) (ts : List Nat) (w : Nat → Wait) : State :=
  { ts.foldl (fun s t => s.modThr f g t (fun q => { q with wait := w t, since := s.frd.stamp, waitClock := s.clock })) s with
    frd.stamp := s.frd.stamp + 1 }

/-- A group-wide instruction: the chosen threads arrive, a false predicate too (R152); register operands of a matrix must be
multiples of 32 (Table 05-3), others being no encoding of it (assumption 117). -/
def State.collective (s : State) (f g mask code d sreg x : Nat) : State :=
  s.issue f g (fun s _ _ ts =>
    if (code = 1 && (d % 32 ≠ 0 || sreg % 32 ≠ 0)) || (code = 2 && sreg % 32 ≠ 0) || d ≥ 128 || sreg ≥ 128 then
      s.trapEach f g 0x0280 (trapLoc f g) false ts
    else (s.beginWaits f g ts (fun t => .coll code d sreg x (nbit mask t))).evalColl f g)

/-- GSHUF (R151). -/
def execGshuf (f g mask d sreg i : Nat) (s : State) : Out := .next (s.collective f g mask 0 d sreg i)
/-- GXPOSE (R151). -/
def execGxpose (f g mask d sreg : Nat) (s : State) : Out := .next (s.collective f g mask 1 d sreg 0)
/-- GMV (R151). -/
def execGmv (f g mask d sreg v : Nat) (s : State) : Out := .next (s.collective f g mask 2 d sreg v)
/-- GRED (R151). -/
def execGred (f g mask op d sreg : Nat) (s : State) : Out := .next (s.collective f g mask 3 d sreg op)
/-- GSCAN (R151). -/
def execGscan (f g mask ty d sreg : Nat) (s : State) : Out := .next (s.collective f g mask 4 d sreg ty)

/-! ## Barriers (R155–R157) -/

/-- A group barrier completes when every live thread of the group waits at it (R155). -/
def State.evalBarG (s : State) (f g b : Nat) : State :=
  let l := s.liveThreads f g
  if !l.isEmpty && l.all (fun t => (s.thr f g t).wait == .barG b) then s.advanceAll f g l else s

/-- A kernel barrier completes when every live thread of every group of the kernel waits at it (R155, R156). -/
def State.evalBarK (s : State) (f k b : Nat) : State :=
  match s.krn f k with
  | none => s
  | some q =>
    let all := q.groups.map (fun g => (g, s.liveThreads f g))
    if all.any (fun p => !p.2.isEmpty) && all.all (fun p => p.2.all (fun t => (s.thr f p.1 t).wait == .barK b)) then
      all.foldl (fun s p => s.advanceAll f p.1 p.2) s
    else s

/-- The chosen threads whose predicate holds arrive at a barrier; the others advance. -/
def State.arrive (s : State) (f g mask : Nat) (w : Wait) (ts : List Nat) : State :=
  (s.beginWaits f g (ts.filter (nbit mask)) (fun _ => w)).advanceAll f g (ts.filter (fun t => !nbit mask t))

/-- BAR.G (R155). -/
def execBarG (f g mask b : Nat) (s : State) : Out :=
  .next (if b < 8 then s.issue f g (fun s _ _ ts => (s.arrive f g mask (.barG b) ts).evalBarG f g b) else s)

/-- BAR.K (R155). -/
def execBarK (f g mask b : Nat) (s : State) : Out :=
  .next (if b < 16 then s.issue f g (fun s k _ ts => (s.arrive f g mask (.barK b) ts).evalBarK f k b) else s)

/-- Every barrier and convergence point of a kernel, evaluated again after an EXIT (R153, R156). -/
def State.reEval (s : State) (f g : Nat) : State :=
  let s := (List.range 8).foldl (fun s b => s.evalBarG f g b) (s.evalColl f g)
  (s.grp f g).kernel.elim s (fun k => (List.range 16).foldl (fun s b => s.evalBarK f k b) s)

/-- EXIT (R173): the thread stops at once. -/
def execExit (f g mask : Nat) (s : State) : Out :=
  .next (s.issue f g (fun s _ _ ts =>
    (((ts.filter (nbit mask)).foldl (fun s t => s.modThr f g t (fun q => { q with live := false, wait := .ready })) s).advanceAll f g
      (ts.filter (fun t => !nbit mask t))).reEval f g))

/-- TRAP (R161): every executing thread traps, the lowest with the record (R164). -/
def execTrap (f g mask arg : Nat) (s : State) : Out :=
  .next (s.issue f g (fun s _ _ ts => s.eachThread f g mask [] ts (fun s t => s.trap f g t 0x0285 (arg % 65536) (trapLoc f g t))))

/-! ## Divergence (R158–R160) -/

def Wait.isColl : Wait → Bool
  | .coll .. => true
  | _ => false
def Wait.isBar : Wait → Bool
  | .barG _ => true
  | .barK _ => true
  | _ => false

/-- The oldest wait of a group at a group-wide instruction or barrier: its stamp, and the lowest thread that began it, with a
group-wide instruction first where both began in one cycle (R158, R159). -/
def State.timedWait (s : State) (f g : Nat) : Option (Nat × Bool) :=
  let ws := (s.liveThreads f g).filter (fun t => (s.thr f g t).wait.isColl || (s.thr f g t).wait.isBar)
  match ws with
  | [] => none
  | t0 :: _ =>
    let lo := ws.foldl (fun m t => min m (s.thr f g t).since) (s.thr f g t0).since
    match ws.find? (fun t => (s.thr f g t).since == lo && (s.thr f g t).wait.isColl) with
    | some t => some (t, true)
    | none => (ws.find? (fun t => (s.thr f g t).since == lo)).map (fun t => (t, false))

/-- DIVERGENT_COLLECTIVE (R159). -/
def execDivergentCollective (f g : Nat) (s : State) : Out :=
  .next (match s.timedWait f g with
    | some (t, true) => s.trap f g t 0x0283 0 (schedLoc f t)
    | _ => s)

/-- BARRIER_DEADLOCK (R159). -/
def execBarrierDeadlock (f g : Nat) (s : State) : Out :=
  .next (match s.timedWait f g with
    | some (t, false) => s.trap f g t 0x0284 0 (schedLoc f t)
    | _ => s)

/-! ## Clusters (R167) -/

/-- No group of the cluster is resident. -/
def State.clusterEmpty (s : State) (f c : Nat) : Bool :=
  (List.range 16).all (fun i => (s.grp f (4 * i + c)).kernel.isNone)

/-- CLUSTER_PATTERN_TEST (R167): a held, empty cluster is tested; it returns to service, or is fenced and the fence is
widened from the slot. -/
def execClusterPatternTest (f c : Nat) (fails : Bool) (s : State) : Out :=
  .next (
    if (s.fr f).clHeld.contains c && s.clusterEmpty f c then
      let s := s.modFr f (fun q => { q with clHeld := q.clHeld.filter (· != c), slotHeld := q.slotHeld.filter (fun g => g % 4 != c) })
      let s := { s with frd.regBad := s.frd.regBad.filter (fun p => !(p.1 / 262144 == f && (p.1 / 4096) % 64 % 4 == c)) }
      if fails then s.fenceEngine 0x0289 (clusterLoc f c) (clusterLoc f c) true false none else s
    else s)

/-! ## Command issue (R147–R149) -/

/-- The eight registers of a command as four words. -/
def State.cmdWords (s : State) (f g t n : Nat) : W64 × W64 × W64 × W64 :=
  let w := fun i => BitVec.ofNat 64 ((s.rg f g t (n + 2 * i)).toNat + (s.rg f g t (n + 2 * i + 1)).toNat * 2 ^ 32)
  (w 0, w 1, w 2, w 3)

def eightRegs (n : Nat) : List Nat := (List.range 8).map (· + n)

/-- The executing threads place commands, in ascending index (R147), once their stores are performed. A register that is no multiple
of 8 is no encoding of the instruction (assumption 118). -/
def State.placeEach (s : State) (f g mask n : Nat) (place : State → Nat → Kernel → Nat → State) : State :=
  if s.sbHeld f then s
  else s.issue f g (fun s k q ts =>
    if n % 8 ≠ 0 || n ≥ 128 then s.trapEach f g 0x0280 (trapLoc f g) false (ts.filter (nbit mask))
    else s.eachThread f g mask (eightRegs n) ts (fun s t => place (s.sbDrain f) k q t))

/-- One thread's ACMD (R147, R149, R94). -/
def State.acmd1 (s : State) (f g a n k : Nat) (q : Kernel) (t : Nat) : State :=
  if !nbit q.launch.arrays a then s.trapHere f g t 0x0286
  else if s.arrFenced f a then (s.faultKernel f k 0x010A (arrLoc f a)).advance f g t
  else if (s.arr f a).queue.length ≥ 16 then s.startWait f g t (.acmd a)
  else
    let w := s.cmdWords f g t n
    (s.modArr f a (fun q => { q with queue := q.queue ++ [⟨w.1, w.2.1, w.2.2.1, w.2.2.2, k, 0, []⟩] })).advance f g t

/-- ACMD (R147, R149, R94). -/
def execAcmd (f g mask a n : Nat) (s : State) : Out :=
  .next (if a < 8 then s.placeEach f g mask n (fun s k q t => s.acmd1 f g a n k q t) else s)

/-- One thread's DCMD (R147, R149). -/
def State.dcmd1 (s : State) (f g c n k : Nat) (q : Kernel) (t : Nat) : State :=
  if nbit (s.rget (Fd.FRD_DMA_CTL_RING_MASK f)) c then
    let w := s.cmdWords f g t n
    ((s.faultKernel f k 0x020B (dmaLoc f c)).noteTag s (fld w.1 63 48)).advance f g t
  else if (s.dma f c).queue.length ≥ 16 then s.startWait f g t (.dcmd c)
  else
    let w := s.cmdWords f g t n
    (s.setDma f c { s.dma f c with queue := (s.dma f c).queue ++
      [⟨w.1, w.2.1, w.2.2.1, w.2.2.2, .kernel f k, q.launch.asid, q.launch.tenant, false, false, none, 0⟩] }).advance f g t

/-- DCMD (R147, R149). -/
def execDcmd (f g mask c n : Nat) (s : State) : Out :=
  .next (if c < 16 then s.placeEach f g mask n (fun s k q t => s.dcmd1 f g c n k q t) else s)

/-- AWAIT (R147). -/
def execAwait (f g mask a n : Nat) (s : State) : Out :=
  .next (s.issue f g (fun s k _ ts => s.eachThread f g mask [] ts (fun s t =>
    if s.kArrCmds f k a ≤ n then s.advance f g t else s.startWait f g t (.awaitA a n))))

/-- DWAIT (R147). -/
def execDwait (f g mask c n : Nat) (s : State) : Out :=
  .next (s.issue f g (fun s k _ ts => s.eachThread f g mask [] ts (fun s t =>
    if s.kDmaCmds f k c ≤ n then s.advance f g t else s.startWait f g t (.awaitD c n))))

/-! ## Kernels (R163–R174) -/

/-- Keys of one group in a table of threads or registers with `n` entries a group. -/
def dropGroup {α : Type} (n f g : Nat) (m : Sp α) : Sp α := m.filter (fun p => p.1 / n != f * 64 + g)

/-- Release a kernel's slots and arrays; its arrays keep the tenant they hold (R91, R163, R172). -/
def State.releaseKernel (s : State) (f k : Nat) : State :=
  match s.krn f k with
  | none => s
  | some q =>
    let s := q.groups.foldl (fun s g =>
      let s := { s with frd.thr := dropGroup 32 f g s.frd.thr
                        frd.gregs := dropGroup 4096 f g s.frd.gregs
                        frd.preds := dropGroup 32 f g s.frd.preds }
      (s.setGrp f g Group.init).modFr f (fun q => { q with watch := q.watch.filter (fun w => w.g != g), idleFrom := s.clock })) s
    let s := (List.range 8).foldl (fun s a =>
      if (s.arr f a).owner = some k then s.modArr f a (fun x => { x with owner := none, lastTenant := some q.launch.tenant }) else s) s
    (s.setKrn f k none).dropFence (.kernel f k)

/-- Discard a kernel's commands in every queue; a channel it halted goes on (R97, R130, R163). -/
def State.discardCmds (s : State) (f k : Nat) : State :=
  let s := (List.range 8).foldl (fun s a => s.modArr f a (fun q => q.discard (q.queue.filter (fun c => c.kslot != k)))) s
  (List.range 16).foldl (fun s c =>
    let mine := fun x : DmaCmd => x.src == Agent.kernel f k
    let s := if (match (s.dma f c).queue with
      | x :: _ => mine x
      | [] => false) then s.rset (Fd.FRD_DMA_STAT_HALTED f c) 0 else s
    s.setDma f c { s.dma f c with queue := (s.dma f c).queue.filter (fun x => !mine x) }) s

/-- KERNEL_ABORT (R163): commands discarded, stores performed, everything released, then the completion with error. -/
def execKernelAbort (f k : Nat) (s : State) : Out :=
  .next (
    match s.krn f k with
    | none => s
    | some q =>
      match q.abort with
      | none => s
      | some reason =>
        if s.sbHeld f then s else
        (((s.discardCmds f k).sbDrain f).releaseKernel f k).kernelDone q.launch.issuer f false reason)

/-- Group slots that can accept groups (R167, R170): free, in a cluster neither fenced nor held. -/
def State.freeSlots (s : State) (f : Nat) : List Nat :=
  (List.range 64).filter (fun g => (s.grp f g).kernel.isNone && !s.clusterFenced f (g % 4) && !(s.fr f).clHeld.contains (g % 4) &&
    !(s.fr f).slotHeld.contains g)

/-- The launch record is refused (R169). -/
def State.launchBad (s : State) (f : Nat) (l : Launch) : Bool :=
  fld l.w0 11 0 != 0 || fld l.w1 63 48 != 0 || fld l.w2 63 48 != 0 || fld l.w3 49 0 != 0 || l.entry % 8 != 0 ||
    decide (l.groupsM1 + 1 > 16 * ((List.range 4).filter (fun c => !s.clusterFenced f c)).length)

/-- A launch record fails before it is resident: its record, and the completion with error status. -/
def State.launchFail (s : State) (f : Nat) (l : Launch) (reason fence : Nat) : State :=
  (s.raise ⟨reason, locFrond f 0x16 0xFF 0xFFFF, fence, .engine (locFrond f 0x16 0xFF 0xFFFF), some (l.ktag, l.tenant), true, false, false, false⟩).kernelDone
    l.issuer f false reason

/-- A launch record reaches a Frond (R168, R169, R133, R285): the queue, or the stub of a Frond that sleeps, which it wakes. -/
def State.launchTo (s : State) (f : Nat) (l : Launch) : State :=
  if !s.frondUp f then s.kernelDone l.issuer f false 0x0601
  else if s.rget (Fd.FRD_ASPACE_BASE_EN f) = 0 then s.launchFail f l 0x0203 1
  else if s.launchBad f l then s.launchFail f l 0x0287 1
  else if s.awake f then s.modFr f (fun q => { q with lq := q.lq ++ [l] })
  else (s.modFr f (fun q => { q with stub := q.stub ++ [l] })).wakeReq f false

/-- Room where a record goes: a Frond's launch queue, or its stub while it sleeps, 32 records each (Table 05-1, R170, R284). -/
def State.launchRoom (s : State) (f : Nat) : Bool :=
  if s.awake f then decide ((s.fr f).lq.length < 32) else decide ((s.fr f).stub.length < 32)

/-- LAUNCH_RECORD (R168): a full queue holds back the issuer. -/
def execLaunchRecord (f : Nat) (w0 w1 w2 w3 : W64) (r i image : Nat) (s : State) : Out :=
  .next (if s.launchRoom f then s.launchTo f ⟨w0, w1, w2, w3, .ring r i, image⟩ else s)

/-- Start the threads of a group (R139, R171). -/
def State.startGroup (s : State) (f k : Nat) (entry : Nat) (p : Nat × Nat) : State :=
  (List.range 32).foldl (fun s t => s.setThr f p.2 t { Thread.init with live := true, pc := entry })
    ({ s with frd.thr := dropGroup 32 f p.2 s.frd.thr
              frd.gregs := dropGroup 4096 f p.2 s.frd.gregs
              frd.regBad := dropGroup 4096 f p.2 s.frd.regBad
              frd.preds := dropGroup 32 f p.2 s.frd.preds }.setGrp f p.2 ⟨some k, p.1, []⟩)

/-- The clear of R91 for an array whose last owner was another tenant. -/
def State.arrOwn (s : State) (f k tenant a : Nat) : State :=
  s.modArr f a (fun q =>
    let dirty := match q.lastTenant with
      | some t => t != tenant
      | none => false
    let q := if dirty then { Arr.init with seqUp := q.seqUp, test := q.test, queue := q.queue, accCorr := q.accCorr, doneTag := q.doneTag } else q
    { q with owner := some k, lastTenant := some tenant })

/-- KERNEL_ADMISSION (R170, R171): the oldest record, when its kernel slot, group slots and arrays are all free. The data
cache is invalidated (R111), and the instruction cache where the tenant changes (R112). -/
def execKernelAdmission (f : Nat) (s : State) : Out :=
  .next (
    match (s.fr f).lq with
    | [] => s
    | l :: rest =>
      match (List.range 8).find? (fun k => (s.krn f k).isNone) with
      | none => s
      | some k =>
        let slots := (s.freeSlots f).take (l.groupsM1 + 1)
        let arrs := bitsOf 8 l.arrays
        if s.frondUp f && s.inRun f && slots.length = l.groupsM1 + 1 && arrs.all (fun a => (s.arr f a).owner.isNone) then
          let s := s.setKrn f k (some ⟨l, slots, none⟩)
          let s := arrs.foldl (fun s a => s.arrOwn f k l.tenant a) s
          let s := ((List.range slots.length).zip slots).foldl (fun s p => s.startGroup f k l.entry p) s
          s.modFr f (fun q => { q with lq := rest, dcache := [],
                                       icache := if q.icacheTenant = some l.tenant then q.icache else [],
                                       icacheBad := if q.icacheTenant = some l.tenant then q.icacheBad else [],
                                       icacheTenant := some l.tenant })
        else s)

/-- Every thread of the kernel has exited and none of its commands remains (R172). -/
def State.kernelOver (s : State) (f k : Nat) (q : Kernel) : Bool :=
  q.groups.all (fun g => (s.liveThreads f g).isEmpty) && (List.range 8).all (fun a => s.kArrCmds f k a == 0) &&
    (List.range 16).all (fun c => s.kDmaCmds f k c == 0)

/-- KERNEL_EXIT (R172): its stores are performed, its slots and arrays released, then SORUS signalled, then the completion. -/
def execKernelExit (f k : Nat) (s : State) : Out :=
  .next (
    match s.krn f k with
    | none => s
    | some q =>
      if q.abort.isNone && s.kernelOver f k q && !s.sbHeld f then
        let s := s.sbDrain f
        -- a store that failed at memory fences the kernel, which then ends by its abort (R111, R172)
        if !s.kRunning f k then s else
        let s := s.releaseKernel f k
        let (s, err) := if q.launch.sig then s.sorNow f q.launch.sorus 1 q.launch.tenant else (s, none)
        match err with
        | some e => (s.raise (recErr e (sorLoc q.launch.sorus) (some (q.launch.ktag, q.launch.tenant)))).kernelDone q.launch.issuer f false e
        | none => s.kernelDone q.launch.issuer f true 0
      else s)

end Sys2Proof.Machine
end

