-- ==== Sys2Proof/Machine/Rings.lean ====
section
/-!
DEFINITION. Descriptor rings (R325–R347), the operations of classes 0x0, 0x1 and 0x3 (R338–R341), and program images
(R348–R351).
-/

namespace Sys2Proof.Machine

def State.ringState (s : State) (r : Nat) : Nat := s.rget (Fd.RNG_CTL_STATE r)
/-- Entries of a ring (Table 10-7). -/
def State.ringLog (s : State) (r : Nat) : Nat := max 6 (min 16 (s.rget (Fd.RNG_CTL_LOG2N r)))
def State.ringN (s : State) (r : Nat) : Nat := 2 ^ s.ringLog r
def sub32 (a b : Nat) : Nat := (a + 2 ^ 32 - b % 2 ^ 32) % 2 ^ 32

/-! ## Enable and disable (R326–R328) -/

/-- The checks of R326. -/
def State.ringOk (s : State) (r : Nat) : Bool :=
  s.rget (Fd.FRD_ASPACE_BASE_EN 0) == 1 && s.rget (Fd.RNG_SQ_BASE_BASE r) != 0 && s.rget (Fd.RNG_CQ_BASE_BASE r) != 0 &&
    (match s.aspRead (s.rget (Fd.FRD_ASPACE_BASE_BASE 0)) (s.ringAsid r) with
    | .ok (some (_, t)) => t == s.ringTenant r
    | _ => false)

/-- Enable a disabled ring, or refuse to (R326). -/
def State.ringEnable (s : State) (r : Nat) : State :=
  if s.ringOk r then
    let s := (((s.rset (Fd.RNG_STAT_SQ_HEAD r) 0).rset (Fd.RNG_STAT_SQ_TAIL r) 0).rset (Fd.RNG_CSTAT_CQ_HEAD r) 0).rset (Fd.RNG_CSTAT_CQ_TAIL r) 0
    ((s.rset (Fd.RNG_CTL_STATE r) 1).modRing r (fun q => { q with fetched := [], done := [], pendCnt := 0, pendAt := none }))
  else (s.rset (Fd.RNG_CTL_ERR r) 0x09).raise { recNote 0x0809 (s.ringLoc r) with ctx := s.ringCtx r }

/-- A write of ENABLE that the TDI or Twilight mode ignores (R313, R315). -/
def State.ringWriteOff (s : State) (r : Nat) : Option State :=
  if r ≥ 1024 || s.twilight then some s
  else if s.tdiLocked && s.ringOfTdi r then some s.tdispLock
  else none

/-- RING_ENABLE (R326, R328). -/
def execRingEnable (r : Nat) (s : State) : Out :=
  .next (match s.ringWriteOff r with
    | some s => s
    | none =>
      match s.ringState r with
      | 0 => (s.rset (Fd.RNG_CTL_ENABLE r) 1).ringEnable r
      | 2 => (s.rset (Fd.RNG_CTL_ENABLE r) 1).rset (Fd.RNG_CTL_PEND r) 1
      | _ => s)

/-- A ring is disabled (R327, R328, R406): what was fetched and not started completes with 0x82, every started WAIT with 0x04. -/
def State.ringStop (s : State) (r : Nat) : State :=
  let st := s.ringState r
  let s := s.rset (Fd.RNG_CTL_ENABLE r) 0
  if st = 1 || st = 3 then
    let q := s.ring r
    let ends := q.fetched.map (fun p => (⟨p.1, p.2.f 0 63 32, 0x82, 0, 0, 0, p.2.f 0 17 17 == 1, false⟩ : Compl))
    let s := (((s.setRing r { q with fetched := [], done := q.done ++ ends }).rset (Fd.RNG_CTL_STATE r) 2).radd (Fd.RNG_CNT_DONE r) ends.length).radd
      (Fd.RNG_CNT_FAILED r) ends.length
    let ws := s.sor.waits.filter (fun w => w.ring == r)
    let s := { s with sor.waits := s.sor.waits.filter (fun w => w.ring != r) }
    ws.foldl (fun s w => s.complete r w.idx 4 0 (s.sorus w.sorus).value.toNat) s
  else if st = 2 then s.rset (Fd.RNG_CTL_PEND r) 0
  else s

/-- RING_DISABLE (R327, R328, R406). -/
def execRingDisable (r : Nat) (s : State) : Out :=
  .next (match s.ringWriteOff r with
    | some s => s
    | none => s.ringStop r)

/-- RING_DISABLE_DONE (R327, R328): the last completion is written; a latched enable is performed. -/
def execRingDisableDone (r : Nat) (s : State) : Out :=
  .next (
    let q := s.ring r
    if s.ringState r = 2 && q.started.isEmpty && q.done.isEmpty then
      let s := s.rset (Fd.RNG_CTL_STATE r) 0
      if s.rget (Fd.RNG_CTL_PEND r) = 1 then (s.rset (Fd.RNG_CTL_PEND r) 0).ringEnable r else s
    else s)

/-! ## Doorbells (R330–R332) -/

/-- A doorbell that is ignored: BAR2 in Twilight mode, another size, a ring that takes none (R313, R322, R331). -/
def State.doorbellOff (s : State) (r size : Nat) (ok : Bool) : Option State :=
  if r ≥ 1024 || s.twilight then some s
  else if size ≠ 4 then some (s.raise { recNote 0x0808 (s.ringLoc r) with ctx := s.ringCtx r })
  else if !ok then some (s.raise { recNote 0x0807 (s.ringLoc r) with ctx := s.ringCtx r })
  else none

/-- SQ_TAIL (R331). The descriptors it covers are in host memory already (R330): `image` are the bytes at their addresses. -/
def execSqTail (r size v : Nat) (image : List (Nat × List Byte)) (s : State) : Out :=
  .next (
    let s := image.foldl (fun s p => s.hostStore p.1 p.2) s
    match s.doorbellOff r size (s.ringState r = 1) with
    | some s => s
    | none =>
      let t := v % 2 ^ 32
      let t0 := s.rget (Fd.RNG_STAT_SQ_TAIL r)
      if sub32 t t0 ≥ 2 ^ 31 then s.ringHalt r 0x0803 (s.ringLoc r)
      else if sub32 t (s.rget (Fd.RNG_STAT_SQ_HEAD r)) > s.ringN r then s.ringHalt r 0x0802 (s.ringLoc r)
      else s.rset (Fd.RNG_STAT_SQ_TAIL r) t)

/-- CQ_HEAD (R332): taken in every state in which the ring may still write completions (assumption 8). -/
def execCqHead (r size v : Nat) (s : State) : Out :=
  .next (match s.doorbellOff r size (s.ringState r ≠ 0) with
    | some s => s
    | none =>
      let h := v % 2 ^ 32
      if sub32 (s.rget (Fd.RNG_CSTAT_CQ_TAIL r)) h ≤ s.ringN r && sub32 h (s.rget (Fd.RNG_CSTAT_CQ_HEAD r)) < 2 ^ 31 then
        s.rset (Fd.RNG_CSTAT_CQ_HEAD r) h
      else s.ringHalt r 0x080E (s.ringLoc r))

/-! ## Fetching and starting (R333, R334) -/

/-- An enabled ring of a command processor with descriptors not yet fetched. -/
def State.wantsFetch (s : State) (cp r : Nat) : Bool :=
  s.ringState r == 1 && s.rget (Fd.RNG_CTL_CP r) == cp && s.rget (Fd.RNG_STAT_SQ_HEAD r) != s.rget (Fd.RNG_STAT_SQ_TAIL r)
/-- The ring a command processor serves next, in rotating order (R294, R333). -/
def State.nextRing (s : State) (cp : Nat) : Option Nat :=
  let p := spGet (fun _ => 0) s.hpt.cpPtr cp
  ((List.range 1024).map (fun i => (p + i) % 1024)).find? (s.wantsFetch cp)

/-- DESCRIPTOR_FETCH (R311, R333): at most 8 descriptors, not past the tail nor round the end of the ring. -/
def execDescriptorFetch (cp : Nat) (s : State) : Out :=
  .next (
    if !s.hostUp then s
    else match s.nextRing cp with
    | none => s
    | some r =>
      let s := { s with hpt.cpPtr := spPut (fun _ => 0) s.hpt.cpPtr cp ((r + 1) % 1024) }
      let head := s.rget (Fd.RNG_STAT_SQ_HEAD r)
      let n := min 8 (min (sub32 (s.rget (Fd.RNG_STAT_SQ_TAIL r)) head) (s.ringN r - head % s.ringN r))
      let addr := s.rget (Fd.RNG_SQ_BASE_BASE r) * 4096 + (head % s.ringN r) * 64
      match s.hostRead addr (64 * n) with
      | .error e => ((s.countHostFail e).hostFault e (s.ringCtx r)).ringHalt r 0x0804 (s.ringLoc r)
      | .ok l =>
        let s := (s.atsFill addr (64 * n)).rset (Fd.RNG_STAT_SQ_HEAD r) ((head + n) % 2 ^ 32)
        let ep := (s.ring r).epoch * 2 ^ 32
        let ds := (List.range n).map (fun i => (ep + (head + i) % 2 ^ 32, Desc.ofBytes (slice l (64 * i) 64)))
        s.modRing r (fun q => { q with fetched := q.fetched ++ ds }))

/-- FROND_SCHED (R616). -/
def State.schedulable (s : State) (f : Nat) : Bool :=
  s.frondUp f && nbit (s.rget Fd.FLT_PACE_CTL_SCHED_MASK) f && s.rget (Fd.FLT_PACE_EVICTED f) == 0
def State.schedMask (s : State) : Nat := ofBits ((List.range 16).filter s.schedulable)

/-- Descriptors in progress of a command processor. -/
def State.cpLoad (s : State) (cp : Nat) : Nat :=
  s.rng.foldl (fun a p => if s.rget (Fd.RNG_CTL_CP p.1) = cp then a + p.2.started.length else a) 0

/-- The ring channel a COPY or FILL goes to: the one with the fewest commands, the lowest of those (R341). -/
def State.ringChannel (s : State) (f : Nat) : Option Nat :=
  (bitsOf 16 (s.rget (Fd.FRD_DMA_CTL_RING_MASK f))).foldl (fun best c =>
    match best with
    | none => some c
    | some b => if (s.dma f c).queue.length < (s.dma f b).queue.length then some c else some b) none

/-- The session engine's microcode is being switched (Table 20-4). -/
def State.sesSwitching (s : State) : Bool := s.fwu.cur.isSome && s.fwu.todo.head? == some 5

/-- The resource a descriptor's class needs accepts it (R334): a channel (R341), a wait entry (R405), a step (R374), a group
(R445). -/
def State.accepts (s : State) (d : Desc) : Bool :=
  if s.sesSwitching && (d.cls == 2 || (d.cls == 7 && (d.op == 2 || d.op == 3))) then false
  else match d.cls, d.op with
  | 3, _ =>
    !s.frondUp (d.f 1 3 0) || (match s.ringChannel (d.f 1 3 0) with
      | some c => decide ((s.dma (d.f 1 3 0) c).queue.length < 16)
      | none => false)
  | 4, 4 => decide (s.sor.waits.length < 4096)
  | 2, 2 => decide ((s.ses.steps.filter (fun p => p.2.isSome)).length < 16)
  | 5, 5 => (spGet (fun _ => none) s.fab.reds (d.f 1 63 56)).isNone
  | _, _ => true

/-- What a removal sequence turns away: LAUNCH, OPEN, RESUME and STEP (R655). -/
def State.removalRefuses (s : State) (d : Desc) : Bool :=
  decide (s.rget Fd.HUB_CONN_STAT_RM_PHASE ≥ 1) &&
    ((d.cls == 1 && d.op == 0) || (d.cls == 2 && (d.op == 0 || d.op == 2 || d.op == 4)))

/-- A started FENCE holds every later descriptor (R338). -/
def Ring.fenced (q : Ring) : Bool := q.started.any (fun x => x.d.cls == 0 && x.d.op == 1)

/-- What the start of a descriptor does of itself: from it on, launches into an image being unloaded fail (R351). -/
def State.startEffect (s : State) (r i : Nat) (d : Desc) : State :=
  if d.cls = 1 && d.op = 2 then
    { s with hpt.images := s.hpt.images.map (fun m =>
        if m.handle == d.f 1 7 0 && m.asid == s.ringAsid r && m.unload.isNone then { m with unload := some (r, i) } else m) }
  else s

/-- DESCRIPTOR_START (R334, R337): the oldest fetched descriptor starts, or completes as malformed or unprivileged. -/
def execDescriptorStart (r : Nat) (s : State) : Out :=
  .next (
    let q := s.ring r
    match q.fetched with
    | [] => s
    | (i, d) :: rest =>
      let inUse := q.started.length + q.done.length
      let used := sub32 (s.rget (Fd.RNG_CSTAT_CQ_TAIL r)) (s.rget (Fd.RNG_CSTAT_CQ_HEAD r))
      let after := d.f 0 18 18 == 1 || (d.cls == 0 && d.op == 1)
      if s.ringState r ≠ 1 || q.fenced || (after && !q.started.isEmpty) || inUse + used ≥ s.ringN r || q.started.length ≥ 64 ||
          s.cpLoad (s.rget (Fd.RNG_CTL_CP r)) ≥ 4096 then s
      else
        let st : State := s.setRing r { q with fetched := rest, started := q.started ++ [⟨i, d, false, 0, 0, 0, 0, s.schedMask⟩] }
        if s.removalRefuses d then st.complete r i 0x82 0 0
        else if !d.wellFormed then
          (st.raise (recErr 0x0801 (s.ringLoc r) (s.ringCtx r))).complete r i 0x81 0x0801 0
        else if d.cls = 7 && s.rget (Fd.RNG_CTL_PRIV r) = 0 then
          (st.raise (recErr 0x0806 (s.ringLoc r) (s.ringCtx r))).complete r i 0x80 0x0806 0
        else if s.accepts d then st.startEffect r i d else s)

/-! ## Completions and interrupts (R343–R347) -/

/-- Raise a ring's vector and start counting anew (R347). -/
def State.ringIrq (s : State) (r : Nat) : State :=
  (s.msi (s.rget (Fd.RNG_IRQ_VECTOR r))).modRing r (fun q => { q with pendCnt := 0, pendAt := none })

/-- The 32 bytes of a completion entry (Table 10-14, R344). -/
def Compl.bytes (c : Compl) (tail log clock : Nat) : List Byte :=
  let phase := 1 - (tail / 2 ^ log) % 2
  leBytes 8 (c.userTag * 2 ^ 32 + (c.idx % 2 ^ 16) * 2 ^ 16 + c.status * 2 ^ 8 + phase) ++
    leBytes 8 (c.ktag * 2 ^ 48 + c.reason) ++ leBytes 8 c.result ++ leBytes 8 clock

/-- Count an entry written, and raise the vector where R347 says so. -/
def State.entryWritten (s : State) (r : Nat) (irq : Bool) : State :=
  let s := (s.rset (Fd.RNG_CSTAT_CQ_TAIL r) ((s.rget (Fd.RNG_CSTAT_CQ_TAIL r) + 1) % 2 ^ 32)).modRing r (fun q =>
    { q with pendCnt := q.pendCnt + 1, pendAt := some (q.pendAt.getD s.clock) })
  if s.rget (Fd.RNG_IRQ_IRQ_EN r) = 1 && (irq || (s.ring r).pendCnt ≥ max 1 (s.rget (Fd.RNG_IRQ_COUNT r)) ||
      s.rget (Fd.RNG_IRQ_TIME_US r) = 0) then s.ringIrq r
  else s

/-- COMPLETION_WRITE (R343–R347): the oldest finished descriptor's entry is written; a success without CMPL writes none. -/
def execCompletionWrite (r : Nat) (s : State) : Out :=
  .next (match (s.ring r).done with
    | [] => s
    | c :: rest =>
      let out := s.modRing r (fun q => { q with done := rest })
      if c.status = 0 && !c.cmpl then out.dmaResume r c.idx
      else
        let tail := s.rget (Fd.RNG_CSTAT_CQ_TAIL r)
        if !s.hostUp || sub32 tail (s.rget (Fd.RNG_CSTAT_CQ_HEAD r)) ≥ s.ringN r then s
        else
          let addr := s.rget (Fd.RNG_CQ_BASE_BASE r) * 4096 + (tail % s.ringN r) * 32
          match out.hostWrite addr (c.bytes tail (s.ringLog r) s.clock) with
          | (s, some e) => ((s.dmaResume r c.idx).hostFault e (s.ringCtx r)).ringHalt r 0x0805 (s.ringLoc r)
          | (s, none) => (s.dmaResume r c.idx).entryWritten r c.irq)

/-- RING_IRQ_TIMER (R347): TIME_US have passed since the first entry not yet signalled. -/
def execRingIrqTimer (r : Nat) (s : State) : Out :=
  .next (match (s.ring r).pendAt with
    | some c =>
      if s.rget (Fd.RNG_IRQ_IRQ_EN r) = 1 && s.clock - c ≥ 25 * s.rget (Fd.RNG_IRQ_TIME_US r) then s.ringIrq r else s
    | none => s)

/-! ## Class 0x0 (R338) -/

/-- NOP. -/
def execNop (r i : Nat) (s : State) : Out :=
  .next (match s.opOf r i 0 0 with
    | none => s
    | some _ => s.complete r i 0 0 0)

/-- FENCE: it started only after every earlier descriptor completed, and holds every later one until now. -/
def execFence (r i : Nat) (s : State) : Out :=
  .next (match s.opOf r i 0 1 with
    | none => s
    | some _ => s.complete r i 0 0 0)

/-- XLAT_INV (R124): the range rounded outward to 64 KiB pages. Stores whose translations it drops are performed first; while one is held,
the descriptor waits. -/
def execXlatInv (r i : Nat) (s : State) : Out :=
  .next (match s.opOf r i 0 2 with
    | none => s
    | some d =>
      let lo := alignDown (d.f 2 47 0) 65536
      let hi := alignUp (d.f 2 47 0 + d.f 3 47 0) 65536
      if (List.range s.fronds).any s.sbHeld then s
      else
        let s := (List.range s.fronds).foldl (fun s f => s.sbDrain f) s
        (s.xlatInv (d.f 1 12 12 == 1) (d.f 1 13 13 == 1) (d.f 1 11 0) lo hi).complete r i 0 0 0)

/-! ## LAUNCH (R339, R340, R350) -/

/-- Substitution (R340): each named Frond that is not schedulable gives way to the lowest schedulable one neither named nor used;
none where no such Frond remains. -/
def remapFronds (sched : Nat) : List Nat → List Nat → List Nat → Option (List Nat)
  | [], _, out => some out
  | f :: fs, named, out =>
    if nbit sched f then remapFronds sched fs named (out ++ [f])
    else match (bitsOf 16 sched).find? (fun c => !named.contains c && !out.contains c) with
      | some c => remapFronds sched fs named (out ++ [c])
      | none => none

/-- The loaded image whose code holds an address of an address space, and that is not being unloaded (R350, R351). -/
def State.imageAt (s : State) (asid entry : Nat) : Option Image :=
  s.hpt.images.find? (fun m => m.asid == asid && m.unload.isNone && decide (m.va + 64 ≤ entry) && decide (entry < m.va + 64 + m.len))

/-- Place a launch record on a Frond, or fail its kernel where its ENTRY lies outside every image (R350). -/
def State.placeLaunch (s : State) (loc : Loc) (f : Nat) (l : Launch) : State :=
  match s.imageAt l.asid l.entry with
  | none => (s.raise (recErr 0x080B loc (some (l.ktag, l.tenant)))).kernelDone l.issuer f false 0x080B
  | some m => s.launchTo f { l with image := m.handle }

/-- The launch record of a LAUNCH descriptor (R339, Table 05-5). -/
def Desc.launch (d : Desc) (asid tenant r i : Nat) : Launch :=
  { w0 := BitVec.ofNat 64 (d.f 1 63 48 * 2 ^ 48 + asid * 2 ^ 36 + tenant * 2 ^ 26 + d.f 1 24 17 * 2 ^ 18 + d.f 1 30 25 * 2 ^ 12)
    w1 := BitVec.ofNat 64 (d.f 2 47 0)
    w2 := BitVec.ofNat 64 (d.f 3 47 0)
    w3 := BitVec.ofNat 64 (d.f 4 12 0 * 2 ^ 51 + d.f 4 13 13 * 2 ^ 50)
    issuer := .ring r i
    image := 0 }

/-- LAUNCH (R339, R340, R350): it waits while a Frond it uses has no room for the record (R170, R284). -/
def execLaunch (r i : Nat) (s : State) : Out :=
  .next (match s.opOf r i 1 0, (s.ring r).find i with
    | some d, some st =>
      let named := bitsOf 16 (d.f 1 15 0)
      match (if d.f 1 16 16 = 1 then remapFronds st.sched named named [] else some named) with
      | none => (s.raise (recErr 0x080C (s.ringLoc r) (s.ringCtx r))).complete r i 0x80 0x080C 0
      | some fs =>
        if !fs.all (fun f => !s.frondUp f || s.launchRoom f) then s
        else
          let st' := { st with ran := true, used := ofBits fs, running := ofBits fs }
          let s := s.modRing r (fun q => { q with started := q.started.map (fun x => if x.idx = i then st' else x) })
          fs.foldl (fun s f => s.placeLaunch (s.ringLoc r) f (d.launch (s.ringAsid r) (s.ringTenant r) r i)) s
    | _, _ => s)

/-! ## Program images (R348–R351) -/

/-- Read a range through leaves with X = 1, for a hub unit. -/
def State.execRead (s : State) (asid tenant va len : Nat) : State × Option (List Byte) :=
  (pieces va len).foldl (fun (p : State × Option (List Byte)) x =>
    match p.2 with
    | none => p
    | some l =>
      match p.1.xlate none asid tenant x.1 .x with
      | (s, .error _) => (s, none)
      | (s, .ok (pa, _)) =>
        if s.rdHeld pa x.2 then ((s.noteFills pa x.2).setWaited, none)
        else match s.read pa x.2 with
        | (s, .ok m) => (s, some (l ++ m))
        | (s, .error _) => (s, none)) (s, some [])

/-- The header of Table 10-16 is well formed: the code's length and CRC; its reserved fields are ignored (R8). -/
def imageHeader (h : List Byte) : Option (Nat × Nat) :=
  let n := leNat (slice h 8 4)
  if leNat (slice h 0 4) = 0x4A444646 && leNat (slice h 4 2) = 1 && n ≠ 0 && n % 8 = 0 then some (n, leNat (slice h 12 4)) else none

/-- Every Frond's instruction cache is emptied (R112). -/
def State.icClear (s : State) : State :=
  (List.range s.fronds).foldl (fun s f => s.modFr f (fun q => { q with icache := [], icacheBad := [] })) s

/-- A refused load or unload: the record and the reason. -/
def State.imageFail (s : State) (r i reason : Nat) : State :=
  (s.raise (recErr reason (s.ringLoc r) (s.ringCtx r))).complete r i 0x80 reason 0

/-- IMAGE_LOAD (R349). -/
def execImageLoad (r i : Nat) (s : State) : Out :=
  .next (s.attempt fun s => match s.opOf r i 1 1 with
    | none => s
    | some d =>
      let va := d.f 1 47 0
      match s.execRead (s.ringAsid r) (s.ringTenant r) va 64 with
      | (s, none) => s.imageFail r i 0x080A
      | (s, some h) =>
        match imageHeader h with
        | none => s.imageFail r i 0x080A
        | some (n, crc) =>
          match s.execRead (s.ringAsid r) (s.ringTenant r) (va + 64) n with
          | (s, none) => s.imageFail r i 0x080A
          | (s, some code) =>
            if crc32 code ≠ crc then s.imageFail r i 0x080A
            else if s.hpt.images.any (fun m => m.asid == s.ringAsid r && decide (m.va < va + n) && decide (va < m.va + m.len)) then
              s.imageFail r i 0x080D
            else match (List.range 256).find? (fun k => !s.hpt.images.any (fun m => m.handle == k)) with
            | none => s.imageFail r i 0x080D
            | some k =>
              (({ s with hpt.images := ⟨k, s.ringAsid r, va, n, none⟩ :: s.hpt.images }).icClear).complete r i 0 0 k)

/-- Queued and resident kernels launched into an image. -/
def State.imageUsed (s : State) (k : Nat) : Bool :=
  (List.range s.fronds).any (fun f =>
    ((s.fr f).lq ++ (s.fr f).stub).any (fun l => l.image == k) ||
    (List.range 8).any (fun n => match s.krn f n with
      | some q => q.launch.image == k
      | none => false))

/-- IMAGE_UNLOAD (R351): launches into the image fail from its first start; it completes when no kernel of it remains. -/
def execImageUnload (r i : Nat) (s : State) : Out :=
  .next (match (s.ring r).find i with
    | none => s
    | some st =>
      if st.d.cls ≠ 1 || st.d.op ≠ 2 then s
      else
        let k := st.d.f 1 7 0
        match s.hpt.images.find? (fun m => m.handle == k && m.asid == s.ringAsid r && (m.unload.isNone || m.unload == some (r, i))) with
        | none => s.imageFail r i 0x080D
        | some m =>
          if s.imageUsed k then
            { s with hpt.images := s.hpt.images.map (fun x => if x.handle = k then { m with unload := some (r, i) } else x) }
          else
            (({ s with hpt.images := s.hpt.images.filter (fun x => x.handle != k) }).icClear).complete r i 0 0 0)

/-! ## COPY and FILL (R341) -/

/-- The DMA command of a class 0x3 descriptor. -/
def Desc.dmaCmd (d : Desc) (asid tenant r i : Nat) : DmaCmd :=
  { w0 := BitVec.ofNat 64 (d.f 1 44 32 * 2 ^ 35 + d.f 1 45 45 * 2 ^ 34 + d.op)
    w1 := d.w2
    w2 := d.w3
    w3 := BitVec.ofNat 64 (d.f 4 31 0)
    src := .ring r i
    asid := asid
    tenant := tenant
    srcHost := d.f 1 8 8 == 1
    dstHost := d.f 1 9 9 == 1
    red := if d.f 1 10 10 = 1 then some (d.f 1 17 14, d.f 1 19 18) else none
    phase := 0 }

/-- Every page of the destination that is mapped maps to DRAM. -/
def State.dstInDram (s : State) (asid tenant va len : Nat) : Bool :=
  (pieces va len).all (fun p => match (s.xlate none asid tenant p.1 .w).2 with
    | .ok (pa, _) => physClass pa == .dram
    | .error _ => true)

/-- Place a COPY or FILL on a ring channel of its Frond (R341). -/
def State.placeDma (s : State) (r i : Nat) (d : Desc) : State :=
  let f := d.f 1 3 0
  if !s.frondUp f then
    (s.raise (recErr 0x0601 (locFrondWhole f) (s.ringCtx r))).complete r i 0x80 0x0601 0
  else if d.f 1 10 10 = 1 && reduceReserved (d.f 1 17 14) (d.f 1 19 18) then s.complete r i 5 0 0
  else if d.f 1 10 10 = 1 && !s.dstInDram (s.ringAsid r) (s.ringTenant r) (d.f 3 47 0) (d.f 4 31 0) then
    (s.raise (recErr 0x0801 (s.ringLoc r) (s.ringCtx r))).complete r i 0x81 0x0801 0
  else match s.ringChannel f with
  | none => s
  | some c =>
    if (s.dma f c).queue.length ≥ 16 then s
    else
      let s := (s.markRan r i).setDma f c { s.dma f c with queue := (s.dma f c).queue ++ [d.dmaCmd (s.ringAsid r) (s.ringTenant r) r i] }
      if s.awake f then s else s.wakeReq f false

/-- RING_COPY (R341). -/
def execRingCopy (r i : Nat) (s : State) : Out :=
  .next (s.attempt fun s => match s.opOf r i 3 1 with
    | none => s
    | some d => s.placeDma r i d)

/-- RING_FILL (R341). -/
def execRingFill (r i : Nat) (s : State) : Out :=
  .next (s.attempt fun s => match s.opOf r i 3 2 with
    | none => s
    | some d => s.placeDma r i d)

end Sys2Proof.Machine
end

