-- ==== Sys2Proof/Machine/Sessions.lean ====
section
/-!
DEFINITION. Sessions and paged attention (R355–R387): slots and the operations that hold them, pools and their free stacks, the
KV page table, steps and their plans, parking and resuming.
-/

namespace Sys2Proof.Machine

def State.slot (s : State) (x : Nat) : Slot := spGet (fun _ => Slot.init) s.ses.slots x
def State.setSlot (s : State) (x : Nat) (v : Slot) : State := { s with ses.slots := spPut (fun _ => Slot.init) s.ses.slots x v }
def State.modSlot (s : State) (x : Nat) (g : Slot → Slot) : State := s.setSlot x (g (s.slot x))
def State.pool (s : State) (k : Nat) : Pool := spGet (fun _ => Pool.init) s.ses.pools k
def State.setPool (s : State) (k : Nat) (v : Pool) : State := { s with ses.pools := spPut (fun _ => Pool.init) s.ses.pools k v }
def sesLoc (e x : Nat) : Loc := locHub 0x12 e 0xFF x
/-- The vector of R386. -/
def State.sesIrq (s : State) : State := if s.rget Fd.SES_CTL_IRQ_EN = 1 then s.msi (s.rget Fd.SES_CTL_VECTOR) else s
/-- A slot becomes LOST (R356, R386). -/
def State.slotLost (s : State) (x reason : Nat) : State :=
  ((s.modSlot x (fun q => { q with st := .lost })).raise (recNote reason (sesLoc (if reason = 0x0902 then 0 else 2) x))).sesIrq

/-! ## Geometry (R365, R366, R380) -/

/-- Tokens per page. -/
def Slot.tpp (q : Slot) : Nat := 2 ^ (16 - q.tb)
def Slot.layers (q : Slot) : Nat := q.layersM1 + 1
def ceilDiv (a b : Nat) : Nat := (a + b - 1) / b
/-- Page entries of a token count. -/
def Slot.entries (q : Slot) (tokens : Nat) : Nat := ceilDiv tokens q.tpp * q.layers
/-- Page lists of a number of entries. -/
def listsOf (n : Nat) : Nat := ceilDiv n 16384
def Pool.va (p : Pool) (i : Nat) : Nat := p.base + i * 65536
/-- Where page i of a parked image starts, and its size (R380). -/
def imageP0 (np : Nat) : Nat := alignUp (0x80 + 16 * np) 65536
def imageSize (np : Nat) : Nat := imageP0 np + 65536 * np

/-! ## The free stack (R362, R364) -/

/-- Pop a page: `error 0` where the pool is empty, else the reason of the failed access. -/
def State.popPage (s : State) (k : Nat) : State × Except Nat Nat :=
  let p := s.pool k
  if p.free = 0 then (s, .error 0)
  else
    match s.vread none 0 p.asid p.tenant (p.base + 4 * (p.free - 1)) 4 with
    | (s, .error _) => (s, .error 0x0906)
    | (s, .ok l) => (s.setPool k { p with free := p.free - 1 }, .ok (leNat l % 2 ^ 24))
/-- Push a page; a page whose push fails stays out of the pool. -/
def State.pushPage (s : State) (k i : Nat) : State :=
  let p := s.pool k
  match s.vwrite none 0 p.asid p.tenant (p.base + 4 * p.free) (leBytes 4 i) with
  | (s, some _) => s
  | (s, none) => s.setPool k { p with free := p.free + 1 }

/-! ## The page table (R365, R366) -/

/-- Read an entry: `none` where it is unreadable (R366, R386). -/
def State.entryRead (s : State) (p : Pool) (va : Nat) : State × Option Nat :=
  match s.vread none 0 p.asid p.tenant va 4 with
  | (s, .error _) => (s, none)
  | (s, .ok l) =>
    let w := leNat l
    (s, if nbit w 31 && decide (w % 2 ^ 24 < p.npages) then some (w % 2 ^ 24) else none)
/-- Write an entry: V and the page index, or 0. -/
def State.entryWrite (s : State) (p : Pool) (va : Nat) (page : Option Nat) : State × Bool :=
  match s.vwrite none 0 p.asid p.tenant va (leBytes 4 (match page with
    | some i => 2 ^ 31 + i
    | none => 0)) with
  | (s, some _) => (s, false)
  | (s, none) => (s, true)
/-- The page list j of a slot. -/
def State.listPage (s : State) (x j : Nat) : State × Option Nat :=
  let p := s.pool (s.slot x).pool
  s.entryRead p (p.va (s.slot x).dir + 4 * j)
/-- The KV page of entry e of a slot. -/
def State.kvPage (s : State) (x e : Nat) : State × Option Nat :=
  match s.listPage x (e / 16384) with
  | (s, none) => (s, none)
  | (s, some l) =>
    let p := s.pool (s.slot x).pool
    s.entryRead p (p.va l + 4 * (e % 16384))

/-- Bind a popped page to its place: a list in the directory, a KV page in its list. -/
def State.place (s : State) (x : Nat) (list_ : Bool) (at_ : Nat) (page : Option Nat) : State × Bool :=
  let p := s.pool (s.slot x).pool
  if list_ then s.entryWrite p (p.va (s.slot x).dir + 4 * at_) page
  else
    match s.listPage x (at_ / 16384) with
    | (s, none) => (s, false)
    | (s, some l) => s.entryWrite p (p.va l + 4 * (at_ % 16384)) page

/-- Pop one page and bind it: the reservation, or why not (0 pool empty). -/
def State.take (s : State) (x : Nat) (list_ : Bool) (at_ : Nat) : State × Except Nat Resv :=
  match s.popPage (s.slot x).pool with
  | (s, .error e) => (s, .error e)
  | (s, .ok i) =>
    match s.place x list_ at_ (some i) with
    | (s, true) => (s, .ok ⟨x, list_, at_, i⟩)
    | (s, false) => (s.pushPage (s.slot x).pool i, .error 0x0903)

/-- Allocate `n` entries from entry `e`: for each, first the page list it needs, then its page (R364). Newest first. -/
def State.grow (x : Nat) : Nat → Nat → State → List Resv → State × List Resv × Option Nat
  | 0, _, s, acc => (s, acc, none)
  | n + 1, e, s, acc =>
    let (s, acc, err) :=
      if e % 16384 = 0 then
        match s.take x true (e / 16384) with
        | (s, .ok r) => (s, r :: acc, none)
        | (s, .error c) => (s, acc, some c)
      else (s, acc, none)
    match err with
    | some c => (s, acc, some c)
    | none =>
      match s.take x false e with
      | (s, .ok r) => State.grow x n (e + 1) s (r :: acc)
      | (s, .error c) => (s, acc, some c)

/-- Return reserved pages in the reverse of the order in which they were popped (R364); their entries are cleared. -/
def State.giveBack (s : State) (rs : List Resv) : State :=
  rs.foldl (fun s r => (s.place r.slot r.list_ r.place none).1.pushPage (s.slot r.slot).pool r.page) s

/-- Read the pages at several places; `none` for those that cannot be read. -/
def State.readAll (s : State) (rd : State → Nat → State × Option Nat) (es : List Nat) : State × List (Option Nat) :=
  es.foldl (fun (p : State × List (Option Nat)) e =>
    let (s, r) := rd p.1 e
    (s, p.2 ++ [r])) (s, [])
/-- Push what could be read, in order. -/
def State.pushAll (s : State) (k : Nat) (l : List (Option Nat)) : State :=
  l.foldl (fun s r => match r with
    | some i => s.pushPage k i
    | none => s) s
def countSome (l : List (Option Nat)) : Nat := (l.filter Option.isSome).length

/-- Return the pages of entries `e0 … e1-1`, then of lists `l0 … l1-1`, and the directory where it goes too (R364). The state, the
number returned and whether every entry could be read. -/
def State.returnPages (s : State) (x e0 e1 l0 l1 : Nat) (dir : Bool) : State × Nat × Bool :=
  let q := s.slot x
  let (s, kv) := s.readAll (fun s e => s.kvPage x e) ((List.range (e1 - e0)).map (· + e0))
  let (s, ls) := s.readAll (fun s j => s.listPage x j) ((List.range (l1 - l0)).map (· + l0))
  let l := kv ++ ls ++ (if dir then [some q.dir] else [])
  (s.pushAll q.pool l, countSome l, l.all Option.isSome)

/-- Return everything a slot holds: pages, lists and directory (CLOSE, PARK). -/
def State.returnAll (s : State) (x : Nat) : State × Nat × Bool :=
  let q := s.slot x
  s.returnPages x 0 (q.entries q.tokens) 0 (listsOf (q.entries q.tokens)) true

/-! ## Arrival at a slot (R357–R359, Table 11-2) -/

inductive Arrive where
  | start
  | latch
  | refuse (status : Nat)
  deriving DecidableEq, Repr

/-- Table 11-2, without its STEP column; OP codes of Table 11-4. -/
def slotTable (st : SlotSt) (op : Nat) : Arrive :=
  match st, op with
  | .free, 0 => .start
  | .resident, 1 => .start
  | .resident, 3 => .start
  | .resident, 5 => .start
  | .stepping, 1 => .latch
  | .stepping, 3 => .latch
  | .stepping, 5 => .latch
  | .parking, 1 => .latch
  | .parking, 4 => .latch
  | .parked, 1 => .start
  | .parked, 4 => .start
  | .resuming, 1 => .latch
  | .closing, 0 => .latch
  | .lost, 1 => .start
  | _, _ => .refuse 2

/-- The ring may act on the slot (R359): its tenant and ASID are the slot's; a LOST slot with no binding takes only QUERY and CLOSE
from a privileged ring (R356); a FREE slot is bound to none. -/
def State.boundOk (s : State) (x r op : Nat) : Bool :=
  let q := s.slot x
  if q.st = .free then true
  else if q.bound then q.tenant == s.ringTenant r && q.asid == s.ringAsid r
  else (op == 1 || op == 6) && s.rget (Fd.RNG_CTL_PRIV r) == 1

/-- An uncorrectable error in the slot's record makes it LOST; the binding stays while its second copy is readable (R356). -/
def State.slotCheck (s : State) (x : Nat) : State :=
  let q := s.slot x
  if q.recBad && q.st ≠ .lost then (s.setSlot x { q with bound := q.bound && !q.copyBad }).slotLost x 0x0902 else s

/-- The engine runs a verified image (R387). -/
def State.sesUp (s : State) : Bool := s.rget Fd.SES_STAT_ENGINE_UP == 1
/-- A descriptor ends with status 0x80 while the engine is down; its record is raised once (R387). -/
def State.sesDown (s : State) (r i : Nat) : State :=
  let s := if s.ses.downSaid then s
    else ({ s with ses.downSaid := true }).raise ⟨0x0907, sesLoc 4 0xFFFF, 2, .engine (sesLoc 4 0xFFFF), none, false, false, false, false⟩
  s.complete r i 0x80 0x0907 0
/-- A failed session operation: the record is raised by its rule, the descriptor ends with 0x80. -/
def State.sesFail (s : State) (r i reason : Nat) : State := s.complete r i 0x80 reason 0

/-- The slot's sequence begins for a descriptor. -/
def State.hold (s : State) (x r i : Nat) : State := (s.markRan r i).modSlot x (fun q => { q with seq := some (r, i) })
/-- The slot's sequence ends: the descriptor completes. -/
def State.seqDone (s : State) (x status reason result : Nat) : State :=
  match (s.slot x).seq with
  | none => s
  | some (r, i) => (s.modSlot x (fun q => { q with seq := none })).complete r i status reason result

/-! ## OPEN, CLOSE, TRUNCATE (R368–R370) -/

/-- A TENANT_ERASE of the tenant, or an owner release, runs (R474, R478). -/
def State.tenantErasing (s : State) (t : Nat) : Bool := s.sec.releasing || s.sec.erasing.any (fun e => e.2.2.1 == t)

/-- OPEN begins in a FREE slot: pool, TENANT_ERASE, session key, directory page (R360, R368, R474). -/
def State.openGo (s : State) (x r i : Nat) (d : Desc) : State :=
  let k := d.f 1 22 17
  let p := s.pool k
  if s.tenantErasing (s.ringTenant r) then s.complete r i 2 0 0
  else if !(p.valid && p.tenant == s.ringTenant r && p.asid == s.ringAsid r) then s.complete r i 0x0B 0 0
  else if s.secSwitching then s
  else match s.newKey with
  | none => s.sesFail r i rngReason
  | some (s, key) =>
    match s.popPage k with
    | (s, .error 0) => s.complete r i 3 0 0
    | (s, .error e) => (s.raise (recErr e (sesLoc 2 x) (s.ringCtx r))).sesFail r i e
    | (s, .ok page) =>
      (s.setSlot x { Slot.init with st := .resident, bound := true, tenant := s.ringTenant r, asid := s.ringAsid r, pool := k
                                    layersM1 := d.f 1 31 24, tb := d.f 1 36 32, dir := page, key := some key
                                    pend := (s.slot x).pend }).complete r i 0 0 x

/-- CLOSE begins (R370): the key is destroyed and the pages go back; a PARKED slot's record is removed from the ledger first. -/
def State.closeGo (s : State) (x r i : Nat) : State :=
  match (s.slot x).st with
  | .parked => ((s.hold x r i).modSlot x (fun q => { q with st := .closing })).commitFor [⟨0x0E, x, true, [], 0⟩] (.slot x)
  | .lost => (s.setSlot x { Slot.init with pend := (s.slot x).pend }).complete r i 0 0 0
  | _ =>
    let (s, n, _) := (s.modSlot x (fun q => { q with key := none })).returnAll x
    (s.setSlot x { Slot.init with pend := (s.slot x).pend }).complete r i 0 0 n

/-- TRUNCATE begins (R369, R386). -/
def State.truncateGo (s : State) (x r i : Nat) (d : Desc) : State :=
  let q := s.slot x
  let n := d.f 2 23 0
  if n > q.tokens then s.complete r i 2 0 0
  else
    let (s, k, ok) := s.returnPages x (q.entries n) (q.entries q.tokens) (listsOf (q.entries n)) (listsOf (q.entries q.tokens)) false
    if ok then (s.modSlot x (fun q => { q with tokens := n })).complete r i 0 0 k
    else (s.slotLost x 0x0903).sesFail r i 0x0903

/-! ## PARK (R380–R382) -/

/-- Header bytes 0x00 to 0x6F of an image (Table 11-9). -/
def imageHdr (x tenant layersM1 tb park tokens np : Nat) : List Byte :=
  leBytes 4 0x50534A46 ++ leBytes 2 1 ++ leBytes 2 x ++ leBytes 2 tenant ++ leBytes 1 layersM1 ++ leBytes 1 tb ++ leBytes 4 park ++
    leBytes 4 tokens ++ leBytes 4 np ++ leBytes 88 0
def Slot.hdr (q : Slot) (x : Nat) : List Byte :=
  imageHdr x q.tenant q.layersM1 q.tb q.parkCount q.tokens (q.entries q.tokens)
/-- The nonce of page i (R381). -/
def pageNonce (park i : Nat) : List Byte := leBytes 4 park ++ leBytes 4 i ++ leBytes 4 0

/-- Write the pages of an image with their tags; the reason where one fails, and whether a structure was unreadable. -/
def State.parkPages (s : State) (x dest : Nat) (key hdr : List Byte) : List Nat → State × Option (Nat × Bool)
  | [] => (s, none)
  | e :: es =>
    let q := s.slot x
    let np := q.entries q.tokens
    match s.kvPage x e with
    | (s, none) => (s, some (0x0903, true))
    | (s, some i) =>
      match s.vread none 0 q.asid q.tenant ((s.pool q.pool).va i) 65536 with
      | (s, .error v) => (s, some (v.reason, false))
      | (s, .ok l) =>
        let c := gcmCrypt key (pageNonce q.parkCount e) l
        match s.hostWrite (dest + imageP0 np + 65536 * e) c with
        | (s, some w) => (s, some (w, false))
        | (s, none) =>
          match s.hostWrite (dest + 0x80 + 16 * e) (gcmTag key (pageNonce q.parkCount e) hdr c) with
          | (s, some w) => (s, some (w, false))
          | (s, none) => State.parkPages s x dest key hdr es

/-- The tenant's key, made at the first PARK of the tenant (Table 14-4). -/
def State.tenantKey (s : State) (t : Nat) : Option (List Byte) := spGet (fun _ => none) s.sec.tenantKeys t
def State.setTenantKey (s : State) (t : Nat) (v : Option (List Byte)) : State :=
  { s with sec.tenantKeys := spPut (fun _ => none) s.sec.tenantKeys t v }
def State.needTenantKey (s : State) (t : Nat) : Option State :=
  match s.tenantKey t with
  | some _ => some s
  | none => (s.newKey).map (fun p => p.1.setTenantKey t (some p.2))

/-- The parked record, with the wrapped session key (R382, R472; assumption 10), and the tenant key's with its first. -/
def State.parkWrites (s : State) (x : Nat) : List LWrite :=
  let q := s.slot x
  let rec_ : LWrite := ⟨0x0E, x, false, [q.parkCount, q.tokens, q.layersM1, q.tb, q.tenant, q.asid, q.pool, leNat (q.key.getD [])], 64⟩
  if (s.ldgLive 0x0F q.tenant).isSome then [rec_]
  else [⟨0x0F, q.tenant, false, [leNat ((s.tenantKey q.tenant).getD [])], 40⟩, rec_]

/-- A failed PARK: the slot is RESIDENT again with its pages, or LOST where its structures cannot be read (R382, R386). -/
def State.parkFail (s : State) (x reason : Nat) (lost : Bool) : State :=
  let s := if lost then s.slotLost x reason else (s.modSlot x (fun q => { q with st := .resident })).raise (recErr reason (failLoc reason (sesLoc 3 x)) none)
  s.seqDone x 0x80 reason 0

/-- PARK begins (R382 steps 1 to 4). -/
def State.parkGo (s : State) (x r i : Nat) (d : Desc) : State :=
  let q := s.slot x
  let np := q.entries q.tokens
  let dest := d.f 2 63 0
  if d.f 3 63 0 < imageSize np then s.complete r i 4 0 0
  else if s.secSwitching && (s.tenantKey q.tenant).isNone then s
  else
    let s := (s.hold x r i).modSlot x (fun q => { q with st := .parking, parkCount := (q.parkCount + 1) % 2 ^ 32, image := imageSize np })
    match s.needTenantKey q.tenant with
    | none => s.parkFail x rngReason false
    | some s =>
      let key := q.key.getD []
      let hdr := (s.slot x).hdr x
      match s.parkPages x dest key hdr (List.range np) with
      | (s, some (e, lost)) => s.parkFail x e lost
      | (s, none) =>
        let tag := gcmTag key (leBytes 4 (s.slot x).parkCount ++ leBytes 4 0xFFFFFFFF ++ leBytes 4 0) hdr []
        match s.hostWrite dest (hdr ++ tag) with
        | (s, some e) => s.parkFail x e false
        | (s, none) => s.commitFor (s.parkWrites x) (.slot x)

/-! ## RESUME (R383) -/

/-- The resume-authentication failure (R383, R386). -/
def State.authFail (s : State) (x : Nat) : State :=
  (((s.raise (recNote 0x0901 (sesLoc 3 x))).sesIrq).modSlot x (fun q => { q with st := .parked })).seqDone x 5 0 0

/-- Decrypt the pages of an image into the fresh pages; `false` where a tag fails, or the reason of a failed access. -/
def State.resumePages (s : State) (x src : Nat) (key hdr : List Byte) : List Nat → State × Except Nat Bool
  | [] => (s, .ok true)
  | e :: es =>
    let q := s.slot x
    let np := q.entries q.tokens
    match s.hostRead (src + imageP0 np + 65536 * e) 65536, s.hostRead (src + 0x80 + 16 * e) 16 with
    | .ok c, .ok tag =>
      if gcmTag key (pageNonce q.parkCount e) hdr c ≠ tag then (s, .ok false)
      else
        match s.kvPage x e with
        | (s, none) => (s, .error 0x0903)
        | (s, some i) =>
          match s.vwrite none 0 q.asid q.tenant ((s.pool q.pool).va i) (gcmCrypt key (pageNonce q.parkCount e) c) with
          | (s, some _) => (s, .error 0x0906)
          | (s, none) => State.resumePages s x src key hdr es
    | .error w, _ => (s.countHostFail w, .error w)
    | _, .error w => (s.countHostFail w, .error w)

/-- RESUME begins (R383). -/
def State.resumeGo (s : State) (x r i : Nat) (d : Desc) : State :=
  let q := s.slot x
  let src := d.f 2 63 0
  let np := q.entries q.tokens
  if s.tenantErasing q.tenant then s.complete r i 2 0 0
  else if (s.tenantKey q.tenant).isNone then (s.slotLost x 0x0903).sesFail r i 0x0903
  else
    let key := q.key.getD []
    let s := (s.hold x r i).modSlot x (fun q => { q with st := .resuming })
    let back (s : State) (status reason : Nat) : State := (s.modSlot x (fun q => { q with st := .parked })).seqDone x status reason 0
    match s.hostRead src 0x80 with
    | .error w => back ((s.countHostFail w).raise (recErr w (failLoc w (sesLoc 3 x)) (s.ringCtx r))) 0x80 w
    | .ok h =>
      let nonce := slice h 0x0C 4 ++ leBytes 4 0xFFFFFFFF ++ leBytes 4 0
      if gcmTag key nonce (h.take 0x70) [] ≠ h.drop 0x70 then s.authFail x
      else if h.take 0x18 ≠ (q.hdr x).take 0x18 then back s 6 0
      else
        let p := s.pool q.pool
        if !(p.valid && p.tenant == q.tenant && p.asid == q.asid) then back s 0x0B 0
        else if p.free < np + listsOf np + 1 then back s 3 0
        else
          match s.popPage q.pool with
          | (s, .error _) => back s 3 0
          | (s, .ok dir) =>
            let s := s.modSlot x (fun q => { q with dir := dir })
            match State.grow x np 0 s [] with
            | (s, rs, some e) => back (((s.giveBack rs).pushPage q.pool dir).raise (recErr (if e = 0 then 0x0906 else e) (sesLoc 2 x) (s.ringCtx r))) 0x80 (if e = 0 then 0x0906 else e)
            | (s, _, none) =>
              match s.resumePages x src key (h.take 0x70) (List.range np) with
              | (s, .ok true) => s.commitFor [⟨0x0E, x, true, [], 0⟩] (.slot x)
              | (s, .ok false) => (s.returnAll x).1.authFail x
              | (s, .error e) => back ((s.returnAll x).1.raise (recErr e (failLoc e (sesLoc 3 x)) (s.ringCtx r))) 0x80 e

/-- A commit of a slot's sequence has completed or was refused (R370, R382, R383, R576). -/
def State.slotCommitted (s : State) (x : Nat) (ok : Bool) : State :=
  let q := s.slot x
  match q.st with
  | .parking =>
    if ok then
      let (s, _, _) := s.returnAll x
      (s.modSlot x (fun q => { q with st := .parked, dir := 0 })).seqDone x 0 0 q.image
    else
      let s := if (s.ldgLive 0x0F q.tenant).isSome then s else s.setTenantKey q.tenant none
      (s.modSlot x (fun q => { q with st := .resident })).seqDone x 0x80 0x1001 0
  | .resuming =>
    if ok then (s.modSlot x (fun q => { q with st := .resident })).seqDone x 0 0 0
    else ((s.returnAll x).1.modSlot x (fun q => { q with st := .parked, dir := 0 })).seqDone x 0x80 0x1001 0
  | .closing =>
    if ok then (s.seqDone x 0 0 0).modSlot x (fun q => { Slot.init with pend := q.pend })
    else (s.modSlot x (fun q => { q with st := .parked })).seqDone x 0x80 0x1001 0
  | _ => s

/-! ## The slot operations as commands -/

/-- A slot operation begins. One that reads or writes host memory waits while the host link is down (R312). -/
def State.slotGo (s : State) (x r i op : Nat) (d : Desc) : State :=
  match op with
  | 0 => s.openGo x r i d
  | 1 => s.closeGo x r i
  | 3 => if s.hostUp then s.parkGo x r i d else s.setWaited
  | 4 => if s.hostUp then s.resumeGo x r i d else s.setWaited
  | 5 => s.truncateGo x r i d
  | _ => s

/-- An error met in the slot's record, and in the second copy of its binding: `upset` 1 and 2 (R356). -/
def State.slotUpset (s : State) (x upset : Nat) : State :=
  if upset = 0 then s else s.modSlot x (fun q => { q with recBad := true, copyBad := q.copyBad || upset == 2 })

/-- A slot operation arrives (R357–R359). One that may start waits behind a latched one, which starts first (R357). -/
def State.slotArrive (s : State) (x r i op : Nat) (d : Desc) : State :=
  let s := s.slotCheck x
  if op ≠ 0 && !s.boundOk x r op then s.complete r i 1 0 0
  else match slotTable (s.slot x).st op with
  | .start => if (s.slot x).pend.isSome then s else s.slotGo x r i op d
  | .latch =>
    if (s.slot x).pend.isSome then s.complete r i 8 0 0
    else (s.markRan r i).modSlot x (fun q => { q with pend := some (r, i) })
  | .refuse c => s.complete r i c 0 0

/-- A class 0x2 operation other than STEP and QUERY on its slot. -/
def State.slotOp (s : State) (r i op : Nat) : State :=
  match s.opOf r i 2 op with
  | none => s
  | some d => if s.sesUp then s.slotArrive (d.f 1 15 0) r i op d else s.sesDown r i

/-- The lowest FREE slot. -/
def State.freeSlot (s : State) : Option Nat :=
  (List.range 65536).find? (fun x => (s.slot x).st == .free && (s.slot x).pend.isNone)

/-- OPEN (R368): with ANY = 1 the lowest FREE slot. -/
def execOpen (r i upset : Nat) (s : State) : Out :=
  .next (s.attempt fun s => match s.opOf r i 2 0 with
    | none => s
    | some d =>
      if !s.sesUp then s.sesDown r i
      else if d.f 1 16 16 = 1 then
        match s.freeSlot with
        | none => s.complete r i 7 0 0
        | some x => s.openGo x r i d
      else (s.slotUpset (d.f 1 15 0) upset).slotArrive (d.f 1 15 0) r i 0 d)
/-- CLOSE (R370). -/
def execClose (r i upset : Nat) (s : State) : Out :=
  .next (s.attempt fun s => match s.opOf r i 2 1 with
    | none => s
    | some d => if s.sesUp then (s.slotUpset (d.f 1 15 0) upset).slotArrive (d.f 1 15 0) r i 1 d else s.sesDown r i)
/-- PARK (R382). -/
def execPark (r i : Nat) (s : State) : Out := .next (s.attempt fun s => s.slotOp r i 3)
/-- RESUME (R383). -/
def execResume (r i : Nat) (s : State) : Out := .next (s.attempt fun s => s.slotOp r i 4)
/-- TRUNCATE (R369). -/
def execTruncate (r i : Nat) (s : State) : Out := .next (s.attempt fun s => s.slotOp r i 5)

/-- Code of a slot state (Table 11-1). -/
def SlotSt.code : SlotSt → Nat
  | .free => 0 | .resident => 1 | .stepping => 2 | .parking => 3 | .parked => 4 | .resuming => 5 | .closing => 6 | .lost => 7

/-- RESULT of QUERY (Table 11-5). -/
def State.queryResult (s : State) (x : Nat) : Nat :=
  let q := s.slot x
  if q.st = .free then 0
  else
    let op := match q.pend with
      | some (r, i) => (match (s.ring r).find i with
        | some st => st.d.op
        | none => 0)
      | none => 0
    q.tokens * 2 ^ 40 + q.layersM1 * 2 ^ 32 + q.tb * 2 ^ 27 + q.pool * 2 ^ 21 + q.tenant * 2 ^ 11 + op * 2 ^ 7 +
      b2n q.pend.isSome * 2 ^ 6 + q.st.code

/-- QUERY (R371). -/
def execQuery (r i upset : Nat) (s : State) : Out :=
  .next (s.attempt fun s => match s.opOf r i 2 6 with
    | none => s
    | some d =>
      if !s.sesUp then s.sesDown r i
      else
        let x := d.f 1 15 0
        let s := (s.slotUpset x upset).slotCheck x
        if s.boundOk x r 6 then s.complete r i 0 0 (s.queryResult x) else s.complete r i 1 0 0)

/-- SLOT_LATCHED_START (R357): the slot is in a stable state that Table 11-2 marks start for its latched operation, and no sequence
holds it. Where the state marks something else, the operation completes with that status. -/
def execSlotLatchedStart (x : Nat) (s : State) : Out :=
  .next (s.attempt fun s => match (s.slot x).pend with
    | none => s
    | some (r, i) =>
      match (s.ring r).find i with
      | none => s.modSlot x (fun q => { q with pend := none })
      | some st =>
        if !s.sesUp then s
        else
          let s := s.slotCheck x
          match slotTable (s.slot x).st st.d.op with
          | .start => (s.modSlot x (fun q => { q with pend := none })).slotGo x r i st.d.op st.d
          | .latch => s
          | .refuse c => (s.modSlot x (fun q => { q with pend := none })).complete r i c 0 0)

/-- The engine's microcode stops running a verified image: sequences stop where they are (R387). -/
def State.sesStop (s : State) : State :=
  let held := (s.ses.slots.filter (fun p => p.2.st == .parking || p.2.st == .resuming || p.2.st == .closing)).map (·.1)
  { s.rset Fd.SES_STAT_ENGINE_UP 0 with
    ses.stopped := held.foldl insNat s.ses.stopped
    ldg.queue := s.ldg.queue.filter (fun q => match q.who with
      | .slot _ => false
      | _ => true) }

/-- One interrupted sequence starts again from its beginning (R387). -/
def State.seqRestart (s : State) (x : Nat) : State :=
  match (s.slot x).seq with
  | none => s
  | some (r, i) =>
    match (s.ring r).find i with
    | none => s
    | some st =>
      match (s.slot x).st with
      | .parking => (s.modSlot x (fun q => { q with st := .resident })).slotGo x r i 3 st.d
      | .resuming => ((s.returnAll x).1.modSlot x (fun q => { q with st := .parked })).slotGo x r i 4 st.d
      | .closing => (s.modSlot x (fun q => { q with st := .parked })).slotGo x r i 1 st.d
      | _ => s

/-- SESSION_SEQUENCE_RESTART (R387): a verified image runs. -/
def execSessionSequenceRestart (s : State) : Out :=
  .next (s.attempt fun s => 
    if s.sesUp then
      let l := s.ses.stopped
      let s := ({ s with ses.stopped := [], ses.downSaid := false }).dropFence (.engine (sesLoc 4 0xFFFF))
      l.foldl (fun s x => s.seqRestart x) s
    else s)

/-! ## Pools (R361–R363) -/

/-- Every page of a range is mapped by leaves with R = 1 and W = 1 into DRAM (R362). -/
def State.arenaMapped (s : State) (asid tenant base n : Nat) : Bool :=
  (List.range n).all (fun j =>
    match (s.xlate none asid tenant (base + j * 65536) .r).2, (s.xlate none asid tenant (base + j * 65536) .w).2 with
    | .ok (pa, _), .ok _ => physClass pa == .dram
    | _, _ => false)

/-- POOL_CREATE (R362): its checks in order, then the free stack, built so that pages pop in ascending order. -/
def execPoolCreate (r i : Nat) (s : State) : Out :=
  .next (s.attempt fun s => match s.opOf r i 7 2 with
    | none => s
    | some d =>
      let k := d.f 1 5 0
      let tenant := d.f 1 37 28
      let asid := d.f 1 27 16
      let base := d.f 2 47 0
      let n := d.f 3 23 0
      if !s.sesUp then s.sesDown r i
      else if (s.pool k).valid then s.complete r i 0x0B 0 0
      else
        let aspOk := s.rget (Fd.FRD_ASPACE_BASE_EN 0) == 1 && (match s.aspRead (s.rget (Fd.FRD_ASPACE_BASE_BASE 0)) asid with
          | .ok (some (_, t)) => t == tenant
          | _ => false)
        if !aspOk || !s.arenaMapped asid tenant base n then s.complete r i 0x0C 0 0
        else
          let free := n - ceilDiv (n * 4) 65536
          match s.vwrite none 0 asid tenant base ((List.range free).flatMap (fun j => leBytes 4 (n - 1 - j))) with
          | (s, some _) => (s.raise (recErr 0x0906 (sesLoc 2 0xFFFF) (s.ringCtx r))).sesFail r i 0x0906
          | (s, none) => (s.setPool k ⟨true, tenant, asid, base, n, free⟩).complete r i 0 0 0)

/-- POOL_DESTROY (R363): no slot outside FREE and PARKED names the pool. -/
def execPoolDestroy (r i : Nat) (s : State) : Out :=
  .next (s.attempt fun s => match s.opOf r i 7 3 with
    | none => s
    | some d =>
      let k := d.f 1 5 0
      if !s.sesUp then s.sesDown r i
      else if !(s.pool k).valid || s.ses.slots.any (fun p => p.2.pool == k && p.2.st != .free && p.2.st != .parked) then s.complete r i 0x0B 0 0
      else (s.setPool k .init).complete r i 0 0 0)

/-! ## Steps (R372–R374) -/

def PlanE.kind (p : PlanE) : Nat := fld p.w0 3 0
def PlanE.wait (p : PlanE) : Bool := bit p.w0 4
def PlanE.fronds (p : PlanE) : Nat := fld p.w0 47 32
def PlanE.layer (p : PlanE) : Nat := fld p.w0 15 8
/-- A plan entry is well formed: its KIND, the fields its KIND does not use 0, Fronds named (R372, Table 11-7). -/
def PlanE.ok (p : PlanE) : Bool :=
  p.w3 == 0#64 && fld p.w0 7 7 == 0 && fld p.w0 5 5 == 0 && fld p.w1 50 48 == 0 &&
    (if p.kind = 1 then p.fronds != 0 && fld p.w0 16 8 == 0
     else p.kind == 2 && fld p.w0 63 17 == 0 && fld p.w0 6 6 == 0 && p.w1 == 0#64 && p.w2 == 0#64)
def planOf (l : List Byte) (n : Nat) : List PlanE :=
  (List.range n).map (fun j =>
    let w (m : Nat) : W64 := BitVec.ofNat 64 (leNat (slice l (32 * j + 8 * m) 8))
    ⟨w 0, w 1, w 2, w 3, 0, 0, none⟩)

/-- Admission status of a batch entry, in the order of Table 11-6, up to the reservation; 0 where it passes. -/
def State.admitCode (s : State) (r x adv : Nat) (dup : Bool) (maxLayer : Option Nat) : Nat :=
  let q := s.slot x
  if dup then 4
  else if !s.boundOk x r 2 then 2
  else if q.st = .lost then 6
  else if q.st ≠ .resident && q.st ≠ .stepping then 1
  else if q.st = .stepping || q.pend.isSome then 3
  else if (match maxLayer with
    | some l => decide (l ≥ q.layers)
    | none => false) then 7
  else if q.tokens + adv > 2 ^ 24 - 1 || q.entries (q.tokens + adv) > 2 ^ 28 then 8
  else 0

/-- What admission has gathered: statuses, admitted sessions, reservations (newest first), and a failure. -/
structure AdmitAcc where
  codes : List Nat
  adm : List Admit
  resv : List Resv
  fail : Option Nat

/-- Admit one batch entry (R373). -/
def State.admitOne (r adv : Nat) (maxLayer : Option Nat) (ids : List Nat) (p : State × AdmitAcc) (j : Nat) : State × AdmitAcc :=
  let (s, a) := p
  if a.fail.isSome then p
  else
    let x := ids.getD j 0
    let dup := (ids.take j).contains x
    let s := if dup then s else s.slotCheck x
    let c := s.admitCode r x adv dup maxLayer
    if c ≠ 0 then (s, { a with codes := a.codes ++ [c] })
    else
      let q := s.slot x
      match State.grow x (q.entries (q.tokens + adv) - q.entries q.tokens) (q.entries q.tokens) s [] with
      | (s, rs, none) =>
        (s.modSlot x (fun q => { q with st := .stepping }),
          { a with codes := a.codes ++ [0], adm := a.adm ++ [⟨x, j, q.tokens⟩], resv := rs ++ a.resv })
      | (s, rs, some 0) => (s.giveBack rs, { a with codes := a.codes ++ [5] })
      | (s, rs, some e) =>
        let s := s.giveBack rs
        (if e = 0x0903 then s.slotLost x 0x0903 else s.raise (recErr 0x0906 (sesLoc 2 x) (s.ringCtx r)), { a with fail := some e })

/-- Admitted sessions leave STEPPING. -/
def State.release (s : State) (adm : List Admit) : State :=
  adm.foldl (fun s a => if (s.slot a.slot).st = .stepping then s.modSlot a.slot (fun q => { q with st := .resident }) else s) s

/-- Size of a gather list (R374). -/
def State.gatherSize (s : State) (adm : List Admit) (adv : Nat) : Nat :=
  64 + 32 * adm.length + 8 * adm.foldl (fun n a => n + ceilDiv (a.old + adv) (s.slot a.slot).tpp) 0

/-- Fronds of a plan after substitution (R340, R374): `none` where no schedulable Frond is left. -/
def planFronds (remap : Bool) (sched : Nat) : List PlanE → Option (List PlanE)
  | [] => some []
  | p :: ps =>
    match planFronds remap sched ps with
    | none => none
    | some rest =>
      if p.kind = 1 && remap then
        let named := bitsOf 16 p.fronds
        match remapFronds sched named named [] with
        | none => none
        | some fs => some ({ p with w0 := setFld p.w0 47 32 (ofBits fs) } :: rest)
      else some (p :: rest)

/-- Wake every Frond that a LAUNCH entry names (R374). -/
def State.wakePlan (s : State) (plan : List PlanE) : State :=
  (List.range s.fronds).foldl (fun s f =>
    if s.frondUp f && plan.any (fun p => p.kind == 1 && nbit p.fronds f) then s.wakeReq f false else s) s

/-- STEP after its batch list and plan are read (R372–R374); `sched`: FROND_SCHED as it stood when the descriptor started. -/
def State.stepGo (s : State) (r i : Nat) (d : Desc) (sched : Nat) (ids : List Nat) (plan : List PlanE) : State :=
  let adv := d.f 1 31 20
  if !plan.all PlanE.ok then (s.raise (recErr 0x0904 (sesLoc 1 0xFFFF) (s.ringCtx r))).sesFail r i 0x0904
  else
    let gl := (plan.filter (fun p => p.kind == 2)).map PlanE.layer
    let maxLayer := gl.foldl (fun m l => some (max (m.getD 0) l)) none
    let (s, a) := (List.range ids.length).foldl (State.admitOne r adv maxLayer ids) (s, ⟨[], [], [], none⟩)
    let na := a.adm.length
    let result := na + (ids.length - na) * 2 ^ 32
    let undo (s : State) : State := (s.giveBack a.resv).release a.adm
    match a.fail with
    | some e => (undo s).complete r i 0x80 e result
    | none =>
      let strict := d.f 1 16 16 = 1 && na < ids.length
      let codes := a.codes.map (fun c => if strict && c = 0 then 9 else c)
      match s.vwrite none 0 (s.ringAsid r) (s.ringTenant r) (d.f 3 47 0) (codes.map (BitVec.ofNat 8)) with
      | (s, some e) => ((undo s).raise (recErr e.reason (sesLoc 1 0xFFFF) (s.ringCtx r))).complete r i 0x80 e.reason result
      | (s, none) =>
        if strict then (undo s).complete r i 9 0 result
        else if na = 0 then s.complete r i 0x0D 0 result
        else if s.gatherSize a.adm adv > d.f 7 31 0 then (undo s).complete r i 0x0A 0 result
        else match planFronds (d.f 1 17 17 == 1) sched plan with
        | none => ((undo s).raise (recErr 0x080C (s.ringLoc r) (s.ringCtx r))).complete r i 0x80 0x080C result
        | some plan =>
          match (List.range 16).find? (fun h => (s.step_ h).isNone) with
          | none => undo s
          | some h =>
            let q : StepRec := ⟨r, i, (s.ses.stepSeq + 1) % 2 ^ 32, a.adm, ids.length - na, a.resv, plan, adv, d.f 1 18 18 == 1,
              d.f 1 17 17 == 1, d.f 5 47 0, d.f 6 47 0, none, none⟩
            ((({ s with ses.stepSeq := (s.ses.stepSeq + 1) % 2 ^ 32 }).setStep h (some q)).markRan r i).wakePlan plan

/-- STEP (R372–R374): at most 16 steps at once. -/
def execStep (r i : Nat) (s : State) : Out :=
  .next (s.attempt fun s => match s.opOf r i 2 2, (s.ring r).find i with
    | some d, some st =>
      if !s.sesUp then s.sesDown r i
      else if (List.range 16).all (fun h => (s.step_ h).isSome) then s
      else
        let asid := s.ringAsid r
        let ten := s.ringTenant r
        let n := d.f 1 13 0 + 1
        let m := d.f 1 63 52 + 1
        match s.vread none 0 asid ten (d.f 2 47 0) (2 * n) with
        | (s, .error e) => (s.raise (recErr e.reason (sesLoc 1 0xFFFF) (s.ringCtx r))).sesFail r i e.reason
        | (s, .ok bl) =>
          match s.vread none 0 asid ten (d.f 4 47 0) (32 * m) with
          | (s, .error e) => (s.raise (recErr e.reason (sesLoc 1 0xFFFF) (s.ringCtx r))).sesFail r i e.reason
          | (s, .ok pl) =>
            s.stepGo r i d st.sched ((List.range n).map (fun j => leNat (slice bl (2 * j) 2))) (planOf pl m)
    | _, _ => s)

/-! ## The plan (R375–R379) -/

/-- The next plan entry to start: the first not started, every earlier one complete where WAIT = 1, and the step not failed. -/
def StepRec.next (q : StepRec) : Option (Nat × PlanE) :=
  if q.failed then none
  else match findIdxFrom (fun p => p.phase == 0) q.plan 0 with
  | none => none
  | some e => match q.plan[e]? with
    | none => none
    | some p => if !p.wait || (q.plan.take e).all (fun x => x.phase == 2) then some (e, p) else none

def State.modPlan (s : State) (h e : Nat) (g : PlanE → PlanE) : State :=
  match s.step_ h with
  | none => s
  | some q => s.setStep h (some { q with plan := modAt g q.plan e })

/-- The launch record of a plan entry (R375). -/
def PlanE.launch (p : PlanE) (asid tenant gbuf0 h e : Nat) : Launch :=
  { w0 := BitVec.ofNat 64 (fld p.w0 63 48 * 2 ^ 48 + asid * 2 ^ 36 + tenant * 2 ^ 26 + fld p.w0 31 24 * 2 ^ 18 + fld p.w0 23 18 * 2 ^ 12)
    w1 := BitVec.ofNat 64 (fld p.w1 47 0)
    w2 := BitVec.ofNat 64 (if bit p.w0 6 then gbuf0 else fld p.w2 47 0)
    w3 := BitVec.ofNat 64 (fld p.w1 63 51 * 2 ^ 51 + fld p.w0 17 17 * 2 ^ 50)
    issuer := .step h e
    image := 0 }

/-- PLAN_LAUNCH (R375): the step's next entry is a LAUNCH; it waits while a Frond has no room for the record. -/
def execPlanLaunch (h : Nat) (s : State) : Out :=
  .next (s.attempt fun s => match s.step_ h with
    | none => s
    | some q =>
      match q.next with
      | some (e, p) =>
        let fs := bitsOf 16 p.fronds
        if p.kind ≠ 1 || !s.sesUp || !fs.all (fun f => !s.frondUp f || s.launchRoom f) then s
        else
          let s := s.modPlan h e (fun p => { p with phase := 1, running := ofBits fs })
          fs.foldl (fun s f => s.placeLaunch (s.ringLoc q.ring) f (p.launch (s.ringAsid q.ring) (s.ringTenant q.ring) q.gbuf0 h e)) s
      | none => s)

/-- The first failure of a step that is not a kernel's. -/
def State.stepFails (s : State) (h reason : Nat) : State :=
  match s.step_ h with
  | none => s
  | some q => if q.failed then s else s.setStep h (some { q with fail := some reason })

/-- The pages of layer L of a session that is admitted, in ascending position: their addresses, or unreadable. -/
def State.layerPages (s : State) (x l n : Nat) : State × Option (List Nat) :=
  let (s, ps) := s.readAll (fun s b => s.kvPage x (b * (s.slot x).layers + l)) (List.range n)
  let p := s.pool (s.slot x).pool
  (s, if ps.all Option.isSome then some (ps.map (fun o => p.va (o.getD 0))) else none)

/-- Records and pages of a gather list; the slot whose structures cannot be read. -/
def State.gatherAll (s : State) (l adv : Nat) : List Admit → List Byte → List Nat → State × Except Nat (List Byte × List Nat)
  | [], recs, pages => (s, .ok (recs, pages))
  | a :: as, recs, pages =>
    let q := s.slot a.slot
    let n := ceilDiv (a.old + adv) q.tpp
    match s.layerPages a.slot l n with
    | (s, none) => (s, .error a.slot)
    | (s, some ps) =>
      State.gatherAll s l adv as
        (recs ++ leBytes 2 a.slot ++ leBytes 1 q.tb ++ leBytes 1 0 ++ leBytes 4 a.batch ++ leBytes 4 a.old ++ leBytes 4 (a.old + adv) ++
          leBytes 4 pages.length ++ leBytes 4 n ++ leBytes 8 0) (pages ++ ps)

/-- Header of a gather list (Table 11-8). -/
def gatherHdr (seq layer nsess npages other : Nat) : List Byte :=
  leBytes 4 seq ++ leBytes 2 layer ++ leBytes 2 0 ++ leBytes 4 nsess ++ leBytes 4 npages ++ leBytes 8 other ++ leBytes 40 0

/-- Prefetch a gathered page (R377): its lines in DRAM. -/
def State.prefetchPage (s : State) (asid tenant va : Nat) : State :=
  match (s.xlate none asid tenant va .r).2 with
  | .ok (pa, _) => (List.range 512).foldl (fun s j => if s.dramLine (pa + 128 * j) then s.fetchLine (pa + 128 * j) else s) s
  | .error _ => s

/-- PLAN_GATHER (R376, R377, R379): the step's next entry is a GATHER. -/
def execPlanGather (h : Nat) (s : State) : Out :=
  .next (s.attempt fun s => match s.step_ h with
    | none => s
    | some q =>
      match q.next with
      | some (e, p) =>
        if p.kind ≠ 2 || !s.sesUp then s
        else
          let s := s.modPlan h e (fun p => { p with phase := 2 })
          let asid := s.ringAsid q.ring
          let ten := s.ringTenant q.ring
          match s.gatherAll p.layer q.advance q.admitted [] [] with
          | (s, .error x) => (s.slotLost x 0x0903).stepFails h 0x0903
          | (s, .ok (recs, pages)) =>
            let buf := if bit p.w0 16 then q.gbuf1 else q.gbuf0
            let other := if bit p.w0 16 then q.gbuf0 else q.gbuf1
            let l := gatherHdr q.seqNo p.layer q.admitted.length pages.length other ++ recs ++ pages.flatMap (leBytes 8)
            match s.vwrite none 0 asid ten buf l with
            | (s, some _) => (s.raise (recErr 0x0905 (sesLoc 1 0xFFFF) (s.ringCtx q.ring))).stepFails h 0x0905
            | (s, none) => if q.pf then pages.foldl (fun s va => s.prefetchPage asid ten va) s else s
      | none => s)

/-- RESULT of a STEP (R374). -/
def StepRec.result (q : StepRec) : Nat := q.admitted.length + q.excluded * 2 ^ 32

/-- STEP_COMPLETE (R378): every entry is complete; the admitted sessions advance and leave STEPPING. -/
def execStepComplete (h : Nat) (s : State) : Out :=
  .next (s.attempt fun s => match s.step_ h with
    | none => s
    | some q =>
      if q.failed || !q.plan.all (fun p => p.phase == 2) then s
      else
        let s := q.admitted.foldl (fun s a => s.modSlot a.slot (fun x => { x with tokens := a.old + q.advance })) s
        ((s.release q.admitted).setStep h none).complete q.ring q.idx 0 0 q.result)

/-- The reason of a failed step (R379). -/
def StepRec.reason (q : StepRec) : Nat :=
  match q.fail with
  | some e => e
  | none => match q.failEntry with
    | some e => (match q.plan[e]? with
      | some p => (p.fail.map (·.2)).getD 0
      | none => 0)
    | none => 0

/-- A failed step ends once its started entries have completed: every reservation goes back and the sessions are released unchanged
(R379). -/
def State.stepFail (s : State) (h : Nat) : State :=
  match s.step_ h with
  | none => s
  | some q =>
    if !q.failed || q.plan.any (fun p => p.phase == 1) then s
    else (((s.giveBack q.resv).release q.admitted).setStep h none).complete q.ring q.idx 0x80 q.reason q.result

/-- STEP_FAIL (R379). -/
def execStepFail (h : Nat) (s : State) : Out := .next (s.attempt fun s => s.stepFail h)

end Sys2Proof.Machine
end

