-- ==== Sys2Proof/Machine/BootOps.lean ====
section
/-!
DEFINITION. Operations that bring-up, power and update share: zones, endpoints and their fences (Table 17-3), what a loss of power
takes away (Table 18-4), stage reports (R552), and the beginning and the failure of a start.
-/

namespace Sys2Proof.Machine

def modLoc : Loc := Loc.whole

/-! ## Zones (R24, R506): 0–3 towers, 4–11 piles -/

/-- Nibble of a zone in PWR_ZONE_STAT. -/
def State.zone (s : State) (z : Nat) : Nat := nfld (s.rget Fd.PWR_ZONE_STAT_ZONE) (4 * z + 3) (4 * z)
def State.setZone (s : State) (z v : Nat) : State :=
  let w := s.rget Fd.PWR_ZONE_STAT_ZONE
  s.rset Fd.PWR_ZONE_STAT_ZONE (w - nfld w (4 * z + 3) (4 * z) * 2 ^ (4 * z) + (v % 16) * 2 ^ (4 * z))
def State.zoneLatched (s : State) (z : Nat) : Bool := nbit (s.zone z) 3
def State.zoneState (s : State) (z : Nat) : Nat := s.zone z % 4
/-- The zone exists in the variant. -/
def State.zoneThere (s : State) (z : Nat) : Bool := decide (z < s.towers) || (decide (4 ≤ z) && decide (z < 4 + s.piles))
/-- Zones present. -/
def State.zones (s : State) : List Nat := (List.range 12).filter s.zoneThere

/-! ## Endpoints -/

def portFence (p h : Nat) : FUnit := .port (locHub 0x14 p h 0xFFFF)
/-- The endpoint runs a verified image. -/
def State.endpointRuns (s : State) (c i : Nat) : Bool :=
  match c with
  | 7 => (s.arr (i / 8) (i % 8)).seqUp && !s.arrFenced (i / 8) (i % 8)
  | 6 => (s.fr i).dmaSeqUp && !s.fencedIn (.frond i)
  | 3 => s.boot.pileCtl.contains i
  | 4 => s.boot.lightCtl.contains i
  | 5 => s.rget Fd.SES_STAT_ENGINE_UP == 1
  | 2 => s.rget (Fd.TWR_STAT_STEWARD_UP i) == 1 && !s.fencedIn (.tower i)
  | 1 => s.boot.cores.contains i
  | _ => s.rget Fd.SEC_STAT_ENGINE_UP == 1

/-- The endpoint starts its image. -/
def State.endpointStart (s : State) (c i : Nat) : State :=
  match c with
  | 7 => s.modArr (i / 8) (i % 8) (fun q => { q with seqUp := true })
  | 6 => s.modFr i (fun q => { q with dmaSeqUp := true })
  | 3 => { s with boot.pileCtl := insNat s.boot.pileCtl i }
  | 4 => { s with boot.lightCtl := insNat s.boot.lightCtl i }
  | 5 => ({ s with ses.downSaid := false } : State).rset Fd.SES_STAT_ENGINE_UP 1
  | 2 => s.rset (Fd.TWR_STAT_STEWARD_UP i) 1
  | 1 => { s with boot.cores := insNat s.boot.cores i }
  | _ => s.rset Fd.SEC_STAT_ENGINE_UP 1

/-- The fence of Table 17-3 for an endpoint that runs no image, with a record of its own. -/
def State.endpointFence (s : State) (c i : Nat) : State :=
  if c = 7 then
    let s := s.modArr (i / 8) (i % 8) (fun q => { q with seqUp := false })
    (s.raise ⟨0x0109, endpointLoc 7 i, 2, .engine (arrLoc (i / 8) (i % 8)), none, false, false, false, false⟩).addFence (.engine (arrLoc (i / 8) (i % 8)))
      |>.capBump
  else if c = 6 then (s.modFr i (fun q => { q with dmaSeqUp := false })).fenceFrond i 0x0F0A (endpointLoc 6 i) true
  else if c = 3 then ({ s with boot.pileCtl := s.boot.pileCtl.filter (· != i) } : State).fencePile i 0x050B (endpointLoc 3 i) false
  else if c = 4 then
    let s := { s with boot.lightCtl := s.boot.lightCtl.filter (· != i) }
    if i < 16 then
      (s.raise ⟨0x0F0B, lightCtlLoc i, 6, portFence i 0xFF, none, false, false, false, true⟩).addFence (portFence i 0xFF) |>.capBump
    else ({ s with boot.romEngines := insNat s.boot.romEngines i } : State).raise (recNote 0x0F0C (lightCtlLoc i))
  else if c = 5 then
    (({ s with ses.downSaid := true } : State).rset Fd.SES_STAT_ENGINE_UP 0).raise
      ⟨0x0907, endpointLoc 5 0, 2, .engine (endpointLoc 5 0), none, false, false, false, false⟩
  else if c = 2 then (s.rset (Fd.TWR_STAT_STEWARD_UP i) 0).fenceTower i 0x0F09 (stewardLoc i) true
  else if c = 1 then
    ({ s with boot.cores := s.boot.cores.filter (· != i) } : State).raise
      ⟨0x0F06, endpointLoc 1 i, 2, .engine (endpointLoc 1 i), none, false, false, false, false⟩
  else s.rset Fd.SEC_STAT_ENGINE_UP 0

/-- Endpoints of a class that an update switches, or a bring-up loads: present and not fenced (R621). -/
def State.liveEndpoints (s : State) (c : Nat) : List Nat := (s.endpoints c).filter (s.endpointRuns c)

/-! ## Losses of power (R493, R531, Table 18-4) -/

/-- Cells whose key lies in one of `n` blocks of a size are dropped. -/
def dropBlocks {α : Type} (size : Nat) (blocks : List Nat) (m : Sp α) : Sp α := m.filter (fun p => !blocks.contains (p.1 / size))

/-- The kernels of a Frond end, with the reason they were aborted for or the partition-unavailable one (R163, R285). -/
def State.kernelsOut (s : State) (f : Nat) : State :=
  (List.range 8).foldl (fun (s : State) k =>
    match s.krn f k with
    | none => s
    | some q => ((s.discardCmds f k).releaseKernel f k).kernelDone q.launch.issuer f false (q.abort.getD 0x0601)) s

/-- What a Frond's regulators keep is lost: logic, arrays, local store (Table 18-4); its work ends in error. -/
def State.frondDark (s : State) (f : Nat) : State :=
  let s := ((s.kernelsOut f).dropQueued f).dmaOut f
  let s := (List.range 8).foldl (fun s a => s.setArr f a Arr.init) s
  let s := (List.range 16).foldl (fun s c => s.setDma f c Dma.init) s
  let s := { s with mem.ls := dropBlocks (2 ^ 24) [f] s.mem.ls, mem.lsBad := dropBlocks (2 ^ 22) [f] s.mem.lsBad
                    frd.krn := dropBlocks 8 [f] s.frd.krn, frd.grp := dropBlocks 64 [f] s.frd.grp
                    frd.thr := dropBlocks 2048 [f] s.frd.thr, frd.gregs := dropBlocks (2048 * 128) [f] s.frd.gregs
                    frd.preds := dropBlocks 2048 [f] s.frd.preds, frd.regBad := dropBlocks (2048 * 128) [f] s.frd.regBad }
  s.setFr f Frond.init

/-- A tower without power: its Fronds, its Thallus dies and what its slices cached are lost. -/
def State.towerDark (s : State) (t : Nat) : State :=
  let s := (List.range 4).foldl (fun s q => s.frondDark (4 * t + q)) s
  let s := { s with mem.thl := dropBlocks (2 ^ 32) [t] s.mem.thl, mem.thlBad := dropBlocks (2 ^ 32) [t] s.mem.thlBad
                    msc.lines := dropBlocks (32 * 32768 * 16) [t] s.msc.lines, msc.plru := dropBlocks (32 * 32768) [t] s.msc.plru
                    msc.tagBad := dropBlocks (32 * 32768 * 16) [t] s.msc.tagBad }
  (s.rset (Fd.TWR_STAT_STEWARD_UP t) 0).rset (Fd.TWR_STAT_CHAIN_OK t) 0

/-- A pile without power: its DRAM contents are lost. -/
def State.pileDark (s : State) (p : Nat) : State :=
  let chs := (List.range 16).map (· + 16 * p)
  { s with mem.dram := dropBlocks (2 ^ 32) chs s.mem.dram, mem.dramBad := dropBlocks (2 ^ 27) chs s.mem.dramBad
           mem.dramMeta := dropBlocks (2 ^ 27) chs s.mem.dramMeta }

/-- Registers the Night domain keeps through a start: HUB_CONN_STAT, PWR_IN_STAT and THM_COOL. -/
def keptReg (off : Nat) : Bool :=
  off == 0x10000 || off == 0xB0008 || off == 0xB0010 || off == 0xC00C8

/-- The module as it stands at the beginning of a start: everything but the ledger, the banks, the retained records, the region table's lock
(R260) and the Night domain's own state is as at reset (Table 18-4). -/
def State.coldState (s : State) : State :=
  let r := State.reset
  let keep (f : Fd) (t : State) : State := t.rset f (s.rget f)
  keep Fd.PIL_MAP_CTL_LOCK <| keep Fd.BOOT_STAT_FAILED_STARTS <| keep Fd.BOOT_STAT_FAIL_STAGE <| keep Fd.BOOT_STAT_FAIL_REASON <|
  { r with part := s.part, clock := s.clock, free := s.free, pending := s.pending
           regs := s.regs.filter (fun p => keptReg p.1)
           mem.host := s.mem.host
           hpt.sbLost := s.hpt.sbLost, hpt.perst := s.hpt.perst, hpt.hostErr := s.hpt.hostErr, hpt.atsRefused := s.hpt.atsRefused
           ldg := { s.ldg with mounted := false }
           flt.blocks := s.flt.blocks, flt.lastBlock := s.flt.lastBlock, flt.early := s.flt.early, flt.earlyDrop := s.flt.earlyDrop
           pwr.qualAt := s.pwr.qualAt, pwr.offAt := s.pwr.offAt, pwr.phases := s.pwr.phases, pwr.cells := s.pwr.cells, pwr.outOfService := s.pwr.outOfService
           pwr.contactRuns := s.pwr.contactRuns
           thl := { r.thl with rowsUsed := s.thl.rowsUsed, colsUsed := s.thl.colsUsed, rowsRepaired := s.thl.rowsRepaired
                               colsRepaired := s.thl.colsRepaired, fuseRows := s.thl.fuseRows, fuseCols := s.thl.fuseCols
                               wires := s.thl.wires, bundleRet := s.thl.bundleRet, tsvRet := s.thl.tsvRet }
           pil := { r.pil with rowsUsed := s.pil.rowsUsed, rowsRetired := s.pil.rowsRetired, coilsUsed := s.pil.coilsUsed, coilMap := s.pil.coilMap }
           pnw := { r.pnw with lanesBad := s.pnw.lanesBad, laneMap := s.pnw.laneMap }
           fwu := { r.fwu with banks := s.fwu.banks, raises := s.fwu.raises }
           boot := { r.boot with lastFailed := s.boot.lastFailed, reports := s.boot.reports, startsHeld := s.boot.startsHeld
                                 failHeld := s.boot.failHeld, fromTwilight := s.boot.fromTwilight
                                 coolantSaid := s.boot.coolantSaid }
           sec := { r.sec with tenantKeys := s.sec.tenantKeys, arc := s.sec.arc, ownerKey := s.sec.ownerKey, ownerCtr := s.sec.ownerCtr
                               peers := s.sec.peers, lmsNext := s.sec.lmsNext }
           con := { r.con with eid := s.con.eid, frame := s.con.frame, frameAt := s.con.frameAt, lowLanes := s.con.lowLanes } }

/-! ## Stage reports (R552) -/

/-- The bit map of the Fronds, ports, piles and towers that serve (Table 10-6). -/
def State.upMask (n : Nat) (up : Nat → Bool) : Nat := ofBits ((List.range n).filter up)
def State.portUp (s : State) (p : Nat) : Bool := s.linkState (2 * p) == 2 || (s.portSplit p && s.linkState (2 * p + 1) == 2)
def State.pileUp (s : State) (p : Nat) : Bool := (List.range 16).any (fun c => s.chanUp (16 * p + c))

/-- Records raised since the stage began, oldest first. -/
def State.stageRecs (s : State) : List FaultRec :=
  let early := (s.flt.early.take (s.flt.early.length - s.boot.earlyAt)).reverse
  let late := ((s.flt.log.filter (fun r => decide (s.boot.seqAt ≤ r.seq) && !r.early))).reverse
  early ++ late

/-- The report of a stage that ends now (Table 17-4); a failing stage's last record takes place 61 of a full list. -/
def State.stageReport (s : State) (outcome fatal elapsed endpoints rounds : Nat) : StageRep :=
  let recs := s.stageRecs
  let fits := decide (recs.length ≤ 62)
  let held := if fits then recs else if fatal = 0 then recs.take 62 else recs.take 61 ++ recs.drop (recs.length - 1)
  { outcome := outcome
    attempt := s.ldg.starts % 65536
    startTs := s.boot.stageAt
    elapsedUs := elapsed
    fatal := fatal
    ndrop := min 255 ((if fits then 0 else recs.length - 62) + (s.flt.earlyDrop - s.boot.dropAt))
    frondUp := State.upMask s.fronds s.frondUp
    fportUp := State.upMask s.part.fports s.portUp
    pileUp := State.upMask s.piles s.pileUp
    towerUp := State.upMask s.towers s.towerUp
    endpoints := endpoints
    rounds := rounds
    recs := held }

def State.setReport (s : State) (n : Nat) (r : StageRep) : State :=
  { s with boot.reports := spPut (fun _ => StageRep.init) s.boot.reports n r }

/-- A stage begins. -/
def State.stageBegin (s : State) (n : Nat) : State :=
  { s with boot.stageAt := s.clock, boot.seqAt := s.flt.seqNext, boot.earlyAt := s.flt.early.length, boot.dropAt := s.flt.earlyDrop }.rset
    Fd.BOOT_STAT_STAGE n

/-- The stage passes, with fences or without, and the next begins (R537). -/
def State.stagePass (s : State) (n elapsed endpoints rounds : Nat) : State :=
  let fenced := s.stageRecs.any (fun r => r.fence != 0)
  (s.setReport n (s.stageReport (b2n fenced) 0 elapsed endpoints rounds)).stageBegin (n + 1)

/-- The stage fails with a record (R538): the start is over, and is counted by FAILED_START_COUNTED. -/
def State.stageFail (s : State) (n reason outcome elapsed : Nat) (loc : Loc) : State :=
  let s := s.raise (recNote reason loc)
  let s := s.setReport n (s.stageReport outcome reason elapsed 0 0)
  { s with boot.running := false, boot.failed := some (n, reason) }

/-- The stage fails, its record already raised. -/
def State.stageFailed (s : State) (n reason elapsed : Nat) : State :=
  let s := s.setReport n (s.stageReport 2 reason elapsed 0 0)
  { s with boot.running := false, boot.failed := some (n, reason) }

/-- A zone latched off stays so until both supplies are lost (R24). -/
def State.keepLatch (old s : State) (z : Nat) : State :=
  if old.zoneLatched z then
    let s := s.setZone z 8
    if z < 4 then s.rset (Fd.TWR_STAT_STATE z) 7 else s.rset (Fd.PIL_STAT_SHUTDOWN (z - 4)) 1
  else s

/-- What only a cold start clears stands through a start from Predawn: the locks and what they lock, the energy counters, and the reason each
tower was last fenced for (R302, R514, R619, Table 13-12, Table 15-9, Table 17-10). -/
def State.keepStart (old s : State) : State :=
  let s := [Fd.FAB_ID_LOCK.off, Fd.PWR_CTL_LOCK.off, Fd.PWR_ENERGY_MAIN_MJ.off, Fd.PWR_ENERGY_BACKUP_MJ.off, Fd.FLT_PACE_CTL_LOCK.off].foldl
    (fun (s : State) off => s.setRword off (old.rword off)) s
  let keep (f : Fd) (s : State) : State := s.rset f (old.rget f)
  let s := { keep Fd.FLT_INJ_CTL_LOCK (keep Fd.PNW_SLOT_CTL_LOCK s) with pwr.energyRest := old.pwr.energyRest }
  (List.range old.towers).foldl (fun (s : State) t => s.rset (Fd.TWR_STAT_FENCE_REASON t) (old.rget (Fd.TWR_STAT_FENCE_REASON t))) s

/-- A start begins at Predawn: the count of starts is raised and held until First light (R666, R555, R557, R558). -/
def State.startAtPredawn (s : State) (twilight : Bool) : State :=
  let old := s
  let s := old.zones.foldl (fun (s : State) z => old.keepLatch s z) (old.keepStart { s.coldState with pwr.branches := s.pwr.branches })
  let s := { s with ldg.starts := s.ldg.starts + 1, boot.startsHeld := true, boot.running := true, boot.failed := none
                    boot.reports := [], boot.fromTwilight := twilight }
  s.stageBegin 1

/-- A cold start begins at Night (R493). -/
def State.startCold (s : State) : State :=
  let s := s.coldState
  { s with boot.coolantSaid := false, boot.fromTwilight := false }

end Sys2Proof.Machine
end

