-- ==== Sys2Proof/Machine/UpdateOps.lean ====
section
/-!
DEFINITION. Operations of a firmware update (R620–R640): refusal, staging, the commit of a class, and the reception of spores.
-/

namespace Sys2Proof.Machine

def State.fwuState (s : State) : Nat := s.rget Fd.FWU_STAT_STATE
def State.setFwuState (s : State) (v : Nat) : State := s.rset Fd.FWU_STAT_STATE v
/-- Update records (R643). -/
def fwuLoc (c : Nat) : Loc := locHub 0x18 0xFF 0xFF c
def State.bankOf (s : State) (c : Nat) : Nat := b2n (nbit (s.rget Fd.FWU_STAT_ACTIVE_BANK) c)
/-- What a slot holds until an update writes it: the factory's image (Table 18-1; assumption 36). -/
def factorySlot (k : Nat) : Option FwImage := if k % 16 < 8 then some ⟨(Config.factoryFw k).1, (Config.factoryFw k).2⟩ else none
def State.slotImg (s : State) (bank c : Nat) : Option FwImage := spGet factorySlot s.fwu.banks (bank * 16 + c)
def State.setSlotImg (s : State) (bank c : Nat) (v : Option FwImage) : State :=
  { s with fwu.banks := spPut factorySlot s.fwu.banks (bank * 16 + c) v }
/-- The image of a class in the hub image store (R547), and the new one of a class being updated. -/
def State.storeImg (s : State) (c : Nat) : Option FwImage := spGet (fun _ => none) s.fwu.store c
def State.freshImg (s : State) (c : Nat) : Option FwImage := spGet (fun _ => none) s.fwu.fresh c
def imgIfaces (o : Option FwImage) : List Iface :=
  match o with
  | some q => manIfaces q.manifest
  | none => []

/-! ## Spore staging (R639) -/

def State.spByte (s : State) (o : Nat) : Option Byte := spGet (fun _ => none) s.fwu.spBytes o
/-- Every byte of a range is held. -/
def State.spHas (s : State) (o n : Nat) : Bool := (List.range n).all (fun i => (s.spByte (o + i)).isSome)
def State.spRead (s : State) (o n : Nat) : List Byte := (List.range n).map (fun i => (s.spByte (o + i)).getD 0#8)
/-- The bits of the chunks that touch a range are cleared: their bytes are no longer held. -/
def State.spClear (s : State) (o n : Nat) : State :=
  { s with fwu.spBytes := s.fwu.spBytes.filter (fun p => decide (p.1 < alignDown o 4096) || decide (alignUp (o + n) 4096 ≤ p.1)) }
def State.spDiscard (s : State) : State := { s with fwu.spBytes := [], fwu.spReads := 0, fwu.spDone := false }
/-- Components named by the header, as offset and length; none until the header's chunk is held. -/
def State.spComps (s : State) : Option (List (Nat × Nat)) :=
  if s.spHas 0 4096 then
    let h := s.spRead 0 4096
    let n := rdLe h 6 1
    if rdLe h 0 4 == 0x4B504A46 && rdLe h 4 2 == 1 && decide (1 ≤ n) && decide (n ≤ 8) then
      some ((List.range n).map (fun i => (rdLe h (0x10 + 8 * i) 4, rdLe h (0x14 + 8 * i) 4)))
    else none
  else none
/-- End of the package, one chunk until its header is known. -/
def State.spEnd (s : State) : Nat :=
  (s.spComps.getD []).foldl (fun a p => max a (p.1 + p.2)) 4096
def State.spChunk (s : State) (n : Nat) : Bool :=
  decide (n * 4096 < s.spEnd) && s.spHas (n * 4096) (min 4096 (s.spEnd - n * 4096))
/-- Package chunks held. -/
def State.spHeld (s : State) : List Nat := (List.range ((s.spEnd + 4095) / 4096)).filter s.spChunk
/-- A package is partly received. -/
def State.spPartly (s : State) : Bool := !s.fwu.spBytes.isEmpty && !s.fwu.spDone

/-! ## Refusal (R627) -/

def State.mainQualified (s : State) : Bool :=
  let v := s.rget (Fd.PWR_IN_STAT_STATE 0)
  v == 2 || v == 3
/-- Conditions 2 to 5 of Table 20-3, which also suspend an update (R633). -/
def State.updateHold (s : State) : Option Nat :=
  if !s.mainQualified then some 2
  else if s.rget Fd.HUB_CONN_STAT_REMOVE = 1 then some 3
  else if s.zones.any (fun z => s.rget (Fd.THM_ZONE_WARN z) == 1) then some 4
  else if s.rget Fd.LDG_STAT_LOW = 1 then some 5
  else none

/-- The first manifest that fails R465: its class and reason. -/
def State.badManifest (s : State) (l : List (Nat × FwImage)) : Option (Nat × Nat) :=
  l.findSome? (fun p => (s.manCheck p.2.manifest p.2.image).map (fun e => (p.1, e)))

/-- Table 20-3 in order: the code, with the class and interface of an order failure and the reason of a manifest's. `comps`: none
where the package is malformed; `host`: the host path. -/
def State.updateRefusal (s : State) (host : Bool) (comps : Option (List (Nat × FwImage))) : Option (Nat × Nat × Nat) :=
  if nbit (s.rget Fd.SEC_STAT_POLICY) 0 then some (1, 0xFFFF, 0)
  else match s.updateHold with
  | some c => some (c, 0xFFFF, 0)
  | none =>
    if s.fwuState ≠ 0 && s.fwuState ≠ 4 then some (6, 0xFFFF, 0)
    else
      let l := comps.getD []
      let newOf := fun c => match l.find? (fun p => p.1 == c) with
        | some p => manIfaces p.2.manifest
        | none => []
      match orderCheck (fun c => imgIfaces (s.storeImg c)) newOf (updateOrder.filter (fun c => l.any (fun p => p.1 == c))) [] with
      | some (c, i) => some (7, c, i)
      | none =>
        if comps.isNone then some (8, 0xFFFF, 0)
        else match s.badManifest l with
        | some (c, e) => some (9, c, e)
        | none =>
          if host && s.tdiLocked then some (10, 0xFFFF, 0)
          else if s.spPartly then some (11, 0xFFFF, 0)
          else if l.any (fun p => p.1 == 1) && decide (s.boot.cores.length < 3) then some (12, 1, 0)
          else none

/-- An update is refused: REFUSE, what failed, and the record (R627). -/
def State.updateRefused (s : State) (r : Nat × Nat × Nat) : State :=
  let s := s.rset Fd.FWU_STAT_REFUSE r.1
  let s := if r.2.1 < 16 then s.rset Fd.FWU_STAT_CLASS r.2.1 else s
  let s := if r.1 = 7 then s.rset Fd.FWU_STAT_IFID r.2.2 else s
  let s := if r.1 = 9 then s.manRefused r.2.1 r.2.2 else s
  s.raise (recNote 0x1101 (fwuLoc r.2.1))

/-! ## Running an update (R628) -/

/-- The record of a class in section 0x0D: its active bank and whether an update of it is in progress. -/
def bankRec (c bank : Nat) (upd : Bool) : LWrite := ⟨0x0D, c, false, [bank, b2n upd], 16⟩
/-- The payload of section 0x07: 16 counters and the revocation mask. -/
def arcRec (arc : Sp Nat) (mask : Nat) : LWrite := ⟨0x07, 0, false, (List.range 16).map (spGet (fun _ => 0) arc) ++ [mask], 72⟩

/-- The updater takes the first class that is left, or completes (R628 step 4). -/
def State.updateNext (s : State) : State :=
  match s.fwu.todo with
  | c :: _ => ((({ s with fwu.switched := [], fwu.cur := none } : State).rset Fd.FWU_STAT_CLASS c).rset Fd.FWU_STAT_ENDPOINT 0)
  | [] =>
    let c := s.rget Fd.FWU_STAT_CLASS
    let s := (({ s with fwu.fresh := [], fwu.switched := [], fwu.cur := none } : State).setFwuState 0).raise (recNote 0x1102 (fwuLoc c))
    if s.twilight then { s with boot.retryAt := some s.clock } else s

/-- Staging (R628 step 1): the slots of the inactive banks and the image store hold the new images, section 0x0D records the update,
and switching begins. -/
def State.updateBegin (s : State) (l : List (Nat × FwImage)) : State :=
  let s := s.rset Fd.FWU_STAT_REFUSE 0
  let s := l.foldl (fun s p =>
    let s := s.setSlotImg (1 - s.bankOf p.1) p.1 (some p.2)
    { s with fwu.fresh := spPut (fun _ => none) s.fwu.fresh p.1 (some p.2) }) s
  let order := updateOrder.filter (fun c => l.any (fun p => p.1 == c))
  let s := s.commit (order.map (fun c => bankRec c (s.bankOf c) true))
  (({ s with fwu.todo := order, fwu.committing := false } : State).setFwuState 2).updateNext

/-- Start, or refuse, an update of these components (R627, R628). -/
def State.updateStart (s : State) (host : Bool) (comps : Option (List (Nat × FwImage))) : State :=
  match s.updateRefusal host comps with
  | some r => s.updateRefused r
  | none => s.updateBegin (comps.getD [])

/-- Next endpoint of a class to switch: present, running and not yet switched (R621). -/
def State.nextEndpoint (s : State) (c : Nat) : Option Nat :=
  (s.liveEndpoints c).find? (fun i => !s.fwu.switched.contains i)

/-- The transaction of a class: its bank, the anti-rollback raise and REVOKE (R466, R467, R628 step 3); in Twilight mode a class with no
endpoint running waits with its raise (R638). -/
def State.classCommit (s : State) (c : Nat) : State :=
  match s.freshImg c with
  | none => s
  | some q =>
    let later := s.twilight && (s.liveEndpoints c).isEmpty
    let rev := if c = 0 then manRevoke q.manifest else 0
    let arc := spPut (fun _ => 0) s.sec.arc c (max (s.arc c) (manSvn q.manifest))
    let ws := bankRec c (1 - s.bankOf c) false :: (if later then [] else [arcRec arc (s.revoked ||| rev)])
    let s := if later then { s with fwu.raises := (c, manSvn q.manifest, rev) :: s.fwu.raises.filter (fun p => p.1 != c) } else s
    ({ s with fwu.committing := true } : State).commitFor ws (.fw c)

/-- The update of the class ends FAILED: the endpoints that ran the new image run the old one again (R632), and section 0x0D no longer
records an update. `loc`: where the switch failed. -/
def State.classFail (s : State) (c : Nat) (loc : Loc) : State :=
  let s := s.commit (s.fwu.todo.map (fun c => bankRec c (s.bankOf c) false))
  let s := (({ s with fwu.todo := [], fwu.switched := [], fwu.cur := none, fwu.fresh := [], fwu.committing := false } : State).setFwuState 4).rset
    Fd.FWU_STAT_CLASS c
  (s.raise (recNote 0x1103 loc)).raise (recNote 0x1104 (fwuLoc c))

/-- The outcome of a class transaction (R628; assumption 30 where it is refused). -/
def State.classCommitted (s : State) (c : Nat) (ok : Bool) : State :=
  if s.fwu.committing && s.fwu.todo.head? == some c then
    if ok then
      match s.freshImg c with
      | none => s
      | some q =>
        let later := s.fwu.raises.any (fun p => p.1 == c)
        let s := s.rbit Fd.FWU_STAT_ACTIVE_BANK c (s.bankOf c == 0)
        let s := if later then s else { s with sec.arc := spPut (fun _ => 0) s.sec.arc c (max (s.arc c) (manSvn q.manifest)) }
        let s := if c = 0 && !later then s.rset Fd.SEC_STAT_REVOKED (s.revoked ||| manRevoke q.manifest) else s
        let s := { s with fwu.store := spPut (fun _ => none) s.fwu.store c (some q)
                          fwu.todo := s.fwu.todo.drop 1, fwu.committing := false }
        s.updateNext
    else s.classFail c (fwuLoc c)
  else s

/-! ## Receiving spores (R639, R640) -/

/-- Checks 1 to 5 of R465, which need no image. -/
def State.manBodyCheck (s : State) (m : List Byte) : Option Nat :=
  let r := s.manCheck m []
  if r = some 0x0C03 && Config.verifies algEcdsa (Config.fused (16 + manKeyset m)) (manBody m) (slice m (manBodyLen m) 96) then none else r

/-- Check one component of the staged package: its manifest when whole, then each chunk of its image that is whole. -/
def State.spCheckComp (s : State) (p : Nat × Nat) : State :=
  if !s.spHas p.1 0x80 then s
  else
    let n := manLen (s.spRead p.1 0x80)
    if n > 0x10000 + 5812 || p.1 % 4096 ≠ 0 then s.spClear p.1 p.2
    else if !s.spHas p.1 n then s
    else
      let m := s.spRead p.1 n
      match s.manBodyCheck m with
      | some e => (s.manRefused (manClass m) e).spClear p.1 n
      | none =>
        (List.range (manChunks m)).foldl (fun s k =>
          let o := p.1 + n + 4096 * k
          let len := min 4096 (manImageLen m - 4096 * k)
          if s.spHas o len && chunkTag (manClass m) k (s.spRead o len) != manTag m k then s.spClear o len else s) s

/-- The automatic start (R640): a package whose update begins leaves staging. -/
def State.sporeStart (s : State) (cs : List (Nat × FwImage)) : State :=
  let t := s.updateStart false (some cs)
  if (s.updateRefusal false (some cs)).isNone then t.spDiscard else t

/-- The staged package is whole and every manifest and image passes: the record, and the automatic start (R640). -/
def State.spComplete (s : State) : State :=
  if s.fwu.spDone || !s.spHas 0 s.spEnd then s
  else match packageComps (s.spRead 0 s.spEnd) with
  | none => s.spClear 0 s.spEnd
  | some l =>
    let cs := l.map (fun c => (c.cls, c.img))
    match s.badManifest cs with
    | some (c, e) => (s.manRefused c e).spClear 0 s.spEnd
    | none =>
      let s := ({ s with fwu.spDone := true } : State).raise (recNote 0x1109 (fwuLoc 0xFFFF))
      if s.rget Fd.FWU_SPORE_AUTO = 1 then s.sporeStart cs else s

/-- Accesses to window 1,023 reach staging (R639). -/
def State.sporeOpen (s : State) : Bool := s.rget Fd.FWU_SPORE_EN == 1 && (s.fwuState == 0 || s.fwuState == 4)

/-- A WRITE to staging: bytes of chunks already held are discarded (R545, R639). -/
def State.sporeWrite (s : State) (off : Nat) (bytes : List Byte) : State :=
  let s := (List.range bytes.length).foldl (fun s i =>
    if s.spChunk ((off + i) / 4096) then s
    else { s with fwu.spBytes := spPut (fun _ => none) s.fwu.spBytes (off + i) (bytes[i]?) }) s
  let s : State := match s.spComps with
    | some l => l.foldl (fun (s : State) p => s.spCheckComp p) s
    | none => if s.spHas 0 4096 then s.spClear 0 4096 else s
  s.spComplete.rset Fd.FWU_SPORE_RECEIVED s.spComplete.spHeld.length

/-- Bytes of the bitmap (R639). -/
def State.sporeMap (s : State) (b n : Nat) : List Byte :=
  (List.range n).map (fun i => BitVec.ofNat 8 (ofBits ((List.range 8).filter (fun j => s.spChunk (8 * (b + i) + j)))))

/-- An incomplete reception ends: staging is discarded with its record (R641). -/
def State.sporeGiveUp (s : State) : State :=
  if s.spPartly then (s.spDiscard.raise (recNote 0x110A (fwuLoc 0xFFFF))).rset Fd.FWU_SPORE_RECEIVED 0 else s

/-- Reception is switched off: an incomplete package is given up, and a complete one leaves staging (assumption 132). -/
def State.sporeOff (s : State) : State := s.sporeGiveUp.spDiscard.rset Fd.FWU_SPORE_RECEIVED 0

/-- A READ of the bitmap: the fourth whole reading, after the third repair round, that finds the package incomplete ends its
reception (R641; assumption 31). -/
def State.sporeRead (s : State) (b n : Nat) : State × List Byte :=
  let out := s.sporeMap b n
  let last := ((s.spEnd + 4095) / 4096 - 1) / 8
  if b ≤ last && last < b + n then
    let s := { s with fwu.spReads := s.fwu.spReads + 1 }
    (if s.fwu.spReads ≥ 4 then s.sporeGiveUp else s, out)
  else (s, out)

end Sys2Proof.Machine
end

