-- ==== Sys2Proof/Machine/FabricOps.lean ====
section
/-!
DEFINITION. Operations of the fabric: descriptors and the messages they send (R442–R444), reductions (R445–R448), spore broadcast to
other modules (R641), link loss (R450), lasers (R588–R591), training and keys (R424–R428), and flits (R421–R430).
-/

namespace Sys2Proof.Machine

/-! ## Requests (R443, R444) -/

/-- The first free TAG from the next one on. -/
def freeTag (used : List Nat) : Nat → Nat → Nat
  | 0, t => t % 65536
  | n + 1, t => if used.contains (t % 65536) then freeTag used n (t + 1) else t % 65536

/-- Send a unicast request for a descriptor: `false` where no route takes it (R435). `va`, `len`: where its data goes. -/
def State.sendReq (s : State) (r i : Nat) (m : Msg) (va len : Nat) : State × Bool :=
  let tag := freeTag (s.fab.reqs.map Req.tag) s.fab.reqs.length s.fab.nextTag
  let m := { m with tag := tag }
  let rec_ (l : Nat) (s : State) : State :=
    { s with fab.reqs := s.fab.reqs ++ [⟨tag, r, i, l, m.op, va, len, s.clock⟩], fab.nextTag := (tag + 1) % 65536 }
  if m.dst = s.devId then ((rec_ selfLink s).deliverMsg selfLink m, true)
  else match s.nextLink m.dst with
  | some l => ((rec_ l s).toLink l m .other, true)
  | none => (s.raise (recErr 0x0B0A routeLoc (s.ringCtx r)), false)

/-- Links a multicast of this module is copied to now. -/
def State.mcUp (s : State) (g : Nat) : List Nat :=
  let e := spGet (fun _ => 0#64) s.fab.mcast g
  if bit e 63 then (mcLinks e none).filter s.linkUp else []

/-! ## Jobs: PUT, GET, SIGNAL, SESSION_SEND (R442, R443, R449) -/

/-- Pieces of a range of window offsets, split at every 256 bytes (R442). -/
def pieceCount (off len : Nat) : Nat := (off % 256 + len + 255) / 256
def pieceStart (off k : Nat) : Nat := max off (alignDown off 256 + 256 * k)
def pieceLen (off len k : Nat) : Nat := min (off + len) (alignDown off 256 + 256 * (k + 1)) - pieceStart off k

def winTarget (w off : Nat) : Nat := (w % 1024) * 2 ^ 38 + off % 2 ^ 38

/-- Messages a descriptor sends in all. -/
def State.jobTotal (s : State) (d : Desc) : Nat :=
  match d.cls, d.op with
  | 5, 2 => pieceCount (d.f 3 37 0) (d.f 4 31 0)
  | 5, 3 => pieceCount (d.f 3 37 0) (d.f 4 31 0)
  | 5, 6 => 1 + 256 * (s.slot (d.f 1 15 0)).entries (s.slot (d.f 1 15 0)).tokens
  | _, _ => 1

/-- The header piece of a session on its way: geometry, TOKENS and pages (assumption 32). -/
def Slot.sessHeader (q : Slot) : List Byte :=
  leBytes 1 q.layersM1 ++ leBytes 1 q.tb ++ leBytes 2 0 ++ leBytes 4 q.tokens ++ leBytes 4 (q.entries q.tokens)

/-- Message k of a descriptor with the address its answer's data goes to, or the reason its data cannot be read. -/
def State.jobMsg (s : State) (r : Nat) (d : Desc) (k : Nat) : State × Except Nat (Msg × Nat × Nat) :=
  let asid := s.ringAsid r
  let ten := s.ringTenant r
  let msg (op dst lenM1 redop rtype target : Nat) (mc : Bool) (data : List Byte) : Msg :=
    ⟨op, dst, s.devId, ten, mc, lenM1, redop, rtype, 15, 0, 0, target, data⟩
  match d.op with
  | 2 =>
    let off := d.f 3 37 0
    let n := pieceLen off (d.f 4 31 0) k
    let va := d.f 2 47 0 + (pieceStart off k - off)
    match s.vread none 0 asid ten va n with
    | (s, .error e) => (s.vFault (.ring r 0) e, .error e.reason)
    | (s, .ok l) =>
      (s, .ok (msg (if d.f 1 42 42 = 1 then 2 else 1) (d.f 1 57 44) (n - 1) (d.f 1 41 38) (d.f 1 37 36)
        (winTarget (d.f 1 9 0) (pieceStart off k)) (d.f 1 43 43 == 1) l, 0, 0))
  | 3 =>
    let off := d.f 3 37 0
    let n := pieceLen off (d.f 4 31 0) k
    (s, .ok (msg 3 (d.f 1 57 44) (n - 1) 0 0 (winTarget (d.f 1 9 0) (pieceStart off k)) false [], d.f 2 47 0 + (pieceStart off k - off), n))
  | 4 => (s, .ok (msg 4 (d.f 1 57 44) 3 0 0 (d.f 1 12 0) (d.f 1 43 43 == 1) (leBytes 4 (d.f 2 31 0)), 0, 0))
  | _ =>
    let x := d.f 1 15 0
    let q := s.slot x
    let target := d.f 1 31 16 * 2 ^ 32 + k
    if k = 0 then
      (s, .ok (msg 5 (d.f 1 57 44) (q.sessHeader.length - 1) 0 0 target false q.sessHeader, 0, 0))
    else
      match s.kvPage x ((k - 1) / 256) with
      | (s, none) => (s.raise (recErr 0x0903 (sesLoc 3 x) (s.ringCtx r)), .error 0x0903)
      | (s, some i) =>
        match s.vread none 0 q.asid q.tenant ((s.pool q.pool).va i + 256 * ((k - 1) % 256)) 256 with
        | (s, .error e) => (s.vFault (.ring r 0) e, .error e.reason)
        | (s, .ok l) => (s, .ok (msg 5 (d.f 1 57 44) 255 0 0 target false l, 0, 0))

def State.job (s : State) (r i : Nat) : Option Job := s.fab.jobs.find? (fun j => j.ring == r && j.idx == i)
def State.modJob (s : State) (r i : Nat) (g : Job → Job) : State :=
  { s with fab.jobs := s.fab.jobs.map (fun j => if j.ring = r && j.idx = i then g j else j) }
def State.dropJob (s : State) (r i : Nat) : State :=
  { s with fab.jobs := s.fab.jobs.filter (fun j => !(j.ring == r && j.idx == i)) }
def Job.fail (j : Job) (reason : Nat) : Job := { j with err := some (j.err.getD reason) }

/-- Send messages of a job while TAGs are free; the first failure stops it (R443, R444). -/
def State.jobSend (r i : Nat) (d : Desc) : Nat → State → State
  | 0, s => s
  | n + 1, s =>
    match s.job r i with
    | none => s
    | some j =>
      if j.err.isSome || j.next ≥ j.total || s.fab.reqs.length ≥ 65536 then s
      else
        match s.jobMsg r d j.next with
        | (s, .error e) => s.modJob r i (fun j => j.fail e)
        | (s, .ok (m, va, len)) =>
          if m.mc then
            let k := (s.mcUp m.dst).length
            State.jobSend r i d n ((s.route m none (.multicast r i)).modJob r i (fun j => { j with next := j.next + 1, waiting := j.waiting + k }))
          else
            match s.sendReq r i m va len with
            | (s, true) => State.jobSend r i d n (s.modJob r i (fun j => { j with next := j.next + 1, waiting := j.waiting + 1 }))
            | (s, false) => s.modJob r i (fun j => j.fail 0x0B0A)

/-- A SESSION_SEND ends: the sender's slot closes, or is RESIDENT again (R449). -/
def State.sessEnd (s : State) (x : Nat) (ok : Bool) : State :=
  if ok then
    let (s, _, _) := (s.modSlot x (fun q => { q with key := none })).returnAll x
    s.setSlot x { Slot.init with pend := (s.slot x).pend }
  else s.modSlot x (fun q => { q with st := .resident, seq := none })

/-- A finished job completes its descriptor (R443). -/
def State.jobEnd (s : State) (j : Job) (d : Desc) : State :=
  let s := s.dropJob j.ring j.idx
  let s := if d.cls = 5 && d.op = 6 then s.sessEnd (d.f 1 15 0) j.err.isNone else s
  match j.err with
  | some e => s.complete j.ring j.idx 0x80 e 0
  | none => s.complete j.ring j.idx 0 0 0

/-- Go on with one job: send what can be sent, and complete it when its answers are in. -/
def State.jobStep (s : State) (r i : Nat) : State :=
  match (s.ring r).find i with
  | none => s
  | some st =>
    if st.d.cls ≠ 5 then s
    else
      let s := match s.job r i with
        | some j => State.jobSend r i st.d (j.total - j.next) s
        | none => s
      match s.job r i with
      | some j => if j.waiting = 0 && (j.err.isSome || j.next ≥ j.total) then s.jobEnd j st.d else s
      | none => s

/-! ## Spore broadcast by this module (R641) -/

def State.spore (s : State) (r i : Nat) : Option SporeJob := s.fab.spores.find? (fun j => j.ring == r && j.idx == i)
def State.setSpore (s : State) (j : SporeJob) : State :=
  { s with fab.spores := s.fab.spores.map (fun x => if x.ring = j.ring && x.idx = j.idx then j else x) }
def sporeChunks (len : Nat) : Nat := (len + 4095) / 4096
/-- Bytes of a receiver's bitmap. -/
def sporeMapLen (len : Nat) : Nat := (sporeChunks len + 7) / 8
def mapBit (m : List Byte) (n : Nat) : Bool := bit (m.getD (n / 8) 0#8) (n % 8)
def mapFull (m : List Byte) (len : Nat) : Bool := (List.range (sporeChunks len)).all (mapBit m)
/-- STATUS 4 stands for a receiver still incomplete. -/
def SporeJob.open_ (j : SporeJob) : List Nat :=
  (List.range j.devs.length).filter (fun k => (j.devs.getD k (0, 0)).2 == 4)

/-- Send what the round still has to send. -/
def State.sporeSend (r i : Nat) (d : Desc) : Nat → State → State
  | 0, s => s
  | n + 1, s =>
    match s.spore r i with
    | none => s
    | some j =>
      match j.todo with
      | [] => s
      | (k, o) :: rest =>
        if s.fab.reqs.length ≥ 65536 then s
        else
          let dev := (j.devs.getD k (0, 0)).1
          let ten := s.ringTenant r
          let s := s.setSpore { j with todo := rest }
          let res : State × Option (Msg × Nat) :=
            if j.phase = 1 then
              (s, some (⟨3, dev, s.devId, ten, false, min 256 (sporeMapLen (d.f 3 31 0) - o) - 1, 0, 0, 15, 0, 0, winTarget 1023 (2 ^ 37 + o), []⟩, o))
            else
              let len := min 256 (d.f 3 31 0 - o)
              match s.vread none 0 (s.ringAsid r) ten (d.f 2 47 0 + o) len with
              | (s, .error _) => (s, none)
              | (s, .ok l) => (s, some (⟨1, dev, s.devId, ten, false, len - 1, 0, 0, 15, 0, 0, winTarget 1023 o, l⟩, 0))
          match res with
          | (s, none) => State.sporeSend r i d n s
          | (s, some (m, va)) =>
            match s.sendReq r i m (k * 2 ^ 20 + va) 0 with
            | (s, true) =>
              State.sporeSend r i d n (match s.spore r i with
                | some j => s.setSpore { j with waiting := j.waiting + 1 }
                | none => s)
            | (s, false) =>
              State.sporeSend r i d n (match s.spore r i with
                | some j => if j.phase = 1 then s.setSpore { j with devs := modAt (fun p => (p.1, 2)) j.devs k, todo := j.todo.filter (fun t => t.1 != k) } else s
                | none => s)

/-- The READs of the bitmaps of the receivers still incomplete. -/
def SporeJob.reads (j : SporeJob) (len : Nat) : List (Nat × Nat) :=
  j.open_.flatMap (fun k => (List.range ((sporeMapLen len + 255) / 256)).map (fun p => (k, 256 * p)))
/-- The WRITEs of the chunks those receivers lack. -/
def SporeJob.writes (j : SporeJob) (len : Nat) : List (Nat × Nat) :=
  j.open_.flatMap (fun k =>
    ((List.range (sporeChunks len)).filter (fun n => !mapBit (j.maps.getD k []) n)).flatMap (fun n =>
      ((List.range 16).map (fun p => (k, 4096 * n + 256 * p))).filter (fun t => decide (t.2 < len))))

/-- STATUS and RESULT are written and FW_SPORE completes. -/
def State.sporeEnd (s : State) (j : SporeJob) (d : Desc) : State :=
  let codes := j.devs.map (fun p => BitVec.ofNat 8 (if p.2 = 4 then 1 else p.2))
  let n := (j.devs.filter (fun p => p.2 == 0)).length
  let s := { s with fab.spores := s.fab.spores.filter (fun x => !(x.ring == j.ring && x.idx == j.idx)) }
  match s.vwrite none 0 (s.ringAsid j.ring) (s.ringTenant j.ring) (d.f 6 47 0) codes with
  | (s, some e) => (s.vFault (.ring j.ring j.idx) e).complete j.ring j.idx 0x80 e.reason 0
  | (s, none) => s.complete j.ring j.idx (if n = j.devs.length then 0 else 1) 0 (n + (j.devs.length - n) * 2 ^ 32)

/-- A round is over: bitmaps are compared, and the next round begins or the broadcast ends. -/
def State.sporeTurn (s : State) (j : SporeJob) (d : Desc) : State :=
  let len := d.f 3 31 0
  if j.phase ≠ 1 then
    let j := { j with phase := 1, maps := j.devs.map (fun _ => List.replicate (sporeMapLen len) 0#8) }
    State.sporeSend j.ring j.idx d (j.reads len).length (s.setSpore { j with todo := j.reads len })
  else
    let j := { j with devs := (List.range j.devs.length).map (fun k =>
      let p := j.devs.getD k (0, 0)
      if p.2 = 4 && mapFull (j.maps.getD k []) len then (p.1, 0) else p) }
    if j.open_.isEmpty || j.round ≥ 3 then s.sporeEnd j d
    else
      let j := { j with phase := 2, round := j.round + 1 }
      State.sporeSend j.ring j.idx d (j.writes len).length (s.setSpore { j with todo := j.writes len })

/-- Go on with a spore broadcast. -/
def State.sporeStep (s : State) (r i : Nat) : State :=
  match (s.ring r).find i with
  | none => s
  | some st =>
    let s := match s.spore r i with
      | some j => State.sporeSend r i st.d j.todo.length s
      | none => s
    match s.spore r i with
    | some j => if j.waiting = 0 && j.todo.isEmpty then s.sporeTurn j st.d else s
    | none => s

/-- A broadcast goes on, unless memory it reads or writes holds accesses: it then goes on with the next event. -/
def State.sporeTry (s : State) (r i : Nat) : State := s.attempt (fun s => s.sporeStep r i)

/-- The answer to a request of a spore broadcast. -/
def State.sporeAnswer (s : State) (q : Req) (res : Except Nat (List Byte)) : State :=
  match s.spore q.ring q.idx with
  | none => s
  | some j =>
    let k := q.va / 2 ^ 20
    let o := q.va % 2 ^ 20
    let j := { j with waiting := j.waiting - 1 }
    let j := match res with
      | .ok l => if j.phase = 1 then { j with maps := modAt (fun m => m.take o ++ l ++ m.drop (o + l.length)) j.maps k } else j
      | .error e =>
        if j.phase = 1 then { j with devs := modAt (fun p => (p.1, if e = 0x0B0B then 3 else 2)) j.devs k, todo := j.todo.filter (fun t => t.1 != k) } else j
    (s.setSpore j).sporeTry q.ring q.idx

/-! ## Answers and acknowledgements (R443) -/

/-- A job goes on, unless memory it reads or writes holds accesses: it then goes on with the next event. -/
def State.jobTry (s : State) (r i : Nat) : State := s.attempt (fun s => s.jobStep r i)

/-- Every job goes on: a freed TAG lets waiting messages be sent (R444). -/
def State.jobsGo (s : State) : State :=
  let s := s.fab.spores.foldl (fun s j => s.sporeTry j.ring j.idx) s
  s.fab.jobs.foldl (fun s j => s.jobTry j.ring j.idx) s

/-- The request is answered, or has failed with a reason (R443). -/
def State.reqEnd (s : State) (q : Req) (res : Except Nat (List Byte)) : State :=
  let s := { s with fab.reqs := s.fab.reqs.filter (fun x => x.tag != q.tag) }
  let s := if (s.spore q.ring q.idx).isSome then s.sporeAnswer q res
    else
      let s := s.modJob q.ring q.idx (fun j => { j with waiting := j.waiting - 1 })
      match res with
      | .error e => s.modJob q.ring q.idx (fun j => j.fail e)
      | .ok l =>
        if q.op ≠ 3 then s
        else match s.vwrite none 0 (s.ringAsid q.ring) (s.ringTenant q.ring) q.va l with
        | (s, none) => s
        | (s, some e) => (s.vFault (.ring q.ring q.idx) e).modJob q.ring q.idx (fun j => j.fail e.reason)
  s.jobsGo

/-- A first-hop link has acknowledged a copy of a multicast message (R443). -/
def State.mcAck (s : State) (r i : Nat) : State :=
  if (s.spore r i).isSome then
    (match s.spore r i with
    | some j => (s.setSpore { j with waiting := j.waiting - 1 }).sporeTry r i
    | none => s)
  else (s.modJob r i (fun j => { j with waiting := j.waiting - 1 })).jobTry r i

/-! ## Reductions (R445–R448) -/

def State.rgrp (s : State) (g : Nat) : RGrp := spGet (fun _ => RGrp.init) s.fab.groups g
def State.red (s : State) (g : Nat) : Option Red := spGet (fun _ => none) s.fab.reds g
def State.setRed (s : State) (g : Nat) (v : Option Red) : State := { s with fab.reds := spPut (fun _ => none) s.fab.reds g v }
def RGrp.valid (e : RGrp) : Bool := bit e.w0 63
def RGrp.role (e : RGrp) : Nat := fld e.w0 62 61
def RGrp.localIn (e : RGrp) : Bool := bit e.w0 60
def RGrp.apply (e : RGrp) : Bool := bit e.w0 59
def RGrp.parent (e : RGrp) : Nat := fld e.w0 58 54
def RGrp.children (e : RGrp) : List Nat := bitsOf 32 (fld e.w0 31 0)
def RGrp.window (e : RGrp) : Nat := fld e.w1 47 38
def RGrp.offset (e : RGrp) : Nat := fld e.w1 37 0
/-- Links of the entry. -/
def RGrp.links (e : RGrp) : List Nat := e.children ++ (if e.role = 2 then [] else [e.parent])
/-- Reduction unit of a group (R454): one of four. -/
def redLoc (g : Nat) : Loc := locHub 0x14 (0x10 + g % 4) 0xFF g

def redMsg (s : State) (op target redop rtype ten : Nat) (data : List Byte) : Msg :=
  ⟨op, 0, s.devId, ten, false, data.length - 1, redop, rtype, 15, 0, 0, target, data⟩
def redTarget (g seq v : Nat) : Nat := g * 2 ^ 40 + seq * 2 ^ 24 + v

/-- The node aborts the SEQ (R448). -/
def State.redAbort (s : State) (g reason : Nat) (except_ : Option Nat) : State :=
  match s.red g with
  | none => s
  | some q =>
    let e := s.rgrp g
    let s := (e.links.filter (fun l => except_ != some l && s.linkUp l)).foldl
      (fun s l => s.toLink l (redMsg s 0x31 (redTarget g q.seq reason) 0 0 (s.ringTenant q.ring) []) .other) s
    ((s.setRed g none).raise (recErr reason (redLoc g) (s.ringCtx q.ring))).complete q.ring q.idx 0x80 reason 0

/-- ADVANCE to every child: the lowest incomplete chunk plus 512, at most the chunks there are (R447). -/
def State.redAdvance (s : State) (g : Nat) (q : Red) : State :=
  (s.rgrp g).children.foldl (fun s l =>
    if s.linkUp l then s.toLink l (redMsg s 0x30 (redTarget g q.seq (min (q.low + 512) q.chunks)) 0 0 (s.ringTenant q.ring) []) .other else s) s

/-- Combine a contribution into a chunk's value (Table 07-4, R58). -/
def Red.combine (q : Red) (old : Option (List Byte)) (v : List Byte) : List Byte :=
  match old with
  | some o => reduceBytes q.redop q.rtype v.length o v
  | none => v

/-- The chunk at an index of the window, with a change. -/
def Red.modChunk (q : Red) (i : Nat) (h : Chunk → Chunk) : Red :=
  if q.window.any (fun c => c.index == i) then { q with window := q.window.map (fun c => if c.index = i then h c else c) }
  else { q with window := q.window ++ [h ⟨i, none, 0, false⟩] }

/-- A chunk is performed at the root: written, or applied as a posted reduction (R445, R446). -/
def State.redPerform (s : State) (g : Nat) (q : Red) (i : Nat) (v : List Byte) : State × Bool :=
  let e := s.rgrp g
  let w := spGet (fun _ => Win.init) s.fab.wins e.window
  let va := w.base + e.offset + 128 * i
  if !e.apply then
    match s.vwrite none 0 w.asid w.tenant va v with
    | (s, none) => (s, true)
    | (s, some x) => (s.vFault (.ring q.ring q.idx) x, false)
  else
    match s.xlate none w.asid w.tenant va .w with
    | (s, .error x) => (s.vFault (.ring q.ring q.idx) (.ofX (xlateLoc none) x), false)
    | (s, .ok (pa, _)) =>
      if s.redHeld pa v.length then ((s.noteFills pa v.length).setWaited, false) else
      match s.reduceAt q.redop q.rtype pa v with
      | (s, none) => (s, true)
      | (s, some x) => (s.accFault (.ring q.ring q.idx) x, false)

/-- Every contribution of a chunk is in: one CHUNK from each child, and the local part where the module contributes. -/
def Chunk.whole (c : Chunk) (e : RGrp) : Bool := e.children.all (fun l => nbit c.from_ l) && (c.local_ || !e.localIn)
/-- Roots without reduction units apply each contribution by itself (R446). -/
def State.redSplit (s : State) (e : RGrp) : Bool := !s.hasFru && e.role == 2

/-- The local parts of the window's chunks (R445): chunk by chunk while the window has room. -/
def State.redLocal (g : Nat) : Nat → State → State
  | 0, s => s
  | n + 1, s =>
    match s.red g with
    | none => s
    | some q =>
      let e := s.rgrp g
      let next := (List.range (min 512 (q.chunks - q.low))).find? (fun k => !(q.window.any (fun c => c.index == q.low + k && c.local_)))
      match next, (s.ring q.ring).find q.idx with
      | some k, some st =>
        if !e.localIn then s
        else
          let i := q.low + k
          match s.vread none 0 (s.ringAsid q.ring) (s.ringTenant q.ring) (st.d.f 2 47 0 + 128 * i) 128 with
          | (s, .error x) => (s.vFault (.ring q.ring q.idx) x).redAbort g 0x0B0E none
          | (s, .ok v) =>
            if s.redSplit e then
              match s.redPerform g q i v with
              | (s, true) => State.redLocal g n (s.setRed g (some (q.modChunk i (fun c => { c with local_ := true }))))
              | (s, false) => s.redAbort g 0x0B0E none
            else State.redLocal g n (s.setRed g (some (q.modChunk i (fun c => { c with local_ := true, value := some (q.combine c.value v) }))))
      | _, _ => s

/-- The lowest chunk of the window leaves it, performed or sent to the parent, while the rules allow it (R445, R447). -/
def State.redRun (g : Nat) : Nat → State → State
  | 0, s => s
  | n + 1, s =>
    match s.red g with
    | none => s
    | some q =>
      let e := s.rgrp g
      let c := (q.window.find? (fun c => c.index == q.low)).getD ⟨q.low, none, 0, false⟩
      if q.low ≥ q.chunks || !c.whole e then s
      else if e.role ≠ 2 && q.low ≥ q.limit then s
      else
        let done (s : State) : State :=
          let q := { q with low := q.low + 1, since := (q.since + 1) % 64, sent := q.sent + 1
                            window := q.window.filter (fun x => x.index != q.low)
                            fin := e.role == 2 && decide (q.low + 1 ≥ q.chunks) }
          let s := s.setRed g (some q)
          let s := if q.since = 0 then s.redAdvance g q else s
          State.redRun g n (State.redLocal g 1 s)
        let v := c.value.getD (List.replicate 128 0#8)
        if e.role = 2 then
          if s.redSplit e then done s
          else match s.redPerform g q q.low v with
          | (s, true) => done s
          | (s, false) => s.redAbort g 0x0B0E none
        else
          done (s.toLink e.parent (redMsg s 0x20 (redTarget g q.seq q.low) q.redop q.rtype (s.ringTenant q.ring) v)
            (if q.low + 1 = q.chunks then .lastChunk g else .other))

/-- A reduction goes on. -/
def State.redGo (s : State) (g : Nat) : State :=
  match s.red g with
  | none => s
  | some q => State.redRun g (q.chunks - q.low) (State.redLocal g (min 512 (q.chunks - q.low)) s)

/-! ## A link goes down (R450) -/

/-- A message that will never be acknowledged by a link that is gone no longer holds its multicast (R443, R450). -/
def State.sentLost (s : State) (why : SentFor) : State :=
  match why with
  | .multicast r i => s.mcAck r i
  | _ => s

/-! ## Sessions on their way here (R449) -/

def State.xfer (s : State) (x : Nat) : Option Xfer := spGet (fun _ => none) s.fab.xfers x
def State.setXfer (s : State) (x : Nat) (v : Option Xfer) : State := { s with fab.xfers := spPut (fun _ => none) s.fab.xfers x v }
/-- A transfer ends without the session: its pages go back and the slot is RESIDENT with TOKENS 0 (R449). -/
def State.xferDrop (s : State) (x : Nat) : State :=
  match s.xfer x with
  | some q => ((s.giveBack q.resv).modSlot x (fun c => { c with st := .resident, tokens := 0 })).setXfer x none
  | none => s
/-- The transfers that arrive over a link end with it. -/
def State.xferLost (s : State) (l : Nat) : State :=
  s.fab.xfers.foldl (fun (s : State) p => if p.2.any (fun q => q.link == l) then s.attempt (fun s => s.xferDrop p.1) else s) s

/-- Every link and light engine but the host's and the Night port's is off (R28). -/
def State.fabricDark (s : State) : State :=
  let s := { s with fab.reqs := [], fab.jobs := [], fab.reds := [], boot.lightCtl := s.boot.lightCtl.filter (fun e => decide (16 ≤ e)) }
  (List.range 32).foldl (fun (s : State) l => if s.linkState l = 0 then s else (s.setLink l Link.init).setLinkState l 0) s

/-- R450: `reason` is that of the record; after LEAVE no fence. -/
def State.linkDown (s : State) (l reason : Nat) : State :=
  if !(s.linkThere l && (s.linkState l == 2 || s.linkState l == 3 || s.linkState l == 1)) then s
  else
    let q := s.link l
    let lost := q.txq.map (·.2) ++ q.unack.map Unack.why
    let rs := s.fab.reqs.filter (fun x => x.link == l)
    let s := s.setLink l { Link.init with light := q.light, crossed := q.crossed, rxbuf := q.rxbuf.filter (fun x => !x.m.linkLocal) }
    let s := s.setLinkState l 5
    let leave := reason = 0x0B08
    let s := if leave then s.raise (recNote 0x0B08 (portLoc l))
      else (s.raise ⟨reason, portLoc l, 6, .port (portLoc l), none, false, false, false, false⟩).addFence (.port (portLoc l))
    let s := (lost.foldl (fun s w => s.sentLost w) s).xferLost l
    let s := rs.foldl (fun s x => s.reqEnd x (.error (if leave then 0x0B08 else 0x0B01))) s
    let s := (List.range 256).foldl (fun s g => if (s.rgrp g).links.contains l then s.redAbort g 0x0B0E (some l) else s) s
    s.capBump

/-- Links of a port present. -/
def State.portLinks (s : State) (p : Nat) : List Nat := if s.portSplit p then [2 * p, 2 * p + 1] else [2 * p]

/-! ## Training and keys (R424–R428) -/

/-- The module serial (R426). -/
def moduleSerial : List Byte := (List.range 8).map (fun i => (Config.fused 1).getD i 0#8)

/-- IDENT of a link with a nonce (R426). -/
def State.ident (s : State) (l : Nat) (nonce : List Byte) : List Byte :=
  let c := s.ownCredits l
  moduleSerial ++ leBytes 2 (s.rget Fd.FAB_ID_DEVID + 0x8000 * s.rget Fd.FAB_ID_VALID) ++ leBytes 1 l ++ leBytes 1 (s.linkWidth l) ++
    leBytes 2 s.part.code ++ leBytes 2 (b2n s.hasFru) ++ leBytes 2 c.req ++ leBytes 2 c.rsp ++ leBytes 2 c.red ++ leBytes 2 c.ctl ++
    leBytes 2 (s.replayCap l) ++ leBytes 6 0 ++ nonce

/-- Link keys of R427: 36 bytes for the direction from the lower serial, 36 for the reverse. -/
def linkKeys (priv pub salt : List Byte) : List Byte :=
  cryptoN algHkdf 72 (sharedSecret priv pub) (salt ++ ascii "reniamel link v1")
/-- Transmit and receive keys of this module, by which serial is lower. -/
def keyPair (k : List Byte) (lower : Bool) : List Byte × List Byte := if lower then (k.take 36, k.drop 36) else (k.drop 36, k.take 36)
def lowerSerial (q : Link) : Bool := decide (leNat moduleSerial < leNat (q.identRx.take 8))

/-- A training attempt fails: the link is DOWN until it is retried 100 ms later (R424). -/
def State.trainFail (s : State) (l : Nat) : State :=
  (s.modLink l (fun q => { Link.init with light := q.light, crossed := q.crossed, rounds := q.rounds, failedAt := some s.clock })).setLinkState l 5

/-- A control message goes out in a control flit (R421). -/
def State.sendCtl (s : State) (l op : Nat) (data : List Byte) : State :=
  s.modLink l (fun q => { q with txSeq := (q.txSeq + 1) % 4096
                                 unack := q.unack ++ [⟨q.txSeq, 1, 1, ⟨op, 0, s.devId, 0, false, 0, 0, 0, 15, 0, 0, 0, data⟩, .other⟩] })

/-- State of a laser: 0 good, 1 worn, 2 failed, 3 lost with no spare (R589–R591). -/
def State.laser (s : State) (e n : Nat) : Nat := spGet (fun _ => 0) s.ldg.lasers (e * 32 + n)
/-- The link's light engine serves, and none of its lanes has lost its laser (Table 17-3, R502, R533, R591). -/
def State.linkFit (s : State) (l : Nat) : Bool :=
  !s.fencedAt (portFence (l / 2) 0xFF) && (s.linkLanes l).all (fun n => s.laser (l / 2) n != 3)

/-- Training begins (R424 step 1). -/
def State.trainStart (s : State) (l : Nat) : State :=
  if !s.linkFit l then s
  else (s.modLink l (fun q => { Link.init with light := q.light, crossed := q.crossed, lanes := q.lanes, tstep := 1 })).setLinkState l 1

/-- The link is UP (R424 steps 6 and 7); its lanes have light. -/
def State.trainUp (s : State) (l : Nat) : State :=
  let id := (s.link l).identRx
  let c : Credits := ⟨rdLe id 16 2, rdLe id 18 2, rdLe id 20 2, rdLe id 22 2⟩
  let s := s.modLink l (fun q => { q with tstep := 0, credTx := c, failedAt := none, rounds := 0, keyAt := s.clock, sentCnt := 0
                                          retrFails := 0, unack := [] })
  let lanes := (s.linkLanes l).map (· + l / 2 * 32)
  let s := { s with con.lowLanes := s.con.lowLanes.filter (fun k => !lanes.contains k) }
  (((s.setLinkState l 2).dropFence (.port (portLoc l))).capBump).jobsGo

/-- One step of training, where the step before it is done (R424). -/
def State.trainStep (s : State) (l : Nat) : State :=
  let q := s.link l
  match q.tstep with
  | 1 => if q.crossed then s else s.modLink l (fun q => { q with tstep := 2 })
  | 2 =>
    if s.allLocked l && q.nextB.isSome && !s.secSwitching then
      match s.random 4 with
      | none => s.trainFail l
      | some (s, nonce) =>
        let id := s.ident l nonce
        (s.modLink l (fun q => { q with tstep := 3, identTx := id })).sendCtl l 0x34 id
    else s
  | 3 =>
    if q.identRx.isEmpty || s.secSwitching then s
    else
      match s.random 6 with
      | none => s.trainFail l
      | some (s, priv) =>
        let pub := publicKey priv
        let (s, sig) := s.ecdsa devIdKey (q.identTx ++ q.identRx ++ pub)
        (s.modLink l (fun q => { q with tstep := 4, ephem := priv })).sendCtl l 0x35 (pub ++ sig)
  | 4 => if q.keyTx.isSome then s.trainUp l else s
  | _ => s

/-! ## Lasers (R588–R591) -/

/-- Spares of an engine: fabric 2, host 4 (one per wavelength), Night 1 (Table 18-6). -/
def engineSpares (e : Nat) : Nat := if e < 16 then 2 else if e = 16 then 4 else 1
/-- Lasers of an engine in service: fabric 8, host 16 and the sideband, Night 1. -/
def engineLasers (e : Nat) : Nat := if e < 16 then 8 else if e = 16 then 17 else 1
/-- The spare group of a laser: its wavelength on the host engine; the sideband shares 1,311 nm, group 3. -/
def spareGroup (e laser : Nat) : Nat := if e = 16 then (if laser = 16 then 3 else laser % 4) else 0
/-- Spares a group starts with. -/
def groupSpares (e : Nat) : Nat := if e = 16 then 1 else engineSpares e
def State.setLaser (s : State) (e n v : Nat) : State := { s with ldg.lasers := spPut (fun _ => 0) s.ldg.lasers (e * 32 + n) v }
def State.sparesUsed (s : State) (e g : Nat) : Nat := spGet (fun _ => 0) s.ldg.sparesUsed (e * 4 + g)
def laserLoc (e laser : Nat) : Loc :=
  if e < 16 then ⟨4, e, 0, 0x3F, 1, laser, laser⟩ else ⟨5, e - 16, 0, 0x3F, 1, laser, laser⟩

/-- The host link without a lane from 4 on: it trains again at the widest width that excludes the lane; the sideband is lost as R319 states
(R591). -/
def State.hostNarrow (s : State) (n : Nat) : State :=
  if n = 16 then s.sidebandLost
  else if s.hostUp then s.rset Fd.HPT_LINK_STAT_WIDTH (min (if n < 8 then 4 else 8) (s.rget Fd.HPT_LINK_STAT_WIDTH)) else s

/-- A laser with no spare costs its lane (R591). -/
def State.laneLost (s : State) (e n : Nat) : State :=
  let s := s.setLaser e n 3
  if e < 16 then
    let l := if s.portSplit e then 2 * e + n / 4 else 2 * e
    let s := (s.raise ⟨0x100E, laserLoc e n, 6, .port (portLoc l), none, false, false, false, false⟩).addFence (.port (portLoc l))
    s.linkDown l 0x0B01
  else if e = 17 then
    let s := (s.raise ⟨0x100E, laserLoc e n, 6, .port (lightCtlLoc 17), none, false, false, false, false⟩).addFence (.port (lightCtlLoc 17))
    (s.rset Fd.HUB_CONN_STAT_NIGHT_UP 0)
  else if n < 4 then
    ((s.raise ⟨0x100E, laserLoc e n, 6, hostPortFence, none, false, false, false, false⟩).addFence hostPortFence).hostLinkDown
  else (s.raise (recNote 0x100E (laserLoc e n))).hostNarrow n

/-- A worn or failed laser is replaced: its record, the lane map committed and the old laser retired, and the record of the
replacement; with no spare its lane is lost (R590, R591). -/
def State.laserReplace (s : State) (e n : Nat) : State :=
  let s := s.raise (recNote (if s.laser e n = 1 then 0x100B else 0x100C) (laserLoc e n))
  let g := spareGroup e n
  let used := s.sparesUsed e g
  if used < groupSpares e then
    let s := { s with ldg.sparesUsed := spPut (fun _ => 0) s.ldg.sparesUsed (e * 4 + g) (used + 1)
                      ldg.wornDue := spDel s.ldg.wornDue (e * 32 + n) }
    let s := (s.setLaser e n 0).radd (Fd.LDG_LASER_RETIRED e) 1
    let s := (s.commit [⟨5, e, false, s.rget (Fd.LDG_LASER_RETIRED e) :: (List.range 4).map (s.sparesUsed e), 64⟩]).raise (recDegr 0x100D (laserLoc e n))
    if used + 1 = groupSpares e then s.zeroReserve 9 (e * 4 + g) (laserLoc e 0xFFFF) else s
  else s.laneLost e n

/-- Worn lasers of a link are replaced at its retrain (R590). -/
def State.wornReplace (s : State) (l : Nat) : State :=
  (s.linkLanes l).foldl (fun s n => if s.laser (l / 2) n = 1 then s.laserReplace (l / 2) n else s) s

/-! ## Flits (R421–R430) -/

/-- Data bytes of a message by its OP and LEN_M1 (Table 13-7). -/
def opData (op lenM1 : Nat) : Nat :=
  match op with
  | 1 => lenM1 + 1 | 2 => lenM1 + 1 | 5 => lenM1 + 1 | 0x11 => lenM1 + 1
  | 4 => 4 | 0x20 => 128 | 0x33 => 96 | 0x34 => 64 | 0x35 => 192
  | _ => 0

/-- A message header from its 16 bytes (Table 13-6), without data. -/
def Msg.ofHeader (b : List Byte) : Msg :=
  let w0 := rdLe b 0 8
  let w1 := rdLe b 8 8
  ⟨nfld w0 63 58, nfld w0 57 44, nfld w0 43 30, nfld w0 29 20, nbit w0 19, nfld w0 18 11, nfld w0 10 7, nfld w0 6 5, nfld w0 4 1,
    w0 % 2, nfld w1 63 48, nfld w1 47 0, []⟩

/-- Messages in a run of message slots, and the bytes of one not yet whole; NULL ends the flit (R422). -/
def parseMsgs : Nat → List Byte → List Msg × List Byte
  | 0, b => ([], b)
  | n + 1, b =>
    if b.length < 16 then ([], b)
    else
      let m := Msg.ofHeader b
      if m.op = 0 then ([], [])
      else
        let len := opData m.op m.lenM1
        let slots := (16 + len + 31) / 32
        if b.length < 32 * slots then ([], b)
        else
          let (ms, rest) := parseMsgs n (b.drop (32 * slots))
          ({ m with data := slice b 16 len } :: ms, rest)

/-- TARGET holds nothing outside the fields its OP gives it (Table 13-7). -/
def targetOk (m : Msg) : Bool :=
  match m.op with
  | 4 => decide (m.target < 2 ^ 13)
  | 0x10 => m.target == 0 | 0x11 => m.target == 0 | 0x32 => m.target == 0 | 0x33 => m.target == 0 | 0x34 => m.target == 0 | 0x35 => m.target == 0
  | 0x12 => decide (m.target < 2 ^ 16)
  | _ => true
/-- A message of the table, with every reserved field 0; multicast carries WRITE and SIGNAL only (R423, R436). -/
def Msg.valid (m : Msg) : Bool := opKnown m.op && m.rsv == 0 && targetOk m && (!m.mc || m.op == 1 || m.op == 4)

/-- Take received messages into the receive buffer, or discard them (R423). -/
def State.rxMsg (s : State) (l : Nat) (ctl : Bool) (m : Msg) : State :=
  if m.valid && (ctl == (m.op == 0x34 || m.op == 0x35)) then
    s.modLink l (fun q => { q with rxbuf := q.rxbuf ++ [⟨m, s.clock⟩] })
  else
    let s := s.radd (Fd.FAB_PORT_CNT_DISCARDS (l / 2)) 1
    if m.isReq && !m.mc then s.answer m 0x12 0x0B10 [] else s

/-- Whether a SEQ lies before another, modulo 4,096. -/
def seqBefore (a b : Nat) : Bool := decide ((b + 4096 - a % 4096) % 4096 ≥ 1) && decide ((b + 4096 - a % 4096) % 4096 ≤ 2048)

/-- An acknowledgement frees the replay buffer up to ACK (R430); multicasts and reductions see it (R443, R447). -/
def State.rxAck (s : State) (l ack : Nat) : State :=
  let q := s.link l
  let done := q.unack.filter (fun u => seqBefore u.seq ack)
  let s := s.modLink l (fun q => { q with unack := q.unack.filter (fun u => !seqBefore u.seq ack) })
  let s := done.foldl (fun s u =>
    match u.why with
    | .multicast r i => s.mcAck r i
    | .lastChunk g => (match s.red g with
      | some r => s.setRed g (some { r with fin := true })
      | none => s)
    | .other => s) s
  s.pump l

/-- A NAK: the flits from ACK are sent again; a flit already sent 4 times makes the link retrain (R430, R431). -/
def State.rxNak (s : State) (l : Nat) : State :=
  let q := s.link l
  if q.unack.any (fun u => decide (u.sends ≥ 4)) then s.setLinkState l 3
  else
    let n := q.inFlight
    (s.modLink l (fun q => { q with unack := q.unack.map (fun u => { u with sends := u.sends + 1 }), sentCnt := q.sentCnt + n })).radd
      (Fd.FAB_PORT_CNT_REPLAYS (l / 2)) n

/-- A receiver refuses a flit and asks for the expected one (R430). -/
def State.sendNak (s : State) (l : Nat) : State :=
  s.modLink l (fun q => { q with nak := some (q.nak.getD s.clock) })

/-- A tag failure: the fourth in a second, or a second on one SEQ, is a link-integrity failure (R429). -/
def State.tagFail (s : State) (l seq : Nat) : State :=
  let q := s.link l
  let recent := s.clock :: q.tagFails.filter (fun c => decide (s.clock - c < 25000000))
  let twice := q.tagSeq == some seq
  let s := (s.modLink l (fun q => { q with tagFails := recent, tagSeq := some seq })).sendNak l
  if recent.length ≥ 4 || twice then s.linkDown l 0x0B03 else s

end Sys2Proof.Machine
end

