-- ==== Sys2Proof/Machine/Fabric.lean ====
section
/-!
DEFINITION. The fabric (R412–R451, R641): ports and links, flits, messages, windows, reductions, tables, and the class 0x5
descriptors.
-/

namespace Sys2Proof.Machine

/-! ## Ports and training (R415, R424, R425, R431) -/

/-- Links train only from the Noon stage on (R551). -/
def State.fabricOn (s : State) : Bool := s.stage == 6 && !s.twilight
/-- The port's take-down or training is in progress (R415). -/
def State.portBusy (s : State) (p : Nat) : Bool := [2 * p, 2 * p + 1].any (fun l => s.linkState l == 1 || s.linkState l == 3)

/-- EN and SPLIT take their new values, and the links train under them (R415). -/
def State.portSet (s : State) (p en split : Nat) : State :=
  let s := (s.portLinks p).foldl (fun s l => s.linkDown l 0x0B01) s
  let s := (s.rset (Fd.FAB_PORT_CFG_EN p) en).rset (Fd.FAB_PORT_CFG_SPLIT p) split
  let s := s.setLinkState (2 * p + 1) (if split = 1 then 0 else 7)
  let s := s.setLinkState (2 * p) 0
  if en = 1 && s.fabricOn then (s.portLinks p).foldl (fun s l => s.trainStart l) s else s

def State.latchedPort (s : State) (p : Nat) : Option Nat := spGet (fun _ => none) s.fab.latched p
def State.setLatched (s : State) (p : Nat) (v : Option Nat) : State :=
  ({ s with fab.latched := spPut (fun _ => none) s.fab.latched p v }.rset (Fd.FAB_PORT_STAT_PEND p) (b2n v.isSome)).rset
    (linkFd Fd.FAB_PORT_STAT_PEND (2 * p + 1)) (b2n v.isSome)

/-- FAB_PORT_CFG_WRITE (R415, R426): the expected peer at once; EN and SPLIT at once, or latched while the port is not stable. -/
def execFabPortCfgWrite (p : Nat) (v : W64) (s : State) : Out :=
  .next (
    if p < s.part.fports && !s.twilight then
      let s := (((((s.rset (Fd.FAB_PORT_CFG_EXPECT p) (fld v 61 61)).rset (Fd.FAB_PORT_CFG_EXP_PORT1 p) (fld v 37 33)).rset
        (Fd.FAB_PORT_CFG_EXP_DEV1 p) (fld v 32 19)).rset (Fd.FAB_PORT_CFG_EXP_PORT0 p) (fld v 18 14)).rset (Fd.FAB_PORT_CFG_EXP_DEV0 p) (fld v 13 0))
      let en := fld v 63 63
      let split := fld v 62 62
      let same := en == s.rget (Fd.FAB_PORT_CFG_EN p) && split == s.rget (Fd.FAB_PORT_CFG_SPLIT p)
      if s.portBusy p then (if same && (s.latchedPort p).isNone then s else s.setLatched p (some (2 * en + split)))
      else if same then
        (s.portLinks p).foldl (fun s l => if s.linkState l = 4 && s.fabricOn then s.trainStart l else s) s
      else s.portSet p en split
    else s)

/-- PORT_LATCHED_CHANGE (R415). -/
def execPortLatchedChange (p : Nat) (s : State) : Out :=
  .next (match s.latchedPort p with
    | some v => if s.portBusy p then s else (s.setLatched p none).portSet p (v / 2) (v % 2)
    | none => s)

/-- LINK_TRAINING (R424): the next step of a link's training, or the end of an attempt that failed or took 50 ms. -/
def execLinkTraining (l : Nat) (ok : Bool) (s : State) : Out :=
  .next (
    if s.linkThere l && s.linkState l = 1 then
      if ok then s.trainStep l else s.trainFail l
    else s)

/-- TRAINING_RETRY (R424, R426, R450, R533): 100 ms after a failed attempt, while EN = 1 and light is present; a MISWIRED link when light
returns to it, which is how its fibre is seen to be connected again. -/
def execTrainingRetry (l : Nat) (light : Bool) (s : State) : Out :=
  .next (
    let dark := !(s.link l).light
    let s := s.modLink l (fun q => { q with light := light })
    let st := s.linkState l
    let due := match (s.link l).failedAt with
      | some c => decide (s.clock - c ≥ 2500000)
      | none => true
    if s.linkThere l && s.fabricOn && (st = 5 || st = 6 || st = 0 || (st = 4 && dark)) && s.rget (Fd.FAB_PORT_CFG_EN (l / 2)) = 1 && light && due &&
        !s.thm.engHot.contains (l / 2) then s.trainStart l
    else s)

/-- CROSSED_SWAP (R425): light on the transmit positions and none on the receive positions after the random wait: the roles of every position
are swapped. `again`: the peer swapped too, and the condition returns; the sixteenth such round leaves the link DOWN. -/
def execCrossedSwap (l : Nat) (again : Bool) (s : State) : Out :=
  .next (
    if s.linkThere l && s.linkState l = 1 && ((s.link l).tstep = 1 || (s.link l).tstep = 0) then
      let n := (s.link l).rounds + 1
      if n ≥ 16 && again then
        ((s.raise ⟨0x0B06, portLoc l, 6, .port (portLoc l), none, false, false, false, false⟩).addFence (.port (portLoc l))).trainFail l
      else
        let s := s.modLink l (fun q => { q with rounds := n, crossed := again })
        (s.rset (linkFd Fd.FAB_PORT_STAT_CROSSED l) (1 - s.rget (linkFd Fd.FAB_PORT_STAT_CROSSED l))).raise (recNote 0x0B07 (portLoc l))
    else s)

/-! ## Blocks and flits (R417–R431) -/

/-- BLOCK_RECEIVE (R417–R420, R431): the 512 bytes of a block on a physical lane, as they arrive. -/
def execBlockReceive (l phys : Nat) (block : List Byte) (s : State) : Out :=
  .next (
    if s.linkThere l && (s.linkLanes l).contains phys then
      let dec := blockDecode block
      let bytes := dec.map (·.1)
      let a := (((s.link l).lane phys).count (bytes.any blockSync)).take bytes
      let s := s.modLink l (fun q =>
        ({ q with lanes := spPut (fun _ => Lane.init) q.lanes phys a }.deskew (s.linkLanes l)).overrun phys)
      let s : State := match dec with
        | some d => s.radd (Fd.FAB_PORT_CNT_FEC_CORR (l / 2)) d.2
        | none => s.modLink l (fun q => { q with badBlocks := s.clock :: q.badBlocks.filter (fun c => decide (s.clock - c < 25000)) })
      let locked := (s.linkLanes l).filter (fun p => ((s.link l).lane p).lock)
      if s.linkState l = 2 && (decide ((s.link l).badBlocks.length > 16) ||
          (!locked.isEmpty && decide (locked.length < s.linkWidth l))) then s.setLinkState l 3
      else s
    else s)

/-- What a flit does (R421–R431), by its link header, message area, and CRC and tag checks. -/
def State.flitDone (s : State) (l : Nat) (w0 w1 : W64) (area : List Byte) (crcOk tagOk : Bool) : State :=
    let ty := fld w0 63 60
    let st := s.linkState l
    if !(s.linkThere l && (st = 1 || st = 2 || st = 4) && decide (ty ≤ 2)) then s
    else if !crcOk then (if ty = 0 then s else s.sendNak l)
    else if ty = 1 && st ≠ 2 then s
    else if ty = 2 && st = 2 then s
    else if ty = 1 && !tagOk then s.tagFail l (fld w0 59 48)
    else
      let s := s.modLink l (fun q => { q with credTx := (q.credTx.add (fld w1 63 62) (fld w1 61 48)).add (fld w1 47 46) (fld w1 45 32) })
      let s := s.rxAck l (fld w0 47 36)
      let s := if fld w0 35 35 = 1 then s.rxNak l else s
      if ty = 0 then s
      else if fld w0 59 48 ≠ (s.link l).rxSeq then s.sendNak l
      else
        let s := s.modLink l (fun q =>
          let q := { q with rxSeq := (q.rxSeq + 1) % 4096, nak := none, tagSeq := none }
          if ty = 1 && bit w0 34 != q.epochRx then { q with epochRx := bit w0 34, keyOld := none } else q)
        let q := s.link l
        let first := fld w0 33 31
        let bytes := if q.partial_.isEmpty then (if first = 7 then [] else area.drop (32 * first)) else q.partial_ ++ area
        let (ms, rest) := parseMsgs 8 bytes
        let s := s.modLink l (fun q => { q with partial_ := rest })
        ms.foldl (fun s m => s.rxMsg l (ty == 2) m) s

/-- FLIT_RECEIVE (R421–R431): the next flit of the stream; link header, decrypted message area, and what the CRC and tag checks found. -/
def execFlitReceive (l : Nat) (w0 w1 : W64) (area : List Byte) (crcOk tagOk : Bool) (s : State) : Out :=
  .next (
    let f := (s.link l).flitSeen w0 w1 area crcOk
    (if (s.link l).flits.isEmpty then s else s.modLink l (fun q => { q with flits := q.flits.drop 1 })).flitDone l f.1 f.2.1 f.2.2.1 f.2.2.2 tagOk)

/-- NAK_REPEAT (R430): the expected flit has not arrived 2 µs after the NAK. -/
def execNakRepeat (l : Nat) (s : State) : Out :=
  .next (match (s.link l).nak with
    | some c => if s.clock - c ≥ 50 then s.modLink l (fun q => { q with nak := some s.clock }) else s
    | none => s)

/-- ACK_REPORT (R430, R432): ACK and the credits freed are reported to the peer. -/
def execAckReport (l : Nat) (s : State) : Out :=
  .next (if s.linkUp l then s.modLink l (fun q => { q with ackSent := q.rxSeq, credRet := .zero }) else s)

/-- LINK_RETRAINED (R431, R590): its lanes have block lock again; buffers, keys and counts are kept; worn lasers are replaced; three failures take the link down. -/
def execLinkRetrained (l : Nat) (ok : Bool) (s : State) : Out :=
  .next (
    if s.linkThere l && s.linkState l = 3 then
      if ok then
        if !s.allLocked l then s else
        let s := ((s.setLinkState l 2).radd (Fd.FAB_PORT_CNT_RETRAINS (l / 2)) 1).raise (recNote 0x0B02 (portLoc l))
        let s := s.modLink l (fun q => { q with retrFails := 0, badBlocks := [], unack := q.unack.map (fun u => { u with sends := 1 }) })
        (s.wornReplace l).pump l
      else
        let n := (s.link l).retrFails + 1
        if n ≥ 3 then s.linkDown l 0x0B01 else s.modLink l (fun q => { q with retrFails := n })
    else s)

/-- REKEY_START (R428): after 2^40 flits or 3,600 s under one key. -/
def execRekeyStart (l : Nat) (s : State) : Out :=
  .next (
    let q := s.link l
    if s.linkThere l && s.linkState l = 2 && !q.rekeying && !s.secSwitching && (q.sentCnt ≥ 2 ^ 40 || s.clock - q.keyAt ≥ 90000000000) then
      match s.random 6 with
      | none => s
      | some (s, priv) =>
        (s.modLink l (fun q => { q with rekeying := true, ephem := priv })).toLink l (redMsg s 0x33 0 0 0 0 (publicKey priv)) .other
    else s)

/-- MESSAGE_DROPPED (R433): the oldest message of a receive buffer has waited 10 ms. -/
def execMessageDropped (l : Nat) (s : State) : Out :=
  .next (match (s.link l).rxbuf with
    | x :: rest =>
      if s.clock - x.at_ ≥ 250000 then
        ((s.modLink l (fun q => { q with rxbuf := rest })).freeRx l x.m).dropMsg x.m 0x0B10 (portLoc l)
      else s
    | [] => s)

/-- FABRIC_LINK_DOWN (R450): the link's lanes have lost light for 10 µs. -/
def execFabricLinkDown (l : Nat) (s : State) : Out :=
  .next ((s.modLink l (fun q => { q with light := false })).linkDown l 0x0B01)

/-! ## Messages received (R432–R441) -/

/-- The oldest message of an operation leaves the receive buffer of a link, and its credits are returned. -/
def State.takeRx (s : State) (l op : Nat) : Option (Msg × State) :=
  match findIdxFrom (fun x => x.m.op == op) (s.link l).rxbuf 0 with
  | none => none
  | some k =>
    match (s.link l).rxbuf[k]? with
    | none => none
    | some x => some (x.m, (s.modLink l (fun q => { q with rxbuf := q.rxbuf.eraseIdx k })).freeRx l x.m)

/-- A message that has arrived is forwarded where R435 and R436 say so; the message itself where this module performs it. Without a
device ID in force nothing but link-local messages is accepted (R434). -/
def State.arrive_ (s : State) (l : Nat) (m : Msg) : State × Bool :=
  if l = selfLink then (s, true)
  else if !s.idValid then (s, false)
  else if m.mc then
    let e := spGet (fun _ => 0#64) s.fab.mcast m.dst
    if !bit e 63 then (s, false)
    else if m.hops = 0 then (if (mcLinks e (some l)).isEmpty then s else s.raise (recErr 0x0B0F routeLoc none), bit e 62)
    else
        let m' := { m with hops := m.hops - 1 }
        ((mcLinks e (some l)).foldl (fun s k =>
          if s.linkUp k then s.toLink k m' .other else s.radd (Fd.FAB_PORT_CNT_DISCARDS (k / 2)) 1) s, bit e 62)
  else if m.dst = s.devId then (s, true)
  else (s.forward m l, false)

/-- Answer a request; the answers to requests received from a link that is down are discarded (R450). -/
def State.reply (s : State) (l : Nat) (m : Msg) (op target : Nat) (data : List Byte) : State :=
  if l = selfLink || s.linkUp l then s.answer m op target data else s
/-- A request is refused or fails: ERROR to its sender, or the multicast-refused record (R439, R443). -/
def State.refuse (s : State) (l : Nat) (m : Msg) (reason : Nat) : State :=
  if m.mc then s.raise (recErr 0x0B12 (locHub 0x14 0x21 0xFF 0xFFFF) none) else s.reply l m 0x12 reason []

def winLoc (w : Nat) : Loc := locHub 0x14 0x23 0xFF w
def State.win (s : State) (w : Nat) : Win := spGet (fun _ => Win.init) s.fab.wins w
def Msg.win (m : Msg) : Nat := m.target / 2 ^ 38
def Msg.off (m : Msg) : Nat := m.target % 2 ^ 38
/-- Bytes a message asks for or carries. -/
def Msg.len (m : Msg) : Nat := m.lenM1 + 1
/-- The first four checks of R439; PERM bit 0 R, 1 W, 2 RED. -/
def State.winOk (s : State) (m : Msg) (perm : Nat) : Bool :=
  let w := s.win m.win
  w.open_ && w.tenant == m.tenant && nbit w.perm perm && decide (m.off + m.len ≤ w.len64k * 65536)
def Msg.va (m : Msg) (w : Win) : Nat := w.base + m.off
/-- The window is refused: its record and the ERROR (R439). -/
def State.winRefused (s : State) (l : Nat) (m : Msg) : State := (s.raise (recErr 0x0B0B (winLoc m.win) none)).refuse l m 0x0B0B
/-- Window 1,023 receives spores (R639). -/
def State.sporeWin (s : State) (m : Msg) : Bool := m.win == 1023 && s.rget Fd.FWU_SPORE_EN == 1

/-- Perform a WRITE here (R439, R639). -/
def State.doWrite (s : State) (l : Nat) (m : Msg) : State :=
  if s.sporeWin m then
    if s.sporeOpen && m.off + m.len ≤ 96 * 2 ^ 20 then (s.sporeWrite m.off m.data).reply l m 0x10 0 [] else s.winRefused l m
  else if !s.winOk m 1 then s.winRefused l m
  else
    let w := s.win m.win
    match s.vwrite none 0 w.asid w.tenant (m.va w) m.data with
    | (s, none) => if m.mc then s else s.reply l m 0x10 0 []
    | (s, some e) => (s.vFault .fabric e).refuse l m e.reason

/-- MSG_WRITE (R435, R439). -/
def execMsgWrite (l : Nat) (s : State) : Out :=
  .next (s.attempt fun s => match s.takeRx l 1 with
    | none => s
    | some (m, t) =>
      match t.arrive_ l m with
      | (t, false) => t
      | (t, true) => t.doWrite l m)

/-- One piece of a RED_WRITE: a posted reduction of the bytes it carries there (R240, R439). -/
def State.redWrite1 (s : State) (w : Win) (m : Msg) (x : Nat × Nat) : State × Option VErr :=
  match s.xlate none w.asid w.tenant x.1 .w with
  | (s, .error e) => (s, some (.ofX (xlateLoc none) e))
  | (s, .ok (pa, _)) =>
    if physClass pa != .dram then (s, some ⟨0x0B0B, winLoc m.win, false, false, none, false⟩)
    else if s.redHeld pa x.2 then ((s.noteFills pa x.2).setWaited, some .wait)
    else match s.reduceAt m.redop m.rtype pa (slice m.data (x.1 - m.va w) x.2) with
    | (s, some e) => (s, some (.ofM e))
    | (s, none) => (s, none)

/-- MSG_RED_WRITE (R439): a posted reduction under R240. -/
def execMsgRedWrite (l : Nat) (s : State) : Out :=
  .next (s.attempt fun s => match s.takeRx l 2 with
    | none => s
    | some (m, t) =>
      match t.arrive_ l m with
      | (t, false) => t
      | (t, true) =>
        let w := t.win m.win
        if t.sporeWin m || !t.winOk m 2 || reduceReserved m.redop m.rtype || m.off % elemSize m.rtype ≠ 0 || m.len % elemSize m.rtype ≠ 0 then
          t.winRefused l m
        else
          let r : State × Option VErr := (pieces (m.va w) m.len).foldl (fun (p : State × Option VErr) x =>
            match p.2 with
            | some e => (p.1, some e)
            | none => p.1.redWrite1 w m x) (t, none)
          match r with
          | (s, some e) => (s.vFault .fabric e).refuse l m e.reason
          | (s, none) => s.reply l m 0x10 0 [])

/-- MSG_READ (R439, R639). -/
def execMsgRead (l : Nat) (s : State) : Out :=
  .next (s.attempt fun s => match s.takeRx l 3 with
    | none => s
    | some (m, t) =>
      match t.arrive_ l m with
      | (t, false) => t
      | (t, true) =>
        if t.sporeWin m then
          if t.sporeOpen && m.off ≥ 2 ^ 37 then
            let (t, data) := t.sporeRead (m.off - 2 ^ 37) m.len
            t.reply l m 0x11 0 data
          else t.winRefused l m
        else if !t.winOk m 0 then t.winRefused l m
        else
          let w := t.win m.win
          match t.vread none 0 w.asid w.tenant (m.va w) m.len with
          | (s, .ok data) => s.reply l m 0x11 0 data
          | (s, .error e) => (s.vFault .fabric e).refuse l m e.reason)

/-- MSG_SIGNAL (R408, R440, R441): it goes to its bank; a multicast one only after every earlier WRITE of its originator and group. -/
def execMsgSignal (l : Nat) (s : State) : Out :=
  .next (match findIdxFrom (fun (x : RxMsg) => x.m.op == 4) (s.link l).rxbuf 0, s.takeRx l 4 with
    | some k, some (m, t) =>
      if m.mc && ((s.link l).rxbuf.take k).any (fun x => x.m.op == 1 && x.m.mc && x.m.src == m.src && x.m.dst == m.dst) then s
      else
        match t.arrive_ l m with
        | (t, false) => t
        | (t, true) =>
          { t with sor.queue := t.sor.queue ++ [⟨25, m.target, leNat m.data, m.tenant, .remote m.src m.tag m.mc⟩] }
    | _, _ => s)

/-- A transfer fails: its pages go back and the slot is RESIDENT with TOKENS 0 (R449). -/
def State.xferFail (s : State) (l x : Nat) (m : Msg) : State :=
  ((s.xferDrop x).raise (recErr 0x0B11 (sesLoc 0 x) none)).refuse l m 0x0B11
/-- The transfer's last piece is in: the slot is RESIDENT with the sent TOKENS. -/
def State.xferDone (s : State) (x : Nat) (q : Xfer) : State :=
  (s.modSlot x (fun c => { c with st := .resident, tokens := q.tokens })).setXfer x none

/-- The header of a session arrives: the receiving slot is checked and takes its pages (R449, R373). A new header from the same module ends
a transfer that its sender gave up. -/
def State.sessHead (s : State) (l x : Nat) (m : Msg) : State :=
  let s := if (s.xfer x).any (fun q => q.src == m.src) then s.xferDrop x else s
  let c := s.slot x
  let tokens := rdLe m.data 4 4
  let np := rdLe m.data 8 4
  let ok := c.bound && c.tenant == m.tenant && c.st == .resident && c.tokens == 0 && c.seq.isNone && c.pend.isNone && (s.xfer x).isNone &&
    c.layersM1 == rdLe m.data 0 1 && c.tb == rdLe m.data 1 1 && np == c.entries tokens && m.data.length == 12 && s.sesUp
  if !ok then (s.raise (recErr 0x0B11 (sesLoc 0 x) none)).refuse l m 0x0B11
  else
    match State.grow x np 0 s [] with
    | (s, acc, some _) => ((s.giveBack acc).raise (recErr 0x0B11 (sesLoc 0 x) none)).refuse l m 0x0B11
    | (s, acc, none) =>
      let q : Xfer := ⟨m.src, tokens, np, 0, acc, l⟩
      let s := s.modSlot x (fun c => { c with st := .resuming })
      (if np = 0 then s.xferDone x q else s.setXfer x (some q)).reply l m 0x10 0 []

/-- MSG_SESS (R449). -/
def execMsgSess (l : Nat) (s : State) : Out :=
  .next (s.attempt fun s => match s.takeRx l 5 with
    | none => s
    | some (m, t) =>
      match t.arrive_ l m with
      | (t, false) => t
      | (t, true) =>
        let x := m.target / 2 ^ 32
        let n := m.target % 2 ^ 32
        if n = 0 then t.sessHead l x m
        else match t.xfer x with
        | none => (t.raise (recErr 0x0B11 (sesLoc 0 x) none)).refuse l m 0x0B11
        | some q =>
          if q.src ≠ m.src || n > 256 * q.np then t.xferFail l x m
          else match t.kvPage x ((n - 1) / 256) with
          | (s, none) => s.xferFail l x m
          | (s, some i) =>
            let c := s.slot x
            match s.vwrite none 0 c.asid c.tenant ((s.pool c.pool).va i + 256 * ((n - 1) % 256)) m.data with
            | (s, some _) => s.xferFail l x m
            | (s, none) =>
              let q := { q with got := q.got + 1 }
              (if q.got = 256 * q.np then s.xferDone x q else s.setXfer x (some q)).reply l m 0x10 0 [])

/-- A response reaches its request, or goes on (R435, R443); a late one is discarded. -/
def State.response (s : State) (l op : Nat) (res : Msg → Except Nat (List Byte)) : State :=
  match s.takeRx l op with
  | none => s
  | some (m, t) =>
    match t.arrive_ l m with
    | (t, false) => t
    | (t, true) =>
      match t.fab.reqs.find? (fun q => q.tag == m.tag) with
      | some q => t.reqEnd q (res m)
      | none => t

/-- MSG_DONE (R443). -/
def execMsgDone (l : Nat) (s : State) : Out := .next (s.attempt fun s => s.response l 0x10 (fun _ => .ok []))
/-- MSG_DATA (R443). -/
def execMsgData (l : Nat) (s : State) : Out := .next (s.attempt fun s => s.response l 0x11 (fun m => .ok m.data))
/-- MSG_ERROR (R443). -/
def execMsgError (l : Nat) (s : State) : Out := .next (s.attempt fun s => s.response l 0x12 (fun m => .error (m.target % 65536)))

/-- MSG_CHUNK (R445, R446, R448): a child's contribution. -/
def execMsgChunk (l : Nat) (s : State) : Out :=
  .next (s.attempt fun s => match s.takeRx l 0x20 with
    | none => s
    | some (m, s) =>
      let g := m.target / 2 ^ 40
      let seq := m.target / 2 ^ 24 % 65536
      let i := m.target % 2 ^ 24
      match s.red g with
      | none => s
      | some q =>
        let e := s.rgrp g
        if seq ≠ q.seq || m.redop ≠ q.redop || m.rtype ≠ q.rtype || i ≥ q.chunks || !e.children.contains l then s.redAbort g 0x0B0C none
        else if i < q.low || i ≥ q.low + 512 || q.window.any (fun c => c.index == i && nbit c.from_ l) then s
        else
          let mark (c : Chunk) : Chunk := { c with from_ := c.from_ ||| (1 <<< l) }
          if s.redSplit e then
            match s.redPerform g q i m.data with
            | (s, true) => (s.setRed g (some (q.modChunk i mark))).redGo g
            | (s, false) => s.redAbort g 0x0B0E none
          else (s.setRed g (some (q.modChunk i (fun c => { mark c with value := some (q.combine c.value m.data) })))).redGo g)

/-- MSG_ADVANCE (R447): the parent's limit; one for a SEQ not yet started is kept. -/
def execMsgAdvance (l : Nat) (s : State) : Out :=
  .next (s.attempt fun s => match s.takeRx l 0x30 with
    | none => s
    | some (m, s) =>
      let g := m.target / 2 ^ 40
      let seq := m.target / 2 ^ 24 % 65536
      let limit := m.target % 2 ^ 24
      let e := s.rgrp g
      if e.role = 2 || e.parent ≠ l then s
      else match s.red g with
      | some q =>
        if q.seq = seq then (s.setRed g (some { q with limit := max q.limit limit })).redGo g
        else { s with fab.advs := (g, seq, limit) :: s.fab.advs.filter (fun a => !(a.1 == g && a.2.1 == seq)) }
      | none => { s with fab.advs := (g, seq, limit) :: s.fab.advs.filter (fun a => !(a.1 == g && a.2.1 == seq)) })

/-- MSG_ABORT (R448): the SEQ in progress, or one not yet started. -/
def execMsgAbort (l : Nat) (s : State) : Out :=
  .next (match s.takeRx l 0x31 with
    | none => s
    | some (m, s) =>
      let g := m.target / 2 ^ 40
      let seq := m.target / 2 ^ 24 % 65536
      match s.red g with
      | some q => if q.seq = seq then s.redAbort g 0x0B0E (some l) else { s with fab.aborted := (g, seq) :: s.fab.aborted }
      | none => { s with fab.aborted := (g, seq) :: s.fab.aborted })

/-- MSG_LEAVE (R450): the peer leaves. -/
def execMsgLeave (l : Nat) (s : State) : Out :=
  .next (match s.takeRx l 0x32 with
    | none => s
    | some (_, s) => s.linkDown l 0x0B08)

/-- MSG_REKEY (R428, R475): new keys from the two public keys, lower serial first; a module that has not sent its own answers with it. -/
def execMsgRekey (l : Nat) (s : State) : Out :=
  .next (if s.secSwitching then s else match s.takeRx l 0x33 with
    | none => s
    | some (m, s) =>
      let ready := if (s.link l).rekeying then some s
        else (s.random 6).map (fun p => (p.1.modLink l (fun q => { q with ephem := p.2 })).toLink l (redMsg p.1 0x33 0 0 0 0 (publicKey p.2)) .other)
      match ready with
      | none => s
      | some s =>
        s.modLink l (fun q =>
          let own := publicKey q.ephem
          let salt := if lowerSerial q then own ++ m.data else m.data ++ own
          let k := keyPair (linkKeys q.ephem m.data salt) (lowerSerial q)
          { q with keyOld := q.keyRx, keyRx := some k.2, keyTx := some k.1, epochTx := !q.epochTx, rekeying := false, sentCnt := 0
                   keyAt := s.clock, ephem := [] }))

/-- MSG_IDENT (R426): the peer's identity, checked against what is expected. -/
def execMsgIdent (l : Nat) (s : State) : Out :=
  .next (match s.takeRx l 0x34 with
    | none => s
    | some (m, s) =>
      if s.linkState l ≠ 1 then s
      else
        let id := m.data
        let dev := rdLe id 8 2 % 2 ^ 14
        let code := rdLe id 10 1
        let p := l / 2
        let expDev := if l % 2 = 0 then s.rget (Fd.FAB_PORT_CFG_EXP_DEV0 p) else s.rget (Fd.FAB_PORT_CFG_EXP_DEV1 p)
        let expPort := if l % 2 = 0 then s.rget (Fd.FAB_PORT_CFG_EXP_PORT0 p) else s.rget (Fd.FAB_PORT_CFG_EXP_PORT1 p)
        let s := (s.rset (linkFd Fd.FAB_PORT_STAT_PEER_DEV l) dev).rset (linkFd Fd.FAB_PORT_STAT_PEER_PORT l) (code % 32)
        if id.take 8 == moduleSerial || rdLe id 11 1 ≠ s.linkWidth l ||
            (s.rget (Fd.FAB_PORT_CFG_EXPECT p) = 1 && (dev ≠ expDev || code ≠ expPort)) then
          ((s.raise ⟨0x0B05, portLoc l, 6, .port (portLoc l), none, false, false, false, false⟩).addFence (.port (portLoc l))).setLinkState l 4
        else s.modLink l (fun q => { q with identRx := id }))

/-- MSG_KEYX (R427, R479): the signature is checked against the peer table and the link keys are derived. -/
def execMsgKeyx (l : Nat) (s : State) : Out :=
  .next (match s.takeRx l 0x35 with
    | none => s
    | some (m, s) =>
      let q := s.link l
      if s.linkState l ≠ 1 || q.tstep ≠ 4 || q.identRx.isEmpty then s
      else
        let pub := m.data.take 96
        let sig := m.data.drop 96
        let keys := fun (s : State) => s.modLink l (fun q =>
          let salt := if lowerSerial q then q.identTx.drop 32 ++ q.identRx.drop 32 else q.identRx.drop 32 ++ q.identTx.drop 32
          let k := keyPair (linkKeys q.ephem pub salt) (lowerSerial q)
          { q with keyTx := some k.1, keyRx := some k.2, keyOld := none, epochTx := false, epochRx := false, ephem := [] })
        let fail := fun (s : State) =>
          (((s.raise ⟨0x0B04, portLoc l, 6, .port (portLoc l), none, false, false, false, false⟩).addFence (.port (portLoc l))).trainFail l).setLinkState l 6
        match s.sec.peers.find? (fun p => p.1 == leNat (q.identRx.take 8)) with
        | some p =>
          if Config.verifies algEcdsa p.2 (sha384 (q.identRx ++ q.identTx ++ pub)) sig then keys s else fail s
        | none =>
          if nbit (s.rget Fd.SEC_STAT_POLICY) 1 then keys (s.raise (recNote 0x0C0C (portLoc l))) else fail s)

/-! ## Windows (R438) -/

/-- Every 64 KiB page of the range is mapped with the permissions PERM needs. -/
def State.rangeMapped (s : State) (asid ten base pages perm : Nat) : Bool :=
  (List.range pages).all (fun k =>
    (!nbit perm 0 || (match (s.xlate none asid ten (base + 65536 * k) .r).2 with
      | .ok _ => true
      | .error _ => false)) &&
    (!(nbit perm 1 || nbit perm 2) || (match (s.xlate none asid ten (base + 65536 * k) .w).2 with
      | .ok _ => true
      | .error _ => false)))

/-- WIN_OPEN (R438, R434, R639). -/
def execWinOpen (r i : Nat) (s : State) : Out :=
  .next (s.attempt fun s => match s.opOf r i 5 0 with
    | none => s
    | some d =>
      let w := d.f 1 9 0
      if !s.idValid then s.complete r i 3 0 0
      else if (s.win w).open_ || (w = 1023 && s.rget Fd.FWU_SPORE_EN = 1) then s.complete r i 1 0 0
      else if !s.rangeMapped (s.ringAsid r) (s.ringTenant r) (d.f 2 47 0) (d.f 3 31 0) (d.f 1 18 16) then s.complete r i 2 0 0
      else
        let v : Win := ⟨true, d.f 1 18 16, d.f 2 47 0, d.f 3 31 0, s.ringTenant r, s.ringAsid r⟩
        ({ s with fab.wins := spPut (fun _ => Win.init) s.fab.wins w v } : State).complete r i 0 0 0)

/-- WIN_CLOSE (R438): requests on the window are performed whole, so none is in progress when it closes. -/
def execWinClose (r i : Nat) (s : State) : Out :=
  .next (match s.opOf r i 5 1 with
    | none => s
    | some d =>
      let w := d.f 1 9 0
      if !s.idValid then s.complete r i 3 0 0
      else if !(s.win w).open_ || (s.win w).tenant ≠ s.ringTenant r then s.complete r i 1 0 0
      else ({ s with fab.wins := spPut (fun _ => Win.init) s.fab.wins w Win.init } : State).complete r i 0 0 0)

/-! ## PUT, GET, SIGNAL, SESSION_SEND (R441–R444, R449) -/

/-- Begin a descriptor's messages. -/
def State.jobBegin (s : State) (r i : Nat) (d : Desc) : State :=
  let n := s.jobTotal d
  (({ s with fab.jobs := s.fab.jobs ++ [⟨r, i, 0, n, 0, none⟩] } : State).markRan r i).jobStep r i

/-- A descriptor whose reduction codes are reserved is malformed (R442, R337). -/
def State.fabMalformed (s : State) (r i : Nat) : State :=
  (s.raise (recErr 0x0801 (s.ringLoc r) (s.ringCtx r))).complete r i 0x81 0x0801 0

/-- PUT (R442, R443). -/
def execPut (r i : Nat) (s : State) : Out :=
  .next (s.attempt fun s => match s.opOf r i 5 2 with
    | none => s
    | some d =>
      if !s.idValid then s.complete r i 3 0 0
      else if d.f 1 42 42 = 1 && reduceReserved (d.f 1 41 38) (d.f 1 37 36) then s.fabMalformed r i
      else s.jobBegin r i d)

/-- GET (R442, R443). -/
def execGet (r i : Nat) (s : State) : Out :=
  .next (s.attempt fun s => match s.opOf r i 5 3 with
    | none => s
    | some d => if !s.idValid then s.complete r i 3 0 0 else s.jobBegin r i d)

/-- FABRIC_SIGNAL (R441): after every earlier PUT of the ring to the device has completed. -/
def execFabricSignal (r i : Nat) (s : State) : Out :=
  .next (s.attempt fun s => match s.opOf r i 5 4 with
    | none => s
    | some d =>
      if !s.idValid then s.complete r i 3 0 0
      else if (s.ring r).started.any (fun x => decide (x.idx < i) && x.d.cls == 5 && x.d.op == 2 &&
          x.d.f 1 57 44 == d.f 1 57 44 && x.d.f 1 43 43 == d.f 1 43 43) then s
      else s.jobBegin r i d)

/-- SESSION_SEND (R449): the slot waits in PARKING while it is streamed. -/
def execSessionSend (r i : Nat) (s : State) : Out :=
  .next (s.attempt fun s => match s.opOf r i 5 6 with
    | none => s
    | some d =>
      let x := d.f 1 15 0
      if !s.idValid then s.complete r i 3 0 0
      else if !s.sesUp then s.sesDown r i
      else if !((s.slot x).st == .resident && (s.slot x).seq.isNone && s.boundOk x r 3) then
        (s.raise (recErr 0x0B11 (sesLoc 0 x) (s.ringCtx r))).complete r i 0x80 0x0B11 0
      else
        let s := s.slotCheck x
        if (s.slot x).st ≠ .resident then s.complete r i 0x80 0x0902 0
        else (s.modSlot x (fun q => { q with st := .parking })).jobBegin r i d)

/-- FABRIC_TIMEOUT (R443): a request has gone unanswered for E2E_TO_US; its descriptor completes and late responses are discarded. -/
def execFabricTimeout (tag : Nat) (s : State) : Out :=
  .next (match s.fab.reqs.find? (fun q => q.tag == tag) with
    | none => s
    | some q =>
      if s.clock - q.sentAt < 25 * max 100 (s.rget Fd.FAB_CTL_E2E_TO_US) then s
      else
        let s := s.raise (recErr 0x0B09 (locHub 0x14 0x20 0xFF 0xFFFF) (s.ringCtx q.ring))
        if (s.spore q.ring q.idx).isSome then s.reqEnd q (.error 0x0B09)
        else
          let s := { s with fab.reqs := s.fab.reqs.filter (fun x => !(x.ring == q.ring && x.idx == q.idx)) }
          match s.job q.ring q.idx, (s.ring q.ring).find q.idx with
          | some j, some st => (s.jobEnd { j with err := some (j.err.getD 0x0B09) } st.d).jobsGo
          | _, _ => s)

/-! ## Reductions (R445–R448) -/

/-- The root's destination window is open with W, or with RED for MODE 1 (R445). -/
def State.redWinOk (s : State) (e : RGrp) (len : Nat) : Bool :=
  let w := s.win e.window
  w.open_ && nbit w.perm (if e.apply then 2 else 1) && decide (e.offset + len ≤ w.len64k * 65536)

/-- REDUCE (R445–R448). -/
def execReduce (r i : Nat) (s : State) : Out :=
  .next (s.attempt fun s => match s.opOf r i 5 5 with
    | none => s
    | some d =>
      let g := d.f 1 63 56
      let seq := d.f 1 55 40
      let e := s.rgrp g
      let len := d.f 3 31 0
      if !s.idValid then s.complete r i 3 0 0
      else if reduceReserved (d.f 1 39 36) (d.f 1 35 34) then s.fabMalformed r i
      else if !e.valid || (e.localIn && len % elemSize (d.f 1 35 34) ≠ 0) then s.complete r i 4 0 0
      else if (s.red g).isSome then s
      else
        let limit := match s.fab.advs.find? (fun a => a.1 == g && a.2.1 == seq) with
          | some a => a.2.2
          | none => 0
        let early := s.fab.aborted.contains (g, seq)
        let s := { s with fab.advs := s.fab.advs.filter (fun a => !(a.1 == g && a.2.1 == seq))
                          fab.aborted := s.fab.aborted.filter (· != (g, seq)) }
        let q : Red := ⟨r, i, seq, d.f 1 39 36, d.f 1 35 34, len / 128, s.clock, 0, 0, limit, 0, false, []⟩
        let s := (s.markRan r i).setRed g (some q)
        if early then ((s.setRed g none).raise (recErr 0x0B0E (redLoc g) (s.ringCtx r))).complete r i 0x80 0x0B0E 0
        else if e.role = 2 && !s.redWinOk e len then s.redAbort g 0x0B0B none
        else if e.links.any (fun l => !s.linkUp l) then s.redAbort g 0x0B0E none
        else (s.redAdvance g q).redGo g)

/-- REDUCE_COMPLETE (R447): the last chunk is acknowledged by the parent, or at the root every chunk is performed, and SORUS is
signalled. -/
def execReduceComplete (g : Nat) (s : State) : Out :=
  .next (s.attempt fun s => match s.red g with
    | none => s
    | some q =>
      if !q.fin then s
      else
        let s := s.setRed g none
        match (s.ring q.ring).find q.idx with
        | none => s
        | some st =>
          if (s.rgrp g).role = 2 && st.d.f 1 13 13 = 1 then
            match s.sorNow (16 + s.rget (Fd.RNG_CTL_CP q.ring)) (st.d.f 1 12 0) 1 (s.ringTenant q.ring) with
            | (s, none) => s.complete q.ring q.idx 0 0 0
            | (s, some e) => (s.raise (recErr e (sorLoc (st.d.f 1 12 0)) (s.ringCtx q.ring))).complete q.ring q.idx 0x80 e 0
          else s.complete q.ring q.idx 0 0 0)

/-- REDUCTION_TIMEOUT (R448). -/
def execReductionTimeout (g : Nat) (s : State) : Out :=
  .next (match s.red g with
    | none => s
    | some q =>
      if s.clock - q.startAt ≥ 25000 * max 1 (s.rget Fd.FAB_CTL_RED_TO_MS) then s.redAbort g 0x0B0D none else s)

/-! ## Tables (R437) -/

/-- A link code a table may name on this module as its ports are set (R437). -/
def State.codeOk (s : State) (l : Nat) : Bool := decide (l < 2 * s.part.fports) && (l % 2 == 0 || s.portSplit (l / 2))

def State.routeOk (s : State) (e : W16) : Bool := (!bit e 15 || s.codeOk (fld e 14 10)) && (!bit e 9 || s.codeOk (fld e 8 4))
def State.mcastOk (s : State) (e : W64) : Bool := !bit e 63 || (bitsOf 32 (fld e 31 0)).all s.codeOk
/-- A reduction-group entry is accepted (R437, R446). -/
def State.groupOk (s : State) (e : RGrp) : Bool :=
  !e.valid || (e.children.all s.codeOk && (e.role == 2 || s.codeOk e.parent) &&
    (s.hasFru || !(e.role == 1 || (e.role == 2 && !e.apply))) && decide (e.role < 3))

/-- FAB_TABLE (R437). -/
def execFabTable (r i : Nat) (s : State) : Out :=
  .next (s.attempt fun s => match s.opOf r i 7 4 with
    | none => s
    | some d =>
      let t := d.f 1 17 16
      let first := d.f 1 15 0
      let n := d.f 3 15 0
      let size := if t = 0 then 2 else if t = 1 then 8 else 16
      let top := if t = 0 then 16384 else if t = 1 then 4096 else 256
      if first + n > top then s.fabMalformed r i
      else match s.vread none 0 (s.ringAsid r) (s.ringTenant r) (d.f 2 47 0) (size * n) with
      | (s, .error e) => (s.vFault (.ring r i) e).complete r i 0x80 e.reason 0
      | (s, .ok l) =>
        let ks := List.range n
        match t with
        | 0 =>
          let e k : W16 := BitVec.ofNat 16 (rdLe l (2 * k) 2)
          if !ks.all (fun k => s.routeOk (e k)) then s.complete r i 6 0 0
          else ({ s with fab.routes := ks.foldl (fun m k => spPut (fun _ => 0#16) m (first + k) (e k)) s.fab.routes } : State).complete r i 0 0 0
        | 1 =>
          let e k : W64 := BitVec.ofNat 64 (rdLe l (8 * k) 8)
          if !ks.all (fun k => s.mcastOk (e k)) then s.complete r i 6 0 0
          else ({ s with fab.mcast := ks.foldl (fun m k => spPut (fun _ => 0#64) m (first + k) (e k)) s.fab.mcast } : State).complete r i 0 0 0
        | _ =>
          let e k : RGrp := ⟨BitVec.ofNat 64 (rdLe l (16 * k) 8), BitVec.ofNat 64 (rdLe l (16 * k + 8) 8)⟩
          if !ks.all (fun k => s.groupOk (e k)) then s.complete r i 6 0 0
          else if ks.any (fun k => (s.red (first + k)).isSome && s.rgrp (first + k) != e k) then s.complete r i 7 0 0
          else ({ s with fab.groups := ks.foldl (fun m k => spPut (fun _ => RGrp.init) m (first + k) (e k)) s.fab.groups } : State).complete r i 0 0 0)

/-! ## Spore broadcast to other modules (R641) -/

/-- FW_SPORE (R434, R641): the package goes out once as multicast WRITEs to window 1,023; bitmaps and repair rounds follow. While no device
ID is in force no message goes out, and no receiver's bitmap can be read. -/
def execFwSpore (r i : Nat) (s : State) : Out :=
  .next (s.attempt fun s => match s.opOf r i 7 7 with
    | none => s
    | some d =>
        let n := d.f 5 13 0 + 1
        match s.vread none 0 (s.ringAsid r) (s.ringTenant r) (d.f 4 47 0) (2 * n) with
        | (s, .error e) => (s.vFault (.ring r i) e).complete r i 0x80 e.reason 0
        | (s, .ok ids) =>
          match s.vread none 0 (s.ringAsid r) (s.ringTenant r) (d.f 2 47 0) (d.f 3 31 0) with
          | (s, .error e) => (s.vFault (.ring r i) e).complete r i 0x80 e.reason 0
          | (s, .ok p) =>
            let devs := (List.range n).map (fun k => (rdLe ids (2 * k) 2 % 2 ^ 14, if s.idValid then 4 else 2))
            if !s.idValid then s.sporeEnd ⟨r, i, 0, 0, 0, devs, [], []⟩ d else
            let ks := List.range (pieceCount 0 p.length)
            let w := ks.length * (s.mcUp (d.f 1 11 0)).length
            let s := { s with fab.spores := s.fab.spores ++ [⟨r, i, 0, 0, w, devs, [], []⟩] }
            let s := ks.foldl (fun (s : State) k =>
              s.route ⟨1, d.f 1 11 0, s.devId, s.ringTenant r, true, pieceLen 0 p.length k - 1, 0, 0, 15, 0, 0, winTarget 1023 (256 * k),
                slice p (256 * k) 256⟩ none (.multicast r i)) s
            (s.markRan r i).sporeStep r i)

end Sys2Proof.Machine
end

