-- ==== Sys2Proof/Machine/Security.lean ====
section
/-!
DEFINITION. The security engine (R459–R485): the random source, the module's LMS key, key slots, the owner, SPDM and evidence,
IDE keys and the TDI.
-/

namespace Sys2Proof.Machine

/-! ## The random source (R459) -/

/-- A health test fails: requests are refused, the failure is counted and recorded. -/
def State.rngFail (s : State) : State :=
  ((({ s with sec.passes := 0, sec.retestAt := s.clock } : State).rset Fd.SEC_STAT_RNG_OK 0).radd Fd.SEC_ERR_STAT_RNG_FAILS 1).raise (recNote 0x0C06 (secLoc 0 0xFF 0xFFFF))

/-- RANDOM_SOURCE_FAILURE (R459). -/
def execRandomSourceFailure (s : State) : Out := .next (if s.rngOk then s.rngFail else s)

/-- RANDOM_SOURCE_RETEST (R459): every 1 s; 10 consecutive passes return the source to service. -/
def execRandomSourceRetest (pass : Bool) (s : State) : Out :=
  .next (
    if s.rngOk || s.clock < s.sec.retestAt + 25000000 then s
    else if !pass then s.rngFail
    else if s.sec.passes + 1 ≥ 10 then ({ s with sec.passes := 0 } : State).rset Fd.SEC_STAT_RNG_OK 1
    else { s with sec.passes := s.sec.passes + 1, sec.retestAt := s.clock })

/-! ## The module's LMS key (R468–R470) -/

/-- The security engine serves requests: it runs a verified image and is not being switched (Table 20-4). -/
def State.secUp (s : State) : Bool :=
  s.rget Fd.SEC_STAT_ENGINE_UP == 1 && !s.secSwitching

def State.nextQ (s : State) : Nat := s.sec.nextIdx

/-! ### Measurements (R481) -/

/-- Digests of a class: that of its running image, after the old one's that of the new one while the class is being updated. -/
def State.classDigest (s : State) (c : Nat) : List Byte :=
  let img (o : Option FwImage) : List Byte := sha384 ((o.map FwImage.image).getD [])
  let upd := (s.fwuState == 2 || s.fwuState == 3) && s.fwu.todo.head? == some c && !s.fwu.switched.isEmpty
  leBytes 1 (b2n upd * 128) ++ img (s.storeImg c) ++ (if upd then img (s.freshImg c) else [])

/-- The measurement record: the blocks of Table 14-7 in order. -/
def State.measurements (s : State) : List Byte :=
  [0x01#8] ++ sha384 (Config.fused 3) ++
  [0x02#8] ++ sha384 (leBytes 2 s.part.code ++ (List.range 4).flatMap (fun k => Config.fused (16 + k) ++ Config.fused (32 + k)) ++ leBytes 1 s.revoked) ++
  (List.range 16).flatMap (fun c => leBytes 1 (0x10 + c) ++ s.classDigest c) ++
  [0x20#8] ++ sha384 (s.sec.ownerKey.getD [] ++ leBytes 1 (s.rget Fd.SEC_STAT_POLICY)) ++
  [0x21#8] ++ sha384 (leBytes 4 (s.rword Fd.SEC_TDI_STATE.off).toNat) ++
  [0x22#8] ++ sha384 ((List.range 16).flatMap (fun c => leBytes 4 (s.arc c)))

/-- An HSS signature with index `q` (R468). -/
def signHss (q : Nat) (msg : List Byte) : List Byte :=
  cryptoN algHss 5716 (deviceKey 32 (ascii "fjardecen lms v1")) (leBytes 5 q ++ msg)

/-- The body of the evidence block for a nonce with index `q` (R482; its layout is assumption 33). -/
def State.evidenceBody (s : State) (nonce q : Nat) : List Byte :=
  leBytes 4 0x56454A46 ++ moduleSerial ++ leBytes 2 s.part.code ++ leBytes 32 nonce ++ sha384 s.measurements ++ leBytes 5 q ++ leBytes 8 s.clock

/-- An answer is sent. -/
def State.answered (s : State) (l : List Byte) : State := { s with sec.reply := l }
/-- An SPDM ERROR, by the name of its code (assumption 34). -/
def State.spdmError (s : State) (name : String) : State := s.answered (ascii "ERROR " ++ ascii name)

/-- One index is used: the counter moves on, and at bottom leaf 2^19 the next tree is begun (R468, R470). -/
def State.useIndex (s : State) : State :=
  let q := s.nextQ
  let sec := s.clock / 25000000
  { s with sec.nextIdx := q + 1
           sec.sigSecond := sec
           sec.sigCount := (if s.sec.sigSecond = sec then s.sec.sigCount else 0) + 1
           sec.building := if q % 2 ^ 20 = 2 ^ 19 then some (q / 2 ^ 20 + 1) else s.sec.building }

/-- A reserved index is there to be used (R468, R469). -/
def State.indexReady (s : State) : Bool := !s.sec.lmsDue && decide (s.nextQ < s.sec.lmsNext)
/-- Signatures of the present second have reached 1,000 (R470). -/
def State.signBusy (s : State) : Bool := s.sec.sigSecond == s.clock / 25000000 && decide (s.sec.sigCount ≥ 1000)

/-- Evidence is signed with the alias key and with an index of the HSS key, and sent (R482). -/
def State.signEvidence (s : State) (nonce : Nat) : State :=
  let body := s.evidenceBody nonce s.nextQ
  let r := s.ecdsa s.aliasKey body
  (r.1.answered (body ++ r.2 ++ signHss s.nextQ body)).useIndex

/-- An evidence request: Busy at 1,000 signatures a second, refused when no index remains, waiting while none is reserved (R468,
R470). -/
def State.evidenceGo (s : State) (nonce : Nat) : State :=
  if s.nextQ ≥ 2 ^ 40 then (s.raise (recErr 0x0C09 (secLoc 3 0xFF 0xFFFF) none)).spdmError "LMS exhausted"
  else if s.signBusy then s.spdmError "Busy"
  else if s.indexReady then s.signEvidence nonce
  else { s with sec.evWait := s.sec.evWait ++ [nonce] }

/-- A reservation is due: after a restart, or with fewer than 256 reserved indices left (R468, R469). -/
def State.reserveDue (s : State) : Bool :=
  (s.sec.lmsDue || decide (s.sec.lmsNext < s.nextQ + 256)) && decide (s.sec.lmsNext + 1024 ≤ 2 ^ 40)

/-- LMS_RESERVATION (R468). -/
def execLmsReservation (s : State) : Out :=
  .next (
    if s.secUp && s.sec.derived && !s.sec.lmsBusy && s.reserveDue then
      ({ s with sec.lmsBusy := true } : State).commitFor [⟨0x08, 0, false, [s.sec.lmsNext + 1024], 8⟩] .lms
    else s)

/-- LMS_NEXT as the ledger holds it (R468). -/
def State.lmsCommitted (s : State) : Nat :=
  match s.ldgLive 0x08 0 with
  | some w => w.payload.getD 0 0
  | none => 0

/-- LMS_RESERVATION_DONE (R468): the commit's outcome is taken up; what waited is signed, or refused with the reservation's reason. -/
def execLmsReservationDone (s : State) : Out :=
  .next (match s.sec.lmsDone with
    | none => s
    | some ok =>
      let w := s.sec.evWait
      let s := { s with sec.lmsBusy := false, sec.lmsDone := none, sec.evWait := [] }
      if ok then
        w.foldl (fun s n => s.evidenceGo n) { s with sec.lmsNext := s.lmsCommitted, sec.lmsDue := false }
      else
        let s := s.raise (recNote 0x0C07 (secLoc 3 0xFF 0xFFFF))
        w.foldl (fun s _ => s.spdmError "LMS reservation") s)

/-- LMS_TREE_BUILT (R470). -/
def execLmsTreeBuilt (s : State) : Out :=
  .next (match s.sec.building with
    | some t => { s with sec.building := none, sec.built := t }
    | none => s)

/-- LMS_INDEX_LOW (R470): once a day while fewer than 2^36 indices remain. -/
def execLmsIndexLow (s : State) : Out :=
  .next (
    let again := match s.sec.lowAt with
      | none => true
      | some c => decide (s.clock - c ≥ 2160000000000)
    if s.sec.derived && 2 ^ 40 - s.nextQ < 2 ^ 36 && again then
      ({ s with sec.lowAt := some s.clock } : State).raise (recNote 0x0C08 (secLoc 3 0xFF 0xFFFF))
    else s)

/-- The security engine starts again: SPDM sessions end, and the next index is the committed LMS_NEXT (R469, R630). -/
def State.secRestart (s : State) : State :=
  { s with sec.spdm := [], sec.spdmNight := [], sec.lmsDue := true, sec.nextIdx := s.sec.lmsNext }

/-! ## Key slots (R471–R476) -/

/-- Slots of a tenant; and whether one of them is in use by a session that runs (R474). -/
def State.tenantSlots (s : State) (t : Nat) : List Nat :=
  (s.ses.slots.map (·.1)).filter (fun x => (s.slot x).st != .free && (s.slot x).bound && (s.slot x).tenant == t)
def State.eraseRefused (s : State) (t : Nat) : Option Nat :=
  if (s.tenantSlots t).any (fun x => (s.slot x).st != .parked) then some 1
  else if s.tdiLocked && s.rget Fd.SEC_TDI_BIND_VALID == 1 && s.rget Fd.SEC_TDI_TENANT == t then some 2
  else none
/-- What a tenant's erasure writes to the ledger. -/
def State.eraseWrites (s : State) (t : Nat) : List LWrite :=
  (s.tenantSlots t).map (fun x => ⟨0x0E, x, true, [], 0⟩) ++ (if (s.ldgLive 0x0F t).isSome then [⟨0x0F, t, true, [], 0⟩] else [])
/-- The slots of a tenant become FREE. -/
def State.freeTenant (s : State) (t : Nat) : State :=
  (s.tenantSlots t).foldl (fun s x => s.setSlot x { Slot.init with pend := (s.slot x).pend }) s

/-- TENANT_ERASE (R474): the key is destroyed; the slots become FREE with the commit that removes the parked records. -/
def execTenantErase (r i : Nat) (s : State) : Out :=
  .next (match s.opOf r i 7 5 with
    | none => s
    | some d =>
      let t := d.f 1 9 0
      match s.eraseRefused t with
      | some c => s.complete r i c 0 0
      | none =>
        let ws := s.eraseWrites t
        let n := (s.tenantSlots t).length
        let s := s.setTenantKey t none
        if ws.isEmpty then s.complete r i 0 0 n
        else (({ s with sec.erasing := s.sec.erasing ++ [(r, i, t, n)] } : State).markRan r i).commitFor ws (.erase r i))

/-- The commit of a TENANT_ERASE has completed or was refused (R474, R576). -/
def State.eraseCommitted (s : State) (r i : Nat) (ok : Bool) : State :=
  match s.sec.erasing.find? (fun e => e.1 == r && e.2.1 == i) with
  | none => s
  | some (_, _, t, n) =>
    let s := { s with sec.erasing := s.sec.erasing.filter (fun e => !(e.1 == r && e.2.1 == i)) }
    if ok then (s.freeTenant t).complete r i 0 0 n else s.complete r i 0x80 0x1001 0

/-- KEY_SLOT_UNCORRECTABLE (R476): the key is destroyed and its owner fails. Kinds in the order of Table 14-4; IDE slot 2·stream +
set, link slots 4 a link. -/
def execKeySlotUncorrectable (kind slot : Nat) (s : State) : Out :=
  .next (
    let note (s : State) : State := s.raise (recNote 0x0C0A (secLoc 1 kind slot))
    match kind with
    | 0 =>
      if (s.slot slot).key.isSome then
        ((((note s).seqDone slot 0x80 0x0C0A 0).modSlot slot (fun q => { q with key := none, st := .lost }))).sesIrq
      else s
    | 1 => if (s.tenantKey slot).isSome then (note s).setTenantKey slot none else s
    | 2 => if (s.link (slot / 4)).keyTx.isSome then (note s).linkDown (slot / 4) 0x0B03 else s
    | 3 =>
      let q := s.ideStream (slot / 2)
      if (if slot % 2 = 0 then q.set0 else q.set1).isSome then
        let s := note s
        let n := if slot % 2 = 0 then { q with set0 := none } else { q with set1 := none }
        if q.use = some (slot % 2) then s.ideFail (slot / 2) else s.setIde (slot / 2) n
      else s
    | 4 =>
      if (spGet (fun _ => none) s.sec.spdm slot).isSome then
        { note s with sec.spdm := spDel s.sec.spdm slot, sec.spdmNight := s.sec.spdmNight.filter (· != slot) }
      else s
    | 5 => if s.sec.derived then { note s with sec.derived := false } else s
    | _ => s)

/-! ## The owner (R477–R479) -/

/-- Fields an owner message's signature covers. -/
def ownerSigned (kind counter : Nat) (payload : List Byte) : List Byte := sha384 (leBytes 1 kind ++ leBytes 8 counter ++ payload)
def OwnerMsg.payload (m : OwnerMsg) : List Byte :=
  match m.kind with
  | 0 => m.key
  | 1 => []
  | 2 => leBytes 1 m.policy
  | _ => m.peers.flatMap (fun p => leBytes 8 p.1 ++ p.2)

/-- The message came inside a secured SPDM session, on the Night port or where the policy lets the host carry it (R477). -/
def State.ownerPath (s : State) (k : Nat) : Bool :=
  (spGet (fun _ => none) s.sec.spdm k).isSome && (s.sec.spdmNight.contains k || nbit (s.rget Fd.SEC_STAT_POLICY) 2)
/-- The counter that the next message must exceed: that of the last message accepted. -/
def State.ownerCounter (s : State) : Nat := s.sec.ownerMsgs.foldl (fun a m => max a m.counter) s.sec.ownerCtr
/-- An owner message meets the checks of R477, and for a release those of R474 for every tenant (R478). -/
def State.ownerOk (s : State) (k : Nat) (m : OwnerMsg) (sig : List Byte) : Bool :=
  s.secUp && s.ownerPath k &&
  (match m.kind with
   | 0 => s.sec.ownerKey.isNone && s.sec.ownerMsgs.isEmpty && m.key.length == 96
   | _ => match s.sec.ownerKey with
     | none => false
     | some key => Config.verifies algEcdsa key (ownerSigned m.kind m.counter m.payload) sig && decide (s.ownerCounter < m.counter)) &&
  (m.kind != 1 || (List.range 1024).all (fun t => (s.eraseRefused t).isNone)) && (m.kind != 3 || (decide (m.peers.length ≤ 16384) && m.peers.all (fun p => p.2.length == 96)))

/-- What an accepted message writes: section 0x09 with its counter, and the sections it changes, in one transaction. -/
def State.ownerWrites (s : State) (m : OwnerMsg) : List LWrite :=
  let owner (key : List Byte) (policy : Nat) : LWrite := ⟨0x09, 0, false, [leNat key, m.counter, policy], 112⟩
  let key := s.sec.ownerKey.getD []
  let policy := s.rget Fd.SEC_STAT_POLICY
  match m.kind with
  | 0 => [owner m.key policy]
  | 1 => (List.range 1024).flatMap s.eraseWrites ++ [owner [] 0]
  | 2 => [owner key m.policy]
  | _ =>
    (s.sec.peers.filter (fun p => !m.peers.any (fun q => q.1 == p.1))).map (fun p => ⟨0x0A, p.1, true, [], 0⟩) ++
      m.peers.map (fun p => ⟨0x0A, p.1, false, [leNat p.2], 96⟩) ++ [owner key policy]

/-- An owner message arrives: refused with its record, or committed before it is answered (R477); it waits while the security engine is
being switched (Table 20-4). -/
def State.ownerMsg (s : State) (k : Nat) (m : OwnerMsg) (sig : List Byte) : State :=
  if s.secSwitching then s
  else if s.ownerOk k m sig then
    ({ s with sec.ownerMsgs := s.sec.ownerMsgs ++ [m], sec.releasing := s.sec.releasing || m.kind == 1 } : State).commitFor (s.ownerWrites m) .owner
  else ((s.radd Fd.SEC_ERR_STAT_REFUSED 1).raise (recErr 0x0C0B (secLoc 5 0xFF 0xFFFF) none)).answered (ascii "owner message refused")

/-- The effect of a committed owner message (R477–R479). -/
def State.ownerApply (s : State) (m : OwnerMsg) : State :=
  let s := { s with sec.ownerCtr := m.counter }
  match m.kind with
  | 0 => ({ s with sec.ownerKey := some m.key } : State).rset Fd.SEC_STAT_OWNED 1
  | 1 =>
    let s := (List.range 1024).foldl (fun s t => (s.setTenantKey t none).freeTenant t) s
    (({ s with sec.ownerKey := none, sec.releasing := false } : State).rset Fd.SEC_STAT_OWNED 0).rset Fd.SEC_STAT_POLICY 0
  | 2 => s.rset Fd.SEC_STAT_POLICY m.policy
  | _ => { s with sec.peers := m.peers }

/-- The commit of the oldest owner message has completed or was refused. -/
def State.ownerCommitted (s : State) (ok : Bool) : State :=
  match s.sec.ownerMsgs with
  | [] => s
  | m :: l =>
    let s := { s with sec.ownerMsgs := l }
    if ok then (s.ownerApply m).answered (ascii "owner message accepted")
    else ({ s with sec.releasing := s.sec.releasing && m.kind != 1 } : State).answered (ascii "owner message refused")

/-- OWNER_CLAIM (R477): inside SPDM session `k`. -/
def execOwnerClaim (k counter : Nat) (key : List Byte) (s : State) : Out := .next (s.ownerMsg k ⟨0, counter, key, 0, []⟩ [])
/-- OWNER_RELEASE (R478). -/
def execOwnerRelease (k counter : Nat) (sig : List Byte) (s : State) : Out := .next (s.ownerMsg k ⟨1, counter, [], 0, []⟩ sig)
/-- POLICY_SET (R478, Table 14-5). -/
def execPolicySet (k counter policy : Nat) (sig : List Byte) (s : State) : Out := .next (s.ownerMsg k ⟨2, counter, [], policy % 16, []⟩ sig)
/-- PEER_TABLE_LOAD (R478, R479). -/
def execPeerTableLoad (k counter : Nat) (peers : List (Nat × List Byte)) (sig : List Byte) (s : State) : Out :=
  .next (s.ownerMsg k ⟨3, counter, [], 0, peers⟩ sig)

/-! ## SPDM and evidence (R480–R482) -/

def State.spdmKey (s : State) (slot : Nat) : List Byte := if slot = 0 then devIdKey else s.aliasKey

/-- A secured session is opened: four at once, and a random ephemeral key (R459, R480). -/
def State.keyExchange (s : State) (night : Bool) (pub : List Byte) : State :=
  match (List.range 4).find? (fun k => (spGet (fun _ => none) s.sec.spdm k).isNone) with
  | none => s.spdmError "SessionLimitExceeded"
  | some k =>
    match s.random 6 with
    | none => s.spdmError "Unspecified"
    | some (s, e) =>
      let secret := cryptoN algHkdf 48 (sharedSecret e pub) s.measurements
      let (s, sig) := s.ecdsa devIdKey (publicKey e ++ pub)
      ({ s with sec.spdm := spPut (fun _ => none) s.sec.spdm k (some secret)
                sec.spdmNight := if night then insNat s.sec.spdmNight k else s.sec.spdmNight.filter (· != k) } : State).answered
        (leBytes 1 k ++ publicKey e ++ sig)

/-- SPDM_REQUEST (R480): a request over the Night port needs its link (R604). -/
def execSpdmRequest (night : Bool) (q : SpdmReq) (s : State) : Out :=
  .next (
    if !s.secUp || (night && s.rget Fd.HUB_CONN_STAT_NIGHT_UP = 0) then s
    else
      let open_ (k : Nat) : Bool := (spGet (fun _ => none) s.sec.spdm k).isSome
      match q with
      | .getVersion => s.answered [0x12#8, 0x13#8]
      | .getCertificate 0 => s.answered (Config.fused 4)
      | .getCertificate 1 => s.answered s.sec.aliasCert
      | .getCertificate _ => s.spdmError "InvalidRequest"
      | .challenge slot nonce =>
        if slot < 2 then
          let r := s.ecdsa (s.spdmKey slot) (s.measurements ++ nonce)
          r.1.answered r.2
        else s.spdmError "InvalidRequest"
      | .getMeasurements nonce =>
        let r := s.ecdsa s.aliasKey (s.measurements ++ nonce)
        r.1.answered (s.measurements ++ r.2)
      | .keyExchange pub => s.keyExchange night pub
      | .heartbeat k => if open_ k then s.answered (ascii "HEARTBEAT_ACK") else s.spdmError "InvalidSession"
      | .keyUpdate k =>
        match spGet (fun _ => none) s.sec.spdm k with
        | some key =>
          ({ s with sec.spdm := spPut (fun _ => none) s.sec.spdm k (some (cryptoN algHkdf 48 key (ascii "traffic upd"))) } : State).answered
            (ascii "KEY_UPDATE_ACK")
        | none => s.spdmError "InvalidSession"
      | .endSession k =>
        if open_ k then
          ({ s with sec.spdm := spDel s.sec.spdm k, sec.spdmNight := s.sec.spdmNight.filter (· != k) } : State).answered (ascii "END_SESSION_ACK")
        else s.spdmError "InvalidSession"
      | .unsupported => s.spdmError "UnsupportedRequest")

/-- GET_EVIDENCE (R482, R468, R470; Table 14-5 bit 3). -/
def execGetEvidence (night : Bool) (nonce : Nat) (s : State) : Out :=
  .next (
    if !s.secUp || (night && s.rget Fd.HUB_CONN_STAT_NIGHT_UP = 0) then s
    else if nbit (s.rget Fd.SEC_STAT_POLICY) 3 && !night then s.spdmError "RequestRefused"
    else s.evidenceGo nonce)

/-! ## IDE keys and TDISP (R483–R485) -/

/-- KEY_PROG (R483): inside a secured SPDM session, for a stream or a key set that is not in use. -/
def execKeyProg (k stream set : Nat) (key : List Byte) (s : State) : Out :=
  .next (
    let q := s.ideStream stream
    if s.secUp && (spGet (fun _ => none) s.sec.spdm k).isSome && stream < 6 && set < 2 && q.use ≠ some set then
      s.setIde stream (if set = 0 then { q with set0 := some key } else { q with set1 := some key })
    else s)

/-- K_SET_GO (R483): the key set is applied at the next IDE boundary, and the stream is secure. -/
def execKSetGo (stream set : Nat) (s : State) : Out :=
  .next (
    let q := s.ideStream stream
    if stream < 6 && set < 2 && (if set = 0 then q.set0 else q.set1).isSome then
      ({ s.setIde stream { q with use := some set } with hpt.ideBad := s.hpt.ideBad.filter (· != stream) } : State).ideStat
    else s)

/-- LOCK_INTERFACE_REQUEST (R484). -/
def execLockInterfaceRequest (s : State) : Out :=
  .next (
    let cm := s.hpt.hdm0.committed || s.hpt.hdm1.committed
    if s.tdi == 0 && s.rget Fd.SEC_TDI_BIND_VALID == 1 && (List.range 5).any s.ideSecure && (!cm || s.ideSecure 5) then
      (s.setTdi 1).answered (ascii "LOCK_INTERFACE_RESPONSE")
    else s.answered (ascii "TDISP_ERROR"))

/-- START_INTERFACE_REQUEST (R484): CONFIG_LOCKED to RUN. -/
def execStartInterfaceRequest (s : State) : Out :=
  .next (if s.tdi = 1 then (s.setTdi 2).answered (ascii "START_INTERFACE_RESPONSE") else s.answered (ascii "TDISP_ERROR"))

/-- STOP_INTERFACE_REQUEST (R485): the TDI returns to CONFIG_UNLOCKED; halted rings stay halted. -/
def execStopInterfaceRequest (s : State) : Out := .next ((s.setTdi 0).answered (ascii "STOP_INTERFACE_RESPONSE"))

end Sys2Proof.Machine
end

