-- ==== Sys2Proof/Machine/Update.lean ====
section
/-!
DEFINITION. The commands of a firmware update (R628–R638): start, the switch of one endpoint at a time, its failure, abandoning, and
the path over PLDM.
-/

namespace Sys2Proof.Machine

/-! ## Suspension and resumption (R633, R634) -/

/-- Suspend the update when the switch in progress has ended and a condition of codes 2 to 5 holds (R633). -/
def State.updatePause (s : State) : State :=
  if s.fwuState = 2 && s.updateHold.isSome then (s.setFwuState 3).raise (recNote 0x1106 (fwuLoc (s.rget Fd.FWU_STAT_CLASS))) else s

/-- An interrupted update may resume: the staged slots verify, the order check passes and nothing of Table 20-3 forbids it (R634). -/
def State.resumeAllowed (s : State) : Bool :=
  let l := s.fwu.todo.filterMap (fun c => (s.freshImg c).map (fun q => (c, q)))
  decide (l.length = s.fwu.todo.length) && ((s.setFwuState 0).updateRefusal false (some l)).isNone

/-- A suspended or interrupted update resumes (R633, R634). -/
def State.updateResume (s : State) : State :=
  let note (s : State) : State := s.raise (recNote 0x1107 (fwuLoc (s.rget Fd.FWU_STAT_CLASS)))
  if s.fwuState = 3 && s.updateHold.isNone then note (s.setFwuState 2)
  else if s.fwuState = 5 && s.resumeAllowed then (note (s.setFwuState 2)).updateNext
  else s

/-! ## START (R636) -/

/-- START (R636): host software has written `pages` to host memory; the package is read under R311. -/
def execStart (pages : List (Nat × List Byte)) (s : State) : Out :=
  .next (
    if !(s.atNoon || s.twilight) || !s.hostUp then s
    else
      let s := pages.foldl (fun (s : State) p => s.hostStore p.1 p.2) s
      match s.hostRead (s.rget Fd.FWU_PKG_BASE_BASE * 4096) (s.rget Fd.FWU_PKG_LEN_LEN) with
      | .ok p => s.updateStart true ((packageComps p).map (fun l => l.map (fun c => (c.cls, c.img))))
      | .error e => ((s.countHostFail e).hostFault e none).updateStart true none)

/-! ## Switching (R629–R632) -/

/-- The endpoint is at its switch point (Table 20-4): a feeder sequencer between array commands, a steward with no restart in its tower. -/
def State.switchPoint (s : State) (c i : Nat) : Bool :=
  if c = 7 then (s.arr (i / 8) (i % 8)).queue.all (fun x => x.phase == 0)
  else c != 2 || (List.range 4).all (fun q => (spGet (fun _ => none) s.boot.restarting (4 * i + q)).isNone && !(s.fr (4 * i + q)).inReset) &&
    s.rget (Fd.TWR_STAT_STATE i) != 6

/-- ENDPOINT_SWITCH (R629): the next endpoint of the class stops at its switch point; a class with none left is committed. -/
def execEndpointSwitch (s : State) : Out :=
  .next (match s.fwu.todo with
    | [] => s
    | c :: _ =>
      if s.fwuState ≠ 2 || s.fwu.cur.isSome || s.fwu.committing then s
      else match s.nextEndpoint c with
        | some i =>
          if s.switchPoint c i then ({ s with fwu.cur := some i, fwu.curAt := s.clock } : State).rset Fd.FWU_STAT_ENDPOINT i else s
        | none => s.classCommit c)

/-- What the switch of an endpoint does beside its image: the security engine restarts (R630), and the pause of a DMA sequencer does not
count in the time of a drain (Table 20-4). -/
def State.switchEffect (s : State) (c i : Nat) : State :=
  if c = 0 then s.secRestart.issueAlias
  else if c = 6 then s.modFr i (fun q => { q with drainAt := q.drainAt + (s.clock - max q.drainAt s.fwu.curAt) })
  else s

/-- ENDPOINT_READY (R628, R629): the endpoint runs the new image; the last of the class commits the class. A fence deferred by the
switch takes effect, and a hold suspends the update (R631, R633). -/
def execEndpointReady (s : State) : Out :=
  .next (match s.fwu.todo, s.fwu.cur with
    | c :: _, some i =>
      let s := ({ s with fwu.cur := none, fwu.switched := insNat s.fwu.switched i } : State).switchEffect c i
      let s := s.fencesDue
      let s := if (s.nextEndpoint c).isNone then s.classCommit c else s
      s.updatePause
    | _, _ => s)

/-- SWITCH_FAILED (R632): the endpoints of the class run the old image again, and those of `oldFails` that fail on it too are fenced. -/
def execSwitchFailed (oldFails : List Nat) (s : State) : Out :=
  .next (match s.fwu.todo, s.fwu.cur with
    | c :: _, some i =>
      let back := insNat s.fwu.switched i
      let s := ({ s with fwu.cur := none } : State).switchEffect c i
      let s := s.fencesDue.classFail c (endpointLoc c i)
      (back.reverse.filter oldFails.contains).foldl (fun (s : State) j =>
        (s.endpointFence c j).raise (recNote 0x1105 (endpointLoc c j))) s
    | _, _ => s)

/-- ABANDON (R634): the uncommitted classes are discarded; without effect but in INTERRUPTED, SUSPENDED or FAILED. -/
def execAbandon (s : State) : Out :=
  .next (
    if s.fwuState = 5 || s.fwuState = 3 || s.fwuState = 4 then
      let c := s.rget Fd.FWU_STAT_CLASS
      let left := if s.fwu.committing then s.fwu.todo.drop 1 else s.fwu.todo
      let s := s.commit (left.map (fun c => bankRec c (s.bankOf c) false))
      let s := { s with fwu.todo := if s.fwu.committing then s.fwu.todo.take 1 else [], fwu.switched := [], fwu.cur := none
                        fwu.fresh := s.fwu.fresh.filter (fun p => s.fwu.committing && s.fwu.todo.head? == some p.1) }
      (s.setFwuState 0).raise (recNote 0x1108 (fwuLoc c))
    else s)

/-! ## PLDM (R637) -/

/-- The image in a slot passes R465, for its own class. -/
def State.slotPasses (s : State) (bank c : Nat) : Bool :=
  match s.slotImg bank c with
  | some q => manClass q.manifest == c && (s.manCheck q.manifest q.image).isNone
  | none => false
/-- The recovery loader writes an accepted image into the bank that holds no passing image of its class (R558). -/
def State.loaderStage (s : State) (c : Nat) (q : FwImage) : State :=
  match (if manClass q.manifest = c then s.manCheck q.manifest q.image else some 0x0C01) with
  | some e => s.manRefused c e
  | none => s.setSlotImg (if s.slotPasses (s.bankOf c) c then 1 - s.bankOf c else s.bankOf c) c (some q)

/-- PLDM_TRANSFER (R637): the component of a class is staged into the inactive bank; a component of a running update is not replaced.
It needs the Night port's link. -/
def execPldmTransfer (c : Nat) (manifest image : List Byte) (s : State) : Out :=
  .next (
    if s.rget Fd.HUB_CONN_STAT_NIGHT_UP = 0 then s
    else if c < 8 && s.rget Fd.BOOT_STAT_LOADER = 1 then s.loaderStage c ⟨manifest, image⟩
    else if c < 8 && (s.fwuState = 0 || s.fwuState = 4) then
      { s.setSlotImg (1 - s.bankOf c) c (some ⟨manifest, image⟩) with fwu.pldm := insNat s.fwu.pldm c }
    else s)

/-- ACTIVATE_FIRMWARE (R637): switching starts, or the request is answered with UNABLE_TO_INITIATE_UPDATE. -/
def execActivateFirmware (s : State) : Out :=
  .next (
    let l := s.fwu.pldm.filterMap (fun c => (s.slotImg (1 - s.bankOf c) c).map (fun q => (c, q)))
    if l.isEmpty || s.rget Fd.HUB_CONN_STAT_NIGHT_UP = 0 then s
    else if (s.updateRefusal false (some l)).isSome then (s.updateStart false (some l)).answered (ascii "UNABLE_TO_INITIATE_UPDATE")
    else ({ s with fwu.pldm := [] } : State).updateStart false (some l) |>.answered (ascii "SUCCESS"))

end Sys2Proof.Machine
end

