-- ==== Sys2Proof/Machine/Power.lean ====
section
/-!
DEFINITION. Input supplies, conversion, regulators, zones and clocks between rounds (R489–R513).
-/

namespace Sys2Proof.Machine

/-! ## Inputs (R489–R495) -/

/-- Input protection of a role, as a site (R516). -/
def inputLoc (i : Nat) : Loc := ⟨7, 0, 0, i, 0xFF, 0xFF, 0xFFFF⟩
def inputDieLoc : Loc := ⟨7, 0, 0, 0x3F, 0xFF, 0xFF, 0xFFFF⟩
/-- States of an input: 0 absent, 1 qualifying, 2 standby, 3 carrying, 4 reversed, 5 isolated, 6 out of service, 7 disqualified. -/
def State.inSt (s : State) (i : Nat) : Nat := s.rget (Fd.PWR_IN_STAT_STATE i)
def State.setIn (s : State) (i v : Nat) : State := s.rset (Fd.PWR_IN_STAT_STATE i) v
def State.qualified (s : State) (i : Nat) : Bool := s.inSt i == 2 || s.inSt i == 3
/-- The Night domain runs (R20, R490, R498). -/
def State.nightOn (s : State) : Bool := (s.qualified 0 || s.qualified 1) && !(s.pwr.phases.contains (154 * 32) && s.pwr.phases.contains (154 * 32 + 1))

/-- The load moves to an input, with its record (R491). -/
def State.carry (s : State) (i : Nat) : State := (s.setIn i 3).raise (recNote 0x0D02 (inputLoc i))

/-- An input is no longer qualified: its flags clear, and the other input takes the load if it stands by (R490, R491, R495). -/
def State.unqualify (s : State) (i v : Nat) : State :=
  let was := s.inSt i
  let s := (((s.setIn i v).rset (Fd.PWR_IN_STAT_SUP_FLAG i) 0).rset (Fd.PWR_IN_STAT_RET_FLAG i) 0).rset (Fd.PWR_IN_STAT_SUP_OK i) 8 |>.rset
    (Fd.PWR_IN_STAT_RET_OK i) 8
  let s := { s with pwr.qualAt := spPut (fun _ => none) s.pwr.qualAt i none
                    pwr.offAt := spPut (fun _ => none) s.pwr.offAt i (some s.clock)
                    pwr.contactRuns := s.pwr.contactRuns.filter (fun p => p.1 / 16 != s.rget (Fd.PWR_IN_STAT_PHYS i)) }
  if was = 3 && s.inSt (1 - i) == 2 then s.carry (1 - i) else s

/-- A contact set reads a code other than 0b11 (Table 21-2). -/
def State.setPresent (s : State) (set : Nat) : Bool :=
  (if set = 0 then s.rget Fd.HUB_CONN_STAT_PRES0 else s.rget Fd.HUB_CONN_STAT_PRES1) != 3
/-- The ready-to-remove indicator: lit in phase 6, and while the module holds with the latch open before Predawn (R657). -/
def State.readyShow (s : State) : State :=
  s.rset Fd.HUB_CONN_STAT_READY (b2n (s.rget Fd.HUB_CONN_STAT_RM_PHASE == 6 ||
    (s.rget Fd.HUB_CONN_STAT_LATCH_OPEN == 1 && !s.boot.predawn && s.rget Fd.HUB_CONN_STAT_RM_PHASE == 0 && s.nightOn)))

/-- An input that was disqualified has had the time to qualify again: 10 ms in range, and 1 s more after a short (R490, R494). -/
def State.qualDue (s : State) (i : Nat) : Bool :=
  match spGet (fun _ => none) s.pwr.offAt i with
  | some c => decide (c + (if s.inSt i = 5 then 25250000 else 250000) ≤ s.clock)
  | none => true
/-- INPUT_QUALIFIED (R490): an input in range for 10 ms stands by, or carries the load where no other does. A reversed input is
recorded once the Night domain is up (R494). -/
def execInputQualified (i : Nat) (s : State) : Out :=
  .next (
    if i < 2 && s.qualDue i && s.setPresent (s.rget (Fd.PWR_IN_STAT_PHYS i)) && (s.inSt i == 1 || s.inSt i == 7 || s.inSt i == 5 || s.inSt i == 4 || s.inSt i == 0) then
      let s := { s with pwr.qualAt := spPut (fun _ => none) s.pwr.qualAt i (some s.clock), con.shutdown := false }
      let s := ((s.rset (Fd.PWR_IN_STAT_SUP_OK i) 8).rset (Fd.PWR_IN_STAT_RET_OK i) 8).setIn i (if s.inSt (1 - i) == 3 then 2 else 3)
      (if s.inSt (1 - i) = 4 && s.inSt i = 3 then s.raise (recNote 0x0D03 (inputLoc (1 - i))) else s).readyShow
    else s)

/-- INPUT_DISQUALIFIED (R490). -/
def execInputDisqualified (i : Nat) (s : State) : Out :=
  .next (
    if i < 2 then
      if s.qualified i then (s.raise (recNote 0x0D01 (inputLoc i))).unqualify i 7
      else if s.inSt i = 6 then s.unqualify i 7
      else s
    else s)

/-- RETURN_TO_MAIN (R491): with RETURN = 1 and main qualified for 1 s without a break. -/
def execReturnToMain (s : State) : Out :=
  .next (
    let long := match spGet (fun _ => none) s.pwr.qualAt 0 with
      | some c => decide (s.clock - c ≥ 25000000)
      | none => false
    if s.rget Fd.PWR_CTL_RETURN = 1 && s.inSt 0 = 2 && s.inSt 1 = 3 && long then (s.setIn 1 2).carry 0 else s)

/-- REVERSE_POLARITY (R494): the input is blocked. With no input qualified nothing is up to record it. -/
def execReversePolarity (i : Nat) (s : State) : Out :=
  .next (
    if i < 2 && s.inSt i ≠ 4 then
      let s := s.unqualify i 4
      if s.nightOn then s.raise (recNote 0x0D03 (inputLoc i)) else s
    else s)

/-- INPUT_SHORT (R494): the input is isolated. -/
def execInputShort (i : Nat) (s : State) : Out :=
  .next (if i < 2 && s.qualified i then (s.raise (recNote 0x0D05 (inputLoc i))).unqualify i 5 else s)

/-- Commits not begun are discarded; a retained record among them is lost from its block (R577). -/
def State.discard (s : State) (l : List LReq) : State :=
  let ks := (l.flatMap LReq.ws).filterMap (fun w => if w.section_ = 0x10 then some w.key else none)
  { s with ldg.queue := []
           flt.blocks := spModAll (fun _ => RetBlock.init) s.flt.blocks ks (fun _ b => { b with recs := b.recs.drop 1 }) }

/-- No removal is in progress: the registers that show one clear (R656, R662). -/
def State.removalOver (s : State) : State :=
  (({ s with con.rmAt := none, con.parkList := [], con.parkNext := 0 } : State).rset Fd.HUB_CONN_STAT_REMOVE 0).rset Fd.HUB_CONN_STAT_READY 0
    |>.rset Fd.HUB_CONN_STAT_RM_PHASE 0

/-- The wear counters as last committed (Table 18-4; layout: assumption 131). -/
def State.wearCommitted (s : State) : Sp Nat :=
  let words (k : Nat) : List Nat := ((s.ldgLive 0x06 k).map LWrite.payload).getD []
  let put (m : Sp Nat) (k hours : Nat) : Sp Nat := spPut (fun _ => 0) m k (hours * 3600000)
  (List.range 12).foldl (fun m z => (List.range 4).foldl (fun m b => put m (16 + 4 * z + b) ((words (16 + z)).getD b 0)) m)
    (put [] 0 ((words 1).getD 0 0))
/-- Everything is off: repairs not committed are forgotten with the rest (R576, R581), and the start count is the committed one
(R666). -/
def State.nightOff (s : State) : State :=
  let s := s.coldState.rset Fd.PIL_MAP_CTL_LOCK 0
  { s with con.shutdown := true, thl := { ThlState.init with fuseRows := s.thl.fuseRows, fuseCols := s.thl.fuseCols }, pil := .init, pnw := .init, pwr := { s.pwr with phases := [], cells := [] }
           flt.early := [], flt.earlyDrop := 0
           ldg := { s.ldg with queue := [], lasers := [], sparesUsed := [], wornDue := []
                               wear := s.wearCommitted
                               starts := match s.ldgLive 0x06 0 with
                                 | some w => w.payload.getD 0 0
                                 | none => s.ldg.starts } }

/-- Only the Night domain stays up: every other zone, the hub and its links are off; commits accepted go on, and zones latched off stay so
(R23, R24, R655). -/
def State.onlyNight (s : State) : State :=
  s.zones.foldl (fun (t : State) z => s.keepLatch t z) { s.coldState with con.shutdown := true, pwr.branches := s.pwr.branches }

/-- A fence at module level leaves only the Night domain up, and stays latched until both supplies are lost (R23, R496, R502, R532). -/
def State.fenceModule (s : State) (reason : Nat) (loc : Loc) (wid : Bool) : State :=
  ((s.moduleFence reason loc wid).onlyNight).addFence .modul

/-- The Night domain loses its supply too, once the input capacitance is spent: its registers but those that read the latch and the
contacts are as at reset. -/
def State.nightDark (s : State) : State :=
  let s := { s.removalOver with con.lowLanes := [], con.frame := [], con.eid := 0, flt.early := [], flt.earlyDrop := 0 }
  let latch := s.rget Fd.HUB_CONN_STAT_LATCH_OPEN
  let p0 := s.rget Fd.HUB_CONN_STAT_PRES0
  let p1 := s.rget Fd.HUB_CONN_STAT_PRES1
  (((s.setRword 0x10000 (resetWord s.part.dramGib 0x10000)).rset Fd.HUB_CONN_STAT_LATCH_OPEN latch).rset Fd.HUB_CONN_STAT_PRES0 p0).rset
    Fd.HUB_CONN_STAT_PRES1 p1

/-- The ledger finishes what it had begun of the commit at its head, `begun` records, and the queued commits are discarded; the record
raised with it is committed with it; then everything is off (R493, R577, R658). -/
def State.shutDown (s : State) (begun reason : Nat) (loc : Loc) : State :=
  let s := match s.ldg.queue with
    | r :: l => (s.ldgAppend r.ws begun).discard (if begun < r.ws.length then r :: l else l)
    | [] => s
  let s := s.raise (recNote reason loc)
  let s := match s.flt.log with
    | r :: _ => if r.reason = reason && (r.held || !r.retained) then s.retainNow r else s
    | [] => s
  let s := s.ldg.queue.foldl (fun (s : State) r => s.ldgAppend r.ws r.ws.length) s
  s.nightOff.nightDark

/-- BOTH_SUPPLIES_LOST (R493, R577): everything but the Night domain is switched off; the ledger finishes the record in progress,
`begun` being the records of the commit at the head that have been begun, and writes the record of the loss; queued commits are
discarded. -/
def execBothSuppliesLost (begun : Nat) (s : State) : Out :=
  .next (
    if s.qualified 0 || s.qualified 1 || (s.inSt 0 = 0 && s.inSt 1 = 0) then s
    else if s.con.shutdown then s.nightDark
    else s.shutDown begun 0x0D08 inputDieLoc)

/-! ## Zones (R24, R497, R506, R531) -/

/-- A zone is switched off and latched, and its contents are lost. -/
def State.zoneOff (s : State) (z : Nat) : State :=
  let s := s.setZone z 8
  if z < 4 then s.towerDark z else s.pileDark (z - 4)
/-- A pile's zone is shut down: PIL_STAT_p shows it (R531). -/
def State.pileShut (s : State) (p : Nat) : State := ((s.zoneOff (p + 4)).rset (Fd.PIL_STAT_SHUTDOWN p) 1).markLost

/-- ZONE_LATCHED_SWITCH_ON (R506): the switch-off is stable; a pending switch-on starts if the zone may still run. -/
def execZoneLatchedSwitchOn (z : Nat) (s : State) : Out :=
  .next (
    if s.zoneThere z && nbit (s.zone z) 2 then
      if s.zoneLatched z then s.setZone z 8 else s.setZone z 2
    else s)

/-! ## Conversion and branches (R496–R498) -/

/-- CELL_SHED (R496). -/
def execCellShed (c : Nat) (s : State) : Out :=
  .next (
    if c < 8 && !s.pwr.cells.contains c then
      let s := { s with pwr.cells := insNat s.pwr.cells c }
      let ok := 8 - s.pwr.cells.length
      let loc : Loc := ⟨7, 0, 0, 2, c, 0xFF, 0xFFFF⟩
      let s := (((s.rset Fd.PWR_CAP_STAT_CELLS_OK ok).raise (recDegr 0x0D09 loc)).commit [⟨4, 0x10000 + c, false, [1], 8⟩])
      let s := if ok ≤ 7 then s.zeroReserve 8 0 inputDieLoc else s
      if ok < 2 then s.fenceModule 0x0D0A inputDieLoc false else s
    else s)

/-- BRANCH_SHORT (R497): 0–3 towers, 4–11 piles, 12 and 13 hub branches A and B. -/
def execBranchShort (b : Nat) (s : State) : Out :=
  .next (
    let loc : Loc := ⟨7, 0, 0, 3, b, 0xFF, 0xFFFF⟩
    if b < 14 && !s.pwr.branches.contains b then
      if b < 12 then
        if s.zoneThere b then
          let s := { s with pwr.branches := insNat s.pwr.branches b }
          if b < 4 then ((s.fenceTower b 0x0D0B loc false).zoneOff b).rset (Fd.TWR_STAT_STATE b) 7
          else (s.fencePile (b - 4) 0x0D0B loc false).pileShut (b - 4)
        else s
      else ({ s with pwr.branches := insNat s.pwr.branches b } : State).raise (recNote 0x0D0B loc)
    else s)

/-! ## Regulator phases (R499–R502) -/

/-- A regulator group by key: tower t group g at 24·t + g, pile p group g at 96 + 4·p + g, hub group g at 128 + g, light engine e at
136 + e, the Night converter at 154. -/
def State.failedPhases (s : State) (k : Nat) : Nat := (s.pwr.phases.filter (fun p => p / 32 == k)).length
def groupPhases (k : Nat) : Nat := if k < 136 then 4 else if k < 154 then 8 else 2
/-- Location of a phase (R516). -/
def phaseLoc (k ph : Nat) : Loc :=
  if k < 96 then ⟨1, k / 24, 0xF, k % 24, ph, 0xFF, 0xFFFF⟩
  else if k < 128 then ⟨2, (k - 96) / 4, 0, 0x3F, 0x30 + (k - 96) % 4, ph, 0xFFFF⟩
  else if k < 136 then ⟨3, 0, 0xF, k - 128, ph, 0xFF, 0xFFFF⟩
  else if k < 152 then ⟨4, k - 136, 1, 0x3F, 2, ph, 0xFFFF⟩
  else if k < 154 then ⟨5, k - 152, 1, 0x3F, 2, ph, 0xFFFF⟩
  else locKeep 0x3F 0xFF ph 0xFFFF
def State.groupThere (s : State) (k : Nat) : Bool :=
  if k < 96 then decide (k / 24 < s.towers)
  else if k < 128 then decide ((k - 96) / 4 < s.piles)
  else if k < 136 then true
  else if k < 152 then decide (k - 136 < s.part.fports)
  else decide (k < 155)

/-- A light engine without power or too hot: its port is fenced, its lasers are off and its links go down (R502, R533). -/
def State.engineDark (s : State) (e reason : Nat) (loc : Loc) : State :=
  let unit : FUnit := if e < 16 then portFence e 0xFF else if e = 16 then hostPortFence else .port (lightCtlLoc 17)
  let s := (s.raise ⟨reason, loc, 6, unit, none, false, false, false, false⟩).addFence unit
  if e < 16 then (s.portLinks e).foldl (fun (s : State) l => s.linkDown l 0x0B01) s
  else if e = 16 then s.hostLinkDown
  else s.rset Fd.HUB_CONN_STAT_NIGHT_UP 0

/-- A quadrant of a Thallus die loses its supply: its bank groups are unavailable and their contents lost (R501). -/
def State.quadrantDark (s : State) (t die q : Nat) : State :=
  let keys := (List.range 32).map (bgKey t die q)
  let gone (o : Nat) : Bool := thlTower o == t && thlDie o == die && thlQuad o == q
  let s := if die = 1 then s.neitherMode t q else s
  { s with thl.unavail := keys.foldl insNat s.thl.unavail
           mem.thl := s.mem.thl.filter (fun c => !gone c.1)
           mem.thlBad := s.mem.thlBad.filter (fun c => !gone c.1) }
/-- The 8 channels whose slices sit at a quadrant router (R220, R501). -/
def State.quadrantChannels (s : State) (t q : Nat) (loc : Loc) (wid : Bool) : State :=
  (List.range 8).foldl (fun (s : State) j => s.fenceChannel (32 * t + 8 * q + j) 0x0D0E loc wid) s

/-- A dark group of a tower (Table 15-4, R501). -/
def State.towerGroupDark (s : State) (t g : Nat) (loc : Loc) : State :=
  if g < 10 then
    let rail := g / 5
    let s := { s.raise (recDegr 0x0D0E loc) with pwr.dark := insNat s.pwr.dark (t * 15 + rail) }
    (List.range 2).foldl (fun (s : State) j => s.fenceFrond (4 * t + 2 * rail + j) 0x0D0F ⟨1, t, 0xF, 0x20 + rail, 0xFF, 0xFF, 0xFFFF⟩ true) s
  else if g < 14 then s.fenceFrond (4 * t + (g - 10)) 0x0D0E loc false
  else if g < 18 then
    let q := g - 14
    let s := (s.fenceFrond (4 * t + q) 0x0D0E loc false).quadrantChannels t q loc true
    ((s.quadrantDark t 0 q).quadrantDark t 1 q).distBump
  else if g < 22 then
    let q := g - 18
    ((s.quadrantChannels t q loc false).quadrantDark t 1 q).distBump
  else if decide (s.failedPhases (24 * t + 22) ≥ 3) && decide (s.failedPhases (24 * t + 23) ≥ 3) then s.fenceTower t 0x0D0E loc false
  else s.raise (recDegr 0x0D0E loc)

/-- The step of Table 15-4 or Table 15-5 that a group reaches with its `n`-th failed phase. With its second the Night converter is lost: the
Night port is down and commits not begun are lost; the rest of the module goes on (R22; assumption 120). -/
def State.phaseStep (s : State) (k n : Nat) (loc : Loc) : State :=
  if k < 96 then
    let t := k / 24
    let g := k % 24
    if n = 1 then (s.raise (recDegr 0x0D0C loc)).zeroReserve 7 k loc
    else if n = 2 then (s.rbit (Fd.PWR_PHASE_REDUCED t) g true).raise (recDegr 0x0D0D loc)
    else if n = 3 then (s.rbit (Fd.PWR_PHASE_DARK t) g true).towerGroupDark t g loc
    else s
  else if k < 128 then
    let p := (k - 96) / 4
    if n = 1 then (s.raise (recDegr 0x0D0C loc)).zeroReserve 7 k loc
    else if n = 2 then ({ s with pwr.pileHalf := insNat s.pwr.pileHalf p } : State).raise (recDegr 0x0D0D loc)
    else if n = 3 then (s.fencePile p 0x0D0E loc false).pileDark p
    else s
  else if k < 136 then
    let good := ((List.range 8).filter (fun g => decide (s.failedPhases (128 + g) ≤ 2))).length
    let s := if n = 1 then s.raise (recDegr 0x0D0C loc)
      else if n = 2 then (s.raise (recDegr 0x0D0C loc)).zeroReserve 7 k loc
      else s.raise (recDegr (if n = 3 then 0x0D0D else 0x0D0E) loc)
    if good < 5 then s.fenceModule 0x0D10 loc false else { s with pwr.hubSlow := decide (good < 7) }
  else if k < 154 then
    if n = 1 then s.raise (recDegr 0x0D0C loc)
    else if n = 2 then (s.raise (recDegr 0x0D0C loc)).zeroReserve 7 k loc
    else if n = 3 then s.engineDark (k - 136) 0x0D0E loc
    else s
  else if n = 1 then (s.raise (recDegr 0x0D0C loc)).zeroReserve 7 k loc
  else (s.discard s.ldg.queue).rset Fd.HUB_CONN_STAT_NIGHT_UP 0

/-- PHASE_FAIL (R500, R502): phase `ph` of group `k` fails; it is never used again, and the step is committed. -/
def execPhaseFail (k ph : Nat) (s : State) : Out :=
  .next (
    if s.groupThere k && ph < groupPhases k && !s.pwr.phases.contains (k * 32 + ph) then
      let s := { s with pwr.phases := insNat s.pwr.phases (k * 32 + ph) }
      let n := s.failedPhases k
      let s := if k < 96 then s.radd (Fd.PWR_PHASE_SHED (k / 24)) 1 else s
      let s := s.commit [⟨4, k, false, [ofBits ((s.pwr.phases.filter (fun p => p / 32 == k)).map (· % 32))], 8⟩]
      s.phaseStep k n (phaseLoc k ph)
    else s)

/-! ## Between rounds (R511, R512) -/

def State.skip (s : State) (f : Nat) : Nat := spGet (fun _ => 0) s.pwr.skip f
/-- Fronds skip 2 more of every 16 cycles, up to 12. -/
def State.skipMore (s : State) (fs : List Nat) : State :=
  { s with pwr.skip := spModAll (fun _ => 0) s.pwr.skip fs (fun _ k => min 12 (k + 2)) }

/-- Fronds of a rail of Table 15-3, rails 0 core A to 14 network (R516). -/
def railFronds (rail : Nat) : List Nat :=
  if rail = 0 then [0, 1] else if rail = 1 then [2, 3] else if rail < 14 then [(rail - 2) % 4] else []

/-- RAIL_OVER_LIMIT (R511): the rail has stayed over its limit for another 200 ns. -/
def execRailOverLimit (t rail : Nat) (s : State) : Out :=
  .next (if t < s.towers && rail < 15 then (s.skipMore ((railFronds rail).map (· + 4 * t))).radd (Fd.PWR_TWR_FAST_LIMITS t) 1 else s)

/-- INPUT_OVER_LIMIT (R511). -/
def execInputOverLimit (s : State) : Out := .next (s.skipMore ((List.range s.fronds).filter s.inRun))

/-- Arithmetic clock of a Frond (MHz), as set. -/
def State.clk (s : State) (f : Nat) : Nat := nfld (s.rget (Fd.PWR_TWR_CLK (f / 4))) (8 * (f % 4) + 7) (8 * (f % 4)) * 50
def putByte (w n v : Nat) : Nat := w - nfld w (8 * n + 7) (8 * n) * 2 ^ (8 * n) + (v % 256) * 2 ^ (8 * n)
/-- The clocks of Table 15-8 but the Night clock. -/
inductive ClockName where
  | hub
  | network (t : Nat)
  | towerLink (t : Nat)
  | arithmetic (f : Nat)
  | controller (p : Nat)
  | fabricPort (p : Nat)
  | hostPort
  deriving DecidableEq, Repr
/-- A clock runs (R20, R513, Table 15-8). -/
def State.clockRuns (s : State) : ClockName → Bool
  | .hub => s.nightOn && !s.con.shutdown && decide (2 ≤ s.stage)
  | .network t => s.towerUp t
  | .towerLink t => s.towerUp t
  | .arithmetic f => s.frondUp f && s.inRun f
  | .controller p => decide (p < s.piles) && s.zoneState (p + 4) == 1
  | .fabricPort p => decide (p < s.part.fports) && s.rget (Fd.FAB_PORT_CFG_EN p) == 1
  | .hostPort => s.hpt.ready
/-- The hub and network clocks in MHz (Table 15-5, Table 15-8). -/
def State.hubMhz (s : State) : Nat := if s.pwr.hubSlow then 1200 else 1600
def State.setClk (s : State) (f mhz : Nat) : State :=
  s.rset (Fd.PWR_TWR_CLK (f / 4)) (putByte (s.rget (Fd.PWR_TWR_CLK (f / 4))) (f % 4) (mhz / 50))

/-- Core voltage for a clock, in tenths of a millivolt, by linear interpolation (Table 15-7). -/
def voltFor (mhz : Nat) : Nat :=
  if mhz ≤ 600 then 5800
  else if mhz ≤ 800 then 5800 + (mhz - 600) * 300 / 200
  else if mhz ≤ 1000 then 6100 + (mhz - 800) * 400 / 200
  else if mhz ≤ 1200 then 6500 + (mhz - 1000) * 500 / 200
  else 7000 + (mhz - 1200) * 500 / 200
def railOf (f : Nat) : Nat := f / 2
def State.volt (s : State) (f : Nat) : Nat := spGet (fun _ => 5800) s.pwr.volt (railOf f)
def State.setVolt (s : State) (f v : Nat) : State := { s with pwr.volt := spPut (fun _ => 5800) s.pwr.volt (railOf f) v }
def State.clkUp (s : State) (f : Nat) : Option (Nat × Nat) := spGet (fun _ => none) s.pwr.clkUp f
def State.setClkUp (s : State) (f : Nat) (v : Option (Nat × Nat)) : State := { s with pwr.clkUp := spPut (fun _ => none) s.pwr.clkUp f v }

/-- Set a Frond's clock (R512): down, the frequency and then the voltage of its rail; up, the voltage first, and the frequency at the
end of the ramp. -/
def State.aimClk (s : State) (f mhz : Nat) : State :=
  if mhz ≤ s.clk f then
    let s := (s.setClk f mhz).setClkUp f none
    s.setVolt f (max (voltFor mhz) (voltFor (s.clk (if f % 2 = 0 then f + 1 else f - 1))))
  else if voltFor mhz ≤ s.volt f then (s.setClk f mhz).setClkUp f none
  else s.setClkUp f (some (mhz, match s.clkUp f with
    | some c => if c.1 = mhz then c.2 else s.clock
    | none => s.clock))

/-- Night-clock cycles a ramp to a clock's voltage takes, at 10 mV per µs (R512). -/
def State.rampTime (s : State) (f mhz : Nat) : Nat := (voltFor mhz - s.volt f) / 4
/-- VOLTAGE_RAMP_DONE (R512). -/
def execVoltageRampDone (f : Nat) (s : State) : Out :=
  .next (match s.clkUp f with
    | some c => if c.2 + s.rampTime f c.1 ≤ s.clock then ((s.setVolt f (max (s.volt f) (voltFor c.1))).setClk f c.1).setClkUp f none else s
    | none => s)

end Sys2Proof.Machine
end

