-- ==== Sys2Proof/Machine/Thermal.lean ====
section
/-!
DEFINITION. The thermal model, its sensors and thresholds (R518–R533), and the coolant's conditions.
-/

namespace Sys2Proof.Machine

/-! ## Nodes, sensors and zones (R521, Table 16-2, R535) -/

/-- The node exists in the variant. -/
def State.nodeThere (s : State) (n : Nat) : Bool :=
  if n < 48 then decide (n / 12 < s.towers)
  else if n < 80 then decide ((n - 48) / 4 < s.piles)
  else if n = 80 then true
  else if n < 97 then decide (n - 81 < s.part.fports)
  else decide (n < 100)
def State.nodes (s : State) : List Nat := (List.range 100).filter s.nodeThere

/-- Node of a sensor. -/
def sensorNode (k : Nat) : Nat :=
  if k < 128 then
    let j := k % 32
    let t := k / 32
    if j < 16 then 12 * t + j / 4 else if j < 24 then 12 * t + 4 + (j - 16) / 2 else 12 * t + 8 + (j - 24) / 2
  else if k < 256 then
    let j := (k - 128) % 16
    48 + 4 * ((k - 128) / 16) + j / 4
  else if k < 264 then 80
  else if k < 282 then 81 + (k - 264)
  else 99
def State.sensorList (s : State) : List Nat := (List.range 283).filter (fun k => s.nodeThere (sensorNode k))
def State.nodeSensors (s : State) (n : Nat) : List Nat := s.sensorList.filter (fun k => sensorNode k == n)

/-- Location of a node, with ENGINE `e` (R535); a pile's layer group lies at its lowest layer. -/
def nodeLoc (n e : Nat) : Loc :=
  if n < 48 then ⟨1, n / 12, n % 12 / 4, n % 4, e, 0xFF, 0xFFFF⟩
  else if n < 80 then
    let g := (n - 48) % 4
    ⟨2, (n - 48) / 4, if g = 0 then 0 else 4 * (g - 1) + 1, 0x3F, e, 0xFF, 0xFFFF⟩
  else if n = 80 then locHub 0x16 e 0xFF 0xFFFF
  else if n < 97 then ⟨4, n - 81, 0, 0x3F, 0xE0, 0xFF, 0xFFFF⟩
  else if n < 99 then ⟨5, n - 97, 0, 0x3F, 0xE0, 0xFF, 0xFFFF⟩
  else locKeep 0x3F e 0xFF 0xFFFF
/-- Place of a sensor within its node's region. -/
def sensorPlace (k : Nat) : Nat :=
  if k < 128 then (if k % 32 < 16 then k % 4 else k % 2) else if k < 256 then (k - 128) % 4 else if k < 264 then k - 256 else 0
def sensorLoc (k : Nat) : Loc := nodeLoc (sensorNode k) (0xE0 + sensorPlace k)
/-- Lid sensors: 0 inlet, 1 outlet, 2 flow. -/
def lidLoc (e : Nat) : Loc := locKeep 0x20 e 0xFF 0xFFFF

/-- Zone of a node: 0–3 towers, 4–11 piles; none for the hub, the engines and the keep die. -/
def nodeZone (n : Nat) : Option Nat := if n < 48 then some (n / 12) else if n < 80 then some (4 + (n - 48) / 4) else none
def zoneNodes (z : Nat) : List Nat :=
  if z < 4 then (List.range 12).map (· + 12 * z) else (List.range 4).map (· + (48 + 4 * (z - 4)))
def zoneLoc (z : Nat) : Loc := if z < 4 then locTower z else pileLoc (z - 4)
def State.zoneSensors (s : State) (z : Nat) : List Nat := s.sensorList.filter (fun k => nodeZone (sensorNode k) == some z)

def State.temp (s : State) (n : Nat) : Int := spGet (fun _ => 0) s.thm.temp n
def State.junction (s : State) (n : Nat) : Int := spGet (fun _ => 0) s.thm.junction n
def State.offset (s : State) (n : Nat) : Int := spGet (fun _ => 0) s.thm.off n

/-- THM_CTL's vector, raised with some records (Table 16-5). -/
def State.thmIrq (s : State) : State := if s.rget Fd.THM_CTL_IRQ_EN = 1 then s.msi (s.rget Fd.THM_CTL_VECTOR) else s

/-! ## The coolant (R519, R520) -/

/-- FLOW_PRESENT (R519, R539): bring-up goes on. -/
def execFlowPresent (s : State) : Out :=
  .next (if s.nightOn then (s.rset Fd.THM_COOL_FLOW_OK 1).rset Fd.BOOT_STAT_FLOW_WAIT 0 else s)
/-- LOW_FLOW (R519): a record and nothing else. -/
def execLowFlow (s : State) : Out := .next (s.raise (recNote 0x0E0D (lidLoc 2)))
/-- COOLANT_LOST (R519): a record and nothing else. -/
def execCoolantLost (s : State) : Out := .next ((s.rset Fd.THM_COOL_FLOW_OK 0).raise (recNote 0x0E0E (lidLoc 2)))
/-- REVERSED_FLOW (R520): on entry the record and its interrupt; the 70 % limit of R508 holds from now on. -/
def execReversedFlow (s : State) : Out :=
  .next (if s.rget Fd.THM_COOL_REVERSED = 0 then ((s.rset Fd.THM_COOL_REVERSED 1).raise (recNote 0x0E0B (lidLoc 2))).thmIrq else s)
/-- REVERSED_FLOW_CLEARED (R520). -/
def execReversedFlowCleared (s : State) : Out :=
  .next (if s.rget Fd.THM_COOL_REVERSED = 1 then ((s.rset Fd.THM_COOL_REVERSED 0).raise (recNote 0x0E0C (lidLoc 2))).thmIrq else s)

/-- Flow band of a forward flow in 0.01 L/min (R522). -/
def flowBand (flow : Int) : Nat := ([50, 100, 150, 200, 250, 300, 350].filter (fun (e : Int) => decide (e ≤ flow))).length

/-- The coolant registers take the round's samples. -/
def State.coolSample (s : State) (h : HkSample) : State :=
  let u (v : Int) : Nat := v.toNat % 2 ^ 16
  let rev := s.rget Fd.THM_COOL_REVERSED = 1
  let s := (((s.rset Fd.THM_COOL_INLET (u h.inlet)).rset Fd.THM_COOL_OUTLET (u h.outlet)).rset Fd.THM_COOL_FLOW (if rev then 0 else u h.flow)).rset
    Fd.THM_COOL_BAND (flowBand h.flow)
  if h.flow < 100 then s.rset Fd.THM_COOL_FLOW_OK 0 else s

/-! ## The model's step (R522, R523) -/

/-- Coolant temperature in 0.001 °C: the inlet, or under reversal the higher of the two (R520). -/
def State.coolant (s : State) (h : HkSample) : Int :=
  (if s.rget Fd.THM_COOL_REVERSED = 1 then max h.inlet h.outlet else h.inlet) * 10
/-- A product with a calibration term of 2^-20, rounded down. -/
def scaled (v : Int) : Int := v / 2 ^ 20

/-- A node's next temperature. -/
def State.nodeNext (s : State) (h : HkSample) (i : Nat) : Int :=
  let band := flowBand h.flow
  let sum := s.nodes.foldl (fun (acc : Int) j => acc + Config.calib 0 band i j * s.temp j) 0
  scaled (sum + Config.calib 1 band i 0 * (spGet (fun _ => 0) h.nodeMw i : Nat) + Config.calib 2 band i 0 * s.coolant h)
def State.estimate (s : State) (h : HkSample) (i : Nat) : Int :=
  s.temp i + scaled (Config.calib 3 (flowBand h.flow) i 0 * (spGet (fun _ => 0) h.nodeMw i : Nat)) + s.offset i

/-- One step of the model: temperatures, then junction estimates. -/
def State.modelStep (s : State) (h : HkSample) : State :=
  let ts := s.nodes.foldl (fun m i => spPut (fun _ => 0) m i (s.nodeNext h i)) []
  let s := { s with thm.temp := ts }
  { s with thm.junction := s.nodes.foldl (fun m i => spPut (fun _ => 0) m i (s.estimate h i)) [] }

/-- The model starts at Predawn at the inlet temperature, or at 40 °C without a valid reading (R523). -/
def State.modelStart (s : State) (inlet : Option Int) : State :=
  let t := match inlet with
    | some v => v * 10
    | none => 40000
  let m := s.nodes.foldl (fun m i => spPut (fun _ => 0) m i t) []
  { s with thm.started := true, thm.temp := m, thm.junction := m, thm.flagged := [], thm.disagree := [] }

/-! ## Sensors (R524, R525, R527) -/

/-- What a sensor reads in the round. -/
def State.sensorRead (s : State) (h : HkSample) (k : Nat) : Int := spGet (fun k => s.junction (sensorNode k) + Config.calib 4 0 k 0) h.sensors k
/-- Sensor minus the estimate at its position. -/
def State.sensorDiff (s : State) (h : HkSample) (k : Nat) : Int := s.sensorRead h k - (s.junction (sensorNode k) + Config.calib 4 0 k 0)
def State.agrees (s : State) (h : HkSample) (k : Nat) : Bool := decide (s.sensorDiff h k ≤ 8000) && decide (-8000 ≤ s.sensorDiff h k)
def State.flagged (s : State) (k : Nat) : Bool := s.thm.flagged.contains k

/-- A sensor disagrees for 50 rounds in succession, or reads out of range, and is flagged (R525). -/
def State.sensorStep (s : State) (h : HkSample) (k : Nat) : State :=
  if s.flagged k then s
  else
    let n := if s.agrees h k then 0 else spGet (fun _ => 0) s.thm.disagree k + 1
    let v := s.sensorRead h k
    let s := { s with thm.disagree := spPut (fun _ => 0) s.thm.disagree k n }
    if n ≥ 50 || v < -20000 || v > 150000 then
      ({ s with thm.flagged := insNat s.thm.flagged k } : State).raise (recNote 0x0E08 (sensorLoc k))
    else s

/-- A node's offset moves 0.1 °C every 10 s toward the mean difference while its unflagged sensors agree (R524). -/
def State.offsetStep (s : State) (h : HkSample) (n : Nat) : State :=
  let ks := (s.nodeSensors n).filter (fun k => !s.flagged k)
  if ks.isEmpty || !ks.all (s.agrees h) then { s with thm.agree := spPut (fun _ => 0) s.thm.agree n 0 }
  else
    let r := spGet (fun _ => 0) s.thm.agree n + 1
    if r < 10000 then { s with thm.agree := spPut (fun _ => 0) s.thm.agree n r }
    else
      let sum := ks.foldl (fun (acc : Int) k => acc + s.sensorDiff h k) 0
      let o := s.offset n + (if sum > 0 then 100 else if sum < 0 then -100 else 0)
      { s with thm.agree := spPut (fun _ => 0) s.thm.agree n 0, thm.off := spPut (fun _ => 0) s.thm.off n (max (-4000) (min 4000 o)) }

/-- A zone's calibration fault: entered when every sensor is flagged, or when all that are not disagree in one direction for 1,000
rounds; left when that has ended for 1,000 rounds (R527). -/
def State.calStep (s : State) (h : HkSample) (z : Nat) : State :=
  let ks := (s.zoneSensors z).filter (fun k => !s.flagged k)
  let low := !ks.isEmpty && ks.all (fun k => decide (s.sensorDiff h k < -8000))
  let high := !ks.isEmpty && ks.all (fun k => decide (s.sensorDiff h k > 8000))
  let run (m : Sp Nat) (b : Bool) : Nat := if b then min 1000 (spGet (fun _ => 0) m z + 1) else 0
  let nl := run s.thm.zoneLow low
  let nh := run s.thm.zoneHigh high
  let no := run s.thm.zoneOk (!(low || high || ks.isEmpty))
  let s := { s with thm.zoneLow := spPut (fun _ => 0) s.thm.zoneLow z nl, thm.zoneHigh := spPut (fun _ => 0) s.thm.zoneHigh z nh
                    thm.zoneOk := spPut (fun _ => 0) s.thm.zoneOk z no }
  let in_ := s.rget (Fd.THM_ZONE_CALFAULT z) = 1
  if !in_ && (ks.isEmpty || nl ≥ 1000 || nh ≥ 1000) then
    let s := ((s.rset (Fd.THM_ZONE_CALFAULT z) 1).raise (recNote 0x0E09 (zoneLoc z))).thmIrq
    if z < 4 then s else s.setPileBand (z - 4) 3
  else if in_ && no ≥ 1000 then s.rset (Fd.THM_ZONE_CALFAULT z) 0
  else s

/-- MODEL_FAULT (R523): every node takes the higher of its own sensors' maximum and its estimate, and the calibration is reloaded. -/
def State.modelFault (s : State) (h : HkSample) : State :=
  let m := s.nodes.foldl (fun m i => spPut (fun _ => 0) m i ((s.nodeSensors i).foldl (fun a k => max a (s.sensorRead h k)) (s.junction i))) []
  let s := ({ s with thm.temp := m, thm.junction := m, thm.faultUntil := some (s.clock + 25000000) } : State).raise (recNote 0x0E0A (locKeep 0x20 0xFF 0xFF 0xFFFF))
  (List.range s.piles).foldl (fun (s : State) p => s.setPileBand p 3) s

/-! ## Thresholds (R526, R528–R533) -/

/-- The temperature a decision uses: the estimate, or under a calibration fault the higher of it and the hottest unflagged sensor. -/
def State.deciding (s : State) (h : HkSample) (n : Nat) : Int :=
  if (match nodeZone n with
      | some z => s.calFault z
      | none => false) then
    ((s.nodeSensors n).filter (fun k => !s.flagged k)).foldl (fun a k => max a (s.sensorRead h k)) (s.junction n)
  else s.junction n

/-- Hottest of a list of nodes: its temperature and its place in the list. -/
def State.hottest (s : State) (h : HkSample) : List Nat → Nat → Int × Nat → Int × Nat
  | [], _, best => best
  | n :: l, i, best => s.hottest h l (i + 1) (if s.deciding h n > best.1 then (s.deciding h n, i) else best)
def State.zoneHot (s : State) (h : HkSample) (z : Nat) : Int × Nat := s.hottest h (zoneNodes z) 0 (-300000, 0)
/-- Hottest of a Frond's own three nodes (R528). -/
def State.frondHot (s : State) (h : HkSample) (f : Nat) : Int :=
  let b := 12 * (f / 4) + f % 4
  (s.hottest h [b, b + 4, b + 8] 0 (-300000, 0)).1

def State.level (s : State) (f : Nat) : Nat := spGet (fun _ => 0) s.thm.level f
/-- A Frond's throttle level at the end of a round (R530, R527). -/
def State.levelStep (s : State) (h : HkSample) (f : Nat) : State :=
  let t := s.frondHot h f
  let l := s.level f
  let c := spGet (fun _ => 0) s.thm.cool f
  let (l, c) := if t ≥ 105000 then (min 5 (l + 1), 0)
    else if t ≥ 100000 then (l, 0)
    else if c + 1 ≥ 10 then (l - 1, 0)
    else (l, c + 1)
  let l := if s.calFault (f / 4) then max 2 l else l
  { s with thm.level := spPut (fun _ => 0) s.thm.level f l, thm.cool := spPut (fun _ => 0) s.thm.cool f c }

/-- Thermal clock of a Frond in MHz (R529). -/
def State.tclk (s : State) (f : Nat) : Nat := nfld (s.rget (Fd.THM_ZONE_TCLK (f / 4))) (8 * (f % 4) + 7) (8 * (f % 4)) * 50
def State.setTclk (s : State) (f mhz : Nat) : State :=
  s.rset (Fd.THM_ZONE_TCLK (f / 4)) (putByte (s.rget (Fd.THM_ZONE_TCLK (f / 4))) (f % 4) (mhz / 50))
/-- Every 10th round the thermal clock falls or rises by 50 MHz (R529). -/
def State.tclkStep (s : State) (h : HkSample) (f : Nat) : State :=
  let t := s.frondHot h f
  if t ≥ 95000 then s.setTclk f (max 350 (s.tclk f - 50))
  else if t < 90000 then s.setTclk f (min 1400 (s.tclk f + 50))
  else s

/-- Warning of a zone, entered at 95 °C and left below 90 °C (R528). -/
def State.warnStep (s : State) (z : Nat) (t : Int) : State :=
  let w := s.rget (Fd.THM_ZONE_WARN z)
  if w = 0 && t ≥ 95000 then ((s.rset (Fd.THM_ZONE_WARN z) 1).raise (recNote 0x0E01 (zoneLoc z))).thmIrq
  else if w = 1 && t < 90000 then ((s.rset (Fd.THM_ZONE_WARN z) 0).raise (recNote 0x0E02 (zoneLoc z))).thmIrq
  else s

/-- The zone is switched off and latched at 120 °C (R531). -/
def State.zoneShutdown (s : State) (z : Nat) : State :=
  let s := s.rset (Fd.THM_ZONE_SHUTDOWN z) 1
  let s := if z < 4 then
      let s := ((s.fenceTower z 0x0E05 (zoneLoc z) false).zoneOff z).rset (Fd.TWR_STAT_STATE z) 7
      ((s.pileShut (2 * z)).pileShut (2 * z + 1)).capBump
    else (s.fencePile (z - 4) 0x0E05 (zoneLoc z) false).pileShut (z - 4)
  s.thmIrq

/-- One zone at the end of a round. -/
def State.zoneStep (s : State) (h : HkSample) (z : Nat) : State :=
  let (t, n) := s.zoneHot h z
  let s := (s.rset (Fd.THM_ZONE_HOT z) (t.toNat / 125)).rset (Fd.THM_ZONE_HOT_NODE z) n
  let s := s.warnStep z t
  let s := if z < 4 then
      let fs := (List.range 4).map (· + 4 * z)
      let s := fs.foldl (fun (s : State) f => s.levelStep h f) s
      let s := if s.thm.round % 10 = 0 then fs.foldl (fun (s : State) f => s.tclkStep h f) s else s
      let top := fs.foldl (fun a f => max a (s.level f)) 0
      let was := s.rget (Fd.THM_ZONE_THROTTLE z)
      let s := (s.rset (Fd.THM_ZONE_LEVEL z) top).rset (Fd.THM_ZONE_THROTTLE z) (if top ≥ 1 then 1 else 0)
      if was = 0 && top ≥ 1 then (s.raise (recNote 0x0E03 (zoneLoc z))).thmIrq
      else if was = 1 && top = 0 then (s.raise (recNote 0x0E04 (zoneLoc z))).thmIrq
      else s
    else if t ≥ 105000 then s.rset (Fd.THM_ZONE_THROTTLE z) 1
    else if t < 100000 then s.rset (Fd.THM_ZONE_THROTTLE z) 0
    else s
  if t ≥ 120000 && s.rget (Fd.THM_ZONE_SHUTDOWN z) = 0 then s.zoneShutdown z else s

/-- The hub: warning, its clock held to 1,200 MHz, and the module's fence at 120 °C (R528, R532). -/
def State.hubStep (s : State) : State :=
  let t := s.junction 80
  let loc := nodeLoc 80 0xFF
  let s := if !s.thm.hubWarn && t ≥ 95000 then (({ s with thm.hubWarn := true } : State).raise (recNote 0x0E01 loc)).thmIrq
    else if s.thm.hubWarn && t < 90000 then (({ s with thm.hubWarn := false } : State).raise (recNote 0x0E02 loc)).thmIrq
    else s
  let s := if t ≥ 105000 then { s with thm.hubThrottle := true } else if t < 100000 then { s with thm.hubThrottle := false } else s
  if t ≥ 120000 && !s.fencedAt .modul then s.fenceModule 0x0E06 loc false else s

/-- Nothing but its temperature keeps an engine dark: its supply, its controller, its lasers (Table 15-5, Table 17-3, R591). -/
def State.engineFit (s : State) (e : Nat) : Bool :=
  decide (s.failedPhases (136 + e) < 3) && (decide (16 ≤ e) || s.boot.lightCtl.contains e) &&
    (decide (e < 16) || (List.range (if e = 16 then 4 else 1)).all (fun n => s.laser e n != 3))
/-- A light engine: lasers off from 85 °C, and on again below 75 °C (R533). -/
def State.engineStep (s : State) (e : Nat) : State :=
  let t := s.junction (81 + e)
  if !s.thm.engHot.contains e && t ≥ 85000 then
    ({ s with thm.engHot := insNat s.thm.engHot e } : State).engineDark e 0x0E07 (nodeLoc (81 + e) 0xE0)
  else if s.thm.engHot.contains e && t < 75000 then
    let s := { s with thm.engHot := s.thm.engHot.filter (· != e) }
    if !s.engineFit e then s
    else if e < 16 then
      let s := s.dropFence (portFence e 0xFF)
      if s.rget (Fd.FAB_PORT_CFG_EN e) = 1 && s.atNoon then (s.portLinks e).foldl (fun (s : State) l => s.trainStart l) s else s
    else if e = 16 then s.dropFence hostPortFence
    else s.dropFence (.port (lightCtlLoc 17))
  else s

/-- The thermal part of a round (R522–R533). -/
def State.thermalRound (s : State) (h : HkSample) : State :=
  if !s.thm.started then s
  else
    let s := if h.modelBad then s.modelFault h else s.modelStep h
    let s := { s with thm.round := s.thm.round + 1 }
    let s := s.sensorList.foldl (fun (s : State) k => s.sensorStep h k) s
    let s := s.nodes.foldl (fun (s : State) n => s.offsetStep h n) s
    let s := s.zones.foldl (fun (s : State) z => s.calStep h z) s
    if s.stage < 2 then s
    else
      let s := s.zones.foldl (fun (s : State) z => s.zoneStep h z) s
      ((List.range 18).filter (fun e => s.nodeThere (81 + e))).foldl (fun (s : State) e => s.engineStep e) s.hubStep

/-! ## Wear (R589, Table 18-3; layout: assumption 131) -/

/-- Temperature band of a zone: one more at each threshold of R208. -/
def tempBand (t : Int) : Nat := ([85000, 95000, 105000].filter (fun (e : Int) => decide (e ≤ t))).length
/-- A round at Noon adds to the time in service and to the time each zone spends in its band. -/
def State.wearRound (s : State) (h : HkSample) : State :=
  let add (m : Sp Nat) (k : Nat) : Sp Nat := spMod (fun _ => 0) m k (· + 1)
  { s with ldg.wear := s.zones.foldl (fun m z => add m (16 + 4 * z + tempBand (s.zoneHot h z).1)) (add s.ldg.wear 0) }
/-- Whole hours of a count of rounds. -/
def State.wearHours (s : State) (k : Nat) : Nat := spGet (fun _ => 0) s.ldg.wear k / 3600000
/-- Section 0x06 by site: hours in service at 1, hours per band of zone z at 16 + z, bias of engine e's lasers at 64 + e; and the thermal
offsets. -/
def State.wearWrites (s : State) : List LWrite :=
  ⟨0x06, 1, false, [s.wearHours 0], 8⟩ ::
    s.zones.map (fun z => ⟨0x06, 16 + z, false, (List.range 4).map (fun b => s.wearHours (16 + 4 * z + b)), 32⟩) ++
    ((List.range 18).filter (fun e => s.nodeThere (81 + e))).map (fun e =>
      ⟨0x06, 64 + e, false, (List.range (if e < 16 then 8 else if e = 16 then 17 else 1)).map (fun n => spGet (fun _ => 0) s.ldg.bias (e * 32 + n)), 64⟩) ++
    (s.thm.off.map (fun p => ⟨0x0B, p.1, false, [(p.2 + 4000).toNat], 16⟩))
/-- An hour at Noon has passed since Noon or since the last hourly commit. -/
def State.hourDue (s : State) : Bool :=
  match s.boot.noonAt with
  | some c => decide (max c s.ldg.hourAt + 90000000000 ≤ s.clock)
  | none => false
/-- HOURLY_COMMIT (R524, R589, Table 18-3): wear counters, and the thermal offsets, every hour at Noon. -/
def execHourlyCommit (s : State) : Out :=
  .next (if s.atNoon && s.hourDue then { s with ldg.hourAt := s.clock }.commit s.wearWrites else s)

end Sys2Proof.Machine
end

