-- ==== Sys2Proof/Machine/Housekeeping.lean ====
section
/-!
DEFINITION. The housekeeping round of 1 ms: inputs and contacts, the effective cap and the power hold, clocks, the pace table, slice
counts, lasers, and the update's suspension (R249, R495, R508–R514, R522, R589, R590, R613–R616, R633).
-/

namespace Sys2Proof.Machine

/-! ## Inputs and contacts (R490, R495, R514) -/

/-- Voltage and current of an input, and its energy in whole millijoules. -/
def State.inputSample (s : State) (h : HkSample) (i : Nat) : State :=
  let v := spGet (fun _ => 0) h.volts i
  let s := (s.rset (Fd.PWR_IN_STAT_VOLTAGE i) v).rset (Fd.PWR_IN_STAT_CURRENT i) (spGet (fun _ => 0) h.amps i)
  let ok := decide (4000 ≤ v) && decide (v ≤ 5800)
  let s := if s.inSt i = 7 && ok then s.setIn i 1 else if s.inSt i = 1 && !ok then s.setIn i 7 else s
  let e := spGet (fun _ => 0) s.pwr.energyRest i + spGet (fun _ => 0) h.energy i
  ({ s with pwr.energyRest := spPut (fun _ => 0) s.pwr.energyRest i (e % 1000000) } : State).radd
    (if i = 0 then Fd.PWR_ENERGY_MAIN_MJ else Fd.PWR_ENERGY_BACKUP_MJ) (e / 1000000)

def contactLoc (set pole c : Nat) : Loc := ⟨7, 0, 0xF, set, pole, c, 0xFFFF⟩
def flagFd (i pole : Nat) : Fd := if pole = 0 then Fd.PWR_IN_STAT_SUP_FLAG i else Fd.PWR_IN_STAT_RET_FLAG i
def okFd (i pole : Nat) : Fd := if pole = 0 then Fd.PWR_IN_STAT_SUP_OK i else Fd.PWR_IN_STAT_RET_OK i

/-- One contact of a pole: flagged after 100 rounds in succession with less than 50 % or more than 150 % of the pole's mean (R495). -/
def State.contactStep (s : State) (h : HkSample) (i pole c : Nat) : State :=
  let set := s.rget (Fd.PWR_IN_STAT_PHYS i)
  let cur (n : Nat) : Nat := spGet (fun _ => 0) h.contacts (set * 16 + pole * 8 + n)
  let sum := (List.range 8).foldl (fun a n => a + cur n) 0
  let odd := decide (spGet (fun _ => 0) h.amps i ≥ 100) && (decide (cur c * 16 < sum) || decide (cur c * 16 > 3 * sum))
  let k := set * 16 + pole * 8 + c
  let n := if odd then spGet (fun _ => 0) s.pwr.contactRuns k + 1 else 0
  let s := { s with pwr.contactRuns := spPut (fun _ => 0) s.pwr.contactRuns k n }
  if n ≥ 100 && !nbit (s.rget (flagFd i pole)) c then
    let s := (s.rbit (flagFd i pole) c true).raise (recNote 0x0D06 (contactLoc set pole c))
    s.rset (okFd i pole) (8 - popCount 8 (s.rget (flagFd i pole)))
  else s

/-- An input with fewer than 4 contacts on a pole goes out of service where the other is qualified (R494). -/
def State.contactsStep (s : State) (h : HkSample) (i : Nat) : State :=
  if !s.qualified i then s
  else
    let s := [0, 1].foldl (fun (s : State) pole => (List.range 8).foldl (fun (s : State) c => s.contactStep h i pole c) s) s
    if (s.rget (okFd i 0) < 4 || s.rget (okFd i 1) < 4) && s.qualified (1 - i) then
      let s := ({ s with pwr.outOfService := insNat s.pwr.outOfService (s.rget (Fd.PWR_IN_STAT_PHYS i)) } : State).raise (recNote 0x0D07 (inputLoc i))
      let was := s.inSt i
      let s := s.setIn i 6
      if was = 3 then s.carry (1 - i) else s
    else s

/-! ## Caps and the power hold (R508) -/

def clamp (lo hi v : Nat) : Nat := max lo (min hi v)
/-- The four limits of R508 in order: package cap, contacts, conversion, coolant. -/
def State.limits (s : State) : List Nat :=
  let pkg := clamp 900 2100 (s.rget Fd.PWR_CTL_PKG_CAP_W)
  let i := if s.inSt 1 = 3 then 1 else 0
  let contact := 8 * min (s.rget (okFd i 0)) (s.rget (okFd i 1)) * s.rget (Fd.PWR_IN_STAT_VOLTAGE i) / 100
  [pkg, contact, 340 * (8 - s.pwr.cells.length), if s.rget Fd.THM_COOL_REVERSED = 1 then pkg * 70 / 100 else pkg]
def State.effCap (s : State) : Nat := s.limits.foldl min 4095
/-- The bits that bind. -/
def State.binding (s : State) : Nat :=
  ofBits ((List.range 4).filter (fun n => s.limits.getD n 0 == s.effCap && (n != 3 || s.rget Fd.THM_COOL_REVERSED == 1)))

/-- Fronds present that run: in Run, and not held. -/
def State.running (s : State) : List Nat := (List.range s.fronds).filter (fun f => s.frondUp f && s.inRun f)
/-- The power hold at the end of a round: one more Frond stops, highest first, or one starts again, lowest first (R508). -/
def State.powerHold (s : State) (input : Nat) : State :=
  let run := s.running
  if input > s.effCap && !run.isEmpty && run.all (fun f => s.clk f == 350 && s.skip f == 12) then
    match run.getLast? with
    | some f =>
      let first := s.pwr.held.isEmpty
      let s := { s with pwr.held := insNat s.pwr.held f, flt.runWhole := s.flt.runWhole.filter (· != f) }
      if first then s.raise (recNote 0x0D11 modLoc) else s
    | none => s
  else if input * 10 ≤ s.effCap * 9 then
    match s.pwr.held with
    | _ :: l =>
      let s := { s with pwr.held := l }
      if l.isEmpty then s.raise (recNote 0x0D11 modLoc) else s
    | [] => s
  else s

/-! ## Clocks (R510, R511) -/

/-- A group that serves the Frond is reduced: it is held to 1,200 MHz (Table 15-4). -/
def State.railHold (s : State) (f : Nat) : Nat :=
  let t := f / 4
  let q := f % 4
  let core := (List.range 5).map (· + 5 * (q / 2))
  if (core ++ [10 + q, 14 + q, 18 + q]).any (nbit (s.rget (Fd.PWR_PHASE_REDUCED t))) then 1200 else 1400

/-- Highest clock step whose predicted power fits the Frond's share of a budget. -/
def fitClk (h : HkSample) (f : Nat) (budget : Int) (n : Nat) : Nat :=
  (List.range 22).foldl (fun best k =>
    if ((spGet (fun _ => 0) h.predictW (f * 32 + k) * n : Nat) : Int) ≤ budget then 350 + 50 * k else best) 350

/-- The power manager sets the clocks of a round (R510). -/
def State.clockRound (s : State) (h : HkSample) : State :=
  let up := (List.range s.towers).filter s.towerUp
  let cap := clamp 200 430 (s.rget Fd.PWR_CTL_TOWER_CAP_W)
  let want (t : Nat) : Nat := min cap (spGet (fun _ => 0) h.demandW t)
  let sum := up.foldl (fun a t => a + want t) 0
  let avail : Int := (s.effCap : Int) - h.otherW
  up.foldl (fun (s : State) t =>
    let share : Int := if avail ≥ sum then want t else want t * avail / (if sum = 0 then 1 else sum)
    let budget := share - (spGet (fun _ => 0) h.thallusW t : Nat) - (spGet (fun _ => 0) h.networkW t : Nat)
    let run := s.running.filter (fun f => f / 4 == t)
    run.foldl (fun (s : State) f => s.aimClk f (min (fitClk h f budget run.length) (min (s.railHold f) (s.tclk f)))) s) s

/-! ## The pace table (R613–R616) -/

/-- The four factors of R613 on a scale of 1,024: clock, arrays, bundles, group slots. -/
def State.paceTerms (s : State) (h : HkSample) (f : Nat) : List Nat :=
  let arrays := ((List.range 8).filter (fun a => !s.arrFenced f a)).length
  let tq := f / 4 * 4 + f % 4
  let bad := ((List.range 32).filter (fun b => s.thl.bundleRet.contains (tq * 32 + b) || s.thl.unavail.contains (bgKey (f / 4) 0 (f % 4) b))).length
  let slots := ((List.range 64).filter (fun g => !s.clusterFenced f (g % 4) && !(s.fr f).clHeld.contains (g % 4) && !(s.fr f).slotHeld.contains g)).length
  [min 1024 (spGet (fun _ => 0) h.cycles f * 1024 / 1400000), 1024 * arrays / 8, 1024 * (8192 - 256 * bad) / 8192, 1024 * slots / 64]
def paceOf (l : List Nat) : Nat := l.getD 0 0 * min (l.getD 1 0) (min (l.getD 2 0) (l.getD 3 0)) / 1024
def limitOf (l : List Nat) : Nat :=
  let m := l.foldl min 1024
  (findIdxFrom (· == m) l 0).getD 0

def insSorted (v : Nat) : List Nat → List Nat
  | [] => [v]
  | x :: l => if v ≤ x then v :: x :: l else x :: insSorted v l
/-- Lower median (R614). -/
def lowerMedian (l : List Nat) : Nat := (l.foldr insSorted []).getD ((l.length - 1) / 2) 0

/-- A sampled Frond's run count and flag (R615). -/
def State.paceFlag (s : State) (median f : Nat) : State :=
  let thresh := clamp 50 95 (s.rget Fd.FLT_PACE_CTL_THRESH_PCT)
  let hold := max 10 (s.rget Fd.FLT_PACE_CTL_HOLD_MS)
  let p := s.rget (Fd.FLT_PACE_PACE f)
  let flagged := s.rget (Fd.FLT_PACE_FLAGGED f) = 1
  let hit := if flagged then decide (p * 100 ≥ (thresh + 5) * median) else decide (p * 100 < thresh * median)
  let n := if hit then min 65535 (s.rget (Fd.FLT_PACE_RUN_MS f) + 1) else 0
  if n ≥ hold then
    let s := (s.rset (Fd.FLT_PACE_RUN_MS f) 0).rset (Fd.FLT_PACE_FLAGGED f) (if flagged then 0 else 1)
    if flagged then (s.rset (Fd.FLT_PACE_EVICTED f) 0).rset (Fd.FLT_PACE_DENIED f) 0 else s
  else s.rset (Fd.FLT_PACE_RUN_MS f) n

/-- A flagged Frond leaves FROND_SCHED while EVICT = 1 and half of the Fronds in FROND_UP, rounded up, stay in it (R616). -/
def State.paceEvict (s : State) (f : Nat) : State :=
  if s.rget Fd.FLT_PACE_CTL_EVICT = 1 && s.rget (Fd.FLT_PACE_FLAGGED f) = 1 && s.rget (Fd.FLT_PACE_EVICTED f) = 0 then
    let up := ((List.range s.fronds).filter s.frondUp).length
    let left := popCount 16 ((s.rset (Fd.FLT_PACE_EVICTED f) 1).schedMask)
    if left ≥ (up + 1) / 2 then (s.rset (Fd.FLT_PACE_EVICTED f) 1).rset (Fd.FLT_PACE_DENIED f) 0 else s.rset (Fd.FLT_PACE_DENIED f) 1
  else s

/-- PACE_UPDATE (R613–R616). -/
def State.paceRound (s : State) (h : HkSample) : State :=
  let before := s.schedMask
  let round := (s.rget Fd.FLT_PACE_SUM_ROUND + 1) % 2 ^ 32
  let smp := (List.range s.fronds).filter (fun f => s.frondUp f && s.inRun f && s.flt.runWhole.contains f)
  let s := (List.range s.fronds).foldl (fun (s : State) f =>
    let s := s.rset (Fd.FLT_PACE_ROUND_LO f) round
    if smp.contains f then
      let l := s.paceTerms h f
      ((s.rset (Fd.FLT_PACE_IDLE f) 0).rset (Fd.FLT_PACE_PACE f) (paceOf l)).rset (Fd.FLT_PACE_LIMIT f) (limitOf l)
    else s.rset (Fd.FLT_PACE_IDLE f) 1) s
  let median := lowerMedian (smp.map (fun f => s.rget (Fd.FLT_PACE_PACE f)))
  let s := (s.rset Fd.FLT_PACE_SUM_ROUND round).rset Fd.FLT_PACE_SUM_SAMPLES smp.length
  let s := if smp.isEmpty then s else s.rset Fd.FLT_PACE_SUM_MEDIAN median
  let s := if smp.length < 3 then s else smp.foldl (fun (s : State) f => s.paceFlag median f) s
  let s := (List.range s.fronds).foldl (fun (s : State) f => s.paceEvict f) s
  if s.schedMask ≠ before then s.capBump else s

/-! ## Slice counts (R249) -/

/-- A slice publishes its round's counts, and raises the thrash record at most once a second. -/
def State.thrashStep (s : State) (sl : Nat) : State :=
  let m := spGet (fun _ => 0) s.msc.misses sl
  let e := spGet (fun _ => 0) s.msc.early sl
  let s := (s.rset (Fd.MSC_THRASH_EARLY_EVICT sl) e).rset (Fd.MSC_THRASH_MISSES sl) m
  let ready := match s.msc.thrashAt.find? (fun p => p.1 == sl) with
    | some p => decide (s.clock - p.2 ≥ 25000000)
    | none => true
  if e * 100 > min 100 (s.rget Fd.MSC_THRASH_CTL_THRESH_PCT) * m && m > 4096 && ready then
    let s := { s with msc.thrashAt := spIns s.msc.thrashAt sl s.clock }.raise (recNote 0x0404 (sliceLoc sl 3))
    if s.rget Fd.MSC_THRASH_CTL_IRQ_EN = 1 then s.msi (s.rget Fd.MSC_THRASH_CTL_VECTOR) else s
  else s
def State.thrashRound (s : State) : State :=
  let s := (List.range s.channels).foldl (fun (s : State) sl => s.thrashStep sl) s
  { s with msc.misses := [], msc.early := [] }

/-! ## Lasers (R589, R590) -/

def State.enginePresent (s : State) (e : Nat) : Bool := decide (e < s.part.fports) || e == 16 || e == 17
/-- A laser at 150 % of its start-of-life bias, or too dim at its maximum, is worn. -/
def State.laserSample (s : State) (h : HkSample) (e n : Nat) : State :=
  let k := e * 32 + n
  let pct := spGet (fun _ => 0) h.bias k
  let s := if pct > s.rget (Fd.LDG_LASER_BIAS_MAX_PCT e) then s.rset (Fd.LDG_LASER_BIAS_MAX_PCT e) pct else s
  let s := { s with ldg.bias := spPut (fun _ => 0) s.ldg.bias k pct }
  if (pct ≥ 150 || h.dim.contains k) && s.laser e n = 0 then
    { s.setLaser e n 1 with ldg.wornDue := spPut (fun _ => 0) s.ldg.wornDue k (s.clock + 2160000000000) }
  else s
/-- A worn laser whose 24 h have passed: the controller causes a retrain of the link for it; the other engines replace it at once. -/
def State.laserDue (s : State) (k : Nat) : State :=
  let e := k / 32
  let n := k % 32
  if e < 16 then
    let l := if s.portSplit e then 2 * e + n / 4 else 2 * e
    if s.linkState l = 2 then s.setLinkState l 3 else if s.linkState l = 3 then s else s.laserReplace e n
  else s.laserReplace e n
def State.laserRound (s : State) (h : HkSample) : State :=
  let es := (List.range 18).filter s.enginePresent
  let s := es.foldl (fun (s : State) e =>
    (List.range (engineLasers e)).foldl (fun (s : State) n => s.laserSample h e n) (s.rset (Fd.LDG_LASER_BIAS_MAX_PCT e) 0)) s
  if s.fwu.cur.isSome && s.fwu.todo.head? == some 4 then s
  else ((s.ldg.wornDue.filter (fun p => decide (p.2 ≤ s.clock))).map (·.1)).foldl (fun (s : State) k => s.laserDue k) s

/-! ## The round -/

/-- HOUSEKEEPING_ROUND (R522): sampling, the thermal step, caps and clocks, pace, slice counts, lasers and the update. The model and
the inputs run from Predawn on; the rest at Noon. -/
def execHousekeepingRound (h : HkSample) (s : State) : Out :=
  .next (
    if !s.nightOn then s
    else
      let s := (s.inputSample h 0).inputSample h 1
      let s := (s.contactsStep h 0).contactsStep h 1
      let s := s.coolSample h
      let s := s.thermalRound h
      let s := (s.rset Fd.PWR_CAP_STAT_INPUT_W h.inputW).rset Fd.PWR_CAP_STAT_EFFECTIVE_W s.effCap |>.rset Fd.PWR_CAP_STAT_LIMITER s.binding
      let s := (List.range s.towers).foldl (fun (s : State) t => s.rset (Fd.PWR_TWR_TOWER_W t) (spGet (fun _ => 0) h.towerW t)) s
      if !s.atNoon then s
      else
        let s := (s.powerHold h.inputW).clockRound h
        let s := { s with pwr.skip := [] }
        let s := (s.paceRound h).thrashRound
        let s := ({ s with flt.runWhole := s.running } : State).wearRound h
        let s := s.laserRound h
        let s := if s.fwu.cur.isNone then s.updatePause else s
        s.updateResume)

end Sys2Proof.Machine
end

