-- ==== Sys2Proof/Machine/Ledger.lean ====
section
/-!
DEFINITION. The ledger (R568–R591): commits to both halves, page replacement, compaction, the daily pass, mounting, the repairs it
restores, and failed lasers.
-/

namespace Sys2Proof.Machine

/-- Region of a half (R593). -/
def halfRegion (b : Bool) : Nat := if b then 0x11 else 0x10
def pageLoc (region page : Nat) : Loc := locKeep region 0 0 page
def regionLoc (region : Nat) : Loc := locKeep region 0xFF 0xFF 0xFFFF
def commitLoc (region : Nat) : Loc := locKeep region 1 0xFF 0xFFFF

/-! ## Reserve and modes (R576, R585, R587) -/

def halfBytes : Nat := 32 * 2 ^ 20
/-- Free bytes of a half. -/
def State.halfFree (s : State) (b : Bool) : Nat := halfBytes - (if b then s.ldg.usedB else s.ldg.usedA)
def State.reserveLow (s : State) : Bool :=
  decide (s.ldg.poolPages < 1024) || !s.ldg.okA || !s.ldg.okB || decide (s.halfFree false < 4 * 2 ^ 20) || decide (s.halfFree true < 4 * 2 ^ 20)
/-- LDG_STAT.LOW follows the reserve, with a record on entry (R585). -/
def State.lowCheck (s : State) : State :=
  if s.reserveLow then
    if s.rget Fd.LDG_STAT_LOW = 1 then s else (s.rset Fd.LDG_STAT_LOW 1).raise (recNote 0x1008 (commitLoc 0x14))
  else s.rset Fd.LDG_STAT_LOW 0

/-- Endurance used in per mille (R583). -/
def wearOf (written : Nat) : Nat := min 1000 (written * 1000 / (halfBytes * 10 ^ 8))
/-- Wear reaches 900 per mille (R583). -/
def State.wearCheck (s : State) (before : Nat × Nat) : State :=
  let one (s : State) (was now region : Nat) : State := if was < 900 && now ≥ 900 then s.raise (recNote 0x1009 (regionLoc region)) else s
  one (one s before.1 (wearOf s.ldg.writtenA) 0x10) before.2 (wearOf s.ldg.writtenB) 0x11

/-- A page fails its read-back three times: replaced from the pool, or its half accepts no more records (R569, R576). -/
def State.pageFails (s : State) (b : Bool) (page : Nat) : State :=
  if s.ldg.poolPages > 0 then
    let s := ({ s with ldg.poolPages := s.ldg.poolPages - 1 } : State).raise (recNote 0x1003 (pageLoc (halfRegion b) page))
    if s.ldg.poolPages = 0 then s.zeroReserve 10 0 (regionLoc 0x14) else s
  else
    let s := if b then { s with ldg.okB := false } else { s with ldg.okA := false }
    s.raise (recNote (if s.ldg.okA || s.ldg.okB then 0x1004 else 0x1005) (regionLoc (halfRegion b)))

/-! ## Commits (R572–R576) -/

/-- The outcome of a commit reaches who waits for it. -/
def State.ldgOutcome (s : State) (who : LWho) (ok : Bool) : State :=
  match who with
  | .nobody => s
  | .slot x => s.slotCommitted x ok
  | .erase r i => s.eraseCommitted r i ok
  | .lms => { s with sec.lmsDone := some ok }
  | .owner => s.ownerCommitted ok
  | .fw c => s.classCommitted c ok
  | .boot => { s with boot.failHeld := !ok }
  | .starts => if ok then { s with boot.startsHeld := false } else s

/-- LEDGER_COMMIT (R572–R574): the commit at the head of the queue is written to half A and then to half B; `badA` and `badB` are the
page of each half that failed its read-back three times, if one did. A commit that no half can accept is refused (R576). -/
def execLedgerCommit (badA badB : Option Nat) (s : State) : Out :=
  .next (s.attempt fun s => match s.ldg.queue with
    | [] => s
    | r :: l =>
      let before := (wearOf s.ldg.writtenA, wearOf s.ldg.writtenB)
      let s := { s with ldg.queue := l }
      let s := match badA with
        | some p => if s.ldg.okA then s.pageFails false p else s
        | none => s
      let s := match badB with
        | some p => if s.ldg.okB then s.pageFails true p else s
        | none => s
      let s := if s.ldg.okA || s.ldg.okB then (s.ldgAppend r.ws r.ws.length).ldgOutcome r.who true
        else (((s.raise (recNote 0x1001 (commitLoc 0x10))).radd Fd.LDG_STAT_REFUSED 1).ldgOutcome r.who false)
      (s.wearCheck before).lowCheck)

/-- A copy is still live: no later good record of its item stands in the ledger (R571). -/
def State.copyLive (s : State) (c : LCopy) : Bool :=
  match s.ldgLast c.w.section_ c.w.key with
  | some l => l.seq == c.seq
  | none => false
/-- The records of a live transaction keep their SEAL (R573). -/
def State.keepCopy (s : State) (l : List LCopy) (c : LCopy) : Bool :=
  s.copyLive c || (c.sealed && l.any (fun d => d.txn == c.txn && s.copyLive d))

/-- COMPACTION (R575): a half with less than 8 MiB free keeps its live records, unchanged; the other half is not touched. -/
def execCompaction (b : Bool) (s : State) : Out :=
  .next (
    if s.halfFree b < 8 * 2 ^ 20 then
      let half := if b then s.ldg.halfB else s.ldg.halfA
      let keep := half.filter (s.keepCopy s.ldgCopies)
      let used := keep.foldl (fun a c => a + c.w.bytes) 0
      let before := (wearOf s.ldg.writtenA, wearOf s.ldg.writtenB)
      let s := if b then { s with ldg.halfB := keep, ldg.usedB := used, ldg.writtenB := s.ldg.writtenB + used }
        else { s with ldg.halfA := keep, ldg.usedA := used, ldg.writtenA := s.ldg.writtenA + used }
      (s.wearCheck before).lowCheck
    else s)

/-! ## The daily pass (R584) -/

/-- A copy that fails its CRC, or is missing, is written again from a good one in the other half, where its half accepts records (R580, R584). -/
def State.copyRepair (s : State) (b : Bool) (seq : Nat) : State :=
  if !(if b then s.ldg.okB else s.ldg.okA) then s else
  let half := if b then s.ldg.halfB else s.ldg.halfA
  let other := if b then s.ldg.halfA else s.ldg.halfB
  match other.find? (fun c => c.seq == seq && c.crcOk) with
  | none => s
  | some c =>
    let half := if half.any (fun d => d.seq == seq) then half.map (fun d => if d.seq = seq then c else d) else c :: half
    let n := c.w.bytes
    let s := if b then { s with ldg.halfB := half, ldg.writtenB := s.ldg.writtenB + n }
      else { s with ldg.halfA := half, ldg.writtenA := s.ldg.writtenA + n }
    s.raise (recNote 0x1002 (commitLoc (halfRegion b)))

/-- Copies found with a wrong CRC or a wrong MAC, as (half B, SEQ). -/
def markCopies (l : List LCopy) (crc mac : List Nat) : List LCopy :=
  l.map (fun c => { c with crcOk := c.crcOk && !crc.contains c.seq, macOk := c.macOk && !mac.contains c.seq })
def seqsOf (b : Bool) (l : List (Bool × Nat)) : List Nat := (l.filter (fun p => p.1 == b)).map (·.2)
def State.markBad (s : State) (crc mac : List (Bool × Nat)) : State :=
  { s with ldg.halfA := markCopies s.ldg.halfA (seqsOf false crc) (seqsOf false mac)
           ldg.halfB := markCopies s.ldg.halfB (seqsOf true crc) (seqsOf true mac) }

/-- 24 h have passed since the last pass (R584). -/
def State.dailyDue (s : State) : Bool :=
  s.nightOn && (match s.ldg.dailyAt with
    | some c => decide (c + 2160000000000 ≤ s.clock)
    | none => true)
/-- LEDGER_DAILY_READ (R584), every 24 h while the Night domain runs: `pages` were corrected, as (region, page), and `crc` are copies that fail their CRC, as (half B, SEQ). A
page corrected on two successive passes is replaced (R569). -/
def execLedgerDailyRead (pages : List (Nat × Nat)) (crc : List (Bool × Nat)) (s : State) : Out :=
  .next (
    if !s.dailyDue then s else
    let s := ({ s with ldg.dailyAt := some s.clock } : State).markBad crc []
    let s := crc.foldl (fun (s : State) p => s.copyRepair p.1 p.2) s
    let twice := pages.filter s.ldg.correctedPages.contains
    let s := twice.foldl (fun (s : State) p =>
      if s.ldg.poolPages > 0 then
        let s := ({ s with ldg.poolPages := s.ldg.poolPages - 1 } : State).raise (recNote 0x1003 (pageLoc p.1 p.2))
        if s.ldg.poolPages = 0 then s.zeroReserve 10 0 (regionLoc 0x14) else s
      else if p.1 = 0x10 || p.1 = 0x11 then s.pageFails (p.1 == 0x11) p.2
      else s) s
    ({ s with ldg.correctedPages := pages.filter (fun p => !twice.contains p) } : State).lowCheck)

/-! ## Mounting (R579, R580) -/

/-- Candidates of an item above its live record: each has a wrong MAC or belongs to an unsealed transaction. -/
def State.aboveLive (s : State) (c : LCopy) : Bool :=
  c.crcOk && !s.copyGood c && (match s.ldgLast c.w.section_ c.w.key with
    | some l => decide (l.seq < c.seq)
    | none => true)

/-- Records of half A, then those that only half B holds. -/
def State.ldgDistinct (s : State) : List LCopy := s.ldg.halfA ++ s.ldg.halfB.filter (fun c => !s.ldg.halfA.any (fun d => d.seq == c.seq && d.crcOk == c.crcOk))

/-- What R579 reports while it selects the live records. -/
def State.mountReports (s : State) : State :=
  let bad := s.ldgDistinct.filter s.aboveLive
  bad.foldl (fun (s : State) c => s.raise (recNote (if c.macOk then 0x1007 else 0x1006) (commitLoc 0x10))) s

/-- A live record with a correct copy in only one half is written into the other (R580). -/
def State.mountRepair (s : State) : State :=
  let live := s.ldgDistinct.filter (fun c => s.copyGood c && s.copyLive c)
  live.foldl (fun (s : State) c =>
    let inA := s.ldg.halfA.any (fun d => d.seq == c.seq && d.crcOk)
    let inB := s.ldg.halfB.any (fun d => d.seq == c.seq && d.crcOk)
    if inA && inB then s else if inA then s.copyRepair true c.seq else s.copyRepair false c.seq) s

/-- Words of the live record of an item. -/
def State.ldgWords (s : State) (sec key : Nat) : List Nat := ((s.ldgLive sec key).map LWrite.payload).getD []

/-- What the security engine holds in the ledger is read from its live records (Table 18-4). -/
def State.mountSecurity (s : State) : State :=
  let arc := s.ldgWords 0x07 0
  let own := s.ldgWords 0x09 0
  let lms := s.lmsCommitted
  let s := { s with sec.arc := (List.range 16).foldl (fun m c => spPut (fun _ => 0) m c (arc.getD c 0)) []
                    sec.lmsNext := lms, sec.nextIdx := lms, sec.lmsDue := true
                    sec.ownerKey := if own.getD 0 0 = 0 then none else some (leBytes 96 (own.getD 0 0))
                    sec.ownerCtr := own.getD 1 0
                    sec.peers := (s.ldgKeys 0x0A).map (fun k => (k, leBytes 96 ((s.ldgWords 0x0A k).getD 0 0)))
                    sec.tenantKeys := (s.ldgKeys 0x0F).foldl (fun m t => spPut (fun _ => none) m t (some (leBytes 32 ((s.ldgWords 0x0F t).getD 0 0)))) [] }
  ((s.rset Fd.SEC_STAT_REVOKED (arc.getD 16 0)).rset Fd.SEC_STAT_OWNED (b2n s.sec.ownerKey.isSome)).rset Fd.SEC_STAT_POLICY (own.getD 2 0)

/-- The committed state shows a kind of reserve at zero in some instance (R587, Table 18-5). -/
def State.committedZero (s : State) (kind : Nat) : Bool :=
  let any (sec : Nat) (p : Nat → List Nat → Bool) : Bool := (s.ldgKeys sec).any (fun k => p k (s.ldgWords sec k))
  let wire (k : Nat) : Nat := (k - 0x20000000) / 512 % 3
  match kind with
  | 0 => any 1 (fun k w => decide (k < 0x20000000) && decide (w.getD 0 0 ≥ 16))
  | 1 => any 1 (fun k w => k / 2 ^ 28 == 3 && decide (w.getD 0 0 ≥ 8))
  | 2 => any 1 (fun k w => k / 2 ^ 28 == 2 && wire k != 2 && decide (w.getD 0 0 ≥ 4))
  | 3 => any 1 (fun k w => k / 2 ^ 28 == 2 && wire k == 2 && decide (w.getD 0 0 ≥ 2))
  | 4 => any 2 (fun k w => decide (k < 0x10000) && decide (w.getD 0 0 ≥ 128))
  | 5 => any 2 (fun k w => decide (0x10000 ≤ k) && decide (w.getD 0 0 ≥ 4))
  | 6 => any 3 (fun k w => decide (w.getD 0 0 ≥ if k / 4 = 10 then 2 else 1))
  | 7 => any 4 (fun k w => decide (k < 0x10000) && decide (popCount 32 (w.getD 0 0) ≥ if 128 ≤ k ∧ k < 154 then 2 else 1))
  | 8 => any 4 (fun k _ => decide (0x10000 ≤ k))
  | 9 => any 5 (fun e w => (List.range 4).any (fun g => decide (0 < w.getD (g + 1) 0 ∧ groupSpares e ≤ w.getD (g + 1) 0)))
  | _ => s.ldg.poolPages == 0

/-- Bring-up, firmware and thermal values the ledger holds (Table 18-4). -/
def State.mountRest (s : State) : State :=
  let b := s.ldgWords 0x0C 0
  let s := if s.boot.failHeld then s
    else ((s.rset Fd.BOOT_STAT_FAILED_STARTS (b.getD 0 0)).rset Fd.BOOT_STAT_FAIL_STAGE (b.getD 1 0)).rset Fd.BOOT_STAT_FAIL_REASON (b.getD 2 0)
  let s := (s.ldgKeys 0x0D).foldl (fun (s : State) c => s.rbit Fd.FWU_STAT_ACTIVE_BANK c ((s.ldgWords 0x0D c).getD 0 0 == 1)) s
  let s := { s with thm.off := (s.ldgKeys 0x0B).foldl (fun m n => spPut (fun _ => 0) m n (((s.ldgWords 0x0B n).getD 0 4000 : Nat) - 4000 : Int)) [] }
  (List.range 11).foldl (fun (s : State) k => s.rbit Fd.LDG_RESERVE_ZERO k (s.committedZero k)) s

/-- LEDGER_MOUNT (R579, R580): `crc` and `mac` are the copies found bad, as (half B, SEQ); false where the mount fails. -/
def State.ldgMount (s : State) (crc mac : List (Bool × Nat)) (unreadable : Bool) : State × Bool :=
  let s := s.markBad crc mac
  if unreadable || (s.ldgLive 0x07 0).isNone || (s.ldgLive 0x08 0).isNone || (s.ldgKeys 0x0D).isEmpty then
    (s.raise (recNote 0x100F (regionLoc 0x10)), false)
  else
    let top := s.ldgCopies.foldl (fun a c => if c.crcOk then max a c.seq else a) 0
    let s := s.mountReports.mountRepair
    ((({ s with ldg.seq := top, ldg.mounted := true } : State).mountSecurity.mountRest).lowCheck, true)

/-! ## Repairs from the ledger (Table 17-2) -/

/-- A record applied at Predawn on its CRC alone (R580). -/
def State.ldgRaw (s : State) (sec key : Nat) : Option LCopy :=
  s.ldgCopies.foldl (fun best c =>
    if c.w.section_ == sec && c.w.key == key && c.crcOk then
      match best with
      | some b => if b.seq < c.seq then some c else best
      | none => some c
    else best) none
def State.rawKeys (s : State) (sec : Nat) : List Nat := (s.ldgCopies.filter (fun c => c.w.section_ == sec && !c.w.delete)).foldl (fun l c => insNat l c.w.key) []

/-- Phases and cells shed (Predawn): the registers follow the committed failures. -/
def State.applyPower (s : State) : State :=
  let one (s : State) (k : Nat) : State :=
    let v := (((s.ldgRaw 4 k).map (fun c => c.w.payload)).getD []).getD 0 0
    if k ≥ 0x10000 then { s with pwr.cells := insNat s.pwr.cells (k - 0x10000) }
    else { s with pwr.phases := ((bitsOf 32 v).map (· + k * 32)).foldl insNat s.pwr.phases }
  let s := (s.rawKeys 4).foldl one s
  let s := s.rset Fd.PWR_CAP_STAT_CELLS_OK (8 - s.pwr.cells.length)
  let s := (List.range (24 * s.towers)).foldl (fun (s : State) k =>
    let n := s.failedPhases k
    let s := if n > 0 then s.radd (Fd.PWR_PHASE_SHED (k / 24)) n else s
    let s := if n ≥ 2 then s.rbit (Fd.PWR_PHASE_REDUCED (k / 24)) (k % 24) true else s
    if n ≥ 3 then s.rbit (Fd.PWR_PHASE_DARK (k / 24)) (k % 24) true else s) s
  { s with pwr.pileHalf := (List.range 8).filter (fun p => (List.range 4).any (fun g => decide (s.failedPhases (96 + 4 * p + g) ≥ 2)))
           pwr.hubSlow := decide (((List.range 8).filter (fun g => decide (s.failedPhases (128 + g) ≤ 2))).length < 7) }

/-- The records applied at Predawn are those that R579 selects (R580). -/
def State.powerMacOk (s : State) : Bool :=
  (s.rawKeys 4).all (fun k => (s.ldgRaw 4 k).map LCopy.seq == (s.ldgLast 4 k).map LCopy.seq)

/-- Spare lasers (Dawn). -/
def State.applyLasers (s : State) : State :=
  (s.ldgKeys 5).foldl (fun (s : State) e =>
    let w := s.ldgWords 5 e
    let s := { s with ldg.sparesUsed := (List.range 4).foldl (fun m g => spPut (fun _ => 0) m (e * 4 + g) (w.getD (g + 1) 0)) s.ldg.sparesUsed }
    s.rset (Fd.LDG_LASER_RETIRED e) (w.getD 0 0)) s

/-- The manufacturing repairs of the fuse map: each takes a spare row or bit column of its macro (R194). -/
def State.applyFuses (s : State) : State :=
  let count (size : Nat) (l : List Nat) (m : Sp Nat) : Sp Nat := l.foldl (fun m k => spMod (fun _ => 0) m (k / size) (· + 1)) m
  { s with thl.rowsUsed := count 1024 s.thl.fuseRows [], thl.colsUsed := count 6656 s.thl.fuseCols []
           thl.rowsRepaired := s.thl.fuseRows.foldl insNat [], thl.colsRepaired := s.thl.fuseCols.foldl insNat [] }

/-- Rows, columns, wires and retirements of the Thallus; rows and coils of the piles (Sunrise): the fuse map first, then the ledger (R194). -/
def State.applyMemory (s : State) : State :=
  let thl (s : State) (k : Nat) : State :=
    let w := s.ldgWords 1 k
    let n := w.getD 0 0
    if k ≥ 0x50000000 then { s with thl.bundleRet := insNat s.thl.bundleRet (k - 0x50000000) }
    else if k ≥ 0x40000000 then { s with thl.tsvRet := insNat s.thl.tsvRet (k - 0x40000000) }
    else if k ≥ 0x30000000 then { s with thl.colsUsed := spPut (fun _ => 0) s.thl.colsUsed (k - 0x30000000) n,
                                          thl.colsRepaired := ((w.drop 1).map (· + (k - 0x30000000) * 6656)).foldl insNat s.thl.colsRepaired }
    else if k ≥ 0x20000000 then { s with thl.wires := spPut (fun _ => []) s.thl.wires (k - 0x20000000) (w.drop 1) }
    else { s with thl.rowsUsed := spPut (fun _ => 0) s.thl.rowsUsed k n
                  thl.rowsRepaired := ((w.drop 1).map (· + k * 1024)).foldl insNat s.thl.rowsRepaired }
  let pil (s : State) (k : Nat) : State :=
    let w := s.ldgWords 2 k
    let n := w.getD 0 0
    if k ≥ 0x10000 then { s with pil.coilsUsed := spPut (fun _ => 0) s.pil.coilsUsed (k - 0x10000) n,
                                  pil.coilMap := spPut (fun _ => []) s.pil.coilMap (k - 0x10000) (w.drop 1) }
    else { s with pil.rowsUsed := spPut (fun _ => 0) s.pil.rowsUsed k n
                  pil.rowsRetired := ((w.drop 1).map (· + k * 32768)).foldl insNat s.pil.rowsRetired }
  (s.ldgKeys 2).foldl pil ((s.ldgKeys 1).foldl thl s.applyFuses)

/-- Lane maps and retired links of the network (Morning). -/
def State.applyNetwork (s : State) : State :=
  (s.ldgKeys 3).foldl (fun (s : State) k =>
    let n := (s.ldgWords 3 k).getD 0 0
    let s := { s with pnw.laneMap := spPut (fun _ => []) s.pnw.laneMap k ((s.ldgWords 3 k).drop 1) }
    if k < 40 then
      let s := { s with pnw.lanesBad := spPut (fun _ => 0) s.pnw.lanesBad k (min n 1) }
      if n ≥ 2 then s.rbit (Fd.PNW_LINK_STAT_RETIRED (k / 10)) (k % 10) true else s
    else
      let s := { s with pnw.lanesBad := spPut (fun _ => 0) s.pnw.lanesBad k n }
      if 44 ≤ k then s
      else if n > 22 then (s.rset (Fd.PNW_LINK_STAT_LANES (k - 40)) 20).rset (Fd.PNW_LINK_STAT_FENCED (k - 40)) 1
      else s.rset (Fd.PNW_LINK_STAT_LANES (k - 40)) (40 - (n - 2))) s

/-! ## Lasers (R590, R591) -/

/-- LASER_FAILED (R590): replaced at once in a retrain of its link; without a spare its lane is lost. -/
def execLaserFailed (e n : Nat) (s : State) : Out :=
  .next (
    if s.enginePresent e && n < engineLasers e && s.laser e n ≤ 1 then
      let s := (s.setLaser e n 0).laserReplace e n
      let l := if s.portSplit e then 2 * e + n / 4 else 2 * e
      if e < 16 && s.linkState l = 2 then s.setLinkState l 3 else s
    else s)

end Sys2Proof.Machine
end

