-- ==== Sys2Proof/Machine/BringUp.lean ====
section
/-!
DEFINITION. Bring-up from Night to Noon (R537–R553), failed starts, Twilight mode and the recovery loader (R554–R558, R666).
-/

namespace Sys2Proof.Machine

/-! ## Stage reports and the removal request -/

/-- The 2,048 bytes of a stage report (Table 17-4). -/
def stageBytes (n : Nat) (r : StageRep) : List Byte :=
  if r.outcome = 4 then leBytes 4 0x52534A46 ++ leBytes 1 n ++ leBytes 1 4 ++ List.replicate 2042 0#8
  else
    let head := leBytes 4 0x52534A46 ++ leBytes 1 n ++ leBytes 1 r.outcome ++ leBytes 2 r.attempt ++ leBytes 8 r.startTs ++ leBytes 4 r.elapsedUs ++
      leBytes 2 r.fatal ++ leBytes 1 r.recs.length ++ leBytes 1 r.ndrop ++ leBytes 2 r.frondUp ++ leBytes 2 r.fportUp ++ leBytes 1 r.pileUp ++
      leBytes 1 r.towerUp ++ leBytes 1 r.endpoints ++ leBytes 1 r.rounds ++ List.replicate 32 0#8
    (head ++ r.recs.flatMap FaultRec.bytes ++ List.replicate 2048 0#8).take 2048
def report (m : Sp StageRep) (n : Nat) : StageRep := spGet (fun _ => StageRep.init) m n
def reportSet (m : Sp StageRep) : List Byte := (List.range 7).flatMap (fun n => stageBytes n (report m n))

/-- What a failed start, a clearing, or Noon commits to section 0x0C: the counts, and a set of reports (R553, R554). -/
def State.bootRec (s : State) : LWrite :=
  ⟨0x0C, 0, false, [s.rget Fd.BOOT_STAT_FAILED_STARTS, s.rget Fd.BOOT_STAT_FAIL_STAGE, s.rget Fd.BOOT_STAT_FAIL_REASON], 16⟩
def State.startsRec (s : State) : LWrite := ⟨0x06, 0, false, [s.ldg.starts], 8⟩

/-- The removal sequence begins with phase 1 (Table 21-4). -/
def State.removalBegin (s : State) : State :=
  ((s.rset Fd.HUB_CONN_STAT_RM_PHASE 1).raise (recNote 0x1202 modLoc)).msi (s.rget Fd.HUB_RM_CTL_VECTOR)

/-- Bring-up is abandoned at the end of a stage, and removal proceeds (R540). -/
def State.abandon (s : State) : State :=
  (({ s with boot.running := false, boot.failed := none } : State).raise (recNote 0x0F16 modLoc)).removalBegin

/-- Duration of the present stage in µs. -/
def State.elapsed (s : State) : Nat := (s.clock - s.boot.stageAt) / 25

/-- The stage passes; a removal request raised meanwhile ends the start (R537, R540). -/
def State.stageEnd (s : State) (n endpoints rounds : Nat) : State :=
  if s.rget Fd.HUB_CONN_STAT_REMOVE = 1 then
    (s.setReport n (s.stageReport (b2n (s.stageRecs.any (fun r => r.fence != 0))) 0 s.elapsed endpoints rounds)).abandon
  else s.stagePass n s.elapsed endpoints rounds

/-- A start is in progress and its stage is `n`. -/
def State.inStage (s : State) (n : Nat) : Bool := s.boot.running && s.stage == n

/-! ## Night and Predawn -/

/-- NIGHT_STAGE (R537, R539, R666): a cold start begins; the boot ROM is checked. A module whose ROM fails its check stays in Night. -/
def execNightStage (romOk : Bool) (s : State) : Out :=
  .next (
    if !s.nightOn || s.fencedAt .modul || s.boot.running || s.stage ≠ 0 || s.atNoon || s.boot.retryAt.isSome || s.boot.failed.isSome || s.rget Fd.HUB_CONN_STAT_RM_PHASE ≠ 0 then s
    else
      let s := s.startCold
      let s := ({ s with ldg.starts := s.ldg.starts + 1, boot.startsHeld := true, boot.failed := none, boot.reports := [] } : State).stageBegin 0
      let s := { s with boot.earlyAt := 0, boot.dropAt := 0 }
      if !romOk then
        let s := s.raise (recNote 0x0F02 (locKeep 0 0 0xFF 0xFFFF))
        { s.setReport 0 (s.stageReport 2 0x0F02 0 0 0) with boot.failed := some (0, 0x0F02) }
      else
        let s := s.setReport 0 (s.stageReport 0 0 0 0 0)
        let s := { s with boot.running := true }
        if s.rget Fd.THM_COOL_FLOW_OK = 1 then s
        else (({ s with boot.coolantSaid := true } : State).rset Fd.BOOT_STAT_FLOW_WAIT 1).raise (recNote 0x0F15 modLoc))

/-- Predawn may begin: flow is present and the latch is closed (R539, R653); a start from Predawn waits for the latch alone. -/
def State.predawnReady (s : State) : Bool :=
  s.rget Fd.HUB_CONN_STAT_LATCH_OPEN == 0 &&
    (s.inStage 1 || (s.inStage 0 && (report s.boot.reports 0).outcome == 0 && s.rget Fd.THM_COOL_FLOW_OK == 1))

/-- Sensors found bad by the reference current (R525). -/
def State.sensorTest (s : State) (bad : List Nat) : State :=
  (bad.filter s.sensorList.contains).foldl (fun (s : State) k =>
    ({ s with thm.flagged := insNat s.thm.flagged k } : State).raise (recNote 0x0E08 (sensorLoc k))) s

/-- Hub groups with at least two working phases (Table 15-5). -/
def State.hubGroups (s : State) : Nat := ((List.range 8).filter (fun g => decide (s.failedPhases (128 + g) ≤ 2))).length

/-- The work of Predawn once its fuse map is valid. -/
def State.predawnWork (s : State) (sensorsBad : List Nat) (inlet : Option Int) : State :=
  let s := s.applyPower
  if s.pwr.cells.length > 6 then (s.moduleFence 0x0D0A inputDieLoc false).stageFailed 1 0x0D0A s.elapsed
  else if s.hubGroups < 5 then (s.moduleFence 0x0D10 ⟨3, 0, 0, 0xF, 0x3F, 0xFF, 0xFFFF⟩ false).stageFailed 1 0x0D10 s.elapsed
  else ((s.modelStart inlet).sensorTest sensorsBad).stageEnd 1 0 0

/-- PREDAWN (R537, R580): fuse map, conversion and the hub's supply with their committed repairs, sensor test, thermal model. -/
def execPredawn (fuseOk : Bool) (sensorsBad : List Nat) (inlet : Option Int) (s : State) : Out :=
  .next (
    if s.predawnReady then
      let s := if s.stage = 0 then s.stageBegin 1 else s
      let s := { s with boot.predawn := true }
      if fuseOk then s.predawnWork sensorsBad inlet else s.stageFail 1 0x0F03 2 s.elapsed (locKeep 0 3 0xFF 0xFFFF)
    else s)

/-! ## First light -/

/-- The records held by the keep die enter the log, with SEQ from 0 (R598, R604). -/
def State.earlyEnter (s : State) : State :=
  let l := s.flt.early.reverse
  l.foldl (fun (s : State) r =>
    let r := { r with seq := s.flt.seqNext, early := true, held := false }
    ({ s with flt.log := r :: s.flt.log, flt.seqNext := s.flt.seqNext + 1 } : State).deliver r) { s with flt.early := [] }

/-- The image of a class: the active bank's, or with its record the other bank's; each image that fails R465 is refused (R543). -/
def State.pickImage (s : State) (c : Nat) : State × Option FwImage :=
  let a := s.bankOf c
  let why (b : Nat) : Option Nat := match s.slotImg b c with
    | some q => if manClass q.manifest = c then s.manCheck q.manifest q.image else some 0x0C01
    | none => some 0x0C01
  let used (s : State) (b : Nat) : State × Option FwImage :=
    ({ s with boot.bankUsed := spPut (fun _ => 0) s.boot.bankUsed c b
              fwu.store := spPut (fun _ => none) s.fwu.store c (s.slotImg b c) }, s.slotImg b c)
  match why a with
  | none => used s a
  | some e =>
    let s := s.manRefused c e
    match why (1 - a) with
    | none => used (s.raise (recNote 0x0F07 (endpointLoc c 0))) (1 - a)
    | some e => (s.manRefused c e, none)

/-- The recovery loader runs instead of the rest of First light; only the Night domain is up, so the security engine's work is over (R543,
R558). -/
def State.loaderEnter (s : State) : State :=
  ((({ (s.rset Fd.SEC_STAT_ENGINE_UP 0).rset Fd.SEC_STAT_RNG_OK 0 with boot.running := false, boot.cores := [], sec.derived := false } : State).rset Fd.BOOT_STAT_LOADER 1).rset Fd.BOOT_STAT_STAGE 7).raise (recNote 0x0F12 modLoc)

/-- Twilight mode is entered (R556): only the units of R28 stay up. -/
def State.twilightEnter (s : State) : State :=
  (((({ s with boot.running := false, hpt.ready := true } : State).rset Fd.BOOT_STAT_TWILIGHT 1).rset Fd.BOOT_STAT_STAGE 7).raise
    (recNote 0x0F11 modLoc)).capBump

/-- First light ends: cores that fail are fenced, and a cold start after three failed starts goes to Twilight mode (R542, R555). -/
def State.coresStart (s : State) (coresBad : List Nat) : State :=
  let s := (List.range 4).foldl (fun (s : State) i => if coresBad.contains i then s.endpointFence 1 i else s.endpointStart 1 i) s
  if s.boot.cores.length < 2 then s.stageFail 2 0x0F06 2 s.elapsed modLoc
  else
    let s := s.stageEnd 2 0 0
    if s.boot.running && s.rget Fd.BOOT_STAT_FAILED_STARTS ≥ 3 && !s.boot.fromTwilight then s.twilightEnter else s

/-- The security engine is up: it derives the device keys and issues the alias certificate, and the count of starts is committed (R460,
R542, R666). -/
def State.secStart (s : State) : State :=
  let s := ((({ s with sec.derived := true } : State).secRestart.endpointStart 0 0).rset Fd.SEC_STAT_RNG_OK 1).issueAlias.commitFor [s.startsRec] .starts
  if s.boot.failHeld then s.commitFor [s.bootRec] .boot else s

/-- FIRST_LIGHT (R542, R543): `crc` and `mac` are the ledger copies found bad, `unreadable` a ledger that cannot be read, `secStarts`
whether the security engine's image brings it up, `coresBad` the cores that fail their self-test. -/
def execFirstLight (crc mac : List (Bool × Nat)) (unreadable secStarts : Bool) (coresBad : List Nat) (s : State) : Out :=
  .next (
    if !s.inStage 2 then s
    else
      let s := s.earlyEnter
      match s.ldgMount crc mac unreadable with
      | (s, false) => s.stageFail 2 0x0F04 2 s.elapsed modLoc
      | (s, true) =>
        match s.pickImage 0 with
        | (s, none) => s.loaderEnter
        | (s, some _) =>
          if !secStarts then s.stageFail 2 0x0F05 2 s.elapsed modLoc
          else if !s.secStart.powerMacOk then s.secStart.stageFail 2 0x1006 2 s.elapsed (commitLoc 0x10)
          else match s.secStart.pickImage 1 with
          | (s, none) => s.loaderEnter
          | (s, some _) => s.coresStart coresBad)

/-! ## Dawn: spore broadcast (R544–R547) -/

/-- Chunks an endpoint still misses after pass `p` (0 the broadcast, 1–3 the repair rounds): those lost in every pass so far. -/
def missing (lost : List (Nat × Nat)) : Nat → List Nat
  | 0 => (lost.filter (fun x => x.1 == 0)).map (·.2)
  | p + 1 => (missing lost p).filter (fun k => lost.contains (p + 1, k))
/-- Repair rounds an endpoint takes. -/
def roundsUsed (lost : List (Nat × Nat)) : Nat := ((List.range 3).filter (fun p => !(missing lost p).isEmpty)).length

/-- Chunks whose contents do not have the tag the manifest lists: every copy is discarded (R545). -/
def badChunks (c : Nat) (q : FwImage) : List Nat :=
  (List.range (manChunks q.manifest)).filter (fun k => chunkTag c k (slice q.image (4096 * k) 4096) != manTag q.manifest k)
/-- What an endpoint loses: what befalls its receptions within the image, and the chunks no copy of which passes. -/
def lostOf (c i : Nat) (q : FwImage) (lost : List (Nat × Nat × List (Nat × Nat))) : List (Nat × Nat) :=
  let n := manChunks q.manifest
  let mine := (lost.filter (fun x => x.1 == c && x.2.1 == i)).flatMap (fun x => x.2.2.filter (fun y => decide (y.2 < n)))
  mine ++ (badChunks c q).flatMap (fun k => (List.range 4).map (fun p => (p, k)))

/-- An endpoint is never started: its record, and Table 17-3 (R546). -/
def State.incomplete (s : State) (c i : Nat) : State := (s.raise (recNote 0x0F08 (endpointLoc c i))).endpointFence c i

/-- The endpoint's site has power and a path for spores. -/
def State.sporeReach (s : State) (c i : Nat) : Bool :=
  match c with
  | 7 => s.rget (Fd.TWR_STAT_STEWARD_UP (i / 32)) == 1 && s.rget (Fd.TWR_STAT_STATE (i / 32)) == 2 && !s.fencedIn (.frond (i / 8))
  | 6 => s.rget (Fd.TWR_STAT_STEWARD_UP (i / 4)) == 1 && s.rget (Fd.TWR_STAT_STATE (i / 4)) == 2
  | 3 => s.zoneState (4 + i) == 1
  | 2 => s.rget (Fd.TWR_STAT_STATE i) == 2
  | _ => true

/-- One class is broadcast: the state, the endpoints left incomplete and the repair rounds used. -/
def State.sporeClass (s : State) (lost : List (Nat × Nat × List (Nat × Nat))) (c : Nat) : State × Nat × Nat :=
  let eps := (s.endpoints c).filter (s.sporeReach c)
  match s.pickImage c with
  | (s, none) => (eps.foldl (fun (s : State) i => s.incomplete c i) s, eps.length, 0)
  | (s, some q) =>
    let bad := eps.filter (fun i => !(missing (lostOf c i q lost) 3).isEmpty)
    let s := eps.foldl (fun (s : State) i =>
      if bad.contains i then s.incomplete c i else if c < 6 then s.endpointStart c i else s) s
    (s, bad.length, eps.foldl (fun a i => max a (roundsUsed (lostOf c i q lost))) 0)

/-- A zone that may run is powered (R506); a tower reaches its loading state. -/
def State.zoneOn (s : State) (z : Nat) : State :=
  if s.zoneLatched z then s
  else
    let s := s.setZone z 1
    if z < 4 then (s.rset (Fd.TWR_STAT_STATE z) 2).rset (Fd.TWR_STAT_CHAIN_OK z) 1 else s

/-- Engines whose committed regulator failures leave them dark (R502). -/
def State.darkEngines (s : State) : State :=
  ((List.range 18).filter (fun e => s.enginePresent e && decide (s.failedPhases (136 + e) ≥ 3))).foldl
    (fun (s : State) e => s.engineDark e 0x0D0E (phaseLoc (136 + e) 0xFF)) s

/-- DAWN (R544–R547): sites powered, spare lasers applied, and the six classes broadcast; `lost` names, by class and endpoint, the
receptions (pass, chunk) that fail. -/
def execDawn (lost : List (Nat × Nat × List (Nat × Nat))) (s : State) : Out :=
  .next (
    if !s.inStage 3 then s
    else
      let s := (s.zones.foldl (fun (s : State) z => s.zoneOn z) s).applyLasers.darkEngines
      let (s, n, rounds) := [2, 3, 4, 5, 6, 7].foldl (fun (acc : State × Nat × Nat) c =>
        let (s, k, r) := acc.1.sporeClass lost c
        (s, acc.2.1 + k, max acc.2.2 r)) (s, 0, 0)
      if (List.range s.towers).all (fun t => s.rget (Fd.TWR_STAT_STEWARD_UP t) == 0) then s.stageFail 3 0x0F0D 2 s.elapsed modLoc
      else s.stageEnd 3 (min 255 n) rounds)

/-! ## Sunrise (R194, R195, R204, R274) -/

def macroLoc (mk : Nat) : Loc :=
  let bg := mk / 32
  locThl (bg / 256) (bg / 128 % 2) (bg / 32 % 4) (bg % 32) (mk % 32) 0xFFFF

/-- The march test of one macro: newly failed rows and bit columns take its spares, or its bank group is out of service. -/
def State.marchTest (s : State) (mk : Nat) (rows cols : List Nat) : State :=
  let ru := spGet (fun _ => 0) s.thl.rowsUsed mk
  let cu := spGet (fun _ => 0) s.thl.colsUsed mk
  if ru + rows.length > 16 || cu + cols.length > 8 then
    let bg := mk / 32
    let u := locThl (bg / 256) (bg / 128 % 2) (bg / 32 % 4) (bg % 32) 0xFF 0xFFFF
    ({ s with thl.unavail := insNat s.thl.unavail bg } : State).fenceEngine 0x030B (macroLoc mk) u false false none
  else
    let s := if rows.isEmpty then s
      else
        let s := { s with thl.rowsUsed := spPut (fun _ => 0) s.thl.rowsUsed mk (ru + rows.length)
                          thl.rowsRepaired := (rows.map (· + mk * 1024)).foldl insNat s.thl.rowsRepaired }
        let s := s.commit [⟨1, mk, false, (ru + rows.length) :: (s.thl.rowsRepaired.filter (fun k => k / 1024 == mk)).map (· % 1024), 48⟩]
        if ru + rows.length = 16 then s.zeroReserve 0 mk (macroLoc mk) else s
    if cols.isEmpty then s
    else
      let s := { s with thl.colsUsed := spPut (fun _ => 0) s.thl.colsUsed mk (cu + cols.length)
                        thl.colsRepaired := (cols.map (· + mk * 6656)).foldl insNat s.thl.colsRepaired }
      let s := s.commit [⟨1, 0x30000000 + mk, false, (cu + cols.length) :: (s.thl.colsRepaired.filter (fun k => k / 6656 == mk)).map (· % 6656), 32⟩]
      if cu + cols.length = 8 then s.zeroReserve 1 mk (macroLoc mk) else s

/-- A retired link that passes its test with enough spares returns to service (R204). -/
def State.linkBack (s : State) (kind col : Nat) : State :=
  if kind = 2 then
    ({ s with thl.tsvRet := s.thl.tsvRet.filter (· != col) } : State).commit [⟨1, 0x40000000 + col, true, [], 0⟩]
  else ({ s with thl.bundleRet := s.thl.bundleRet.filter (· != col) } : State).commit [⟨1, 0x50000000 + col, true, [], 0⟩]

/-- Whether a link's failed wires exceed a segment's spares. -/
def State.wiresOver (s : State) (col kind : Nat) (failed : List (Nat × Nat)) : Bool :=
  (List.range 16).any (fun seg =>
    decide (s.wiresUsed (col / 128) (col / 32 % 4) kind (col % 32) seg + (failed.filter (fun w => w.1 == seg)).length > wireSpares kind))
def failedOf (wires : List WireFail) (col kind : Nat) : List (Nat × Nat) :=
  (wires.filter (fun w => ((w.tower * 4 + w.quad) * 32 + w.column) == col && w.kind == kind)).flatMap WireFail.failed

/-- The retired links that stay retired keep what R202 and R203 say of them. -/
def State.retiredStay (s : State) : State :=
  let pairs (l : List Nat) : List Nat := l.filter (fun c => l.contains (c ^^^ 1) && c % 2 == 0)
  let s := (pairs s.thl.tsvRet).foldl (fun (s : State) c => s.columnGone (c / 128) (c / 32 % 4) (c % 32) true) s
  (pairs s.thl.bundleRet).foldl (fun (s : State) c => s.columnGone (c / 128) (c / 32 % 4) (c % 32) false) s

/-- The newly failed wires of a tower's links take their spares (R183). -/
def State.wireFails (s : State) (wires : List WireFail) : State :=
  wires.foldl (fun (s : State) w =>
    if s.bgThere w.tower 0 w.quad w.column && w.kind < 3 then s.wireTest w.tower w.quad w.kind w.column w.failed else s) s

/-- The wire test of every link; a link not named has no newly failed wire. -/
def State.wireTests (s : State) (wires : List WireFail) : State :=
  let s := s.thl.tsvRet.foldl (fun (s : State) c => if s.wiresOver c 2 (failedOf wires c 2) then s else s.linkBack 2 c) s
  let s := s.thl.bundleRet.foldl (fun (s : State) c =>
    if s.wiresOver c 0 (failedOf wires c 0) || s.wiresOver c 1 (failedOf wires c 1) then s else s.linkBack 0 c) s
  (s.wireFails wires).retiredStay

/-- Towers in a state of Table 17-10. -/
def State.towersIn (s : State) (st : Nat) : List Nat := (List.range s.towers).filter (fun t => s.rget (Fd.TWR_STAT_STATE t) == st)

/-- SUNRISE (R537): pile training (`piles` fail it, `coils` are found lost), the march test by macro (`march`: rows and bit columns newly
failed), and the wire test (`wires`). -/
def execSunrise (piles : List Nat) (coils : List (Nat × Nat × Nat)) (march : List (Nat × List Nat × List Nat))
    (wires : List WireFail) (s : State) : Out :=
  .next (
    if !s.inStage 4 then s
    else
      let s := s.applyMemory
      let s := (s.towersIn 2).foldl (fun (s : State) t => s.rset (Fd.TWR_STAT_STATE t) 3) s
      let dark := (List.range s.piles).filter (fun p => (List.range 4).any (fun g => decide (s.failedPhases (96 + 4 * p + g) ≥ 3)))
      let s := dark.foldl (fun (s : State) p => s.fencePile p 0x0D0E (pileLoc p) false) s
      let s := (piles.filter (fun p => decide (p < s.piles))).foldl (fun (s : State) p => s.fencePile p 0x050B (pileLoc p) false) s
      let s := coils.foldl (fun (s : State) c => s.coilLost c.1 c.2.1 c.2.2) s
      let s := (march.filter (fun m => decide (m.1 < s.towers * 8192))).foldl (fun (s : State) m => s.marchTest m.1 m.2.1 m.2.2) s
      let s := s.wireTests wires
      if (s.towersIn 3).isEmpty then s.stageFail 4 0x0F0D 2 s.elapsed modLoc else s.stageEnd 4 0 0)

/-! ## Morning (R548–R550) -/

/-- FROND_TEST_FAILED (R549): engine 0–7 an array, 0x10 + c a cluster; anything else fences the Frond. A fenced Frond is not tested. -/
def State.frondTest (s : State) (f e : Nat) : State :=
  if s.fencedAt (.frond f) then s
  else if e < 8 then s.fenceEngine 0x0F0E (arrLoc f e) (arrLoc f e) false false none
  else if 0x10 ≤ e && e < 0x14 then s.fenceEngine 0x0F0E (clusterLoc f (e - 0x10)) (clusterLoc f (e - 0x10)) false false none
  else s.fenceFrond f 0x0F0E (locFrondWhole f) false

/-- A retired network link is tested again, and returns to service if no lane fails (R288). -/
def State.netLinkTest (s : State) (links : List (Nat × List Nat)) (k : Nat) : State :=
  let failed := (links.filter (fun x => x.1 == k)).flatMap (·.2)
  if s.linkRetired (k / 10) (k % 10) && failed.isEmpty then
    (s.rbit (Fd.PNW_LINK_STAT_RETIRED (k / 10)) (k % 10) false).laneCommit k 1
  else failed.foldl (fun (s : State) lane => s.netLane (k / 10) (k % 10) lane) s

/-- Lanes of tower networks that fail their tests. -/
def State.lanesFail (s : State) (links : List (Nat × List Nat)) : State :=
  links.foldl (fun (s : State) x => x.2.foldl (fun (s : State) lane => s.netLane (x.1 / 10) (x.1 % 10) lane) s) s

/-- The sequencers of a Frond start the images of the store (R546, R547). -/
def State.seqStart (s : State) (f : Nat) : State :=
  if s.fencedIn (.frond f) then s
  else
    let s := if (s.storeImg 6).isSome then s.endpointStart 6 f else s
    if (s.storeImg 7).isSome then
      (List.range 8).foldl (fun (s : State) a => if s.arrFenced f a then s else s.endpointStart 7 (8 * f + a)) s
    else s

/-- Groups of a tower whose committed failures leave them dark (R500). -/
def State.darkGroups (s : State) (t : Nat) : State :=
  ((List.range 24).filter (fun g => decide (s.failedPhases (24 * t + g) ≥ 3))).foldl
    (fun (s : State) g => s.towerGroupDark t g (phaseLoc (24 * t + g) 0xFF)) s

/-- A parked session is restored with its key (R385, R382). -/
def State.parkRestore (s : State) (x : Nat) : State :=
  let w := s.ldgWords 0x0E x
  s.modSlot x (fun _ => { Slot.init with st := .parked, bound := true, parkCount := w.getD 0 0, tokens := w.getD 1 0, layersM1 := w.getD 2 0
                                         tb := w.getD 3 0, tenant := w.getD 4 0, asid := w.getD 5 0, pool := w.getD 6 0
                                         key := some (leBytes 32 (w.getD 7 0)) })

/-- The tables and modes when Morning passes (R550). -/
def State.morningTables (s : State) : State :=
  let keys := ((List.range s.towers).flatMap (fun t => (List.range 128).map (· + 128 * t))).filter (fun k => s.bgAvail (k / 32) (k % 32))
  let s := { s with msc.mode := keys.foldl (fun m k => spPut (fun _ => 0) m k 1) [], msc.lines := [], msc.plru := []
                    pil.applied := s.regionTable, hpt.capGen := 2, thl.distGen := 2, sor.sori := [], ses.pools := [], ses.slots := [] }
  let s := (List.range 16).foldl (fun (s : State) n =>
    let r := s.pil.applied.getD n Region.init
    let lost := (List.range s.channels).any (fun c => r.uses s.channels c && s.chanLost c)
    (s.rset (Fd.PIL_REGION_CHOFF_MIB n) r.choff).rset (Fd.PIL_REGION_LOST n) (b2n lost)) s
  let s := (s.ldgKeys 0x0E).foldl (fun (s : State) x => s.parkRestore x) s
  (List.range s.fronds).foldl (fun (s : State) f => s.setTclk f 1400) s

/-- MORNING (R548–R550): `routers` that fail, `links` with the lanes that fail, and the Frond `tests` that fail, as (Frond, engine). -/
def execMorning (routers : List (Nat × Nat)) (links : List (Nat × List Nat)) (tests : List (Nat × Nat)) (s : State) : Out :=
  .next (
    if !s.inStage 5 then s
    else
      let s := s.applyNetwork
      let ts := s.towersIn 3
      let s := ts.foldl (fun (s : State) t => s.rset (Fd.TWR_STAT_STATE t) 4) s
      let ks := ts.flatMap (fun t => (List.range 10).map (· + 10 * t))
      let s := ks.foldl (fun (s : State) k => s.netLinkTest links k) s
      let s := ts.foldl (fun (s : State) t => (List.range 4).foldl (fun (s : State) q => s.quadrantCheck t q) s) s
      let s := (ts.filter (fun t => s.rget (Fd.PNW_LINK_STAT_FENCED t) == 1)).foldl (fun (s : State) t => s.fenceTower t 0x0605 (towerLinkLoc t 0xFF) true) s
      let s := (links.filter (fun x => ts.contains (x.1 - 40) && decide (40 ≤ x.1))).foldl (fun (s : State) x =>
        x.2.foldl (fun (s : State) lane => s.towerLane (x.1 - 40) lane) s) s
      let s := (routers.filter (fun x => ts.contains x.1)).foldl (fun (s : State) x => s.routerFailed x.1 x.2) s
      let s := ts.foldl (fun (s : State) t => (s.darkGroups t).routeTables t) s
      let fs := ts.flatMap (fun t => (List.range 4).map (· + 4 * t))
      let s := fs.foldl (fun (s : State) f => s.seqStart f) s
      let s := (tests.filter (fun x => fs.contains x.1)).foldl (fun (s : State) x => s.frondTest x.1 x.2) s
      if !(List.range s.fronds).any s.frondUp then s.stageFail 5 0x0F0D 2 s.elapsed modLoc else s.morningTables.stageEnd 5 0 0)

/-! ## Noon (R551) -/

/-- The host port's clock starts, LINK_READY is asserted, and every enabled port makes one attempt. -/
def State.noonStart (s : State) : State :=
  let ports := (List.range s.part.fports).filter (fun p => s.rget (Fd.FAB_PORT_CFG_EN p) == 1 && !s.fencedAt (portFence p 0xFF))
  (ports.flatMap s.portLinks).foldl (fun (s : State) l => s.trainStart l) { s with hpt.ready := true }

/-- Anti-rollback raises that waited for a Noon at which every endpoint of their class runs (R638). -/
def State.raisesDue (s : State) : State :=
  s.fwu.raises.foldl (fun (s : State) x =>
    if (s.endpoints x.1).all (s.endpointRuns x.1) then
      let s := { s with sec.arc := spPut (fun _ => 0) s.sec.arc x.1 (max (s.arc x.1) x.2.1), fwu.raises := s.fwu.raises.filter (· != x) }
      let s := s.rset Fd.SEC_STAT_REVOKED (s.revoked ||| x.2.2)
      s.commit [arcRec s.sec.arc s.revoked]
    else s) s

/-- An update that the loss of both supplies interrupted: INTERRUPTED, then resumed where it may be (R634). -/
def State.updateInterrupted (s : State) : State :=
  let l := updateOrder.filter (fun c => (s.ldgWords 0x0D c).getD 1 0 == 1)
  match l with
  | [] => s
  | c :: _ =>
    let s := { s with fwu.todo := l, fwu.switched := [], fwu.cur := none
                      fwu.fresh := l.foldl (fun m c => spPut (fun _ => none) m c (s.slotImg (1 - s.bankOf c) c)) [] }
    ((s.setFwuState 5).rset Fd.FWU_STAT_CLASS c).updateResume

/-- Noon is reached. -/
def State.noonReached (s : State) : State :=
  let fenced := s.stageRecs.any (fun r => r.fence != 0)
  let s := s.setReport 6 (s.stageReport (b2n fenced) 0 s.elapsed 0 0)
  if s.rget Fd.HUB_CONN_STAT_REMOVE = 1 then s.abandon
  else
    let s := ({ s with boot.running := false, boot.noonAt := some s.clock } : State).rset Fd.BOOT_STAT_AT_NOON 1
    let s := s.commit [⟨0x0C, 1, false, [leNat (reportSet s.boot.reports)], 14336⟩]
    s.raisesDue.updateInterrupted.capBump

/-- NOON (R551): the training attempts begin; the stage passes when each has ended. -/
def execNoon (s : State) : Out :=
  .next (
    if !s.inStage 6 || s.atNoon then s
    else
      let s := if s.hpt.ready then s else s.noonStart
      if (List.range 32).any (fun l => s.linkThere l && s.linkState l == 1) then s else s.noonReached)

/-! ## Failed starts and Twilight (R554–R558) -/

/-- Timeout of a stage in µs (Table 17-1). -/
def stageTimeout (n : Nat) : Nat := [80000, 600000, 800000, 2400000, 4800000, 2400000, 920000].getD n 0

/-- The present stage is at work: Night's own work is over once it waits for coolant (R539). -/
def State.stageWorks (s : State) : Bool := s.boot.running && decide (s.stage < 7) && !(s.stage == 0 && (report s.boot.reports 0).outcome == 0)

/-- STAGE_TIMEOUT (R538). -/
def execStageTimeout (s : State) : Out :=
  .next (if s.stageWorks && s.elapsed ≥ stageTimeout s.stage then s.stageFail s.stage 0x0F01 3 s.elapsed modLoc else s)

/-- Every regulator but those of the Night domain and the hub branch is switched off (R555): zones, light engines and what runs on them. -/
def State.zonesOff (s : State) : State :=
  let s := { s.fabricDark.rset Fd.SES_STAT_ENGINE_UP 0 with boot.pileCtl := [] }
  s.zones.foldl (fun (s : State) z =>
    let s := if s.zoneLatched z then s else s.setZone z 0
    if z < 4 then
      let s := s.towerDark z
      if s.rget (Fd.TWR_STAT_STATE z) = 7 then s else s.rset (Fd.TWR_STAT_STATE z) 1
    else s.pileDark (z - 4)) s

/-- FAILED_START_COUNTED (R554, R555, R553, R666): the count first, then the zones, then another start or Twilight mode. A removal
request raised meanwhile ends the start uncounted (R540). A module whose ROM check failed stays in Night. -/
def execFailedStartCounted (s : State) : Out :=
  .next (match s.boot.failed with
    | none => s
    | some (n, reason) =>
      if reason = 0x0F02 then s
      else if s.rget Fd.HUB_CONN_STAT_REMOVE = 1 then s.abandon
      else
        let count := min 15 (s.rget Fd.BOOT_STAT_FAILED_STARTS + 1)
        let s := ((s.rset Fd.BOOT_STAT_FAILED_STARTS count).rset Fd.BOOT_STAT_FAIL_STAGE n).rset Fd.BOOT_STAT_FAIL_REASON reason
        let s := s.raise (recNote 0x0F0F modLoc)
        let s := { s with boot.failed := none, boot.lastFailed := s.boot.reports, boot.failHeld := true }
        let ws := [s.bootRec, ⟨0x0C, 2, false, [leNat (reportSet s.boot.lastFailed)], 14336⟩] ++ (if s.boot.startsHeld then [s.startsRec] else [])
        let s := (s.commitFor ws .boot).zonesOff
        if count ≥ 3 then s.twilightEnter else { s with boot.retryAt := some (s.clock + 25000000) })

/-- START_RETRY (R555, R557): 1 s after a failed start, or when an update has completed in Twilight mode. -/
def execStartRetry (s : State) : Out :=
  .next (match s.boot.retryAt with
    | some c => if c ≤ s.clock && s.rget Fd.HUB_CONN_STAT_RM_PHASE = 0 then s.startAtPredawn s.twilight else s
    | none => s)

/-- FAILED_START_COUNT_CLEARED (R554): after 3,600 s at Noon. -/
def execFailedStartCountCleared (s : State) : Out :=
  .next (match s.boot.noonAt with
    | some c =>
      if s.atNoon && s.rget Fd.BOOT_STAT_FAILED_STARTS ≠ 0 && s.clock - c ≥ 90000000000 then
        let s := (s.rset Fd.BOOT_STAT_FAILED_STARTS 0).raise (recNote 0x0F10 modLoc)
        s.commit [s.bootRec]
      else s
    | none => s)

/-- RETRY (R557): BOOT_CTL.RETRY written in Twilight mode; without effect outside it. -/
def execRetry (s : State) : Out := .next (if s.twilight && s.rget Fd.HUB_CONN_STAT_RM_PHASE = 0 then s.startAtPredawn true else s)

/-- RECOVERY_LOADER_START (R558): both classes have a passing image in some bank. -/
def execRecoveryLoaderStart (s : State) : Out :=
  .next (
    if s.rget Fd.BOOT_STAT_LOADER = 1 && s.rget Fd.HUB_CONN_STAT_RM_PHASE = 0 && [0, 1].all (fun c => s.slotPasses 0 c || s.slotPasses 1 c) then s.startAtPredawn true else s)

end Sys2Proof.Machine
end

