-- ==== Sys2Proof/Machine/Restart.lean ====
section
/-!
DEFINITION. Restarts of a Frond or a tower (R559–R563). Units: Frond f is f, tower t is 16 + t.
-/

namespace Sys2Proof.Machine

def restartsOf (m : Sp (Option (List (Nat × Nat)))) (u : Nat) : Option (List (Nat × Nat)) := spGet (fun _ => none) m u
def State.setRestarting (s : State) (u : Nat) (v : Option (List (Nat × Nat))) : State :=
  { s with boot.restarting := spPut (fun _ => none) s.boot.restarting u v }
def State.setRestartLatched (s : State) (u : Nat) (v : Option (List (Nat × Nat))) : State :=
  { s with boot.latched := spPut (fun _ => none) s.boot.latched u v }
/-- Descriptors complete with a status (Table 17-5). -/
def State.restartsDone (s : State) (l : List (Nat × Nat)) (status : Nat) : State :=
  l.foldl (fun (s : State) d => s.complete d.1 d.2 status 0 0) s

/-! ## Whether a unit can be restarted (Table 17-5, R506) -/

/-- A regulator group of the Frond's own rails, or the core rail it shares, is dark (Table 15-4). -/
def State.railDark (s : State) (f : Nat) : Bool :=
  ((List.range 5).map (· + 5 * (f % 4 / 2)) ++ [10 + f % 4, 14 + f % 4]).any (fun g => decide (s.failedPhases (24 * (f / 4) + g) ≥ 3))
/-- The tower's link has failed, or its zone is latched off. -/
def State.towerOut (s : State) (t : Nat) : Bool :=
  decide (s.towers ≤ t) || s.zoneLatched t || s.rget (Fd.PNW_LINK_STAT_FENCED t) == 1
def State.restartable (s : State) (u : Nat) : Bool :=
  if u < 16 then !s.towerOut (u / 4) && !s.railDark u && (!s.fencedAt (.tower (u / 4)) || s.restarting (16 + u / 4))
  else !s.towerOut (u - 16) &&
    !(decide (s.failedPhases (24 * (u - 16) + 22) ≥ 3) && decide (s.failedPhases (24 * (u - 16) + 23) ≥ 3))

/-- The restart waits for the end of an endpoint switch in its unit (R631, Table 20-4). -/
def State.switchHolds (s : State) (u : Nat) : Bool :=
  let t := if u < 16 then u / 4 else u - 16
  match s.switching with
  | some (.tower k) => k == t
  | some (.frond f) => if u < 16 then f == u else f / 4 == t
  | some (.engine l) => l.cls == 1 && l.idx == t && (decide (16 ≤ u) || (l.die == 0 && l.region == u % 4))
  | _ => false

/-! ## The beginning (R559, Table 17-6, Table 17-7) -/

/-- A dirty line of a slice can be written back while its channel works. -/
def State.slicesDirty (s : State) (t : Nat) : List Nat :=
  (s.msc.lines.filter (fun p => p.1 / (32 * 32768 * 16) == t && p.2.valid &&
    [p.2.s0, p.2.s1, p.2.s2, p.2.s3].any (fun x => x.valid && x.dirty))).map (·.1)
/-- The DRAM contents of a tower's 32 channels are lost: a byte listed there is free (R248; assumption 24). -/
def State.towerDramLost (s : State) (t : Nat) : State :=
  (s.mem.dram.filter (fun c => c.1 / 2 ^ 37 == t)).foldl (fun (s : State) c =>
    let (w, s) := s.fresh
    { s with mem.dram := memPut s.mem.dram c.1 (BitVec.ofNat 8 w.toNat) }) s

/-- TOWER_WRITEBACK (R248): the dirty lines that can be written are; with any that cannot, the tower's DRAM contents are lost. -/
def State.towerWriteBack (s : State) (t : Nat) (ok : Bool) : State :=
  let ks := s.slicesDirty t
  let works (k : Nat) : Bool := !s.fencedAt (.channel (k / 16 / 32768)) && s.rget (Fd.PIL_STAT_SHUTDOWN (k / 16 / 32768 / 16)) == 0
  let lost := !ks.isEmpty && (!ok || !ks.all works)
  let s := (if ok then ks.filter works else []).foldl (fun (s : State) k => s.writeBack (k / 16 / 32768) (k / 16 % 32768) (k % 16)) s
  if lost then (s.raise (recNote 0x0405 (locTower t))).towerDramLost t else s

/-- A Frond restart begins: the Frond is fenced unless it is already, and drains. -/
def State.frondRestart (s : State) (f : Nat) : State :=
  if s.fencedAt (.frond f) then s else s.fenceFrond f 0x0F17 (locFrondWhole f) false

/-- A tower restart begins: fenced, dirty lines written back, rails off and to be on again (R506). Restarts of its Fronds end with it
(R562). -/
def State.towerRestart (s : State) (t : Nat) (wbOk : Bool) : State :=
  let s := if s.fencedAt (.tower t) then s else s.fenceTower t 0x0F17 (locTower t) false
  let s := (s.towerWriteBack t wbOk).towerDark t
  ((s.setZone t 7).rset (Fd.TWR_STAT_STATE t) 6)

/-- A restart of unit `u` runs for the descriptors `l`; one that cannot be restarted completes at once. -/
def State.restartBegin (s : State) (u : Nat) (l : List (Nat × Nat)) (wbOk : Bool) : State :=
  if !s.restartable u then s.restartsDone l 2
  else if u < 16 then (s.setRestarting u (some l)).frondRestart u
  else
    let t := u - 16
    let fs := (List.range 4).map (· + 4 * t)
    let theirs := fs.flatMap (fun f => (restartsOf s.boot.restarting f).getD [] ++ (restartsOf s.boot.latched f).getD [])
    let s := fs.foldl (fun (s : State) f => (s.setRestarting f none).setRestartLatched f none) s
    (s.setRestarting u (some (l ++ theirs))).towerRestart t wbOk

/-- A drain of the Frond is in progress or waits to begin: its return to service waits for the reset (R293). -/
def State.drainRuns (s : State) (f : Nat) : Bool := (s.fr f).draining || (s.fr f).drainPend

/-- RESTART (R559, R562): class 7, OP 6. `wbOk`: every dirty line of a restarted tower can be written back. -/
def execRestart (r i : Nat) (wbOk : Bool) (s : State) : Out :=
  .next (match s.opOf r i 7 6 with
    | none => s
    | some d =>
      let n := d.f 1 3 0
      let u := if d.f 1 8 8 = 1 then 16 + n else n
      let s := s.markRan r i
      if !s.restartable u then s.complete r i 2 0 0
      else if u < 16 && s.restarting (16 + u / 4) then
        s.setRestarting (16 + u / 4) (some ((restartsOf s.boot.restarting (16 + u / 4)).getD [] ++ [(r, i)]))
      else if s.restarting u || s.switchHolds u || (u < 16 && s.drainRuns u) then s.setRestartLatched u (some ((restartsOf s.boot.latched u).getD [] ++ [(r, i)]))
      else s.restartBegin u [(r, i)] wbOk)

/-! ## The end (R560–R562) -/

/-- A Frond is reset and reloaded: local store zeroed, sequencers started from the store (R560, R547). -/
def State.frondReload (s : State) (f : Nat) : State :=
  let s := ((((s.kernelsOut f).sbDrain f).dropQueued f).dmaOut f).lsZero f
  let s := (List.range 8).foldl (fun (s : State) a => s.setArr f a Arr.init) s
  let s := (s.setFr f Frond.init).rset (Fd.FRD_SLEEP_STAT_STATE f) 0
  let s := (s.rset (Fd.FRD_SLEEP_STAT_ENTERING f) 0).rset (Fd.FRD_SLEEP_STAT_WAKE_PENDING f) 0
  (s.reloaded f).clearPace f

/-- Engine fences inside a Frond end with its restart, whose self-test covers every engine (Table 19-3, R549). -/
def State.enginesBack (s : State) (f : Nat) : State :=
  { s with flt.fences := s.flt.fences.filter (fun u => match u with
      | .engine l => !(l.cls == 1 && l.idx == f / 4 && l.die == 0 && l.region == f % 4 && decide (l.engine < 0x14))
      | _ => true) }

/-- One failing self-test of a restarting Frond: an array or cluster is fenced alone. -/
def State.engineTest (s : State) (f e : Nat) : State := if e < 8 || (0x10 ≤ e && e < 0x14) then s.frondTest f e else s
/-- The self-test failed in a way that fences the Frond. -/
def frondBad (tests : List (Nat × Nat)) (f : Nat) : Bool :=
  tests.any (fun x => x.1 == f && !(decide (x.2 < 8) || (decide (0x10 ≤ x.2) && decide (x.2 < 0x14))))

/-- The restart-failed or restart-completed record, the counts, and the completions (R562). -/
def State.restartEnd (s : State) (u : Nat) (ok : Bool) (loc : Loc) : State :=
  let l := (restartsOf s.boot.restarting u).getD []
  let s := { (s.setRestarting u none) with boot.refenced := s.boot.refenced.filter (· != u) }
  let s := if ok then (s.radd Fd.BOOT_RST_STAT_RESTARTS 1).raise (recNote 0x0F13 loc) else s.raise (recNote 0x0F14 loc)
  s.restartsDone l (if ok then 0 else 1)

/-- A Frond returns to service, or stays fenced. -/
def State.frondRestarted (s : State) (f : Nat) (ok : Bool) (tests : List (Nat × Nat)) : State :=
  let bad := !ok || frondBad tests f || s.boot.refenced.contains f || s.fencedAt (.tower (f / 4))
  let s := if frondBad tests f then s.raise ⟨0x0F0E, locFrondWhole f, 3, .frond f, none, false, false, false, false⟩ else s
  let s := s.frondReload f
  if bad then
    (s.modFr f (fun q => { q with stubFenced := true, inReset := true })).restartEnd f false (locFrondWhole f)
  else
    let s := ((s.enginesBack f).dropFence (.frond f)).seqStart f
    let s := (tests.filter (fun x => x.1 == f)).foldl (fun (s : State) x => s.engineTest f x.2) s
    let s := { s with boot.wakeFenced := s.boot.wakeFenced.filter (· != f), boot.autoTried := s.boot.autoTried.filter (· != f)
                      pwr.held := s.pwr.held.filter (· != f) }
    s.distBump.restartEnd f true (locFrondWhole f)

/-- A channel fenced before returns where its port trains and passes its test (Table 19-3). -/
def State.channelBack (s : State) (c : Nat) : State :=
  if s.fencedAt (.channel c) && s.rget (Fd.PIL_STAT_SHUTDOWN (c / 16)) = 0 then
    (s.dropFence (.channel c)).rbit (Fd.PIL_STAT_CH_FENCED (c / 16)) (c % 16) false
  else s

/-- The tests of a tower restart (Table 17-7): wires, network lanes and routers that fail them. -/
def State.towerTests (s : State) (t : Nat) (wires : List WireFail) (links : List (Nat × List Nat)) (routers : List (Nat × Nat)) : State :=
  let s := s.wireFails (wires.filter (fun w => w.tower == t))
  let s := s.lanesFail (links.filter (fun x => x.1 / 10 == t))
  (routers.filter (fun x => x.1 == t && decide (x.2 < 4))).foldl (fun (s : State) x => s.routerFailed x.1 x.2) s

/-- A steward started during an update of its class starts the new image and counts as switched (R621). -/
def State.stewardNew (s : State) (t : Nat) : State :=
  if s.fwu.todo.head? = some 2 then { s with fwu.switched := insNat s.fwu.switched t } else s

/-- A tower returns to service with its wires, network, ports and Fronds tested, or stays fenced, as it does with a hub-link router that fails. -/
def State.towerRestarted (s : State) (t : Nat) (ok : Bool) (tests : List (Nat × Nat)) (chans : List Nat) (wires : List WireFail)
    (links : List (Nat × List Nat)) (routers : List (Nat × Nat)) : State :=
  let fs := (List.range 4).map (· + 4 * t)
  if !ok || routers.contains (t, 4) || s.boot.refenced.contains (16 + t) then
    (s.rset (Fd.TWR_STAT_STATE t) 5).restartEnd (16 + t) false (locTower t)
  else
    let s := ((s.setZone t 1).dropFence (.tower t)).rset (Fd.TWR_STAT_STATE t) 4
    let s := (s.rset (Fd.TWR_STAT_STEWARD_UP t) 1).rset (Fd.TWR_STAT_CHAIN_OK t) 1
    let s := fs.foldl (fun (s : State) f => (s.frondReload f).enginesBack f) s
    let s := (fs.filter (fun f => s.fencedAt (.frond f))).foldl (fun (s : State) f =>
      s.modFr f (fun q => { q with stubFenced := true, inReset := true })) s
    let s := (((List.range 32).map (· + 32 * t)).filter (fun c => !chans.contains c)).foldl (fun (s : State) c => s.channelBack c) s
    let s := (s.towerTests t wires links routers).routeTables t
    let s := fs.foldl (fun (s : State) f => s.seqStart f) s
    let s := (tests.filter (fun x => fs.contains x.1)).foldl (fun (s : State) x => s.frondTest x.1 x.2) s
    let s := (s.radd (Fd.TWR_STAT_RESTARTS t) 1).stewardNew t
    s.distBump.restartEnd (16 + t) true (locTower t)

/-- RESTART_COMPLETED (R560–R562): `ok` false where the restart's checks fail; `tests` the self-tests that fail, as (Frond, engine); of a
tower, `chans` the channels whose port does not train, `wires`, `links` and `routers` what else fails its test. A tower's rails must be
coming on again (R506). -/
def execRestartCompleted (u : Nat) (ok : Bool) (tests : List (Nat × Nat)) (chans : List Nat) (wires : List WireFail)
    (links : List (Nat × List Nat)) (routers : List (Nat × Nat)) (s : State) : Out :=
  .next (
    if !s.restarting u then s
    else if u < 16 then (if s.moving u || s.drainRuns u then s else s.frondRestarted u ok tests)
    else if s.zoneLatched (u - 16) then s.restartEnd u false (locTower (u - 16))
    else if s.zoneState (u - 16) = 2 then s.towerRestarted (u - 16) ok tests chans wires links routers
    else s)

/-- RESTART_LATCHED_START (R562, R631). -/
def execRestartLatchedStart (u : Nat) (wbOk : Bool) (s : State) : Out :=
  .next (match restartsOf s.boot.latched u with
    | some l => if s.restarting u || s.switchHolds u || (u < 16 && s.drainRuns u) then s else (s.setRestartLatched u none).restartBegin u l wbOk
    | none => s)

/-- AUTO_FROND_RESTART (R563): once for a Frond fenced for wake timeout. -/
def execAutoFrondRestart (f : Nat) (s : State) : Out :=
  .next (
    if s.rget Fd.BOOT_CTL_AUTO_FROND = 1 && s.boot.wakeFenced.contains f && !s.boot.autoTried.contains f && s.fencedAt (.frond f) &&
        !s.restarting f && !s.drainRuns f && s.restartable f then
      ({ s with boot.autoTried := insNat s.boot.autoTried f } : State).restartBegin f [] true
    else s)

end Sys2Proof.Machine
end

