-- ==== Sys2Proof/Machine/Faults.lean ====
section
/-!
DEFINITION. Delivery of fault records, the fault ring, the flip mask and the pace table's control (R597, R604–R612, R616).
-/

namespace Sys2Proof.Machine

/-! ## Holds and the ring -/

/-- A write to a 64-bit register as software makes it, of the bits between two positions. -/
def putBits (old new_ : W64) (hi lo : Nat) : W64 := setFld old hi lo (fld new_ hi lo)

/-- RECORD_HOLD_END (R597, R606, R608): the hold of the record with this SEQ has lasted COAL_MS, and it is delivered. -/
def execRecordHoldEnd (seq : Nat) (s : State) : Out :=
  .next (match findIdxFrom (fun r => r.seq == seq && r.held) s.flt.log 0 with
    | none => s
    | some i => match s.flt.log[i]? with
      | none => s
      | some r =>
        if s.clock - r.timestamp ≥ s.rget Fd.FLT_CTL_COAL_MS * 25000 then
          let r := { r with held := false }
          ({ s with flt.log := modAt (fun _ => r) s.flt.log i } : State).deliver r
        else s)

/-- A write of FLT_RING_CTL (R606): setup fields ignore it while EN = 1; turning EN on sets HEAD and DELIVERED. -/
def State.ringCtlWrite (s : State) (v : W64) : State :=
  let old := s.rword Fd.FLT_RING_CTL_EN.off
  let on := bit old 63
  let w := putBits (putBits old v 54 54) v 42 32
  let w := if on then w else putBits w v 62 55
  let s := s.setRword Fd.FLT_RING_CTL_EN.off (putBits w v 63 63)
  if !on && bit v 63 then
    (({ s with flt.ringFrom := s.flt.seqNext } : State).rset Fd.FLT_RING_PTR_HEAD s.flt.seqNext).rset Fd.FLT_RING_PTR_DELIVERED s.flt.seqNext
  else s

/-- FAULT_RING_ENABLE (R606): a write of FLT_RING_CTL. -/
def execFaultRingEnable (v : W64) (s : State) : Out := .next (s.ringCtlWrite v)

/-- FAULT_RING_IRQ (R607): the 100 µs since the last interrupt have ended. -/
def execFaultRingIrq (s : State) : Out :=
  .next (
    let late := match s.flt.ringIrqAt with
      | some c => decide (s.clock - c ≥ 2500)
      | none => true
    if s.flt.ringIrqDue && late then
      ({ s with flt.ringIrqDue := false, flt.ringIrqAt := some s.clock } : State).msi (s.rget Fd.FLT_RING_CTL_VECTOR)
    else s)

/-! ## The flip mask (R609, R611) -/

/-- The target is one of the kinds of Table 19-5. -/
def injKindOk (kind : Nat) (l : Loc) : Bool :=
  let frond := l.cls == 1 && l.die == 0 && decide (l.region < 4)
  match kind with
  | 0 => (frond && ((decide (l.engine < 8) && (l.mac == 0xFF || decide (l.mac < 16))) || (decide (8 ≤ l.engine) && decide (l.engine < 16) && (l.mac == 0xFF || l.mac == 3)) ||
            (decide (0x10 ≤ l.engine) && decide (l.engine < 0x14) && (l.mac == 0xFF || (decide (0x20 ≤ l.mac) && decide (l.mac < 0x28)))) ||
            l.engine == 0x20 || l.engine == 0x23)) ||
         (l.cls == 1 && l.die == 0 && decide (l.region < 5) && l.engine == 0xA2) ||
         (l.cls == 1 && l.die == 2 && decide (l.region < 4) && decide (0x90 ≤ l.engine) && decide (l.engine < 0x98) && (l.mac == 0xFF || decide (l.mac < 2))) ||
         (l.cls == 3 && l.die == 0 && l.region == 0x13 && decide (l.engine < 8))
  | 1 => l.cls == 1 && (l.die == 1 || l.die == 2) && decide (l.region < 4) && decide (l.engine < 0x20)
  | 2 => l.cls == 2 && decide (l.region < 16) &&
         ((l.die == 0 && l.engine == 0xFF && l.mac == 0xFF && l.pos == 0xFFFF) ||
          (decide (1 ≤ l.die) && decide (l.die ≤ 12) && (l.engine == 0xFF || decide (l.engine < 4)) &&
            (l.mac == 0xFF || decide (l.mac < 64)) && (l.pos == 0xFFFF || (decide (l.pos < 32768) && (l.mac == 0xFF || l.mac == l.pos / 512)))))
  | 3 => (l.cls == 1 && l.die == 1 && decide (l.region < 4) && decide (0x20 ≤ l.engine) && decide (l.engine < 0x60)) ||
         (l.cls == 1 && l.die == 2 && decide (l.region < 4) && decide (0x60 ≤ l.engine) && decide (l.engine < 0x80)) ||
         (l.cls == 1 && l.die == 0 && decide (l.region < 5) && decide (0xB0 ≤ l.engine) && decide (l.engine < 0xBA)) ||
         (frond && l.engine == 0xA1) ||
         (l.cls == 3 && l.die == 0 && decide (l.region < 4) && l.engine == 1) ||
         (l.cls == 4 && l.die == 0 && l.region == 0x3F && l.engine == 0)
  | _ => false

/-- The target's site is in the variant. -/
def State.injPresent (s : State) (l : Loc) : Bool :=
  match l.cls with
  | 1 => decide (l.idx < s.towers)
  | 2 => decide (l.idx < s.piles)
  | 3 => l.idx == 0 && (l.region != 0 && l.region != 1 && l.region != 2 && l.region != 3 || decide (l.region < s.towers))
  | 4 => decide (l.idx < s.part.fports)
  | _ => false

/-- The unit that holds the target, for its fence. -/
def injUnit (l : Loc) : FUnit :=
  if l.cls = 2 then .channel (16 * l.idx + l.region)
  else if l.cls = 4 then portFence l.idx 0xFF
  else .engine l

/-- An arm is refused (R611). -/
def State.armRefused (s : State) : Bool :=
  let l := s.injLoc
  let kind := s.rget Fd.FLT_INJ_CTL_KIND
  s.rget Fd.FLT_INJ_CTL_LOCK == 1 || s.tdiLocked || !injKindOk kind l || !s.injPresent l || s.fencedIn (injUnit l) ||
    nfld (s.rget Fd.FLT_INJ_LOC_LOCATION) 63 50 != s.devId ||
    (kind == 2 && (decide (s.rget Fd.FLT_INJ_CTL_SYM_A > 35) || decide (s.rget Fd.FLT_INJ_CTL_SYM_B > 35)))

/-- A write of FLT_INJ_CTL (R609, R611, R612): its fields, then ARM; DONE and REFUSED clear where 1 is written. -/
def State.injCtlWrite (s : State) (v : W64) : State :=
  let off := Fd.FLT_INJ_CTL_ARM.off
  let w := putBits (putBits (putBits (s.rword off) v 59 58) v 55 52) v 44 33
  let w := if bit v 61 then setFld w 61 61 0 else w
  let w := if bit v 60 then setFld w 60 60 0 else w
  let s := s.setRword off w
  let s := if !bit v 62 then s.rset Fd.FLT_INJ_CTL_ARM 0
    else if s.armRefused then (s.rset Fd.FLT_INJ_CTL_ARM 0).rset Fd.FLT_INJ_CTL_REFUSED 1
    else (s.rset Fd.FLT_INJ_CTL_ARM 1).rset Fd.FLT_INJ_CTL_REFUSED 0
  if bit v 63 then s.rset Fd.FLT_INJ_CTL_LOCK 1 else s

/-- ARM (R609, R611): a write of FLT_INJ_CTL. -/
def execArm (v : W64) (s : State) : Out := .next (s.injCtlWrite v)

/-! ## The pace table's control (R616) -/

/-- A write of FLT_PACE_CTL: its fields are locked by LOCK; EVICT = 0 clears EVICTED and DENIED, and FROND_SCHED follows (R616, R324). -/
def State.paceCtlWrite (s : State) (v : W64) : State :=
  let before := s.schedMask
  let off := Fd.FLT_PACE_CTL_EVICT.off
  let s := if s.rget Fd.FLT_PACE_CTL_LOCK = 1 then s
    else
      let s := s.setRword off (putBits (putBits (putBits (s.rword off) v 62 62) v 55 32) v 15 0)
      if bit v 62 then s
      else (List.range 16).foldl (fun (s : State) f => (s.rset (Fd.FLT_PACE_EVICTED f) 0).rset (Fd.FLT_PACE_DENIED f) 0) s
  let s := if bit v 63 then s.rset Fd.FLT_PACE_CTL_LOCK 1 else s
  if s.schedMask ≠ before then s.capBump else s

/-- EVICT_WRITE (R616): a write of FLT_PACE_CTL. -/
def execEvictWrite (v : W64) (s : State) : Out := .next (s.paceCtlWrite v)

end Sys2Proof.Machine
end

