-- ==== Sys2Proof/Machine/Connections.lean ====
section
/-!
DEFINITION. Connections, insertion and removal, and the Night port (R645–R661).
-/

namespace Sys2Proof.Machine

/-! ## Presence contacts (R646, R647) -/

def presenceLoc (set : Nat) : Loc := ⟨7, 0, 0xF, set, 2, 0xFF, 0xFFFF⟩
/-- A presence code that names a role. -/
def validCode (c : Nat) : Bool := c == 1 || c == 2
/-- The set that is main under the codes of sets 0 and 1; with no set present nothing is assigned (R647). -/
def mainSet (p0 p1 : Nat) : Option Nat :=
  if p0 = 3 && p1 = 3 then none
  else if p1 = 3 then some (if p0 = 2 then 1 else 0)
  else if p0 = 3 then some (if p1 = 2 then 0 else 1)
  else if validCode p0 && validCode p1 && p0 ≠ p1 then some (if p0 = 1 then 0 else 1)
  else some 0
/-- The set whose code is at fault: one that reads 0b00, or set 1 where both read the same valid code (R647). -/
def badCode (p0 p1 : Nat) : Option Nat :=
  if p0 = 0 then some 0 else if p1 = 0 then some 1 else if p0 = p1 && validCode p0 then some 1 else none

/-- The inputs exchange their roles: everything kept by role moves. -/
def State.swapRoles (s : State) : State :=
  let w0 := s.rword 0xB0008
  let w1 := s.rword 0xB0010
  let q0 := spGet (fun _ => none) s.pwr.qualAt 0
  let q1 := spGet (fun _ => none) s.pwr.qualAt 1
  let s := (s.setRword 0xB0008 w1).setRword 0xB0010 w0
  let o0 := spGet (fun _ => none) s.pwr.offAt 0
  let o1 := spGet (fun _ => none) s.pwr.offAt 1
  { s with pwr.qualAt := spPut (fun _ => none) (spPut (fun _ => none) s.pwr.qualAt 0 q1) 1 q0
           pwr.offAt := spPut (fun _ => none) (spPut (fun _ => none) s.pwr.offAt 0 o1) 1 o0 }

/-- Input `i` takes contact set `set`. -/
def State.setPhys (s : State) (i set : Nat) : State := s.rset (Fd.PWR_IN_STAT_PHYS i) set

/-- Roles follow the codes (R647): where a set changes its role, its input keeps its state. -/
def State.roles (s : State) (main : Nat) : State :=
  let s := if s.rget (Fd.PWR_IN_STAT_PHYS 0) ≠ main && (s.inSt 0 ≠ 0 || s.inSt 1 ≠ 0) then s.swapRoles else s
  (s.setPhys 0 main).setPhys 1 (1 - main)

/-- An input whose set is gone is absent; one whose set has come is qualifying (R490, Table 21-2). -/
def State.setSeen (s : State) (i : Nat) : State :=
  if s.setPresent (s.rget (Fd.PWR_IN_STAT_PHYS i)) then (if s.inSt i = 0 then s.setIn i 1 else s)
  else if s.qualified i then (s.raise (recNote 0x0D01 (inputLoc i))).unqualify i 0
  else if s.inSt i = 0 then s else s.unqualify i 0

/-- PRESENCE_CHANGE (R646, R647): the codes of sets 0 and 1 change. Codes that leave no set present before phase 6 of a removal are the
surprise extraction, a command of its own. -/
def execPresenceChange (p0 p1 : Nat) (s : State) : Out :=
  .next (
    let p0 := p0 % 4
    let p1 := p1 % 4
    let old0 := s.rget Fd.HUB_CONN_STAT_PRES0
    let old1 := s.rget Fd.HUB_CONN_STAT_PRES1
    let gone := p0 = 3 && p1 = 3
    if (p0 = old0 && p1 = old1) || (gone && s.rget Fd.HUB_CONN_STAT_RM_PHASE ≠ 6) then s
    else
      let s := (s.rset Fd.HUB_CONN_STAT_PRES0 p0).rset Fd.HUB_CONN_STAT_PRES1 p1
      let s := match mainSet p0 p1 with
        | some m => s.roles m
        | none => s
      let s := (s.setSeen 0).setSeen 1
      if gone then s.nightDark
      else
        let s := if validCode p0 && p1 = 1 && p0 ≠ p1 then s.raise (recNote 0x0D04 (inputLoc 0)) else s
        match badCode p0 p1 with
        | some set => s.raise (recNote 0x1201 (presenceLoc set))
        | none => s)

/-- SURPRISE_EXTRACTION (R658): every set that had a code reads 0b11 before phase 6; `begun` as for BOTH_SUPPLIES_LOST. -/
def execSurpriseExtraction (begun : Nat) (s : State) : Out :=
  .next (
    if s.rget Fd.HUB_CONN_STAT_RM_PHASE = 6 || (s.rget Fd.HUB_CONN_STAT_PRES0 = 3 && s.rget Fd.HUB_CONN_STAT_PRES1 = 3) then s
    else
      let s := if s.con.shutdown then s.nightDark else s.shutDown begun 0x1206 modLoc
      (((s.rset Fd.HUB_CONN_STAT_PRES0 3).rset Fd.HUB_CONN_STAT_PRES1 3).unqualify 0 0).unqualify 1 0)

/-! ## The latch (R653–R656) -/

/-- LATCH_OPEN (R654): once Predawn has begun, the removal request; a start in progress is abandoned when its stage ends (R540). -/
def execLatchOpen (s : State) : Out :=
  .next (
    let s := s.rset Fd.HUB_CONN_STAT_LATCH_OPEN 1
    if s.boot.predawn && s.rget Fd.HUB_CONN_STAT_REMOVE = 0 then
      let s := ({ s with con.rmAt := some s.clock } : State).rset Fd.HUB_CONN_STAT_REMOVE 1
      if s.boot.running || s.boot.failed.isSome then s else s.removalBegin
    else s.readyShow)

/-- LATCH_CLOSE (R654, R656): the wait before Predawn may end; in phase 6 the module starts cold from Predawn; at any other time of a
removal nothing changes but the latch's own reading. -/
def execLatchClose (s : State) : Out :=
  .next (
    let s := s.rset Fd.HUB_CONN_STAT_LATCH_OPEN 0
    if s.rget Fd.HUB_CONN_STAT_RM_PHASE = 6 then
      let s := s.removalOver
      (({ s with con.shutdown := false, boot.coolantSaid := false } : State).startAtPredawn false).readyShow
    else s.readyShow)

/-! ## The removal sequence (R655, Table 21-4) -/

/-- `ms` have passed since the removal request. -/
def State.rmDue (s : State) (ms : Nat) : Bool :=
  match s.con.rmAt with
  | some c => decide (s.clock - c ≥ 25000 * ms)
  | none => true
def State.graceMs (s : State) : Nat := min 1000 (s.rget Fd.HUB_RM_CTL_GRACE_MS)
def State.setPhase (s : State) (n : Nat) : State := (s.rset Fd.HUB_CONN_STAT_RM_PHASE n).readyShow

/-- Kernels resident, by Frond and slot; launch records held. -/
def State.kernelsLeft (s : State) : List (Nat × Nat) :=
  (List.range s.fronds).flatMap (fun f => ((List.range 8).filter (fun k => (s.krn f k).isSome)).map (fun k => (f, k)))
def State.launchesHeld (s : State) (f : Nat) : List Launch := (s.fr f).lq ++ (s.fr f).stub
def State.stepsLeft (s : State) : List Nat := (List.range 16).filter (fun h => (s.step_ h).isSome)
/-- No kernel and no step is left. -/
def State.drained (s : State) : Bool :=
  s.kernelsLeft.isEmpty && s.stepsLeft.isEmpty && (List.range s.fronds).all (fun f => (s.launchesHeld f).isEmpty)

/-- A step left at the deadline of phase 2 fails. -/
def State.stepCut (s : State) (h : Nat) : State :=
  match s.step_ h with
  | none => s
  | some q =>
    (s.setStep h (some { q with fail := if q.failed then q.fail else some 0x1203
                                plan := q.plan.map (fun p => if p.phase = 1 then { p with phase := 2, running := 0 } else p) })).stepFail h

/-- Kernels left at the deadline of phase 2 are aborted under R163, one record each; then the steps end. -/
def State.cutWork (s : State) : State :=
  let s := s.kernelsLeft.foldl (fun (s : State) x => s.faultKernel x.1 x.2 0x1203 modLoc) s
  let s := (List.range s.fronds).foldl (fun (s : State) f =>
    let l := s.launchesHeld f
    ((s.modFr f (fun q => { q with lq := [], stub := [] })).failLaunches f 0x1203 l).kernelsOut f) s
  s.stepsLeft.foldl (fun (s : State) h => s.stepCut h) s

/-- Slots that are RESIDENT, in ascending session ID. -/
def State.residents (s : State) : List Nat := (s.ses.slots.filter (fun p => p.2.st == .resident)).map (·.1)
/-- Removal's own sequences hold a slot for no ring: their descriptor is that of a ring that does not exist. -/
def noRing : Nat := 1024

/-- A session is closed, and counted in SESS_CLOSED. -/
def State.removalClose (s : State) (x : Nat) : State := (s.closeGo x noRing x).radd Fd.HUB_CONN_STAT_SESS_CLOSED 1

/-- A RESIDENT session is parked at the next place of the park area, or closed where it does not fit. -/
def State.removalPark (s : State) (x : Nat) : State :=
  let q := s.slot x
  let size := imageSize (q.entries q.tokens)
  let room := s.rget Fd.HUB_RM_PARK_LEN_PAGES * 65536
  if s.con.parkNext + size ≤ room then
    let d : Desc := ⟨0#64, 0#64, BitVec.ofNat 64 (s.rget Fd.HUB_RM_PARK_BASE_BASE * 65536 + s.con.parkNext), BitVec.ofNat 64 (room - s.con.parkNext),
      0#64, 0#64, 0#64, 0#64⟩
    let s := s.parkGo x noRing x d
    if (s.slot x).st = .parking then { s with con.parkNext := s.con.parkNext + size, con.parkList := s.con.parkList ++ [x] } else s
  else s.removalClose x

/-- Phase 3 begins. -/
def State.parkPhase (s : State) : State :=
  let s := { s with con.parkNext := 0, con.parkList := [] }
  let s := (s.rset Fd.HUB_CONN_STAT_SESS_PARKED 0).rset Fd.HUB_CONN_STAT_SESS_CLOSED 0
  s.residents.foldl (fun (s : State) x => if s.rget Fd.HUB_RM_CTL_PARK_EN = 1 then s.removalPark x else s.removalClose x) (s.setPhase 3)

/-- Phase 3 ends and phase 4 begins: what is still RESIDENT is closed, the record is raised, LEAVE is sent and the wear section committed. -/
def State.leavePhase (s : State) : State :=
  let s := s.rset Fd.HUB_CONN_STAT_SESS_PARKED (min 0xFFFF (s.con.parkList.filter (fun x => (s.slot x).st == .parked)).length)
  let s := s.residents.foldl (fun (s : State) x => s.removalClose x) s
  let n := s.rget Fd.HUB_CONN_STAT_SESS_CLOSED
  let s := if n = 0 then s else s.raiseN (recNote 0x1204 modLoc) n
  let s := ((List.range 32).filter s.linkUp).foldl (fun (s : State) l => s.toLink l (redMsg s 0x32 0 0 0 0 []) .other) s
  (s.commit s.wearWrites).setPhase 4

/-- Phase 5: everything but the Night domain is off, both inputs still qualified; commits accepted are completed (R655, R493). -/
def State.powerDown (s : State) : State :=
  let s := ((List.range 32).filter s.linkUp).foldl (fun (s : State) l => s.linkDown l 0x0B08) s
  (({ s.onlyNight with con.rmAt := s.con.rmAt } : State).setPhase 5).raise (recNote 0x1205 modLoc)

/-- REMOVAL_PHASE_END (R655): the phase ends at its deadline, measured from the request, or earlier if its work is done. -/
def execRemovalPhaseEnd (s : State) : Out :=
  .next (s.attempt fun s => match s.rget Fd.HUB_CONN_STAT_RM_PHASE with
    | 1 => if s.rmDue s.graceMs then (s.liveRings.foldl (fun (s : State) r => s.ringStop r) s).setPhase 2 else s
    | 2 => if s.drained || s.rmDue (s.graceMs + 200) then (if s.drained then s else s.cutWork).parkPhase else s
    | 3 => if s.con.parkList.all (fun x => (s.slot x).st != .parking) || s.rmDue 1700 then s.leavePhase else s
    | 4 =>
      let sent := (List.range 32).all (fun l => !s.linkUp l || (s.link l).txq.isEmpty)
      if (sent && s.ldg.queue.isEmpty) || s.rmDue 1800 then s.powerDown else s
    | 5 => s.setPhase 6
    | _ => s)

/-! ## Light (R650–R652) -/

def engineOpticsLoc (e m : Nat) : Loc := if e < 16 then ⟨4, e, 0, 0x3F, 0, m, 0xFFFF⟩ else ⟨5, e - 16, 0, 0x3F, 0, m, 0xFFFF⟩
def nightFence : FUnit := .port (lightCtlLoc 17)

/-- The Night port goes down, with its record and fence (R650, R652). -/
def State.nightPortDown (s : State) : State :=
  if s.rget Fd.HUB_CONN_STAT_NIGHT_UP = 1 then
    ((s.raise ⟨0x120A, engineOpticsLoc 17 0, 6, nightFence, none, false, false, false, false⟩).addFence nightFence).rset Fd.HUB_CONN_STAT_NIGHT_UP 0
  else s

/-- BLOCK_CROSSED (R651): the host or Night block's roles are exchanged until it next loses light. -/
def execBlockCrossed (night : Bool) (s : State) : Out :=
  .next (
    let f := if night then Fd.HUB_CONN_STAT_NIGHT_CROSSED else Fd.HUB_CONN_STAT_HOST_CROSSED
    if s.nightOn && s.rget f = 0 then
      (s.rset f 1).raise (recNote (if night then 0x1208 else 0x1207) (engineOpticsLoc (if night then 17 else 16) 0xFF))
    else s)

/-- Lanes of an engine: fabric 8, host 16 and the sideband, Night 1. -/
def engineLanes (e : Nat) : Nat := if e < 16 then 8 else if e = 16 then 17 else 1

/-- LOW_LIGHT (R652): one record each time a lane becomes low; a host lane narrows or fences as R591 states, and the Night port goes down.
A fabric link's own rules are commands of their own. -/
def execLowLight (e lane : Nat) (s : State) : Out :=
  .next (
    let there := (decide (e < 16) && decide (e < s.part.fports)) || e == 16 || e == 17
    if !there || lane ≥ engineLanes e || !s.nightOn || s.con.lowLanes.contains (e * 32 + lane) then s
    else
      let s := ({ s with con.lowLanes := insNat s.con.lowLanes (e * 32 + lane) } : State).raise (recNote 0x1209 (engineOpticsLoc e lane))
      if e = 17 then s.nightPortDown
      else if e = 16 then
        if lane < 4 then s.hostLinkDown.addFence hostPortFence else s.hostNarrow lane
      else s)

/-- LOSS_OF_LIGHT (R650): no light on any receive position of a block for 10 ms; the other ports go on. -/
def execLossOfLight (e : Nat) (s : State) : Out :=
  .next (
    if e < 16 then
      (s.portLinks e).foldl (fun (s : State) l => (s.modLink l (fun q => { q with light := false })).linkDown l 0x0B01) s
    else if e = 16 then s.hostLinkDown.rset Fd.HUB_CONN_STAT_HOST_CROSSED 0
    else if e = 17 then s.nightPortDown.rset Fd.HUB_CONN_STAT_NIGHT_CROSSED 0
    else s)

/-! ## The Night port (R659–R661) -/

/-- NIGHT_PORT_DOWN (R659, R650): block lock is lost. -/
def execNightPortDown (s : State) : Out := .next s.nightPortDown

/-- NIGHT_PORT_UP (R659): block lock is gained. A port whose laser has no spare, or whose engine is too hot, stays down (R591, R533). -/
def execNightPortUp (s : State) : Out :=
  .next (
    if s.nightOn && s.laser 17 0 ≠ 3 && !s.thm.engHot.contains 17 then
      ({ s with con.lowLanes := s.con.lowLanes.filter (fun k => k / 32 != 17) } : State).dropFence nightFence |>.rset Fd.HUB_CONN_STAT_NIGHT_UP 1
    else s)

/-- A Night frame is good (Table 21-5, R660): its TYPE, its LEN, its length and its CRC-32C. -/
def nightFrameOk (b : List Byte) : Bool :=
  let len := leNat (slice b 2 2)
  (leNat (b.take 1) == 1 || leNat (b.take 1) == 2) && decide (4 ≤ len) && decide (len ≤ 1028) &&
    b.length == 8 + alignUp len 4 && leNat (b.drop (b.length - 4)) == crc32c (b.take (b.length - 4))

/-- NIGHT_FRAME (R659, R660): a bad frame is discarded and counted; what a good one carries is a command of its own. -/
def execNightFrame (bytes : List Byte) (s : State) : Out :=
  .next (
    if s.rget Fd.HUB_CONN_STAT_NIGHT_UP = 1 && !nightFrameOk bytes then s.radd Fd.HUB_CONN_STAT_NIGHT_BAD 1 else s)

/-- A link control frame is due: one is sent every 1 ms (R660). -/
def State.frameDue (s : State) : Bool :=
  match s.con.frameAt with
  | some c => decide (c + 25000 ≤ s.clock)
  | none => true
/-- LINK_CONTROL_FRAME (R660): its 16 bytes of content. -/
def execLinkControlFrame (s : State) : Out :=
  .next (
    if s.rget Fd.HUB_CONN_STAT_NIGHT_UP = 1 && s.frameDue then
      { s with con.frameAt := some s.clock, con.frame := moduleSerial ++ leBytes 2 (fld (s.rword 0x10000) 63 48) ++ leBytes 6 0 }
    else s)

/-- MCTP_MESSAGE (R661): `ty` the message type, `body` the bytes after it. MCTP control assigns the endpoint ID (DSP0236: command 0x01, set
or forced); PLDM, SPDM, secured and vendor-defined messages are commands of their own. -/
def execMctpMessage (ty : Nat) (body : List Byte) (s : State) : Out :=
  .next (
    if s.rget Fd.HUB_CONN_STAT_NIGHT_UP = 1 && ty = 0 && body.length = 4 && nbit (leNat (body.take 1)) 7 && leNat (slice body 1 1) = 1 &&
        leNat (slice body 2 1) % 4 ≤ 1 && leNat (slice body 3 1) ≠ 0 && leNat (slice body 3 1) ≠ 0xFF then
      { s with con.eid := leNat (slice body 3 1) }
    else s)

end Sys2Proof.Machine
end

