-- ==== Sys2Proof/Machine/RegView.lean ====
section
/-!
DEFINITION. What a read of BAR0 returns (R9, R211–R215, R320–R324, R553, R605, R608): the stored registers with the fields that follow from
the state of their units, the capability structure, the distance table, and the windows onto stage reports and fault records.
-/

namespace Sys2Proof.Machine

/-- A word with fields set over it. -/
def overlay (w : W64) (l : List (Fd × Nat)) : W64 := l.foldl (fun w p => setFld w p.1.hi p.1.lo p.2) w
/-- The eight bytes at an offset of a byte list, zeros beyond its end. -/
def wordAt (l : List Byte) (off : Nat) : W64 := BitVec.ofNat 64 (leNat (slice l off 8))
/-- The least of a function's values below `n`, and the number below `n` that satisfy a test. -/
def minOf (n : Nat) (g : Nat → Nat) (top : Nat) : Nat := (List.range n).foldl (fun a i => min a (g i)) top
def countOf (n : Nat) (p : Nat → Bool) : Nat := ((List.range n).filter p).length
def maskOf (n : Nat) (p : Nat → Bool) : Nat := ofBits ((List.range n).filter p)

/-! ## The capability structure (Table 10-6) -/

/-- Group slots of a Frond in service. -/
def State.groupSlots (s : State) (f : Nat) : Nat := 16 * countOf 4 (fun c => !s.clusterFenced f c)

def State.capFields (s : State) : List (Fd × Nat) :=
  let n := s.fronds
  [(⟨0x00, 31, 0⟩, s.hpt.capGen), (⟨0x00, 47, 32⟩, 1), (⟨0x00, 63, 48⟩, s.part.code),
   (⟨0x08, 2, 2⟩, b2n s.atNoon), (⟨0x08, 1, 1⟩, b2n s.twilight), (⟨0x08, 0, 0⟩, b2n s.hasFru),
   (⟨0x08, 39, 36⟩, maskOf s.towers s.towerUp), (⟨0x08, 35, 32⟩, 2 ^ s.towers - 1),
   (⟨0x08, 63, 56⟩, maskOf s.piles s.pileUp), (⟨0x08, 55, 48⟩, 2 ^ s.piles - 1),
   (⟨0x10, 15, 0⟩, 2 ^ n - 1), (⟨0x10, 31, 16⟩, maskOf n s.frondUp), (⟨0x10, 47, 32⟩, s.schedMask),
   (⟨0x10, 63, 48⟩, 2 ^ s.part.fports - 1), (⟨0x18, 15, 0⟩, maskOf s.part.fports s.portUp)] ++
  (List.range 2).map (fun i => (⟨0x20 + 8 * i, 63, 0⟩, maskOf 64 (fun c => decide (64 * i + c < s.channels)))) ++
  (List.range 2).map (fun i => (⟨0x30 + 8 * i, 63, 0⟩, maskOf 64 (fun c => s.chanUp (64 * i + c)))) ++
  (List.range n).map (fun f => (⟨0x40 + f / 8 * 8, 8 * (f % 8) + 7, 8 * (f % 8)⟩, maskOf 8 (fun a => !s.arrFenced f a))) ++
  (List.range n).map (fun f => (⟨0x50, 4 * f + 3, 4 * f⟩, maskOf 4 (fun c => !s.clusterFenced f c))) ++
  (List.range n).map (fun f => (⟨0x58 + f / 8 * 8, 8 * (f % 8) + 7, 8 * (f % 8)⟩, s.groupSlots f)) ++
  [(⟨0x68, 31, 0⟩, 65536), (⟨0x68, 63, 48⟩, 1024), (⟨0x68, 47, 32⟩, 1024), (⟨0x70, 31, 16⟩, 2048), (⟨0x70, 15, 0⟩, 8192),
   (⟨0x70, 47, 32⟩, s.part.dramGib), (⟨0x78, 31, 0⟩, 4096 * s.towers), (⟨0x78, 63, 48⟩, 1024), (⟨0x78, 47, 32⟩, 64),
   (⟨0x80, 31, 16⟩, 8), (⟨0x80, 15, 0⟩, 1400), (⟨0x80, 47, 32⟩, 256)]
/-- A word of the capability structure. -/
def State.capWord (s : State) (slot : Nat) : W64 := overlay 0#64 (s.capFields.filter (fun p => p.1.off == slot))

/-! ## The distance table (R211–R215) -/

def State.bgGone (s : State) (t die q b : Nat) : Bool := s.thl.unavail.contains (bgKey t die q b)
/-- Exception of a bank group: state, cycles added, read and write bandwidth (Table 06-11, R215); none where it has its normal figures. -/
def State.bgExc (s : State) (t die q b : Nat) : Option (Nat × Nat × Nat × Nat) :=
  if s.bgGone t die q b then some (2, 0, 0, 0)
  else if die = 1 && s.bgMode (4 * t + q) b ≠ 0 then none
  else
    let lat := s.thl.bundleRet.contains (colKey t q b)
    let tsv := die = 1 && s.thl.tsvRet.contains (colKey t q b)
    if tsv then some (1, if lat then 4 else 2, 64, 32) else if lat then some (1, 2, 128, 64) else none
/-- The exception list, sorted by tower, quadrant, die and bank group. -/
def State.exceptions (s : State) : List W64 :=
  ((List.range (s.towers * 256)).filterMap (fun i =>
    let t := i / 256
    let q := i / 64 % 4
    let die := i / 32 % 2
    let b := i % 32
    (s.bgExc t die q b).map (fun x => overlay 0#64 [(⟨0, 63, 62⟩, x.1), (⟨0, 61, 60⟩, t), (⟨0, 59, 58⟩, q), (⟨0, 57, 57⟩, die), (⟨0, 56, 52⟩, b),
      (⟨0, 47, 32⟩, x.2.1), (⟨0, 31, 16⟩, x.2.2.1), (⟨0, 15, 0⟩, x.2.2.2)]))).take 1024

/-- Links a packet takes between two routers of a tower by the route tables written. -/
def State.routeLen (s : State) (t : Nat) : Nat → Nat → Nat → Nat
  | 0, _, _ => 0
  | n + 1, a, b =>
    if a = b then 0
    else match spGet (fun _ => 0) s.pnw.routes ((t * 5 + a) * 5 + b) with
      | 0 => 1
      | c + 1 => 1 + s.routeLen t n c b
/-- Cycles a detour adds between two routers of a tower: four for each router beyond the direct link (R281). -/
def State.detour (s : State) (t a b : Nat) : Nat := 4 * (s.routeLen t 4 a b - 1)
/-- The longest detour between a router of a tower and its quadrants. -/
def State.worstDetour (s : State) (t a : Nat) : Nat := (List.range 4).foldl (fun m c => max m (s.detour t a c)) 0
/-- Bandwidth over the narrower of two tower links (R287). -/
def State.narrowBw (s : State) (t u bw : Nat) : Nat :=
  bw * min (s.rget (Fd.PNW_LINK_STAT_LANES t)) (s.rget (Fd.PNW_LINK_STAT_LANES u)) / 40

/-- Latency, read bandwidth, write bandwidth and TYPICAL from Frond f to destination d (Table 06-12, with R199, R203, R281, R287). -/
def State.distFigures (s : State) (f d : Nat) : Nat × Nat × Nat × Nat :=
  let t := f / 4
  let q := f % 4
  let far (u v lat : Nat) : Nat × Nat × Nat × Nat := (lat + s.detour t q 4 + s.detour u 4 v, s.narrowBw t u 2048, s.narrowBw t u 2048, 1)
  if d < 0x10 then
    if d = f then (5, 2048, 2048, 0) else if d / 4 = t then (16 + s.detour t q (d % 4), 2048, 2048, 0) else far (d / 4) (d % 4) 95
  else if d < 0x30 then
    let die := d / 0x10 - 1
    let g := d % 0x10
    if g = f then
      let w := if die = 0 then 256 else 128
      let cut := (List.range 32).foldl (fun a b => a + match s.bgExc t die q b with
        | some (2, _) => w
        | some (_, _, r, _) => if die = 0 then w else w - r
        | none => 0) 0
      (if die = 0 then 8 else 11, 32 * w - cut, 16 * w - cut / 2, 0)
    else if g / 4 = t then (18 + 3 * die + s.detour t q (g % 4), 2048, 2048, 0)
    else far (g / 4) (g % 4) (95 + 3 * die)
  else if d < 0x34 then
    if d - 0x30 = t then (460 + s.worstDetour t q, 2048, 2048, 1) else (540 + s.detour t q 4 + s.worstDetour (d - 0x30) 4, s.narrowBw t (d - 0x30) 2048, s.narrowBw t (d - 0x30) 2048, 1)
  else (480 + s.detour t q 4, 2048, 2048, 1)

/-- The destination exists in the variant. -/
def State.destThere (s : State) (d : Nat) : Bool :=
  if d < 0x30 then decide (d % 0x10 < s.fronds) else if d < 0x34 then decide (d - 0x30 < s.towers) else d == 0x34
/-- The destination is fenced or unavailable. -/
def State.destGone (s : State) (d : Nat) : Bool :=
  if d < 0x10 then !s.frondUp d
  else if d < 0x30 then
    let g := d % 0x10
    !s.towerUp (g / 4) || (List.range 32).all (fun b => s.bgGone (g / 4) (d / 0x10 - 1) (g % 4) b)
  else if d < 0x34 then (List.range 32).all (fun c => !s.chanUp (32 * (d - 0x30) + c))
  else (List.range s.channels).all (fun c => !s.chanUp c)
/-- A matrix entry (Table 06-9, R213). -/
def State.distEntry (s : State) (f d : Nat) : W64 :=
  if !(decide (f < s.fronds) && s.destThere d) then 0#64
  else
    let x := s.distFigures f d
    let g := d % 0x10
    let deg := decide (0x10 ≤ d) && decide (d < 0x30) && (List.range 32).any (fun b => (s.bgExc (g / 4) (d / 0x10 - 1) (g % 4) b).isSome)
    overlay 0#64 [(⟨0, 63, 63⟩, b2n (s.destGone d)), (⟨0, 62, 62⟩, b2n deg), (⟨0, 61, 61⟩, x.2.2.2), (⟨0, 47, 32⟩, x.2.2.1), (⟨0, 31, 16⟩, x.2.1),
      (⟨0, 15, 0⟩, x.1)]
/-- A word of the distance table, at an offset of its region. -/
def State.distWord (s : State) (off : Nat) : W64 :=
  if off = 0 then overlay 0#64 [(⟨0, 31, 0⟩, s.thl.distGen), (⟨0, 47, 32⟩, 1), (⟨0, 63, 48⟩, 1400)]
  else if off = 8 then overlay 0#64 [(⟨0, 7, 0⟩, 16), (⟨0, 15, 8⟩, 0x35), (⟨0, 31, 16⟩, s.exceptions.length)]
  else if off < 0x100 then 0#64
  else if off < 0x2100 then s.distEntry ((off - 0x100) / 512) ((off - 0x100) % 512 / 8)
  else if off < 0x4100 then s.exceptions.getD ((off - 0x2100) / 8) 0#64
  else 0#64

/-! ## Fields that follow from the state of their unit -/

def State.viewFrd (s : State) (f : Nat) : List (Fd × Nat) :=
  (List.range 8).flatMap (fun a =>
    [(Fd.FRD_ARR_STAT_FENCED f a, b2n (s.arrFenced f a)), (Fd.FRD_ARR_STAT_SEQ_UP f a, b2n (s.arr f a).seqUp),
     (Fd.FRD_ARR_STAT_QDEPTH f a, (s.arr f a).queue.length)]) ++
  (List.range 16).map (fun c => (Fd.FRD_DMA_STAT_QDEPTH f c, (s.dma f c).queue.length)) ++
  [(Fd.FRD_TG_STAT_CLUSTER_FENCED f, maskOf 4 (s.clusterFenced f)), (Fd.FRD_TG_STAT_CLUSTER_HELD f, ofBits (s.fr f).clHeld),
   (Fd.FRD_TG_STAT_KERNELS f, countOf 8 (fun k => (s.krn f k).isSome)), (Fd.FRD_TG_STAT_LQ_DEPTH f, (s.fr f).lq.length),
   (Fd.FRD_TG_STAT_GROUPS_FREE f, (s.freeSlots f).length)]

/-- Keys of the macros of a quadrant, both dies. -/
def quadMacros (t q : Nat) : List Nat := (List.range 2048).map (fun i => bgKey t (i / 1024) q (i / 32 % 32) * 32 + i % 32)
def State.viewThl (s : State) (t q : Nat) : List (Fd × Nat) :=
  let ms := quadMacros t q
  let rows (m : Nat) : Nat := spGet (fun _ => 0) s.thl.rowsUsed m
  let spare (kind n : Nat) : Nat := minOf 512 (fun i => n - s.wiresUsed t q kind (i / 16) (i % 16)) n
  [(Fd.THL_SPARE_COLS_RETIRED t q, countOf 32 (fun b => s.thl.bundleRet.contains (colKey t q b))),
   (Fd.THL_SPARE_BUNDLE_SPARE_MIN t q, min (spare 0 4) (spare 1 4)), (Fd.THL_SPARE_TSV_SPARE_MIN t q, spare 2 2),
   (Fd.THL_SPARE_MACROS_NO_ROW t q, (ms.filter (fun m => decide (rows m ≥ 16))).length),
   (Fd.THL_SPARE_MACROS_NO_COL t q, (ms.filter (fun m => decide (spGet (fun _ => 0) s.thl.colsUsed m ≥ 8))).length),
   (Fd.THL_SPARE_ROWS_LEFT t q, ms.foldl (fun a m => a + (16 - rows m)) 0)]

def State.viewMsc (s : State) : List (Fd × Nat) :=
  let mode (k : Nat) : Nat := spGet (fun _ => 0) s.msc.mode k
  let pend (k : Nat) : Nat := spGet (fun _ => 0) s.msc.pend k
  [(Fd.MSC_PIN_STAT_PINNED_LINES, (s.msc.lines.filter (fun p => p.2.valid && p.2.pinned)).length)] ++
  (List.range 16).flatMap (fun tq =>
    let t := tq / 4
    let q := tq % 4
    [(Fd.MSC_MODE_SWITCHING t q, maskOf 32 (fun b => decide (mode (tq * 32 + b) ≥ 2))), (Fd.MSC_MODE_CACHE t q, maskOf 32 (fun b => mode (tq * 32 + b) == 1)),
     (Fd.MSC_PEND_PENDING t q, maskOf 32 (fun b => pend (tq * 32 + b) != 0)), (Fd.MSC_PEND_PEND_MODE t q, maskOf 32 (fun b => pend (tq * 32 + b) == 2))])

def State.viewPil (s : State) (p : Nat) : List (Fd × Nat) :=
  let banks := (List.range 768).map (· + 768 * p)
  let rows (b : Nat) : Nat := spGet (fun _ => 0) s.pil.rowsUsed b
  [(Fd.PIL_STAT_CTRL_UP p, b2n (s.boot.pileCtl.contains p)),
   (Fd.PIL_SPARE_BANKS_NO_ROW p, (banks.filter (fun b => decide (rows b ≥ 128))).length),
   (Fd.PIL_SPARE_ROWS_RETIRED p, (s.pil.rowsRetired.filter (fun k => k / 32768 / 768 == p)).length),
   (Fd.PIL_SPARE_COIL_SPARE_MIN p, minOf 192 (fun i => 4 - spGet (fun _ => 0) s.pil.coilsUsed (192 * p + i)) 4),
   (Fd.PIL_SPARE_ROWS_LEFT p, banks.foldl (fun a b => a + (128 - rows b)) 0)]

def State.viewPnw (s : State) (t : Nat) : List (Fd × Nat) :=
  [(Fd.PNW_LINK_STAT_SPARES_LEFT t, 2 - spGet (fun _ => 0) s.pnw.lanesBad (40 + t))]

def State.slotsIn (s : State) (p : SlotSt → Bool) : Nat := (s.ses.slots.filter (fun x => p x.2.st)).length
def State.viewSes (s : State) : List (Fd × Nat) :=
  [(Fd.SES_STAT_STEPS, countOf 16 (fun h => (s.step_ h).isSome)), (Fd.SES_STAT_PARKED, s.slotsIn (· == .parked)),
   (Fd.SES_STAT_RESIDENT, s.slotsIn (fun x => x == .resident || x == .stepping)), (Fd.SES_STAT_FREE, 65536 - s.slotsIn (· != .free))] ++
  (List.range 64).flatMap (fun k =>
    let p := s.pool k
    [(Fd.SES_POOL_VALID k, b2n p.valid), (Fd.SES_POOL_TENANT k, p.tenant), (Fd.SES_POOL_ASID k, p.asid), (Fd.SES_POOL_FREE k, p.free)])

def State.viewSor (s : State) : List (Fd × Nat) :=
  [(Fd.SOR_STAT_ALLOCATED, (s.sor.sori.filter (fun p => p.2.st != .free)).length), (Fd.SOR_STAT_DESC_WAITS, s.sor.waits.length),
   (Fd.SOR_STAT_LOST, (s.sor.sori.filter (fun p => p.2.st == .lost)).length)]

def State.viewFab (s : State) : List (Fd × Nat) :=
  [(Fd.FAB_STAT_FRU, b2n s.hasFru), (Fd.FAB_STAT_WINDOWS, (s.fab.wins.filter (fun p => p.2.open_)).length),
   (Fd.FAB_STAT_OUTSTANDING, s.fab.reqs.length), (Fd.FAB_STAT_REDUCING, (s.fab.reds.filter (fun p => p.2.isSome)).length)]

def State.viewSec (s : State) : List (Fd × Nat) :=
  [(Fd.SEC_STAT_TENANT_KEYS, (s.sec.tenantKeys.filter (fun p => p.2.isSome)).length), (Fd.SEC_LMS_NEXT_Q, s.nextQ)]

/-- CLK shows 0 for a Frond whose arithmetic clock is stopped (R20, R508, R513). -/
def State.viewPwr (s : State) : List (Fd × Nat) :=
  (List.range 4).map (fun t => (Fd.PWR_TWR_CLK t,
    (List.range 4).foldl (fun w q => if s.clockRuns (.arithmetic (4 * t + q)) then w else putByte w q 0) (s.rget (Fd.PWR_TWR_CLK t))))

/-- Zone z: towers 0–3 and piles 0–7 with their sensors (Table 16-8). -/
def State.viewThm (s : State) : List (Fd × Nat) :=
  (List.range 12).map (fun z => (Fd.THM_FLAG_FLAGGED z,
    if z < 4 then maskOf 32 (fun n => s.flagged (32 * z + n)) else maskOf 16 (fun n => s.flagged (128 + 16 * (z - 4) + n))))

def State.viewBoot (s : State) : List (Fd × Nat) :=
  let busy (m : Sp (Option (List (Nat × Nat)))) (n k : Nat) : Nat := maskOf n (fun u => (spGet (fun _ => none) m (k + u)).isSome)
  [(Fd.BOOT_STAT_NOON_S, match s.boot.noonAt with
     | some c => if s.atNoon then min 0xFFFFFFFF ((s.clock - c) / 25000000) else 0
     | none => 0),
   (Fd.BOOT_RST_STAT_TOWER_RESTARTING, busy s.boot.restarting 4 16), (Fd.BOOT_RST_STAT_TOWER_PEND, busy s.boot.latched 4 16),
   (Fd.BOOT_RST_STAT_FROND_PEND, busy s.boot.latched 16 0), (Fd.BOOT_RST_STAT_FROND_RESTARTING, busy s.boot.restarting 16 0)]

def State.viewTwr (s : State) (t : Nat) : List (Fd × Nat) :=
  [(Fd.TWR_SEQ_UP_DMA_SEQ_UP t, maskOf 4 (fun q => (s.fr (4 * t + q)).dmaSeqUp)),
   (Fd.TWR_SEQ_UP_FEED_SEQ_UP t, maskOf 32 (fun i => (s.arr (4 * t + i / 8) (i % 8)).seqUp))]

def State.viewLdg (s : State) : List (Fd × Nat) :=
  let on (ok : Bool) : Nat := b2n (s.ldg.mounted && ok)
  let free (used : Nat) : Nat := if s.ldg.mounted then (halfBytes - used) / 1024 else 0
  [(Fd.LDG_STAT_MOUNTED, b2n s.ldg.mounted), (Fd.LDG_STAT_SINGLE, on (s.ldg.okA != s.ldg.okB)), (Fd.LDG_STAT_READ_ONLY, on (!s.ldg.okA && !s.ldg.okB)),
   (Fd.LDG_STAT_HALF_A_OK, on s.ldg.okA), (Fd.LDG_STAT_HALF_B_OK, on s.ldg.okB), (Fd.LDG_STAT_QUEUE, min 64 s.ldg.queue.length),
   (Fd.LDG_SEQ_SEQ, if s.ldg.mounted then s.ldg.seq else 0), (Fd.LDG_SPACE_FREE_A, free s.ldg.usedA), (Fd.LDG_SPACE_FREE_B, free s.ldg.usedB),
   (Fd.LDG_SPACE_POOL_PAGES, s.ldg.poolPages), (Fd.LDG_WEAR_WEAR_A, wearOf s.ldg.writtenA), (Fd.LDG_WEAR_WEAR_B, wearOf s.ldg.writtenB)] ++
  (List.range 18).map (fun e => (Fd.LDG_LASER_SPARES_LEFT e, engineSpares e - (List.range 4).foldl (fun a g => a + s.sparesUsed e g) 0))

def State.viewFlt (s : State) : List (Fd × Nat) := [(Fd.FLT_STAT_SEQ_NEXT, s.flt.seqNext)]

/-- The derived fields of the block that holds an offset. -/
def State.viewFields (s : State) (slot : Nat) : List (Fd × Nat) :=
  if slot < 0x28000 then []
  else if slot < 0x30000 then (if 0x28020 ≤ slot && slot < 0x280A0 then s.viewThl ((slot - 0x28020) / 32) ((slot - 0x28020) % 32 / 8) else [])
  else if slot < 0x40000 then s.viewMsc
  else if slot < 0x50000 then
    if 0x40088 ≤ slot && slot < 0x400C8 then s.viewPil ((slot - 0x40088) / 8)
    else if 0x400C8 ≤ slot && slot < 0x40108 then s.viewPil ((slot - 0x400C8) / 8) else []
  else if slot < 0x60000 then (if 0x500D8 ≤ slot && slot < 0x500F8 then s.viewPnw ((slot - 0x500D8) / 8) else [])
  else if slot < 0x70000 then []
  else if slot < 0x80000 then s.viewSes
  else if slot < 0x90000 then s.viewSor
  else if slot < 0xA0000 then s.viewFab
  else if slot < 0xB0000 then s.viewSec
  else if slot < 0xC0000 then (if 0xB0030 ≤ slot && slot < 0xB0050 then s.viewPwr else [])
  else if slot < 0xD0000 then s.viewThm
  else if slot < 0xE0000 then s.viewBoot
  else if slot < 0xF0000 then s.viewLdg
  else if slot < 0x100000 then s.viewFlt
  else if slot < 0x200000 then []
  else if slot < 0x300000 then s.viewFrd ((slot - 0x200000) / 0x10000)
  else if slot < 0x340000 then s.viewTwr ((slot - 0x300000) / 0x10000)
  else []

/-- The slot belongs to a unit the variant has (R12, R321). -/
def State.slotThere (s : State) (slot : Nat) : Bool :=
  let idx (base stride n have_ : Nat) : Bool := !(decide (base ≤ slot) && decide (slot < base + stride * n)) || decide ((slot - base) / stride < have_)
  idx 0x28020 32 4 s.towers && idx 0x30010 32 4 s.towers && idx 0x30090 32 4 s.towers && idx 0x30118 8 128 s.channels &&
    idx 0x40088 8 8 s.piles && idx 0x400C8 8 8 s.piles && idx 0x500D8 8 4 s.towers && idx 0x90018 8 16 s.part.fports &&
    idx 0x90098 8 16 s.part.fports && idx 0x90120 16 16 s.part.fports && idx 0xB0030 8 4 s.towers && idx 0xB0050 8 4 s.towers &&
    idx 0xC0008 8 4 s.towers && idx 0xC0028 8 8 s.piles && idx 0xC0068 8 4 s.towers && idx 0xC0088 8 8 s.piles &&
    idx 0xE0028 8 16 s.part.fports && idx 0xF0100 8 16 s.fronds && idx 0x200000 0x10000 16 s.fronds && idx 0x300000 0x10000 4 s.towers

/-! ## Windows -/

/-- The retained block FLT_RET_SEL selects (R608). -/
def State.retBytes (s : State) : List Byte :=
  let b := spGet (fun _ => RetBlock.init) s.flt.blocks (s.rget Fd.FLT_RET_SEL_BLOCK)
  leBytes 8 b.start ++ leBytes 2 b.recs.length ++ leBytes 6 0 ++ b.recs.reverse.flatMap FaultRec.bytes
/-- A word of the window onto the fault log (R605). -/
def State.winWord (s : State) (off : Nat) : W64 :=
  let seq := (s.rget Fd.FLT_WIN_BASE_BASE + off / 32) % 2 ^ 32
  match s.flt.log.find? (fun r => r.seq == seq) with
  | some r => if r.held then 0#64 else wordAt r.bytes (off % 32)
  | none => 0#64

/-- The offset is served in Twilight mode (R313). -/
def twilightServes (off : Nat) : Bool :=
  decide (off < 0x1000) || (decide (0xD0000 ≤ off) && decide (off < 0x110000))

/-- The 8 bytes at an offset of BAR0 that is a multiple of 8. -/
def State.bar0Word (s : State) (slot : Nat) : W64 :=
  if s.twilight && !twilightServes slot then 0#64
  else if slot < 0x1000 then s.capWord slot
  else if 0x20000 ≤ slot && slot < 0x28000 then s.distWord (slot - 0x20000)
  else if 0xD1000 ≤ slot && slot < 0xD4800 then wordAt (stageBytes ((slot - 0xD1000) / 0x800) (report s.boot.reports ((slot - 0xD1000) / 0x800))) (slot % 0x800)
  else if 0xD8000 ≤ slot && slot < 0xDB800 then
    wordAt (stageBytes ((slot - 0xD8000) / 0x800) (report s.boot.lastFailed ((slot - 0xD8000) / 0x800))) (slot % 0x800)
  else if 0xF1000 ≤ slot && slot < 0xF1810 then wordAt s.retBytes (slot - 0xF1000)
  else if 0xF8000 ≤ slot && slot < 0x100000 then s.winWord (slot - 0xF8000)
  else if 0x800000 ≤ slot && slot < 0x808000 then spGet (fun k => if k % 2 = 1 then 0x100000000#64 else 0#64) s.hpt.msix ((slot - 0x800000) / 8)
  else if 0x808000 ≤ slot && slot < 0x808100 then BitVec.ofNat 64 (maskOf 64 (fun i => s.hpt.pba.contains (8 * (slot - 0x808000) + i)))
  else if s.slotThere slot then overlay (s.rword slot) ((s.viewFields slot).filter (fun p => p.1.off == slot))
  else 0#64

/-- A read of 4 or 8 bytes. -/
def State.bar0Read (s : State) (off size : Nat) : Nat :=
  let w := (s.bar0Word (off - off % 8)).toNat
  if size = 8 then w else w / 2 ^ (8 * (off % 8)) % 2 ^ 32

/-! ## MANAGEMENT_READ (R661) -/

/-- Offsets a management message may read. -/
def mgmtServes (off : Nat) : Bool :=
  decide (off < 0x1000) || (decide (0x10000 ≤ off) && decide (off < 0x20000)) || (decide (0xD0000 ≤ off) && decide (off < 0x110000))

/-- MANAGEMENT_READ (R661): any other offset is answered with 0. -/
def execManagementRead (off size : Nat) (s : State) : Out :=
  .next (
    if s.rget Fd.HUB_CONN_STAT_NIGHT_UP = 1 && (size = 4 || size = 8) && off % size = 0 then
      { s with con.readAnswer := if mgmtServes off then s.bar0Read off size else 0 }
    else s)

end Sys2Proof.Machine
end

