-- ==== Sys2Proof/Machine/Registers.lean ====
section
/-!
DEFINITION. REGISTER_WRITE: a write of 4 or 8 bytes at a BAR0 offset, by the access codes of its fields (R9–R12, R313, R315, R321), with
the behaviour the owning rules give a field.
-/

namespace Sys2Proof.Machine

/-- The state an operation leaves. -/
def after (o : Out) (s : State) : State :=
  match o with
  | .next t => t
  | _ => s

/-- The bits of a slot that a write of `size` bytes at `off` covers. -/
def writeMask (off size : Nat) : Nat := (2 ^ (8 * size) - 1) * 2 ^ (8 * (off % 8))
/-- The written value in its place in the slot. -/
def writeWord (off size val : Nat) : W64 := BitVec.ofNat 64 (val % 2 ^ (8 * size) * 2 ^ (8 * (off % 8)))
/-- The slot as it would read with the covered bits replaced. -/
def mergeWord (old v : W64) (mask : Nat) : W64 :=
  (old &&& ~~~(BitVec.ofNat 64 mask)) ||| (v &&& BitVec.ofNat 64 mask)

/-! ## Locks and setup fields -/

/-- The lock named for the RWL fields of a slot is set (R260, R302, R308, R434, R485, R508). -/
def State.rwlLocked (s : State) (slot : Nat) : Bool :=
  if 0x40008 ≤ slot && slot < 0x40088 then s.rget Fd.PIL_MAP_CTL_LOCK == 1
  else if 0x50008 ≤ slot && slot < 0x500A8 then s.rget Fd.PNW_SLOT_CTL_LOCK == 1
  else if slot = 0x60010 then s.rget Fd.HPT_HDM_CTL_LOCK == 1 || s.hpt.hdm0.committed || s.hpt.hdm1.committed
  else if slot = 0x90000 then s.rget Fd.FAB_ID_LOCK == 1
  else if slot = 0xA0010 then s.tdiLocked
  else if slot = 0xB0000 then s.rget Fd.PWR_CTL_LOCK == 1
  else false

/-- Setup fields accept a write: the ring is disabled, or the fault ring is off (R325, R606). -/
def State.setupOpen (s : State) (slot : Nat) : Bool :=
  if 0x400000 ≤ slot && slot < 0x440000 then s.rget (Fd.RNG_CTL_STATE ((slot - 0x400000) / 256)) == 0
  else s.rget Fd.FLT_RING_CTL_EN == 0

/-- One field of a slot under a write: `m` covers the written bits, `v` holds them. -/
def State.fieldWrite (s : State) (slot mask : Nat) (v : W64) (w : W64) (f : FRow) : W64 :=
  let m := fld (BitVec.ofNat 64 mask) f.hi f.lo
  let x := fld v f.hi f.lo
  let old := fld w f.hi f.lo
  let put := (old &&& (m ^^^ (2 ^ (f.hi + 1 - f.lo) - 1))) ||| (x &&& m)
  match f.acc with
  | .rw => setFld w f.hi f.lo put
  | .rwl => if s.rwlLocked slot then w else setFld w f.hi f.lo put
  | .setup => if s.setupOpen slot then setFld w f.hi f.lo put else w
  | .w1c => setFld w f.hi f.lo (old &&& ((x &&& m) ^^^ (2 ^ (f.hi + 1 - f.lo) - 1)))
  | .w1s => setFld w f.hi f.lo (old ||| (x &&& m))
  | .ro => w
  | .wo => w
  | .own => w

/-- Every field of a slot takes the write by its access code. -/
def State.slotWrite (s : State) (slot mask : Nat) (v : W64) : State :=
  match regRow slot with
  | some r => s.setRword slot (r.fields.foldl (fun w f => s.fieldWrite slot mask v w f) (s.rword slot))
  | none => s

/-! ## Fields with a behaviour of their own -/

/-- PIL_REGION_n: LOST is cleared by a 1 under R263; the rest by their codes. -/
def State.regionWrite (s : State) (n slot mask : Nat) (v : W64) : State :=
  let s := s.slotWrite slot mask v
  if bit v 59 then after (execRegionLostClear n s) s else s

/-- RNG_CTL: setup fields, then ENABLE (R326–R329). -/
def State.rngCtlWrite (s : State) (r slot mask : Nat) (v : W64) : State :=
  let s := s.slotWrite slot mask v
  if nbit mask 63 then (if bit v 63 then after (execRingEnable r s) s else after (execRingDisable r s) s) else s

/-- FWU_SPORE: clearing EN ends a reception in progress (R639, R641). -/
def State.sporeCtlWrite (s : State) (slot mask : Nat) (v : W64) : State :=
  let t := s.slotWrite slot mask v
  if s.rget Fd.FWU_SPORE_EN = 1 && t.rget Fd.FWU_SPORE_EN = 0 then t.sporeOff else t

/-- The registers whose write has a behaviour of its own, in the blocks up to FAB_. -/
def State.ownLow (s : State) (slot mask : Nat) (v : W64) : Option State :=
  if slot = 0x40000 then
    some ((if bit v 0 then after (execApply s) s else s).slotWrite slot mask v)
  else if 0x40008 ≤ slot && slot < 0x40088 then some (s.regionWrite ((slot - 0x40008) / 8) slot mask v)
  else if slot = 0x50000 then
    -- a REFUSED that this commit sets is not lost to a 1 written to it (R10); LOCK holds from the next write on
    let s := s.slotWrite slot mask (v &&& 0x7FFFFFFF#64)
    let s := if fld v 4 0 = 0 then s else after (execSlotTableCommit (fld v 4 0) s) s
    some (s.slotWrite slot mask (v &&& 0x80000000#64))
  else if 0x90018 ≤ slot && slot < 0x90098 then
    if nbit mask 63 then some (after (execFabPortCfgWrite ((slot - 0x90018) / 8) (mergeWord (s.rword slot) v mask) s) s) else none
  else none

/-- The registers whose write has a behaviour of its own, in the blocks from BOOT_ on. -/
def State.ownHigh (s : State) (slot mask : Nat) (v : W64) : Option State :=
  if slot = 0xD0008 then
    let s := s.slotWrite slot mask v
    some (if bit v 31 then after (execRetry s) s else s)
  else if slot = 0xF0018 then (if nbit mask 63 then some (s.ringCtlWrite v) else none)
  else if slot = 0xF0040 then (if nbit mask 63 then some (s.injCtlWrite v) else none)
  else if slot = 0xF0080 then some (s.paceCtlWrite (mergeWord (s.rword slot) v mask))
  else if slot = 0x100000 then
    let s := if bit v 31 then after (execStart [] s) s else s
    some (if bit v 30 then after (execAbandon s) s else s)
  else if slot = 0x100020 then some (s.sporeCtlWrite slot mask v)
  else if 0x200000 ≤ slot && slot < 0x300000 && slot % 0x10000 = 0x50 then
    some (after (execFrdSleepCtlWrite ((slot - 0x200000) / 0x10000) (mergeWord (s.rword slot) v mask) s) s)
  else if 0x400000 ≤ slot && slot < 0x440000 && slot % 0x100 = 0 then some (s.rngCtlWrite ((slot - 0x400000) / 256) slot mask v)
  else none

/-- A word of the MSI-X table: a vector that is unmasked while pending is sent (R347). -/
def State.msixWrite (s : State) (slot mask : Nat) (v : W64) : State :=
  let k := (slot - 0x800000) / 8
  let dflt (k : Nat) : W64 := if k % 2 = 1 then 0x100000000#64 else 0#64
  let s := { s with hpt.msix := spPut dflt s.hpt.msix k (mergeWord (spGet dflt s.hpt.msix k) v mask) }
  let n := k / 2
  if s.hpt.pba.contains n && s.hostUp && !s.msiMasked n then
    { s with hpt.pba := s.hpt.pba.filter (· != n), hpt.sent := n :: s.hpt.sent }
  else s

/-- The TDI in CONFIG_LOCKED or RUN locks HPT_HDM_CTL and the registers of the bound tenant's rings (R315). -/
def State.tdiLocks (s : State) (slot : Nat) : Bool :=
  s.tdiLocked && (slot == 0x60010 || (decide (0x400000 ≤ slot) && decide (slot < 0x440000) && s.ringOfTdi ((slot - 0x400000) / 256)))

/-- A write reaches a slot of BAR0. -/
def State.bar0Write (s : State) (slot mask : Nat) (v : W64) : State :=
  if s.twilight && !twilightServes slot then s
  else if s.tdiLocks slot then s.tdispLock
  else if 0x800000 ≤ slot && slot < 0x808000 then s.msixWrite slot mask v
  else if !s.slotThere slot then s
  else match s.ownLow slot mask v with
    | some t => t
    | none => match s.ownHigh slot mask v with
      | some t => t
      | none => s.slotWrite slot mask v

/-- REGISTER_WRITE (R9, R10, R321): a write of `size` bytes at a BAR0 offset; one that is not 4 or 8 bytes naturally aligned completes with
Unsupported Request. -/
def execRegisterWrite (off size val : Nat) (s : State) : Out :=
  .next (
    if (size = 4 || size = 8) && off % size = 0 then s.bar0Write (off - off % 8) (writeMask off size) (writeWord off size val)
    else { s with hpt.ur := s.hpt.ur + 1 })

end Sys2Proof.Machine
end

