-- ==== Sys2Proof/Machine/Sori.lean ====
section
/-!
DEFINITION. Sori (R392–R408): the thread instructions, the banks and the watch lists, and the class 0x4 descriptors.
-/

namespace Sys2Proof.Machine

/-- A sorus ID in a general register: bits 31:13 are 0 (R397). -/
def sorusId (w : W32) : Option Nat := if w.toNat < 8192 then some w.toNat else none
/-- A 64-bit value in a register pair, low half first. -/
def State.regPair (s : State) (f g t n : Nat) : Nat := (s.rg f g t n).toNat + (s.rg f g t (n + 1)).toNat * 2 ^ 32
/-- A thread's sorus operation that fails under R396 traps with its reason (R401). -/
def State.sorTrap (s : State) (f g t reason : Nat) : State := s.trap f g t reason 0 (sorThreadLoc f t)

/-- A thread acts on the sorus its register names, or traps (R397). -/
def State.onSorus (s : State) (f g t gs : Nat) (act : State → Nat → State) : State :=
  match sorusId (s.rg f g t gs) with
  | none => s.trapHere f g t 0x0280
  | some n => act s n

/-- A sorus instruction of a group: its pair is even, and each executing thread names a sorus ID (R397). -/
def State.sorThread (s : State) (f g mask gs : Nat) (reads : List Nat) (pair : Nat)
    (act : State → Nat → Kernel → Nat → Nat → State) : State :=
  s.issue f g (fun s k q ts =>
    if pair % 2 = 1 then s.trapEach f g 0x0280 (trapLoc f g) false ts
    else s.eachThread f g mask reads ts (fun s t => s.onSorus f g t gs (fun s n => act s k q n t)))

/-- One thread's SSIG: the signal leaves the Frond after the stores the thread issued before it; the thread goes on at once. A kernel that
one of those stores aborts sends none. -/
def State.ssig1 (s : State) (f g t gn k : Nat) (q : Kernel) (n : Nat) : State :=
  let s := s.sbDrain f
  let amount := (s.rg f g t gn).toNat
  let s := if amount = 0 || (s.slotKernel f g).all (fun p => p.2.abort.isSome) then s
    else { s with sor.queue := s.sor.queue ++ [⟨f, n, amount, q.launch.tenant, .thread f k t⟩] }
  s.advance f g t

/-- SSIG (R397, R398, R402). -/
def execSsig (f g mask gs gn : Nat) (s : State) : Out :=
  .next (if s.sbHeld f then s else s.sorThread f g mask gs [gs % 128, gn % 128] 0 (fun s k q n t => s.ssig1 f g t gn k q n))

/-- A thread's wait reaches the sorus (R395, R396, R400, R401); `thr`: its threshold, or the stored one. -/
def State.sorWait (s : State) (f g t n tenant : Nat) (thr : Option Nat) (inv : Bool) : State :=
  let s := s.sorCheckErr n
  match s.sorRefuse n tenant false with
  | some e => s.sorTrap f g t e
  | none =>
    let th := thr.getD (s.sorus n).thresh.toNat
    if th ≤ (s.sorus n).value.toNat then (if inv then s.dcClear f else s).advance f g t
    else if (s.fr f).watchFull n then s.sorTrap f g t 0x0A05
    else (s.modFr f (fun q => { q with watch := q.watch ++ [⟨g, t, n, th, false⟩] })).startWait f g t (.sorus n th inv)

/-- SWAIT (R395), and its .I form. -/
def execSwait (f g mask gs : Nat) (inv : Bool) (s : State) : Out :=
  .next (s.sorThread f g mask gs [gs % 128] 0 (fun s _ q n t => s.sorWait f g t n q.launch.tenant none inv))
/-- SWAIT.T (R395), and its .I form. -/
def execSwaitT (f g mask gs gt : Nat) (inv : Bool) (s : State) : Out :=
  .next (s.sorThread f g mask gs [gs % 128, gt % 128, (gt + 1) % 128] gt (fun s _ q n t =>
    s.sorWait f g t n q.launch.tenant (some (s.regPair f g t gt)) inv))

/-- One thread's SRD: VALUE into its register pair. -/
def State.srd1 (s : State) (f g t gd tenant n : Nat) : State :=
  let s := s.sorCheckErr n
  match s.sorRefuse n tenant false with
  | some e => s.sorTrap f g t e
  | none =>
    let v := (s.sorus n).value.toNat
    ((s.setGreg f g t (gd % 128) (BitVec.ofNat 32 v)).setGreg f g t ((gd + 1) % 128) (BitVec.ofNat 32 (v / 2 ^ 32))).advance f g t

/-- SRD (R397, R405). -/
def execSrd (f g mask gd gs : Nat) (s : State) : Out :=
  .next (s.sorThread f g mask gs [gs % 128] gd (fun s _ q n t => s.srd1 f g t gd q.launch.tenant n))

/-- SORUS_UPDATE_APPLY (R393): the bank applies one queued update, taking its inputs in rotating order. -/
def execSorusUpdateApply (bank : Nat) (s : State) : Out :=
  .next (
    let p := spGet (fun _ => 0) s.sor.ptr bank
    match ((List.range 26).map (fun i => (p + i) % 26)).find? (fun q => s.sor.queue.any (fun u => u.at_ q bank)) with
    | none => s
    | some q =>
      match s.sor.queue.find? (fun u => u.at_ q bank) with
      | none => s
      | some u =>
        ({ s with sor.queue := s.sor.queue.erase u, sor.ptr := spPut (fun _ => 0) s.sor.ptr bank ((q + 1) % 26) }).applyUpd u)

/-- Wait of a thread on a sorus: whether the data cache is invalidated after it. -/
def Wait.invOf (w : Wait) : Bool :=
  match w with
  | .sorus _ _ i => i
  | _ => false

/-- WATCH_RELEASE (R400): the Frond hears the sorus's value and releases every thread whose threshold was met. -/
def execWatchRelease (f n : Nat) (s : State) : Out :=
  .next (
    let go := (s.fr f).watch.filter (fun w => w.sorus == n && w.sat)
    let s := s.modFr f (fun q => { q with watch := q.watch.filter (fun w => !(w.sorus == n && w.sat)) })
    go.foldl (fun s w => (if (s.thr f w.g w.t).wait.invOf then s.dcClear f else s).advance f w.g w.t) s)

/-- WAIT_TO_MS in Night clocks; 0 acts as 1 (Table 12-5). -/
def State.waitTo (s : State) : Nat := max 1 (s.rget Fd.SOR_CTL_WAIT_TO_MS) * 25000

/-- WAIT_TIMEOUT (R401). -/
def execWaitTimeout (f g t : Nat) (s : State) : Out :=
  .next (match (s.thr f g t).wait with
    | .sorus n _ _ =>
      if (s.fr f).watch.any (fun w => w.g == g && w.t == t && w.sorus == n && !w.sat) && s.clock - (s.thr f g t).waitClock ≥ s.waitTo then
        (s.modFr f (fun q => { q with watch := q.watch.filter (fun w => !(w.g == g && w.t == t)) })).sorTrap f g t 0x0A04
      else s
    | _ => s)

/-! ## Class 0x4 descriptors (R403–R407) -/

/-- An operation that fails under R396: the record, and the descriptor's completion (R407). -/
def State.sorFail (s : State) (r i n reason : Nat) : State :=
  (s.raise (recErr reason (sorLoc n) (s.ringCtx r))).complete r i 0x80 reason 0

/-- A class 0x4 descriptor on its sorus, whose errors are found first. -/
def State.sorOp (s : State) (r i op : Nat) (act : Desc → State → State) : State :=
  match s.opOf r i 4 op with
  | none => s
  | some d => act d (s.sorCheckErr (d.f 1 12 0))

/-- The operation passes the checks of R396. -/
def State.sorChecked (s : State) (r i n : Nat) (act : State) : State :=
  match s.sorRefuse n (s.ringTenant r) false with
  | some e => s.sorFail r i n e
  | none => act

/-- CREATE (R404). -/
def execCreate (r i : Nat) (s : State) : Out :=
  .next (s.sorOp r i 0 (fun d s =>
    let n := d.f 1 12 0
    if (s.sorus n).st = .free then
      ((((s.setSorus n ⟨d.w2, d.w3, s.ringTenant r, d.f 1 16 16 == 1, .allocated, true, 0, 0, 0, 0⟩).sorWrite n d.w2).sorEval n)).complete r i 0 0 0
    else s.sorChecked r i n (s.complete r i 2 0 0)))

/-- DESTROY (R396, R404). -/
def execDestroy (r i : Nat) (s : State) : Out :=
  .next (s.sorOp r i 1 (fun d s =>
    let n := d.f 1 12 0
    let q := s.sorus n
    if q.st = .free then s.sorFail r i n 0x0A01
    else if !(if q.bound then q.tenant == s.ringTenant r else s.rget (Fd.RNG_CTL_PRIV r) == 1) then s.sorFail r i n 0x0A02
    else if s.sor.waits.any (fun w => w.sorus == n) || (List.range s.fronds).any (fun f => (s.fr f).watch.any (fun w => w.sorus == n)) then
      s.complete r i 2 0 0
    else (s.setSorus n .init).complete r i 0 0 0))

/-- SIGNAL (R394, R405). -/
def execSignal (r i : Nat) (s : State) : Out :=
  .next (s.sorOp r i 2 (fun d s =>
    let n := d.f 1 12 0
    match s.sorNow (16 + s.rget (Fd.RNG_CTL_CP r)) n (d.f 2 31 0) (s.ringTenant r) with
    | (s, some e) => s.sorFail r i n e
    | (s, none) => s.complete r i 0 0 (s.sorus n).value.toNat))

/-- SET (R395, R405). -/
def execSet (r i : Nat) (s : State) : Out :=
  .next (s.sorOp r i 3 (fun d s =>
    let n := d.f 1 12 0
    s.sorChecked r i n (
      let s := (((s.setSorus n { s.sorus n with thresh := d.w3, badT := 0 }).sorWrite n d.w2).sorEval n)
      s.complete r i 0 0 d.w2.toNat)))

/-- WAIT (R405): it takes a wait entry; its threshold is T or the stored one. -/
def execWait (r i : Nat) (s : State) : Out :=
  .next (s.sorOp r i 4 (fun d s =>
    let n := d.f 1 12 0
    if s.sor.waits.length ≥ 4096 then s
    else s.sorChecked r i n (
      let th := if d.f 1 17 17 = 1 then (s.sorus n).thresh.toNat else d.f 2 63 0
      let due := s.clock + (if d.f 3 31 0 = 0 then s.waitTo else d.f 3 31 0 * 25)
      let s := s.markRan r i
      { s with sor.waits := s.sor.waits ++ [⟨r, i, n, th, due, decide (th ≤ (s.sorus n).value.toNat)⟩] })))

/-- A wait entry of a descriptor ends. -/
def State.waitEnd (s : State) (r i status : Nat) (sat : Bool) : State :=
  match s.sor.waits.find? (fun w => w.ring == r && w.idx == i) with
  | none => s
  | some w =>
    if w.sat ≠ sat || (!sat && s.clock < w.due) then s
    else ({ s with sor.waits := s.sor.waits.erase w }).complete r i status 0 (s.sorus w.sorus).value.toNat

/-- WAIT_SATISFIED (R405). -/
def execWaitSatisfied (r i : Nat) (s : State) : Out := .next (s.waitEnd r i 0 true)
/-- WAIT_TIMED_OUT (R405). -/
def execWaitTimedOut (r i : Nat) (s : State) : Out := .next (s.waitEnd r i 3 false)

/-- READ (R405). -/
def execRead (r i : Nat) (s : State) : Out :=
  .next (s.sorOp r i 5 (fun d s =>
    let n := d.f 1 12 0
    s.sorChecked r i n (s.complete r i 0 0 (s.sorus n).value.toNat)))

end Sys2Proof.Machine
end

