-- ==== Sys2Proof/Machine/Dispatch.lean ====
section
/-!
DEFINITION. The dispatch: each command is one call of its meaning.
-/

namespace Sys2Proof.Machine

def exec (i : Instr) (s : State) : Host.Outcome State Fault Refusal :=
  match i with
  | .registerWrite off size val => Sys2Proof.Machine.execRegisterWrite off size val s
  | .loadCb f a => Sys2Proof.Machine.execLoadCb f a s
  | .loadCbComplete f a => Sys2Proof.Machine.execLoadCbComplete f a s
  | .loadStat f a => Sys2Proof.Machine.execLoadStat f a s
  | .shadowLoadComplete f a => Sys2Proof.Machine.execShadowLoadComplete f a s
  | .pass f a stall upset => Sys2Proof.Machine.execPass f a stall upset s
  | .swapMarkerRelease f a held stall upset => Sys2Proof.Machine.execSwapMarkerRelease f a held stall upset s
  | .drain f a => Sys2Proof.Machine.execDrain f a s
  | .drainComplete f a => Sys2Proof.Machine.execDrainComplete f a s
  | .accumulatorPatternTest f a fails => Sys2Proof.Machine.execAccumulatorPatternTest f a fails s
  | .commandTimeout f a => Sys2Proof.Machine.execCommandTimeout f a s
  | .threadLoad f g mask reads vas size rd conv => Sys2Proof.Machine.execThreadLoad f g mask reads vas size rd conv s
  | .threadStore f g mask reads vas size rs => Sys2Proof.Machine.execThreadStore f g mask reads vas size rs s
  | .storeBufferWrite f => Sys2Proof.Machine.execStoreBufferWrite f s
  | .aliasStore f g mask reads vas size rs => Sys2Proof.Machine.execAliasStore f g mask reads vas size rs s
  | .atomic f g mask op reads vas size rv rc rd => Sys2Proof.Machine.execAtomic f g mask op reads vas size rv rc rd s
  | .fenceL f g mask => Sys2Proof.Machine.execFenceL f g mask s
  | .fenceM f g mask => Sys2Proof.Machine.execFenceM f g mask s
  | .fenceMi f g mask => Sys2Proof.Machine.execFenceMi f g mask s
  | .cinv f g mask reads vas => Sys2Proof.Machine.execCinv f g mask reads vas s
  | .translationWalk f g t agent va need => Sys2Proof.Machine.execTranslationWalk f g t agent va need s
  | .copy f c => Sys2Proof.Machine.execCopy f c s
  | .fill f c => Sys2Proof.Machine.execFill f c s
  | .dmaComplete f c => Sys2Proof.Machine.execDmaComplete f c s
  | .duskEntry f => Sys2Proof.Machine.execDuskEntry f s
  | .nightEntry f => Sys2Proof.Machine.execNightEntry f s
  | .darkEntry f => Sys2Proof.Machine.execDarkEntry f s
  | .sleepEntryComplete f => Sys2Proof.Machine.execSleepEntryComplete f s
  | .wakeRequest f slow => Sys2Proof.Machine.execWakeRequest f slow s
  | .wakeComplete f => Sys2Proof.Machine.execWakeComplete f s
  | .wakeTimeout f => Sys2Proof.Machine.execWakeTimeout f s
  | .sleepingLocalStoreAccess f agent addr wr bytes => Sys2Proof.Machine.execSleepingLocalStoreAccess f agent addr wr bytes s
  | .frdSleepCtlWrite f v => Sys2Proof.Machine.execFrdSleepCtlWrite f v s
  | .instructionIssue f g mask kind upset => Sys2Proof.Machine.execInstructionIssue f g mask kind upset s
  | .fmaInstruction f g mask op rd ra rb rc => Sys2Proof.Machine.execFmaInstruction f g mask op rd ra rb rc s
  | .specialFunction f g mask fn rd ra => Sys2Proof.Machine.execSpecialFunction f g mask fn rd ra s
  | .gshuf f g mask d sreg idx => Sys2Proof.Machine.execGshuf f g mask d sreg idx s
  | .gxpose f g mask d sreg => Sys2Proof.Machine.execGxpose f g mask d sreg s
  | .gmv f g mask d sreg v => Sys2Proof.Machine.execGmv f g mask d sreg v s
  | .gred f g mask op d sreg => Sys2Proof.Machine.execGred f g mask op d sreg s
  | .gscan f g mask ty d sreg => Sys2Proof.Machine.execGscan f g mask ty d sreg s
  | .barG f g mask b => Sys2Proof.Machine.execBarG f g mask b s
  | .barK f g mask b => Sys2Proof.Machine.execBarK f g mask b s
  | .exit f g mask => Sys2Proof.Machine.execExit f g mask s
  | .trap f g mask arg => Sys2Proof.Machine.execTrap f g mask arg s
  | .clusterPatternTest f c fails => Sys2Proof.Machine.execClusterPatternTest f c fails s
  | .acmd f g mask a n => Sys2Proof.Machine.execAcmd f g mask a n s
  | .dcmd f g mask c n => Sys2Proof.Machine.execDcmd f g mask c n s
  | .await f g mask a n => Sys2Proof.Machine.execAwait f g mask a n s
  | .dwait f g mask c n => Sys2Proof.Machine.execDwait f g mask c n s
  | .divergentCollective f g => Sys2Proof.Machine.execDivergentCollective f g s
  | .barrierDeadlock f g => Sys2Proof.Machine.execBarrierDeadlock f g s
  | .kernelAbort f k => Sys2Proof.Machine.execKernelAbort f k s
  | .launchRecord f w0 w1 w2 w3 r idx image => Sys2Proof.Machine.execLaunchRecord f w0 w1 w2 w3 r idx image s
  | .kernelAdmission f => Sys2Proof.Machine.execKernelAdmission f s
  | .kernelExit f k => Sys2Proof.Machine.execKernelExit f k s
  | .scratchpadAccess agent off wr bytes crc => Sys2Proof.Machine.execScratchpadAccess agent off wr bytes crc s
  | .bundleWireTest t q kind b failed => Sys2Proof.Machine.execBundleWireTest t q kind b failed s
  | .rowRepair t die q b m row => Sys2Proof.Machine.execRowRepair t die q b m row s
  | .patrolRead t die q b len => Sys2Proof.Machine.execPatrolRead t die q b len s
  | .patrolLate => Sys2Proof.Machine.execPatrolLate s
  | .thallusBandChange t die q b => Sys2Proof.Machine.execThallusBandChange t die q b s
  | .retentionEntry t die q b => Sys2Proof.Machine.execRetentionEntry t die q b s
  | .cacheRead agent pa len => Sys2Proof.Machine.execCacheRead agent pa len s
  | .cacheWrite agent pa bytes => Sys2Proof.Machine.execCacheWrite agent pa bytes s
  | .fillWaitRelease sl set => Sys2Proof.Machine.execFillWaitRelease sl set s
  | .setCacheMode r idx => Sys2Proof.Machine.execSetCacheMode r idx s
  | .switchToCache t q b => Sys2Proof.Machine.execSwitchToCache t q b s
  | .switchToScratchpad t q b => Sys2Proof.Machine.execSwitchToScratchpad t q b s
  | .modeSwitchComplete t q b => Sys2Proof.Machine.execModeSwitchComplete t q b s
  | .prefetch r idx => Sys2Proof.Machine.execPrefetch r idx s
  | .flush r idx => Sys2Proof.Machine.execFlush r idx s
  | .invalidate r idx => Sys2Proof.Machine.execInvalidate r idx s
  | .pin r idx => Sys2Proof.Machine.execPin r idx s
  | .unpin r idx => Sys2Proof.Machine.execUnpin r idx s
  | .postedReduction agent op ty pa bytes => Sys2Proof.Machine.execPostedReduction agent op ty pa bytes s
  | .sliceAtomic agent op size pa v cmp => Sys2Proof.Machine.execSliceAtomic agent op size pa v cmp s
  | .lineLockEnd pa => Sys2Proof.Machine.execLineLockEnd pa s
  | .apply => Sys2Proof.Machine.execApply s
  | .applyLatchedStart => Sys2Proof.Machine.execApplyLatchedStart s
  | .regionLostClear n => Sys2Proof.Machine.execRegionLostClear n s
  | .dramAccess agent pa wr bytes => Sys2Proof.Machine.execDramAccess agent pa wr bytes s
  | .refresh ch bank postpone => Sys2Proof.Machine.execRefresh ch bank postpone s
  | .pileBandChange p => Sys2Proof.Machine.execPileBandChange p s
  | .pileScrub ch n => Sys2Proof.Machine.execPileScrub ch n s
  | .rowRetirement ch bank row => Sys2Proof.Machine.execRowRetirement ch bank row s
  | .coilLoss ch layer coil => Sys2Proof.Machine.execCoilLoss ch layer coil s
  | .pileFailed p => Sys2Proof.Machine.execPileFailed p s
  | .flitReplay link req => Sys2Proof.Machine.execFlitReplay link req s
  | .networkLinkRetrain link failed => Sys2Proof.Machine.execNetworkLinkRetrain link failed s
  | .routerFailed t k => Sys2Proof.Machine.execRouterFailed t k s
  | .routeTableWrite t => Sys2Proof.Machine.execRouteTableWrite t s
  | .frondDrain f => Sys2Proof.Machine.execFrondDrain f s
  | .drainTimeout f => Sys2Proof.Machine.execDrainTimeout f s
  | .requestPromotion kind inst reqs => Sys2Proof.Machine.execRequestPromotion kind inst reqs s
  | .slotTableCommit bits => Sys2Proof.Machine.execSlotTableCommit bits s
  | .slotTableLatchedCommit k => Sys2Proof.Machine.execSlotTableLatchedCommit k s
  | .hostPortReset => Sys2Proof.Machine.execHostPortReset s
  | .linkDown long => Sys2Proof.Machine.execLinkDown long s
  | .hostLinkUp rate width => Sys2Proof.Machine.execHostLinkUp rate width s
  | .ideIntegrity stream => Sys2Proof.Machine.execIdeIntegrity stream s
  | .sidebandFrame toModule perst => Sys2Proof.Machine.execSidebandFrame toModule perst s
  | .sidebandLost => Sys2Proof.Machine.execSidebandLost s
  | .cxlMemAccess hpa wr bytes => Sys2Proof.Machine.execCxlMemAccess hpa wr bytes s
  | .hdmDecoderCommit n base size ways gran on => Sys2Proof.Machine.execHdmDecoderCommit n base size ways gran on s
  | .ringEnable r => Sys2Proof.Machine.execRingEnable r s
  | .ringDisable r => Sys2Proof.Machine.execRingDisable r s
  | .ringDisableDone r => Sys2Proof.Machine.execRingDisableDone r s
  | .sqTail r size v image => Sys2Proof.Machine.execSqTail r size v image s
  | .cqHead r size v => Sys2Proof.Machine.execCqHead r size v s
  | .descriptorFetch cp => Sys2Proof.Machine.execDescriptorFetch cp s
  | .descriptorStart r => Sys2Proof.Machine.execDescriptorStart r s
  | .completionWrite r => Sys2Proof.Machine.execCompletionWrite r s
  | .nop r idx => Sys2Proof.Machine.execNop r idx s
  | .fence r idx => Sys2Proof.Machine.execFence r idx s
  | .xlatInv r idx => Sys2Proof.Machine.execXlatInv r idx s
  | .launch r idx => Sys2Proof.Machine.execLaunch r idx s
  | .imageLoad r idx => Sys2Proof.Machine.execImageLoad r idx s
  | .imageUnload r idx => Sys2Proof.Machine.execImageUnload r idx s
  | .ringCopy r idx => Sys2Proof.Machine.execRingCopy r idx s
  | .ringFill r idx => Sys2Proof.Machine.execRingFill r idx s
  | .ringIrqTimer r => Sys2Proof.Machine.execRingIrqTimer r s
  | .openSession r idx upset => Sys2Proof.Machine.execOpen r idx upset s
  | .close r idx upset => Sys2Proof.Machine.execClose r idx upset s
  | .step r idx => Sys2Proof.Machine.execStep r idx s
  | .planLaunch h => Sys2Proof.Machine.execPlanLaunch h s
  | .planGather h => Sys2Proof.Machine.execPlanGather h s
  | .stepComplete h => Sys2Proof.Machine.execStepComplete h s
  | .stepFail h => Sys2Proof.Machine.execStepFail h s
  | .park r idx => Sys2Proof.Machine.execPark r idx s
  | .resume r idx => Sys2Proof.Machine.execResume r idx s
  | .truncate r idx => Sys2Proof.Machine.execTruncate r idx s
  | .query r idx upset => Sys2Proof.Machine.execQuery r idx upset s
  | .poolCreate r idx => Sys2Proof.Machine.execPoolCreate r idx s
  | .poolDestroy r idx => Sys2Proof.Machine.execPoolDestroy r idx s
  | .slotLatchedStart x => Sys2Proof.Machine.execSlotLatchedStart x s
  | .sessionSequenceRestart => Sys2Proof.Machine.execSessionSequenceRestart s
  | .ssig f g mask gs gn => Sys2Proof.Machine.execSsig f g mask gs gn s
  | .swait f g mask gs inv => Sys2Proof.Machine.execSwait f g mask gs inv s
  | .swaitT f g mask gs gt inv => Sys2Proof.Machine.execSwaitT f g mask gs gt inv s
  | .srd f g mask gd gs => Sys2Proof.Machine.execSrd f g mask gd gs s
  | .sorusUpdateApply bank => Sys2Proof.Machine.execSorusUpdateApply bank s
  | .watchRelease f n => Sys2Proof.Machine.execWatchRelease f n s
  | .waitTimeout f g t => Sys2Proof.Machine.execWaitTimeout f g t s
  | .create r idx => Sys2Proof.Machine.execCreate r idx s
  | .destroy r idx => Sys2Proof.Machine.execDestroy r idx s
  | .signal r idx => Sys2Proof.Machine.execSignal r idx s
  | .setSorus r idx => Sys2Proof.Machine.execSet r idx s
  | .wait r idx => Sys2Proof.Machine.execWait r idx s
  | .waitSatisfied r idx => Sys2Proof.Machine.execWaitSatisfied r idx s
  | .waitTimedOut r idx => Sys2Proof.Machine.execWaitTimedOut r idx s
  | .read r idx => Sys2Proof.Machine.execRead r idx s
  | .fabPortCfgWrite p v => Sys2Proof.Machine.execFabPortCfgWrite p v s
  | .portLatchedChange p => Sys2Proof.Machine.execPortLatchedChange p s
  | .linkTraining l ok => Sys2Proof.Machine.execLinkTraining l ok s
  | .trainingRetry l light => Sys2Proof.Machine.execTrainingRetry l light s
  | .crossedSwap l again => Sys2Proof.Machine.execCrossedSwap l again s
  | .blockReceive l phys block => Sys2Proof.Machine.execBlockReceive l phys block s
  | .flitReceive l w0 w1 area crcOk tagOk => Sys2Proof.Machine.execFlitReceive l w0 w1 area crcOk tagOk s
  | .nakRepeat l => Sys2Proof.Machine.execNakRepeat l s
  | .ackReport l => Sys2Proof.Machine.execAckReport l s
  | .linkRetrained l ok => Sys2Proof.Machine.execLinkRetrained l ok s
  | .rekeyStart l => Sys2Proof.Machine.execRekeyStart l s
  | .messageDropped l => Sys2Proof.Machine.execMessageDropped l s
  | .fabricLinkDown l => Sys2Proof.Machine.execFabricLinkDown l s
  | .msgWrite l => Sys2Proof.Machine.execMsgWrite l s
  | .msgRedWrite l => Sys2Proof.Machine.execMsgRedWrite l s
  | .msgRead l => Sys2Proof.Machine.execMsgRead l s
  | .msgSignal l => Sys2Proof.Machine.execMsgSignal l s
  | .msgSess l => Sys2Proof.Machine.execMsgSess l s
  | .msgDone l => Sys2Proof.Machine.execMsgDone l s
  | .msgData l => Sys2Proof.Machine.execMsgData l s
  | .msgError l => Sys2Proof.Machine.execMsgError l s
  | .msgChunk l => Sys2Proof.Machine.execMsgChunk l s
  | .msgAdvance l => Sys2Proof.Machine.execMsgAdvance l s
  | .msgAbort l => Sys2Proof.Machine.execMsgAbort l s
  | .msgLeave l => Sys2Proof.Machine.execMsgLeave l s
  | .msgRekey l => Sys2Proof.Machine.execMsgRekey l s
  | .msgIdent l => Sys2Proof.Machine.execMsgIdent l s
  | .msgKeyx l => Sys2Proof.Machine.execMsgKeyx l s
  | .winOpen r idx => Sys2Proof.Machine.execWinOpen r idx s
  | .winClose r idx => Sys2Proof.Machine.execWinClose r idx s
  | .put r idx => Sys2Proof.Machine.execPut r idx s
  | .get r idx => Sys2Proof.Machine.execGet r idx s
  | .fabricSignal r idx => Sys2Proof.Machine.execFabricSignal r idx s
  | .reduce r idx => Sys2Proof.Machine.execReduce r idx s
  | .reduceComplete g => Sys2Proof.Machine.execReduceComplete g s
  | .reductionTimeout g => Sys2Proof.Machine.execReductionTimeout g s
  | .sessionSend r idx => Sys2Proof.Machine.execSessionSend r idx s
  | .fabTable r idx => Sys2Proof.Machine.execFabTable r idx s
  | .fabricTimeout tag => Sys2Proof.Machine.execFabricTimeout tag s
  | .randomSourceFailure => Sys2Proof.Machine.execRandomSourceFailure s
  | .randomSourceRetest pass => Sys2Proof.Machine.execRandomSourceRetest pass s
  | .lmsReservation => Sys2Proof.Machine.execLmsReservation s
  | .lmsReservationDone => Sys2Proof.Machine.execLmsReservationDone s
  | .lmsTreeBuilt => Sys2Proof.Machine.execLmsTreeBuilt s
  | .lmsIndexLow => Sys2Proof.Machine.execLmsIndexLow s
  | .tenantErase r idx => Sys2Proof.Machine.execTenantErase r idx s
  | .keySlotUncorrectable kind slot => Sys2Proof.Machine.execKeySlotUncorrectable kind slot s
  | .ownerClaim k counter key => Sys2Proof.Machine.execOwnerClaim k counter key s
  | .ownerRelease k counter sig => Sys2Proof.Machine.execOwnerRelease k counter sig s
  | .policySet k counter policy sig => Sys2Proof.Machine.execPolicySet k counter policy sig s
  | .peerTableLoad k counter peers sig => Sys2Proof.Machine.execPeerTableLoad k counter peers sig s
  | .spdmRequest night q => Sys2Proof.Machine.execSpdmRequest night q s
  | .getEvidence night nonce => Sys2Proof.Machine.execGetEvidence night nonce s
  | .keyProg k stream set key => Sys2Proof.Machine.execKeyProg k stream set key s
  | .kSetGo stream set => Sys2Proof.Machine.execKSetGo stream set s
  | .lockInterfaceRequest => Sys2Proof.Machine.execLockInterfaceRequest s
  | .stopInterfaceRequest => Sys2Proof.Machine.execStopInterfaceRequest s
  | .inputQualified idx => Sys2Proof.Machine.execInputQualified idx s
  | .inputDisqualified idx => Sys2Proof.Machine.execInputDisqualified idx s
  | .returnToMain => Sys2Proof.Machine.execReturnToMain s
  | .bothSuppliesLost begun => Sys2Proof.Machine.execBothSuppliesLost begun s
  | .reversePolarity idx => Sys2Proof.Machine.execReversePolarity idx s
  | .inputShort idx => Sys2Proof.Machine.execInputShort idx s
  | .cellShed c => Sys2Proof.Machine.execCellShed c s
  | .branchShort b => Sys2Proof.Machine.execBranchShort b s
  | .phaseFail k ph => Sys2Proof.Machine.execPhaseFail k ph s
  | .zoneLatchedSwitchOn z => Sys2Proof.Machine.execZoneLatchedSwitchOn z s
  | .railOverLimit t rail => Sys2Proof.Machine.execRailOverLimit t rail s
  | .inputOverLimit => Sys2Proof.Machine.execInputOverLimit s
  | .housekeepingRound h => Sys2Proof.Machine.execHousekeepingRound h s
  | .flowPresent => Sys2Proof.Machine.execFlowPresent s
  | .lowFlow => Sys2Proof.Machine.execLowFlow s
  | .coolantLost => Sys2Proof.Machine.execCoolantLost s
  | .reversedFlow => Sys2Proof.Machine.execReversedFlow s
  | .reversedFlowCleared => Sys2Proof.Machine.execReversedFlowCleared s
  | .hourlyCommit => Sys2Proof.Machine.execHourlyCommit s
  | .nightStage romOk => Sys2Proof.Machine.execNightStage romOk s
  | .predawn fuseOk sensorsBad inlet => Sys2Proof.Machine.execPredawn fuseOk sensorsBad inlet s
  | .firstLight crc mac unreadable secStarts coresBad => Sys2Proof.Machine.execFirstLight crc mac unreadable secStarts coresBad s
  | .dawn lost => Sys2Proof.Machine.execDawn lost s
  | .sunrise piles coils march wires => Sys2Proof.Machine.execSunrise piles coils march wires s
  | .morning routers links tests => Sys2Proof.Machine.execMorning routers links tests s
  | .noon => Sys2Proof.Machine.execNoon s
  | .stageTimeout => Sys2Proof.Machine.execStageTimeout s
  | .failedStartCounted => Sys2Proof.Machine.execFailedStartCounted s
  | .startRetry => Sys2Proof.Machine.execStartRetry s
  | .failedStartCountCleared => Sys2Proof.Machine.execFailedStartCountCleared s
  | .retry => Sys2Proof.Machine.execRetry s
  | .recoveryLoaderStart => Sys2Proof.Machine.execRecoveryLoaderStart s
  | .restart r idx wbOk => Sys2Proof.Machine.execRestart r idx wbOk s
  | .restartCompleted u ok tests chans wires links routers => Sys2Proof.Machine.execRestartCompleted u ok tests chans wires links routers s
  | .restartLatchedStart u wbOk => Sys2Proof.Machine.execRestartLatchedStart u wbOk s
  | .autoFrondRestart f => Sys2Proof.Machine.execAutoFrondRestart f s
  | .ledgerCommit badA badB => Sys2Proof.Machine.execLedgerCommit badA badB s
  | .compaction b => Sys2Proof.Machine.execCompaction b s
  | .ledgerDailyRead pages crc => Sys2Proof.Machine.execLedgerDailyRead pages crc s
  | .laserFailed e n => Sys2Proof.Machine.execLaserFailed e n s
  | .recordHoldEnd seq => Sys2Proof.Machine.execRecordHoldEnd seq s
  | .faultRingEnable v => Sys2Proof.Machine.execFaultRingEnable v s
  | .faultRingIrq => Sys2Proof.Machine.execFaultRingIrq s
  | .arm v => Sys2Proof.Machine.execArm v s
  | .evictWrite v => Sys2Proof.Machine.execEvictWrite v s
  | .start pages => Sys2Proof.Machine.execStart pages s
  | .endpointSwitch => Sys2Proof.Machine.execEndpointSwitch s
  | .endpointReady => Sys2Proof.Machine.execEndpointReady s
  | .switchFailed oldFails => Sys2Proof.Machine.execSwitchFailed oldFails s
  | .abandon => Sys2Proof.Machine.execAbandon s
  | .pldmTransfer c manifest image => Sys2Proof.Machine.execPldmTransfer c manifest image s
  | .activateFirmware => Sys2Proof.Machine.execActivateFirmware s
  | .fwSpore r idx => Sys2Proof.Machine.execFwSpore r idx s
  | .presenceChange p0 p1 => Sys2Proof.Machine.execPresenceChange p0 p1 s
  | .latchOpen => Sys2Proof.Machine.execLatchOpen s
  | .latchClose => Sys2Proof.Machine.execLatchClose s
  | .removalPhaseEnd => Sys2Proof.Machine.execRemovalPhaseEnd s
  | .surpriseExtraction begun => Sys2Proof.Machine.execSurpriseExtraction begun s
  | .blockCrossed night => Sys2Proof.Machine.execBlockCrossed night s
  | .lowLight e lane => Sys2Proof.Machine.execLowLight e lane s
  | .lossOfLight e => Sys2Proof.Machine.execLossOfLight e s
  | .nightFrame bytes => Sys2Proof.Machine.execNightFrame bytes s
  | .linkControlFrame => Sys2Proof.Machine.execLinkControlFrame s
  | .mctpMessage ty body => Sys2Proof.Machine.execMctpMessage ty body s
  | .managementRead off size => Sys2Proof.Machine.execManagementRead off size s
  | .nightPortDown => Sys2Proof.Machine.execNightPortDown s
  | .applyComplete => Sys2Proof.Machine.execApplyComplete s
  | .startInterfaceRequest => Sys2Proof.Machine.execStartInterfaceRequest s
  | .atsInvalidation addr len how => Sys2Proof.Machine.execAtsInvalidation addr len how s
  | .nightPortUp => Sys2Proof.Machine.execNightPortUp s
  | .sidebandLockGained => Sys2Proof.Machine.execSidebandLockGained s
  | .voltageRampDone f => Sys2Proof.Machine.execVoltageRampDone f s

end Sys2Proof.Machine
end

