-- ==== Sys2Proof/Safety.lean ====
section
/-!
DEFINITION. What the statements about the model speak of: the canonical form of registers and memories, what a run is, the record a
command raised last, and which parts of two states agree.
-/

namespace Sys2Proof.Machine

/-- A byte memory is in canonical form: addresses strictly rising, no byte listed that an unlisted address reads as. -/
abbrev memWf (m : List Host.Cell) : Prop := spWf (fun _ => 0#8) 0 m = true

/-- The registers and every addressed memory are in canonical form. -/
def State.Canonical (s : State) : Prop :=
  spWf (resetWord s.part.dramGib) 0 s.regs = true ∧ memWf s.mem.dram ∧ memWf s.mem.thl ∧ memWf s.mem.ls ∧ memWf s.mem.host

/-- The states a machine passes through from `s`. -/
inductive Reaches (s : State) : State → Prop where
  | refl : Reaches s s
  | step {t u : State} : Reaches s t → step t = .next u → Reaches s u

/-- The latest record of the fault log names this reason and location. -/
def State.LastRecord (t : State) (reason : Nat) (loc : W64) : Prop :=
  ∃ r, t.flt.log.head? = some r ∧ r.reason = reason ∧ r.location = loc

/-- Some record of the fault log names this reason and location. -/
def State.HasRecord (t : State) (reason : Nat) (loc : W64) : Prop :=
  ∃ r ∈ t.flt.log, r.reason = reason ∧ r.location = loc

/-- The four addressed memories of two states read alike at every address. -/
def State.SameMem (s t : State) : Prop :=
  ∀ a, memGet t.mem.dram a = memGet s.mem.dram a ∧ memGet t.mem.thl a = memGet s.mem.thl a ∧
    memGet t.mem.ls a = memGet s.mem.ls a ∧ memGet t.mem.host a = memGet s.mem.host a

/-- Every register slot outside a set of offsets holds what it held. -/
def State.SameRegs (s t : State) (but : Nat → Prop) : Prop := ∀ off, ¬ but off → t.rword off = s.rword off

/-- The register slots raising a record may change: those of the fault unit, and the count of refused translations of its ring's
writes (R604 to R608). -/
def recSlot (off : Nat) : Prop := (0xF0000 ≤ off ∧ off < 0x100000) ∨ off = Fd.HPT_ATS_STAT_FAILS.off

/-- A group of a Frond issues for the threads `ts`, all at the program counter chosen (R141, R142): its kernel `q`, in slot `k`, is not being
aborted, the threads are picked, the fetch succeeds, and nothing of it is held. `s'` is the state in which the instruction then takes effect. -/
def State.Issues (s : State) (f g : Nat) (s' : State) (k : Nat) (q : Kernel) (ts : List Nat) : Prop :=
  ∃ s0 pc, s.slotKernel f g = some (k, q) ∧ q.abort = none ∧ s.pick f g = (s0, some (pc, ts)) ∧ s0.fetch f g k q pc ts = (s', true) ∧
    s'.waited = false

/-- The `n` vectors of a pass from the `m`-th on stream in order (R50, R65): each is read, its entry holds no uncorrectable value where the pass
accumulates, and the entry takes its sums. `u` is the state after the last. -/
def State.Streams (s : State) (f a : Nat) (c : ArrCmd) (t : StatSet) (d : Tensor) : Nat → Nat → State → Prop
  | 0, _, u => u = s
  | n + 1, m, u =>
    ∃ s1 v, s.readVec f (s.kspace f c.kslot).1 (s.kspace f c.kslot).2 d (fld c.w2 31 0 + m) (fld c.w2 63 32)
        (if fld c.w0 9 9 = 1 then 128 else t.depth) = (s1, .ok v) ∧
      (fld c.w0 8 8 = 1 → (s1.arr f a).badCol (fld c.w3 25 16 + m) = none) ∧
      State.Streams ((if fld c.w0 8 8 = 1 then s1.accCount f a (fld c.w3 25 16 + m) 128 else s1).accEntry f a (fld c.w3 25 16 + m) t d.fmt v
        (fld c.w0 9 9 == 1) (fld c.w0 8 8 == 1)) f a c t d n (m + 1) u

/-- The `n` rows of a drain from the `m`-th on are read, converted and written in order (R88, R89); `lanes` are the random generators' states
before them. `u` is the state after the last. -/
def State.Drains (s : State) (f a : Nat) (c : ArrCmd) (d : Tensor) (bias : List W32) : Nat → Nat → List Nat → State → Prop
  | 0, _, _, u => u = s
  | n + 1, m, lanes, u =>
    let sp := s.kspace f c.kslot
    let s1 := s.accCount f a (fld c.w0 39 30 + m) 128
    let ys := (List.range (fld c.w0 47 40 + 1)).map (fun j =>
      f32 (fFma ((s1.arr f a).accGet (fld c.w0 39 30 + m) j) (BitVec.ofNat 32 (fld c.w2 31 0)) (bias.getD j 0#32)))
    let row := drainRow d.fmt (fld c.w0 14 14 == 1) (fld c.w0 13 13 == 1) ys lanes
    (s.arr f a).badCol (fld c.w0 39 30 + m) = none ∧
    ∃ s2 s3, s1.vwrite (some f) 1 sp.1 sp.2 (d.base + m / d.size1 * d.stride2 + m % d.size1 * d.stride1) (packCodes d.fmt row.codes) = (s2, none) ∧
      (if row.scales.isEmpty then s3 = s2
       else s2.vwrite (some f) 1 sp.1 sp.2 (d.scaleBase + m / d.size1 * d.sstride2 + m % d.size1 * d.sstride1)
         (row.scales.map (BitVec.ofNat 8)) = (s3, none)) ∧
      State.Drains s3 f a c d bias n (m + 1) row.lanes u

/-- An operation is performed on each of a list of pieces in order, none of which fails; `u` is the state after the last. -/
def EachUnit {α ε : Type} (op : State → α → State × Option ε) (s : State) : List α → State → Prop
  | [], u => u = s
  | x :: l, u => ∃ v, op s x = (v, none) ∧ EachUnit op v l u

/-- Every live thread of the group issues, all at one program counter and with one count of group-wide instructions (R152). -/
def State.AllTogether (s' : State) (f g : Nat) (ts : List Nat) : Prop :=
  ts = s'.liveThreads f g ∧ ∀ h ∈ ts, (s'.thr f g h).pc = (s'.thr f g (ts.headD 0)).pc ∧
    (s'.thr f g h).cseq = (s'.thr f g (ts.headD 0)).cseq

/-- The started descriptor `i` of ring `r` finished from `s` to `t` (R343): it is no longer started, and the last completion waiting to be
written is its own, with this status, reason and result. -/
def State.Completes (s t : State) (r i status reason result : Nat) : Prop :=
  ∃ st, (s.ring r).find i = some st ∧ (i ∉ (s.ring r).discard →
    (t.ring r).find i = none ∧ (t.ring r).done = (s.ring r).done ++ [⟨i, st.d.f 0 63 32, status,
      if st.d.cls = 1 && st.d.op = 0 then st.d.f 1 63 48 else 0, reason, result, st.d.f 0 17 17 == 1, st.d.f 0 16 16 == 1⟩])

/-- A sorus is allocated, and its stored words read without an uncorrectable error (R392). -/
def State.SorusOk (s : State) (n : Nat) : Prop :=
  (s.sorus n).st = .allocated ∧ secdedBad (s.sorus n).badV = false ∧ secdedBad (s.sorus n).badT = false ∧ secdedBad (s.sorus n).badB = false

/-- Nothing waits on a link: it holds no message, no request went out on it, and no reduction group names it (R450). -/
def State.QuietLink (s : State) (l : Nat) : Prop :=
  (s.link l).txq = [] ∧ (s.link l).unack = [] ∧ (∀ q ∈ s.fab.reqs, q.link ≠ l) ∧ ∀ g, g < 256 → (s.rgrp g).links.contains l = false

/-- The oldest message of an operation in the receive buffer of a link, addressed to this module: `u` is the state once it has left the
buffer and its hops and copies are dealt with (R434–R436). -/
def State.Takes (s : State) (l op : Nat) (m : Msg) (u : State) : Prop :=
  ∃ u0, s.takeRx l op = some (m, u0) ∧ u0.arrive_ l m = (u, true)

end Sys2Proof.Machine
end

