-- ==== Sys2Proof/Certificates/Slice0/Obligations.lean ====
section
/-!
DEFINITION. The statements about the module, from the rules of spec/: for every command its own effect where nothing stands in its way, the frames,
the rules of the whole machine, and the invariants every step keeps. Every statement about a command is about `exec` itself.
-/

open Sys2Proof Sys2Proof.Machine

/-- Codebook loads (R80, R85). A LOAD_CB in reach stores the bytes it read at its slots and marks them, leaves the command in the queue as running, and
changes no memory beyond what the read did; LOAD_CB_COMPLETE takes the running load out of the queue. Stationary loads (R63, R67, R75, R82). A LOAD_STAT
that passes its checks makes the shadow set from the columns it read, not yet complete; SHADOW_LOAD_COMPLETE marks the set complete and takes the load
out of the queue. What a stationary load puts in a set (R63, R75): every cell is the register the column's data gives it, every scale the column's
scale byte, a zero element and 0x7F where nothing was loaded. -/
def Obligations.ArrayLoads : Prop :=
  ((∀ (s : State) (f a i : Nat) (c : ArrCmd) (bytes : List Byte),
     let r := s.vread (some f) 1 (s.kspace f c.kslot).1 (s.kspace f c.kslot).2 (fld c.w1 47 0)
       (if fld c.w0 14 14 = 1 then 16384 else 1024)
     s.arrNext f a 1 = some (i, c) → c.bad = false → (fld c.w0 14 14 = 1 → fld c.w0 13 8 % 16 = 0) →
     cbClash (s.arr f a).queue 2 (cbSlots c) = false → cbClash (s.arr f a).queue 1 (cbSlots c) = false →
     r.2 = .ok bytes → r.1.waited = false →
     ∃ t, exec (.loadCb f a) s = .next t ∧
       (∀ n, n < bytes.length → spGet (fun _ => 0#8) (t.arr f a).fmem (fld c.w0 13 8 * 1024 + n) = bytes.getD n 0#8) ∧
       (fld c.w0 14 14 = 0 → (t.arr f a).slot (fld c.w0 13 8) = 1) ∧
       (fld c.w0 14 14 = 1 → ∀ n, n < 16 → (t.arr f a).slot (fld c.w0 13 8 + n) = if n = 0 then 2 else 3) ∧
       (t.arr f a).queue = modAt (fun x => { x with phase := 2 }) (r.1.arr f a).queue i ∧ (t.arr f a).active = (r.1.arr f a).active ∧
       (t.arr f a).shadow = (r.1.arr f a).shadow ∧ (t.arr f a).acc = (r.1.arr f a).acc ∧ r.1.SameMem t) ∧
   (∀ (s : State) (f a i : Nat), runningCmd (s.arr f a).queue 1 = some i →
     ∃ t, exec (.loadCbComplete f a) s = .next t ∧
       t = s.setArr f a { s.arr f a with queue := (s.arr f a).queue.eraseIdx i, doneTag := some (s.tagAt f a i) })) ∧
  ((∀ (s : State) (f a i : Nat) (c : ArrCmd) (d : Tensor) (cols : List StatCol),
     let sp := s.kspace f c.kslot
     let r := s.readTensor f sp.1 sp.2 (fld c.w1 47 0)
     let q := r.1.readCols f sp.1 sp.2 d c (depthOf (fld c.w0 9 8))
     s.arrNext f a 2 = some (i, c) → c.bad = false → cbClash (s.arr f a).queue 1 (statSlots c) = false →
     runningCmd (s.arr f a).queue 2 = none → r.2 = .ok d → d.bad 0 = false →
     (fmtIsVq d.fmt = true → ∀ n ∈ statSlots c, (r.1.arr f a).slot n = if fmtIsVq3 d.fmt then 2 else 1) →
     fmtStationary d.fmt = true → (d.sparse = true → fmtSparse d.fmt = true) → depthRow d.fmt d.sparse (depthOf (fld c.w0 9 8)) = true →
     q.2 = .ok cols → (∀ x ∈ cols, x.badNib d.sparse = false ∧ x.badWord d.fmt (q.1.arr f a).fmemBad = none) → q.1.waited = false →
     ∃ t, exec (.loadStat f a) s = .next t ∧ t = q.1.setArr f a { q.1.arr f a with
       shadow := some (mkSet d (depthOf (fld c.w0 9 8)) (q.1.arr f a).fmem cols), shadowDone := false,
       queue := modAt (fun x => { x with phase := 2 }) (q.1.arr f a).queue i }) ∧
   (∀ (s : State) (f a i : Nat), runningCmd (s.arr f a).queue 2 = some i →
     ∃ t, exec (.shadowLoadComplete f a) s = .next t ∧ t = s.setArr f a { s.arr f a with
       queue := (s.arr f a).queue.eraseIdx i, doneTag := some (s.tagAt f a i), shadowDone := true })) ∧
  (∀ (d : Tensor) (depth : Nat) (fmem : Sp Byte) (cols : List StatCol) (r c g : Nat), r < 128 → c < 128 → g < 16 →
     (mkSet d depth fmem cols).cell r c = (cols.getD c ⟨0, [], [], [], 0⟩).cell d.fmt d.sparse depth fmem r ∧
     (mkSet d depth fmem cols).scale c g = (cols.getD c ⟨0, [], [], [], 0⟩).scales.getD g 0x7F)

/-- Passes (R50, R65, R66, R68, R70, R76, R84, R85). A PASS whose checks hold reads its vectors in order, and for each one adds the column or row
sums to the entry after the last; a marker first makes the shadow set the active one. It then leaves the queue. A pass with a marker over an incomplete
shadow set waits, keeping its descriptor; SWAP_MARKER_RELEASE runs it once the set is complete, and counts the slots held for it. A cell that fails
its parity as it is used stops the pass (R96). What one vector does to its entry, which every pass is made of: every column's accumulator becomes the sum
of its group sums in ascending order, from its old value or from 0; no other entry, no set, no queue and no memory changes. -/
def Obligations.ArrayPasses : Prop :=
  ((∀ (s : State) (f a i stall : Nat) (c : ArrCmd) (d : Tensor) (st : StatSet) (u : State),
     let r := s.readTensor f (s.kspace f c.kslot).1 (s.kspace f c.kslot).2 (fld c.w1 47 0)
     let s1 := r.1.entryStall f a c stall
     let s2 := if fld c.w0 10 10 = 1 then s1.modArr f a (fun q => { q with active := q.shadow, shadow := none, shadowDone := false }) else s1
     s.arrNext f a 3 = some (i, c) → c.phase = 0 → c.bad = false → passRange c = false → fld c.w1 47 0 % 64 = 0 → r.2 = .ok d →
     (if fld c.w0 10 10 = 1 then (r.1.arr f a).shadow else (r.1.arr f a).active) = some st → d.bad 1 = false →
     fld c.w2 31 0 + fld c.w3 15 0 ≤ d.vectors → fmtStreamed d.fmt = true → streamRow st d.fmt = true →
     (fld c.w0 9 9 = 1 → transBad st = false) → (fld c.w0 10 10 = 1 → (r.1.arr f a).shadowDone = true) →
     drainWaits (r.1.arr f a).queue c = false →
     (s2.setCmd f a i (fun x => { x with phase := 2 })).Streams f a c st d (fld c.w3 15 0) 0 u → (u.finishCmd f a 3).waited = false →
     ∃ t, exec (.pass f a stall none) s = .next t ∧ t = u.finishCmd f a 3) ∧
   (∀ (s : State) (f a i stall : Nat) (upset : Option Nat) (c : ArrCmd) (d : Tensor) (st : StatSet),
     let r := s.readTensor f (s.kspace f c.kslot).1 (s.kspace f c.kslot).2 (fld c.w1 47 0)
     s.arrNext f a 3 = some (i, c) → c.phase = 0 → c.bad = false → passRange c = false → fld c.w1 47 0 % 64 = 0 →
     r.2 = .ok d → fld c.w0 10 10 = 1 → (r.1.arr f a).shadow = some st → d.bad 1 = false →
     fld c.w2 31 0 + fld c.w3 15 0 ≤ d.vectors → fmtStreamed d.fmt = true → streamRow st d.fmt = true →
     (fld c.w0 9 9 = 1 → transBad st = false) → (r.1.arr f a).shadowDone = false → r.1.waited = false →
     ∃ t, exec (.pass f a stall upset) s = .next t ∧
       t = r.1.setArr f a { r.1.arr f a with queue := modAt (fun x => { x with phase := 1, desc := d.w }) (r.1.arr f a).queue i }) ∧
   (∀ (s : State) (f a i held stall : Nat) (c : ArrCmd) (st : StatSet) (u : State),
     let s1 := (s.radd (Fd.FRD_ARR_STAT_SWAP_STALL f a) held).entryStall f a c stall
     let s2 := if fld c.w0 10 10 = 1 then s1.modArr f a (fun q => { q with active := q.shadow, shadow := none, shadowDone := false }) else s1
     s.arrNext f a 3 = some (i, c) → c.phase = 1 → (s.arr f a).shadowDone = true → drainWaits (s.arr f a).queue c = false →
     (s2.arr f a).active = some st →
     (s2.setCmd f a i (fun x => { x with phase := 2 })).Streams f a c st ⟨c.desc⟩ (fld c.w3 15 0) 0 u → (u.finishCmd f a 3).waited = false →
     ∃ t, exec (.swapMarkerRelease f a held stall none) s = .next t ∧ t = u.finishCmd f a 3)) ∧
  (∀ (s : State) (f a e : Nat) (st : StatSet) (str : Nat) (v : Vec) (trans acc : Bool),
     let u := s.accEntry f a e st str v trans acc
     (∀ col, col < 128 → (u.arr f a).accGet e col = (if trans then rowGroups st str v col else colGroups st str v col).foldl fAdd
       (if acc then (s.arr f a).accGet e col else 0#32)) ∧
     (∀ e' col, e' ≠ e → col < 128 → (u.arr f a).accGet e' col = (s.arr f a).accGet e' col) ∧
     (u.arr f a).active = (s.arr f a).active ∧ (u.arr f a).shadow = (s.arr f a).shadow ∧ (u.arr f a).queue = (s.arr f a).queue ∧ s.SameMem u) ∧
  (∀ (s : State) (f a i : Nat), runningCmd (s.arr f a).queue 3 = some i → s.finishCmd f a 3 =
     s.setArr f a { s.arr f a with queue := (s.arr f a).queue.eraseIdx i, doneTag := some (s.tagAt f a i) }) ∧
  (∀ (s : State) (f a i stall x k : Nat) (c : ArrCmd) (d : Tensor) (st : StatSet) (q : Kernel),
     let r := s.readTensor f (s.kspace f c.kslot).1 (s.kspace f c.kslot).2 (fld c.w1 47 0)
     s.arrNext f a 3 = some (i, c) → c.phase = 0 → c.bad = false → passRange c = false → fld c.w1 47 0 % 64 = 0 → r.2 = .ok d →
     fld c.w0 10 10 = 0 → (r.1.arr f a).active = some st → d.bad 1 = false → fld c.w2 31 0 + fld c.w3 15 0 ≤ d.vectors →
     fmtStreamed d.fmt = true → streamRow st d.fmt = true → fld c.w0 9 9 = 0 → drainWaits (r.1.arr f a).queue c = false → c.kslot = k →
     r.1.krn f k = some q → q.abort = none → r.1.waited = false →
     ∃ t, exec (.pass f a stall (some x)) s = .next t ∧ (t.arr f a).active = none ∧ (t.arr f a).test = some (0x10 + x / 1024 % 16) ∧
       t.krn f k = some { q with abort := some 0x0107 })

/-- Drains, pattern tests and timeouts (R52, R53, R74, R86, R88–R90, R96, R97). A DRAIN whose checks hold reads its bias, and then in ascending order reads
each row's accumulators, converts them and writes the codes and scales where the descriptor says; it stays in the queue as running until DRAIN_COMPLETE
takes it out. A drain stalled on its writes begins again from its first row. A passed pattern test ends the hold, a failed one fences the array; a
timeout discards the command at the head and every other one of its kernel and ends that kernel. -/
def Obligations.DrainAndTests : Prop :=
  (∀ (s u : State) (f a i : Nat) (c : ArrCmd) (d : Tensor) (b : List Byte),
    let sp := s.kspace f c.kslot
    let r := s.readTensor f sp.1 sp.2 (fld c.w1 47 0)
    let n := fld c.w0 47 40 + 1
    let w := if fld c.w0 15 15 = 1 then r.1.vread (some f) 1 sp.1 sp.2 (fld c.w3 47 0) (n * (if fld c.w0 17 16 = 0 then 4 else 2)) else (r.1, .ok [])
    s.arrNext f a 4 = some (i, c) → stalledDrain (s.arr f a).queue = none → c.bad = false → fld c.w1 47 0 % 64 = 0 →
    fld c.w0 39 30 + fld c.w0 29 20 ≤ 1023 → drainIn (s.arr f a).queue (blocksOf (fld c.w0 39 30) (fld c.w0 29 20 + 1)) (2 ≤ ·) = false →
    r.2 = .ok d → d.bad 2 = false → d.fmt = fld c.w0 12 8 → n ≤ d.size0 → fld c.w0 29 20 + 1 ≤ d.rows → (fmtIsMx d.fmt = true → n % 32 = 0) →
    w.2 = .ok b →
    w.1.Drains f a c d (if fld c.w0 15 15 = 1 then biasVals (fld c.w0 17 16) b n else List.replicate n 0#32) (fld c.w0 29 20 + 1) 0
      ((List.range n).map (laneSeed (fld c.w2 63 32))) u → u.waited = false →
    ∃ t, exec (.drain f a) s = .next t ∧ t = u.setArr f a { u.arr f a with queue := modAt (fun x => { x with phase := 2 }) (u.arr f a).queue i }) ∧
  (∀ (s u : State) (f a i : Nat) (c : ArrCmd) (b : List Byte),
    let sp := s.kspace f c.kslot
    let n := fld c.w0 47 40 + 1
    let w := if fld c.w0 15 15 = 1 then s.vread (some f) 1 sp.1 sp.2 (fld c.w3 47 0) (n * (if fld c.w0 17 16 = 0 then 4 else 2)) else (s, .ok [])
    s.arrReady f a = true → stalledDrain (s.arr f a).queue = some (i, c) → w.2 = .ok b →
    w.1.Drains f a c ⟨c.desc⟩ (if fld c.w0 15 15 = 1 then biasVals (fld c.w0 17 16) b n else List.replicate n 0#32) (fld c.w0 29 20 + 1) 0
      ((List.range n).map (laneSeed (fld c.w2 63 32))) u → u.waited = false →
    ∃ t, exec (.drain f a) s = .next t ∧ t = u.setArr f a { u.arr f a with queue := modAt (fun x => { x with phase := 2 }) (u.arr f a).queue i }) ∧
  (∀ (s : State) (f a i : Nat), runningCmd (s.arr f a).queue 4 = some i →
    ∃ t, exec (.drainComplete f a) s = .next t ∧
      t = s.setArr f a { s.arr f a with queue := (s.arr f a).queue.eraseIdx i, doneTag := some (s.tagAt f a i) }) ∧
  (∀ (s : State) (f a b : Nat), (s.arr f a).test = some b →
    ∃ t, exec (.accumulatorPatternTest f a false) s = .next t ∧ t = s.setArr f a { s.arr f a with test := none }) ∧
  (∀ (s : State) (f a b : Nat), (s.arr f a).test = some b → s.switching = none →
    ∃ t, exec (.accumulatorPatternTest f a true) s = .next t ∧ (t.arr f a).test = none ∧ FUnit.engine (arrLoc f a) ∈ t.flt.fences) ∧
  (∀ (s : State) (f a : Nat) (c : ArrCmd) (l : List ArrCmd) (k : Kernel),
    (s.arr f a).queue = c :: l → s.krn f c.kslot = some k → k.abort = none → s.endpointSwitching 7 (8 * f + a) = false →
    ∃ t, exec (.commandTimeout f a) s = .next t ∧ (t.arr f a).queue = l.filter (fun x => x.kslot != c.kslot) ∧
      t.krn f c.kslot = some { k with abort := some 0x010C } ∧ FUnit.kernel f c.kslot ∈ t.flt.fences)

/-- Loads, stores, alias stores and atomics of a group (R105, R109, R110, R145, R146): the executing threads act in ascending index, each at its own
address. One thread's load leaves the bytes it found, converted or whole, in the registers from rd on, moves the thread to its next instruction, and
changes no other register and no memory beyond what the read did; what it finds is the data cache's line or memory, with the youngest stores still in
the buffer over it. One thread's store enters the Frond's store buffer, whose entry for the line holds every byte of it; an alias store is performed at
the local store, after the stores before it. What an alias store of 4 or 8 bytes leaves there (R105): the bit-set window old or value, the bit-clear window old
and not value. The oldest entry of the buffer is written run by run and leaves it. One thread's atomic leaves the old value in the registers from rd on,
drops its line from the data cache and moves the thread on. -/
def Obligations.ThreadMemory : Prop :=
  ((∀ (s s' : State) (f g mask size rd conv k : Nat) (reads vas ts : List Nat) (q : Kernel),
     let t := s'.eachThread f g mask reads ts (fun u h => u.load f g k q h (vas.getD h 0) size rd conv)
     s.Issues f g s' k q ts → sizeOk size = true → t.waited = false → exec (.threadLoad f g mask reads vas size rd conv) s = .next t) ∧
   (∀ (s : State) (f g k h va size rd conv pa pte : Nat) (q : Kernel) (l : List Byte),
     let r := s.xlate (some f) q.launch.asid q.launch.tenant va .r
     let m := r.1.loadBytes f pa pte size
     let w := m.1.loadRegs l conv
     sizeOk size = true → va % size = 0 → r.2 = .ok (pa, pte) → r.1.loadHeld f pa pte size = false → m.2 = .ok l →
     ∃ t, s.load f g k q h va size rd conv = t ∧
       (∀ i, i < w.2.length → i < 128 → t.greg f g h ((rd + i) % 128) = BitVec.ofNat 32 (w.2.getD i 0)) ∧
       (∀ n, n < 128 → (∀ i, i < w.2.length → n ≠ (rd + i) % 128) → t.greg f g h n = m.1.greg f g h n) ∧
       (t.thr f g h).pc = ((m.1.thr f g h).pc + 8) % 2 ^ 48 ∧ (t.thr f g h).wait = .ready ∧ m.1.SameMem t) ∧
   (∀ (s : State) (l : List Byte) (conv : Nat),
     (∀ fmt, convFmt conv = some fmt → s.loadRegs l conv = (s, [(toFp32From fmt (leNat l)).toNat])) ∧
     (convFmt conv = none → 4 ≤ l.length → s.loadRegs l conv = (s, (List.range (l.length / 4)).map (fun i => leNat (slice l (4 * i) 4)))) ∧
     (convFmt conv = none → l.length < 4 → ∃ x, (s.loadRegs l conv).2 = [leNat l + x * 2 ^ (8 * l.length)])) ∧
   (∀ (s : State) (f pa pte size : Nat), (s.fr f).sbuf.find? (fun e => e.line == pa / 128 && secdedBad e.bad) = none →
     (∀ d, cacheable pa pte = true → (s.fr f).dcache.find? (fun d => d.line == pa / 128) = some d →
       s.loadBytes f pa pte size = (s, .ok (s.forwarded f pa (slice d.data (pa % 128) size)))) ∧
     (∀ l, cacheable pa pte = false → ((s.bundleUse f pa false).read pa size).2 = .ok l →
       (s.loadBytes f pa pte size).2 = .ok (((s.bundleUse f pa false).read pa size).1.forwarded f pa l)) ∧
     (∀ l, cacheable pa pte = true → (s.fr f).dcache.find? (fun d => d.line == pa / 128) = none →
       ((s.bundleUse f pa false).read (pa / 128 * 128) 128).2 = .ok l → (s.loadBytes f pa pte size).2 =
         .ok (slice (((s.bundleUse f pa false).read (pa / 128 * 128) 128).1.forwarded f (pa / 128 * 128) l) (pa % 128) size))) ∧
   (∀ (s : State) (f pa i : Nat) (l : List Byte) (e : SbEntry) (es : List SbEntry) (b : Byte), i < l.length →
     ((∀ x ∈ (s.fr f).sbuf, x.line ≠ (pa + i) / 128) → (s.forwarded f pa l).getD i 0#8 = l.getD i 0#8) ∧
     ((s.fr f).sbuf = es ++ [e] → e.line = (pa + i) / 128 → (∀ d, spGet (fun _ => d) e.bytes ((pa + i) % 128) = b) →
       (s.forwarded f pa l).getD i 0#8 = b))) ∧
  ((∀ (s s' : State) (f g mask size rs k : Nat) (reads vas ts : List Nat) (q : Kernel),
     let t := s'.eachThread f g mask (reads ++ valueRegs rs size) ts
       (fun u h => u.store f g k q h (vas.getD h 0) (u.storeBytes f g h rs size) false)
     s.Issues f g s' k q ts → sizeOk size = true → t.waited = false → exec (.threadStore f g mask reads vas size rs) s = .next t) ∧
   (∀ (s : State) (f g k h va pa pte : Nat) (q : Kernel) (bytes : List Byte),
     let r := s.xlate (some f) q.launch.asid q.launch.tenant va .w
     let u := if !((r.1.fr f).sbuf.any (fun e => e.line == pa / 128)) && (r.1.fr f).sbuf.length ≥ 64 then r.1.sbWrite f else r.1
     sizeOk bytes.length = true → va % bytes.length = 0 → r.2 = .ok (pa, pte) → r.1.sbStuck f pa = false →
     (∀ i o w, physClass pa ≠ .lstore i o (w + 1)) →
     ∃ t, s.store f g k q h va bytes false = t ∧
       (∃ e ∈ (t.fr f).sbuf, e.line = pa / 128 ∧ ∀ i, i < bytes.length → spGet (fun _ => 0#8) e.bytes (pa % 128 + i) = bytes.getD i 0#8) ∧
       (t.thr f g h).pc = ((u.thr f g h).pc + 8) % 2 ^ 48 ∧ t.frd.gregs = u.frd.gregs ∧ u.SameMem t) ∧
   (∀ (s s' : State) (f g mask size rs k : Nat) (reads vas ts : List Nat) (q : Kernel),
     let t := s'.eachThread f g mask (reads ++ valueRegs rs size) ts
       (fun u h => u.store f g k q h (vas.getD h 0) (u.storeBytes f g h rs size) true)
     s.Issues f g s' k q ts → sizeOk size = true → t.waited = false → exec (.aliasStore f g mask reads vas size rs) s = .next t) ∧
   (∀ (s u : State) (f g k h va pa pte i o w : Nat) (q : Kernel) (bytes : List Byte) (al : Bool),
     let r := s.xlate (some f) q.launch.asid q.launch.tenant va .w
     va % bytes.length = 0 → r.2 = .ok (pa, pte) → r.1.sbStuck f pa = false → physClass pa = .lstore i o (w + 1) →
     r.1.sbHeld f = false → r.1.accHeld pa = false → (r.1.sbDrain f).write pa bytes = (u, none) →
     s.store f g k q h va bytes al = u.advance f g h)) ∧
  (∀ (s : State) (f o win n val : Nat), (n = 4 ∨ n = 8) → o % n = 0 → o + n ≤ 2 ^ 24 →
     (∀ i, i < n / 4 → secdedBad (s.lsBadW (lsKey f o / 4 + i)) = false) →
     let r := s.aliasPoke f o win (leBytes n val)
     r.2 = none ∧
     (∀ i, i < n → memGet r.1.mem.ls (lsKey f o + i) =
       (if win = 1 then memGet s.mem.ls (lsKey f o + i) ||| (leBytes n val).getD i 0#8
        else memGet s.mem.ls (lsKey f o + i) &&& ~~~((leBytes n val).getD i 0#8))) ∧
     (∀ a, (a < lsKey f o ∨ lsKey f o + n ≤ a) → memGet r.1.mem.ls a = memGet s.mem.ls a)) ∧
  (∀ (s : State) (f : Nat) (e : SbEntry) (l : List SbEntry), (s.fr f).sbuf = e :: l → s.entryHeld e = false → secdedBad e.bad = false →
     let s1 := (s.setFr f { s.fr f with sbuf := l, sbCorr := (s.fr f).sbCorr + (if popCount 39 e.bad = 1 then 1 else 0) }).dropInj 6 (sbKey f e.slot)
     ∃ t, exec (.storeBufferWrite f) s = .next t ∧ t = (sbRuns e.bytes).foldl (fun s r =>
       match (s.bundleUse f (e.line * 128 + r.1) true).write (e.line * 128 + r.1) r.2 with
       | (u, none) => u
       | (u, some x) => u.accFault (.kernel f e.kslot) x) s1) ∧
  ((∀ (s s' : State) (f g mask op size rv rc rd k : Nat) (reads vas ts : List Nat) (q : Kernel),
     let t := s'.eachThread f g mask (reads ++ valueRegs rv size ++ (if op = 9 then valueRegs rc size else [])) ts
       (fun u h => u.atomic f g k q h op (vas.getD h 0) size (leNat (u.storeBytes f g h rv size)) (leNat (u.storeBytes f g h rc size)) rd)
     s.Issues f g s' k q ts → atomicOk op size = true → t.waited = false →
     exec (.atomic f g mask op reads vas size rv rc rd) s = .next t) ∧
   (∀ (s u : State) (f g k h op va size v cmp rd pa pte old : Nat) (q : Kernel),
     let r := s.xlate (some f) q.launch.asid q.launch.tenant va .w
     (size = 4 ∨ size = 8) → va % size = 0 → r.2 = .ok (pa, pte) → r.1.redHeld pa size = false → r.1.sbHeld f = false →
     (∀ a, physClass pa ≠ .host a) → ((r.1.sbDrain f).bundleUse f pa true).atomicAt op size pa v cmp = (u, .ok old) →
     ∃ t, s.atomic f g k q h op va size v cmp rd = t ∧
       (∀ i, i < size / 4 → t.greg f g h ((rd + i) % 128) = BitVec.ofNat 32 (old / 2 ^ (32 * i))) ∧
       (∀ n, n < 128 → (∀ i, i < size / 4 → n ≠ (rd + i) % 128) → t.greg f g h n = u.greg f g h n) ∧
       (t.fr f).dcache = (u.fr f).dcache.filter (fun d => d.line != pa / 128) ∧
       (t.thr f g h).pc = ((u.thr f g h).pc + 8) % 2 ^ 48 ∧ u.SameMem t))

/-- Fences of a group (R114, Table 04-3): each executing thread in turn. FENCE.L is passed at once and changes no register, cache or memory; FENCE.M and
FENCE.MI go on when the Frond's stores are performed, so that none waits in its store buffer, and FENCE.MI then leaves the data cache empty; CINV drops
the line of the thread's address. -/
def Obligations.ThreadFences : Prop :=
  (∀ (s s' : State) (f g mask k : Nat) (ts : List Nat) (q : Kernel), s.Issues f g s' k q ts →
    ∃ t, exec (.fenceL f g mask) s = .next t ∧
      (∀ h ∈ ts, t.thr f g h = if nbit mask h then { s'.thr f g h with
          pc := ((s'.thr f g h).pc + 8) % 2 ^ 48, wait := .ready, fences := (s'.thr f g h).fences + 1 }
        else { s'.thr f g h with pc := ((s'.thr f g h).pc + 8) % 2 ^ 48, wait := .ready }) ∧
      t.regs = s'.regs ∧ t.mem = s'.mem ∧ t.frd.frd = s'.frd.frd ∧ t.frd.gregs = s'.frd.gregs) ∧
  ((∀ (s s' : State) (f g mask k : Nat) (ts : List Nat) (q : Kernel),
     let t := s'.eachThread f g mask [] ts (fun u h => (u.sbDrain f).advance f g h)
     s.Issues f g s' k q ts → s.sbHeld f = false → t.waited = false →
     exec (.fenceM f g mask) s = .next t ∧ ((∃ h ∈ ts, nbit mask h = true) → (t.fr f).sbuf = [])) ∧
   (∀ (s : State) (f g h : Nat),
     let t := (s.sbDrain f).advance f g h
     (t.thr f g h).pc = (((s.sbDrain f).thr f g h).pc + 8) % 2 ^ 48 ∧ (t.thr f g h).wait = .ready ∧ (s.sbDrain f).SameMem t ∧
       t.regs = (s.sbDrain f).regs ∧ t.frd.gregs = (s.sbDrain f).frd.gregs)) ∧
  ((∀ (s s' : State) (f g mask k : Nat) (ts : List Nat) (q : Kernel),
     let t := s'.eachThread f g mask [] ts (fun u h => ((u.sbDrain f).dcClear f).advance f g h)
     s.Issues f g s' k q ts → s.sbHeld f = false → t.waited = false →
     exec (.fenceMi f g mask) s = .next t ∧ ((∃ h ∈ ts, nbit mask h = true) → (t.fr f).sbuf = [] ∧ (t.fr f).dcache = [])) ∧
   (∀ (s : State) (f g h : Nat),
     let t := ((s.sbDrain f).dcClear f).advance f g h
     (t.fr f).dcache = [] ∧ (t.thr f g h).pc = (((s.sbDrain f).thr f g h).pc + 8) % 2 ^ 48 ∧ (s.sbDrain f).SameMem t ∧
       t.regs = (s.sbDrain f).regs)) ∧
  ((∀ (s s' : State) (f g mask k : Nat) (reads vas ts : List Nat) (q : Kernel),
     let t := s'.eachThread f g mask reads ts (fun u h => u.cinv1 f g q h (vas.getD h 0))
     s.Issues f g s' k q ts → t.waited = false → exec (.cinv f g mask reads vas) s = .next t) ∧
   (∀ (s : State) (f g h va pa pte : Nat) (q : Kernel),
     let r := s.xlate (some f) q.launch.asid q.launch.tenant va .r
     r.2 = .ok (pa, pte) →
     ∃ t, s.cinv1 f g q h va = t ∧ (t.fr f).dcache = (r.1.fr f).dcache.filter (fun d => d.line != pa / 128) ∧
       (t.thr f g h).pc = ((r.1.thr f g h).pc + 8) % 2 ^ 48 ∧ r.1.SameMem t ∧ t.regs = r.1.regs))

/-- Translation walks (R118, R123, R125). A walk that succeeds leaves its leaf among the Frond's cached translations; the first that fails is captured in
FRD_XLAT_FAULT with its kind, level, agent, address and address space. -/
def Obligations.TranslationWalk : Prop :=
  (∀ (s : State) (f g h agent va k pa pte : Nat) (q : Kernel) (need : Need),
    let r := s.xlate (some f) q.launch.asid q.launch.tenant va need
    s.grpKernel f g = some (k, q) → r.2 = .ok (pa, pte) → r.1.waited = false →
    ∃ t, exec (.translationWalk f g h agent va need) s = .next t ∧ t = r.1 ∧
      ∃ e ∈ (t.fr f).tlb, e.asid = q.launch.asid ∧ e.vpage = va / 2 ^ e.bits) ∧
  (∀ (s : State) (f g h agent va k : Nat) (q : Kernel) (need : Need) (e : XErr),
    let r := s.xlate (some f) q.launch.asid q.launch.tenant va need
    s.grpKernel f g = some (k, q) → r.2 = .error e → agent < 4 → va < 2 ^ 48 → q.launch.asid < 4096 → e.kind < 8 → e.level < 4 →
    r.1.waited = false → r.1.rget (Fd.FRD_XLAT_FAULT_VALID f) = 0 →
    ∃ t, exec (.translationWalk f g h agent va need) s = .next t ∧ t.rget (Fd.FRD_XLAT_FAULT_VALID f) = 1 ∧
      t.rget (Fd.FRD_XLAT_FAULT_KIND f) = e.kind ∧ t.rget (Fd.FRD_XLAT_FAULT_LEVEL f) = e.level ∧
      t.rget (Fd.FRD_XLAT_FAULT_AGENT f) = agent ∧ t.rget (Fd.FRD_XLAT_FAULT_VA f) = va ∧
      t.rget (Fd.FRD_XLAT_FAULT_ASID f) = q.launch.asid)

/-- DMA commands (R127–R130, Table 20-4). A COPY whose read units are all performed, or a FILL whose units are all written with its pattern, stays at the
head as performed; a unit of a COPY writes at its destination what it read, or free bytes where the ranges overlap (R129). DMA_COMPLETE signals the
command's sorus where it names one, takes a performed command of a kernel out of its channel, and completes a ring's descriptor. -/
def Obligations.DmaCommands : Prop :=
  (∀ (s u : State) (f c : Nat) (x : DmaCmd),
    s.dmaHead f c 1 = some x → x.bad = false → EachUnit (fun v w => v.copyUnit f x w) s (readUnits x.srcA x.len) u → u.waited = false →
    ∃ t, exec (.copy f c) s = .next t ∧ t = u.modCmd f c (fun y => { y with phase := 1 })) ∧
  (∀ (s s1 s2 : State) (f : Nat) (x : DmaCmd) (w : Nat × Nat) (l : List Byte), s.dmaRead f x w.1 w.2 = (s1, .ok l) →
    (x.overlaps = false → s1.dmaWrite f x (x.dst + (w.1 - x.srcA)) l = (s2, none) → s.copyUnit f x w = (s2, none)) ∧
    (x.overlaps = true → (State.freeBytes l.length s1).1.dmaWrite f x (x.dst + (w.1 - x.srcA)) (State.freeBytes l.length s1).2 = (s2, none) →
      s.copyUnit f x w = (s2, none))) ∧
  (∀ (s u : State) (f c : Nat) (x : DmaCmd),
    s.dmaHead f c 2 = some x → x.bad = false →
    EachUnit (fun v w => v.dmaWrite f x w.1 ((List.range w.2).map (fun j => (leBytes 8 x.w1.toNat).getD ((w.1 - x.dst + j) % 8) 0#8))) s
      (readUnits x.dst x.len) u → u.waited = false →
    ∃ t, exec (.fill f c) s = .next t ∧ t = u.modCmd f c (fun y => { y with phase := 1 })) ∧
  (∀ (s : State) (f c g k : Nat) (x : DmaCmd) (l : List DmaCmd),
    let w := if bit x.w0 34 then s.sorNow f (fld x.w0 47 35) 1 x.tenant else (s, none)
    (s.dma f c).queue = x :: l → x.phase = 1 → s.endpointSwitching 6 f = false → w.2 = none → x.src = .kernel g k →
    ∃ t, exec (.dmaComplete f c) s = .next t ∧ t = w.1.setDma f c ⟨((w.1.dma f c).queue).drop 1, ((w.1.dma f c).queue.head?).map DmaCmd.tag⟩) ∧
  (∀ (s : State) (f c r i : Nat) (x : DmaCmd) (l : List DmaCmd) (d : Started),
    let w := if bit x.w0 34 then s.sorNow f (fld x.w0 47 35) 1 x.tenant else (s, none)
    (s.dma f c).queue = x :: l → x.phase = 1 → s.endpointSwitching 6 f = false → w.2 = none → x.src = .ring r i → (w.1.ring r).find i = some d →
    ∃ t, exec (.dmaComplete f c) s = .next t ∧ (t.dma f c).queue = (w.1.dma f c).queue.drop 1 ∧ w.1.Completes t r i 0 0 0 ∧ w.1.SameMem t)

/-- Entries into Dusk, Night and Dark (R131–R133). A Frond idle for its time, one state above, whose FLOOR allows it, shows the new state and ENTERING, and
no other register and no memory changes; SLEEP_ENTRY_COMPLETE ends the entry, in Night and Dark with the arrays' contents lost, then handles the
accesses held, begins a drain that waited, and starts a latched wake. Wakes (R131, R133–R135). A wake request starts the wake of a Frond asleep, from Dark with the local store
zeroed, and is latched during an entry; WAKE_COMPLETE brings the Frond to Run, passes on the launch records its stub held, and handles the accesses held; a wake
of more than four times its wake time fences the Frond. STATE shows Run during a wake, the model's reading (assumption 29). Accesses to a sleeping Frond's
local store, and FRD_SLEEP_CTL (R132, R134). An access during an entry or wake is held in order, another is performed; a write of FRD_SLEEP_CTL sets its
four fields, and a FLOOR shallower than the state requests a wake. -/
def Obligations.FrondSleep : Prop :=
  ((∀ (s : State) (f depth : Nat) (c : Instr), (c, depth) ∈ [(Instr.duskEntry f, 1), (.nightEntry f, 2), (.darkEntry f, 3)] →
     s.frondUp f = true → s.idle f = true → s.sleep f + 1 = depth → depth ≤ s.rget (Fd.FRD_SLEEP_CTL_FLOOR f) →
     s.idleDue f depth ≤ s.clock - (s.fr f).idleFrom →
     ∃ t, exec c s = .next t ∧ t.rget (Fd.FRD_SLEEP_STAT_STATE f) = depth ∧ t.rget (Fd.FRD_SLEEP_STAT_ENTERING f) = 1 ∧
       s.SameRegs t (· = (Fd.FRD_SLEEP_STAT_STATE f).off) ∧ s.SameMem t ∧ t.frd = s.frd) ∧
   (∀ (s : State) (f : Nat), s.entering f = true →
     ∃ u, u.rget (Fd.FRD_SLEEP_STAT_ENTERING f) = 0 ∧ u.sleep f = s.sleep f ∧
       (2 ≤ s.sleep f → ∀ a, a < 8 → u.arr f a =
         { Arr.init with seqUp := (s.arr f a).seqUp, test := (s.arr f a).test, accCorr := (s.arr f a).accCorr, doneTag := (s.arr f a).doneTag }) ∧
       (s.sleep f < 2 → ∀ a, u.arr f a = s.arr f a) ∧ s.SameRegs u (· = (Fd.FRD_SLEEP_STAT_STATE f).off) ∧ s.SameMem u ∧
       exec (.sleepEntryComplete f) s = .next (if s.rget (Fd.FRD_SLEEP_STAT_WAKE_PENDING f) = 1 then
         ((u.serveHeld f).drainDue f).wakeStart f false else (u.serveHeld f).drainDue f))) ∧
  ((∀ (s : State) (f : Nat) (slow : Bool), f < s.fronds → s.entering f = false → s.sleep f ≠ 0 → (s.fr f).waking = false →
     ∃ t, exec (.wakeRequest f slow) s = .next t ∧ (t.fr f).waking = true ∧ (t.fr f).wakeSlow = slow ∧ (t.fr f).wakeFrom = s.sleep f ∧
       (t.fr f).wakeAt = s.clock ∧ t.rget (Fd.FRD_SLEEP_STAT_WAKE_PENDING f) = 0 ∧ t.sleep f = 0 ∧
       s.SameRegs t (fun o => o = (Fd.FRD_SLEEP_STAT_STATE f).off ∨ (slow = true ∧ o = Fd.PWR_CAP_STAT_SLOW.off)) ∧
       (s.sleep f ≠ 3 → s.SameMem t) ∧ (s.sleep f = 3 → (∀ o, o < 2 ^ 24 → memGet t.mem.ls (lsKey f o) = 0#8) ∧
         ∀ a, a / 2 ^ 24 ≠ f → memGet t.mem.ls a = memGet s.mem.ls a)) ∧
   (∀ (s : State) (f : Nat) (slow : Bool), f < s.fronds → s.entering f = true →
     ∃ t, exec (.wakeRequest f slow) s = .next t ∧ t.rget (Fd.FRD_SLEEP_STAT_WAKE_PENDING f) = 1 ∧ t.frd = s.frd ∧ s.SameMem t ∧
       s.SameRegs t (· = (Fd.FRD_SLEEP_STAT_STATE f).off)) ∧
   (∀ (s : State) (f : Nat), (s.fr f).waking = true →
     ∃ u, u.sleep f = 0 ∧ (u.fr f).waking = false ∧ (u.fr f).lq = (s.fr f).lq ++ (s.fr f).stub ∧ (u.fr f).stub = [] ∧ s.SameMem u ∧
       s.SameRegs u (· = (Fd.FRD_SLEEP_STAT_STATE f).off) ∧ (u.fr f).heldAcc = (s.fr f).heldAcc ∧
       exec (.wakeComplete f) s = .next ((u.serveHeld f).drainDue f)) ∧
   (∀ (s : State) (f : Nat), (s.fr f).waking = true → 100 * wakeUs (s.fr f).wakeFrom (s.fr f).wakeSlow < s.clock - (s.fr f).wakeAt →
     s.fencedIn (.frond f) = false → s.switching = none →
     ∃ t, exec (.wakeTimeout f) s = .next t ∧ (t.fr f).waking = false ∧ FUnit.frond f ∈ t.flt.fences)) ∧
  ((∀ (s : State) (f addr : Nat) (agent : Agent) (wr : Bool) (bytes : List Byte), s.frondUp f = true → s.moving f = true →
     ∃ t, exec (.sleepingLocalStoreAccess f agent addr wr bytes) s = .next t ∧
       t = s.setFr f { s.fr f with heldAcc := (s.fr f).heldAcc ++ [⟨agent, addr, wr, bytes⟩] }) ∧
   (∀ (s u : State) (f addr : Nat) (agent : Agent) (bytes : List Byte), s.moving f = false →
     s.write (0xC0000000000 + f * 0x4000000 + addr % 0x1000000) bytes = (u, none) →
     ∃ t, exec (.sleepingLocalStoreAccess f agent addr true bytes) s = .next t ∧ t = u) ∧
   (∀ (s u : State) (f addr : Nat) (agent : Agent) (bytes l : List Byte), s.moving f = false →
     s.read (0xC0000000000 + f * 0x4000000 + addr % 0x1000000) bytes.length = (u, .ok l) →
     ∃ t, exec (.sleepingLocalStoreAccess f agent addr false bytes) s = .next t ∧ t = u) ∧
   (∀ (s : State) (f : Nat) (v : W64), f < s.fronds →
     ∃ u, u.rget (Fd.FRD_SLEEP_CTL_FLOOR f) = fld v 49 48 ∧
       u.rget (Fd.FRD_SLEEP_CTL_DARK_S f) = fld v 47 32 ∧ u.rget (Fd.FRD_SLEEP_CTL_NIGHT_MS f) = fld v 31 16 ∧
       u.rget (Fd.FRD_SLEEP_CTL_DUSK_US f) = fld v 7 0 ∧ s.SameRegs u (· = (Fd.FRD_SLEEP_CTL_FLOOR f).off) ∧ s.SameMem u ∧ u.frd = s.frd ∧
       exec (.frdSleepCtlWrite f v) s = .next (if fld v 49 48 < s.sleep f then u.wakeReq f false else u)))

/-- Issue of an instruction (R140–R142, R146, R147, R161, R164). An issued instruction acts on the chosen threads, in ascending index: one whose predicate
fails moves on by 8 bytes, one that meets an uncorrectable register traps, each other takes the instruction's effect. For an instruction with no row of
its own that effect is: free values in the registers its encoding writes, a special register's words in rd on, or the program counter at the
thread's own branch target; then a move to the next instruction. An encoding that is none traps every thread. -/
def Obligations.InstructionIssue : Prop :=
  ((∀ (s s' : State) (f g mask k : Nat) (reads writes ts : List Nat) (q : Kernel), s.Issues f g s' k q ts →
     ∃ t, exec (.instructionIssue f g mask (.plain reads writes) []) s = .next t ∧
       t = s'.eachThread f g mask reads ts (fun u h => (u.freeRegs f g h writes).advance f g h)) ∧
   (∀ (s s' : State) (f g mask rd n k : Nat) (ts : List Nat) (q : Kernel), s.Issues f g s' k q ts →
     ∃ t, exec (.instructionIssue f g mask (.special rd n) []) s = .next t ∧
       t = s'.eachThread f g mask [] ts (fun u h => (u.putRegs f g h rd (u.specialReg f g q h n)).advance f g h)) ∧
   (∀ (s s' : State) (f g mask k : Nat) (reads ts targets : List Nat) (q : Kernel), s.Issues f g s' k q ts →
     ∃ t, exec (.instructionIssue f g mask (.branch reads targets) []) s = .next t ∧
       t = s'.eachThread f g mask reads ts (fun u h =>
         u.setThr f g h { u.thr f g h with pc := targets.getD h 0 / 8 * 8 % 2 ^ 48, wait := .ready })) ∧
   (∀ (s s' : State) (f g mask k : Nat) (ts : List Nat) (q : Kernel), s.Issues f g s' k q ts →
     ∃ t, exec (.instructionIssue f g mask .illegal []) s = .next t ∧ t = s'.trapEach f g 0x0280 (trapLoc f g) false ts) ∧
   (∀ (s : State) (f g mask : Nat) (kind : IssueKind) (upset : List Nat),
     exec (.instructionIssue f g mask kind upset) s =
       exec (.instructionIssue f g mask kind []) (if upset = [] then s else
         s.setFr f { s.fr f with icacheBad := upset ++ (s.fr f).icacheBad }))) ∧
  (∀ (s : State) (f g mask h : Nat) (reads ts : List Nat) (act : State → Nat → State),
    s.eachThread f g mask reads [] act = s ∧
    (nbit mask h = false → s.eachThread f g mask reads (h :: ts) act = (s.advance f g h).eachThread f g mask reads ts act) ∧
    (∀ n, nbit mask h = true → s.badReg f g h reads = some n →
      s.eachThread f g mask reads (h :: ts) act = (s.regFault f g h n).eachThread f g mask reads ts act) ∧
    (nbit mask h = true → s.badReg f g h reads = none →
      s.eachThread f g mask reads (h :: ts) act = (act (s.countRegs f g h reads) h).eachThread f g mask reads ts act)) ∧
  ((∀ (s s' : State) (f g mask k : Nat) (reads ts : List Nat) (q : Kernel), s.Issues f g s' k q ts →
     (∀ h ∈ ts, nbit mask h = true → s'.badReg f g h reads = none) →
     ∃ t, exec (.instructionIssue f g mask (.plain reads []) []) s = .next t ∧
       (∀ h ∈ ts, (t.thr f g h).pc = ((s'.thr f g h).pc + 8) % 2 ^ 48 ∧ (t.thr f g h).wait = .ready) ∧
       (∀ h, h ∉ ts → h < 32 → t.thr f g h = s'.thr f g h) ∧ t.frd.gregs = s'.frd.gregs ∧ t.mem = s'.mem ∧ t.regs = s'.regs) ∧
   (∀ (s s' : State) (f g mask k : Nat) (reads ts targets : List Nat) (q : Kernel), s.Issues f g s' k q ts →
     (∀ h ∈ ts, nbit mask h = true → s'.badReg f g h reads = none) →
     ∃ t, exec (.instructionIssue f g mask (.branch reads targets) []) s = .next t ∧
       (∀ h ∈ ts, (t.thr f g h).pc = if nbit mask h then targets.getD h 0 / 8 * 8 % 2 ^ 48 else ((s'.thr f g h).pc + 8) % 2 ^ 48) ∧
       t.frd.gregs = s'.frd.gregs ∧ t.mem = s'.mem ∧ t.regs = s'.regs))

/-- Arithmetic of the lanes (R58–R61). Each chosen thread whose predicate holds, in ascending index, takes the result of the operation on its own
operands and moves on; the others only move on. For one thread: rd takes the sum, product, fused product, minimum or maximum, or the value converted
from FP32; a pair of registers takes two fused products; a comparison sets one predicate and no register. A special function leaves its value
in rd. -/
def Obligations.LaneArithmetic : Prop :=
  ((∀ (s s' : State) (f g mask op rd ra rb rc k : Nat) (ts : List Nat) (q : Kernel), s.Issues f g s' k q ts →
     ∃ t, exec (.fmaInstruction f g mask op rd ra rb rc) s = .next t ∧
       t = s'.eachThread f g mask (fmaReads op ra rb rc) ts (fun u h => (u.fma1 f g op rd ra rb rc h).advance f g h)) ∧
   (∀ (s s' : State) (f g mask fn rd ra k : Nat) (ts : List Nat) (q : Kernel), s.Issues f g s' k q ts →
     ∃ t, exec (.specialFunction f g mask fn rd ra) s = .next t ∧
       t = s'.eachThread f g mask [ra % 128] ts
         (fun u h => (u.setGreg f g h (rd % 128) (specialFunction fn (u.rg f g h ra))).advance f g h))) ∧
  ((∀ (s s' : State) (f g mask op rd ra rb rc k h : Nat) (ts : List Nat) (q : Kernel),
     (op ≤ 4 ∨ (17 ≤ op ∧ op ≤ 20) ∨ (25 ≤ op ∧ op ≤ 28)) → s.Issues f g s' k q ts →
     (∀ i ∈ ts, nbit mask i = true → s'.badReg f g i (fmaReads op ra rb rc) = none) → h ∈ ts →
     ∃ t, exec (.fmaInstruction f g mask op rd ra rb rc) s = .next t ∧
       t.greg f g h (rd % 128) = (if nbit mask h then
           (match op with
           | 0 => fAdd (s'.rg f g h ra) (s'.rg f g h rb)
           | 1 => fMul (s'.rg f g h ra) (s'.rg f g h rb)
           | 2 => fFma (s'.rg f g h ra) (s'.rg f g h rb) (s'.rg f g h rc)
           | 3 => fMin (s'.rg f g h ra) (s'.rg f g h rb)
           | 4 => fMax (s'.rg f g h ra) (s'.rg f g h rb)
           | _ => if op ≤ 20 then BitVec.ofNat 32 (fromFp32To (op - 16) false (s'.rg f g h ra))
             else BitVec.ofNat 32 (fromFp32To (op - 24) true (s'.rg f g h ra)))
         else s'.greg f g h (rd % 128)) ∧
       (∀ n, n < 128 → n ≠ rd % 128 → t.greg f g h n = s'.greg f g h n) ∧ (t.thr f g h).pc = ((s'.thr f g h).pc + 8) % 2 ^ 48 ∧
       s'.SameMem t) ∧
   (∀ (s s' : State) (f g mask op rd ra rb rc k h : Nat) (ts : List Nat) (q : Kernel), (op = 5 ∨ op = 6 ∨ (8 ≤ op ∧ op ≤ 13)) →
     s.Issues f g s' k q ts → (∀ i ∈ ts, nbit mask i = true → s'.badReg f g i (fmaReads op ra rb rc) = none) → h ∈ ts → nbit mask h = true →
     ∃ t, exec (.fmaInstruction f g mask op rd ra rb rc) s = .next t ∧
       nbit (t.pred f g h) (rd % 8) = (match op with
         | 5 => fLt (s'.rg f g h ra) (s'.rg f g h rb)
         | 6 => fEq (s'.rg f g h ra) (s'.rg f g h rb)
         | 8 => fLe (s'.rg f g h ra) (s'.rg f g h rb)
         | 9 => fLt (s'.rg f g h rb) (s'.rg f g h ra)
         | 10 => fLe (s'.rg f g h rb) (s'.rg f g h ra)
         | 11 => !fEq (s'.rg f g h ra) (s'.rg f g h rb)
         | 12 => fUnordered (s'.rg f g h ra) (s'.rg f g h rb)
         | _ => !fUnordered (s'.rg f g h ra) (s'.rg f g h rb)) ∧
       t.frd.gregs = s'.frd.gregs ∧ t.mem = s'.mem ∧ (t.thr f g h).pc = ((s'.thr f g h).pc + 8) % 2 ^ 48) ∧
   (∀ (s s' : State) (f g mask rd ra rb rc k h : Nat) (ts : List Nat) (q : Kernel), s.Issues f g s' k q ts →
     (∀ i ∈ ts, nbit mask i = true → s'.badReg f g i (fmaReads 7 ra rb rc) = none) → h ∈ ts → nbit mask h = true →
     ∃ t, exec (.fmaInstruction f g mask 7 rd ra rb rc) s = .next t ∧
       t.greg f g h (rd % 128) = fFma (s'.rg f g h ra) (s'.rg f g h rb) (s'.rg f g h rc) ∧
       t.greg f g h ((rd + 1) % 128) = fFma (s'.rg f g h (ra + 1)) (s'.rg f g h (rb + 1)) (s'.rg f g h (rc + 1)) ∧
       (∀ n, n < 128 → n ≠ rd % 128 → n ≠ (rd + 1) % 128 → t.greg f g h n = s'.greg f g h n)) ∧
   (∀ (s s' : State) (f g mask fn rd ra k h : Nat) (ts : List Nat) (q : Kernel), s.Issues f g s' k q ts →
     (∀ i ∈ ts, nbit mask i = true → s'.badReg f g i [ra % 128] = none) → h ∈ ts → nbit mask h = true →
     ∃ t, exec (.specialFunction f g mask fn rd ra) s = .next t ∧ t.greg f g h (rd % 128) = specialFunction fn (s'.rg f g h ra) ∧
       (∀ n, n < 128 → n ≠ rd % 128 → t.greg f g h n = s'.greg f g h n) ∧ (t.thr f g h).pc = ((s'.thr f g h).pc + 8) % 2 ^ 48 ∧
       s'.SameMem t))

/-- Group-wide instructions (R151–R154). The chosen threads begin to wait, and the instruction is evaluated: while a live thread is still to come
they wait; where every live thread of the group has come, each thread with a true predicate takes its result from the rows that take part, rows that
do not count as zero or as the identity, sums combine neighbours first, and all move on with CSEQ counted. -/
def Obligations.GroupWide : Prop :=
  (∀ (s s' : State) (f g mask code d sr x k : Nat) (ts : List Nat) (q : Kernel) (c : Instr),
    (c, code) ∈ [(Instr.gshuf f g mask d sr x, 0), (.gxpose f g mask d sr, 1), (.gmv f g mask d sr x, 2), (.gred f g mask x d sr, 3),
      (.gscan f g mask x d sr, 4)] → s.Issues f g s' k q ts → d < 128 → sr < 128 → (code = 1 → d % 32 = 0 ∧ x = 0) →
    (code = 1 ∨ code = 2 → sr % 32 = 0) →
    ∃ t, exec c s = .next t ∧ t = (s'.beginWaits f g ts (fun h => .coll code d sr x (nbit mask h))).evalColl f g) ∧
  (∀ (s : State) (f g code d sr x pc cs : Nat) (inn : List Nat),
    (s.liveThreads f g ≠ []) → inn = s.rowsIn f g → (∀ h ∈ s.liveThreads f g, (s.thr f g h).pc = pc ∧ (s.thr f g h).cseq = cs ∧
      ∃ p, (s.thr f g h).wait = .coll code d sr x p) → (∀ h ∈ inn, s.badReg f g h (collReads code sr x) = none) →
    d < 128 → (code = 1 → d % 32 = 0) →
    ∃ t, s.evalColl f g = t ∧
      (∀ h ∈ s.liveThreads f g, (t.thr f g h).wait = .ready ∧ (t.thr f g h).pc = (pc + 8) % 2 ^ 48 ∧ (t.thr f g h).cseq = (cs + 1) % 65536) ∧
      (∀ h ∈ inn,
        (code = 0 → t.greg f g h d = s.row f g inn 0#32 sr ((s.rg f g h x).toNat % 32)) ∧
        (code = 1 → ∀ j, j < 32 → t.greg f g h (d + j) = s.row f g inn 0#32 (sr + h) j) ∧
        (code = 2 → t.greg f g h d = pairwise fAdd 6 ((List.range 32).map (fun j => fMul (s.rg f g h (sr + j)) (s.row f g inn 0#32 x j)))) ∧
        (code = 3 → t.greg f g h d = pairwise (gredOp x).1 6 ((List.range 32).map (s.row f g inn (gredOp x).2 sr))) ∧
        (code = 4 → t.greg f g h d = pairwise (if x = 0 then fAdd else fun a b => a + b) 6
          ((List.range (h + 1)).map (s.row f g inn 0#32 sr)))) ∧
      (∀ h, h < 32 → h ∉ inn → ∀ n, n < 128 → t.greg f g h n = s.greg f g h n) ∧
      (∀ h n, h < 32 → n < 128 → (code = 1 → n < d ∨ d + 32 ≤ n) → (code ≠ 1 → n ≠ d) → t.greg f g h n = s.greg f g h n) ∧ s.SameMem t) ∧
  (∀ (s : State) (f g code d sr x h i : Nat) (p : Bool), h ∈ s.liveThreads f g → i ∈ s.liveThreads f g →
    (s.thr f g h).wait = .coll code d sr x p → (∀ d' sr' x' p', (s.thr f g i).wait ≠ .coll code d' sr' x' p') → s.evalColl f g = s)

/-- Barriers and exits (R155, R156, R173). The chosen threads whose predicate holds begin to wait at the barrier, the others move on, and the barrier is
evaluated: it releases all at once when every live thread of the group, or of every group of the kernel, waits at it, and no one before. A thread that
exits is no longer live. Traps and the watchdog of waits (R158, R159, R161, R164–R166). TRAP ends the kernel, as do a divergent collective and a barrier
deadlock, with their own reasons; a TRAP taken while FRD_TRAP is free is captured there with its code, argument, thread, group and place. A cluster held for a
register error is tested when no group is resident in it (R167): it returns to service, or is fenced. -/
def Obligations.BarriersAndTraps : Prop :=
  ((∀ (s s' : State) (f g mask b k : Nat) (ts : List Nat) (q : Kernel), b < 8 → s.Issues f g s' k q ts →
     ∃ t, exec (.barG f g mask b) s = .next t ∧ t = (s'.arrive f g mask (.barG b) ts).evalBarG f g b) ∧
   (∀ (s s' : State) (f g mask b k : Nat) (ts : List Nat) (q : Kernel), b < 16 → s.Issues f g s' k q ts →
     ∃ t, exec (.barK f g mask b) s = .next t ∧ t = (s'.arrive f g mask (.barK b) ts).evalBarK f k b) ∧
   (∀ (s : State) (f g mask h : Nat) (w : Wait) (ts : List Nat), ts.Nodup → h ∈ ts →
     ((s.arrive f g mask w ts).thr f g h).wait = (if nbit mask h then w else .ready) ∧
     ((s.arrive f g mask w ts).thr f g h).pc = (if nbit mask h then (s.thr f g h).pc else ((s.thr f g h).pc + 8) % 2 ^ 48)) ∧
   (∀ (s : State) (f g b : Nat),
     ((∃ h ∈ s.liveThreads f g, (s.thr f g h).wait ≠ .barG b) → s.evalBarG f g b = s) ∧
     ((∀ h ∈ s.liveThreads f g, (s.thr f g h).wait = .barG b) → ∀ h ∈ s.liveThreads f g, ((s.evalBarG f g b).thr f g h).wait = .ready ∧
       ((s.evalBarG f g b).thr f g h).pc = ((s.thr f g h).pc + 8) % 2 ^ 48)) ∧
   (∀ (s : State) (f k b : Nat) (q : Kernel), s.krn f k = some q → q.groups.Nodup → (∀ g ∈ q.groups, g < 64) →
     ((∃ g ∈ q.groups, ∃ h ∈ s.liveThreads f g, (s.thr f g h).wait ≠ .barK b) → s.evalBarK f k b = s) ∧
     ((∀ g ∈ q.groups, ∀ h ∈ s.liveThreads f g, (s.thr f g h).wait = .barK b) → ∀ g ∈ q.groups, ∀ h ∈ s.liveThreads f g,
       ((s.evalBarK f k b).thr f g h).wait = .ready ∧ ((s.evalBarK f k b).thr f g h).pc = ((s.thr f g h).pc + 8) % 2 ^ 48)) ∧
   (∀ (s s' : State) (f g mask k h : Nat) (ts : List Nat) (q : Kernel), s.Issues f g s' k q ts → h ∈ ts → nbit mask h = true →
     ∃ t, exec (.exit f g mask) s = .next t ∧ (t.thr f g h).live = false)) ∧
  ((∀ (s s' : State) (f g mask arg k h : Nat) (ts : List Nat) (q : Kernel), s.Issues f g s' k q ts → s'.krn f k = some q →
     ts.find? (nbit mask) = some h → s'.rget (Fd.FRD_TRAP_VALID f) = 0 →
     h < 32 → g < 64 → k < 8 → (s'.thr f g h).pc < 2 ^ 48 → (s'.thr f g h).cseq < 65536 → (s'.grp f g).kernel = some k →
     ∃ t, exec (.trap f g mask arg) s = .next t ∧ t.krn f k = some { q with abort := some 0x0285 } ∧ FUnit.kernel f k ∈ t.flt.fences ∧
       t.rget (Fd.FRD_TRAP_VALID f) = 1 ∧ t.rget (Fd.FRD_TRAP_CODE f) = 0x85 ∧ t.rget (Fd.FRD_TRAP_ARG f) = arg % 65536 ∧
       t.rget (Fd.FRD_TRAP_KSLOT f) = k ∧ t.rget (Fd.FRD_TRAP_GROUP f) = g ∧ t.rget (Fd.FRD_TRAP_THREAD f) = h ∧
       t.rget (Fd.FRD_TRAP_PC f) = (s'.thr f g h).pc ∧ t.rget (Fd.FRD_TRAP_CSEQ f) = (s'.thr f g h).cseq ∧
       t.rget (Fd.FRD_TRAP_KTAG f) = q.launch.ktag) ∧
   (∀ (s : State) (f g h k : Nat) (q : Kernel), s.grpKernel f g = some (k, q) → s.timedWait f g = some (h, true) →
     ∃ t, exec (.divergentCollective f g) s = .next t ∧ t.krn f k = some { q with abort := some 0x0283 } ∧
       FUnit.kernel f k ∈ t.flt.fences) ∧
   (∀ (s : State) (f g h k : Nat) (q : Kernel), s.grpKernel f g = some (k, q) → s.timedWait f g = some (h, false) →
     ∃ t, exec (.barrierDeadlock f g) s = .next t ∧ t.krn f k = some { q with abort := some 0x0284 } ∧
       FUnit.kernel f k ∈ t.flt.fences)) ∧
  ((∀ (s : State) (f c : Nat), (s.fr f).clHeld.contains c = true → s.clusterEmpty f c = true →
     ∃ t, exec (.clusterPatternTest f c false) s = .next t ∧ (t.fr f).clHeld.contains c = false ∧ t.flt = s.flt ∧ t.regs = s.regs ∧
       t.mem = s.mem) ∧
   (∀ (s : State) (f c : Nat), (s.fr f).clHeld.contains c = true → s.clusterEmpty f c = true → s.switching = none →
     ∃ t, exec (.clusterPatternTest f c true) s = .next t ∧ (t.fr f).clHeld.contains c = false ∧
       FUnit.engine (clusterLoc f c) ∈ t.flt.fences))

/-- Command issue (R94, R147–R149). The executing threads act in ascending index, each once the Frond's stores are performed: one thread's ACMD or DCMD
puts its eight registers, as four words, at the end of the queue named, with the kernel that issued them, or waits while the queue is full; an array the
kernel does not own traps it. AWAIT and DWAIT go on when no more than n of the kernel's commands remain, and wait otherwise. -/
def Obligations.CommandIssue : Prop :=
  ((∀ (s s' : State) (f g mask a n k : Nat) (ts : List Nat) (q : Kernel),
     let t := s'.eachThread f g mask (eightRegs n) ts (fun u h => (u.sbDrain f).acmd1 f g a n k q h)
     s.Issues f g s' k q ts → a < 8 → s.sbHeld f = false → n % 8 = 0 → n < 128 → t.waited = false → exec (.acmd f g mask a n) s = .next t) ∧
   (∀ (s : State) (f g a n k h : Nat) (q : Kernel), nbit q.launch.arrays a = true → s.arrFenced f a = false →
     (16 ≤ (s.arr f a).queue.length → ((s.acmd1 f g a n k q h).thr f g h).wait = .acmd a ∧ ∀ b, (s.acmd1 f g a n k q h).arr f b = s.arr f b) ∧
     ((s.arr f a).queue.length < 16 → ∃ t, s.acmd1 f g a n k q h = t ∧ (t.arr f a).queue = (s.arr f a).queue ++
         [⟨(s.cmdWords f g h n).1, (s.cmdWords f g h n).2.1, (s.cmdWords f g h n).2.2.1, (s.cmdWords f g h n).2.2.2, k, 0, []⟩] ∧
       (t.thr f g h).pc = ((s.thr f g h).pc + 8) % 2 ^ 48 ∧ t.regs = s.regs ∧ t.mem = s.mem)) ∧
   (∀ (s : State) (f g a n k h : Nat) (q : Kernel), nbit q.launch.arrays a = false → s.grpKernel f g = some (k, q) →
     (s.acmd1 f g a n k q h).krn f k = some { q with abort := some 0x0286 })) ∧
  ((∀ (s s' : State) (f g mask c n k : Nat) (ts : List Nat) (q : Kernel),
     let t := s'.eachThread f g mask (eightRegs n) ts (fun u h => (u.sbDrain f).dcmd1 f g c n k q h)
     s.Issues f g s' k q ts → c < 16 → s.sbHeld f = false → n % 8 = 0 → n < 128 → t.waited = false → exec (.dcmd f g mask c n) s = .next t) ∧
   (∀ (s : State) (f g c n k h : Nat) (q : Kernel), nbit (s.rget (Fd.FRD_DMA_CTL_RING_MASK f)) c = false →
     (16 ≤ (s.dma f c).queue.length → ((s.dcmd1 f g c n k q h).thr f g h).wait = .dcmd c ∧ ∀ b, (s.dcmd1 f g c n k q h).dma f b = s.dma f b) ∧
     ((s.dma f c).queue.length < 16 → ∃ t, s.dcmd1 f g c n k q h = t ∧ (t.dma f c).queue = (s.dma f c).queue ++
         [⟨(s.cmdWords f g h n).1, (s.cmdWords f g h n).2.1, (s.cmdWords f g h n).2.2.1, (s.cmdWords f g h n).2.2.2, .kernel f k,
           q.launch.asid, q.launch.tenant, false, false, none, 0⟩] ∧
       (t.thr f g h).pc = ((s.thr f g h).pc + 8) % 2 ^ 48 ∧ t.regs = s.regs ∧ t.mem = s.mem))) ∧
  (∀ (s s' : State) (f g mask a n k h : Nat) (ts : List Nat) (q : Kernel), s.Issues f g s' k q ts → h ∈ ts → nbit mask h = true →
    ∃ t, exec (.await f g mask a n) s = .next t ∧ t.regs = s'.regs ∧ t.mem = s'.mem ∧ t.frd.gregs = s'.frd.gregs ∧
      (s'.kArrCmds f k a ≤ n → (t.thr f g h).pc = ((s'.thr f g h).pc + 8) % 2 ^ 48 ∧ (t.thr f g h).wait = .ready) ∧
      (n < s'.kArrCmds f k a → (t.thr f g h).pc = (s'.thr f g h).pc ∧ (t.thr f g h).wait = .awaitA a n)) ∧
  (∀ (s s' : State) (f g mask c n k h : Nat) (ts : List Nat) (q : Kernel), s.Issues f g s' k q ts → h ∈ ts → nbit mask h = true →
    ∃ t, exec (.dwait f g mask c n) s = .next t ∧ t.regs = s'.regs ∧ t.mem = s'.mem ∧ t.frd.gregs = s'.frd.gregs ∧
      (s'.kDmaCmds f k c ≤ n → (t.thr f g h).pc = ((s'.thr f g h).pc + 8) % 2 ^ 48 ∧ (t.thr f g h).wait = .ready) ∧
      (n < s'.kDmaCmds f k c → (t.thr f g h).pc = (s'.thr f g h).pc ∧ (t.thr f g h).wait = .awaitD c n))

/-- Launch records and admission (R133, R139, R168–R171). A good record joins the launch queue of an awake Frond, or the stub of any other, where it
asks for a wake; the oldest record takes the first free kernel slot and its group slots, its threads start at ENTRY with every register zero, and the data
cache is empty. Ends of kernels (R163, R172). An aborting kernel loses its commands and leaves its slot, and its issuer hears of the error; one whose threads
have all exited and whose commands have all completed has its stores performed, leaves its slot, signals its sorus, and its issuer hears of its success: the last
kernel of a LAUNCH completes its descriptor with status 0. -/
def Obligations.Kernels : Prop :=
  ((∀ (s : State) (f r i image : Nat) (w0 w1 w2 w3 : W64), s.launchRoom f = true → s.frondUp f = true →
     s.rget (Fd.FRD_ASPACE_BASE_EN f) = 1 → s.launchBad f ⟨w0, w1, w2, w3, .ring r i, image⟩ = false → s.awake f = true →
     ∃ t, exec (.launchRecord f w0 w1 w2 w3 r i image) s = .next t ∧
       t = s.setFr f { s.fr f with lq := (s.fr f).lq ++ [⟨w0, w1, w2, w3, .ring r i, image⟩] }) ∧
   (∀ (s : State) (f r i image : Nat) (w0 w1 w2 w3 : W64), s.launchRoom f = true → s.frondUp f = true →
     s.rget (Fd.FRD_ASPACE_BASE_EN f) = 1 → s.launchBad f ⟨w0, w1, w2, w3, .ring r i, image⟩ = false → s.awake f = false →
     ∃ t, exec (.launchRecord f w0 w1 w2 w3 r i image) s = .next t ∧
       t = (s.setFr f { s.fr f with stub := (s.fr f).stub ++ [⟨w0, w1, w2, w3, .ring r i, image⟩] }).wakeReq f false ∧
       (t.fr f).stub = (s.fr f).stub ++ [⟨w0, w1, w2, w3, .ring r i, image⟩]) ∧
   (∀ (s : State) (f k : Nat) (l : Launch) (rest : List Launch), (s.fr f).lq = l :: rest →
     (List.range 8).find? (fun k => (s.krn f k).isNone) = some k → s.frondUp f = true → s.inRun f = true →
     l.groupsM1 + 1 ≤ (s.freeSlots f).length → (∀ a ∈ bitsOf 8 l.arrays, (s.arr f a).owner = none) →
     ∃ t, exec (.kernelAdmission f) s = .next t ∧ (t.fr f).lq = rest ∧ (t.fr f).dcache = [] ∧
       t.krn f k = some ⟨l, (s.freeSlots f).take (l.groupsM1 + 1), none⟩ ∧
       (∀ g ∈ (s.freeSlots f).take (l.groupsM1 + 1), (t.grp f g).kernel = some k ∧
         ∀ h, h < 32 → t.thr f g h = { Thread.init with live := true, pc := l.entry } ∧ ∀ n, n < 128 → t.greg f g h n = 0#32) ∧
       (∀ a ∈ bitsOf 8 l.arrays, (t.arr f a).owner = some k) ∧ t.regs = s.regs ∧ t.mem = s.mem)) ∧
  ((∀ (s : State) (f k reason : Nat) (q : Kernel), s.krn f k = some q → q.abort = some reason → s.sbHeld f = false →
     ∃ t, exec (.kernelAbort f k) s = .next t ∧ t = (((s.discardCmds f k).sbDrain f).releaseKernel f k).kernelDone q.launch.issuer f false reason ∧
       t.krn f k = none ∧ ∀ a, a < 8 → (t.arr f a).owner ≠ some k ∧ ∀ c ∈ (t.arr f a).queue, c.kslot ≠ k) ∧
   (∀ (s : State) (f k : Nat) (q : Kernel), s.krn f k = some q → q.abort = none → s.kernelOver f k q = true → s.sbHeld f = false →
     (s.sbDrain f).kRunning f k = true →
     let u := (s.sbDrain f).releaseKernel f k
     let w := if q.launch.sig then u.sorNow f q.launch.sorus 1 q.launch.tenant else (u, none)
     w.2 = none →
     ∃ t, exec (.kernelExit f k) s = .next t ∧ t = w.1.kernelDone q.launch.issuer f true 0 ∧ u.krn f k = none) ∧
   (∀ (s : State) (f r i : Nat) (d : Started), (s.ring r).find i = some d → f < 16 → d.running = 2 ^ f → d.failed = 0 →
     s.Completes (s.kernelDone (.ring r i) f true 0) r i 0 0 d.used))

/-- Scratchpad accesses (R180, R181, R185, R186, R209). An access leaves the state its write or read leaves, after its transfer over the links where
the Frond above makes it; a write inside one aligned 32-byte piece of the window stores its bytes there and nowhere else, with clean check bits, and
takes its bank group out of retention. Repairs of the Thallus (R183, R184, R197–R199). A wire test that is due replaces each failed wire by a spare of its segment, or retires a
link with more failed wires than spares; a row that is due takes a spare row of its macro, its single errors corrected; each repair is handed to the ledger. Patrol, bands
and retention (R193, R205, R207–R209). Patrol moves its place on by the bytes it read, or ends its pass, and repairs a byte it can correct; a late pass sets LATE; a
bank group takes the band of its estimate, and enters retention after 4 µs without an access. -/
def Obligations.Thallus : Prop :=
  ((∀ (s v u : State) (agent : Agent) (off : Nat) (bytes : List Byte) (crc : List Nat),
     let o := off % 0x400000000
     (∀ f k, agent = .kernel f k → v = s.transfers f (0x80000000000 + o) o true crc) → ((∀ f k, agent ≠ .kernel f k) → v = s) →
     v.write (0x80000000000 + o) bytes = (u, none) → ∃ t, exec (.scratchpadAccess agent off true bytes crc) s = .next t ∧ t = u) ∧
   (∀ (s v u : State) (agent : Agent) (off : Nat) (bytes l : List Byte) (crc : List Nat),
     let o := off % 0x400000000
     (∀ f k, agent = .kernel f k → v = s.transfers f (0x80000000000 + o) o false crc) → ((∀ f k, agent ≠ .kernel f k) → v = s) →
     v.read (0x80000000000 + o) bytes.length = (u, .ok l) → ∃ t, exec (.scratchpadAccess agent off false bytes crc) s = .next t ∧ t = u) ∧
   (∀ (s : State) (agent : Agent) (off : Nat) (bytes : List Byte) (crc : List Nat), off % 32 + bytes.length ≤ 32 → 0 < bytes.length →
     off < 0x400000000 → s.physErr (0x80000000000 + off) = none → s.rget Fd.FLT_INJ_CTL_ARM = 0 →
     ∃ t, exec (.scratchpadAccess agent off true bytes crc) s = .next t ∧
       (∀ i, i < bytes.length → memGet t.mem.thl (off + i) = bytes.getD i 0#8 ∧ t.thlMask (off + i) = 0) ∧
       (∀ a, (a < off ∨ off + bytes.length ≤ a) → memGet t.mem.thl a = memGet s.mem.thl a) ∧
       bgKey (thlTower off) (thlDie off) (thlQuad off) (thlBg off) ∉ t.thl.retention ∧
       t.mem.dram = s.mem.dram ∧ t.mem.ls = s.mem.ls ∧ t.mem.host = s.mem.host ∧ t.regs = s.regs)) ∧
  ((∀ (s : State) (t q kind b : Nat) (failed : List (Nat × Nat)),
     let link := linkKey t q kind b
     let s1 : State := { s with thl := { s.thl with crcFails := s.thl.crcFails.filter (fun p => p.1 != link),
                                                    crcTwice := s.thl.crcTwice.filter (· != link) } }
     s.bgThere t 0 q b = true → kind < 3 → s.towerUp t = true → s.linkServes t q kind b = true → s.wireTestDue link = true →
     ((∀ seg, seg < 16 → s.wiresUsed t q kind b seg + (failed.filter (fun w => w.1 == seg)).length ≤ wireSpares kind) →
       ∃ u, exec (.bundleWireTest t q kind b failed) s = .next u ∧
         u = (failed.filter (fun w => decide (w.1 < 16))).foldl (fun v w => v.replaceWire t q kind b w) s1) ∧
     ((∃ seg, seg < 16 ∧ wireSpares kind < s.wiresUsed t q kind b seg + (failed.filter (fun w => w.1 == seg)).length) →
       ∃ u, exec (.bundleWireTest t q kind b failed) s = .next u ∧ u.linkServes t q kind b = false ∧ u.mem.thl = s.mem.thl)) ∧
   (∀ (s : State) (t q kind b seg wire : Nat), s.wiresUsed t q kind b seg < wireSpares kind →
     let u := s.replaceWire t q kind b (seg, wire)
     let map := spGet (fun _ => []) s.thl.wires (wireKey t q kind b seg) ++ [wire]
     spGet (fun _ => []) u.thl.wires (wireKey t q kind b seg) = map ∧ u.wiresUsed t q kind b seg = s.wiresUsed t q kind b seg + 1 ∧
       ⟨[⟨1, 0x20000000 + wireKey t q kind b seg, false, map.length :: map, 8 * (map.length + 1)⟩], .nobody⟩ ∈ u.ldg.queue ∧
       u.mem.thl = s.mem.thl ∧ u.mem.dram = s.mem.dram ∧ u.mem.ls = s.mem.ls) ∧
   (∀ (s : State) (t die q b m row : Nat),
     let mk := bgKey t die q b * 32 + m
     s.bgThere t die q b = true → m < 32 → row < 1024 → s.thl.rowDue.contains (mk * 1024 + row) = true →
     spGet (fun _ => 0) s.thl.rowsUsed mk < 16 →
     ∃ u, exec (.rowRepair t die q b m row) s = .next u ∧
       spGet (fun _ => 0) u.thl.rowsUsed mk = spGet (fun _ => 0) s.thl.rowsUsed mk + 1 ∧
       u.thl.rowsRepaired.contains (mk * 1024 + row) = true ∧ u.thl.rowDue.contains (mk * 1024 + row) = false ∧
       (die = 0 ∨ s.bgMode (t * 4 + q) b = 0 → ∀ o ∈ rowBytesOf t die q b m row, ∀ e, thlDecode (s.thlMask o) = some (e, true) →
         memGet u.mem.thl o = memGet s.mem.thl o ^^^ BitVec.ofNat 8 e ∧ u.thlMask o = 0) ∧
       u.mem.dram = s.mem.dram ∧ u.mem.ls = s.mem.ls)) ∧
  ((∀ (s : State) (t die q b len : Nat),
     let key := bgKey t die q b
     let pos := spGet (fun _ => 0) s.thl.patrolPos key
     s.bgThere t die q b = true → s.towerUp t = true → s.rget Fd.THL_SCRUB_CTL_EN = 1 → s.thl.unavail.contains key = false →
     s.patrolOpen key = true → len ≠ 0 →
     ∃ u, exec (.patrolRead t die q b len) s = .next u ∧
       spGet (fun _ => 0) u.thl.patrolPos key = (if pos + len < 2 ^ 24 then pos + len else 0) ∧
       (pos < 2 ^ 24 → 2 ^ 24 ≤ pos + len → spGet (fun _ => 0) u.thl.patrolDone key = spGet (fun _ => 0) s.thl.patrolDone key + 1)) ∧
   (∀ (s : State) (t q b e : Nat),
     let pos := spGet (fun _ => 0) s.thl.patrolPos (bgKey t 0 q b)
     let o := bgByte t 0 q b pos
     s.bgThere t 0 q b = true → s.towerUp t = true → s.rget Fd.THL_SCRUB_CTL_EN = 1 → s.thl.unavail.contains (bgKey t 0 q b) = false →
     s.patrolOpen (bgKey t 0 q b) = true → s.thlMask o ≠ 0 → thlDecode (s.thlMask o) = some (e, true) →
     ∃ u, exec (.patrolRead t 0 q b 1) s = .next u ∧ u.thlMask o = 0 ∧ memGet u.mem.thl o = memGet s.mem.thl o ^^^ BitVec.ofNat 8 e ∧
       ∀ a, a ≠ o → memGet u.mem.thl a = memGet s.mem.thl a) ∧
   (∀ (s : State) (k : Nat), s.rget Fd.THL_SCRUB_CTL_EN = 1 → k ∈ s.liveBgs → spGet (fun _ => 0) s.thl.patrolPos k ≠ 0 →
     spGet (fun _ => 0) s.thl.patrolAt k + 2 * s.patrolPeriod < s.clock →
     ∃ u, exec .patrolLate s = .next u ∧ u = s.rset Fd.THL_SCRUB_STAT_LATE 1) ∧
   (∀ (s : State) (t die q b : Nat), s.bgThere t die q b = true →
     ∃ u, exec (.thallusBandChange t die q b) s = .next u ∧
       (let y := bandStep (spGet (fun _ => 0) s.thl.band (bgKey t die q b)) (s.bgEstimate t die q)
        u = { s with thl := { s.thl with band := spPut (fun _ => 0) s.thl.band (bgKey t die q b) y } })) ∧
   (∀ est : Int, bandStep 0 est = (if est < 85000 then 0 else if est < 95000 then 1 else if est ≤ 105000 then 2 else 3) ∧
     bandStep 3 est = (if est < 83000 then 0 else if est < 93000 then 1 else if est ≤ 103000 then 2 else 3)) ∧
   (∀ (s : State) (t die q b : Nat), s.bgThere t die q b = true → s.towerUp t = true →
     spGet (fun _ => 0) s.thl.lastUse (bgKey t die q b) + 100 ≤ s.clock →
     ∃ u, exec (.retentionEntry t die q b) s = .next u ∧ bgKey t die q b ∈ u.thl.retention ∧ u.mem = s.mem ∧ u.regs = s.regs))

/-- Cache accesses (R221, R223, R224, R244, R259). A read or write of DRAM that is not held is performed through the slice; one that is held joins the
accesses that wait. A release lets every waiting access and fill of the set go on that can, and when none waits any more performs the held
reductions of the set in their order. A read that misses installs its sector (R223): with a way free for it and no error in the channel, the line is
then in the cache and holds the channel's bytes. -/
def Obligations.CacheAccess : Prop :=
  ((∀ (s u : State) (agent : Agent) (pa len : Nat) (l : List Byte), physClass pa = .dram → s.rdHeld pa len = false →
     s.read pa len = (u, .ok l) → ∃ t, exec (.cacheRead agent pa len) s = .next t ∧ t = u) ∧
   (∀ (s : State) (agent : Agent) (pa len : Nat), physClass pa = .dram → s.rdHeld pa len = true →
     ∃ t, exec (.cacheRead agent pa len) s = .next t ∧ t = s.holdMem agent pa false (List.replicate len 0#8)) ∧
   (∀ (s u : State) (agent : Agent) (pa : Nat) (bytes : List Byte), physClass pa = .dram → s.wrHeld pa bytes.length = false →
     s.write pa bytes = (u, none) → ∃ t, exec (.cacheWrite agent pa bytes) s = .next t ∧ t = u) ∧
   (∀ (s : State) (agent : Agent) (pa : Nat) (bytes : List Byte), physClass pa = .dram → s.wrHeld pa bytes.length = true →
     ∃ t, exec (.cacheWrite agent pa bytes) s = .next t ∧ t = s.holdMem agent pa true bytes) ∧
   (∀ (s : State) (agent : Agent) (pa : Nat) (wr : Bool) (bytes : List Byte),
     (s.accHeld pa = true → s.holdMem agent pa wr bytes = { s with pil := { s.pil with held := s.pil.held ++ [⟨agent, pa, wr, bytes⟩] } }) ∧
     (s.accHeld pa = false → s.holdMem agent pa wr bytes = { s with msc := { s.msc with waiting := s.msc.waiting ++ [⟨agent, pa, wr, bytes⟩] } })) ∧
   (∀ (s : State) (sl set : Nat),
     let s1 := (s.msc.waiting.filter (fun w => s.inSet sl set w.pa)).foldl (fun v w => v.waitGo w) s
     let s2 := (s1.msc.fills.filter (s1.inSet sl set)).foldl (fun v pa => v.fillGo pa) s1
     let l := s2.msc.heldRed.filter (fun h => s2.inSet sl set h.pa && !s2.redHeld h.pa h.bytes.length)
     s2.msc.waiting.any (fun w => s2.inSet sl set w.pa) = false → s2.msc.fills.any (s2.inSet sl set) = false →
     ∃ t, exec (.fillWaitRelease sl set) s = .next t ∧ t = l.foldl (fun v h => v.reducePosted h.agent h.op h.ty h.pa h.bytes)
       { s2 with msc := { s2.msc with heldRed := s2.msc.heldRed.filter (fun h => !l.contains h) } }) ∧
   (∀ (s u : State) (w : HeldMem), (w.write = false → s.rdHeld w.pa w.bytes.length = false ∧ ∃ l,
       ({ s with msc := { s.msc with waiting := s.msc.waiting.erase w } } : State).read w.pa w.bytes.length = (u, .ok l)) →
     (w.write = true → s.wrHeld w.pa w.bytes.length = false ∧
       ({ s with msc := { s.msc with waiting := s.msc.waiting.erase w } } : State).write w.pa w.bytes = (u, none)) →
     w.agent ≠ .host → s.waitGo w = u)) ∧
  (∀ (s : State) (agent : Agent) (pa n w : Nat) (r : Region),
     let ch := (chanAddr r s.channels pa).1
     let a := (chanAddr r s.channels pa).2
     let set := Machine.setOf (pa / 128)
     physClass pa = .dram → s.rdHeld pa 1 = false → s.msc.tagBad = [] → s.physErr pa = none → s.rget Fd.FLT_INJ_CTL_ARM = 0 →
     s.regionOf pa = some (n, r) → s.findWay ch set (tagOf (pa / 128)) = none → s.fillWay ch set = some w →
     (s.way ch set w).valid = false → s.sectorPoisoned (sectorKey ch a) = false → s.sectorBad (sectorKey ch a) = [] →
     s.hasWays ch = true →
     ∃ t, exec (.cacheRead agent pa 1) s = .next t ∧
       (t.way ch set w).valid = true ∧ (t.way ch set w).tag = tagOf (pa / 128) ∧
       (t.way ch set w).sec (pa % 128 / 32) = ⟨true, false, false, memGetN s.mem.dram (dramKey ch (a / 32 * 32)) 32, []⟩ ∧
       t.mem.dram = s.mem.dram ∧ t.regs = s.regs)

/-- Posted reductions, atomics and locks (R240–R244). A reduction that is not held is applied at the slice, element by element, and locks its lines; one that
is held joins the held reductions; an atomic is applied there and locks its line; the end of a lock frees the line. -/
def Obligations.SliceOperations : Prop :=
  (∀ (s u : State) (agent : Agent) (op ty pa : Nat) (bytes : List Byte), reduceReserved op ty = false → bytes.length % elemSize ty = 0 →
    pa % elemSize ty = 0 → physClass pa = .dram → s.redHeld pa bytes.length = false → s.reduceAt op ty pa bytes = (u, none) →
    ∃ t, exec (.postedReduction agent op ty pa bytes) s = .next t ∧ t = u) ∧
  (∀ (s : State) (agent : Agent) (op ty pa : Nat) (bytes : List Byte), reduceReserved op ty = false → bytes.length % elemSize ty = 0 →
    pa % elemSize ty = 0 → physClass pa = .dram → s.redHeld pa bytes.length = true →
    ∃ t, exec (.postedReduction agent op ty pa bytes) s = .next t ∧ t.msc.heldRed = s.msc.heldRed ++ [⟨agent, pa, op, ty, bytes⟩] ∧
      s.SameMem t ∧ t.regs = s.regs) ∧
  (∀ (s s1 s2 : State) (op ty pa : Nat) (bytes old : List Byte), s.read pa bytes.length = (s1, .ok old) →
    s1.write pa (reduceBytes op ty bytes.length old bytes) = (s2, none) →
    s.reduceAt op ty pa bytes = ((pieces pa bytes.length).foldl (fun v p => v.lockLine p.1 true) s2, none)) ∧
  (∀ (op ty n : Nat) (a b old v : List Byte), a.length = elemSize ty → b.length = elemSize ty →
    reduceBytes op ty (n + 1) (a ++ old) (b ++ v) = leBytes (elemSize ty) (reduceElem op ty (leNat a) (leNat b)) ++ reduceBytes op ty n old v) ∧
  (∀ (s u : State) (agent : Agent) (op size pa v cmp old : Nat), physClass pa = .dram → (size = 4 ∨ size = 8) → pa % size = 0 →
    s.redHeld pa size = false → s.atomicAt op size pa v cmp = (u, .ok old) →
    ∃ t, exec (.sliceAtomic agent op size pa v cmp) s = .next t ∧ t = u.lockLine pa true) ∧
  (∀ (s s1 s2 : State) (op size pa v cmp : Nat) (l : List Byte), s.read pa size = (s1, .ok l) →
    s1.write pa (leBytes size (atomicNew op size (leNat l) v cmp)) = (s2, none) → s.atomicAt op size pa v cmp = (s2, .ok (leNat l))) ∧
  (∀ (s : State) (pa n w : Nat) (r : Region), s.regionOf pa = some (n, r) →
    s.findWay (chanAddr r s.channels pa).1 (Machine.setOf (pa / 128)) (tagOf (pa / 128)) = some w →
    ∃ t, exec (.lineLockEnd pa) s = .next t ∧
      t = s.setWay (chanAddr r s.channels pa).1 (Machine.setOf (pa / 128)) w
        { s.way (chanAddr r s.channels pa).1 (Machine.setOf (pa / 128)) w with locked := false })

/-- Range operations (R233–R239). A PREFETCH, FLUSH, INVALIDATE or UNPIN whose walk ends without a refusal completes with status 0, and the walk takes
the lines in rising order; a PIN within the cap does so too. One line that is in the cache: FLUSH leaves it clean, INVALIDATE drops it, UNPIN and PIN
clear and set its pin, PREFETCH keeps it. -/
def Obligations.RangeOperations : Prop :=
  ((∀ (s u : State) (r i op e : Nat) (need : Need) (d : Desc) (c : Instr) (g : State → Nat → Nat → State × Nat),
     (c, op, need, g) ∈ [(Instr.prefetch r i, 1, Need.r, fun (v : State) (_ : Nat) pa => v.prefetch1 pa), (.flush r i, 2, .r, fun v _ pa => v.flush1 pa),
       (.invalidate r i, 3, .w, fun v va pa => v.invalidate1 d va pa), (.unpin r i, 5, .r, fun v _ pa => v.unpin1 pa)] →
     s.opOf r i 6 op = some d → s.walkRange r need g (rangeLines (d.f 1 47 0) (d.f 2 47 0)) = (u, 0, e) → u.waited = false →
     ∃ t, exec c s = .next t ∧ t = u.complete r i 0 0 0) ∧
   (∀ (s u v : State) (r va pa pte : Nat) (need : Need) (l : List Nat) (g : State → Nat → Nat → State × Nat),
     s.walkRange r need g [] = (s, 0, 0) ∧
     (s.xlate none (s.ringAsid r) (s.ringTenant r) va need = (u, .ok (pa, pte)) → u.dramLine pa = true → u.accHeld pa = false →
       g u va pa = (v, 0) → s.walkRange r need g (va :: l) = v.walkRange r need g l) ∧
     (s.xlate none (s.ringAsid r) (s.ringTenant r) va need = (u, .ok (pa, pte)) → u.dramLine pa = false →
       s.walkRange r need g (va :: l) = u.walkRange r need g l)) ∧
   (∀ (s u : State) (r i e : Nat) (d : Desc) (mine : List Nat), s.opOf r i 6 4 = some d →
     s.pinnedLines + s.msc.reserved_ + (rangeLines (d.f 1 47 0) (d.f 2 47 0)).length ≤ s.pinCap →
     s.pinWalk r (rangeLines (d.f 1 47 0) (d.f 2 47 0)) [] = (u, 0, e, mine) → u.waited = false →
     ∃ t, exec (.pin r i) s = .next t ∧ t = u.complete r i 0 0 0)) ∧
  (∀ (s : State) (r i op va pa pte n w : Nat) (need : Need) (d : Desc) (g : Region) (c : Instr),
    (c, op, need) ∈ [(Instr.flush r i, 2, Need.r), (.invalidate r i, 3, .w), (.unpin r i, 5, .r), (.prefetch r i, 1, .r)] →
    let u := (s.xlate none (s.ringAsid r) (s.ringTenant r) va need).1
    let ch := (chanAddr g u.channels pa).1
    let set := Machine.setOf (pa / 128)
    s.opOf r i 6 op = some d → rangeLines (d.f 1 47 0) (d.f 2 47 0) = [va] → u.waited = false →
    (s.xlate none (s.ringAsid r) (s.ringTenant r) va need).2 = .ok (pa, pte) → u.dramLine pa = true → u.accHeld pa = false →
    u.physErr pa = none → u.regionOf pa = some (n, g) →
    u.findWay ch set (tagOf (pa / 128)) = some w → (u.way ch set w).locked = false → (∀ j, j < 4 → ((u.way ch set w).sec j).valid = true) →
    ∃ t, exec c s = .next t ∧ s.Completes t r i 0 0 0 ∧
      (op = 2 → t.way ch set w = (u.way ch set w).clean) ∧ (op = 3 → t.way ch set w = CLine.init) ∧
      (op = 5 → t.way ch set w = { u.way ch set w with pinned := false }) ∧ (op = 1 → t.way ch set w = u.way ch set w)) ∧
  (∀ (s : State) (r i va pa pte n w : Nat) (d : Desc) (g : Region),
    let u := (s.xlate none (s.ringAsid r) (s.ringTenant r) va .r).1
    let ch := (chanAddr g u.channels pa).1
    let set := Machine.setOf (pa / 128)
    s.opOf r i 6 4 = some d → rangeLines (d.f 1 47 0) (d.f 2 47 0) = [va] → u.waited = false →
    s.pinnedLines + s.msc.reserved_ + 1 ≤ s.pinCap →
    (s.xlate none (s.ringAsid r) (s.ringTenant r) va .r).2 = .ok (pa, pte) → u.dramLine pa = true → u.accHeld pa = false →
    u.physErr pa = none → u.regionOf pa = some (n, g) →
    u.findWay ch set (tagOf (pa / 128)) = some w → (∀ j, j < 4 → ((u.way ch set w).sec j).valid = true) → (u.way ch set w).pinned = false →
    u.pinnedIn ch set < u.pinQuota (u.sliceK ch) → u.hasWays ch = true →
    ∃ t, exec (.pin r i) s = .next t ∧ t.way ch set w = { u.way ch set w with pinned := true } ∧ s.Completes t r i 0 0 0)

/-- Bank group modes (R227–R232). SET_CACHE_MODE, for the groups available, starts the switch of each stable group whose mode its mask changes, keeps those it does
not, and latches a request for one that is switching; each switch leaves the group's scratchpad bytes reading zero; its completion makes the mode stable,
moves the distance table on, and starts the switch a latched request for the other mode asks for. -/
def Obligations.BankGroupModes : Prop :=
  (∀ (s : State) (r i b : Nat) (d : Desc),
    let t := d.f 1 1 0
    let tq := t * 4 + d.f 1 3 2
    let mask := d.f 1 63 32
    let toScr := ((List.range 32).filter (s.bgAvail tq)).filter (fun c => !nbit mask c && s.bgMode tq c == 1)
    s.opOf r i 7 1 = some d → t < s.towers → (∀ c ∈ bitsOf 32 mask, s.bgAvail tq c = true) →
    (∀ c ∈ toScr, s.pinsExceed (t * 32 + (tq % 4) * 8 + c / 4)
      (s.sliceK (t * 32 + (tq % 4) * 8 + c / 4) - (toScr.filter (fun x => x / 4 == c / 4)).length) = false) →
    b < 32 → s.bgAvail tq b = true →
    ∃ u, exec (.setCacheMode r i) s = .next u ∧ u.mem = s.mem ∧
      (s.bgMode tq b < 2 → u.bgMode tq b = if nbit mask b then (if s.bgMode tq b = 1 then 1 else 2) else (if s.bgMode tq b = 1 then 3 else 0)) ∧
      (s.bgMode tq b = 2 ∨ s.bgMode tq b = 3 → u.bgMode tq b = s.bgMode tq b ∧ u.pendOf tq b = if nbit mask b then 2 else 1)) ∧
  (∀ (s : State) (t q b : Nat), s.bgMode (t * 4 + q) b = 2 →
    ∃ u, exec (.switchToCache t q b) s = .next u ∧ modeKey (t * 4 + q) b ∈ u.msc.switched ∧
      (∀ o, memGet u.mem.thl o = if bgKey (thlTower o) (thlDie o) (thlQuad o) (thlBg o) = bgKey t 1 q b then 0#8 else memGet s.mem.thl o) ∧
      (∀ set way, set < 32768 → way < 16 → way / 4 = b % 4 → (u.way (t * 32 + q * 8 + b / 4) set way).valid = false) ∧
      u.mem.dram = s.mem.dram ∧ u.regs = s.regs) ∧
  (∀ (s : State) (t q b : Nat), s.bgMode (t * 4 + q) b = 3 →
    ∃ u, exec (.switchToScratchpad t q b) s = .next u ∧ modeKey (t * 4 + q) b ∈ u.msc.switched ∧
      (∀ o, memGet u.mem.thl o = if bgKey (thlTower o) (thlDie o) (thlQuad o) (thlBg o) = bgKey t 1 q b then 0#8 else memGet s.mem.thl o)) ∧
  (∀ (s : State) (t q b : Nat), s.msc.switched.contains (modeKey (t * 4 + q) b) = true →
    let tq := t * 4 + q
    let p := s.pendOf tq b
    ∃ u, exec (.modeSwitchComplete t q b) s = .next u ∧
      u.bgMode tq b = (if s.bgMode tq b = 2 then (if p ≠ 0 ∧ p ≠ 2 then 3 else 1) else (if p = 2 then 2 else 0)) ∧
      u.pendOf tq b = 0 ∧ modeKey tq b ∉ u.msc.switched ∧ u.thl.distGen = s.thl.distGen + 2)

/-- Applying a region table (R257–R260, R263). An acceptable table makes PIL_MAP_CTL busy and is taken up, with the cache flushed and empty; an apply
while one is busy is latched, and a latched one starts like a fresh one; at the end the table is the one in force. LOST clears where no channel is
lost. Accesses, refresh and bands of a channel (R265, R267, R268, R270). A write of a whole sector stores its 32 bytes at the channel address the
region gives, clean and not poisoned, and no other byte; a read that decodes keeps the data, and corrects and counts one wrong symbol; a refresh keeps every byte, and
is postponed by at most 8 intervals; a pile takes the band of its hottest layer, which shows in PIL_STAT. Scrubbing, retirement and losses (R271, R272,
R274, R275). A scrub moves the channel's place on, and a finished pass begins at 0 again; a due row takes a spare row of its bank; a lost coil takes one
of the link's four spares, the next one, or a base-die unit that fails for the channel, fences it; a failed pile loses all 16 channels. -/
def Obligations.Piles : Prop :=
  ((∀ (s : State), s.rget Fd.PIL_MAP_CTL_LOCK = 0 → s.rget Fd.PIL_MAP_CTL_BUSY = 0 → s.tableStatus s.regionTable = 0 →
     ∃ t, exec .apply s = .next t ∧ t.rget Fd.PIL_MAP_CTL_STATUS = 0 ∧ t.rget Fd.PIL_MAP_CTL_BUSY = 1 ∧ t.pil.applying = s.regionTable ∧
       t.pil.applied = s.pil.applied ∧ t.msc.lines = []) ∧
   (∀ (s : State), s.rget Fd.PIL_MAP_CTL_LOCK = 0 → s.rget Fd.PIL_MAP_CTL_BUSY = 0 → s.tableStatus s.regionTable ≠ 0 →
     ∃ t, exec .apply s = .next t ∧ t = s.rset Fd.PIL_MAP_CTL_STATUS (s.tableStatus s.regionTable)) ∧
   (∀ (s : State), s.rget Fd.PIL_MAP_CTL_LOCK = 0 → s.rget Fd.PIL_MAP_CTL_BUSY = 1 →
     ∃ t, exec .apply s = .next t ∧ t = s.rset Fd.PIL_MAP_CTL_PENDING 1) ∧
   (∀ (s : State), s.rget Fd.PIL_MAP_CTL_PENDING = 1 → s.rget Fd.PIL_MAP_CTL_BUSY = 0 → s.tableStatus s.regionTable = 0 →
     ∃ t, exec .applyLatchedStart s = .next t ∧ t.rget Fd.PIL_MAP_CTL_PENDING = 0 ∧ t.rget Fd.PIL_MAP_CTL_BUSY = 1 ∧
       t.pil.applying = s.regionTable) ∧
   (∀ (s : State), s.rget Fd.PIL_MAP_CTL_BUSY = 1 → s.pil.held = [] →
     ∃ t, exec .applyComplete s = .next t ∧ t.rget Fd.PIL_MAP_CTL_BUSY = 0 ∧ t.pil.applied = s.pil.applying ∧ t.pil.applying = [] ∧
       t.thl.distGen = s.thl.distGen + 2 ∧ t.mem.thl = s.mem.thl ∧ t.mem.ls = s.mem.ls) ∧
   (∀ (s : State) (n : Nat), n < 16 → (∀ c, c < s.channels → s.chanLost c = false) →
     ∃ t, exec (.regionLostClear n) s = .next t ∧ t = s.rset (Fd.PIL_REGION_LOST n) 0)) ∧
  ((∀ (s : State) (agent : Agent) (pa n : Nat) (r : Region) (bytes : List Byte),
     let ch := (chanAddr r s.channels pa).1
     let a := (chanAddr r s.channels pa).2
     physClass pa = .dram → s.wrHeld pa 32 = false → pa % 32 = 0 → bytes.length = 32 → s.physErr pa = none → s.regionOf pa = some (n, r) →
     s.rget Fd.FLT_INJ_CTL_ARM = 0 →
     ∃ t, exec (.dramAccess agent pa true bytes) s = .next t ∧
       (∀ i, i < 32 → memGet t.mem.dram (dramKey ch a + i) = bytes.getD i 0#8) ∧
       (∀ k, (k < dramKey ch a ∨ dramKey ch a + 32 ≤ k) → memGet t.mem.dram k = memGet s.mem.dram k) ∧
       t.sectorBad (sectorKey ch a) = [] ∧ t.sectorPoisoned (sectorKey ch a) = false ∧
       t.mem.thl = s.mem.thl ∧ t.mem.ls = s.mem.ls ∧ t.mem.host = s.mem.host ∧ t.regs = s.regs) ∧
   (∀ (s : State) (agent : Agent) (pa n : Nat) (r : Region) (bytes l : List Byte),
     let ch := (chanAddr r s.channels pa).1
     let a := (chanAddr r s.channels pa).2
     physClass pa = .dram → s.rdHeld pa 32 = false → pa % 32 = 0 → bytes.length = 32 → s.physErr pa = none → s.regionOf pa = some (n, r) →
     s.chanPeek ch a 32 = .ok l →
     ∃ t, exec (.dramAccess agent pa false bytes) s = .next t ∧ t.mem.dram = s.mem.dram ∧
       (rsDecode (s.sectorBad (sectorKey ch a)) = .clean → t = s) ∧
       (∀ i m, rsDecode (s.sectorBad (sectorKey ch a)) = .corrected i m → t.sectorBad (sectorKey ch a) = [] ∧
         t.rget Fd.PIL_ERR_STAT_CORRECTED = min (2 ^ 32 - 1) (s.rget Fd.PIL_ERR_STAT_CORRECTED + 1))) ∧
   (∀ (s : State) (ch bank : Nat), ch < s.channels → bank < 48 → spGet (fun _ => 0) s.pil.postponed (ch * 48 + bank) < 8 →
     ∃ t, exec (.refresh ch bank true) s = .next t ∧
       spGet (fun _ => 0) t.pil.postponed (ch * 48 + bank) = spGet (fun _ => 0) s.pil.postponed (ch * 48 + bank) + 1 ∧
       t.pil.refreshes = s.pil.refreshes ∧ t.mem = s.mem ∧ t.regs = s.regs) ∧
   (∀ (s : State) (ch bank : Nat) (postpone : Bool), ch < s.channels → bank < 48 →
     (postpone = false ∨ 8 ≤ spGet (fun _ => 0) s.pil.postponed (ch * 48 + bank)) →
     ∃ t, exec (.refresh ch bank postpone) s = .next t ∧ t.mem = s.mem ∧ t.regs = s.regs ∧
       spGet (fun _ => 0) t.pil.refreshes (ch * 48 + bank) = spGet (fun _ => 0) s.pil.refreshes (ch * 48 + bank) + 1 ∧
       spGet (fun _ => 0) t.pil.postponed (ch * 48 + bank) = 0) ∧
   (∀ (s : State) (p : Nat), p < s.piles →
     let band := if s.calFault (4 + p) then 3 else bandStep (s.rget (Fd.PIL_STAT_BAND p)) (s.pileEstimate p)
     ∃ t, exec (.pileBandChange p) s = .next t ∧ t.rget (Fd.PIL_STAT_BAND p) = band ∧
       t.rget (Fd.PIL_STAT_THROTTLED p) = (if band = 3 then 1 else 0) ∧ t.mem.dram = s.mem.dram)) ∧
  ((∀ (s : State) (ch n : Nat),
     let pos := spGet (fun _ => 0) s.pil.scrubPos ch
     s.scrubbed ch = true → s.endpointSwitching 3 (ch / 16) = false → s.rget Fd.PIL_SCRUB_CTL_EN = 1 → s.scrubOpen ch = true → n ≠ 0 →
     pos + n < chanSectors →
     ∃ t, exec (.pileScrub ch n) s = .next t ∧ spGet (fun _ => 0) t.pil.scrubPos ch = pos + n ∧ t.mem.dram = s.mem.dram) ∧
   (∀ (s : State) (ch n : Nat),
     let pos := spGet (fun _ => 0) s.pil.scrubPos ch
     s.scrubbed ch = true → s.endpointSwitching 3 (ch / 16) = false → s.rget Fd.PIL_SCRUB_CTL_EN = 1 → s.scrubOpen ch = true → n ≠ 0 →
     pos ≤ chanSectors → chanSectors ≤ pos + n →
     ∃ t, exec (.pileScrub ch n) s = .next t ∧ spGet (fun _ => 0) t.pil.scrubPos ch = 0 ∧ t.mem.dram = s.mem.dram) ∧
   (∀ (s : State) (ch bank row : Nat), ch < s.channels → bank < 48 → s.endpointSwitching 3 (ch / 16) = false →
     s.pil.rowDue.contains ((ch * 48 + bank) * 32768 + row) = true → spGet (fun _ => 0) s.pil.rowsUsed (ch * 48 + bank) < 128 →
     ∃ t, exec (.rowRetirement ch bank row) s = .next t ∧
       spGet (fun _ => 0) t.pil.rowsUsed (ch * 48 + bank) = spGet (fun _ => 0) s.pil.rowsUsed (ch * 48 + bank) + 1 ∧
       t.pil.rowsRetired.contains ((ch * 48 + bank) * 32768 + row) = true ∧
       t.pil.rowDue.contains ((ch * 48 + bank) * 32768 + row) = false ∧ t.mem.dram = s.mem.dram) ∧
   (∀ (s : State) (ch layer coil : Nat), ch < s.channels → 1 ≤ layer → layer ≤ 12 →
     spGet (fun _ => 0) s.pil.coilsUsed (ch * 12 + layer - 1) < 4 →
     ∃ t, exec (.coilLoss ch layer coil) s = .next t ∧
       spGet (fun _ => 0) t.pil.coilsUsed (ch * 12 + layer - 1) = spGet (fun _ => 0) s.pil.coilsUsed (ch * 12 + layer - 1) + 1 ∧
       spGet (fun _ => []) t.pil.coilMap (ch * 12 + layer - 1) = spGet (fun _ => []) s.pil.coilMap (ch * 12 + layer - 1) ++ [coil] ∧
       t.flt.fences = s.flt.fences ∧ t.mem.dram = s.mem.dram) ∧
   (∀ (s : State) (ch layer coil : Nat), ch < s.channels → 1 ≤ layer → layer ≤ 12 →
     4 ≤ spGet (fun _ => 0) s.pil.coilsUsed (ch * 12 + layer - 1) →
     ∃ t, exec (.coilLoss ch layer coil) s = .next t ∧ FUnit.channel ch ∈ t.flt.fences) ∧
   (∀ (s : State) (ch unit : Nat), ch < s.channels → unit ∈ [0, 1, 3] →
     ∃ t, exec (.coilLoss ch 0 unit) s = .next t ∧ FUnit.channel ch ∈ t.flt.fences) ∧
   (∀ (s : State) (p : Nat), p < s.piles → s.switching = none →
     ∃ t, exec (.pileFailed p) s = .next t ∧ (∀ c, c < 16 → FUnit.channel (16 * p + c) ∈ t.flt.fences) ∧
       t.rget (Fd.PIL_STAT_CH_FENCED p) = 0xFFFF))

/-- Links, routers and routes (R281, R286–R289). A replayed flit is counted at its link, and at a tower link in REPLAYS; the 16th CRC failure in 1 ms begins
a retrain; a request carried through the link's dual-clock queue is held there while the link is retrained and read at once otherwise. A retrain
ends with a failed lane of a tower network link on its spare, and a tower link beyond its spares narrower by the lane; a failed hub-link router
fences its tower, a failed quadrant router its Frond and channels; route tables are written from the links in service. Draining a Frond (R292). A
drain ends with the Frond in reset and nothing in its store buffer or arrays; one that outlasts its limit ends the same way. Regulation
(R297, R299, R302). In a resource cycle an instance grants a request of the lowest level waiting, counts it in its class, and in PNW_REG_STAT at level 0
or 5, and its pointer advances; a commit of a good table, with none pending, is pending until every instance has taken it; a table with
a reserved slot is refused; a latched commit is applied when the one in progress is taken. -/
def Obligations.Network : Prop :=
  ((∀ (s : State) (l : Nat) (req : Option CrossReq), s.towerUp (linkTower l) = true → s.rget Fd.FLT_INJ_CTL_ARM = 0 →
     (req.isSome = true → s.queueFull l = false) →
     let u := s.crcFailed l
     let v := if 40 ≤ l ∧ l < 44 then u.radd (Fd.PNW_LINK_STAT_REPLAYS (linkTower l)) 1 else u
     exec (.flitReplay l req) s = .next (v.crossing l req) ∧
     (15 ≤ s.linkCrc l → l ∈ u.pnw.retraining) ∧ (s.linkCrc l < 15 → u.pnw.retraining = s.pnw.retraining) ∧
     (∀ a, req = some a → 40 ≤ l → v.pnw.retraining.contains l = true →
       ((v.crossing l req).queue l).length = (s.queue l).length + 1 ∧ ((v.crossing l req).queue l).map (·.agent) = (s.queue l).map (·.agent) ++ [a.agent]) ∧
     (∀ a, req = some a → 40 ≤ l → v.pnw.retraining.contains l = false → (s.queue l).all (fun e => !secdedBad e.bad) = true →
       (v.crossing l req).queue l = [])) ∧
   (∀ (s : State) (l lane : Nat), l < 10 * s.towers → s.pnw.retraining.contains l = true → s.linkRetired (l / 10) (l % 10) = false →
     spGet (fun _ => 0) s.pnw.lanesBad l = 0 → s.queue l = [] →
     ∃ u, exec (.networkLinkRetrain l [lane]) s = .next u ∧ spGet (fun _ => 0) u.pnw.lanesBad l = 1 ∧ u.pnw.retraining.contains l = false ∧
       spGet (fun _ => []) u.pnw.laneMap l = spGet (fun _ => []) s.pnw.laneMap l ++ [lane] ∧
       ⟨[⟨3, l, false, 1 :: (spGet (fun _ => []) s.pnw.laneMap l ++ [lane]), 192⟩], .nobody⟩ ∈ u.ldg.queue ∧ u.flt.fences = s.flt.fences) ∧
   (∀ (s : State) (l : Nat), s.pnw.retraining.contains l = true → s.queue l = [] →
     ∃ u, exec (.networkLinkRetrain l []) s = .next u ∧ u.pnw.retraining.contains l = false ∧ u.linkCrc l = 0 ∧ u.flt.fences = s.flt.fences ∧
       u.regs = s.regs ∧ u.mem = s.mem) ∧
   (∀ (s : State) (t lane : Nat), t < s.towers → s.pnw.retraining.contains (40 + t) = true → spGet (fun _ => 0) s.pnw.lanesBad (40 + t) = 2 →
     s.rget (Fd.PNW_LINK_STAT_FENCED t) = 0 → s.queue (40 + t) = [] →
     ∃ u, exec (.networkLinkRetrain (40 + t) [lane]) s = .next u ∧ u.rget (Fd.PNW_LINK_STAT_LANES t) = 39 ∧ u.flt.fences = s.flt.fences) ∧
   (∀ (s : State) (t : Nat), s.towerUp t = true → s.fencedIn (.tower t) = false → s.switching = none →
     ∃ u, exec (.routerFailed t 4) s = .next u ∧ FUnit.tower t ∈ u.flt.fences ∧ u.rget (Fd.TWR_STAT_FENCE_REASON t) = 0x0606 ∧
       t * 5 + 4 ∈ u.pnw.routersBad) ∧
   (∀ (s : State) (t q : Nat), s.towerUp t = true → q < 4 → s.fencedIn (.frond (4 * t + q)) = false → s.switching = none →
     ∃ u, exec (.routerFailed t q) s = .next u ∧ FUnit.frond (4 * t + q) ∈ u.flt.fences ∧
       (∀ j, j < 8 → FUnit.channel (32 * t + 8 * q + j) ∈ u.flt.fences) ∧ t * 5 + q ∈ u.pnw.routersBad) ∧
   (∀ (s : State) (t i : Nat), s.towerUp t = true → i < 25 →
     ∃ u, exec (.routeTableWrite t) s = .next u ∧
       spGet (fun _ => 0) u.pnw.routes (t * 25 + i) = (match s.nextHop t (i / 5) (i % 5) with
         | some c => c + 1
         | none => 0) ∧ u.thl.distGen = s.thl.distGen + 2 ∧ u.mem = s.mem)) ∧
  ((∀ (s : State) (f : Nat), f < s.fronds → (s.fr f).stubFenced = true → (s.fr f).draining = true →
     ∃ t, exec (.frondDrain f) s = .next t ∧ (t.fr f).inReset = true ∧ (t.fr f).draining = false ∧ (t.fr f).sbuf = [] ∧
       ∀ a, a < 8 → (t.arr f a).queue = []) ∧
   (∀ (s : State) (f : Nat), f < s.fronds → (s.fr f).stubFenced = false → s.moving f = false →
     ∃ t, exec (.frondDrain f) s = .next t ∧ (t.fr f).inReset = true ∧ (t.fr f).draining = false ∧ (t.fr f).stubFenced = true ∧
       (t.fr f).sbuf = [] ∧ (t.fr f).heldAcc = [] ∧ ∀ a, a < 8 → (t.arr f a).queue = []) ∧
   (∀ (s : State) (f : Nat), (s.fr f).draining = true → (s.fr f).drainAt + 2500 ≤ s.clock →
     ∃ t, exec (.drainTimeout f) s = .next t ∧ (t.fr f).inReset = true ∧ (t.fr f).draining = false ∧ (t.fr f).sbuf = [] ∧
       ∀ a, a < 8 → (t.arr f a).queue = [])) ∧
  ((∀ (s : State) (k i : Nat) (reqs : List NetReq) (q : NetReq), k < 5 → i < s.instances k → s.grantWinner k i reqs = some q →
     let x := s.inst k i
     let lv := s.reqLevel k i q
     ∃ t, exec (.requestPromotion k i reqs) s = .next t ∧ q ∈ reqs ∧ (∀ r ∈ reqs, lv ≤ s.reqLevel k i r) ∧
       t.rget (Fd.PNW_REG_STAT_PROMOTED k) = min (2 ^ 32 - 1) (s.rget (Fd.PNW_REG_STAT_PROMOTED k) + (if lv = 0 then 1 else 0)) ∧
       t.rget (Fd.PNW_REG_STAT_BG_GRANTS k) = min (2 ^ 32 - 1) (s.rget (Fd.PNW_REG_STAT_BG_GRANTS k) + (if lv = 5 then 1 else 0)) ∧
       (x.slot = 63 → (t.inst k i).slot = 0 ∧ (t.inst k i).grants = [] ∧ (t.inst k i).promoted = false) ∧
       (x.slot ≠ 63 → (t.inst k i).slot = x.slot + 1 ∧ (t.inst k i).last = q.src ∧
         spGet (fun _ => 0) (t.inst k i).grants (classCode q.cls) = spGet (fun _ => 0) x.grants (classCode q.cls) + 1) ∧ t.mem = s.mem) ∧
   (∀ (s : State) (k i : Nat), k < 5 → i < s.instances k →
     exec (.requestPromotion k i []) s = .next (s.setInst k i (s.inst k i).next)) ∧
   (∀ (s : State) (k w : Nat), k < 5 → w < 4 → s.rget Fd.PNW_SLOT_CTL_LOCK = 0 → nbit (s.rget Fd.PNW_SLOT_CTL_PENDING) k = false →
     (∀ i, i < 4 → slotBad (s.rget (Fd.PNW_SLOT_SLOTS k i)) = false) →
     ∃ t, exec (.slotTableCommit (1 <<< k)) s = .next t ∧ nbit (t.rget Fd.PNW_SLOT_CTL_PENDING) k = true ∧
       spGet (fun _ => 0#64) t.pnw.slotsNew (k * 4 + w) = BitVec.ofNat 64 (s.rget (Fd.PNW_SLOT_SLOTS k w)) ∧ t.pnw.slots = s.pnw.slots ∧
       t.mem = s.mem) ∧
   (∀ (s : State) (k i : Nat), k < 5 → i < 4 → s.rget Fd.PNW_SLOT_CTL_LOCK = 0 → nbit (s.rget Fd.PNW_SLOT_CTL_PENDING) k = false →
     slotBad (s.rget (Fd.PNW_SLOT_SLOTS k i)) = true →
     ∃ t, exec (.slotTableCommit (1 <<< k)) s = .next t ∧ nbit (t.rget Fd.PNW_SLOT_CTL_REFUSED) k = true ∧ t.pnw = s.pnw) ∧
   (∀ (s : State) (bits : Nat), s.rget Fd.PNW_SLOT_CTL_LOCK = 1 → ∃ t, exec (.slotTableCommit bits) s = .next t ∧ t = s) ∧
   (∀ (s : State) (k w : Nat), k < 5 → w < 4 → nbit s.pnw.latched k = true → s.pnw.latched < 32 → nbit (s.rget Fd.PNW_SLOT_CTL_PENDING) k = true →
     (∀ i, i < 4 → slotBad (s.rget (Fd.PNW_SLOT_SLOTS k i)) = false) →
     ∃ t, exec (.slotTableLatchedCommit k) s = .next t ∧ nbit t.pnw.latched k = false ∧ nbit (t.rget Fd.PNW_SLOT_CTL_PENDING) k = true ∧
       spGet slotDefault t.pnw.slots (k * 4 + w) = spGet (fun _ => 0#64) s.pnw.slotsNew (k * 4 + w) ∧
       spGet (fun _ => 0#64) t.pnw.slotsNew (k * 4 + w) = BitVec.ofNat 64 (s.rget (Fd.PNW_SLOT_SLOTS k w))))

/-- Resets and losses of the host link (R312, R314, R319). A reset leaves no descriptor fetched or waiting to complete, every RNG_ register at its reset
value, no MSI-X word, no WAIT, the TDI unlocked and the fault ring disabled; memory and loaded images stay. A link that goes down shows no rate and no
width and is counted; down too long it fences and resets the port. An IDE failure fences the port and zeroes every key set. The host link trains
(R312, R313): it shows its rate and width, the port's fence ends, and vectors that waited unmasked are sent. The sideband (R319). A frame to the
module carries PERST#, one from it LINK_READY; a lost sideband counts as PERST# asserted, fences and resets the port; a gained lock ends that. -/
def Obligations.HostPort : Prop :=
  ((∀ (s : State), ∃ t, exec .hostPortReset s = .next t ∧ (∀ r, (t.ring r).fetched = [] ∧ (t.ring r).done = []) ∧
     (∀ off, 0x400000 ≤ off → off < 0x440000 → t.rword off = resetWord s.part.dramGib off) ∧ t.hpt.msix = [] ∧ t.sor.waits = [] ∧
     t.rget Fd.SEC_TDI_STATE = 0 ∧ t.rget Fd.FLT_RING_CTL_EN = 0 ∧ t.sec.ide = [] ∧ t.mem = s.mem ∧ t.hpt.images = s.hpt.images) ∧
   (∀ (s : State), s.hostUp = true → ∃ t, exec (.linkDown false) s = .next t ∧ t.hostUp = false ∧ t.rget Fd.HPT_LINK_STAT_RATE = 0 ∧
     t.rget Fd.HPT_LINK_STAT_WIDTH = 0 ∧ t.hpt.downSince = some s.clock ∧
     t.rget Fd.HPT_LINK_STAT_LINK_DOWNS = satAdd (2 ^ (Fd.HPT_LINK_STAT_LINK_DOWNS.hi + 1 - Fd.HPT_LINK_STAT_LINK_DOWNS.lo) - 1)
       (s.rget Fd.HPT_LINK_STAT_LINK_DOWNS) 1 ∧ s.SameRegs t (· = Fd.HPT_LINK_STAT_UP.off) ∧ t.mem = s.mem ∧ t.rng = s.rng) ∧
   (∀ (s : State), s.hostUp = false → s.hpt.downSince.isSome = true → ∃ t, exec (.linkDown true) s = .next t ∧
     hostPortFence ∈ t.flt.fences ∧ t.rget Fd.FLT_RING_CTL_EN = 0 ∧ ∀ r, (t.ring r).fetched = [] ∧ (t.ring r).done = []) ∧
   (∀ (s : State) (n : Nat), n < 6 → s.ideSecure n = true → ∃ t, exec (.ideIntegrity n) s = .next t ∧ hostPortFence ∈ t.flt.fences ∧
     t.hostUp = false ∧ t.sec.ide = [] ∧ n ∈ t.hpt.ideBad)) ∧
  (∀ (s : State) (rate width : Nat), s.perstOn = false → s.hostUp = false → (s.atNoon = true ∨ s.twilight = true) → (rate = 1 ∨ rate = 2) →
     (width = 4 ∨ width = 8 ∨ width = 16) →
     ∃ t, exec (.hostLinkUp rate width) s = .next t ∧ t.hostUp = true ∧ t.rget Fd.HPT_LINK_STAT_RATE = rate ∧
       t.rget Fd.HPT_LINK_STAT_WIDTH = width ∧ hostPortFence ∉ t.flt.fences ∧ t.hpt.downSince = none ∧
       (∀ v ∈ t.hpt.pba, t.msiMasked v = true) ∧ t.mem.dram = s.mem.dram ∧ t.rng = s.rng) ∧
  ((∀ (s : State) (p : Bool), s.rget Fd.HPT_LINK_STAT_SIDEBAND = 1 → (p = false ∨ s.hpt.perst = true) →
     ∃ t, exec (.sidebandFrame true p) s = .next t ∧ t = { s with hpt := { s.hpt with perst := p } }) ∧
   (∀ (s : State), s.rget Fd.HPT_LINK_STAT_SIDEBAND = 1 → s.hpt.perst = false →
     ∃ t, exec (.sidebandFrame true true) s = .next t ∧ t.hpt.perst = true ∧ ∀ r, (t.ring r).fetched = [] ∧ (t.ring r).done = []) ∧
   (∀ (s : State) (p : Bool), ∃ t, exec (.sidebandFrame false p) s = .next t ∧
     t = { s with hpt := { s.hpt with ready := s.atNoon || s.twilight } }) ∧
   (∀ (s : State), s.rget Fd.HPT_LINK_STAT_SIDEBAND = 1 → ∃ t, exec .sidebandLost s = .next t ∧
     t.rget Fd.HPT_LINK_STAT_SIDEBAND = 0 ∧ t.perstOn = true ∧ hostPortFence ∈ t.flt.fences) ∧
   (∀ (s : State), ∃ t, exec .sidebandLockGained s = .next t ∧
     t = ({ s with hpt := { s.hpt with sbLost := false } } : State).rset Fd.HPT_LINK_STAT_SIDEBAND 1))

/-- ATS and exposed memory (R308, R311, R352). An invalidation drops the cached translations of its pages and is counted; a legal decoder commit within
the limits is in force; a read of exposed memory answers the 64 bytes at the decoded address, a write is performed there; with the TDI in ERROR a read answers poison and a
write changes no memory. -/
def Obligations.ExposedMemory : Prop :=
  (∀ (s : State) (addr len how : Nat), ∃ t, exec (.atsInvalidation addr len how) s = .next t ∧ (∀ p ∈ hostPages addr len, p ∉ t.hpt.ats) ∧
    (∀ p ∈ hostPages addr len, (how = 1 ↔ p ∈ t.hpt.atsRefused) ∧ (how = 2 ↔ p ∈ t.hpt.hostErr)) ∧ t.mem = s.mem) ∧
  (∀ (s : State) (n base size ways gran : Nat), n < 2 → s.tdiLocked = false → [1, 2, 4, 8].contains ways = true →
    [256, 512, 1024, 2048, 4096, 8192, 16384].contains gran = true → size / ways + (s.hdm (1 - n)).span ≤ 64 * 2 ^ 30 →
    s.hdmBase + (size / ways + (s.hdm (1 - n)).span) ≤ s.part.dramGib * 2 ^ 30 →
    ∃ t, exec (.hdmDecoderCommit n base size ways gran true) s = .next t ∧ t.hdm n = ⟨true, false, base, size, ways, gran⟩ ∧
      t.hdm (1 - n) = s.hdm (1 - n) ∧ t.regs = s.regs ∧ t.mem = s.mem) ∧
  (∀ (s u : State) (hpa d : Nat) (bytes l : List Byte), s.hostUp = true → s.twilight = false → bytes.length = 64 → hpa % 64 = 0 → s.tdi ≠ 3 →
    s.hdmDecode hpa = some d → s.rdHeld (s.hdmBase + d) 64 = false → s.read (s.hdmBase + d) 64 = (u, .ok l) →
    ∃ t, exec (.cxlMemAccess hpa false bytes) s = .next t ∧ t = { u with hpt := { u.hpt with memAnswer := some l } }) ∧
  (∀ (s u : State) (hpa d : Nat) (bytes : List Byte), s.hostUp = true → s.twilight = false → bytes.length = 64 → hpa % 64 = 0 → s.tdi ≠ 3 →
    s.hdmDecode hpa = some d → s.wrHeld (s.hdmBase + d) 64 = false → s.write (s.hdmBase + d) bytes = (u, none) →
    ∃ t, exec (.cxlMemAccess hpa true bytes) s = .next t ∧ t = u) ∧
  (∀ (s : State) (hpa : Nat) (wr : Bool) (bytes : List Byte), s.hostUp = true → s.twilight = false → bytes.length = 64 → hpa % 64 = 0 → s.tdi = 3 →
    ∃ t, exec (.cxlMemAccess hpa wr bytes) s = .next t ∧ t.mem = s.mem ∧ (wr = false → t.hpt.memAnswer = none))

/-- Enabling and disabling rings (R326–R328). A disabled ring whose checks hold is enabled with its pointers at 0 and nothing fetched; one whose checks
fail shows the error code; disabling completes what was fetched with status 0x82; a disabling ring with nothing left is disabled. Doorbells
(R330–R332). A tail no more than a ring ahead of the head is taken, after the descriptors it covers are in host memory; a completion head between the
old one and the tail is taken; nothing else changes. -/
def Obligations.RingControl : Prop :=
  ((∀ (s : State) (r : Nat), s.ringWriteOff r = none → s.ringState r = 0 → (s.rset (Fd.RNG_CTL_ENABLE r) 1).ringOk r = true →
     ∃ t, exec (.ringEnable r) s = .next t ∧ t.ringState r = 1 ∧ t.rget (Fd.RNG_CTL_ENABLE r) = 1 ∧ t.rget (Fd.RNG_STAT_SQ_HEAD r) = 0 ∧
       t.rget (Fd.RNG_STAT_SQ_TAIL r) = 0 ∧ t.rget (Fd.RNG_CSTAT_CQ_HEAD r) = 0 ∧ t.rget (Fd.RNG_CSTAT_CQ_TAIL r) = 0 ∧
       (t.ring r).fetched = [] ∧ (t.ring r).done = [] ∧ t.mem = s.mem) ∧
   (∀ (s : State) (r : Nat), s.ringWriteOff r = none → s.ringState r = 0 → (s.rset (Fd.RNG_CTL_ENABLE r) 1).ringOk r = false →
     ∃ t, exec (.ringEnable r) s = .next t ∧ t.ringState r = 0 ∧ t.rget (Fd.RNG_CTL_ERR r) = 0x09 ∧ t.rng = s.rng) ∧
   (∀ (s : State) (r : Nat), s.ringWriteOff r = none → s.ringState r = 1 → s.sor.waits = [] →
     ∃ t, exec (.ringDisable r) s = .next t ∧ t.ringState r = 2 ∧ t.rget (Fd.RNG_CTL_ENABLE r) = 0 ∧ (t.ring r).fetched = [] ∧
       (t.ring r).started = (s.ring r).started ∧ (t.ring r).done = (s.ring r).done ++ (s.ring r).fetched.map (fun p =>
         ⟨p.1, p.2.f 0 63 32, 0x82, 0, 0, 0, p.2.f 0 17 17 == 1, false⟩) ∧ t.mem = s.mem) ∧
   (∀ (s : State) (r : Nat), s.ringState r = 2 → (s.ring r).started = [] → (s.ring r).done = [] → s.rget (Fd.RNG_CTL_PEND r) = 0 →
     ∃ t, exec (.ringDisableDone r) s = .next t ∧ t = s.rset (Fd.RNG_CTL_STATE r) 0)) ∧
  ((∀ (s : State) (r v : Nat) (image : List (Nat × List Byte)), r < 1024 → s.twilight = false → s.ringState r = 1 →
     sub32 (v % 2 ^ 32) (s.rget (Fd.RNG_STAT_SQ_TAIL r)) < 2 ^ 31 → sub32 (v % 2 ^ 32) (s.rget (Fd.RNG_STAT_SQ_HEAD r)) ≤ s.ringN r →
     ∃ t, exec (.sqTail r 4 v image) s = .next t ∧
       t = (image.foldl (fun s p => s.hostStore p.1 p.2) s).rset (Fd.RNG_STAT_SQ_TAIL r) (v % 2 ^ 32)) ∧
   (∀ (s : State) (r v : Nat), r < 1024 → s.twilight = false → s.ringState r ≠ 0 →
     sub32 (s.rget (Fd.RNG_CSTAT_CQ_TAIL r)) (v % 2 ^ 32) ≤ s.ringN r → sub32 (v % 2 ^ 32) (s.rget (Fd.RNG_CSTAT_CQ_HEAD r)) < 2 ^ 31 →
     ∃ t, exec (.cqHead r 4 v) s = .next t ∧ t = s.rset (Fd.RNG_CSTAT_CQ_HEAD r) (v % 2 ^ 32)))

/-- Fetching and starting descriptors (R333, R334, R337). A command processor reads at most 8 descriptors of the next ring in turn, none past the tail or
round the ring's end, and moves SQ_HEAD past them; the oldest fetched one starts where nothing holds it; a malformed one completes with 0x81, one whose class the ring may not use
with 0x80; from the start of an IMAGE_UNLOAD its image takes no launch. -/
def Obligations.DescriptorFlow : Prop :=
  (∀ (s : State) (cp r : Nat) (l : List Byte),
    let head := s.rget (Fd.RNG_STAT_SQ_HEAD r)
    let n := min 8 (min (sub32 (s.rget (Fd.RNG_STAT_SQ_TAIL r)) head) (s.ringN r - head % s.ringN r))
    s.hostUp = true → s.nextRing cp = some r → s.hostRead (s.rget (Fd.RNG_SQ_BASE_BASE r) * 4096 + (head % s.ringN r) * 64) (64 * n) = .ok l →
    ∃ t, exec (.descriptorFetch cp) s = .next t ∧ t.rget (Fd.RNG_STAT_SQ_HEAD r) = (head + n) % 2 ^ 32 ∧
      (t.ring r).fetched = (s.ring r).fetched ++ (List.range n).map (fun i =>
        ((s.ring r).epoch * 2 ^ 32 + (head + i) % 2 ^ 32, Desc.ofBytes (slice l (64 * i) 64))) ∧
      (t.ring r).started = (s.ring r).started ∧ s.SameRegs t (· = (Fd.RNG_STAT_SQ_HEAD r).off) ∧ t.mem = s.mem) ∧
  (∀ (s : State) (r i : Nat) (d : Desc) (rest : List (Nat × Desc)),
    let free := (s.ring r).started.length + (s.ring r).done.length + sub32 (s.rget (Fd.RNG_CSTAT_CQ_TAIL r)) (s.rget (Fd.RNG_CSTAT_CQ_HEAD r))
    let u := s.setRing r { s.ring r with fetched := rest, started := (s.ring r).started ++ [⟨i, d, false, 0, 0, 0, 0, s.schedMask⟩] }
    (s.ring r).fetched = (i, d) :: rest → s.ringState r = 1 → (s.ring r).fenced = false →
    (d.f 0 18 18 = 0 ∨ (s.ring r).started = []) → (d.cls ≠ 0 ∨ d.op ≠ 1 ∨ (s.ring r).started = []) → free < s.ringN r →
    (s.ring r).started.length < 64 → s.cpLoad (s.rget (Fd.RNG_CTL_CP r)) < 4096 → s.rget Fd.HUB_CONN_STAT_RM_PHASE = 0 →
    ∃ t, exec (.descriptorStart r) s = .next t ∧
      (d.wellFormed = true → (d.cls = 7 → s.rget (Fd.RNG_CTL_PRIV r) = 1) → s.accepts d = true → t = u.startEffect r i d) ∧
      (d.wellFormed = true → d.cls = 7 → s.rget (Fd.RNG_CTL_PRIV r) = 0 → u.Completes t r i 0x80 0x0806 0) ∧
      (d.wellFormed = false → u.Completes t r i 0x81 0x0801 0)) ∧
  (∀ (s : State) (r i : Nat) (d : Desc), (¬(d.cls = 1 ∧ d.op = 2) → s.startEffect r i d = s) ∧
    (d.cls = 1 → d.op = 2 → ∀ m ∈ (s.startEffect r i d).hpt.images, m.handle = d.f 1 7 0 → m.asid = s.ringAsid r → m.unload.isSome = true))

/-- Completions and interrupts (R343–R347). An entry that the ring has room for is written to its place in the completion ring, CQ_TAIL moves on, and the
32 bytes are the only ones of host memory to change; a success without CMPL writes nothing; the timer raises the ring's vector and starts counting
anew. -/
def Obligations.CompletionWrite : Prop :=
  (∀ (s : State) (r : Nat) (c : Compl) (rest : List Compl),
    let tail := s.rget (Fd.RNG_CSTAT_CQ_TAIL r)
    let addr := s.rget (Fd.RNG_CQ_BASE_BASE r) * 4096 + (tail % s.ringN r) * 32
    (s.ring r).done = c :: rest → (c.status ≠ 0 ∨ c.cmpl = true) → s.hostUp = true → sub32 tail (s.rget (Fd.RNG_CSTAT_CQ_HEAD r)) < s.ringN r →
    s.hostFail addr 32 = none →
    ∃ t, exec (.completionWrite r) s = .next t ∧ (t.ring r).done = rest ∧ t.rget (Fd.RNG_CSTAT_CQ_TAIL r) = (tail + 1) % 2 ^ 32 ∧
      (∀ i, i < 32 → memGet t.mem.host (addr + i) = (c.bytes tail (s.ringLog r) s.clock).getD i 0#8) ∧
      (∀ a, (a < addr ∨ addr + 32 ≤ a) → memGet t.mem.host a = memGet s.mem.host a) ∧
      t.mem.dram = s.mem.dram ∧ t.mem.thl = s.mem.thl ∧ t.mem.ls = s.mem.ls) ∧
  (∀ (s : State) (r : Nat) (c : Compl) (rest : List Compl), (s.ring r).done = c :: rest → c.status = 0 → c.cmpl = false →
    ∃ t, exec (.completionWrite r) s = .next t ∧ (t.ring r).done = rest ∧ t.mem = s.mem ∧
      t.rget (Fd.RNG_CSTAT_CQ_TAIL r) = s.rget (Fd.RNG_CSTAT_CQ_TAIL r)) ∧
  (∀ (s : State) (r c : Nat), (s.ring r).pendAt = some c → s.rget (Fd.RNG_IRQ_IRQ_EN r) = 1 →
    25 * s.rget (Fd.RNG_IRQ_TIME_US r) ≤ s.clock - c → s.hostUp = true → s.msiMasked (s.rget (Fd.RNG_IRQ_VECTOR r)) = false →
    ∃ t, exec (.ringIrqTimer r) s = .next t ∧ t.hpt.sent = s.rget (Fd.RNG_IRQ_VECTOR r) :: s.hpt.sent ∧ (t.ring r).pendCnt = 0 ∧
      (t.ring r).pendAt = none ∧ t.regs = s.regs ∧ t.mem = s.mem)

/-- Descriptors of classes 0x0 and 0x1 (R124, R338–R340, R349–R351). NOP and FENCE complete; XLAT_INV first performs every buffered
store, then drops the translations it names, and of everything it empties what the Fronds cached; a LAUNCH on one Frond whose ENTRY lies in a loaded image places its record there; a good image is loaded under the lowest free handle;
an image no kernel uses is unloaded. COPY and FILL of a ring (R341): the command goes to the ring channel with the fewest commands of the Frond named,
at the end of its queue. -/
def Obligations.ControlDescriptors : Prop :=
  ((∀ (s : State) (r i op : Nat) (d : Desc) (c : Instr), (c, op) ∈ [(Instr.nop r i, 0), (.fence r i, 1)] → s.opOf r i 0 op = some d →
     ∃ t, exec c s = .next t ∧ s.Completes t r i 0 0 0 ∧ t.mem = s.mem) ∧
   (∀ (s : State) (r i : Nat) (d : Desc),
     let v := (List.range s.fronds).foldl (fun s f => s.sbDrain f) s
     let w := v.xlatInv (d.f 1 12 12 == 1) (d.f 1 13 13 == 1) (d.f 1 11 0) (alignDown (d.f 2 47 0) 65536) (alignUp (d.f 2 47 0 + d.f 3 47 0) 65536)
     s.opOf r i 0 2 = some d → (List.range s.fronds).any s.sbHeld = false → v.opOf r i 0 2 = some d →
     ∃ t, exec (.xlatInv r i) s = .next t ∧ v.Completes t r i 0 0 0 ∧ t.mem = v.mem ∧ t.frd = w.frd ∧
       (d.f 1 12 12 = 1 → d.f 1 13 13 = 1 → ∀ f, f < s.fronds → (t.fr f).tlb = [] ∧ (t.fr f).walk = [] ∧ (t.fr f).asp = [])) ∧
   (∀ (s : State) (r i f : Nat) (d : Desc) (st : Started) (m : Image),
     let l := { d.launch (s.ringAsid r) (s.ringTenant r) r i with image := m.handle }
     s.opOf r i 1 0 = some d → (s.ring r).find i = some st → d.f 1 16 16 = 0 → bitsOf 16 (d.f 1 15 0) = [f] → s.frondUp f = true →
     s.launchRoom f = true → s.imageAt l.asid l.entry = some m → s.rget (Fd.FRD_ASPACE_BASE_EN f) = 1 → s.launchBad f l = false → s.awake f = true →
     ∃ t, exec (.launch r i) s = .next t ∧ (t.fr f).lq = (s.fr f).lq ++ [l] ∧ t.mem = s.mem ∧ t.regs = s.regs ∧
       ∃ x, (t.ring r).find i = some x ∧ x.ran = true ∧ x.running = 2 ^ f) ∧
   (∀ (s : State) (r i n crc k : Nat) (d : Desc) (h code : List Byte),
     let u := s.execRead (s.ringAsid r) (s.ringTenant r) (d.f 1 47 0) 64
     let v := u.1.execRead (s.ringAsid r) (s.ringTenant r) (d.f 1 47 0 + 64) n
     s.opOf r i 1 1 = some d → u.2 = some h → imageHeader h = some (n, crc) → u.1.ringAsid r = s.ringAsid r → u.1.ringTenant r = s.ringTenant r →
     v.2 = some code → crc32 code = crc → v.1.ringAsid r = s.ringAsid r → v.1.waited = false →
     v.1.hpt.images.any (fun m => m.asid == s.ringAsid r && decide (m.va < d.f 1 47 0 + n) && decide (d.f 1 47 0 < m.va + m.len)) = false →
     (List.range 256).find? (fun k => !v.1.hpt.images.any (fun m => m.handle == k)) = some k →
     ∃ t, exec (.imageLoad r i) s = .next t ∧ t.hpt.images = ⟨k, s.ringAsid r, d.f 1 47 0, n, none⟩ :: v.1.hpt.images ∧ t.mem = v.1.mem ∧
       ∀ f, f < s.fronds → (t.fr f).icache = []) ∧
   (∀ (s : State) (r i k : Nat) (st : Started) (m : Image), (s.ring r).find i = some st → st.d.cls = 1 → st.d.op = 2 → st.d.f 1 7 0 = k →
     s.hpt.images.find? (fun x => x.handle == k && x.asid == s.ringAsid r && (x.unload.isNone || x.unload == some (r, i))) = some m →
     s.imageUsed k = false →
     ∃ t, exec (.imageUnload r i) s = .next t ∧ s.Completes t r i 0 0 0 ∧ (∀ x ∈ t.hpt.images, x.handle ≠ k) ∧ t.mem = s.mem)) ∧
  (∀ (s : State) (r i op c : Nat) (d : Desc) (x : Instr), (x, op) ∈ [(Instr.ringCopy r i, 1), (.ringFill r i, 2)] →
     s.opOf r i 3 op = some d → s.frondUp (d.f 1 3 0) = true → s.waited = false →
     (d.f 1 10 10 = 0 ∨ (reduceReserved (d.f 1 17 14) (d.f 1 19 18) = false ∧ s.dstInDram (s.ringAsid r) (s.ringTenant r) (d.f 3 47 0) (d.f 4 31 0) = true)) → s.ringChannel (d.f 1 3 0) = some c →
     (s.dma (d.f 1 3 0) c).queue.length < 16 → s.awake (d.f 1 3 0) = true →
     ∃ t, exec x s = .next t ∧
       (t.dma (d.f 1 3 0) c).queue = (s.dma (d.f 1 3 0) c).queue ++ [d.dmaCmd (s.ringAsid r) (s.ringTenant r) r i] ∧
       t.mem = s.mem ∧ t.regs = s.regs ∧ ∃ st, (t.ring r).find i = some st ∧ st.ran = true)

/-- OPEN, CLOSE, TRUNCATE and QUERY (R357, R364, R368–R371). OPEN in a FREE slot takes a fresh key and a directory page and completes with the slot; CLOSE
returns every page and leaves the slot FREE; TRUNCATE keeps the tokens it names; QUERY answers the fields of the slot,
and a slot whose record is in error becomes LOST, keeping its binding while the copy reads. An operation on a slot in a
state that refuses it completes with the status of Table 11-2; one that must wait is latched once (R357, R358, R359). Latched operations and
interrupted sequences (R357, R387). A latched operation whose slot's state lets it start starts; a verified image running again ends the engine's
fence and starts an interrupted PARK again from RESIDENT. -/
def Obligations.SessionSlots : Prop :=
  ((∀ (s u v : State) (r i x page : Nat) (d : Desc) (key : List Byte),
     let k := d.f 1 22 17
     s.opOf r i 2 0 = some d → s.sesUp = true → s.secSwitching = false →
     ((d.f 1 16 16 = 1 ∧ s.freeSlot = some x) ∨
       (d.f 1 16 16 = 0 ∧ x = d.f 1 15 0 ∧ (s.slot x).st = .free ∧ (s.slot x).recBad = false ∧ (s.slot x).pend = none)) →
     s.tenantErasing (s.ringTenant r) = false → (s.pool k).valid = true → (s.pool k).tenant = s.ringTenant r → (s.pool k).asid = s.ringAsid r →
     s.newKey = some (u, key) → u.popPage k = (v, .ok page) → v.waited = false →
     ∃ t, exec (.openSession r i 0) s = .next t ∧ t.slot x = { Slot.init with
         st := .resident, bound := true, tenant := v.ringTenant r, asid := v.ringAsid r, pool := k, layersM1 := d.f 1 31 24, tb := d.f 1 36 32,
         dir := page, key := some key, pend := (v.slot x).pend } ∧ s.Completes t r i 0 0 x) ∧
   (∀ (s : State) (r i : Nat) (d : Desc),
     let x := d.f 1 15 0
     let v := (s.modSlot x (fun q => { q with key := none })).returnAll x
     s.opOf r i 2 1 = some d → s.sesUp = true → (s.slot x).st = .resident → (s.slot x).recBad = false → s.boundOk x r 1 = true →
     (s.slot x).pend = none → v.1.waited = false →
     ∃ t, exec (.close r i 0) s = .next t ∧ t.slot x = { Slot.init with pend := (s.slot x).pend } ∧ s.Completes t r i 0 0 v.2.1) ∧
   (∀ (s : State) (r i : Nat) (d : Desc),
     let x := d.f 1 15 0
     let q := s.slot x
     let n := d.f 2 23 0
     let v := s.returnPages x (q.entries n) (q.entries q.tokens) (listsOf (q.entries n)) (listsOf (q.entries q.tokens)) false
     s.opOf r i 2 5 = some d → s.sesUp = true → q.st = .resident → q.recBad = false → s.boundOk x r 5 = true → n ≤ q.tokens → v.2.2 = true → q.pend = none →
     v.1.waited = false →
     ∃ t, exec (.truncate r i) s = .next t ∧ t.slot x = { q with tokens := n } ∧ s.Completes t r i 0 0 v.2.1) ∧
   (∀ (s : State) (r i : Nat) (d : Desc), s.opOf r i 2 6 = some d → s.sesUp = true → (s.slot (d.f 1 15 0)).recBad = false → s.waited = false →
     s.boundOk (d.f 1 15 0) r 6 = true →
     ∃ t, exec (.query r i 0) s = .next t ∧ s.Completes t r i 0 0 (s.queryResult (d.f 1 15 0)) ∧ t.ses = s.ses ∧ t.mem = s.mem) ∧
   (∀ (s : State) (r i upset : Nat) (d : Desc),
     let x := d.f 1 15 0
     s.opOf r i 2 6 = some d → s.sesUp = true → s.waited = false → upset ≠ 0 → (s.slot x).st ≠ .lost →
     ∃ t, exec (.query r i upset) s = .next t ∧ (t.slot x).st = .lost ∧
       (t.slot x).bound = ((s.slot x).bound && !((s.slot x).copyBad || upset == 2)))) ∧
  (∀ (s : State) (r i op : Nat) (d : Desc) (c : Instr), (c, op) ∈ [(Instr.close r i 0, 1), (.park r i, 3), (.resume r i, 4), (.truncate r i, 5)] →
     let x := d.f 1 15 0
     s.opOf r i 2 op = some d → s.sesUp = true → (s.slot x).recBad = false → s.waited = false →
     (s.boundOk x r op = false → ∃ t, exec c s = .next t ∧ s.Completes t r i 1 0 0 ∧ t.ses = s.ses) ∧
     (s.boundOk x r op = true → ∀ code, slotTable (s.slot x).st op = .refuse code →
       ∃ t, exec c s = .next t ∧ s.Completes t r i code 0 0 ∧ t.ses = s.ses) ∧
     (s.boundOk x r op = true → slotTable (s.slot x).st op = .latch → (s.slot x).pend = none →
       ∃ t, exec c s = .next t ∧ t.slot x = { s.slot x with pend := some (r, i) } ∧ (t.ring r).done = (s.ring r).done ∧
         ∀ st, (s.ring r).find i = some st → (t.ring r).find i = some { st with ran := true }) ∧
     (s.boundOk x r op = true → slotTable (s.slot x).st op = .latch → (s.slot x).pend.isSome = true →
       ∃ t, exec c s = .next t ∧ s.Completes t r i 8 0 0 ∧ t.ses = s.ses)) ∧
  ((∀ (s : State) (x r i : Nat) (st : Started),
     let u := (s.modSlot x (fun q => { q with pend := none })).slotGo x r i st.d.op st.d
     (s.slot x).pend = some (r, i) → (s.ring r).find i = some st → s.sesUp = true → (s.slot x).recBad = false →
     slotTable (s.slot x).st st.d.op = .start → u.waited = false →
     ∃ t, exec (.slotLatchedStart x) s = .next t ∧ t = u) ∧
   (∀ (s : State) (x r i c : Nat) (st : Started), (s.slot x).pend = some (r, i) → (s.ring r).find i = some st → s.sesUp = true →
     (s.slot x).recBad = false → slotTable (s.slot x).st st.d.op = .refuse c → s.waited = false →
     ∃ t, exec (.slotLatchedStart x) s = .next t ∧ s.Completes t r i c 0 0 ∧ t.slot x = { s.slot x with pend := none }) ∧
   (∀ (s : State), s.sesUp = true → s.ses.stopped = [] → s.waited = false →
     ∃ t, exec .sessionSequenceRestart s = .next t ∧
       t = ({ s with ses := { s.ses with stopped := [], downSaid := false } } : State).dropFence (.engine (sesLoc 4 0xFFFF))) ∧
   (∀ (s : State) (x r i : Nat) (st : Started),
     let u := ({ s with ses := { s.ses with stopped := [], downSaid := false } } : State).dropFence (.engine (sesLoc 4 0xFFFF))
     s.sesUp = true → s.ses.stopped = [x] → (s.slot x).seq = some (r, i) → (s.ring r).find i = some st → (s.slot x).st = .parking →
     s.hostUp = true → ((u.modSlot x (fun q => { q with st := .resident })).parkGo x r i st.d).waited = false →
     ∃ t, exec .sessionSequenceRestart s = .next t ∧ t = (u.modSlot x (fun q => { q with st := .resident })).parkGo x r i st.d))

/-- PARK and RESUME (R380–R383). Once the image is written PARK asks for the ledger record and the slot is PARKING; once an image that authenticates is
read back into fresh pages RESUME asks for the record's removal and the slot is RESUMING. -/
def Obligations.ParkAndResume : Prop :=
  (∀ (s v w : State) (r i : Nat) (d : Desc),
    let x := d.f 1 15 0
    let q := s.slot x
    let np := q.entries q.tokens
    let h := (s.hold x r i).modSlot x (fun q => { q with st := .parking, parkCount := (q.parkCount + 1) % 2 ^ 32, image := imageSize np })
    let key := q.key.getD []
    let hdr := (h.slot x).hdr x
    s.opOf r i 2 3 = some d → s.sesUp = true → q.st = .resident → q.recBad = false → s.boundOk x r 3 = true → q.pend = none → s.hostUp = true → w.waited = false →
    imageSize np ≤ d.f 3 63 0 →
    (s.tenantKey q.tenant).isSome = true → h.parkPages x (d.f 2 63 0) key hdr (List.range np) = (v, none) →
    v.hostWrite (d.f 2 63 0) (hdr ++ gcmTag key (leBytes 4 (v.slot x).parkCount ++ leBytes 4 0xFFFFFFFF ++ leBytes 4 0) hdr []) = (w, none) →
    ∃ t, exec (.park r i) s = .next t ∧ t.ldg.queue = w.ldg.queue ++ [⟨w.parkWrites x, .slot x⟩] ∧ (t.slot x).st = .parking ∧
      (t.slot x).seq = some (r, i) ∧ (t.slot x).parkCount = (q.parkCount + 1) % 2 ^ 32 ∧ t.mem = w.mem) ∧
  (∀ (s v w y : State) (r i dir : Nat) (d : Desc) (h : List Byte) (rs : List Resv),
    let x := d.f 1 15 0
    let q := s.slot x
    let np := q.entries q.tokens
    let key := q.key.getD []
    let p := s.pool q.pool
    s.opOf r i 2 4 = some d → s.sesUp = true → q.st = .parked → q.recBad = false → s.boundOk x r 4 = true → q.pend = none → s.hostUp = true → y.waited = false →
    s.tenantErasing q.tenant = false →
    (s.tenantKey q.tenant).isSome = true → s.hostRead (d.f 2 63 0) 0x80 = .ok h →
    gcmTag key (slice h 0x0C 4 ++ leBytes 4 0xFFFFFFFF ++ leBytes 4 0) (h.take 0x70) [] = h.drop 0x70 → h.take 0x18 = (q.hdr x).take 0x18 →
    p.valid = true → p.tenant = q.tenant → p.asid = q.asid → np + listsOf np + 1 ≤ p.free →
    ((s.hold x r i).modSlot x (fun q => { q with st := .resuming })).popPage q.pool = (v, .ok dir) →
    State.grow x np 0 (v.modSlot x (fun q => { q with dir := dir })) [] = (w, rs, none) →
    w.resumePages x (d.f 2 63 0) key (h.take 0x70) (List.range np) = (y, .ok true) →
    ∃ t, exec (.resume r i) s = .next t ∧ t.ldg.queue = y.ldg.queue ++ [⟨[⟨0x0E, x, true, [], 0⟩], .slot x⟩] ∧ (t.slot x).st = .resuming ∧
      (t.slot x).dir = dir ∧ (t.slot x).seq = some (r, i) ∧ t.mem = y.mem)

/-- Pools (R361–R363). A pool is created on a mapped arena with its free stack in the arena's first pages; a pool no slot uses is destroyed. -/
def Obligations.PoolOperations : Prop :=
  (∀ (s u : State) (r i root : Nat) (d : Desc),
    let n := d.f 3 23 0
    let free := n - ceilDiv (n * 4) 65536
    s.opOf r i 7 2 = some d → s.sesUp = true → (s.pool (d.f 1 5 0)).valid = false → s.rget (Fd.FRD_ASPACE_BASE_EN 0) = 1 →
    s.aspRead (s.rget (Fd.FRD_ASPACE_BASE_BASE 0)) (d.f 1 27 16) = .ok (some (root, d.f 1 37 28)) →
    s.arenaMapped (d.f 1 27 16) (d.f 1 37 28) (d.f 2 47 0) n = true →
    s.vwrite none 0 (d.f 1 27 16) (d.f 1 37 28) (d.f 2 47 0) ((List.range free).flatMap (fun j => leBytes 4 (n - 1 - j))) = (u, none) → u.waited = false →
    ∃ t, exec (.poolCreate r i) s = .next t ∧ t.pool (d.f 1 5 0) = ⟨true, d.f 1 37 28, d.f 1 27 16, d.f 2 47 0, n, free⟩ ∧ t.mem = u.mem ∧
      s.Completes t r i 0 0 0) ∧
  (∀ (s : State) (r i : Nat) (d : Desc), s.opOf r i 7 3 = some d → s.sesUp = true → s.waited = false → (s.pool (d.f 1 5 0)).valid = true →
    (∀ p ∈ s.ses.slots, p.2.pool = d.f 1 5 0 → p.2.st = .free ∨ p.2.st = .parked) →
    ∃ t, exec (.poolDestroy r i) s = .next t ∧ t.pool (d.f 1 5 0) = Pool.init ∧ (∀ k, k ≠ d.f 1 5 0 → t.pool k = s.pool k) ∧
      s.Completes t r i 0 0 0 ∧ t.mem = s.mem)

/-- A step begins (R372–R374): with its batch and its plan read, the sessions admitted, their pages reserved and the statuses written, it holds the lowest
free step handle with the next step number. The plan of a step (R375–R377). Its next entry that is a LAUNCH places one record for each Frond it names;
its next entry that is a GATHER writes the gather list. Ends of a step (R378, R379). When every entry is complete each admitted session has advanced
and is RESIDENT again and the descriptor completes; a failed step whose entries have ended completes with 0x80 and its reason, its sessions unchanged. -/
def Obligations.SessionSteps : Prop :=
  (∀ (s u v w y : State) (r i h : Nat) (d : Desc) (st : Started) (bl pl : List Byte) (a : AdmitAcc) (plan : List PlanE),
     let n := d.f 1 13 0 + 1
     let m := d.f 1 63 52 + 1
     let adv := d.f 1 31 20
     let ids := (List.range n).map (fun j => leNat (slice bl (2 * j) 2))
     let gl := ((planOf pl m).filter (fun p => p.kind == 2)).map PlanE.layer
     s.opOf r i 2 2 = some d → (s.ring r).find i = some st → s.sesUp = true → (∃ k, k < 16 ∧ s.step_ k = none) →
     s.vread none 0 (s.ringAsid r) (s.ringTenant r) (d.f 2 47 0) (2 * n) = (u, .ok bl) →
     u.vread none 0 (s.ringAsid r) (s.ringTenant r) (d.f 4 47 0) (32 * m) = (v, .ok pl) → (planOf pl m).all PlanE.ok = true →
     (List.range ids.length).foldl (State.admitOne r adv (gl.foldl (fun k l => some (max (k.getD 0) l)) none) ids) (v, ⟨[], [], [], none⟩) = (w, a) →
     a.fail = none → (d.f 1 16 16 = 0 ∨ a.adm.length = ids.length) → a.adm ≠ [] →
     w.vwrite none 0 (w.ringAsid r) (w.ringTenant r) (d.f 3 47 0) (a.codes.map (BitVec.ofNat 8)) = (y, none) →
     y.gatherSize a.adm adv ≤ d.f 7 31 0 → planFronds (d.f 1 17 17 == 1) st.sched (planOf pl m) = some plan →
     (List.range 16).find? (fun h => (y.step_ h).isNone) = some h → y.waited = false →
     ∃ t, exec (.step r i) s = .next t ∧ t.ses.stepSeq = (y.ses.stepSeq + 1) % 2 ^ 32 ∧
       t.step_ h = some ⟨r, i, (y.ses.stepSeq + 1) % 2 ^ 32, a.adm, ids.length - a.adm.length, a.resv, plan, adv, d.f 1 18 18 == 1, d.f 1 17 17 == 1,
         d.f 5 47 0, d.f 6 47 0, none, none⟩ ∧ t.ses.slots = y.ses.slots ∧ t.mem = y.mem) ∧
  ((∀ (s : State) (h e f : Nat) (q : StepRec) (p : PlanE) (m : Image),
     let l := { p.launch (s.ringAsid q.ring) (s.ringTenant q.ring) q.gbuf0 h e with image := m.handle }
     s.step_ h = some q → q.next = some (e, p) → p.kind = 1 → bitsOf 16 p.fronds = [f] → s.sesUp = true → s.frondUp f = true →
     s.launchRoom f = true → s.imageAt l.asid l.entry = some m → s.rget (Fd.FRD_ASPACE_BASE_EN f) = 1 → s.launchBad f l = false →
     s.awake f = true → s.waited = false →
     ∃ t, exec (.planLaunch h) s = .next t ∧ (t.fr f).lq = (s.fr f).lq ++ [l] ∧
       t.step_ h = some { q with plan := modAt (fun p => { p with phase := 1, running := ofBits [f] }) q.plan e } ∧ t.mem = s.mem) ∧
   (∀ (s v w : State) (h e : Nat) (q : StepRec) (p : PlanE) (recs : List Byte) (pages : List Nat),
     let buf := if bit p.w0 16 then q.gbuf1 else q.gbuf0
     let other := if bit p.w0 16 then q.gbuf0 else q.gbuf1
     let l := gatherHdr q.seqNo p.layer q.admitted.length pages.length other ++ recs ++ pages.flatMap (leBytes 8)
     s.step_ h = some q → q.next = some (e, p) → p.kind = 2 → s.sesUp = true → q.pf = false →
     (s.modPlan h e (fun p => { p with phase := 2 })).gatherAll p.layer q.advance q.admitted [] [] = (v, .ok (recs, pages)) →
     v.vwrite none 0 (s.ringAsid q.ring) (s.ringTenant q.ring) buf l = (w, none) → w.waited = false →
     ∃ t, exec (.planGather h) s = .next t ∧ t.mem = w.mem ∧ t.rng = s.rng ∧
       t.step_ h = some { q with plan := modAt (fun p => { p with phase := 2 }) q.plan e })) ∧
  ((∀ (s : State) (h : Nat) (q : StepRec), s.step_ h = some q → q.failed = false → (∀ p ∈ q.plan, p.phase = 2) →
     ((s.ring q.ring).find q.idx).isSome = true → (q.admitted.map (·.slot)).Nodup → s.waited = false →
     ∃ t, exec (.stepComplete h) s = .next t ∧ t.step_ h = none ∧ s.Completes t q.ring q.idx 0 0 q.result ∧ t.mem = s.mem ∧
       ∀ a ∈ q.admitted, (t.slot a.slot).tokens = a.old + q.advance ∧
         ((s.slot a.slot).st = .stepping → (t.slot a.slot).st = .resident)) ∧
   (∀ (s : State) (h : Nat) (q : StepRec), s.step_ h = some q → q.failed = true → (∀ p ∈ q.plan, p.phase ≠ 1) →
     ((s.ring q.ring).find q.idx).isSome = true → ((s.giveBack q.resv).release q.admitted).waited = false →
     ∃ t, exec (.stepFail h) s = .next t ∧ t.step_ h = none ∧ s.Completes t q.ring q.idx 0x80 q.reason q.result ∧
       ∀ x, (t.slot x).tokens = (s.slot x).tokens ∧
         (t.slot x).st = if (q.admitted.any (fun a => a.slot == x)) && (s.slot x).st == .stepping then .resident else (s.slot x).st))

/-- The thread instructions (R394, R395, R397, R398, R400). The executing threads act in ascending index, each on the sorus its register names (a name
with bits 31:13 set traps). SSIG sends a thread's signal, where its amount is not 0, behind those its Frond sent before and goes on; SWAIT and SWAIT.T
go on when VALUE has reached the threshold, with the data cache emptied in the .I form, and wait on the watch list otherwise; SRD writes VALUE to the
register pair. -/
def Obligations.SorusInstructions : Prop :=
  ((∀ (s s' : State) (f g mask gs gn k : Nat) (ts : List Nat) (q : Kernel),
     let t := s'.eachThread f g mask [gs % 128, gn % 128] ts (fun u h => u.onSorus f g h gs (fun v n => v.ssig1 f g h gn k q n))
     s.Issues f g s' k q ts → s.sbHeld f = false → t.waited = false → exec (.ssig f g mask gs gn) s = .next t) ∧
   (∀ (s s' : State) (f g mask gs k : Nat) (inv : Bool) (ts : List Nat) (q : Kernel),
     let t := s'.eachThread f g mask [gs % 128] ts (fun u h => u.onSorus f g h gs (fun v n => v.sorWait f g h n q.launch.tenant none inv))
     s.Issues f g s' k q ts → t.waited = false → exec (.swait f g mask gs inv) s = .next t) ∧
   (∀ (s s' : State) (f g mask gs gt k : Nat) (inv : Bool) (ts : List Nat) (q : Kernel),
     let t := s'.eachThread f g mask [gs % 128, gt % 128, (gt + 1) % 128] ts
       (fun u h => u.onSorus f g h gs (fun v n => v.sorWait f g h n q.launch.tenant (some (v.regPair f g h gt)) inv))
     s.Issues f g s' k q ts → gt % 2 = 0 → t.waited = false → exec (.swaitT f g mask gs gt inv) s = .next t) ∧
   (∀ (s s' : State) (f g mask gd gs k : Nat) (ts : List Nat) (q : Kernel),
     let t := s'.eachThread f g mask [gs % 128] ts (fun u h => u.onSorus f g h gs (fun v n => v.srd1 f g h gd q.launch.tenant n))
     s.Issues f g s' k q ts → gd % 2 = 0 → t.waited = false → exec (.srd f g mask gd gs) s = .next t)) ∧
  ((∀ (s : State) (f g h gs k : Nat) (q : Kernel) (act : State → Nat → State),
     ((s.rg f g h gs).toNat < 8192 → s.onSorus f g h gs act = act s (s.rg f g h gs).toNat) ∧
     (8192 ≤ (s.rg f g h gs).toNat → s.grpKernel f g = some (k, q) → (s.onSorus f g h gs act).krn f k = some { q with abort := some 0x0280 })) ∧
   (∀ (s : State) (f g h gn k n : Nat) (q : Kernel),
     let u := s.sbDrain f
     ∃ t, s.ssig1 f g h gn k q n = t ∧ (t.thr f g h).pc = ((u.thr f g h).pc + 8) % 2 ^ 48 ∧ t.mem = u.mem ∧ t.regs = u.regs ∧
       (((u.rg f g h gn).toNat = 0 ∨ (u.slotKernel f g).all (fun p => p.2.abort.isSome) = true) → t.sor = u.sor) ∧
       ((u.rg f g h gn).toNat ≠ 0 → (u.slotKernel f g).all (fun p => p.2.abort.isSome) = false →
         t.sor.queue = u.sor.queue ++ [⟨f, n, (u.rg f g h gn).toNat, q.launch.tenant, .thread f k h⟩])) ∧
   (∀ (s : State) (f g h n th tenant : Nat) (thr : Option Nat) (inv : Bool), s.SorusOk n → (s.sorus n).tenant = tenant →
     th = thr.getD (s.sorus n).thresh.toNat →
     (th ≤ (s.sorus n).value.toNat → ∃ t, s.sorWait f g h n tenant thr inv = t ∧ (t.thr f g h).pc = ((s.thr f g h).pc + 8) % 2 ^ 48 ∧
       (t.thr f g h).wait = .ready ∧ t.sor = s.sor ∧ t.mem = s.mem ∧ t.regs = s.regs ∧ (t.fr f).watch = (s.fr f).watch ∧
       (t.fr f).dcache = (if inv then [] else (s.fr f).dcache)) ∧
     ((s.sorus n).value.toNat < th → (s.fr f).watchFull n = false → ∃ t, s.sorWait f g h n tenant thr inv = t ∧
       (t.thr f g h).pc = (s.thr f g h).pc ∧ (t.thr f g h).wait = .sorus n th inv ∧ (t.thr f g h).waitClock = s.clock ∧
       (t.fr f).watch = (s.fr f).watch ++ [⟨g, h, n, th, false⟩] ∧ t.sor = s.sor ∧ t.mem = s.mem ∧ t.regs = s.regs)) ∧
   (∀ (s : State) (f g h gd n tenant : Nat), gd % 2 = 0 → gd < 128 → s.SorusOk n → (s.sorus n).tenant = tenant →
     ∃ t, s.srd1 f g h gd tenant n = t ∧ t.greg f g h gd = BitVec.ofNat 32 (s.sorus n).value.toNat ∧
       t.greg f g h (gd + 1) = BitVec.ofNat 32 ((s.sorus n).value.toNat / 2 ^ 32) ∧
       (∀ m, m < 128 → m ≠ gd → m ≠ gd + 1 → t.greg f g h m = s.greg f g h m) ∧
       (t.thr f g h).pc = ((s.thr f g h).pc + 8) % 2 ^ 48 ∧ t.sor = s.sor ∧ s.SameMem t ∧ s.SameRegs t recSlot) ∧
   (∀ (s : State) (f g h n tenant : Nat) (thr : Option Nat) (inv : Bool) (k : Nat) (q : Kernel), s.SorusOk n → (s.sorus n).tenant ≠ tenant →
     s.grpKernel f g = some (k, q) → (s.sorWait f g h n tenant thr inv).krn f k = some { q with abort := some 0x0A02 }))

/-- A bank applies one queued signal (R393, R394): the first input after the last one served that has one. VALUE takes the sum and never wraps, and every
wait whose threshold it reaches is satisfied. Waiting threads (R400, R401). A release frees every thread of the Frond whose threshold on that sorus
was met; a thread that has waited too long traps. -/
def Obligations.SorusUpdates : Prop :=
  ((∀ (s : State) (bank p : Nat) (u : SUpd) (f k h : Nat),
     let from_ := spGet (fun _ => 0) s.sor.ptr bank
     ((List.range 26).map (fun i => (from_ + i) % 26)).find? (fun q => s.sor.queue.any (fun u => u.at_ q bank)) = some p →
     s.sor.queue.find? (fun u => u.at_ p bank) = some u → u.src = .thread f k h → s.SorusOk u.sorus → (s.sorus u.sorus).tenant = u.tenant →
     ∃ t, exec (.sorusUpdateApply bank) s = .next t ∧ t.sor.queue = s.sor.queue.erase u ∧
       spGet (fun _ => 0) t.sor.ptr bank = (p + 1) % 26 ∧
       (t.sorus u.sorus).value.toNat = min ((s.sorus u.sorus).value.toNat + u.n) (2 ^ 64 - 1) ∧
       (∀ n, n ≠ u.sorus → t.sorus n = s.sorus n) ∧
       (∀ w ∈ t.sor.waits, w.sorus = u.sorus → w.thr ≤ (t.sorus u.sorus).value.toNat → w.sat = true)) ∧
   (∀ (s u : State) (n amount tenant : Nat) (remote : Bool), s.SorusOk n → s.sorSignal n amount tenant remote = (u, none) →
     (u.sorus n).value.toNat = min ((s.sorus n).value.toNat + amount) (2 ^ 64 - 1) ∧ (∀ m, m ≠ n → u.sorus m = s.sorus m) ∧
       (∀ f w, f < s.fronds → w ∈ (u.fr f).watch → w.sorus = n → w.thr ≤ (u.sorus n).value.toNat → w.sat = true))) ∧
  ((∀ (s : State) (f n : Nat), ∃ t, exec (.watchRelease f n) s = .next t ∧
       (t.fr f).watch = (s.fr f).watch.filter (fun w => !(w.sorus == n && w.sat)) ∧
       (∀ w ∈ (s.fr f).watch, w.sorus = n → w.sat = true → (t.thr f w.g w.t).wait = .ready) ∧
       t.sor = s.sor ∧ t.mem = s.mem ∧ t.regs = s.regs) ∧
   (∀ (s : State) (f n : Nat) (w : WatchE), (s.fr f).watch.filter (fun w => w.sorus == n && w.sat) = [w] →
     ∃ t, exec (.watchRelease f n) s = .next t ∧ (t.thr f w.g w.t).pc = ((s.thr f w.g w.t).pc + 8) % 2 ^ 48) ∧
   (∀ (s : State) (f g h n th k : Nat) (inv : Bool) (q : Kernel), (s.thr f g h).wait = .sorus n th inv → ⟨g, h, n, th, false⟩ ∈ (s.fr f).watch →
     s.waitTo ≤ s.clock - (s.thr f g h).waitClock → s.grpKernel f g = some (k, q) →
     ∃ t, exec (.waitTimeout f g h) s = .next t ∧ t.krn f k = some { q with abort := some 0x0A04 } ∧ FUnit.kernel f k ∈ t.flt.fences ∧
       ∀ w ∈ (t.fr f).watch, ¬(w.g = g ∧ w.t = h)))

/-- The descriptors of sori (R394–R396, R404, R405). CREATE gives a FREE sorus its value, threshold, tenant and REMOTE bit; DESTROY frees it; SIGNAL adds,
SET writes, READ answers VALUE; WAIT takes an entry that ends with status 0 when satisfied and 3 when timed out. -/
def Obligations.SorusDescriptors : Prop :=
  (∀ (s : State) (r i : Nat) (d : Desc), s.opOf r i 4 0 = some d → (s.sorus (d.f 1 12 0)).st = .free → s.rget Fd.FLT_INJ_CTL_ARM = 0 →
    ∃ t, exec (.create r i) s = .next t ∧
      t.sorus (d.f 1 12 0) = ⟨d.w2, d.w3, s.ringTenant r, d.f 1 16 16 == 1, .allocated, true, 0, 0, 0, 0⟩ ∧
      s.Completes t r i 0 0 0 ∧ t.mem = s.mem) ∧
  (∀ (s : State) (r i : Nat) (d : Desc), s.opOf r i 4 1 = some d → s.SorusOk (d.f 1 12 0) → (s.sorus (d.f 1 12 0)).bound = true →
    (s.sorus (d.f 1 12 0)).tenant = s.ringTenant r → (∀ w ∈ s.sor.waits, w.sorus ≠ d.f 1 12 0) →
    (∀ f, f < s.fronds → ∀ w ∈ (s.fr f).watch, w.sorus ≠ d.f 1 12 0) →
    ∃ t, exec (.destroy r i) s = .next t ∧ t.sorus (d.f 1 12 0) = Sorus.init ∧ s.Completes t r i 0 0 0 ∧ t.mem = s.mem) ∧
  (∀ (s : State) (r i : Nat) (d : Desc),
    let n := d.f 1 12 0
    s.opOf r i 4 2 = some d → s.SorusOk n → (s.sorus n).tenant = s.ringTenant r →
    (∀ u ∈ s.sor.queue, u.at_ (16 + s.rget (Fd.RNG_CTL_CP r)) (n % 8) = false) →
    ∃ t, exec (.signal r i) s = .next t ∧ (t.sorus n).value.toNat = min ((s.sorus n).value.toNat + d.f 2 31 0) (2 ^ 64 - 1) ∧
      s.Completes t r i 0 0 (t.sorus n).value.toNat) ∧
  (∀ (s : State) (r i : Nat) (d : Desc),
    let n := d.f 1 12 0
    s.opOf r i 4 3 = some d → s.SorusOk n → (s.sorus n).tenant = s.ringTenant r →
    ∃ t, exec (.setSorus r i) s = .next t ∧ (t.sorus n).value = d.w2 ∧ (t.sorus n).thresh = d.w3 ∧
      (∀ w ∈ t.sor.waits, w.sorus = n → w.thr ≤ d.w2.toNat → w.sat = true) ∧ s.Completes t r i 0 0 d.w2.toNat) ∧
  (∀ (s : State) (r i : Nat) (d : Desc),
    let n := d.f 1 12 0
    let th := if d.f 1 17 17 = 1 then (s.sorus n).thresh.toNat else d.f 2 63 0
    s.opOf r i 4 4 = some d → s.SorusOk n → (s.sorus n).tenant = s.ringTenant r → s.sor.waits.length < 4096 →
    ∃ t, exec (.wait r i) s = .next t ∧ t.sor.waits = s.sor.waits ++ [⟨r, i, n, th,
        s.clock + (if d.f 3 31 0 = 0 then s.waitTo else d.f 3 31 0 * 25), decide (th ≤ (s.sorus n).value.toNat)⟩] ∧
      (t.ring r).done = (s.ring r).done ∧ t.mem = s.mem) ∧
  (∀ (s : State) (r i : Nat) (w : DWait), s.sor.waits.find? (fun w => w.ring == r && w.idx == i) = some w →
    ((s.ring r).find i).isSome = true →
    (w.sat = true → ∃ t, exec (.waitSatisfied r i) s = .next t ∧ t.sor.waits = s.sor.waits.erase w ∧
      s.Completes t r i 0 0 (s.sorus w.sorus).value.toNat) ∧
    (w.sat = false → w.due ≤ s.clock → ∃ t, exec (.waitTimedOut r i) s = .next t ∧ t.sor.waits = s.sor.waits.erase w ∧
      s.Completes t r i 3 0 (s.sorus w.sorus).value.toNat)) ∧
  (∀ (s : State) (r i : Nat) (d : Desc), s.opOf r i 4 5 = some d → s.SorusOk (d.f 1 12 0) → (s.sorus (d.f 1 12 0)).tenant = s.ringTenant r →
    ∃ t, exec (.read r i) s = .next t ∧ s.Completes t r i 0 0 (s.sorus (d.f 1 12 0)).value.toNat ∧ t.sor = s.sor ∧ t.mem = s.mem)

/-- Ports and training (R415, R424, R425, R431, R450). A port's settings are taken at once or latched while it is busy; training goes step by step; the
swap for crossed lanes, a finished retrain and a lost light act on the link alone. Link control messages (R426–R428, R450, R479). A peer's identity is
kept or refused, its key exchange gives the link keys where its signature verifies, a REKEY changes both keys and the epoch, and a peer that leaves
takes the link down without a fence. -/
def Obligations.FabricPorts : Prop :=
  ((∀ (s : State) (p : Nat) (v : W64), p < s.part.fports → s.twilight = false → s.portBusy p = false → fld v 63 63 = s.rget (Fd.FAB_PORT_CFG_EN p) →
     fld v 62 62 = s.rget (Fd.FAB_PORT_CFG_SPLIT p) → (∀ l ∈ s.portLinks p, s.linkState l ≠ 4) →
     ∃ t, exec (.fabPortCfgWrite p v) s = .next t ∧ t.rget (Fd.FAB_PORT_CFG_EXPECT p) = fld v 61 61 ∧
       t.rget (Fd.FAB_PORT_CFG_EXP_PORT1 p) = fld v 37 33 ∧ t.rget (Fd.FAB_PORT_CFG_EXP_DEV1 p) = fld v 32 19 ∧
       t.rget (Fd.FAB_PORT_CFG_EXP_PORT0 p) = fld v 18 14 ∧ t.rget (Fd.FAB_PORT_CFG_EXP_DEV0 p) = fld v 13 0 ∧
       s.SameRegs t (· = (Fd.FAB_PORT_CFG_EN p).off) ∧ t.fab = s.fab ∧ t.mem = s.mem) ∧
   (∀ (s : State) (p : Nat) (v : W64), p < s.part.fports → s.twilight = false → s.portBusy p = true →
     fld v 63 63 ≠ s.rget (Fd.FAB_PORT_CFG_EN p) →
     ∃ t, exec (.fabPortCfgWrite p v) s = .next t ∧ t.latchedPort p = some (2 * fld v 63 63 + fld v 62 62) ∧
       t.rget (Fd.FAB_PORT_CFG_EN p) = s.rget (Fd.FAB_PORT_CFG_EN p) ∧ t.rget (Fd.FAB_PORT_STAT_PEND p) = 1 ∧ t.fab.links = s.fab.links) ∧
   (∀ (s : State) (p : Nat) (v : W64), p < s.part.fports → s.twilight = false → s.portBusy p = false → s.rget (Fd.FAB_PORT_CFG_EN p) = 1 →
     fld v 63 63 = 0 → (∀ l ∈ s.portLinks p, s.linkState l ≠ 2) →
     ∃ t, exec (.fabPortCfgWrite p v) s = .next t ∧ t.rget (Fd.FAB_PORT_CFG_EN p) = 0 ∧ t.rget (Fd.FAB_PORT_CFG_SPLIT p) = fld v 62 62 ∧
       t.linkState (2 * p) = 0 ∧ t.linkState (2 * p + 1) = (if fld v 62 62 = 1 then 0 else 7) ∧ t.fab = s.fab) ∧
   (∀ (s : State) (p v : Nat), s.latchedPort p = some v → s.portBusy p = false →
     ∃ t, exec (.portLatchedChange p) s = .next t ∧ t = (s.setLatched p none).portSet p (v / 2) (v % 2)) ∧
   (∀ (s : State) (l : Nat), s.linkThere l = true → s.linkState l = 1 →
     (∃ t, exec (.linkTraining l false) s = .next t ∧ t.linkState l = 5 ∧ (t.link l).failedAt = some s.clock ∧ (t.link l).tstep = 0) ∧
     ((s.link l).tstep = 1 → (s.link l).crossed = false → ∃ t, exec (.linkTraining l true) s = .next t ∧
       t = s.setLink l { s.link l with tstep := 2 }) ∧
     (∀ u nonce, (s.link l).tstep = 2 → s.allLocked l = true → (s.link l).nextB.isSome = true → s.secSwitching = false → s.random 4 = some (u, nonce) → ∃ t, exec (.linkTraining l true) s = .next t ∧
       (t.link l).tstep = 3 ∧ (t.link l).identTx = u.ident l nonce ∧ t.linkState l = 1 ∧ t.regs = u.regs) ∧
     (∀ u priv, (s.link l).tstep = 3 → (s.link l).identRx ≠ [] → s.secSwitching = false → s.random 6 = some (u, priv) → ∃ t, exec (.linkTraining l true) s = .next t ∧
       (t.link l).tstep = 4 ∧ (t.link l).ephem = priv ∧ t.linkState l = 1) ∧
     ((s.link l).tstep = 4 → (s.link l).keyTx.isSome = true → s.fab.jobs = [] → s.fab.spores = [] → ∃ t, exec (.linkTraining l true) s = .next t ∧
       t.linkState l = 2 ∧ FUnit.port (portLoc l) ∉ t.flt.fences ∧ (t.link l).keyAt = s.clock ∧ (t.link l).rounds = 0 ∧ (t.link l).unack = [])) ∧
   (∀ (s : State) (l : Nat), s.linkThere l = true → s.fabricOn = true → s.linkFit l = true →
     (s.linkState l = 5 ∨ s.linkState l = 6 ∨ s.linkState l = 0 ∨ (s.linkState l = 4 ∧ (s.link l).light = false)) →
     s.rget (Fd.FAB_PORT_CFG_EN (l / 2)) = 1 → (∀ c, (s.link l).failedAt = some c → 2500000 ≤ s.clock - c) → s.thm.engHot.contains (l / 2) = false →
     ∃ t, exec (.trainingRetry l true) s = .next t ∧ t.linkState l = 1 ∧ (t.link l).tstep = 1 ∧ t.mem = s.mem) ∧
   (∀ (s : State) (l : Nat) (again : Bool), s.linkThere l = true → s.linkState l = 1 → ((s.link l).tstep = 1 ∨ (s.link l).tstep = 0) →
     (again = true → (s.link l).rounds + 1 < 16) →
     ∃ t, exec (.crossedSwap l again) s = .next t ∧ (t.link l).crossed = again ∧ (t.link l).rounds = (s.link l).rounds + 1 ∧ t.linkState l = 1 ∧
       t.rget (linkFd Fd.FAB_PORT_STAT_CROSSED l) = 1 - s.rget (linkFd Fd.FAB_PORT_STAT_CROSSED l)) ∧
   (∀ (s : State) (l : Nat), s.linkThere l = true → s.linkState l = 3 → (∀ n ∈ s.linkLanes l, s.laser (l / 2) n ≠ 1) →
     (s.allLocked l = true → ∃ t, exec (.linkRetrained l true) s = .next t ∧ t.linkState l = 2 ∧ (t.link l).retrFails = 0 ∧
       t.rget (Fd.FAB_PORT_CNT_RETRAINS (l / 2)) = satAdd (2 ^ 32 - 1) (s.rget (Fd.FAB_PORT_CNT_RETRAINS (l / 2))) 1) ∧
     ((s.link l).retrFails < 2 → ∃ t, exec (.linkRetrained l false) s = .next t ∧
       t = s.setLink l { s.link l with retrFails := (s.link l).retrFails + 1 })) ∧
   (∀ (s : State) (l : Nat), s.linkThere l = true → s.linkState l = 2 → s.QuietLink l →
     ∃ t, exec (.fabricLinkDown l) s = .next t ∧ t.linkState l = 5 ∧ FUnit.port (portLoc l) ∈ t.flt.fences ∧ (t.link l).light = false ∧
       (t.link l).keyTx = none ∧ (t.link l).keyRx = none ∧ t.rng = s.rng)) ∧
  ((∀ (s u : State) (l : Nat) (m : Msg), s.takeRx l 0x34 = some (m, u) → u.linkState l = 1 → m.data.take 8 ≠ moduleSerial →
     rdLe m.data 11 1 = u.linkWidth l → u.rget (Fd.FAB_PORT_CFG_EXPECT (l / 2)) = 0 →
     ∃ t, exec (.msgIdent l) s = .next t ∧ (t.link l).identRx = m.data ∧ t.linkState l = 1 ∧
       t.rget (linkFd Fd.FAB_PORT_STAT_PEER_DEV l) = rdLe m.data 8 2 % 2 ^ 14 ∧
       t.rget (linkFd Fd.FAB_PORT_STAT_PEER_PORT l) = rdLe m.data 10 1 % 32) ∧
   (∀ (s u : State) (l : Nat) (m : Msg), s.takeRx l 0x34 = some (m, u) → u.linkState l = 1 → m.data.take 8 = moduleSerial →
     ∃ t, exec (.msgIdent l) s = .next t ∧ t.linkState l = 4 ∧ FUnit.port (portLoc l) ∈ t.flt.fences) ∧
   (∀ (s u : State) (l n : Nat) (m : Msg) (k : List Byte), s.takeRx l 0x35 = some (m, u) → u.linkState l = 1 → (u.link l).tstep = 4 →
     (u.link l).identRx ≠ [] → u.sec.peers.find? (fun p => p.1 == leNat ((u.link l).identRx.take 8)) = some (n, k) →
     let good := Config.verifies algEcdsa k (sha384 ((u.link l).identRx ++ (u.link l).identTx ++ m.data.take 96)) (m.data.drop 96)
     ∃ t, exec (.msgKeyx l) s = .next t ∧
       (good = true → (t.link l).keyTx.isSome = true ∧ (t.link l).keyRx.isSome = true ∧ t.linkState l = 1 ∧ t.flt = s.flt) ∧
       (good = false → (t.link l).keyTx = none ∧ t.linkState l = 6 ∧ FUnit.port (portLoc l) ∈ t.flt.fences)) ∧
   (∀ (s u : State) (l : Nat) (m : Msg), s.secSwitching = false → s.takeRx l 0x33 = some (m, u) → (u.link l).rekeying = true →
     ∃ t, exec (.msgRekey l) s = .next t ∧ (t.link l).keyOld = (s.link l).keyRx ∧ (t.link l).epochTx = !(s.link l).epochTx ∧
       (t.link l).rekeying = false ∧ (t.link l).sentCnt = 0 ∧ (t.link l).keyTx.isSome = true ∧ (t.link l).ephem = [] ∧ t.regs = s.regs) ∧
   (∀ (s u v : State) (l : Nat) (m : Msg) (priv : List Byte), s.secSwitching = false → s.takeRx l 0x33 = some (m, u) → (u.link l).rekeying = false →
     u.random 6 = some (v, priv) →
     ∃ t, exec (.msgRekey l) s = .next t ∧ (t.link l).keyOld = (s.link l).keyRx ∧ (t.link l).epochTx = !(s.link l).epochTx ∧
       (t.link l).sentCnt = 0 ∧ (t.link l).keyTx.isSome = true ∧ (t.link l).ephem = []) ∧
   (∀ (s u : State) (l : Nat) (m : Msg), s.takeRx l 0x32 = some (m, u) → u.linkThere l = true → u.linkState l = 2 → u.QuietLink l →
     ∃ t, exec (.msgLeave l) s = .next t ∧ t.linkState l = 5 ∧ t.flt.fences = s.flt.fences ∧ (t.link l).keyTx = none))

/-- Blocks, flits and the link layer (R418–R423, R428–R433). A block decodes to its bytes and the symbols corrected are counted; 64 good blocks lock a
lane, and more than 16 undecodable ones in 1 ms send an UP link to retrain. Scrambling twice gives the bytes back; flit-stream byte b comes from lane
(b >> 5) mod W. The next flit of the stream is checked by its own bytes, one with a gap having no right CRC; a flit in sequence is accepted and
its messages enter the receive buffer, and one with a wrong CRC asks for the expected one. The NAK is repeated after 2 µs, ACK and credits are
reported, a key in use too long begins a rekey, and a message that waited 10 ms leaves the buffer, its credits going back. -/
def Obligations.FabricFlits : Prop :=
  (∀ (s : State) (l phys n : Nat) (block b : List Byte), s.linkThere l = true → phys ∈ s.linkLanes l → blockDecode block = some (b, n) →
    blockSync b = true → s.linkState l ≠ 2 → 63 ≤ ((s.link l).lane phys).good →
    ∃ t, exec (.blockReceive l phys block) s = .next t ∧ ((t.link l).lane phys).lock = true ∧ ((t.link l).lane phys).bad = 0 ∧
      t.rget (Fd.FAB_PORT_CNT_FEC_CORR (l / 2)) = satAdd (2 ^ 32 - 1) (s.rget (Fd.FAB_PORT_CNT_FEC_CORR (l / 2))) n ∧
      t.linkState l = s.linkState l ∧ t.mem = s.mem) ∧
  (∀ (s : State) (l phys : Nat) (block : List Byte), s.linkThere l = true → phys ∈ s.linkLanes l → blockDecode block = none →
    s.linkState l = 2 → 16 ≤ ((s.link l).badBlocks.filter (fun c => decide (s.clock - c < 25000))).length →
    ∃ t, exec (.blockReceive l phys block) s = .next t ∧ t.linkState l = 3 ∧ ((t.link l).lane phys).good = 0) ∧
  (∀ (row : List (List (Option Byte))) (b : Nat), (∀ d ∈ row, d.length = 480) → b < 480 * row.length →
    (stripe row).getD b none = (row.getD (b / 32 % row.length) []).getD (b / (32 * row.length) * 32 + b % 32) none) ∧
  (∀ (data : List Byte) (x : Nat), (descramble (descramble data x).1 x).1 = data) ∧
  (∀ (s : State) (l : Nat) (w0 w1 : W64) (area : List Byte) (crcOk tagOk : Bool),
    let f := (s.link l).flitSeen w0 w1 area crcOk
    ((s.link l).flits = [] → exec (.flitReceive l w0 w1 area crcOk tagOk) s = .next (s.flitDone l w0 w1 area crcOk tagOk)) ∧
    (∀ x rest, (s.link l).flits = x :: rest →
      exec (.flitReceive l w0 w1 area crcOk tagOk) s =
        .next ((s.setLink l { s.link l with flits := rest }).flitDone l f.1 f.2.1 f.2.2.1 f.2.2.2 tagOk) ∧
      (flitBytes x = none → f.2.2.2 = false) ∧
      (∀ b, flitBytes x = some b → f.1 = BitVec.ofNat 64 (rdLe b 0 8) ∧ f.2.2.2 = (crc32c (b.take 252) == rdLe b 252 4)))) ∧
  (∀ (s : State) (l : Nat) (w0 w1 : W64) (area rest : List Byte) (ms : List Msg), s.linkThere l = true → s.linkState l = 2 → fld w0 63 60 = 1 →
    (s.link l).unack = [] → (s.link l).txq = [] → (s.link l).partial_ = [] → fld w0 35 35 = 0 → fld w0 59 48 = (s.link l).rxSeq →
    fld w0 33 31 ≠ 7 → parseMsgs 8 (area.drop (32 * fld w0 33 31)) = (ms, rest) → (∀ m ∈ ms, m.valid = true ∧ m.op ≠ 0x34 ∧ m.op ≠ 0x35) →
    ∃ t, s.flitDone l w0 w1 area true true = t ∧ (t.link l).rxSeq = ((s.link l).rxSeq + 1) % 4096 ∧ (t.link l).nak = none ∧
      (t.link l).rxbuf = (s.link l).rxbuf ++ ms.map (fun m => ⟨m, s.clock⟩) ∧ (t.link l).partial_ = rest ∧ t.linkState l = 2 ∧ t.mem = s.mem) ∧
  (∀ (s : State) (l : Nat) (w0 w1 : W64) (area : List Byte) (tagOk : Bool), s.linkThere l = true → s.linkState l = 2 →
    (fld w0 63 60 = 1 ∨ fld w0 63 60 = 2) →
    s.flitDone l w0 w1 area false tagOk = s.setLink l { s.link l with nak := some ((s.link l).nak.getD s.clock) }) ∧
  (∀ (s : State) (l c : Nat), (s.link l).nak = some c → 50 ≤ s.clock - c →
    ∃ t, exec (.nakRepeat l) s = .next t ∧ t = s.setLink l { s.link l with nak := some s.clock }) ∧
  (∀ (s : State) (l : Nat), s.linkUp l = true →
    ∃ t, exec (.ackReport l) s = .next t ∧ t = s.setLink l { s.link l with ackSent := (s.link l).rxSeq, credRet := ⟨0, 0, 0, 0⟩ }) ∧
  (∀ (s u : State) (l : Nat) (priv : List Byte), s.linkThere l = true → s.linkState l = 2 → (s.link l).rekeying = false → s.secSwitching = false →
    (2 ^ 40 ≤ (s.link l).sentCnt ∨ 90000000000 ≤ s.clock - (s.link l).keyAt) → s.random 6 = some (u, priv) →
    ∃ t, exec (.rekeyStart l) s = .next t ∧ (t.link l).rekeying = true ∧ (t.link l).ephem = priv ∧ (t.link l).keyTx = (s.link l).keyTx ∧
      (t.link l).keyRx = (s.link l).keyRx ∧ t.mem = s.mem) ∧
  (∀ (s : State) (l : Nat) (x : RxMsg) (rest : List RxMsg), l ≠ selfLink → (s.link l).rxbuf = x :: rest → 250000 ≤ s.clock - x.at_ →
    ∃ t, exec (.messageDropped l) s = .next t ∧ (t.link l).rxbuf = rest ∧ (t.link l).credRet = (s.link l).credRet.add x.m.vc x.m.slots ∧
      t.mem.dram = s.mem.dram ∧ t.rng = s.rng)

/-- Messages that this module performs (R408, R438–R443, R449). A WRITE writes its bytes through its window, a READ answers the bytes, a RED_WRITE reduces
in memory, each with its answer to the sender; a request its window does not allow changes no memory; a SIGNAL goes to its bank; a session arrives
page by page; answers finish the descriptor that waits for them. -/
def Obligations.FabricMessages : Prop :=
  (∀ (s u v : State) (l : Nat) (m : Msg), s.Takes l 1 m u → u.sporeWin m = false → u.winOk m 1 = true → v.waited = false →
    u.vwrite none 0 (u.win m.win).asid (u.win m.win).tenant ((u.win m.win).base + m.off) m.data = (v, none) →
    ∃ t, exec (.msgWrite l) s = .next t ∧ t.mem.dram = v.mem.dram ∧ t.mem.thl = v.mem.thl ∧ t = (if m.mc then v else v.reply l m 0x10 0 [])) ∧
  (∀ (s u : State) (l op perm : Nat) (m : Msg) (c : Instr), (c, op, perm) ∈ [(Instr.msgWrite l, 1, 1), (.msgRedWrite l, 2, 2), (.msgRead l, 3, 0)] →
    s.Takes l op m u → u.sporeWin m = false → u.winOk m perm = false → u.waited = false →
    ∃ t, exec c s = .next t ∧ t.mem.dram = s.mem.dram ∧ t.mem.thl = s.mem.thl ∧ t.mem.ls = s.mem.ls ∧ t.rng = s.rng) ∧
  (∀ (s u v : State) (l : Nat) (m : Msg) (data : List Byte), s.Takes l 3 m u → u.sporeWin m = false → u.winOk m 0 = true → v.waited = false →
    u.vread none 0 (u.win m.win).asid (u.win m.win).tenant ((u.win m.win).base + m.off) (m.lenM1 + 1) = (v, .ok data) →
    ∃ t, exec (.msgRead l) s = .next t ∧ t = v.reply l m 0x11 0 data) ∧
  (∀ (s u v : State) (l : Nat) (m : Msg), s.Takes l 2 m u → u.sporeWin m = false → u.winOk m 2 = true →
    reduceReserved m.redop m.rtype = false → m.off % elemSize m.rtype = 0 → m.len % elemSize m.rtype = 0 →
    EachUnit (fun x p => x.redWrite1 (u.win m.win) m p) u (pieces ((u.win m.win).base + m.off) m.len) v → v.waited = false →
    ∃ t, exec (.msgRedWrite l) s = .next t ∧ t = v.reply l m 0x10 0 []) ∧
  (∀ (s v w : State) (b : Win) (m : Msg) (x : Nat × Nat) (pa pte : Nat), s.xlate none b.asid b.tenant x.1 .w = (v, .ok (pa, pte)) → physClass pa = .dram →
    v.redHeld pa x.2 = false → v.reduceAt m.redop m.rtype pa (slice m.data (x.1 - m.va b) x.2) = (w, none) →
    s.redWrite1 b m x = (w, none)) ∧
  (∀ (s u : State) (l : Nat) (m : Msg), s.Takes l 4 m u →
    (m.mc = true → ∀ x ∈ (s.link l).rxbuf, ¬(x.m.op = 1 ∧ x.m.mc = true ∧ x.m.src = m.src ∧ x.m.dst = m.dst)) →
    ∃ t, exec (.msgSignal l) s = .next t ∧ t.sor.queue = u.sor.queue ++ [⟨25, m.target, leNat m.data, m.tenant, .remote m.src m.tag m.mc⟩] ∧
      t.mem = u.mem ∧ t.sor.sori = u.sor.sori) ∧
  (∀ (s u v : State) (l : Nat) (m : Msg) (acc : List Resv),
    let x := m.target / 2 ^ 32
    let c := u.slot x
    let tokens := rdLe m.data 4 4
    let np := rdLe m.data 8 4
    s.Takes l 5 m u → m.target % 2 ^ 32 = 0 → c.bound = true → c.tenant = m.tenant → c.st = .resident → c.tokens = 0 → c.seq = none → c.pend = none →
    u.xfer x = none → c.layersM1 = rdLe m.data 0 1 → c.tb = rdLe m.data 1 1 → np = c.entries tokens → m.data.length = 12 → u.sesUp = true → np ≠ 0 →
    State.grow x np 0 u [] = (v, acc, none) → v.waited = false →
    ∃ t, exec (.msgSess l) s = .next t ∧ (t.slot x).st = .resuming ∧ t.xfer x = some ⟨m.src, tokens, np, 0, acc, l⟩ ∧ t.mem = v.mem) ∧
  (∀ (s u v w : State) (l i : Nat) (m : Msg) (q : Xfer),
    let x := m.target / 2 ^ 32
    let n := m.target % 2 ^ 32
    s.Takes l 5 m u → n ≠ 0 → u.xfer x = some q → q.src = m.src → n ≤ 256 * q.np → u.kvPage x ((n - 1) / 256) = (v, some i) →
    v.vwrite none 0 (v.slot x).asid (v.slot x).tenant ((v.pool (v.slot x).pool).va i + 256 * ((n - 1) % 256)) m.data = (w, none) → w.waited = false →
    ∃ t, exec (.msgSess l) s = .next t ∧ t.mem = w.mem ∧
      (q.got + 1 ≠ 256 * q.np → t.xfer x = some { q with got := q.got + 1 }) ∧
      (q.got + 1 = 256 * q.np → t.xfer x = none ∧ (t.slot x).st = .resident ∧ (t.slot x).tokens = q.tokens)) ∧
  (∀ (s u : State) (l : Nat) (m : Msg) (q : Req) (j : Job) (st : Started),
    let b := ({ u with fab := { u.fab with reqs := u.fab.reqs.filter (fun x => x.tag != q.tag) } } : State).modJob q.ring q.idx
      (fun j => { j with waiting := j.waiting - 1 })
    u.fab.reqs.find? (fun q => q.tag == m.tag) = some q → u.fab.jobs = [j] → j.ring = q.ring → j.idx = q.idx → j.waiting = 1 → j.err = none →
    j.total ≤ j.next → u.fab.spores = [] → (u.ring q.ring).find q.idx = some st → st.d.cls = 5 → st.d.op ≠ 6 → u.waited = false →
    (s.Takes l 0x10 m u → q.op ≠ 3 → ∃ t, exec (.msgDone l) s = .next t ∧ u.Completes t q.ring q.idx 0 0 0 ∧ t.fab.jobs = [] ∧ t.mem = u.mem) ∧
    (∀ v, s.Takes l 0x11 m u → q.op = 3 → b.vwrite none 0 (b.ringAsid q.ring) (b.ringTenant q.ring) q.va m.data = (v, none) → v.waited = false →
      ∃ t, exec (.msgData l) s = .next t ∧ u.Completes t q.ring q.idx 0 0 0 ∧ t.fab.jobs = [] ∧ t.mem = v.mem) ∧
    (s.Takes l 0x12 m u → ∃ t, exec (.msgError l) s = .next t ∧ u.Completes t q.ring q.idx 0x80 (m.target % 65536) 0 ∧ t.fab.jobs = [] ∧
      t.mem = u.mem))

/-- Windows, transfers and tables by descriptor (R437, R438, R441–R444, R449, R641). A window opens on mapped pages and closes; the first message of a
transfer goes out under its own tag; a request unanswered for too long fails its descriptor; table entries that name links present are taken. -/
def Obligations.FabricDescriptors : Prop :=
  (∀ (s : State) (r i : Nat) (d : Desc), s.opOf r i 5 0 = some d → s.idValid = true → (s.win (d.f 1 9 0)).open_ = false → (d.f 1 9 0 ≠ 1023 ∨ s.rget Fd.FWU_SPORE_EN = 0) →
    s.rangeMapped (s.ringAsid r) (s.ringTenant r) (d.f 2 47 0) (d.f 3 31 0) (d.f 1 18 16) = true → s.waited = false →
    ∃ t, exec (.winOpen r i) s = .next t ∧ t.win (d.f 1 9 0) = ⟨true, d.f 1 18 16, d.f 2 47 0, d.f 3 31 0, s.ringTenant r, s.ringAsid r⟩ ∧
      (∀ w, w ≠ d.f 1 9 0 → t.win w = s.win w) ∧ s.Completes t r i 0 0 0 ∧ t.mem = s.mem) ∧
  (∀ (s : State) (r i : Nat) (d : Desc), s.opOf r i 5 1 = some d → s.idValid = true → (s.win (d.f 1 9 0)).open_ = true →
    (s.win (d.f 1 9 0)).tenant = s.ringTenant r →
    ∃ t, exec (.winClose r i) s = .next t ∧ t.win (d.f 1 9 0) = Win.init ∧ (∀ w, w ≠ d.f 1 9 0 → t.win w = s.win w) ∧ s.Completes t r i 0 0 0) ∧
  (∀ (s : State) (r i op : Nat) (d : Desc) (c : Instr), (c, op) ∈ [(Instr.put r i, 2), (.get r i, 3), (.fabricSignal r i, 4)] →
    s.opOf r i 5 op = some d → s.idValid = true → (op = 2 → d.f 1 42 42 = 1 → reduceReserved (d.f 1 41 38) (d.f 1 37 36) = false) →
    (op = 4 → (s.ring r).started.any (fun x => decide (x.idx < i) && x.d.cls == 5 && x.d.op == 2 && x.d.f 1 57 44 == d.f 1 57 44 &&
      x.d.f 1 43 43 == d.f 1 43 43) = false) → (s.jobBegin r i d).waited = false →
    exec c s = .next (s.jobBegin r i d)) ∧
  (∀ (s u v : State) (r i op va len : Nat) (d : Desc) (m : Msg) (c : Instr),
    let b := ({ s with fab := { s.fab with jobs := s.fab.jobs ++ [⟨r, i, 0, 1, 0, none⟩] } } : State).markRan r i
    (c, op) ∈ [(Instr.put r i, 2), (.get r i, 3), (.fabricSignal r i, 4)] →
    s.opOf r i 5 op = some d → s.idValid = true → (op = 2 → d.f 1 42 42 = 0) →
    (op = 4 → ∀ x ∈ (s.ring r).started, x.d.cls ≠ 5 ∨ x.d.op ≠ 2) → s.jobTotal d = 1 → s.job r i = none → s.fab.reqs = [] →
    b.jobMsg r d 0 = (u, .ok (m, va, len)) → m.mc = false → u.sendReq r i m va len = (v, true) → v.waited = false →
    ∃ t, exec c s = .next t ∧ t.job r i = some ⟨r, i, 1, 1, 1, none⟩ ∧ t.mem = v.mem ∧ (t.ring r).done = (s.ring r).done ∧
      ∃ st, (t.ring r).find i = some st ∧ st.ran = true) ∧
  (∀ (s : State) (r i : Nat) (d : Desc), s.opOf r i 5 6 = some d → s.idValid = true → s.sesUp = true → (s.slot (d.f 1 15 0)).st = .resident →
    (s.slot (d.f 1 15 0)).seq = none → (s.slot (d.f 1 15 0)).recBad = false → s.boundOk (d.f 1 15 0) r 3 = true →
    ((s.modSlot (d.f 1 15 0) (fun q => { q with st := .parking })).jobBegin r i d).waited = false →
    ∃ t, exec (.sessionSend r i) s = .next t ∧ t = (s.modSlot (d.f 1 15 0) (fun q => { q with st := .parking })).jobBegin r i d) ∧
  (∀ (s : State) (tag : Nat) (q : Req) (j : Job) (st : Started), s.fab.reqs.find? (fun q => q.tag == tag) = some q →
    25 * max 100 (s.rget Fd.FAB_CTL_E2E_TO_US) ≤ s.clock - q.sentAt → s.fab.spores = [] → s.fab.jobs = [j] → j.ring = q.ring → j.idx = q.idx →
    j.err = none → (s.ring q.ring).find q.idx = some st → st.d.cls = 5 → st.d.op ≠ 6 →
    ∃ t, exec (.fabricTimeout tag) s = .next t ∧ s.Completes t q.ring q.idx 0x80 0x0B09 0 ∧ t.fab.jobs = [] ∧ t.mem.dram = s.mem.dram) ∧
  (∀ (s u : State) (r i : Nat) (d : Desc) (b : List Byte),
    let first := d.f 1 15 0
    let n := d.f 3 15 0
    let e := fun k => (BitVec.ofNat 16 (rdLe b (2 * k) 2) : W16)
    s.opOf r i 7 4 = some d → u.waited = false → d.f 1 17 16 = 0 → first + n ≤ 16384 →
    s.vread none 0 (s.ringAsid r) (s.ringTenant r) (d.f 2 47 0) (2 * n) = (u, .ok b) →
    ((∀ k, k < n → u.routeOk (e k) = true) → ∃ t, exec (.fabTable r i) s = .next t ∧ u.Completes t r i 0 0 0 ∧
      ∀ x, spGet (fun _ => 0#16) t.fab.routes x = if first ≤ x ∧ x < first + n then e (x - first) else spGet (fun _ => 0#16) u.fab.routes x) ∧
    (∀ k, k < n → u.routeOk (e k) = false → ∃ t, exec (.fabTable r i) s = .next t ∧ u.Completes t r i 6 0 0 ∧ t.fab = u.fab)) ∧
  (∀ (s u : State) (r i : Nat) (d : Desc) (b : List Byte),
    let first := d.f 1 15 0
    let n := d.f 3 15 0
    let e := fun k => (BitVec.ofNat 64 (rdLe b (8 * k) 8) : W64)
    s.opOf r i 7 4 = some d → u.waited = false → d.f 1 17 16 = 1 → first + n ≤ 4096 →
    s.vread none 0 (s.ringAsid r) (s.ringTenant r) (d.f 2 47 0) (8 * n) = (u, .ok b) → (∀ k, k < n → u.mcastOk (e k) = true) →
    ∃ t, exec (.fabTable r i) s = .next t ∧ u.Completes t r i 0 0 0 ∧
      ∀ x, spGet (fun _ => 0#64) t.fab.mcast x = if first ≤ x ∧ x < first + n then e (x - first) else spGet (fun _ => 0#64) u.fab.mcast x) ∧
  (∀ (s u : State) (r i : Nat) (d : Desc) (b : List Byte),
    let first := d.f 1 15 0
    let n := d.f 3 15 0
    let e := fun k => (⟨BitVec.ofNat 64 (rdLe b (16 * k) 8), BitVec.ofNat 64 (rdLe b (16 * k + 8) 8)⟩ : RGrp)
    s.opOf r i 7 4 = some d → u.waited = false → 2 ≤ d.f 1 17 16 → first + n ≤ 256 →
    s.vread none 0 (s.ringAsid r) (s.ringTenant r) (d.f 2 47 0) (16 * n) = (u, .ok b) → (∀ k, k < n → u.groupOk (e k) = true) →
    (∀ k, k < n → (u.red (first + k)).isSome = true → u.rgrp (first + k) = e k) →
    ∃ t, exec (.fabTable r i) s = .next t ∧ u.Completes t r i 0 0 0 ∧
      ∀ x, t.rgrp x = if first ≤ x ∧ x < first + n then e (x - first) else u.rgrp x) ∧
  (∀ (s u v : State) (r i : Nat) (d : Desc) (ids p : List Byte),
    let n := d.f 5 13 0 + 1
    s.opOf r i 7 7 = some d → s.idValid = true → v.waited = false → s.vread none 0 (s.ringAsid r) (s.ringTenant r) (d.f 4 47 0) (2 * n) = (u, .ok ids) →
    u.vread none 0 (u.ringAsid r) (u.ringTenant r) (d.f 2 47 0) (d.f 3 31 0) = (v, .ok p) → p ≠ [] → v.mcUp (d.f 1 11 0) ≠ [] → s.spore r i = none →
    ∃ t, exec (.fwSpore r i) s = .next t ∧ t.spore r i = some ⟨r, i, 0, 0, pieceCount 0 p.length * (v.mcUp (d.f 1 11 0)).length,
        (List.range n).map (fun k => (rdLe ids (2 * k) 2 % 2 ^ 14, 4)), [], []⟩ ∧ (t.ring r).done = (s.ring r).done)

/-- Reductions (R445–R448). A REDUCE whose group, window and links are in order starts with the limit an early ADVANCE gave it; a child's chunk is
combined, one that does not fit aborts the SEQ; an abort or a timeout fails the descriptor; the last chunk completes it. -/
def Obligations.Reductions : Prop :=
  (∀ (s : State) (r i limit : Nat) (d : Desc),
    let g := d.f 1 63 56
    let seq := d.f 1 55 40
    let e := s.rgrp g
    let b : State := { s with fab := { s.fab with advs := s.fab.advs.filter (fun a => !(a.1 == g && a.2.1 == seq)),
                                                  aborted := s.fab.aborted.filter (· != (g, seq)) } }
    let q : Red := ⟨r, i, seq, d.f 1 39 36, d.f 1 35 34, d.f 3 31 0 / 128, s.clock, 0, 0, limit, 0, false, []⟩
    let t := (((b.markRan r i).setRed g (some q)).redAdvance g q).redGo g
    s.opOf r i 5 5 = some d → s.idValid = true → reduceReserved (d.f 1 39 36) (d.f 1 35 34) = false → e.valid = true →
    (e.localIn = true → d.f 3 31 0 % elemSize (d.f 1 35 34) = 0) → s.red g = none → s.fab.aborted.contains (g, seq) = false →
    limit = ((s.fab.advs.find? (fun a => a.1 == g && a.2.1 == seq)).map (·.2.2)).getD 0 →
    (e.role = 2 → s.redWinOk e (d.f 3 31 0) = true) → (∀ l ∈ e.links, s.linkUp l = true) → t.waited = false →
    exec (.reduce r i) s = .next t) ∧
  (∀ (s : State) (r i : Nat) (d : Desc), s.opOf r i 5 5 = some d → s.idValid = true → reduceReserved (d.f 1 39 36) (d.f 1 35 34) = false →
    (s.rgrp (d.f 1 63 56)).valid = false → s.waited = false →
    ∃ t, exec (.reduce r i) s = .next t ∧ s.Completes t r i 4 0 0 ∧ t.fab = s.fab ∧ t.mem = s.mem) ∧
  (∀ (s u : State) (l : Nat) (m : Msg) (q : Red),
    let g := m.target / 2 ^ 40
    let k := m.target % 2 ^ 24
    s.takeRx l 0x20 = some (m, u) → u.red g = some q → m.target / 2 ^ 24 % 65536 = q.seq → m.redop = q.redop → m.rtype = q.rtype → k < q.chunks →
    (u.rgrp g).children.contains l = true → q.low ≤ k → k < q.low + 512 → (∀ c ∈ q.window, c.index = k → nbit c.from_ l = false) →
    (u.redSplit (u.rgrp g) = false → ∀ t, (u.setRed g (some (q.modChunk k (fun c =>
        { c with from_ := c.from_ ||| (1 <<< l), value := some (q.combine c.value m.data) })))).redGo g = t → t.waited = false →
      exec (.msgChunk l) s = .next t) ∧
    (u.redSplit (u.rgrp g) = true → ∀ v t, u.redPerform g q k m.data = (v, true) →
      (v.setRed g (some (q.modChunk k (fun c => { c with from_ := c.from_ ||| (1 <<< l) })))).redGo g = t → t.waited = false →
      exec (.msgChunk l) s = .next t)) ∧
  (∀ (s u : State) (l : Nat) (m : Msg) (q : Red) (st : Started),
    let g := m.target / 2 ^ 40
    let seq := m.target / 2 ^ 24 % 65536
    u.red g = some q → (u.ring q.ring).find q.idx = some st → u.waited = false →
    (s.takeRx l 0x20 = some (m, u) → seq ≠ q.seq → ∃ t, exec (.msgChunk l) s = .next t ∧ t.red g = none ∧
      u.Completes t q.ring q.idx 0x80 0x0B0C 0) ∧
    (s.takeRx l 0x31 = some (m, u) → seq = q.seq → ∃ t, exec (.msgAbort l) s = .next t ∧ t.red g = none ∧
      u.Completes t q.ring q.idx 0x80 0x0B0E 0) ∧
    (s.takeRx l 0x30 = some (m, u) → seq = q.seq → (u.rgrp g).role ≠ 2 → (u.rgrp g).parent = l → 
      ∀ t, (u.setRed g (some { q with limit := max q.limit (m.target % 2 ^ 24) })).redGo g = t → t.waited = false → exec (.msgAdvance l) s = .next t)) ∧
  (∀ (s u : State) (l : Nat) (m : Msg), u.red (m.target / 2 ^ 40) = none → u.waited = false →
    (s.takeRx l 0x31 = some (m, u) → ∃ t, exec (.msgAbort l) s = .next t ∧
      t.fab.aborted = (m.target / 2 ^ 40, m.target / 2 ^ 24 % 65536) :: s.fab.aborted ∧ t.rng = s.rng) ∧
    (s.takeRx l 0x30 = some (m, u) → (u.rgrp (m.target / 2 ^ 40)).role ≠ 2 → (u.rgrp (m.target / 2 ^ 40)).parent = l →
      ∃ t, exec (.msgAdvance l) s = .next t ∧
        (m.target / 2 ^ 40, m.target / 2 ^ 24 % 65536, m.target % 2 ^ 24) ∈ t.fab.advs ∧ t.rng = s.rng)) ∧
  (∀ (s : State) (g : Nat) (q : Red) (st : Started), s.red g = some q → (s.ring q.ring).find q.idx = some st →
    (q.fin = true → s.waited = false → ((s.rgrp g).role ≠ 2 ∨ st.d.f 1 13 13 = 0) → ∃ t, exec (.reduceComplete g) s = .next t ∧ t.red g = none ∧ s.Completes t q.ring q.idx 0 0 0 ∧
      t.mem = s.mem) ∧
    (∀ v, q.fin = true → v.waited = false → (s.rgrp g).role = 2 → st.d.f 1 13 13 = 1 →
      (s.setRed g none).sorNow (16 + s.rget (Fd.RNG_CTL_CP q.ring)) (st.d.f 1 12 0) 1 (s.ringTenant q.ring) = (v, none) →
      exec (.reduceComplete g) s = .next (v.complete q.ring q.idx 0 0 0)) ∧
    (25000 * max 1 (s.rget Fd.FAB_CTL_RED_TO_MS) ≤ s.clock - q.startAt → ∃ t, exec (.reductionTimeout g) s = .next t ∧ t.red g = none ∧
      s.Completes t q.ring q.idx 0x80 0x0B0D 0))

/-- The random source, the LMS key, evidence and SPDM (R459, R468–R470, R480–R482). A failed health test takes the source out of service until ten tests, each
1 s after the last, pass in succession; indices are reserved in the ledger before they are used, and a refused reservation moves none; evidence is the
body with both signatures and uses one index, and the policy can refuse it to the host; measurements are answered with a signature; a key exchange opens
the lowest free session and END_SESSION ends one. -/
def Obligations.SecurityEngine : Prop :=
  (∀ (s : State), s.rngOk = true → ∃ t, exec .randomSourceFailure s = .next t ∧ t.rngOk = false ∧ t.sec.passes = 0 ∧ t.mem.dram = s.mem.dram ∧
    t.rget Fd.SEC_ERR_STAT_RNG_FAILS = satAdd (2 ^ (Fd.SEC_ERR_STAT_RNG_FAILS.hi + 1 - Fd.SEC_ERR_STAT_RNG_FAILS.lo) - 1)
      (s.rget Fd.SEC_ERR_STAT_RNG_FAILS) 1) ∧
  (∀ (s : State), s.rngOk = false → s.sec.retestAt + 25000000 ≤ s.clock →
    (s.sec.passes = 9 → ∃ t, exec (.randomSourceRetest true) s = .next t ∧ t.rngOk = true ∧ t.mem = s.mem) ∧
    (s.sec.passes < 9 → ∃ t, exec (.randomSourceRetest true) s = .next t ∧
      t = { s with sec := { s.sec with passes := s.sec.passes + 1, retestAt := s.clock } }) ∧
    (∃ t, exec (.randomSourceRetest false) s = .next t ∧ t.rngOk = false ∧ t.sec.passes = 0)) ∧
  (∀ (s : State), s.secUp = true → s.sec.derived = true → s.sec.lmsBusy = false → s.reserveDue = true →
    ∃ t, exec .lmsReservation s = .next t ∧ t.sec.lmsBusy = true ∧ t.sec.lmsNext = s.sec.lmsNext ∧
      t.ldg.queue = s.ldg.queue ++ [⟨[⟨0x08, 0, false, [s.sec.lmsNext + 1024], 8⟩], .lms⟩] ∧ t.regs = s.regs ∧ t.mem = s.mem) ∧
  (∀ (s : State), s.sec.lmsDone = some true → s.sec.evWait = [] →
    ∃ t, exec .lmsReservationDone s = .next t ∧ t = { s with sec := { s.sec with
      lmsBusy := false, lmsDone := none, evWait := [], lmsNext := s.lmsCommitted, lmsDue := false } }) ∧
  (∀ (s : State), s.sec.lmsDone = some false →
    ∃ t, exec .lmsReservationDone s = .next t ∧ t.sec.lmsBusy = false ∧ t.sec.lmsDone = none ∧ t.sec.evWait = [] ∧
      t.sec.lmsNext = s.sec.lmsNext ∧ t.sec.nextIdx = s.sec.nextIdx) ∧
  (∀ (s : State) (n : Nat), s.sec.building = some n →
    ∃ t, exec .lmsTreeBuilt s = .next t ∧ t = { s with sec := { s.sec with building := none, built := n } }) ∧
  (∀ (s : State), s.sec.derived = true → 2 ^ 40 - 2 ^ 36 < s.sec.nextIdx → s.sec.nextIdx ≤ 2 ^ 40 →
    (∀ c, s.sec.lowAt = some c → 2160000000000 ≤ s.clock - c) →
    ∃ t, exec .lmsIndexLow s = .next t ∧ t.sec = { s.sec with lowAt := some s.clock } ∧
      (2 ≤ s.stage → t.HasRecord 0x0C08 ((secLoc 3 0xFF 0xFFFF).code s.devId))) ∧
  (∀ (s : State) (night : Bool) (nonce : Nat),
    let body := s.evidenceBody nonce s.sec.nextIdx
    s.secUp = true → (night = true → s.rget Fd.HUB_CONN_STAT_NIGHT_UP = 1) → (night = true ∨ nbit (s.rget Fd.SEC_STAT_POLICY) 3 = false) →
    s.sec.nextIdx < 2 ^ 40 → s.signBusy = false → s.indexReady = true →
    ∃ t, exec (.getEvidence night nonce) s = .next t ∧
      t.sec.reply = body ++ (s.ecdsa s.aliasKey body).2 ++ signHss s.sec.nextIdx body ∧ t.sec.nextIdx = s.sec.nextIdx + 1 ∧
      t.sec.lmsNext = s.sec.lmsNext ∧ t.regs = s.regs ∧ t.mem = s.mem) ∧
  (∀ (s : State) (nonce : Nat), s.secUp = true → nbit (s.rget Fd.SEC_STAT_POLICY) 3 = true →
    ∃ t, exec (.getEvidence false nonce) s = .next t ∧ t.sec.nextIdx = s.sec.nextIdx ∧ t.sec.reply = ascii "ERROR " ++ ascii "RequestRefused") ∧
  (∀ (s : State) (night : Bool) (nonce : List Byte), s.secUp = true → (night = true → s.rget Fd.HUB_CONN_STAT_NIGHT_UP = 1) →
    ∃ t, exec (.spdmRequest night (.getMeasurements nonce)) s = .next t ∧
      t.sec.reply = s.measurements ++ (s.ecdsa s.aliasKey (s.measurements ++ nonce)).2 ∧ t.regs = s.regs ∧ t.mem = s.mem) ∧
  (∀ (s u : State) (night : Bool) (pub e : List Byte) (k : Nat), s.secUp = true → (night = true → s.rget Fd.HUB_CONN_STAT_NIGHT_UP = 1) →
    (List.range 4).find? (fun k => (spGet (fun _ => none) s.sec.spdm k).isNone) = some k → s.random 6 = some (u, e) →
    ∃ t, exec (.spdmRequest night (.keyExchange pub)) s = .next t ∧ (spGet (fun _ => none) t.sec.spdm k).isSome = true ∧
      (∀ j, j ≠ k → spGet (fun _ => none) t.sec.spdm j = spGet (fun _ => none) s.sec.spdm j) ∧ t.regs = s.regs ∧ t.mem = s.mem) ∧
  (∀ (s : State) (night : Bool) (k : Nat), s.secUp = true → (night = true → s.rget Fd.HUB_CONN_STAT_NIGHT_UP = 1) →
    (spGet (fun _ => none) s.sec.spdm k).isSome = true →
    ∃ t, exec (.spdmRequest night (.endSession k)) s = .next t ∧ (spGet (fun _ => none) t.sec.spdm k).isNone = true ∧
      t.sec.spdmNight = s.sec.spdmNight.filter (· != k) ∧ t.regs = s.regs ∧ t.mem = s.mem)

/-- Key slots, the owner, IDE and the TDI (R474, R476–R479, R483–R485). Erasing a tenant destroys its key at once and its sessions with the commit; an
uncorrectable key slot loses its key; an owner message is committed before it has any effect, and a refused one has none; key sets come into force
with K_SET_GO; the TDI moves from CONFIG_UNLOCKED to CONFIG_LOCKED to RUN and back. -/
def Obligations.KeysOwnerAndTdi : Prop :=
  (∀ (s : State) (r i : Nat) (d : Desc), s.opOf r i 7 5 = some d → s.eraseRefused (d.f 1 9 0) = none →
    (s.eraseWrites (d.f 1 9 0) = [] → ∃ t, exec (.tenantErase r i) s = .next t ∧ t.tenantKey (d.f 1 9 0) = none ∧
      s.Completes t r i 0 0 (s.tenantSlots (d.f 1 9 0)).length ∧ t.ses = s.ses ∧ t.mem = s.mem) ∧
    (s.eraseWrites (d.f 1 9 0) ≠ [] → ∃ t, exec (.tenantErase r i) s = .next t ∧ t.tenantKey (d.f 1 9 0) = none ∧ t.ses = s.ses ∧
      t.ldg.queue = s.ldg.queue ++ [⟨s.eraseWrites (d.f 1 9 0), .erase r i⟩] ∧ t.mem = s.mem)) ∧
  (∀ (s : State) (r i code : Nat) (d : Desc), s.opOf r i 7 5 = some d → s.eraseRefused (d.f 1 9 0) = some code →
    ∃ t, exec (.tenantErase r i) s = .next t ∧ s.Completes t r i code 0 0 ∧ t.sec = s.sec ∧ t.ses = s.ses ∧ t.mem = s.mem) ∧
  (∀ (s : State) (x : Nat), (s.slot x).key.isSome = true →
    ∃ t, exec (.keySlotUncorrectable 0 x) s = .next t ∧ (t.slot x).key = none ∧ (t.slot x).st = .lost ∧ t.mem.dram = s.mem.dram) ∧
  (∀ (s : State) (x : Nat), (s.tenantKey x).isSome = true →
    ∃ t, exec (.keySlotUncorrectable 1 x) s = .next t ∧ t.tenantKey x = none ∧ (∀ y, y ≠ x → t.tenantKey y = s.tenantKey y) ∧ t.ses = s.ses) ∧
  (∀ (s : State) (x : Nat), (spGet (fun _ => none) s.sec.spdm x).isSome = true →
    ∃ t, exec (.keySlotUncorrectable 4 x) s = .next t ∧ (spGet (fun _ => none) t.sec.spdm x).isNone = true ∧ t.ses = s.ses) ∧
  (∀ (s : State), s.sec.derived = true → ∃ t, exec (.keySlotUncorrectable 5 0) s = .next t ∧ t.sec.derived = false ∧ t.ses = s.ses) ∧
  (∀ (s : State) (x : Nat), (s.ideStream x).set0.isSome = true → (s.ideStream x).use ≠ some 0 →
    ∃ t, exec (.keySlotUncorrectable 3 (2 * x)) s = .next t ∧ t.ideStream x = { s.ideStream x with set0 := none } ∧ t.ses = s.ses) ∧
  (∀ (s : State) (k counter policy : Nat) (key sig : List Byte) (peers : List (Nat × List Byte)) (m : OwnerMsg) (c : Instr),
    ((c = .ownerClaim k counter key ∧ m = ⟨0, counter, key, 0, []⟩ ∧ sig = []) ∨ (c = .ownerRelease k counter sig ∧ m = ⟨1, counter, [], 0, []⟩) ∨
      (c = .policySet k counter policy sig ∧ m = ⟨2, counter, [], policy % 16, []⟩) ∨ (c = .peerTableLoad k counter peers sig ∧
        m = ⟨3, counter, [], 0, peers⟩)) → s.secSwitching = false →
    ∃ t, exec c s = .next t ∧ t.sec.ownerKey = s.sec.ownerKey ∧ t.sec.peers = s.sec.peers ∧ t.rget Fd.SEC_STAT_POLICY = s.rget Fd.SEC_STAT_POLICY ∧
      (s.ownerOk k m sig = true → t.sec.ownerMsgs = s.sec.ownerMsgs ++ [m] ∧ t.ldg.queue = s.ldg.queue ++ [⟨s.ownerWrites m, .owner⟩]) ∧
      (s.ownerOk k m sig = false → t.sec.ownerMsgs = s.sec.ownerMsgs ∧ t.rget Fd.SEC_ERR_STAT_REFUSED =
        satAdd (2 ^ (Fd.SEC_ERR_STAT_REFUSED.hi + 1 - Fd.SEC_ERR_STAT_REFUSED.lo) - 1) (s.rget Fd.SEC_ERR_STAT_REFUSED) 1)) ∧
  (∀ (s : State) (k stream : Nat) (key : List Byte), s.secUp = true → (spGet (fun _ => none) s.sec.spdm k).isSome = true → stream < 6 →
    ((s.ideStream stream).use ≠ some 0 → ∃ t, exec (.keyProg k stream 0 key) s = .next t ∧
      t.ideStream stream = { s.ideStream stream with set0 := some key } ∧ t.regs = s.regs ∧ t.mem = s.mem) ∧
    ((s.ideStream stream).use ≠ some 1 → ∃ t, exec (.keyProg k stream 1 key) s = .next t ∧
      t.ideStream stream = { s.ideStream stream with set1 := some key } ∧ t.regs = s.regs ∧ t.mem = s.mem)) ∧
  (∀ (s : State) (stream : Nat), stream < 6 → (s.ideStream stream).set1.isSome = true →
    ∃ t, exec (.kSetGo stream 1) s = .next t ∧ (t.ideStream stream).use = some 1 ∧ stream ∉ t.hpt.ideBad ∧ t.mem = s.mem) ∧
  (∀ (s : State) (stream : Nat), stream < 6 → (s.ideStream stream).set0.isSome = true →
    ∃ t, exec (.kSetGo stream 0) s = .next t ∧ (t.ideStream stream).use = some 0 ∧ stream ∉ t.hpt.ideBad ∧ t.mem = s.mem) ∧
  (∀ (s : State), s.tdi = 0 → s.rget Fd.SEC_TDI_BIND_VALID = 1 → (∃ n, n < 5 ∧ s.ideSecure n = true) →
    (s.hpt.hdm0.committed = true ∨ s.hpt.hdm1.committed = true → s.ideSecure 5 = true) →
    ∃ t, exec .lockInterfaceRequest s = .next t ∧ t.tdi = 1 ∧ t.rget Fd.HPT_LINK_STAT_TDISP = 1 ∧ t.mem = s.mem) ∧
  (∀ (s : State), s.tdi = 1 → ∃ t, exec .startInterfaceRequest s = .next t ∧ t.tdi = 2 ∧ t.rget Fd.HPT_LINK_STAT_TDISP = 2 ∧ t.mem = s.mem) ∧
  (∀ (s : State), ∃ t, exec .stopInterfaceRequest s = .next t ∧ t.tdi = 0 ∧ t.rget Fd.HPT_LINK_STAT_TDISP = 0 ∧ t.rng = s.rng ∧ t.mem = s.mem)

/-- The input supplies and the zones (R490, R491, R493, R494, R506). An input in range stands by where the other carries the load and carries it
otherwise; one that leaves its range, reverses or shorts no longer serves; with neither qualified everything but the Night domain is off. Failures of
cells, branches and phases, and the limits between rounds (R496, R497, R500, R502, R511, R512; the loss of the Night converter: assumption 120). Each failure is kept and committed; a rail over its limit
makes its Fronds skip two more cycles of 16, up to 12; a ramp that ends sets the clock it was for. The coolant's conditions and the hourly commit
(R519, R520, R524, R539, R589), and a round before Noon (R522): the registers take its samples. -/
def Obligations.Power : Prop :=
  ((∀ (s : State) (i : Nat), i < 2 → s.setPresent (s.rget (Fd.PWR_IN_STAT_PHYS i)) = true → s.inSt i ∈ [0, 1, 4, 5, 7] → s.qualDue i = true →
     ∃ t, exec (.inputQualified i) s = .next t ∧ t.inSt i = (if s.inSt (1 - i) = 3 then 2 else 3) ∧ t.rget (Fd.PWR_IN_STAT_SUP_OK i) = 8 ∧
       t.rget (Fd.PWR_IN_STAT_RET_OK i) = 8 ∧ t.con.shutdown = false ∧ t.mem.dram = s.mem.dram) ∧
   (∀ (s : State) (i : Nat), i < 2 → s.qualified i = true →
     (∃ t, exec (.inputDisqualified i) s = .next t ∧ t.inSt i = 7 ∧ (s.inSt i = 3 → s.inSt (1 - i) = 2 → t.inSt (1 - i) = 3) ∧
       t.rget (Fd.PWR_IN_STAT_SUP_FLAG i) = 0 ∧ t.mem.dram = s.mem.dram) ∧
     (∃ t, exec (.inputShort i) s = .next t ∧ t.inSt i = 5 ∧ (s.inSt i = 3 → s.inSt (1 - i) = 2 → t.inSt (1 - i) = 3)) ∧
     (∃ t, exec (.reversePolarity i) s = .next t ∧ t.inSt i = 4 ∧ (s.inSt i = 3 → s.inSt (1 - i) = 2 → t.inSt (1 - i) = 3))) ∧
   (∀ (s : State) (c : Nat), s.rget Fd.PWR_CTL_RETURN = 1 → s.inSt 0 = 2 → s.inSt 1 = 3 → spGet (fun _ => none) s.pwr.qualAt 0 = some c →
     25000000 ≤ s.clock - c → ∃ t, exec .returnToMain s = .next t ∧ t.inSt 0 = 3 ∧ t.inSt 1 = 2 ∧ t.pwr = s.pwr) ∧
   (∀ (s : State) (begun : Nat), s.qualified 0 = false → s.qualified 1 = false → (s.inSt 0 ≠ 0 ∨ s.inSt 1 ≠ 0) → s.con.shutdown = false →
     ∃ t, exec (.bothSuppliesLost begun) s = .next t ∧ t.con.shutdown = true ∧ t.mem.dram = [] ∧ t.mem.thl = [] ∧ t.mem.ls = [] ∧ t.rng = [] ∧
       t.frd = FrdState.init ∧ t.ses = SesState.init ∧ t.ldg.queue = [] ∧ t.part = s.part ∧ t.pending = s.pending) ∧
   (∀ (s : State) (z : Nat), s.zoneThere z = true → nbit (s.zone z) 2 = true →
     ∃ t, exec (.zoneLatchedSwitchOn z) s = .next t ∧ t.zone z = (if s.zoneLatched z then 8 else 2) ∧ (∀ y, y < 12 → y ≠ z → t.zone y = s.zone y) ∧
       s.SameRegs t (· = Fd.PWR_ZONE_STAT_ZONE.off))) ∧
  ((∀ (s : State) (c : Nat), c < 8 → c ∉ s.pwr.cells → s.pwr.cells.length ≤ 5 →
     ∃ t, exec (.cellShed c) s = .next t ∧ t.rget Fd.PWR_CAP_STAT_CELLS_OK = 8 - (s.pwr.cells.length + 1) ∧ c ∈ t.pwr.cells ∧
       ⟨[⟨4, 0x10000 + c, false, [1], 8⟩], .nobody⟩ ∈ t.ldg.queue ∧ t.mem.dram = s.mem.dram) ∧
   (∀ (s : State) (b : Nat), (b = 12 ∨ b = 13) → b ∉ s.pwr.branches →
     ∃ t, exec (.branchShort b) s = .next t ∧ b ∈ t.pwr.branches ∧ t.frd = s.frd ∧ t.mem.dram = s.mem.dram ∧ s.SameRegs t recSlot) ∧
   (∀ (s : State) (b : Nat), b < 4 → s.zoneThere b = true → b ∉ s.pwr.branches → s.fencedIn (.tower b) = false → s.switching = none →
     ∃ t, exec (.branchShort b) s = .next t ∧ b ∈ t.pwr.branches ∧ FUnit.tower b ∈ t.flt.fences) ∧
   (∀ (s : State) (k ph : Nat), k < 96 → s.groupThere k = true → ph < 4 → k * 32 + ph ∉ s.pwr.phases → s.failedPhases k = 0 →
     ∃ t, exec (.phaseFail k ph) s = .next t ∧ k * 32 + ph ∈ t.pwr.phases ∧ t.rget (Fd.PWR_PHASE_SHED (k / 24)) =
         satAdd (2 ^ ((Fd.PWR_PHASE_SHED (k / 24)).hi + 1 - (Fd.PWR_PHASE_SHED (k / 24)).lo) - 1) (s.rget (Fd.PWR_PHASE_SHED (k / 24))) 1 ∧
       ⟨[⟨4, k, false, [2 ^ ph], 8⟩], .nobody⟩ ∈ t.ldg.queue ∧ t.frd = s.frd ∧ t.mem.dram = s.mem.dram) ∧
   (∀ (s : State) (k ph : Nat), k < 96 → s.groupThere k = true → ph < 4 → k * 32 + ph ∉ s.pwr.phases → s.failedPhases k = 1 →
     ∃ t, exec (.phaseFail k ph) s = .next t ∧ k * 32 + ph ∈ t.pwr.phases ∧ nbit (t.rget (Fd.PWR_PHASE_REDUCED (k / 24))) (k % 24) = true ∧
       t.frd = s.frd ∧ t.mem.dram = s.mem.dram) ∧
   (∀ (s : State), 154 * 32 ∈ s.pwr.phases → s.failedPhases 154 = 1 → 154 * 32 + 1 ∉ s.pwr.phases →
     ∃ t, exec (.phaseFail 154 1) s = .next t ∧ t.rget Fd.HUB_CONN_STAT_NIGHT_UP = 0 ∧ t.ldg.queue = [] ∧ t.nightOn = false ∧ t.frd = s.frd ∧
       t.ses = s.ses ∧ t.mem = s.mem) ∧
   (∀ (s : State) (tw rail : Nat), tw < s.towers → rail < 15 →
     ∃ t, exec (.railOverLimit tw rail) s = .next t ∧
       (∀ f, t.skip f = if f ∈ (railFronds rail).map (· + 4 * tw) then min 12 (s.skip f + 2) else s.skip f) ∧
       t.rget (Fd.PWR_TWR_FAST_LIMITS tw) = satAdd (2 ^ 16 - 1) (s.rget (Fd.PWR_TWR_FAST_LIMITS tw)) 1 ∧ t.mem = s.mem) ∧
   (∀ (s : State), ∃ t, exec .inputOverLimit s = .next t ∧
       (∀ f, f < s.fronds → t.skip f = if s.inRun f then min 12 (s.skip f + 2) else s.skip f) ∧ t.regs = s.regs ∧ t.mem = s.mem) ∧
   (∀ (s : State) (f c at_ : Nat), f < 16 → s.clkUp f = some (c, at_) → at_ + s.rampTime f c ≤ s.clock →
     ∃ t, exec (.voltageRampDone f) s = .next t ∧ t.clk f = c / 50 % 256 * 50 ∧ t.volt f = max (s.volt f) (voltFor c) ∧ t.clkUp f = none ∧
       t.mem = s.mem) ∧
   (∀ (s : State) (f c at_ : Nat), s.clkUp f = some (c, at_) → s.clock < at_ + s.rampTime f c → exec (.voltageRampDone f) s = .next s)) ∧
  ((∀ (s : State), s.nightOn = true → ∃ t, exec .flowPresent s = .next t ∧ t.rget Fd.THM_COOL_FLOW_OK = 1 ∧ t.rget Fd.BOOT_STAT_FLOW_WAIT = 0 ∧
     s.SameRegs t (fun off => off = Fd.THM_COOL_FLOW_OK.off ∨ off = Fd.BOOT_STAT_FLOW_WAIT.off) ∧ t.mem = s.mem) ∧
   (∀ (s : State), ∃ t, exec .lowFlow s = .next t ∧ (2 ≤ s.stage → t.HasRecord 0x0E0D ((lidLoc 2).code s.devId)) ∧ s.SameRegs t recSlot ∧
     t.frd = s.frd ∧ t.pwr = s.pwr ∧ t.thm = s.thm ∧ t.mem.dram = s.mem.dram) ∧
   (∀ (s : State), ∃ t, exec .coolantLost s = .next t ∧ t.rget Fd.THM_COOL_FLOW_OK = 0 ∧
     (2 ≤ s.stage → t.HasRecord 0x0E0E ((lidLoc 2).code s.devId)) ∧ t.frd = s.frd ∧ t.pwr = s.pwr ∧ t.mem.dram = s.mem.dram) ∧
   (∀ (s : State), s.rget Fd.THM_COOL_REVERSED = 0 → ∃ t, exec .reversedFlow s = .next t ∧ t.rget Fd.THM_COOL_REVERSED = 1 ∧
     (2 ≤ s.stage → t.HasRecord 0x0E0B ((lidLoc 2).code s.devId)) ∧ t.frd = s.frd ∧ t.mem.dram = s.mem.dram) ∧
   (∀ (s : State), s.rget Fd.THM_COOL_REVERSED = 1 → ∃ t, exec .reversedFlowCleared s = .next t ∧ t.rget Fd.THM_COOL_REVERSED = 0 ∧
     (2 ≤ s.stage → t.HasRecord 0x0E0C ((lidLoc 2).code s.devId)) ∧ t.frd = s.frd ∧ t.mem.dram = s.mem.dram) ∧
   (∀ (s : State), s.atNoon = true → s.hourDue = true → ∃ t, exec .hourlyCommit s = .next t ∧
     t.ldg.queue = s.ldg.queue ++ [⟨s.wearWrites, .nobody⟩] ∧ t.ldg.hourAt = s.clock ∧ t.regs = s.regs ∧ t.mem = s.mem) ∧
   (∀ (s : State) (h : HkSample), s.nightOn = true → s.thm.started = false → s.atNoon = false →
     (∀ i, spGet (fun _ => 0) h.volts i < 65536) → (∀ i, spGet (fun _ => 0) h.amps i < 65536) → h.inputW < 4096 →
     ∃ t, exec (.housekeepingRound h) s = .next t ∧ t.rget (Fd.PWR_IN_STAT_VOLTAGE 0) = spGet (fun _ => 0) h.volts 0 ∧
       t.rget (Fd.PWR_IN_STAT_VOLTAGE 1) = spGet (fun _ => 0) h.volts 1 ∧ t.rget (Fd.PWR_IN_STAT_CURRENT 0) = spGet (fun _ => 0) h.amps 0 ∧
       t.rget Fd.THM_COOL_INLET = h.inlet.toNat % 65536 ∧ t.rget Fd.THM_COOL_BAND = flowBand h.flow ∧ t.rget Fd.PWR_CAP_STAT_INPUT_W = h.inputW ∧
       t.frd = s.frd ∧ t.mem.dram = s.mem.dram ∧ t.thm = s.thm) ∧
   (∀ (s : State) (h : HkSample), s.nightOn = false → exec (.housekeepingRound h) s = .next s) ∧
   (∀ (s : State) (h : HkSample) (f : Nat), s.calFault (f / 4) = false →
     (105000 ≤ s.frondHot h f → (s.levelStep h f).level f = min 5 (s.level f + 1)) ∧
     (100000 ≤ s.frondHot h f → s.frondHot h f < 105000 → (s.levelStep h f).level f = s.level f) ∧
     (s.frondHot h f < 100000 → (s.levelStep h f).level f ≤ s.level f) ∧ ∀ g, g ≠ f → (s.levelStep h f).level g = s.level g))

/-- The stages to First light (R537–R543). Night begins a cold start once a supply is up; Predawn begins with flow and a closed latch and applies the
committed repairs; First light mounts the ledger and takes its images, or goes to the recovery loader; after three failed starts it ends in Twilight mode (R555). The stages from Dawn to Noon (R544–R551). Each
does its work and then passes to the next stage, or fails where nothing of what it must bring up is up; Noon is reached when no training is left. -/
def Obligations.BringUpStages : Prop :=
  ((∀ (s : State), s.nightOn = true → s.fencedAt .modul = false → s.boot.running = false → s.stage = 0 → s.atNoon = false → s.boot.retryAt = none → s.boot.failed = none →
     s.rget Fd.HUB_CONN_STAT_RM_PHASE = 0 →
     (∃ t, exec (.nightStage true) s = .next t ∧ t.boot.running = true ∧ t.stage = 0 ∧ t.ldg.starts = s.ldg.starts + 1 ∧
       (report t.boot.reports 0).outcome = 0 ∧ (s.rget Fd.THM_COOL_FLOW_OK = 0 → t.rget Fd.BOOT_STAT_FLOW_WAIT = 1)) ∧
     (∃ t, exec (.nightStage false) s = .next t ∧ t.boot.running = false ∧ t.boot.failed = some (0, 0x0F02) ∧ t.ldg.starts = s.ldg.starts + 1)) ∧
   (∀ (s u : State) (bad : List Nat) (inlet : Option Int), s.predawnReady = true → s.stage = 1 →
     u = ({ s with boot := { s.boot with predawn := true } } : State).applyPower → u.pwr.cells.length ≤ 6 → 5 ≤ u.hubGroups →
     s.rget Fd.HUB_CONN_STAT_REMOVE = 0 →
     ∃ t, exec (.predawn true bad inlet) s = .next t ∧ t.stage = 2 ∧ t.boot.running = true ∧ t.boot.predawn = true ∧ t.thm.started = true) ∧
   (∀ (s : State) (bad : List Nat) (inlet : Option Int), s.predawnReady = true →
     ∃ t, exec (.predawn false bad inlet) s = .next t ∧ t.boot.running = false ∧ t.boot.failed = some (1, 0x0F03)) ∧
   (∀ (s u : State) (crc mac : List (Bool × Nat)) (coresBad : List Nat) (unreadable : Bool), s.inStage 2 = true →
     s.earlyEnter.ldgMount crc mac unreadable = (u, true) →
     ∃ t, exec (.firstLight crc mac unreadable true coresBad) s = .next t ∧
       ((u.pickImage 0).2 = none → t.rget Fd.BOOT_STAT_LOADER = 1 ∧ t.stage = 7 ∧ t.boot.running = false) ∧
       (∀ v q, u.pickImage 0 = (v, some q) → v.secStart.powerMacOk = false → t.boot.failed = some (2, 0x1006) ∧ t.boot.running = false) ∧
       (∀ v w q, u.pickImage 0 = (v, some q) → v.secStart.powerMacOk = true → v.secStart.pickImage 1 = (w, none) →
         t.rget Fd.BOOT_STAT_LOADER = 1 ∧ t.stage = 7 ∧ t.boot.running = false) ∧
       (∀ v w q p, u.pickImage 0 = (v, some q) → v.secStart.powerMacOk = true → v.secStart.pickImage 1 = (w, some p) →
         t = w.coresStart coresBad)) ∧
   (∀ (s : State) (coresBad : List Nat), s.boot.cores = [] → 2 ≤ ((List.range 4).filter (fun i => !coresBad.contains i)).length →
     s.rget Fd.HUB_CONN_STAT_REMOVE = 0 → s.boot.running = true →
     (s.coresStart coresBad).boot.cores = (List.range 4).filter (fun i => !coresBad.contains i) ∧
     (s.rget Fd.BOOT_STAT_FAILED_STARTS < 3 ∨ s.boot.fromTwilight = true →
       (s.coresStart coresBad).stage = 3 ∧ (s.coresStart coresBad).boot.running = true) ∧
     (3 ≤ s.rget Fd.BOOT_STAT_FAILED_STARTS → s.boot.fromTwilight = false →
       (s.coresStart coresBad).stage = 7 ∧ (s.coresStart coresBad).twilight = true ∧ (s.coresStart coresBad).boot.running = false)) ∧
   (∀ (s u : State) (crc mac : List (Bool × Nat)) (coresBad : List Nat) (unreadable up : Bool), s.inStage 2 = true →
     s.earlyEnter.ldgMount crc mac unreadable = (u, false) →
     ∃ t, exec (.firstLight crc mac unreadable up coresBad) s = .next t ∧ t.boot.failed = some (2, 0x0F04) ∧ t.boot.running = false)) ∧
  ((∀ (s : State) (lost : List (Nat × Nat × List (Nat × Nat))),
     let z := (s.zones.foldl (fun s z => s.zoneOn z) s).applyLasers.darkEngines
     let v := [2, 3, 4, 5, 6, 7].foldl (fun (acc : State × Nat × Nat) c =>
       ((acc.1.sporeClass lost c).1, acc.2.1 + (acc.1.sporeClass lost c).2.1, max acc.2.2 (acc.1.sporeClass lost c).2.2)) (z, 0, 0)
     s.inStage 3 = true →
     ∃ t, exec (.dawn lost) s = .next t ∧
       ((∃ k, k < v.1.towers ∧ v.1.rget (Fd.TWR_STAT_STEWARD_UP k) ≠ 0) → t = v.1.stageEnd 3 (min 255 v.2.1) v.2.2) ∧
       ((∀ k, k < v.1.towers → v.1.rget (Fd.TWR_STAT_STEWARD_UP k) = 0) → t.boot.failed = some (3, 0x0F0D) ∧ t.boot.running = false)) ∧
   (∀ (s : State) (k : Nat), s.inStage 4 = true → k < s.towers → s.rget (Fd.TWR_STAT_STATE k) = 2 → s.rget Fd.HUB_CONN_STAT_REMOVE = 0 →
     s.pwr.phases = [] → s.ldgKeys 1 = [] → s.ldgKeys 2 = [] → s.thl.tsvRet = [] → s.thl.bundleRet = [] →
     ∃ t, exec (.sunrise [] [] [] []) s = .next t ∧ t.stage = 5 ∧ t.boot.running = true ∧ t.rget (Fd.TWR_STAT_STATE k) = 3 ∧ t.mem = s.mem) ∧
   (∀ (s : State) (f : Nat), s.inStage 5 = true → f < s.fronds → s.rget (Fd.TWR_STAT_STATE (f / 4)) = 3 → (s.fr f).inReset = false →
     (s.fr f).stubFenced = false → s.fencedIn (.frond f) = false → s.rget Fd.HUB_CONN_STAT_REMOVE = 0 → s.pwr.phases = [] → s.ldgKeys 3 = [] →
     (∀ k, k < s.towers → s.rget (Fd.PNW_LINK_STAT_FENCED k) = 0) →
     ∃ t, exec (.morning [] [] []) s = .next t ∧ t.stage = 6 ∧ t.boot.running = true ∧ t.rget (Fd.TWR_STAT_STATE (f / 4)) = 4 ∧ t.frondUp f = true ∧
       t.hpt.capGen = 2 ∧ t.thl.distGen = 2 ∧ t.ses.pools = [] ∧ t.sor.sori = []) ∧
   (∀ (s : State), s.inStage 6 = true → s.atNoon = false → s.hpt.ready = true → (∀ l, l < 32 → s.linkThere l = true → s.linkState l ≠ 1) →
     s.rget Fd.HUB_CONN_STAT_REMOVE = 0 → s.fwu.raises = [] →
     (∀ c ∈ updateOrder, (s.ldgWords 0x0D c).getD 1 0 ≠ 1) →
     ∃ t, exec .noon s = .next t ∧ t.atNoon = true ∧ t.boot.running = false ∧ t.boot.noonAt = some s.clock ∧ t.mem.dram = s.mem.dram))

/-- Failed starts and Twilight mode (R538, R554–R558). A stage out of time fails; a failed start is counted, committed and tried again after one second,
and the third goes to Twilight mode, the zones off either way; a removal request ends the start uncounted (R540), and a module whose ROM fails stays in Night; after an hour at Noon the count is cleared. -/
def Obligations.FailedStarts : Prop :=
  (∀ (s : State), s.stageWorks = true → stageTimeout s.stage ≤ s.elapsed →
    ∃ t, exec .stageTimeout s = .next t ∧ t.boot.failed = some (s.stage, 0x0F01) ∧ t.boot.running = false ∧
      (report t.boot.reports s.stage).outcome = 3 ∧ (report t.boot.reports s.stage).fatal = 0x0F01) ∧
  (∀ (s : State) (n reason : Nat), s.boot.failed = some (n, reason) → reason ≠ 0x0F02 → s.rget Fd.HUB_CONN_STAT_REMOVE = 0 → n < 8 → reason < 65536 →
    ∃ t, exec .failedStartCounted s = .next t ∧ t.rget Fd.BOOT_STAT_FAILED_STARTS = min 15 (s.rget Fd.BOOT_STAT_FAILED_STARTS + 1) ∧
      t.rget Fd.BOOT_STAT_FAIL_STAGE = n ∧ t.rget Fd.BOOT_STAT_FAIL_REASON = reason ∧ t.boot.failed = none ∧
      t.boot.lastFailed = s.boot.reports ∧ (s.rget Fd.BOOT_STAT_FAILED_STARTS < 2 → t.boot.retryAt = some (s.clock + 25000000)) ∧
      (2 ≤ s.rget Fd.BOOT_STAT_FAILED_STARTS → t.twilight = true ∧ t.stage = 7 ∧ t.hpt.ready = true) ∧
      t.rget Fd.SES_STAT_ENGINE_UP = 0 ∧ (∀ k, k < s.towers → t.towerUp k = false)) ∧
  (∀ (s : State) (n reason : Nat), s.boot.failed = some (n, reason) → reason ≠ 0x0F02 → s.rget Fd.HUB_CONN_STAT_REMOVE = 1 →
    ∃ t, exec .failedStartCounted s = .next t ∧ t.rget Fd.BOOT_STAT_FAILED_STARTS = s.rget Fd.BOOT_STAT_FAILED_STARTS ∧ t.boot.failed = none ∧
      t.boot.running = false ∧ t.rget Fd.HUB_CONN_STAT_RM_PHASE = 1) ∧
  (∀ (s : State) (n : Nat), s.boot.failed = some (n, 0x0F02) → exec .failedStartCounted s = .next s) ∧
  (∀ (s : State) (c : Nat), s.boot.retryAt = some c → c ≤ s.clock → s.rget Fd.HUB_CONN_STAT_RM_PHASE = 0 →
    ∃ t, exec .startRetry s = .next t ∧ t.boot.running = true ∧ t.stage = 1 ∧ t.ldg.starts = s.ldg.starts + 1 ∧ t.boot.retryAt = none ∧
      t.boot.fromTwilight = s.twilight ∧ t.twilight = false ∧
      t.rget Fd.BOOT_STAT_FAILED_STARTS = s.rget Fd.BOOT_STAT_FAILED_STARTS) ∧
  (∀ (s : State) (c : Nat), s.boot.noonAt = some c → s.atNoon = true → s.rget Fd.BOOT_STAT_FAILED_STARTS ≠ 0 → 90000000000 ≤ s.clock - c →
    ∃ t, exec .failedStartCountCleared s = .next t ∧ t.rget Fd.BOOT_STAT_FAILED_STARTS = 0 ∧
      t.ldg.queue.getLast? = some ⟨[t.bootRec], .nobody⟩ ∧ t.mem.dram = s.mem.dram) ∧
  (∀ (s : State), s.twilight = true → s.rget Fd.HUB_CONN_STAT_RM_PHASE = 0 →
    ∃ t, exec .retry s = .next t ∧ t.boot.running = true ∧ t.stage = 1 ∧ t.boot.fromTwilight = true ∧ t.ldg.starts = s.ldg.starts + 1) ∧
  (∀ (s : State), s.rget Fd.BOOT_STAT_LOADER = 1 → s.rget Fd.HUB_CONN_STAT_RM_PHASE = 0 →
    ∃ t, exec .recoveryLoaderStart s = .next t ∧
      (([0, 1].all (fun c => s.slotPasses 0 c || s.slotPasses 1 c)) = true → t.boot.running = true ∧ t.stage = 1 ∧ t.boot.fromTwilight = true) ∧
      (([0, 1].all (fun c => s.slotPasses 0 c || s.slotPasses 1 c)) = false → t = s))

/-- Restarts (R559–R563). A RESTART of a Frond that can be restarted fences it and runs, and one of a tower switches its rails; one whose Frond already restarts or drains is latched; one that cannot be
completes with status 2. A restart that ends well returns the Frond to service with its local store zero, or the tower with its zone on; one that fails leaves the unit fenced, with status 1. -/
def Obligations.Restarts : Prop :=
  (∀ (s : State) (r i f : Nat) (d : Desc) (wb : Bool), s.opOf r i 7 6 = some d → d.f 1 8 8 = 0 → d.f 1 3 0 = f →
    (s.restartable f = false → ∃ t, exec (.restart r i wb) s = .next t ∧ s.Completes t r i 2 0 0 ∧ t.boot = s.boot ∧ t.flt = s.flt) ∧
    (s.restartable f = true → s.restarting (16 + f / 4) = false → (s.restarting f || s.drainRuns f) = true → ∃ t, exec (.restart r i wb) s = .next t ∧
      restartsOf t.boot.latched f = some ((restartsOf s.boot.latched f).getD [] ++ [(r, i)]) ∧ t.flt = s.flt ∧ t.mem = s.mem) ∧
    (s.restartable f = true → s.restarting (16 + f / 4) = false → s.restarting f = false → s.switchHolds f = false → s.drainRuns f = false → s.fencedIn (.frond f) = false →
      s.switching = none → ∃ t, exec (.restart r i wb) s = .next t ∧ restartsOf t.boot.restarting f = some [(r, i)] ∧
      FUnit.frond f ∈ t.flt.fences)) ∧
  (∀ (s : State) (r i k : Nat) (d : Desc) (wb : Bool), s.opOf r i 7 6 = some d → d.f 1 8 8 = 1 → d.f 1 3 0 = k → s.restartable (16 + k) = true →
    s.restarting (16 + k) = false → s.switchHolds (16 + k) = false → s.fencedAt (.tower k) = true →
    (∀ f, restartsOf s.boot.restarting f = none ∧ restartsOf s.boot.latched f = none) →
    ∃ t, exec (.restart r i wb) s = .next t ∧ restartsOf t.boot.restarting (16 + k) = some [(r, i)] ∧ t.zone k = 7 ∧ t.rget (Fd.TWR_STAT_STATE k) = 6 ∧
      (∀ a, a / 2 ^ 32 = k → memGet t.mem.thl a = 0#8)) ∧
  (∀ (s : State) (f r i : Nat), f < s.fronds → s.restarting f = true → restartsOf s.boot.restarting f = some [(r, i)] → s.moving f = false →
    s.drainRuns f = false → s.boot.refenced.contains f = false → s.fencedIn (.tower (f / 4)) = false → ((s.ring r).find i).isSome = true →
    (∀ k, s.krn f k = none) → (s.fr f).lq = [] → (s.fr f).stub = [] → (s.fr f).sbuf = [] → (∀ c, (s.dma f c).queue = []) →
    (∃ t, exec (.restartCompleted f false [] [] [] [] []) s = .next t ∧ restartsOf t.boot.restarting f = none ∧ (t.fr f).inReset = true ∧
      s.Completes t r i 1 0 0) ∧
    ∃ t, exec (.restartCompleted f true [] [] [] [] []) s = .next t ∧ FUnit.frond f ∉ t.flt.fences ∧ restartsOf t.boot.restarting f = none ∧
      (t.fr f).inReset = false ∧ t.sleep f = 0 ∧ s.Completes t r i 0 0 0 ∧
      (∀ a, a < 2 ^ 24 → memGet t.mem.ls (f * 2 ^ 24 + a) = 0#8)) ∧
  (∀ (s : State) (k r i : Nat), k < s.towers → s.restarting (16 + k) = true → restartsOf s.boot.restarting (16 + k) = some [(r, i)] →
    s.zoneLatched k = false → s.zoneState k = 2 → ((s.ring r).find i).isSome = true →
    (∃ t, exec (.restartCompleted (16 + k) false [] [] [] [] []) s = .next t ∧ t.rget (Fd.TWR_STAT_STATE k) = 5 ∧
      restartsOf t.boot.restarting (16 + k) = none ∧ s.Completes t r i 1 0 0) ∧
    (s.boot.refenced.contains (16 + k) = false → (∀ f, f / 4 = k → (∀ j, s.krn f j = none) ∧ (s.fr f).lq = [] ∧ (s.fr f).stub = [] ∧
      (s.fr f).sbuf = [] ∧ (∀ c, (s.dma f c).queue = [])) →
      ∃ t, exec (.restartCompleted (16 + k) true [] [] [] [] []) s = .next t ∧ t.rget (Fd.TWR_STAT_STATE k) = 4 ∧ t.zone k = 1 ∧
        FUnit.tower k ∉ t.flt.fences ∧ restartsOf t.boot.restarting (16 + k) = none ∧ s.Completes t r i 0 0 0)) ∧
  (∀ (s : State) (u : Nat) (wb : Bool) (l : List (Nat × Nat)), restartsOf s.boot.latched u = some l → s.restarting u = false → s.switchHolds u = false → (u < 16 → s.drainRuns u = false) →
    ∃ t, exec (.restartLatchedStart u wb) s = .next t ∧ t = (s.setRestartLatched u none).restartBegin u l wb) ∧
  (∀ (s : State) (f : Nat), f < 16 → s.rget Fd.BOOT_CTL_AUTO_FROND = 1 → s.boot.wakeFenced.contains f = true → s.boot.autoTried.contains f = false →
    s.fencedAt (.frond f) = true → s.restarting f = false → s.drainRuns f = false → s.restartable f = true →
    ∃ t, exec (.autoFrondRestart f) s = .next t ∧ f ∈ t.boot.autoTried ∧ restartsOf t.boot.restarting f = some [] ∧ t.mem = s.mem ∧ t.flt = s.flt)

/-- Commits, compaction, the daily pass and failed lasers (R569, R572–R576, R584, R590, R591, R666). A commit writes its records, the last one first in the
half's list, to every half that accepts records, with consecutive SEQ values, and one TXN and a SEAL on the last where there is more than one; with no
half left it is refused and counted. A page that fails is replaced
from the pool and the commit goes on. Compaction keeps every live record as it was; a failed laser takes a spare, and one without a spare loses its lane. -/
def Obligations.LedgerAndLasers : Prop :=
  (∀ (s : State) (r : LReq) (l : List LReq) (badA badB : Option Nat), s.waited = false → s.ldg.queue = r :: l → r.who = .nobody →
    ((s.ldg.okA = true ∧ badA = none ∧ badB = none) →
      ∃ t, exec (.ledgerCommit badA badB) s = .next t ∧ l <+: t.ldg.queue ∧ t.ldg.seq = s.ldg.seq + r.ws.length ∧
        t.ldg.halfA.drop r.ws.length = s.ldg.halfA ∧
        (∀ i, i < r.ws.length → t.ldg.halfA[r.ws.length - 1 - i]? = r.ws[i]?.map (fun w =>
          ⟨w, s.ldg.seq + 1 + i, if r.ws.length ≤ 1 then 0 else s.ldg.seq + 1, decide (1 < r.ws.length) && decide (i + 1 = r.ws.length), true, true⟩)) ∧
        t.ldg.halfB = (if s.ldg.okB then t.ldg.halfA.take r.ws.length ++ s.ldg.halfB else s.ldg.halfB) ∧ t.mem.dram = s.mem.dram) ∧
    ((s.ldg.okA = false ∧ s.ldg.okB = false) →
      ∃ t, exec (.ledgerCommit badA badB) s = .next t ∧ l <+: t.ldg.queue ∧ t.ldg.halfA = s.ldg.halfA ∧ t.ldg.halfB = s.ldg.halfB ∧
        (2 ≤ s.stage → t.HasRecord 0x1001 ((commitLoc 0x10).code s.devId)) ∧
        t.rget Fd.LDG_STAT_REFUSED =
          satAdd (2 ^ (Fd.LDG_STAT_REFUSED.hi + 1 - Fd.LDG_STAT_REFUSED.lo) - 1) (s.rget Fd.LDG_STAT_REFUSED) 1)) ∧
  (∀ (s : State) (ws : List LWrite) (l : List LReq), s.waited = false → s.ldg.queue = ⟨ws, .starts⟩ :: l → s.ldg.okA = true →
    ∃ t, exec (.ledgerCommit none none) s = .next t ∧ t.boot.startsHeld = false ∧ t.ldg.seq = s.ldg.seq + ws.length) ∧
  (∀ (s : State) (p : Nat) (r : LReq) (l : List LReq), s.waited = false → s.ldg.queue = r :: l → r.who = .nobody → s.ldg.okA = true → s.ldg.okB = true → 1 < s.ldg.poolPages →
    ∃ t, exec (.ledgerCommit (some p) none) s = .next t ∧ t.ldg.okA = true ∧ t.ldg.okB = true ∧
      (2 ≤ s.stage → t.HasRecord 0x1003 ((pageLoc 0x10 p).code s.devId))) ∧
  (∀ (s : State), s.ldg.queue = [] → exec (.ledgerCommit none none) s = .next s) ∧
  (∀ (s : State) (b : Bool), s.halfFree b < 8 * 2 ^ 20 →
    ∃ t, exec (.compaction b) s = .next t ∧ (∀ sec key, t.ldgLive sec key = s.ldgLive sec key) ∧
      (if b then t.ldg.halfA = s.ldg.halfA ∧ t.ldg.halfB.Sublist s.ldg.halfB else t.ldg.halfB = s.ldg.halfB ∧ t.ldg.halfA.Sublist s.ldg.halfA) ∧
      t.ldg.seq = s.ldg.seq ∧ t.mem.dram = s.mem.dram) ∧
  (∀ (s : State) (b : Bool), 8 * 2 ^ 20 ≤ s.halfFree b → exec (.compaction b) s = .next s) ∧
  (∀ (s : State) (q : Nat) (c : LCopy), s.dailyDue = true → s.ldg.okA = true → s.ldg.halfB.find? (fun c => c.seq == q && c.crcOk) = some c →
    ∃ t, exec (.ledgerDailyRead [] [(false, q)]) s = .next t ∧ t.ldg.halfB = s.ldg.halfB ∧ c ∈ t.ldg.halfA ∧ (∀ d ∈ t.ldg.halfA, d.seq = q → d = c) ∧
      (∀ d, d.seq ≠ q → (d ∈ t.ldg.halfA ↔ d ∈ s.ldg.halfA)) ∧ t.ldg.correctedPages = [] ∧ t.ldg.dailyAt = some s.clock) ∧
  (∀ (s : State) (pages : List (Nat × Nat)) (crc : List (Bool × Nat)), s.dailyDue = false → exec (.ledgerDailyRead pages crc) s = .next s) ∧
  (∀ (s : State) (e n : Nat), s.enginePresent e = true → n < engineLasers e → s.laser e n ≤ 1 → s.sparesUsed e (spareGroup e n) < groupSpares e →
    ∃ t, exec (.laserFailed e n) s = .next t ∧ t.laser e n = 0 ∧ t.sparesUsed e (spareGroup e n) = s.sparesUsed e (spareGroup e n) + 1 ∧
      (2 ≤ s.stage → t.HasRecord 0x100D ((laserLoc e n).code s.devId)) ∧
      (e < 16 → s.linkState (if s.portSplit e then 2 * e + n / 4 else 2 * e) = 2 →
        t.linkState (if s.portSplit e then 2 * e + n / 4 else 2 * e) = 3) ∧ t.mem.dram = s.mem.dram ∧ t.fab = s.fab) ∧
  (∀ (s : State) (e n : Nat), s.enginePresent e = true → n < engineLasers e → s.laser e n ≤ 1 → groupSpares e ≤ s.sparesUsed e (spareGroup e n) →
    ∃ t, exec (.laserFailed e n) s = .next t ∧ t.laser e n = 3 ∧ t.sparesUsed e (spareGroup e n) = s.sparesUsed e (spareGroup e n) ∧
      (e < 16 → FUnit.port (portLoc (if s.portSplit e then 2 * e + n / 4 else 2 * e)) ∈ t.flt.fences) ∧ (e = 17 → t.rget Fd.HUB_CONN_STAT_NIGHT_UP = 0))

/-- Delivery, the fault ring, the flip mask and eviction (R597, R606, R607, R609, R611, R616). A held record is released after its time; the ring starts
at the next record, its other settings fixed while it is enabled; its interrupt is sent at most once in 100 µs; an arm that finds its target arms, any
other is refused, and under LOCK none arms; EVICT cleared ends every eviction, and under LOCK nothing of the pacing settings changes. -/
def Obligations.FaultUnit : Prop :=
  (∀ (s : State) (seq i : Nat) (r : FaultRec), findIdxFrom (fun q => q.seq == seq && q.held) s.flt.log 0 = some i → s.flt.log[i]? = some r →
    s.rget Fd.FLT_CTL_COAL_MS * 25000 ≤ s.clock - r.timestamp →
    ∃ t, exec (.recordHoldEnd seq) s = .next t ∧ t.flt.log = s.flt.log.set i { r with held := false } ∧ s.SameRegs t recSlot ∧
      t.mem.dram = s.mem.dram ∧ t.frd = s.frd) ∧
  (∀ (s : State) (v : W64), s.rget Fd.FLT_RING_CTL_EN = 0 → bit v 63 = true →
    ∃ t, exec (.faultRingEnable v) s = .next t ∧ t.rget Fd.FLT_RING_CTL_EN = 1 ∧ t.rget Fd.FLT_RING_PTR_HEAD = s.flt.seqNext % 2 ^ 32 ∧
      t.rget Fd.FLT_RING_PTR_DELIVERED = s.flt.seqNext % 2 ^ 32 ∧ t.rget Fd.FLT_RING_CTL_LOG2N = fld v 62 58 ∧
      t.rget Fd.FLT_RING_CTL_MIN_SEV = fld v 57 55 ∧ t.rget Fd.FLT_RING_CTL_VECTOR = fld v 42 32 ∧ t.mem = s.mem) ∧
  (∀ (s : State) (v : W64), s.rget Fd.FLT_RING_CTL_EN = 1 →
    ∃ t, exec (.faultRingEnable v) s = .next t ∧ t.rget Fd.FLT_RING_CTL_EN = fld v 63 63 ∧ t.rget Fd.FLT_RING_CTL_LOG2N = s.rget Fd.FLT_RING_CTL_LOG2N ∧
      t.rget Fd.FLT_RING_CTL_MIN_SEV = s.rget Fd.FLT_RING_CTL_MIN_SEV ∧ t.rget Fd.FLT_RING_CTL_IRQ_EN = fld v 54 54 ∧
      s.SameRegs t (· = Fd.FLT_RING_CTL_EN.off) ∧ t.mem = s.mem ∧ t.flt = s.flt) ∧
  (∀ (s : State), s.flt.ringIrqDue = true → (∀ c, s.flt.ringIrqAt = some c → 2500 ≤ s.clock - c) →
    ∃ t, exec .faultRingIrq s = .next t ∧ t.flt.ringIrqDue = false ∧ t.flt.ringIrqAt = some s.clock ∧ t.regs = s.regs ∧ t.mem = s.mem ∧
      (if s.msiMasked (s.rget Fd.FLT_RING_CTL_VECTOR) || !s.hostUp then t.hpt.sent = s.hpt.sent
        else t.hpt.sent = s.rget Fd.FLT_RING_CTL_VECTOR :: s.hpt.sent)) ∧
  (∀ (s : State) (v : W64), bit v 62 = true → s.rget Fd.FLT_INJ_CTL_LOCK = 0 →
    ∃ t, exec (.arm v) s = .next t ∧ t.rget Fd.FLT_INJ_CTL_KIND = fld v 55 52 ∧ t.rget Fd.FLT_INJ_CTL_MODE = fld v 59 58 ∧
      t.rget Fd.FLT_INJ_CTL_LOCK = fld v 63 63 ∧ t.rget Fd.FLT_INJ_CTL_ARM + t.rget Fd.FLT_INJ_CTL_REFUSED = 1 ∧
      (t.rget Fd.FLT_INJ_CTL_ARM = 1 ↔ injKindOk (fld v 55 52) s.injLoc = true ∧ s.tdiLocked = false ∧ s.injPresent s.injLoc = true ∧
        s.fencedIn (injUnit s.injLoc) = false ∧ nfld (s.rget Fd.FLT_INJ_LOC_LOCATION) 63 50 = s.devId ∧
        (fld v 55 52 = 2 → fld v 44 39 ≤ 35 ∧ fld v 38 33 ≤ 35)) ∧
      s.SameRegs t (· = Fd.FLT_INJ_CTL_ARM.off) ∧ t.mem = s.mem) ∧
  (∀ (s : State) (v : W64), bit v 62 = true → s.rget Fd.FLT_INJ_CTL_LOCK = 1 →
    ∃ t, exec (.arm v) s = .next t ∧ t.rget Fd.FLT_INJ_CTL_ARM = 0 ∧ t.rget Fd.FLT_INJ_CTL_REFUSED = 1 ∧ t.rget Fd.FLT_INJ_CTL_LOCK = 1 ∧
      s.SameRegs t (· = Fd.FLT_INJ_CTL_ARM.off) ∧ t.mem = s.mem) ∧
  (∀ (s : State) (v : W64), bit v 62 = false →
    ∃ t, exec (.arm v) s = .next t ∧ t.rget Fd.FLT_INJ_CTL_ARM = 0 ∧ (bit v 61 = true → t.rget Fd.FLT_INJ_CTL_DONE = 0) ∧
      (bit v 60 = true → t.rget Fd.FLT_INJ_CTL_REFUSED = 0) ∧ s.SameRegs t (· = Fd.FLT_INJ_CTL_ARM.off) ∧ t.mem = s.mem) ∧
  (∀ (s : State) (v : W64), s.rget Fd.FLT_PACE_CTL_LOCK = 0 → bit v 62 = true →
    ∃ t, exec (.evictWrite v) s = .next t ∧ t.rget Fd.FLT_PACE_CTL_EVICT = 1 ∧ t.rget Fd.FLT_PACE_CTL_THRESH_PCT = fld v 55 48 ∧
      t.rget Fd.FLT_PACE_CTL_SCHED_MASK = fld v 15 0 ∧ (∀ f, f < 16 → t.rget (Fd.FLT_PACE_EVICTED f) = s.rget (Fd.FLT_PACE_EVICTED f)) ∧
      t.mem = s.mem) ∧
  (∀ (s : State) (v : W64), s.rget Fd.FLT_PACE_CTL_LOCK = 0 → bit v 62 = false →
    ∃ t, exec (.evictWrite v) s = .next t ∧ t.rget Fd.FLT_PACE_CTL_EVICT = 0 ∧ t.rget Fd.FLT_PACE_CTL_THRESH_PCT = fld v 55 48 ∧
      t.rget Fd.FLT_PACE_CTL_HOLD_MS = fld v 47 32 ∧ t.rget Fd.FLT_PACE_CTL_SCHED_MASK = fld v 15 0 ∧ t.rget Fd.FLT_PACE_CTL_LOCK = fld v 63 63 ∧
      (∀ f, f < 16 → t.rget (Fd.FLT_PACE_EVICTED f) = 0 ∧ t.rget (Fd.FLT_PACE_DENIED f) = 0) ∧ t.mem = s.mem) ∧
  (∀ (s : State) (v : W64), s.rget Fd.FLT_PACE_CTL_LOCK = 1 →
    ∃ t, exec (.evictWrite v) s = .next t ∧ t.rget Fd.FLT_PACE_CTL_EVICT = s.rget Fd.FLT_PACE_CTL_EVICT ∧
      t.rget Fd.FLT_PACE_CTL_SCHED_MASK = s.rget Fd.FLT_PACE_CTL_SCHED_MASK ∧ t.mem = s.mem ∧ t.frd = s.frd)

/-- The commands of an update (R627–R632, R634, R636, R637, R558). Whether a package is accepted rests on signatures and tags the model leaves open, so a
start says both ends: refused with its code, or switching with the first class of the order. An endpoint stops at its switch point and then runs the new image; the last
of a class commits the class; a switch that fails leaves the class on its old image; the recovery loader stages into the bank without a passing image. -/
def Obligations.FirmwareUpdate : Prop :=
  (∀ (s : State) (pages : List (Nat × List Byte)) (p : List Byte) (comps : Option (List (Nat × FwImage))),
    let u := pages.foldl (fun (s : State) q => s.hostStore q.1 q.2) s
    (s.atNoon = true ∨ s.twilight = true) → s.hostUp = true → u.hostRead (u.rget Fd.FWU_PKG_BASE_BASE * 4096) (u.rget Fd.FWU_PKG_LEN_LEN) = .ok p →
    (packageComps p).map (fun l => l.map (fun c => (c.cls, c.img))) = comps →
    ∃ t, exec (.start pages) s = .next t ∧
      (∀ r, u.updateRefusal true comps = some r → t.rget Fd.FWU_STAT_REFUSE = r.1 % 16 ∧ t.fwuState = s.fwuState ∧ t.fwu = s.fwu) ∧
      (∀ l c, u.updateRefusal true comps = none → comps = some l → (updateOrder.filter (fun c => l.any (fun q => q.1 == c))).head? = some c →
        t.fwuState = 2 ∧ t.rget Fd.FWU_STAT_CLASS = c % 16 ∧ t.rget Fd.FWU_STAT_REFUSE = 0 ∧ t.fwu.cur = none)) ∧
  (∀ (s u : State) (pages : List (Nat × List Byte)) (e : Nat), (s.atNoon = true ∨ s.twilight = true) → s.hostUp = true →
    u = pages.foldl (fun (s : State) q => s.hostStore q.1 q.2) s →
    u.hostRead (u.rget Fd.FWU_PKG_BASE_BASE * 4096) (u.rget Fd.FWU_PKG_LEN_LEN) = .error e →
    ∃ t, exec (.start pages) s = .next t ∧ t.fwuState = s.fwuState ∧ t.fwu = s.fwu ∧ t.rget Fd.FWU_STAT_REFUSE ≠ 0) ∧
  (∀ (s : State) (c i : Nat) (l : List Nat), s.fwu.todo = c :: l → s.fwuState = 2 → s.fwu.cur = none → s.fwu.committing = false →
    s.nextEndpoint c = some i → s.switchPoint c i = true → i < 256 →
    ∃ t, exec .endpointSwitch s = .next t ∧ t.fwu = { s.fwu with cur := some i, curAt := s.clock } ∧ t.rget Fd.FWU_STAT_ENDPOINT = i ∧ t.mem = s.mem ∧ t.frd = s.frd ∧
      t.boot = s.boot) ∧
  (∀ (s : State) (c : Nat) (l : List Nat) (q : FwImage), s.fwu.todo = c :: l → s.fwuState = 2 → s.fwu.cur = none → s.fwu.committing = false →
    s.nextEndpoint c = none → s.freshImg c = some q →
    ∃ t, exec .endpointSwitch s = .next t ∧ t.fwu.committing = true ∧ t.fwu.todo = s.fwu.todo ∧ t.mem = s.mem ∧
      ∃ ws, t.ldg.queue = s.ldg.queue ++ [⟨bankRec c (1 - s.bankOf c) false :: ws, .fw c⟩]) ∧
  (∀ (s : State) (c i : Nat) (l : List Nat) (q : FwImage), s.fwu.todo = c :: l → s.fwu.cur = some i → s.fwu.deferred = [] →
    s.freshImg c = some q →
    ∃ t, exec .endpointReady s = .next t ∧ t.fwu.cur = none ∧ i ∈ t.fwu.switched ∧ t.fwu.todo = s.fwu.todo ∧ t.mem.dram = s.mem.dram ∧ (c ≠ 6 → t.frd = s.frd) ∧
      (c = 0 → t.sec.spdm = [] ∧ t.sec.spdmNight = []) ∧
      (({ s with fwu := { s.fwu with cur := none, switched := insNat s.fwu.switched i } } : State).nextEndpoint c = none → t.fwu.committing = true ∧
        ∃ ws, s.ldg.queue ++ [⟨bankRec c (1 - s.bankOf c) false :: ws, .fw c⟩] <+: t.ldg.queue)) ∧
  (∀ (s : State) (c i : Nat) (l : List Nat), s.fwu.todo = c :: l → s.fwu.cur = some i → s.fwu.deferred = [] → c < 16 → s.siteFitted (endpointLoc c i) = true →
    ∃ t, exec (.switchFailed []) s = .next t ∧ t.fwuState = 4 ∧ t.fwu.todo = [] ∧ t.fwu.cur = none ∧ t.fwu.fresh = [] ∧ t.rget Fd.FWU_STAT_CLASS = c ∧
      t.fwu.store = s.fwu.store ∧ t.bankOf = s.bankOf ∧ (2 ≤ s.stage → t.HasRecord 0x1103 ((endpointLoc c i).code s.devId) ∧
        t.HasRecord 0x1104 ((fwuLoc c).code s.devId))) ∧
  (∀ (s : State) (c i : Nat) (l : List Nat), s.fwu.todo = c :: l → s.fwu.cur = some i → s.fwu.deferred = [] → s.fwu.switched = [] →
    s.siteFitted (endpointLoc c i) = true →
    ∃ t, exec (.switchFailed [i]) s = .next t ∧ t.fwuState = 4 ∧ (2 ≤ s.stage → t.HasRecord 0x1105 ((endpointLoc c i).code s.devId))) ∧
  (∀ (s : State), (s.fwuState = 5 ∨ s.fwuState = 3 ∨ s.fwuState = 4) → s.fwu.committing = false →
    ∃ t, exec .abandon s = .next t ∧ t.fwuState = 0 ∧ t.fwu.todo = [] ∧ t.fwu.cur = none ∧ t.fwu.banks = s.fwu.banks ∧ t.bankOf = s.bankOf ∧
      s.ldg.queue ++ [⟨s.fwu.todo.map (fun c => bankRec c (s.bankOf c) false), .nobody⟩] <+: t.ldg.queue ∧ t.frd = s.frd) ∧
  (∀ (s : State), (s.fwuState = 5 ∨ s.fwuState = 3 ∨ s.fwuState = 4) → s.fwu.committing = true →
    ∃ t, exec .abandon s = .next t ∧ t.fwuState = 0 ∧ t.fwu.todo = s.fwu.todo.take 1 ∧ t.bankOf = s.bankOf ∧ t.frd = s.frd) ∧
  (∀ (s : State) (c : Nat) (m im : List Byte), c < 8 → s.rget Fd.HUB_CONN_STAT_NIGHT_UP = 1 → s.rget Fd.BOOT_STAT_LOADER = 1 → manClass m = c →
    ∃ t, exec (.pldmTransfer c m im) s = .next t ∧
      (s.manCheck m im = none → t.slotImg (if s.slotPasses (s.bankOf c) c then 1 - s.bankOf c else s.bankOf c) c = some ⟨m, im⟩ ∧ t.regs = s.regs ∧ t.mem = s.mem) ∧
      (∀ e, s.manCheck m im = some e → t.fwu = s.fwu ∧ t.frd = s.frd ∧ t.mem.dram = s.mem.dram)) ∧
  (∀ (s : State) (c : Nat) (m im : List Byte), c < 8 → s.rget Fd.HUB_CONN_STAT_NIGHT_UP = 1 → s.rget Fd.BOOT_STAT_LOADER = 0 → (s.fwuState = 0 ∨ s.fwuState = 4) →
    ∃ t, exec (.pldmTransfer c m im) s = .next t ∧ t.slotImg (1 - s.bankOf c) c = some ⟨m, im⟩ ∧
      (∀ b d, b < 2 → d < 16 → ¬ (b = 1 - s.bankOf c ∧ d = c) → t.slotImg b d = s.slotImg b d) ∧ c ∈ t.fwu.pldm ∧ t.regs = s.regs ∧ t.mem = s.mem) ∧
  (∀ (s : State) (l : List (Nat × FwImage)), s.fwu.pldm.filterMap (fun c => (s.slotImg (1 - s.bankOf c) c).map (fun q => (c, q))) = l → l ≠ [] →
    s.rget Fd.HUB_CONN_STAT_NIGHT_UP = 1 →
    ∃ t, exec .activateFirmware s = .next t ∧
      (∀ r, s.updateRefusal false (some l) = some r → t.rget Fd.FWU_STAT_REFUSE = r.1 % 16 ∧ t.fwuState = s.fwuState ∧
        t.sec.reply = ascii "UNABLE_TO_INITIATE_UPDATE") ∧
      (∀ c, s.updateRefusal false (some l) = none → (updateOrder.filter (fun c => l.any (fun q => q.1 == c))).head? = some c →
        t.fwuState = 2 ∧ t.rget Fd.FWU_STAT_CLASS = c % 16 ∧ t.fwu.pldm = []))

/-- The contacts, the latch, the removal sequence and a surprise extraction (R646, R647, R654–R656, R658). The roles follow the codes, and two like
codes are noted with set 0 as main; an open latch after
Predawn asks for removal, whose phases end in order; a latch closed in phase 6 starts the module from Predawn. -/
def Obligations.RemovalAndContacts : Prop :=
  (∀ (s : State), ¬ (s.rget Fd.HUB_CONN_STAT_PRES0 = 1 ∧ s.rget Fd.HUB_CONN_STAT_PRES1 = 2) →
    ∃ t, exec (.presenceChange 1 2) s = .next t ∧ t.rget Fd.HUB_CONN_STAT_PRES0 = 1 ∧ t.rget Fd.HUB_CONN_STAT_PRES1 = 2 ∧
      t.rget (Fd.PWR_IN_STAT_PHYS 0) = 0 ∧ t.rget (Fd.PWR_IN_STAT_PHYS 1) = 1 ∧ t.inSt 0 ≠ 0 ∧ t.inSt 1 ≠ 0 ∧ t.mem = s.mem) ∧
  (∀ (s : State), ¬ (s.rget Fd.HUB_CONN_STAT_PRES0 = 2 ∧ s.rget Fd.HUB_CONN_STAT_PRES1 = 1) →
    ∃ t, exec (.presenceChange 2 1) s = .next t ∧ t.rget Fd.HUB_CONN_STAT_PRES0 = 2 ∧ t.rget Fd.HUB_CONN_STAT_PRES1 = 1 ∧
      t.rget (Fd.PWR_IN_STAT_PHYS 0) = 1 ∧ t.rget (Fd.PWR_IN_STAT_PHYS 1) = 0 ∧
      (2 ≤ s.stage → t.HasRecord 0x0D04 ((inputLoc 0).code s.devId)) ∧ t.mem.dram = s.mem.dram) ∧
  (∀ (s : State), ¬ (s.rget Fd.HUB_CONN_STAT_PRES0 = 1 ∧ s.rget Fd.HUB_CONN_STAT_PRES1 = 1) →
    ∃ t, exec (.presenceChange 1 1) s = .next t ∧ t.rget (Fd.PWR_IN_STAT_PHYS 0) = 0 ∧ t.rget (Fd.PWR_IN_STAT_PHYS 1) = 1 ∧
      (2 ≤ s.stage → t.HasRecord 0x1201 ((presenceLoc 1).code s.devId)) ∧ t.mem.dram = s.mem.dram) ∧
  (∀ (s : State) (begun : Nat), s.rget Fd.HUB_CONN_STAT_RM_PHASE ≠ 6 →
    ¬ (s.rget Fd.HUB_CONN_STAT_PRES0 = 3 ∧ s.rget Fd.HUB_CONN_STAT_PRES1 = 3) → s.con.shutdown = false →
    ∃ t, exec (.surpriseExtraction begun) s = .next t ∧ t.rget Fd.HUB_CONN_STAT_PRES0 = 3 ∧ t.rget Fd.HUB_CONN_STAT_PRES1 = 3 ∧ t.inSt 0 = 0 ∧
      t.inSt 1 = 0 ∧ t.mem.dram = [] ∧ t.mem.thl = [] ∧ t.frd = FrdState.init ∧ t.rng = [] ∧ t.con.shutdown = true) ∧
  (∀ (s : State), s.boot.predawn = true → s.rget Fd.HUB_CONN_STAT_REMOVE = 0 → s.boot.running = false → s.boot.failed = none →
    ∃ t, exec .latchOpen s = .next t ∧ t.rget Fd.HUB_CONN_STAT_LATCH_OPEN = 1 ∧ t.rget Fd.HUB_CONN_STAT_REMOVE = 1 ∧
      t.rget Fd.HUB_CONN_STAT_RM_PHASE = 1 ∧ t.con.rmAt = some s.clock ∧ (2 ≤ s.stage → t.HasRecord 0x1202 (Loc.whole.code s.devId)) ∧
      t.rng = s.rng ∧ t.ses = s.ses ∧ t.mem.dram = s.mem.dram) ∧
  (∀ (s : State), s.boot.predawn = false → ∃ t, exec .latchOpen s = .next t ∧ t.rget Fd.HUB_CONN_STAT_LATCH_OPEN = 1 ∧
      t.rget Fd.HUB_CONN_STAT_REMOVE = s.rget Fd.HUB_CONN_STAT_REMOVE ∧ t.con = s.con ∧ t.boot = s.boot ∧ t.flt = s.flt ∧ t.mem = s.mem) ∧
  (∀ (s : State), s.rget Fd.HUB_CONN_STAT_RM_PHASE = 6 →
    ∃ t, exec .latchClose s = .next t ∧ t.rget Fd.HUB_CONN_STAT_LATCH_OPEN = 0 ∧ t.rget Fd.HUB_CONN_STAT_RM_PHASE = 0 ∧
      t.rget Fd.HUB_CONN_STAT_REMOVE = 0 ∧ t.boot.running = true ∧ t.stage = 1 ∧ t.ldg.starts = s.ldg.starts + 1) ∧
  (∀ (s : State), s.rget Fd.HUB_CONN_STAT_RM_PHASE ≠ 6 →
    ∃ t, exec .latchClose s = .next t ∧ t.rget Fd.HUB_CONN_STAT_LATCH_OPEN = 0 ∧ t.rget Fd.HUB_CONN_STAT_RM_PHASE = s.rget Fd.HUB_CONN_STAT_RM_PHASE ∧
      t.con = s.con ∧ t.boot = s.boot ∧ t.rng = s.rng ∧ t.ses = s.ses ∧ t.mem = s.mem) ∧
  (∀ (s : State), s.waited = false → s.rget Fd.HUB_CONN_STAT_RM_PHASE = 1 →
    ∃ t, exec .removalPhaseEnd s = .next t ∧
      (s.rmDue s.graceMs = true → t.rget Fd.HUB_CONN_STAT_RM_PHASE = 2 ∧ ∀ r, r < 1024 → t.rget (Fd.RNG_CTL_ENABLE r) = 0 ∨ s.rget (Fd.RNG_CTL_STATE r) = 0) ∧
      (s.rmDue s.graceMs = false → t = s)) ∧
  (∀ (s : State), s.waited = false → s.rget Fd.HUB_CONN_STAT_RM_PHASE = 2 → s.drained = true → s.residents = [] →
    ∃ t, exec .removalPhaseEnd s = .next t ∧ t.rget Fd.HUB_CONN_STAT_RM_PHASE = 3 ∧ t.rget Fd.HUB_CONN_STAT_SESS_PARKED = 0 ∧
      t.rget Fd.HUB_CONN_STAT_SESS_CLOSED = 0 ∧ t.con.parkList = [] ∧ t.ses = s.ses ∧ t.mem = s.mem) ∧
  (∀ (s : State), s.rget Fd.HUB_CONN_STAT_RM_PHASE = 2 → s.drained = false → s.rmDue (s.graceMs + 200) = false → exec .removalPhaseEnd s = .next s) ∧
  (∀ (s : State), s.waited = false → s.rget Fd.HUB_CONN_STAT_RM_PHASE = 3 → s.con.parkList = [] → s.residents = [] → s.rget Fd.HUB_CONN_STAT_SESS_CLOSED = 0 →
    (∀ l, l < 32 → s.linkUp l = false) →
    ∃ t, exec .removalPhaseEnd s = .next t ∧ t.rget Fd.HUB_CONN_STAT_RM_PHASE = 4 ∧ t.ldg.queue = s.ldg.queue ++ [⟨s.wearWrites, .nobody⟩] ∧ t.mem = s.mem) ∧
  (∀ (s : State), s.waited = false → s.rget Fd.HUB_CONN_STAT_RM_PHASE = 4 → s.rmDue 1800 = true → (∀ l, l < 32 → s.linkUp l = false) →
    ∃ t, exec .removalPhaseEnd s = .next t ∧ t.rget Fd.HUB_CONN_STAT_RM_PHASE = 5 ∧ t.con.shutdown = true ∧ t.mem.dram = [] ∧ t.frd = FrdState.init ∧
      t.inSt 0 = s.inSt 0 ∧ t.inSt 1 = s.inSt 1) ∧
  (∀ (s : State), s.waited = false → s.rget Fd.HUB_CONN_STAT_RM_PHASE = 5 →
    ∃ t, exec .removalPhaseEnd s = .next t ∧ t.rget Fd.HUB_CONN_STAT_RM_PHASE = 6 ∧ t.rget Fd.HUB_CONN_STAT_READY = 1 ∧ t.con = s.con ∧ t.mem = s.mem)

/-- Light and the Night port (R591, R650–R652, R659–R661). A crossed block is noted; a low lane is noted with its record, and the Night port's lane fences
it; a lost light takes its own link down and no other; the Night port goes down with its fence and comes up without it; a bad Night frame is discarded
and counted; an endpoint ID is taken; a management read is answered. -/
def Obligations.LightAndNightPort : Prop :=
  (∀ (s : State) (night : Bool), s.nightOn = true → s.rget (if night then Fd.HUB_CONN_STAT_NIGHT_CROSSED else Fd.HUB_CONN_STAT_HOST_CROSSED) = 0 →
    ∃ t, exec (.blockCrossed night) s = .next t ∧
      t.rget (if night then Fd.HUB_CONN_STAT_NIGHT_CROSSED else Fd.HUB_CONN_STAT_HOST_CROSSED) = 1 ∧
      (2 ≤ s.stage → t.HasRecord (if night then 0x1208 else 0x1207) ((engineOpticsLoc (if night then 17 else 16) 0xFF).code s.devId)) ∧
      s.SameRegs t (fun off => recSlot off ∨ off = Fd.HUB_CONN_STAT_NIGHT_CROSSED.off) ∧ t.mem.dram = s.mem.dram) ∧
  (∀ (s : State) (e lane : Nat), e < 16 → e < s.part.fports → lane < 8 → s.nightOn = true → s.con.lowLanes.contains (e * 32 + lane) = false →
    ∃ t, exec (.lowLight e lane) s = .next t ∧ e * 32 + lane ∈ t.con.lowLanes ∧
      (2 ≤ s.stage → t.HasRecord 0x1209 ((engineOpticsLoc e lane).code s.devId)) ∧ s.SameRegs t recSlot ∧ t.fab = s.fab ∧ t.mem.dram = s.mem.dram) ∧
  (∀ (s : State), s.nightOn = true → s.con.lowLanes.contains (17 * 32) = false → s.rget Fd.HUB_CONN_STAT_NIGHT_UP = 1 →
    ∃ t, exec (.lowLight 17 0) s = .next t ∧ t.rget Fd.HUB_CONN_STAT_NIGHT_UP = 0 ∧ nightFence ∈ t.flt.fences ∧ t.mem.dram = s.mem.dram) ∧
  (∀ (s : State) (e l : Nat), e < 16 → s.portLinks e = [l] → s.linkThere l = true → s.linkState l = 2 → s.QuietLink l →
    ∃ t, exec (.lossOfLight e) s = .next t ∧ t.linkState l = 5 ∧ (t.link l).light = false ∧ FUnit.port (portLoc l) ∈ t.flt.fences ∧
      (∀ k, k < 32 → k ≠ l → t.linkState k = s.linkState k) ∧ t.mem.dram = s.mem.dram) ∧
  (∀ (s : State), s.rget Fd.HUB_CONN_STAT_NIGHT_UP = 1 →
    ∃ t, exec .nightPortDown s = .next t ∧ t.rget Fd.HUB_CONN_STAT_NIGHT_UP = 0 ∧ nightFence ∈ t.flt.fences ∧
      (2 ≤ s.stage → t.HasRecord 0x120A ((engineOpticsLoc 17 0).code s.devId)) ∧ t.con = s.con ∧ t.mem.dram = s.mem.dram) ∧
  (∀ (s : State), s.nightOn = true → s.laser 17 0 ≠ 3 → s.thm.engHot.contains 17 = false →
    ∃ t, exec .nightPortUp s = .next t ∧ t.rget Fd.HUB_CONN_STAT_NIGHT_UP = 1 ∧ nightFence ∉ t.flt.fences ∧ t.mem = s.mem ∧
      s.SameRegs t (· = Fd.HUB_CONN_STAT_NIGHT_UP.off)) ∧
  (∀ (s : State) (b : List Byte), s.rget Fd.HUB_CONN_STAT_NIGHT_UP = 1 →
    ∃ t, exec (.nightFrame b) s = .next t ∧
      (nightFrameOk b = true → t = s) ∧
      (nightFrameOk b = false → t.rget Fd.HUB_CONN_STAT_NIGHT_BAD =
          satAdd (2 ^ (Fd.HUB_CONN_STAT_NIGHT_BAD.hi + 1 - Fd.HUB_CONN_STAT_NIGHT_BAD.lo) - 1) (s.rget Fd.HUB_CONN_STAT_NIGHT_BAD) 1 ∧
        s.SameRegs t (· = Fd.HUB_CONN_STAT_NIGHT_BAD.off) ∧ t.con = s.con)) ∧
  (∀ (s : State), s.rget Fd.HUB_CONN_STAT_NIGHT_UP = 1 → s.frameDue = true →
    ∃ t, exec .linkControlFrame s = .next t ∧ t.con.frame.length = 16 ∧ t.con.frame.take 8 = moduleSerial ∧
      leNat (slice t.con.frame 8 2) = fld (s.rword 0x10000) 63 48 ∧ t.con.frame.drop 10 = List.replicate 6 0#8 ∧ t.con.frameAt = some s.clock ∧ t.regs = s.regs ∧ t.mem = s.mem) ∧
  (∀ (s : State) (b0 b1 b2 b3 : Byte), s.rget Fd.HUB_CONN_STAT_NIGHT_UP = 1 → 0x80#8 ≤ b0 → b1 = 1#8 → b2.toNat % 4 ≤ 1 → b3 ≠ 0#8 → b3 ≠ 0xFF#8 →
    ∃ t, exec (.mctpMessage 0 [b0, b1, b2, b3]) s = .next t ∧ t.con.eid = b3.toNat ∧ t.regs = s.regs ∧ t.mem = s.mem) ∧
  (∀ (s : State) (off size : Nat), s.rget Fd.HUB_CONN_STAT_NIGHT_UP = 1 → (size = 4 ∨ size = 8) → off % size = 0 →
    ∃ t, exec (.managementRead off size) s = .next t ∧
      (mgmtServes off = true → t.con.readAnswer = s.bar0Read off size) ∧ (mgmtServes off = false → t.con.readAnswer = 0) ∧ t.regs = s.regs ∧ t.mem = s.mem)

/-- A register write that no unit takes for its own (R9–R12, R321): each field takes the written bits by its access code, and every other slot stays as it
was. A write of another size or alignment is an unsupported request. -/
def Obligations.RegisterAccess : Prop :=
  (∀ (s : State) (off size val slot : Nat) (r : RRow), (size = 4 ∨ size = 8) → off % size = 0 → slot = off - off % 8 → s.twilight = false →
    s.tdiLocks slot = false → slot < 0x800000 → s.slotThere slot = true → s.ownLow slot (writeMask off size) (writeWord off size val) = none →
    s.ownHigh slot (writeMask off size) (writeWord off size val) = none → regRow slot = some r →
    ∃ t, exec (.registerWrite off size val) s = .next t ∧ s.SameRegs t (· = slot) ∧ t.mem = s.mem ∧ t.frd = s.frd ∧ t.flt = s.flt ∧
      (∀ f ∈ r.fields, (f.acc = .ro ∨ f.acc = .wo ∨ f.acc = .own) → fld (t.rword slot) f.hi f.lo = fld (s.rword slot) f.hi f.lo) ∧
      (∀ f ∈ r.fields, (f.acc = .rw ∨ f.acc = .rwl ∧ s.rwlLocked slot = false ∨ f.acc = .setup ∧ s.setupOpen slot = true) →
        fld (t.rword slot) f.hi f.lo = fld (mergeWord (s.rword slot) (writeWord off size val) (writeMask off size)) f.hi f.lo) ∧
      (∀ f ∈ r.fields, (f.acc = .rwl ∧ s.rwlLocked slot = true ∨ f.acc = .setup ∧ s.setupOpen slot = false) →
        fld (t.rword slot) f.hi f.lo = fld (s.rword slot) f.hi f.lo) ∧
      (∀ f ∈ r.fields, f.acc = .w1c → ∀ b, f.lo ≤ b → b ≤ f.hi → bit (t.rword slot) b =
        (bit (s.rword slot) b && !(bit (writeWord off size val) b && nbit (writeMask off size) b))) ∧
      (∀ f ∈ r.fields, f.acc = .w1s → ∀ b, f.lo ≤ b → b ≤ f.hi → bit (t.rword slot) b =
        (bit (s.rword slot) b || (bit (writeWord off size val) b && nbit (writeMask off size) b)))) ∧
  (∀ (s : State) (v : Nat), s.twilight = false →
    ∃ t, exec (.registerWrite 0x10008 8 v) s = .next t ∧ t.rget Fd.HUB_RM_CTL_GRACE_MS = v % 2 ^ 10 ∧ t.rget Fd.HUB_RM_CTL_PARK_EN = v / 2 ^ 63 % 2 ∧
      s.SameRegs t (· = 0x10008)) ∧
  (∀ (s : State) (off size val : Nat), ¬ ((size = 4 ∨ size = 8) ∧ off % size = 0) →
    ∃ t, exec (.registerWrite off size val) s = .next t ∧ t.hpt.ur = s.hpt.ur + 1 ∧ t.regs = s.regs ∧ t.mem = s.mem)

/-- A write of CQ_HEAD (R332). On an enabled ring a value no more than a ring behind CQ_TAIL and not behind the old value is taken; any other halts the
ring with the completion-head-invalid fault. Entries the host has not consumed are not reused: with N of them a completion waits. -/
def Obligations.CompletionHead : Prop :=
  (∀ (s : State) (r v : Nat), r < 1024 → s.twilight = false → s.ringState r = 1 →
    sub32 (s.rget (Fd.RNG_CSTAT_CQ_TAIL r)) (v % 2 ^ 32) ≤ s.ringN r ∧ sub32 (v % 2 ^ 32) (s.rget (Fd.RNG_CSTAT_CQ_HEAD r)) < 2 ^ 31 →
    ∃ t, exec (.cqHead r 4 v) s = .next t ∧ t = s.rset (Fd.RNG_CSTAT_CQ_HEAD r) (v % 2 ^ 32) ∧ t.rget (Fd.RNG_CSTAT_CQ_HEAD r) = v % 2 ^ 32) ∧
  (∀ (s : State) (r v : Nat), r < 1024 → s.twilight = false → s.ringState r = 1 →
    ¬ (sub32 (s.rget (Fd.RNG_CSTAT_CQ_TAIL r)) (v % 2 ^ 32) ≤ s.ringN r ∧ sub32 (v % 2 ^ 32) (s.rget (Fd.RNG_CSTAT_CQ_HEAD r)) < 2 ^ 31) →
    ∃ t, exec (.cqHead r 4 v) s = .next t ∧ t.ringState r = 3 ∧ t.rget (Fd.RNG_CSTAT_CQ_HEAD r) = s.rget (Fd.RNG_CSTAT_CQ_HEAD r) ∧
      (2 ≤ s.stage → t.HasRecord 0x080E ((s.ringLoc r).code s.devId))) ∧
  (∀ (s : State) (r : Nat) (c : Compl) (rest : List Compl), (s.ring r).done = c :: rest → (c.status ≠ 0 ∨ c.cmpl = true) →
    s.ringN r ≤ sub32 (s.rget (Fd.RNG_CSTAT_CQ_TAIL r)) (s.rget (Fd.RNG_CSTAT_CQ_HEAD r)) → exec (.completionWrite r) s = .next s)

/-- Where a completion entry goes and its PHASE (R344): entry c to slot c modulo N, with PHASE the complement of bit LOG2N of c; descriptors that complete
join the end of the list that entries are written from the front of, and each entry moves CQ_TAIL on by one. -/
def Obligations.CompletionSlot : Prop :=
  (∀ (s : State) (r : Nat) (c : Compl) (rest : List Compl),
    let n := s.rget (Fd.RNG_CSTAT_CQ_TAIL r)
    let addr := s.rget (Fd.RNG_CQ_BASE_BASE r) * 4096 + (n &&& (s.ringN r - 1)) * 32
    (s.ring r).done = c :: rest → (c.status ≠ 0 ∨ c.cmpl = true) → s.hostUp = true → sub32 n (s.rget (Fd.RNG_CSTAT_CQ_HEAD r)) < s.ringN r →
    s.hostFail addr 32 = none →
    ∃ t, exec (.completionWrite r) s = .next t ∧ (t.ring r).done = rest ∧ t.rget (Fd.RNG_CSTAT_CQ_TAIL r) = (n + 1) % 2 ^ 32 ∧
      (∀ i, i < 32 → memGet t.mem.host (addr + i) = (c.bytes n (s.ringLog r) s.clock).getD i 0#8) ∧
      bit (BitVec.ofNat 64 (memGet t.mem.host addr).toNat) 0 = !nbit n (s.ringLog r) ∧
      (n < s.ringN r → bit (BitVec.ofNat 64 (memGet t.mem.host addr).toNat) 0 = true)) ∧
  (∀ (s : State) (r i status reason result : Nat), ((s.ring r).find i).isSome = true → i ∉ (s.ring r).discard →
    ∃ c, ((s.complete r i status reason result).ring r).done = (s.ring r).done ++ [c] ∧ c.idx = i ∧ c.status = status) ∧
  (∀ a, memGet State.reset.mem.host a = 0#8)

/-- A signal adds and saturates (R394): VALUE becomes the sum or, where the sum would exceed 2^64 − 1, that value, with the sorus-saturated record and no
fence; VALUE never wraps. -/
def Obligations.SignalSaturates : Prop :=
  ∀ (s : State) (n amount : Nat),
    let sum := (s.sorus n).value.toNat + amount
    let u := s.sorAdd n amount
    (sum ≤ 2 ^ 64 - 1 → (u.sorus n).value.toNat = sum ∧ u.flt = s.flt) ∧
    (2 ^ 64 - 1 < sum → (u.sorus n).value.toNat = 2 ^ 64 - 1 ∧ u.flt.fences = s.flt.fences ∧
      (2 ≤ s.stage → u.HasRecord 0x0A07 ((sorLoc n).code s.devId))) ∧
    (s.sorus n).value.toNat ≤ (u.sorus n).value.toNat

/-- A step with a command waiting is that command's effect on the state with the queue's rest. -/
def Obligations.StepRunsFront : Prop :=
  ∀ (c : Instr) (rest : List Instr) (s : State), s.pending = c :: rest → step s = exec c { s with pending := rest }

/-- With no command waiting a step is a tick of the Night clock (the model's choice: log entry 13): the clock moves on, a committed slot table is taken,
a Frond
that is not idle begins its count of idleness anew, and no register but those of the slot tables, no memory and no other unit changes. -/
def Obligations.IdleTick : Prop :=
  ∀ (s : State), s.pending = [] →
    ∃ t, step s = .next t ∧ t.clock = s.clock + 1 ∧ t.pending = [] ∧ t.mem = s.mem ∧ t.frd = { s.frd with frd := t.frd.frd } ∧
      (∀ f, f < s.fronds → t.fr f = if s.idle f then s.fr f else { s.fr f with idleFrom := s.clock }) ∧ t.rng = s.rng ∧ t.flt = s.flt ∧ t.ldg = s.ldg ∧
      t.rget Fd.PNW_SLOT_CTL_PENDING = 0 ∧ s.SameRegs t (· = Fd.PNW_SLOT_CTL_PENDING.off)

/-- The machine right after reset, before any supply is qualified: registers at the values their tables give (chapters 03, 04, 06 to 10, 12, 13, 15, 17,
19, 21), no memory listed, nothing in any queue; its registers and memories are in canonical form. -/
def Obligations.ResetState : Prop :=
  let s := State.reset
  (∀ f, f < 16 → s.rget (Fd.FRD_SLEEP_CTL_FLOOR f) = 2 ∧ s.rget (Fd.FRD_SLEEP_CTL_DARK_S f) = 600 ∧ s.rget (Fd.FRD_SLEEP_CTL_NIGHT_MS f) = 5 ∧
    s.rget (Fd.FRD_SLEEP_CTL_DUSK_US f) = 8 ∧ s.rget (Fd.FRD_DMA_CTL_RING_MASK f) = 0xF000 ∧ s.sleep f = 0) ∧
  (∀ r, r < 1024 → s.rget (Fd.RNG_CTL_STATE r) = 0 ∧ s.rget (Fd.RNG_CTL_LOG2N r) = 6 ∧ s.rget (Fd.RNG_IRQ_COUNT r) = 1) ∧
  s.rget Fd.THL_SCRUB_CTL_PERIOD_S = 600 ∧ s.rget Fd.MSC_PIN_CTL_CAP_MIB = 2048 ∧ s.rget Fd.MSC_PIN_CTL_WAYS_MAX = 8 ∧
  s.rget Fd.MSC_THRASH_CTL_THRESH_PCT = 25 ∧ s.rget (Fd.PIL_REGION_EN 0) = 1 ∧ s.rget (Fd.PIL_REGION_SIZE_GIB 0) = 384 ∧
  (∀ n, 0 < n → n < 16 → s.rget (Fd.PIL_REGION_EN n) = 0) ∧ s.rget Fd.PIL_SCRUB_CTL_PERIOD_H = 24 ∧ s.rget (Fd.PNW_LINK_STAT_LANES 0) = 40 ∧
  s.rget Fd.SOR_CTL_WAIT_TO_MS = 1000 ∧ s.rget Fd.FAB_CTL_RED_TO_MS = 1000 ∧ s.rget Fd.FAB_CTL_E2E_TO_US = 2000 ∧ s.rget Fd.PWR_CTL_TOWER_CAP_W = 430 ∧
  s.rget Fd.PWR_CTL_PKG_CAP_W = 1800 ∧ s.rget Fd.PWR_CTL_RETURN = 1 ∧ s.rget Fd.PWR_CAP_STAT_CELLS_OK = 8 ∧ s.rget Fd.BOOT_CTL_AUTO_FROND = 1 ∧
  s.rget Fd.FLT_CTL_COAL_MS = 10 ∧ s.rget Fd.FLT_RING_CTL_LOG2N = 8 ∧ s.rget Fd.FLT_RING_CTL_EN = 0 ∧ s.rget Fd.FLT_PACE_CTL_SCHED_MASK = 0xFFFF ∧
  s.rget Fd.HUB_CONN_STAT_PRES0 = 3 ∧ s.rget Fd.HUB_CONN_STAT_PRES1 = 3 ∧ s.rget Fd.HUB_RM_CTL_GRACE_MS = 500 ∧ s.stage = 0 ∧ s.atNoon = false ∧
  s.pending = [] ∧ s.waited = false ∧ s.mem.dram = [] ∧ s.mem.thl = [] ∧ s.mem.ls = [] ∧ s.rng = [] ∧ s.sor.queue = [] ∧ s.flt.log = [] ∧ s.Canonical

/-- Every step keeps the registers and the addressed memories in canonical form: addresses strictly rising, and no entry equal to what an unlisted address
reads as. -/
def Obligations.StepKeepsCanonical : Prop :=
  ∀ (s t : State), s.Canonical → step s = .next t → t.Canonical

/-- Every command completes with a next state, and leaves the queue of waiting commands, the part number and the clock as they were: the commands behind
it run next, on the same part, at the same time (the model's choice: time passes only on an empty queue, log entry 13). -/
def Obligations.CommandsLeaveQueue : Prop :=
  ∀ (c : Instr) (s : State), ∃ t, exec c s = .next t ∧ t.pending = s.pending ∧ t.part = s.part ∧ t.clock = s.clock

/-- No command leaves an access waiting: from a state that holds none, every step reaches one that holds none (what a held access leaves is the
model's choice: log entry 107). -/
def Obligations.StepKeepsUnwaited : Prop :=
  ∀ (s t : State), s.waited = false → step s = .next t → t.waited = false
end

