-- ==== Sys2Proof/Laws/Sparse.lean ====
section
/-!
SUPPORT. Sparse maps: what a read sees after a write, and that writing keeps the canonical form.
-/

namespace Sys2Proof.Machine

theorem spGet_spIns {α : Type} (d : Nat → α) (m : Sp α) (k : Nat) (v : α) (j : Nat) :
    spGet d (spIns m k v) j = if j = k then v else spGet d m j := by
  induction m with
  | nil => simp [spIns, spGet, eq_comm]
  | cons p m ih =>
    obtain ⟨i, w⟩ := p
    by_cases h1 : k < i
    · simp [spIns, spGet, h1, eq_comm]
    · by_cases h2 : k = i
      · subst h2; by_cases h3 : j = k <;> simp [spIns, spGet, h3]
        simp [show ¬ k = j from fun h => h3 h.symm]
      · by_cases h3 : i = j
        · subst h3; simp [spIns, spGet, h1, h2, eq_comm]
        · simp [spIns, spGet, h1, h2, h3, ih]

theorem spGet_spDel {α : Type} (d : Nat → α) (m : Sp α) (k j : Nat) :
    spGet d (spDel m k) j = if j = k then d k else spGet d m j := by
  induction m with
  | nil => by_cases h : j = k <;> simp [spDel, spGet, h]
  | cons p m ih =>
    obtain ⟨i, w⟩ := p
    by_cases h : i = k
    · subst h
      by_cases hj : j = i
      · subst hj; simpa [spDel] using ih
      · simp [spDel, ih, hj, spGet, show ¬ i = j from fun e => hj e.symm]
    · by_cases hj : i = j
      · subst hj; simp [spDel, spGet, h]
      · simp [spDel, spGet, h, hj, ih]

/-- A read after a write: the value written at its key, the old value at every other. -/
theorem spGet_spPut {α : Type} [DecidableEq α] (d : Nat → α) (m : Sp α) (k : Nat) (v : α) (j : Nat) :
    spGet d (spPut d m k v) j = if j = k then v else spGet d m j := by
  unfold spPut
  split
  · rename_i h; rw [spGet_spDel]; split <;> simp_all
  · exact spGet_spIns d m k v j

@[simp] theorem spGet_spPut_same {α : Type} [DecidableEq α] (d : Nat → α) (m : Sp α) (k : Nat) (v : α) :
    spGet d (spPut d m k v) k = v := by simp [spGet_spPut]

theorem spGet_spPut_ne {α : Type} [DecidableEq α] (d : Nat → α) (m : Sp α) {k j : Nat} (v : α) (h : j ≠ k) :
    spGet d (spPut d m k v) j = spGet d m j := by simp [spGet_spPut, h]

@[simp] theorem spGet_nil {α : Type} (d : Nat → α) (k : Nat) : spGet d ([] : Sp α) k = d k := rfl

theorem spWf_mono {α : Type} [DecidableEq α] (d : Nat → α) {m : Sp α} {a b : Nat} (h : spWf d b m = true) (hab : a ≤ b) :
    spWf d a m = true := by
  cases m with
  | nil => rfl
  | cons p m => simp [spWf] at h ⊢; exact ⟨⟨by omega, h.1.2⟩, h.2⟩

theorem spWf_spDel {α : Type} [DecidableEq α] (d : Nat → α) {m : Sp α} {lo : Nat} (k : Nat) (h : spWf d lo m = true) :
    spWf d lo (spDel m k) = true := by
  induction m generalizing lo with
  | nil => rfl
  | cons p m ih =>
    obtain ⟨j, v⟩ := p
    simp [spWf] at h
    by_cases hj : j = k
    · simp [spDel, hj]; exact spWf_mono d (ih h.2) (by omega)
    · simp [spDel, hj, spWf]; exact ⟨h.1, ih h.2⟩

theorem spWf_spIns {α : Type} [DecidableEq α] (d : Nat → α) {m : Sp α} {lo k : Nat} {v : α} (h : spWf d lo m = true)
    (hk : lo ≤ k) (hv : v ≠ d k) : spWf d lo (spIns m k v) = true := by
  induction m generalizing lo with
  | nil => simp [spIns, spWf, hk, hv]
  | cons p m ih =>
    obtain ⟨j, w⟩ := p
    simp [spWf] at h
    by_cases h1 : k < j
    · simp [spIns, h1, spWf, hk, hv]; exact ⟨h.1.2, h.2⟩
    · by_cases h2 : k = j
      · subst h2; simp [spIns, spWf, hk, hv]; exact h.2
      · simp [spIns, h1, h2, spWf]; exact ⟨h.1, ih h.2 (by omega)⟩

/-- A write keeps the canonical form. -/
theorem spWf_spPut {α : Type} [DecidableEq α] (d : Nat → α) {m : Sp α} {lo k : Nat} (v : α) (h : spWf d lo m = true)
    (hk : lo ≤ k) : spWf d lo (spPut d m k v) = true := by
  unfold spPut; split
  · exact spWf_spDel d k h
  · exact spWf_spIns d h hk ‹_›

theorem spWf_filter {α : Type} [DecidableEq α] (d : Nat → α) (q : Nat × α → Bool) {m : Sp α} {lo : Nat}
    (h : spWf d lo m = true) : spWf d lo (m.filter q) = true := by
  induction m generalizing lo with
  | nil => rfl
  | cons p m ih =>
    obtain ⟨j, w⟩ := p
    simp [spWf] at h
    by_cases hp : q (j, w) = true
    · simp [List.filter, hp, spWf]; exact ⟨h.1, ih h.2⟩
    · simp [List.filter, hp]; exact spWf_mono d (ih h.2) (by omega)

/-- Equal reads make equal maps: the form is canonical. -/
theorem spWf_ext {α : Type} [DecidableEq α] (d : Nat → α) {m n : Sp α} {a b : Nat} (hm : spWf d a m = true)
    (hn : spWf d b n = true) (h : ∀ k, spGet d m k = spGet d n k) : m = n := by
  have below : ∀ {l : Sp α} {c : Nat}, spWf d c l = true → ∀ k, k < c → spGet d l k = d k := by
    intro l
    induction l with
    | nil => intros; rfl
    | cons p l ih =>
      obtain ⟨j, v⟩ := p
      intro c hc k hk
      simp [spWf] at hc
      simp [spGet, show ¬ j = k by omega]
      exact ih hc.2 k (by omega)
  induction m generalizing n a b with
  | nil =>
    cases n with
    | nil => rfl
    | cons q n =>
      obtain ⟨j, v⟩ := q
      have := h j; simp [spWf] at hn; simp [spGet] at this; exact absurd this.symm hn.1.2
  | cons p m ih =>
    obtain ⟨i, w⟩ := p
    cases n with
    | nil => have := h i; simp [spWf] at hm; simp [spGet] at this; exact absurd this hm.1.2
    | cons q n =>
      obtain ⟨j, v⟩ := q
      simp [spWf] at hm hn
      have hij : i = j := by
        rcases lt_trichotomy i j with hl | hl | hl
        · have := h i
          simp [spGet, show ¬ j = i by omega] at this
          rw [below hn.2 i (by omega)] at this
          exact absurd this hm.1.2
        · exact hl
        · have := h j
          simp [spGet, show ¬ i = j by omega] at this
          rw [below hm.2 j (by omega)] at this
          exact absurd this.symm hn.1.2
      subst hij
      have hw : w = v := by simpa [spGet] using h i
      subst hw
      rw [ih hm.2 hn.2 fun k => ?_]
      by_cases hk : i = k
      · subst hk; rw [below hm.2 i (by omega), below hn.2 i (by omega)]
      · simpa [spGet, hk] using h k

end Sys2Proof.Machine
end

