-- ==== Sys2Proof/Laws/Canonical.lean ====
section
/-!
SUPPORT. Every operation on registers and memories keeps their canonical form, and the state after reset has it.
-/

namespace Sys2Proof.Machine

open State

theorem memWf_memPut {m : List Host.Cell} (h : memWf m) (a : Nat) (b : Byte) : memWf (memPut m a b) := spWf_spPut _ _ h (Nat.zero_le a)

theorem memWf_memPutN {m : List Host.Cell} (h : memWf m) (a : Nat) (l : List Byte) : memWf (memPutN m a l) := by
  induction l generalizing m a with
  | nil => exact h
  | cons b l ih => exact ih (memWf_memPut h a b) (a + 1)

theorem memWf_filter {m : List Host.Cell} (h : memWf m) (q : Host.Cell → Bool) : memWf (m.filter q) := spWf_filter _ q h

/-- A loop of steps that each keep a property keeps it. -/
theorem foldl_keeps {α β : Type} {p : α → Prop} (g : α → β → α) (hg : ∀ a b, p a → p (g a b)) (l : List β) {a : α} (h : p a) :
    p (l.foldl g a) := by
  induction l generalizing a with
  | nil => exact h
  | cons b l ih => exact ih (hg a b h)

theorem canonical_of {α : Type} {p : State × α} {u : State} {v : α} (e : p = (u, v)) (h : p.1.Canonical) : u.Canonical := by
  rw [e] at h; exact h

theorem canonical_reset : State.reset.Canonical := ⟨rfl, rfl, rfl, rfl, rfl⟩

/-! ## Registers -/

theorem State.Canonical.setRword {s : State} (h : s.Canonical) (off : Nat) (v : W64) : (s.setRword off v).Canonical :=
  ⟨spWf_spPut _ _ h.1 (Nat.zero_le off), h.2⟩
theorem State.Canonical.rset {s : State} (h : s.Canonical) (f : Fd) (v : Nat) : (s.rset f v).Canonical := h.setRword _ _
theorem State.Canonical.radd {s : State} (h : s.Canonical) (f : Fd) (k : Nat) : (s.radd f k).Canonical := h.rset _ _
theorem State.Canonical.rbit {s : State} (h : s.Canonical) (f : Fd) (i : Nat) (b : Bool) : (s.rbit f i b).Canonical := h.rset _ _

/-! ## Records and host memory -/

theorem State.Canonical.injDone {s : State} (h : s.Canonical) : s.injDone.Canonical := by
  unfold State.injDone; split
  · exact h
  · exact (h.rset _ _).rset _ _
theorem State.Canonical.noteInj {s : State} (h : s.Canonical) (c k : Nat) : (s.noteInj c k).Canonical := by
  unfold State.noteInj; split <;> exact h
theorem State.Canonical.keepInj {s : State} (h : s.Canonical) (b : Bool) (c k : Nat) : (s.keepInj b c k).Canonical := by
  unfold State.keepInj; split
  · exact h.noteInj _ _
  · exact h
theorem State.Canonical.dropInj {s : State} (h : s.Canonical) (c k : Nat) : (s.dropInj c k).Canonical := h
theorem State.Canonical.clearInj {s : State} (h : s.Canonical) (b : Bool) (c k : Nat) : (s.clearInj b c k).Canonical := by
  unfold State.clearInj; split <;> exact h
theorem State.Canonical.hostStore {s : State} (h : s.Canonical) (a : Nat) (l : List Byte) : (s.hostStore a l).Canonical :=
  ⟨h.1, h.2.1, h.2.2.1, h.2.2.2.1, memWf_memPutN h.2.2.2.2 a l⟩
theorem State.Canonical.countHostFail {s : State} (h : s.Canonical) (why : Nat) : (s.countHostFail why).Canonical := by
  unfold State.countHostFail; split
  · exact h.radd _ _
  · exact h
theorem State.Canonical.hostWrite {s : State} (h : s.Canonical) (a : Nat) (l : List Byte) : (s.hostWrite a l).1.Canonical := by
  unfold State.hostWrite; split
  · exact h.countHostFail _
  · exact State.Canonical.hostStore (s := s.atsFill a l.length) h a l
theorem State.Canonical.msi {s : State} (h : s.Canonical) (v : Nat) : (s.msi v).Canonical := by
  unfold State.msi; split <;> exact h
theorem State.Canonical.fltIrq {s : State} (h : s.Canonical) : s.fltIrq.Canonical := by
  unfold State.fltIrq
  split
  · split
    · split
      · exact State.Canonical.msi (s := { s with flt.ringIrqAt := some s.clock }) h _
      · exact h
    · exact State.Canonical.msi (s := { s with flt.ringIrqAt := some s.clock }) h _
  · exact h
theorem State.Canonical.retain {s : State} (h : s.Canonical) (r : FaultRec) : (s.retain r).Canonical := by
  unfold State.retain State.retainNow
  split
  · by_cases hc : (if s.flt.retSecond = s.clock / 25000000 then s.flt.retCommits else 0) ≥ 100
    · simp only [if_pos hc]; exact h.radd _ _
    · simp only [if_neg hc]; exact h
  · exact h
theorem State.Canonical.toRing {s : State} (h : s.Canonical) (r : FaultRec) : (s.toRing r).Canonical := by
  unfold State.toRing
  split
  · split
    · exact h
    · split
      · exact h.radd _ _
      · have k := h.hostWrite (s.rget Fd.FLT_RING_BASE_BASE * 4096 + (r.seq % s.fltRingN) * 32) r.bytes
        simp only
        split
        · rename_i e; rw [e] at k; exact k.radd _ _
        · rename_i e; rw [e] at k; exact k.fltIrq
  · exact h
theorem State.Canonical.deliver {s : State} (h : s.Canonical) (r : FaultRec) : (s.deliver r).Canonical := by
  unfold State.deliver
  simp only
  split
  · exact ((h.retain r).toRing r).rset _ _
  · exact (h.retain r).toRing r
theorem State.Canonical.flt {s : State} (h : s.Canonical) (x : FltState) : ({ s with flt := x } : State).Canonical := h
theorem State.Canonical.raiseN {s : State} (h : s.Canonical) (a : RecArg) (n : Nat) : (s.raiseN a n).Canonical := by
  unfold State.raiseN
  simp only
  generalize (decide ((if s.fencedIn a.unit = true then 0 else a.fence) = 0) && decide (s.rget Fd.FLT_CTL_COAL_MS ≠ 0)) = hold
  by_cases he : decide (s.stage < 2) = true
  · simp only [he, if_true]; split <;> exact (h.flt _)
  · simp only [he, if_false, Bool.false_eq_true]
    cases hold
    · exact State.Canonical.deliver (h.flt _) _
    · simp only [if_true]
      split <;> exact (h.flt _)
theorem State.Canonical.raise {s : State} (h : s.Canonical) (a : RecArg) : (s.raise a).Canonical := h.raiseN a 1

/-! ## Local stores -/

theorem State.Canonical.lsPutWord {s : State} (h : s.Canonical) (k : Nat) (l : List Byte) : (s.lsPutWord k l).Canonical := by
  have h1 : (({ s with mem.ls := memPutN s.mem.ls k l, mem.lsBad := spDel s.mem.lsBad (k / 4) } : State).dropInj 0 (k / 4)).Canonical :=
    ⟨h.1, h.2.1, h.2.2.1, memWf_memPutN h.2.2.2.1 k l, h.2.2.2.2⟩
  unfold State.lsPutWord
  simp only
  split
  · exact (State.Canonical.noteInj (by exact h1) _ _).injDone
  · exact h1
theorem State.Canonical.lsPoke {s : State} (h : s.Canonical) (f o : Nat) (l : List Byte) : (s.lsPoke f o l).1.Canonical := by
  unfold State.lsPoke
  refine foldl_keeps (p := fun q : State × Option MErr => q.1.Canonical) _ (fun q w k => ?_) _ h
  split
  · exact k
  · exact k.lsPutWord _ _
theorem State.Canonical.aliasPoke {s : State} (h : s.Canonical) (f o win : Nat) (l : List Byte) : (s.aliasPoke f o win l).1.Canonical := by
  unfold State.aliasPoke
  split
  · split
    · exact h
    · exact h.lsPoke _ _ _
  · exact h

/-! ## The Thallus -/

theorem State.Canonical.thlCorrected {s : State} (h : s.Canonical) (o : Nat) (inj : Bool) : (s.thlCorrected o inj).Canonical := by
  unfold State.thlCorrected; split <;> exact h
theorem State.Canonical.bgUse {s : State} (h : s.Canonical) (key : Nat) : (s.bgUse key).Canonical := h
theorem State.Canonical.thlUse {s : State} (h : s.Canonical) (o : Nat) : (s.thlUse o).Canonical := h
theorem State.Canonical.thlTouch1 {s : State} (h : s.Canonical) (o : Nat) : (s.thlTouch1 o).Canonical := by
  unfold State.thlTouch1
  split
  · exact h
  · split
    · exact h
    · refine State.Canonical.thlCorrected (State.Canonical.radd ?_ _ _) _ _
      exact ⟨h.1, h.2.1, memWf_memPut h.2.2.1 o _, h.2.2.2⟩
    · exact h.radd _ _
theorem State.Canonical.thlTouch {s : State} (h : s.Canonical) (o n : Nat) : (s.thlTouch o n).Canonical := by
  unfold State.thlTouch
  exact foldl_keeps (p := State.Canonical) _ (fun _ _ k => k.thlTouch1 _) _ (h.thlUse o)
theorem State.Canonical.thlPoke1 {s : State} (h : s.Canonical) (o : Nat) (b : Byte) : (s.thlPoke1 o b).Canonical := by
  have h1 : (({ s with mem.thl := memPut s.mem.thl o b, mem.thlBad := spDel s.mem.thlBad o } : State).dropInj 1 o).Canonical :=
    ⟨h.1, h.2.1, memWf_memPut h.2.2.1 o b, h.2.2.2⟩
  unfold State.thlPoke1
  simp only
  split
  · exact (State.Canonical.noteInj (by exact h1) _ _).injDone
  · exact h1
theorem State.Canonical.thlPokes {s : State} (h : s.Canonical) (o : Nat) (l : List Byte) : (s.thlPokes o l).Canonical := by
  induction l generalizing s o with
  | nil => exact h
  | cons b l ih => exact ih (h.thlPoke1 o b) (o + 1)
theorem State.Canonical.thlPoke {s : State} (h : s.Canonical) (o : Nat) (l : List Byte) : (s.thlPoke o l).Canonical :=
  (h.thlUse o).thlPokes o l

/-! ## DRAM and its cache -/

theorem State.Canonical.rowIsDue {s : State} (h : s.Canonical) (ch a : Nat) : (s.rowIsDue ch a).Canonical := by
  unfold State.rowIsDue; split <;> exact h
theorem State.Canonical.rowCorrected {s : State} (h : s.Canonical) (ch a : Nat) : (s.rowCorrected ch a).Canonical := by
  unfold State.rowCorrected
  simp only
  split
  · exact State.Canonical.rowIsDue (by exact h) _ _
  · exact h
theorem State.Canonical.chanTouch {s : State} (h : s.Canonical) (ch a : Nat) : (s.chanTouch ch a).Canonical := by
  unfold State.chanTouch
  simp only
  split
  · exact h
  · split
    · exact h
    · split
      · exact State.Canonical.radd (by exact h) _ _
      · exact (State.Canonical.radd (by exact h) _ _).rowCorrected _ _
    · split
      · exact h.radd _ _
      · exact (h.radd _ _).rowIsDue _ _
theorem State.Canonical.chanPutSector {s : State} (h : s.Canonical) (ch a : Nat) (l : List Byte) (p : Bool) :
    (s.chanPutSector ch a l p).Canonical := by
  have h1 : (({ s with mem.dram := memPutN s.mem.dram (dramKey ch (alignDown a 32)) l, mem.dramBad := spDel s.mem.dramBad (sectorKey ch a),
                       mem.dramMeta := spPut (fun _ => 0) s.mem.dramMeta (sectorKey ch a) (poisonMeta p) } :
      State).dropInj 2 (sectorKey ch a)).Canonical := ⟨h.1, memWf_memPutN h.2.1 _ l, h.2.2⟩
  unfold State.chanPutSector
  simp only
  split
  · exact (State.Canonical.noteInj (by exact h1) _ _).injDone
  · exact h1
theorem State.Canonical.chanMerge {s : State} (h : s.Canonical) (ch a : Nat) (l : List Byte) : (s.chanMerge ch a l).Canonical := by
  have k := h.chanTouch ch a
  unfold State.chanMerge
  dsimp only
  split
  · exact (k.chanPutSector _ _ _ _).keepInj _ _ _
  · split
    · exact ((k.chanPutSector _ _ _ _).keepInj _ _ _).raise _
    · exact k.chanPutSector _ _ _ _
theorem State.Canonical.writeBack {s : State} (h : s.Canonical) (sl set w : Nat) : (s.writeBack sl set w).Canonical := by
  unfold State.writeBack
  simp only
  split
  · exact h
  · refine foldl_keeps (p := State.Canonical) _ (fun u i k => ?_) _ h
    split
    · exact (k.chanPutSector _ _ _ _).keepInj _ _ _
    · exact k
theorem State.Canonical.forgetLine {s : State} (h : s.Canonical) (l : Nat) : (s.forgetLine l).Canonical := by
  unfold State.forgetLine
  exact foldl_keeps (p := State.Canonical) _ (fun u i k => k.dropInj _ _) _ h
theorem State.Canonical.evict {s : State} (h : s.Canonical) (sl set w : Nat) : (s.evict sl set w).Canonical := by
  have k := h.writeBack sl set w
  unfold State.evict
  simp only
  split
  · refine State.Canonical.forgetLine ?_ _
    split <;> exact k
  · exact h
theorem State.Canonical.tagInject {s : State} (h : s.Canonical) (sl k c : Nat) : (s.tagInject sl k c).Canonical := by
  unfold State.tagInject
  split
  · refine (State.Canonical.noteInj ?_ _ _).injDone
    split <;> exact h
  · exact h
theorem State.Canonical.allocLine {s : State} (h : s.Canonical) (sl set tag : Nat) : (s.allocLine sl set tag).1.Canonical := by
  unfold State.allocLine
  split
  · exact h
  · split
    · exact h
    · rename_i w _
      exact State.Canonical.tagInject (State.Canonical.tagInject (by exact h.evict sl set w) _ _ _) _ _ _
theorem State.Canonical.fetchSector {s : State} (h : s.Canonical) (sl set w i ch a : Nat) : (s.fetchSector sl set w i ch a).Canonical := by
  unfold State.fetchSector
  simp only
  split
  · exact h
  · split <;> exact h.chanTouch _ _
theorem State.Canonical.demandFill {s : State} (h : s.Canonical) (pa : Nat) : (s.demandFill pa).Canonical := by
  unfold State.demandFill
  split
  · exact h
  · simp only
    split
    · split
      · rename_i e; exact (canonical_of e (State.Canonical.allocLine (by exact h) _ _ _)).fetchSector _ _ _ _ _ _
      · rename_i e; exact (canonical_of e (State.Canonical.allocLine (by exact h) _ _ _)).chanTouch _ _
    · exact h.chanTouch _ _
theorem State.Canonical.capBump {s : State} (h : s.Canonical) : s.capBump.Canonical := by
  unfold State.capBump; dsimp only; split
  · exact State.Canonical.msi (by exact h) _
  · exact h
theorem State.Canonical.distBump {s : State} (h : s.Canonical) : s.distBump.Canonical := by
  unfold State.distBump
  refine State.Canonical.capBump ?_
  split
  · exact State.Canonical.msi (by exact h) _
  · exact h
theorem State.Canonical.markLost {s : State} (h : s.Canonical) : s.markLost.Canonical := by
  unfold State.markLost
  refine foldl_keeps (p := State.Canonical) _ (fun u n k => ?_) _ h
  split
  · exact k.rset _ _
  · exact k
theorem State.Canonical.fenceChannelNow {s : State} (h : s.Canonical) (c : Nat) : (s.fenceChannelNow c).Canonical := by
  have k : (s.addFence (.channel c)).Canonical := by unfold State.addFence; split <;> exact h
  exact (k.rbit _ _ _).markLost.distBump
theorem State.Canonical.tagCheck {s : State} (h : s.Canonical) (pa : Nat) : (s.tagCheck pa).Canonical := by
  unfold State.tagCheck
  split
  · exact h
  · dsimp only
    split
    · exact h
    · split
      · exact h
      · exact (State.Canonical.raise (by exact h) _).fenceChannelNow _
theorem State.Canonical.setWay {s : State} (h : s.Canonical) (sl set w : Nat) (v : CLine) : (s.setWay sl set w v).Canonical := h
theorem State.Canonical.modWay {s : State} (h : s.Canonical) (sl set w : Nat) (g : CLine → CLine) : (s.modWay sl set w g).Canonical := h
theorem State.Canonical.plruUse {s : State} (h : s.Canonical) (sl set w : Nat) : (s.plruUse sl set w).Canonical := h
theorem State.Canonical.sectorFix {s : State} (h : s.Canonical) (sl set way i : Nat) (offs : List Nat) :
    (s.sectorFix sl set way i offs).Canonical := by
  unfold State.sectorFix
  refine foldl_keeps (p := State.Canonical) _ (fun u j k => ?_) _ h
  dsimp only
  split
  · exact ((k.setWay _ _ _ _).radd _ _).thlCorrected _ _
  · exact k
theorem State.Canonical.dramTouch {s : State} (h : s.Canonical) (pa n : Nat) : (s.dramTouch pa n).Canonical := by
  unfold State.dramTouch
  split
  · exact h
  · simp only
    split
    · split
      · split
        · split
          · exact ((((h.bgUse _).radd _ _).setWay _ _ _ _).radd _ _).raise _
          · exact (((((h.bgUse _).radd _ _).setWay _ _ _ _).radd _ _).dropInj _ _).fetchSector _ _ _ _ _ _
        · exact (((h.bgUse _).sectorFix _ _ _ _ _).modWay _ _ _ _).plruUse _ _ _
      · exact (h.bgUse _).demandFill _
    · exact h.demandFill _
theorem State.Canonical.wayPoke {s : State} (h : s.Canonical) (ch set w i off pa : Nat) (l : List Byte) :
    (s.wayPoke ch set w i off pa l).Canonical := by
  have k : (s.clearInj (l.length == 32) 8 (pa / 32)).Canonical := h.clearInj _ _ _
  unfold State.wayPoke
  dsimp only
  generalize s.clearInj (l.length == 32) 8 (pa / 32) = u at k ⊢
  split
  · exact (State.Canonical.noteInj (by exact k) _ _).injDone
  · exact k
theorem State.Canonical.dramPoke {s : State} (h : s.Canonical) (pa : Nat) (l : List Byte) : (s.dramPoke pa l).Canonical := by
  unfold State.dramPoke
  split
  · exact h
  · dsimp only
    split
    · split
      · exact h.chanPutSector _ _ _ _
      · split
        · rename_i e; exact (canonical_of e (h.allocLine _ _ _)).chanPutSector _ _ _ _
        · rename_i e; exact (canonical_of e (h.allocLine _ _ _)).wayPoke _ _ _ _ _ _ _
    · exact h.chanMerge _ _ _

/-! ## Any device physical address -/

theorem State.Canonical.modFr {s : State} (h : s.Canonical) (f : Nat) (g : Frond → Frond) : (s.modFr f g).Canonical := h
theorem State.Canonical.lsWakeDusk {s : State} (h : s.Canonical) (f : Nat) : (s.lsWakeDusk f).Canonical := by
  unfold State.lsWakeDusk; dsimp only; split
  · exact (h.modFr _ _).rset _ _
  · exact h.modFr _ _
theorem State.Canonical.lsCount {s : State} (h : s.Canonical) (f o n : Nat) : (s.lsCount f o n).Canonical := by
  unfold State.lsCount
  dsimp only
  split
  · exact h
  · exact h.modFr _ _
theorem State.Canonical.touchPiece {s : State} (h : s.Canonical) (pa n : Nat) : (s.touchPiece pa n).Canonical := by
  unfold State.touchPiece
  split
  · exact h
  · split
    · exact (h.tagCheck _).dramTouch _ _
    · split
      · exact h.countHostFail _
      · exact h
    · exact h.thlTouch _ _
    · exact (h.lsWakeDusk _).lsCount _ _ _
    · exact h
theorem State.Canonical.touch {s : State} (h : s.Canonical) (pa n : Nat) : (s.touch pa n).Canonical := by
  unfold State.touch
  exact foldl_keeps (p := State.Canonical) _ (fun _ _ k => k.touchPiece _ _) _ h
theorem State.Canonical.tagReads {s : State} (h : s.Canonical) (pa n : Nat) : (s.tagReads pa n).Canonical := by
  unfold State.tagReads
  refine foldl_keeps (p := State.Canonical) _ (fun u w k => ?_) _ h
  split
  · exact k.tagCheck _
  · exact k
/-- A read of any range keeps the form. -/
theorem State.Canonical.read {s : State} (h : s.Canonical) (pa n : Nat) : (s.read pa n).1.Canonical := (h.tagReads pa n).touch pa n
theorem State.Canonical.pokePiece {s : State} (h : s.Canonical) (pa : Nat) (l : List Byte) : (s.pokePiece pa l).1.Canonical := by
  unfold State.pokePiece
  split
  · exact h
  · split
    · dsimp only
      split
      · exact h.tagCheck _
      · exact (h.tagCheck _).dramPoke _ _
    · split <;> (rename_i e; exact canonical_of e (h.hostWrite _ l))
    · exact h.thlPoke _ _
    · exact (h.lsWakeDusk _).lsPoke _ _ _
    · exact (h.lsWakeDusk _).aliasPoke _ _ _ _
    · exact h
/-- A write of any range keeps the form. -/
theorem State.Canonical.write {s : State} (h : s.Canonical) (pa : Nat) (l : List Byte) : (s.write pa l).1.Canonical := by
  unfold State.write
  split
  · exact h
  · refine foldl_keeps (p := fun q : State × Option MErr => q.1.Canonical) _ (fun q w k => ?_) _ h
    split
    · exact k
    · exact k.pokePiece _ _

end Sys2Proof.Machine
end

