-- ==== Sys2Proof/Laws/Regs.lean ====
section
/-!
SUPPORT. Bit fields and registers: what a field reads after a field is written.
-/

namespace Sys2Proof.Machine

theorem setFld_toNat {n : Nat} (w : BitVec n) {hi lo : Nat} (v : Nat) (h : lo ≤ hi) (hn : hi < n) :
    (setFld w hi lo v).toNat =
      w.toNat % 2 ^ lo + (v % 2 ^ (hi + 1 - lo)) * 2 ^ lo + w.toNat / 2 ^ (hi + 1) * 2 ^ (hi + 1) := by
  have hk : (2 : Nat) ^ (hi + 1) = 2 ^ lo * 2 ^ (hi + 1 - lo) := by rw [← pow_add]; congr 1; omega
  have h1 : w.toNat / 2 ^ lo = w.toNat / 2 ^ (hi + 1) * 2 ^ (hi + 1 - lo) + w.toNat / 2 ^ lo % 2 ^ (hi + 1 - lo) := by
    rw [hk, ← Nat.div_div_eq_div_mul, mul_comm, Nat.div_add_mod]
  have h2 : w.toNat = w.toNat / 2 ^ (hi + 1) * 2 ^ (hi + 1) + (w.toNat / 2 ^ lo % 2 ^ (hi + 1 - lo)) * 2 ^ lo + w.toNat % 2 ^ lo := by
    conv_lhs => rw [← Nat.div_add_mod w.toNat (2 ^ lo), h1]
    rw [hk]; ring
  have hb : w.toNat % 2 ^ lo + (v % 2 ^ (hi + 1 - lo)) * 2 ^ lo + w.toNat / 2 ^ (hi + 1) * 2 ^ (hi + 1) < 2 ^ n := by
    have hv : v % 2 ^ (hi + 1 - lo) + 1 ≤ 2 ^ (hi + 1 - lo) := Nat.mod_lt _ (by positivity)
    have hl : w.toNat % 2 ^ lo < 2 ^ lo := Nat.mod_lt _ (by positivity)
    have h3 : (v % 2 ^ (hi + 1 - lo)) * 2 ^ lo + 2 ^ lo ≤ 2 ^ (hi + 1) := by
      rw [hk]; nlinarith [hv, (by positivity : 0 < 2 ^ lo)]
    have h4 : w.toNat / 2 ^ (hi + 1) < 2 ^ (n - (hi + 1)) := by
      apply Nat.div_lt_of_lt_mul
      rw [← pow_add, show hi + 1 + (n - (hi + 1)) = n by omega]; exact w.isLt
    have h5 : (2 : Nat) ^ n = 2 ^ (n - (hi + 1)) * 2 ^ (hi + 1) := by rw [← pow_add]; congr 1; omega
    have h6 : (w.toNat / 2 ^ (hi + 1) + 1) * 2 ^ (hi + 1) ≤ 2 ^ (n - (hi + 1)) * 2 ^ (hi + 1) := Nat.mul_le_mul_right _ h4
    rw [h5]; nlinarith
  have he : w.toNat - ((w.toNat >>> lo) % 2 ^ (hi + 1 - lo)) * 2 ^ lo + (v % 2 ^ (hi + 1 - lo)) * 2 ^ lo =
      w.toNat % 2 ^ lo + (v % 2 ^ (hi + 1 - lo)) * 2 ^ lo + w.toNat / 2 ^ (hi + 1) * 2 ^ (hi + 1) := by
    rw [Nat.shiftRight_eq_div_pow]; omega
  simp only [setFld, BitVec.toNat_ofNat, he]
  exact Nat.mod_eq_of_lt hb

/-- A field reads what was written to it. -/
theorem fld_setFld_same {n : Nat} (w : BitVec n) {hi lo : Nat} (v : Nat) (h : lo ≤ hi) (hn : hi < n) :
    fld (setFld w hi lo v) hi lo = v % 2 ^ (hi + 1 - lo) := by
  have hk : (2 : Nat) ^ (hi + 1) = 2 ^ lo * 2 ^ (hi + 1 - lo) := by rw [← pow_add]; congr 1; omega
  have hl : w.toNat % 2 ^ lo < 2 ^ lo := Nat.mod_lt _ (by positivity)
  rw [fld, setFld_toNat w v h hn, Nat.shiftRight_eq_div_pow,
    show w.toNat % 2 ^ lo + (v % 2 ^ (hi + 1 - lo)) * 2 ^ lo + w.toNat / 2 ^ (hi + 1) * 2 ^ (hi + 1) =
      w.toNat % 2 ^ lo + 2 ^ lo * (v % 2 ^ (hi + 1 - lo) + 2 ^ (hi + 1 - lo) * (w.toNat / 2 ^ (hi + 1))) by rw [hk]; ring,
    Nat.add_mul_div_left _ _ (by positivity), Nat.div_eq_of_lt hl, zero_add, Nat.add_mul_mod_self_left, Nat.mod_mod]

/-- A field that shares no bit with the one written keeps its value. -/
theorem fld_setFld_disj {n : Nat} (w : BitVec n) {hi lo hi' lo' : Nat} (v : Nat) (h : lo ≤ hi) (hn : hi < n)
    (hd : hi' < lo ∨ hi < lo') : fld (setFld w hi lo v) hi' lo' = fld w hi' lo' := by
  have hk : (2 : Nat) ^ (hi + 1) = 2 ^ lo * 2 ^ (hi + 1 - lo) := by rw [← pow_add]; congr 1; omega
  have hl : w.toNat % 2 ^ lo < 2 ^ lo := Nat.mod_lt _ (by positivity)
  have hv : v % 2 ^ (hi + 1 - lo) < 2 ^ (hi + 1 - lo) := Nat.mod_lt _ (by positivity)
  simp only [fld, Nat.shiftRight_eq_div_pow]
  rw [setFld_toNat w v h hn]
  rcases hd with hd | hd
  · have key : ∀ x : Nat, x / 2 ^ lo' % 2 ^ (hi' + 1 - lo') = (x % 2 ^ lo) / 2 ^ lo' % 2 ^ (hi' + 1 - lo') := by
      intro x
      by_cases hle : lo' ≤ hi'
      · have e1 : (2 : Nat) ^ lo = 2 ^ lo' * (2 ^ (hi' + 1 - lo') * 2 ^ (lo - (hi' + 1))) := by
          rw [← pow_add, ← pow_add]; congr 1; omega
        rw [e1, Nat.mod_mul_right_div_self, Nat.mod_mul_right_mod]
      · rw [show hi' + 1 - lo' = 0 by omega]; simp [Nat.mod_one]
    rw [key, key w.toNat]
    congr 2
    rw [show w.toNat % 2 ^ lo + (v % 2 ^ (hi + 1 - lo)) * 2 ^ lo + w.toNat / 2 ^ (hi + 1) * 2 ^ (hi + 1) =
      w.toNat % 2 ^ lo + 2 ^ lo * (v % 2 ^ (hi + 1 - lo) + 2 ^ (hi + 1 - lo) * (w.toNat / 2 ^ (hi + 1))) by rw [hk]; ring,
      Nat.add_mul_mod_self_left, Nat.mod_mod]
  · have e : (2 : Nat) ^ lo' = 2 ^ (hi + 1) * 2 ^ (lo' - (hi + 1)) := by rw [← pow_add]; congr 1; omega
    have hb : w.toNat % 2 ^ lo + (v % 2 ^ (hi + 1 - lo)) * 2 ^ lo < 2 ^ (hi + 1) := by
      rw [hk]; nlinarith [(by positivity : 0 < 2 ^ lo)]
    rw [e, ← Nat.div_div_eq_div_mul, ← Nat.div_div_eq_div_mul, Nat.add_mul_div_right _ _ (by positivity), Nat.div_eq_of_lt hb, zero_add]

@[simp] theorem State.rword_setRword_same (s : State) (off : Nat) (v : W64) : (s.setRword off v).rword off = v := by
  simp [State.rword, State.setRword]
theorem State.rword_setRword_ne (s : State) {off off' : Nat} (v : W64) (h : off' ≠ off) :
    (s.setRword off v).rword off' = s.rword off' := by
  simp only [State.rword, State.setRword]; exact spGet_spPut_ne _ _ _ h

/-- A register field reads what was last written to it. -/
theorem State.rget_rset_same (s : State) (f : Fd) (v : Nat) (h : f.lo ≤ f.hi) (hn : f.hi < 64) :
    (s.rset f v).rget f = v % 2 ^ (f.hi + 1 - f.lo) := by
  simp only [State.rget, State.rset, State.rword_setRword_same]; exact fld_setFld_same _ _ h hn

/-- A write to another register, or to other bits of the same one, leaves a field as it is. -/
theorem State.rget_rset_ne (s : State) (f g : Fd) (v : Nat) (h : f.lo ≤ f.hi) (hn : f.hi < 64)
    (hd : g.off ≠ f.off ∨ g.hi < f.lo ∨ f.hi < g.lo) : (s.rset f v).rget g = s.rget g := by
  by_cases he : g.off = f.off
  · simp only [State.rget, State.rset, he, State.rword_setRword_same]
    exact fld_setFld_disj _ _ h hn (hd.resolve_left (not_not.mpr he))
  · simp only [State.rget, State.rset, State.rword_setRword_ne s _ he]

end Sys2Proof.Machine
end

