-- ==== Sys2Proof/Laws/Raise.lean ====
section
/-!
SUPPORT. What raising a fault record leaves as it is: everything but the fault unit, the interrupts, the fault ring in host memory
and the queue of commits; and that from First light on the record stands in the log under its reason and location.
-/

namespace Sys2Proof.Machine

/-- What interrupts, the fault ring and the retained records leave alone. -/
structure State.SameBut (s t : State) : Prop where
  part : t.part = s.part
  clock : t.clock = s.clock
  free : t.free = s.free
  pending : t.pending = s.pending
  waited : t.waited = s.waited
  frd : t.frd = s.frd
  thl : t.thl = s.thl
  msc : t.msc = s.msc
  pil : t.pil = s.pil
  pnw : t.pnw = s.pnw
  rng : t.rng = s.rng
  ses : t.ses = s.ses
  sor : t.sor = s.sor
  fab : t.fab = s.fab
  sec : t.sec = s.sec
  pwr : t.pwr = s.pwr
  thm : t.thm = s.thm
  boot : t.boot = s.boot
  fwu : t.fwu = s.fwu
  con : t.con = s.con
  mem : t.mem = { s.mem with host := t.mem.host }
  ldg : t.ldg = { s.ldg with queue := t.ldg.queue }
  fences : t.flt.fences = s.flt.fences
  rword : ∀ off, ¬ recSlot off → t.rword off = s.rword off

theorem State.SameBut.refl (s : State) : s.SameBut s := by constructor <;> intros <;> rfl

theorem State.SameBut.trans {s t u : State} (h : s.SameBut t) (k : t.SameBut u) : s.SameBut u where
  part := k.part.trans h.part
  clock := k.clock.trans h.clock
  free := k.free.trans h.free
  pending := k.pending.trans h.pending
  waited := k.waited.trans h.waited
  frd := k.frd.trans h.frd
  thl := k.thl.trans h.thl
  msc := k.msc.trans h.msc
  pil := k.pil.trans h.pil
  pnw := k.pnw.trans h.pnw
  rng := k.rng.trans h.rng
  ses := k.ses.trans h.ses
  sor := k.sor.trans h.sor
  fab := k.fab.trans h.fab
  sec := k.sec.trans h.sec
  pwr := k.pwr.trans h.pwr
  thm := k.thm.trans h.thm
  boot := k.boot.trans h.boot
  fwu := k.fwu.trans h.fwu
  con := k.con.trans h.con
  mem := k.mem.trans (by rw [h.mem])
  ldg := k.ldg.trans (by rw [h.ldg])
  fences := k.fences.trans h.fences
  rword := fun off ho => (k.rword off ho).trans (h.rword off ho)

theorem State.SameBut.mem_dram {s t : State} (h : s.SameBut t) : t.mem.dram = s.mem.dram := by rw [h.mem]
theorem State.SameBut.mem_thl {s t : State} (h : s.SameBut t) : t.mem.thl = s.mem.thl := by rw [h.mem]
theorem State.SameBut.mem_ls {s t : State} (h : s.SameBut t) : t.mem.ls = s.mem.ls := by rw [h.mem]

theorem State.SameBut.rset {s t : State} (h : s.SameBut t) (f : Fd) (v : Nat) (hf : recSlot f.off) : s.SameBut (t.rset f v) := by
  refine h.trans ?_
  constructor <;> first | rfl | skip
  intro off ho
  exact State.rword_setRword_ne _ _ (fun e => ho (e ▸ hf))

theorem State.SameBut.radd {s t : State} (h : s.SameBut t) (f : Fd) (k : Nat) (hf : recSlot f.off) : s.SameBut (t.radd f k) := h.rset f _ hf

theorem State.msi_same (s : State) (v : Nat) : s.SameBut (s.msi v) := by
  unfold State.msi; split <;> (constructor <;> intros <;> rfl)

theorem State.fltIrq_same (s : State) : s.SameBut s.fltIrq := by
  unfold State.fltIrq
  split
  · split
    · split
      · refine State.SameBut.trans (by constructor <;> intros <;> rfl) (State.msi_same _ _)
      · (constructor <;> intros <;> rfl)
    · refine State.SameBut.trans (by constructor <;> intros <;> rfl) (State.msi_same _ _)
  · exact .refl s

theorem recSlot_flt {off : Nat} (h : 0xF0000 ≤ off) (h' : off < 0x100000) : recSlot off := .inl ⟨h, h'⟩

theorem State.hostWrite_same (s : State) (a : Nat) (l : List Byte) : s.SameBut (s.hostWrite a l).1 := by
  unfold State.hostWrite
  split
  · unfold State.countHostFail
    split
    · exact (State.SameBut.refl s).radd Fd.HPT_ATS_STAT_FAILS 1 (.inr rfl)
    · exact .refl s
  · (constructor <;> intros <;> rfl)

theorem State.toRing_same (s : State) (r : FaultRec) : s.SameBut (s.toRing r) := by
  unfold State.toRing
  split
  · split
    · exact .refl s
    · split
      · exact (State.SameBut.refl s).radd Fd.FLT_STAT_RING_SKIPPED 1 (recSlot_flt (by decide) (by decide))
      · have := State.hostWrite_same s (s.rget Fd.FLT_RING_BASE_BASE * 4096 + (r.seq % s.fltRingN) * 32) r.bytes
        simp only
        split
        · rename_i h; rw [h] at this; exact this.radd Fd.FLT_STAT_RING_SKIPPED 1 (recSlot_flt (by decide) (by decide))
        · rename_i h; rw [h] at this; exact this.trans (State.fltIrq_same _)
  · exact .refl s

theorem State.retain_same (s : State) (r : FaultRec) : s.SameBut (s.retain r) := by
  unfold State.retain
  split
  · unfold State.retainNow
    by_cases hc : (if s.flt.retSecond = s.clock / 25000000 then s.flt.retCommits else 0) ≥ 100
    · simp only [if_pos hc]
      exact (State.SameBut.refl s).radd Fd.FLT_STAT_RETAIN_SKIPPED 1 (recSlot_flt (by decide) (by decide))
    · simp only [if_neg hc]
      (constructor <;> intros <;> rfl)
  · exact .refl s

theorem State.deliver_same (s : State) (r : FaultRec) : s.SameBut (s.deliver r) := by
  unfold State.deliver
  simp only
  have h := (State.retain_same s r).trans (State.toRing_same _ r)
  split
  · exact h.rset Fd.FLT_RING_PTR_DELIVERED _ (recSlot_flt (by decide) (by decide))
  · exact h

/-- Raising a record changes the fault unit, interrupts, the fault ring and the queue of commits, nothing else. -/
theorem State.raiseN_same (s : State) (a : RecArg) (n : Nat) : s.SameBut (s.raiseN a n) := by
  unfold State.raiseN
  simp only
  generalize hh : (decide ((if s.fencedIn a.unit = true then 0 else a.fence) = 0) && decide (s.rget Fd.FLT_CTL_COAL_MS ≠ 0)) = h
  by_cases he : decide (s.stage < 2) = true
  · simp only [he, if_true]; split <;> (constructor <;> intros <;> rfl)
  · simp only [he, if_false, Bool.false_eq_true]
    cases h
    · refine State.SameBut.trans (by constructor <;> intros <;> rfl) (State.deliver_same _ _)
    · simp only [if_true]
      split <;> (constructor <;> intros <;> rfl)

theorem State.raise_same (s : State) (a : RecArg) : s.SameBut (s.raise a) := State.raiseN_same s a 1

/-- A register field outside the fault unit reads the same after a record. -/
theorem State.rget_raise (s : State) (a : RecArg) (f : Fd) (h : ¬ recSlot f.off) : (s.raise a).rget f = s.rget f := by
  simp only [State.rget, (State.raise_same s a).rword _ h]

/-! ### The record itself -/

/-- A register write leaves the fault unit's log and queues. -/
theorem State.rset_flt (s : State) (f : Fd) (v : Nat) : (s.rset f v).flt = s.flt := by unfold State.rset State.setRword; rfl
/-- A counter register leaves them too. -/
theorem State.radd_flt (s : State) (f : Fd) (k : Nat) : (s.radd f k).flt = s.flt := by unfold State.radd; exact State.rset_flt _ _ _

/-- Interrupts, the fault ring and retention leave the log as it is. -/
theorem State.deliver_log (s : State) (r : FaultRec) : (s.deliver r).flt.log = s.flt.log := by
  have msi (u : State) (v : Nat) : (u.msi v).flt = u.flt := by unfold State.msi; split <;> rfl
  have irq (u : State) : u.fltIrq.flt.log = u.flt.log := by
    unfold State.fltIrq
    repeat' split
    all_goals first | rfl | rw [msi]
  have wr (u : State) (a : Nat) (l : List Byte) : (u.hostWrite a l).1.flt.log = u.flt.log := by
    unfold State.hostWrite
    split
    · unfold State.countHostFail
      split
      · simp only [State.radd_flt]
      · rfl
    · rfl
  have ring (u : State) : (u.toRing r).flt.log = u.flt.log := by
    unfold State.toRing
    split
    · split
      · rfl
      · split
        · simp only [State.radd_flt]
        · have h := wr u (u.rget Fd.FLT_RING_BASE_BASE * 4096 + (r.seq % u.fltRingN) * 32) r.bytes
          simp only
          split
          · rename_i e; rw [e] at h; simp only [State.radd_flt]; exact h
          · rename_i e; rw [e] at h; exact (irq _).trans h
    · rfl
  have keep : (s.retain r).flt.log = s.flt.log := by
    unfold State.retain
    split
    · unfold State.retainNow
      by_cases hc : (if s.flt.retSecond = s.clock / 25000000 then s.flt.retCommits else 0) ≥ 100
      · simp only [if_pos hc, State.radd_flt]
      · simp only [if_neg hc]
    · rfl
  unfold State.deliver
  simp only
  split
  · rw [State.rset_flt]
    exact (ring _).trans keep
  · exact (ring _).trans keep

/-- The index found is that of an element that meets the test. -/
theorem findIdxFrom_some {α : Type} (p : α → Bool) (l : List α) : ∀ (k i : Nat), findIdxFrom p l k = some i → k ≤ i ∧ ∃ x, l[i - k]? = some x ∧ p x = true := by
  induction l with
  | nil => intro k i h; cases h
  | cons y l ih =>
    intro k i h
    unfold findIdxFrom at h
    split at h
    · rename_i hp
      cases h
      exact ⟨Nat.le_refl _, y, by simp, hp⟩
    · obtain ⟨h1, x, h2, h3⟩ := ih (k + 1) i h
      refine ⟨by omega, x, ?_, h3⟩
      rw [show i - k = (i - (k + 1)) + 1 by omega]
      simpa using h2
/-- An element changed in place stands in the changed list. -/
theorem mem_modAt {α : Type} (f : α → α) (l : List α) : ∀ (i : Nat) (x : α), l[i]? = some x → f x ∈ modAt f l i := by
  induction l with
  | nil => intro i x h; simp at h
  | cons y l ih =>
    intro i x h
    cases i with
    | zero => simp at h; subst h; simp [modAt]
    | succ i => simp at h; simp [modAt, ih i x h]

/-- From First light on, what is raised at a fitted site stands in the log under its reason and location, whether as a new record or as one more
occurrence of the held one (R595, R597). -/
theorem State.raiseN_hasRecord (s : State) (a : RecArg) (n : Nat) (h : 2 ≤ s.stage) (hs : s.siteFitted a.loc = true) :
    (s.raiseN a n).HasRecord a.reason (a.loc.code s.devId) := by
  have he : decide (s.stage < 2) = false := by simp; omega
  unfold State.raiseN
  simp only [hs, if_true, he, if_false, Bool.false_eq_true]
  generalize (decide ((if s.fencedIn a.unit = true then 0 else a.fence) = 0) && decide (s.rget Fd.FLT_CTL_COAL_MS ≠ 0)) = hold
  unfold State.HasRecord
  split
  · rename_i i hi
    have hi : coalesceIdx s.flt.log a.reason (a.loc.code s.devId) = some i := by cases hold <;> first | exact hi | simp at hi
    unfold coalesceIdx at hi
    split at hi
    · rename_i j hj
      obtain ⟨-, x, hx, hp⟩ := findIdxFrom_some _ _ _ _ hj
      simp only [Nat.sub_zero] at hx
      simp only [hx] at hi
      split at hi
      · cases hi
        simp only [Bool.and_eq_true, beq_iff_eq] at hp
        exact ⟨_, mem_modAt _ _ _ _ hx, hp.1, hp.2⟩
      · cases hi
    · cases hi
  · cases hold <;> simp [State.deliver_log]

/-- The same for one occurrence. -/
theorem State.raise_hasRecord (s : State) (a : RecArg) (h : 2 ≤ s.stage) (hs : s.siteFitted a.loc = true) :
    (s.raise a).HasRecord a.reason (a.loc.code s.devId) := State.raiseN_hasRecord s a 1 h hs

end Sys2Proof.Machine
end

