-- ==== Sys2Proof/Laws/State.lean ====
section
/-!
SUPPORT. What each update of the state leaves as it was, field by field, and what a read of the updated piece sees: no proof needs to unfold
the update of a record.
-/

namespace Sys2Proof.Machine

variable (s : State)

/-! ### One component replaced -/

theorem State.only_regs (x : Sp W64) :
    ({ s with regs := x } : State).part = s.part ∧ ({ s with regs := x } : State).clock = s.clock ∧ ({ s with regs := x } : State).free = s.free ∧
    ({ s with regs := x } : State).pending = s.pending ∧ ({ s with regs := x } : State).waited = s.waited ∧
    ({ s with regs := x } : State).mem = s.mem ∧ ({ s with regs := x } : State).frd = s.frd ∧ ({ s with regs := x } : State).thl = s.thl ∧
    ({ s with regs := x } : State).msc = s.msc ∧ ({ s with regs := x } : State).pil = s.pil ∧ ({ s with regs := x } : State).pnw = s.pnw ∧
    ({ s with regs := x } : State).hpt = s.hpt ∧ ({ s with regs := x } : State).rng = s.rng ∧ ({ s with regs := x } : State).ses = s.ses ∧
    ({ s with regs := x } : State).sor = s.sor ∧ ({ s with regs := x } : State).fab = s.fab ∧ ({ s with regs := x } : State).sec = s.sec ∧
    ({ s with regs := x } : State).pwr = s.pwr ∧ ({ s with regs := x } : State).thm = s.thm ∧ ({ s with regs := x } : State).boot = s.boot ∧
    ({ s with regs := x } : State).ldg = s.ldg ∧ ({ s with regs := x } : State).flt = s.flt ∧ ({ s with regs := x } : State).fwu = s.fwu ∧
    ({ s with regs := x } : State).con = s.con := by
  and_intros <;> rfl
theorem State.only_mem (x : MemState) :
    ({ s with mem := x } : State).part = s.part ∧ ({ s with mem := x } : State).clock = s.clock ∧ ({ s with mem := x } : State).free = s.free ∧
    ({ s with mem := x } : State).pending = s.pending ∧ ({ s with mem := x } : State).waited = s.waited ∧
    ({ s with mem := x } : State).regs = s.regs ∧ ({ s with mem := x } : State).frd = s.frd ∧ ({ s with mem := x } : State).thl = s.thl ∧
    ({ s with mem := x } : State).msc = s.msc ∧ ({ s with mem := x } : State).pil = s.pil ∧ ({ s with mem := x } : State).pnw = s.pnw ∧
    ({ s with mem := x } : State).hpt = s.hpt ∧ ({ s with mem := x } : State).rng = s.rng ∧ ({ s with mem := x } : State).ses = s.ses ∧
    ({ s with mem := x } : State).sor = s.sor ∧ ({ s with mem := x } : State).fab = s.fab ∧ ({ s with mem := x } : State).sec = s.sec ∧
    ({ s with mem := x } : State).pwr = s.pwr ∧ ({ s with mem := x } : State).thm = s.thm ∧ ({ s with mem := x } : State).boot = s.boot ∧
    ({ s with mem := x } : State).ldg = s.ldg ∧ ({ s with mem := x } : State).flt = s.flt ∧ ({ s with mem := x } : State).fwu = s.fwu ∧
    ({ s with mem := x } : State).con = s.con := by
  and_intros <;> rfl
theorem State.only_frd (x : FrdState) :
    ({ s with frd := x } : State).part = s.part ∧ ({ s with frd := x } : State).clock = s.clock ∧ ({ s with frd := x } : State).free = s.free ∧
    ({ s with frd := x } : State).pending = s.pending ∧ ({ s with frd := x } : State).waited = s.waited ∧
    ({ s with frd := x } : State).regs = s.regs ∧ ({ s with frd := x } : State).mem = s.mem ∧ ({ s with frd := x } : State).thl = s.thl ∧
    ({ s with frd := x } : State).msc = s.msc ∧ ({ s with frd := x } : State).pil = s.pil ∧ ({ s with frd := x } : State).pnw = s.pnw ∧
    ({ s with frd := x } : State).hpt = s.hpt ∧ ({ s with frd := x } : State).rng = s.rng ∧ ({ s with frd := x } : State).ses = s.ses ∧
    ({ s with frd := x } : State).sor = s.sor ∧ ({ s with frd := x } : State).fab = s.fab ∧ ({ s with frd := x } : State).sec = s.sec ∧
    ({ s with frd := x } : State).pwr = s.pwr ∧ ({ s with frd := x } : State).thm = s.thm ∧ ({ s with frd := x } : State).boot = s.boot ∧
    ({ s with frd := x } : State).ldg = s.ldg ∧ ({ s with frd := x } : State).flt = s.flt ∧ ({ s with frd := x } : State).fwu = s.fwu ∧
    ({ s with frd := x } : State).con = s.con := by
  and_intros <;> rfl
theorem State.only_thl (x : ThlState) :
    ({ s with thl := x } : State).part = s.part ∧ ({ s with thl := x } : State).clock = s.clock ∧ ({ s with thl := x } : State).free = s.free ∧
    ({ s with thl := x } : State).pending = s.pending ∧ ({ s with thl := x } : State).waited = s.waited ∧
    ({ s with thl := x } : State).regs = s.regs ∧ ({ s with thl := x } : State).mem = s.mem ∧ ({ s with thl := x } : State).frd = s.frd ∧
    ({ s with thl := x } : State).msc = s.msc ∧ ({ s with thl := x } : State).pil = s.pil ∧ ({ s with thl := x } : State).pnw = s.pnw ∧
    ({ s with thl := x } : State).hpt = s.hpt ∧ ({ s with thl := x } : State).rng = s.rng ∧ ({ s with thl := x } : State).ses = s.ses ∧
    ({ s with thl := x } : State).sor = s.sor ∧ ({ s with thl := x } : State).fab = s.fab ∧ ({ s with thl := x } : State).sec = s.sec ∧
    ({ s with thl := x } : State).pwr = s.pwr ∧ ({ s with thl := x } : State).thm = s.thm ∧ ({ s with thl := x } : State).boot = s.boot ∧
    ({ s with thl := x } : State).ldg = s.ldg ∧ ({ s with thl := x } : State).flt = s.flt ∧ ({ s with thl := x } : State).fwu = s.fwu ∧
    ({ s with thl := x } : State).con = s.con := by
  and_intros <;> rfl
theorem State.only_msc (x : MscState) :
    ({ s with msc := x } : State).part = s.part ∧ ({ s with msc := x } : State).clock = s.clock ∧ ({ s with msc := x } : State).free = s.free ∧
    ({ s with msc := x } : State).pending = s.pending ∧ ({ s with msc := x } : State).waited = s.waited ∧
    ({ s with msc := x } : State).regs = s.regs ∧ ({ s with msc := x } : State).mem = s.mem ∧ ({ s with msc := x } : State).frd = s.frd ∧
    ({ s with msc := x } : State).thl = s.thl ∧ ({ s with msc := x } : State).pil = s.pil ∧ ({ s with msc := x } : State).pnw = s.pnw ∧
    ({ s with msc := x } : State).hpt = s.hpt ∧ ({ s with msc := x } : State).rng = s.rng ∧ ({ s with msc := x } : State).ses = s.ses ∧
    ({ s with msc := x } : State).sor = s.sor ∧ ({ s with msc := x } : State).fab = s.fab ∧ ({ s with msc := x } : State).sec = s.sec ∧
    ({ s with msc := x } : State).pwr = s.pwr ∧ ({ s with msc := x } : State).thm = s.thm ∧ ({ s with msc := x } : State).boot = s.boot ∧
    ({ s with msc := x } : State).ldg = s.ldg ∧ ({ s with msc := x } : State).flt = s.flt ∧ ({ s with msc := x } : State).fwu = s.fwu ∧
    ({ s with msc := x } : State).con = s.con := by
  and_intros <;> rfl
theorem State.only_pil (x : PilState) :
    ({ s with pil := x } : State).part = s.part ∧ ({ s with pil := x } : State).clock = s.clock ∧ ({ s with pil := x } : State).free = s.free ∧
    ({ s with pil := x } : State).pending = s.pending ∧ ({ s with pil := x } : State).waited = s.waited ∧
    ({ s with pil := x } : State).regs = s.regs ∧ ({ s with pil := x } : State).mem = s.mem ∧ ({ s with pil := x } : State).frd = s.frd ∧
    ({ s with pil := x } : State).thl = s.thl ∧ ({ s with pil := x } : State).msc = s.msc ∧ ({ s with pil := x } : State).pnw = s.pnw ∧
    ({ s with pil := x } : State).hpt = s.hpt ∧ ({ s with pil := x } : State).rng = s.rng ∧ ({ s with pil := x } : State).ses = s.ses ∧
    ({ s with pil := x } : State).sor = s.sor ∧ ({ s with pil := x } : State).fab = s.fab ∧ ({ s with pil := x } : State).sec = s.sec ∧
    ({ s with pil := x } : State).pwr = s.pwr ∧ ({ s with pil := x } : State).thm = s.thm ∧ ({ s with pil := x } : State).boot = s.boot ∧
    ({ s with pil := x } : State).ldg = s.ldg ∧ ({ s with pil := x } : State).flt = s.flt ∧ ({ s with pil := x } : State).fwu = s.fwu ∧
    ({ s with pil := x } : State).con = s.con := by
  and_intros <;> rfl
theorem State.only_pnw (x : PnwState) :
    ({ s with pnw := x } : State).part = s.part ∧ ({ s with pnw := x } : State).clock = s.clock ∧ ({ s with pnw := x } : State).free = s.free ∧
    ({ s with pnw := x } : State).pending = s.pending ∧ ({ s with pnw := x } : State).waited = s.waited ∧
    ({ s with pnw := x } : State).regs = s.regs ∧ ({ s with pnw := x } : State).mem = s.mem ∧ ({ s with pnw := x } : State).frd = s.frd ∧
    ({ s with pnw := x } : State).thl = s.thl ∧ ({ s with pnw := x } : State).msc = s.msc ∧ ({ s with pnw := x } : State).pil = s.pil ∧
    ({ s with pnw := x } : State).hpt = s.hpt ∧ ({ s with pnw := x } : State).rng = s.rng ∧ ({ s with pnw := x } : State).ses = s.ses ∧
    ({ s with pnw := x } : State).sor = s.sor ∧ ({ s with pnw := x } : State).fab = s.fab ∧ ({ s with pnw := x } : State).sec = s.sec ∧
    ({ s with pnw := x } : State).pwr = s.pwr ∧ ({ s with pnw := x } : State).thm = s.thm ∧ ({ s with pnw := x } : State).boot = s.boot ∧
    ({ s with pnw := x } : State).ldg = s.ldg ∧ ({ s with pnw := x } : State).flt = s.flt ∧ ({ s with pnw := x } : State).fwu = s.fwu ∧
    ({ s with pnw := x } : State).con = s.con := by
  and_intros <;> rfl
theorem State.only_hpt (x : HptState) :
    ({ s with hpt := x } : State).part = s.part ∧ ({ s with hpt := x } : State).clock = s.clock ∧ ({ s with hpt := x } : State).free = s.free ∧
    ({ s with hpt := x } : State).pending = s.pending ∧ ({ s with hpt := x } : State).waited = s.waited ∧
    ({ s with hpt := x } : State).regs = s.regs ∧ ({ s with hpt := x } : State).mem = s.mem ∧ ({ s with hpt := x } : State).frd = s.frd ∧
    ({ s with hpt := x } : State).thl = s.thl ∧ ({ s with hpt := x } : State).msc = s.msc ∧ ({ s with hpt := x } : State).pil = s.pil ∧
    ({ s with hpt := x } : State).pnw = s.pnw ∧ ({ s with hpt := x } : State).rng = s.rng ∧ ({ s with hpt := x } : State).ses = s.ses ∧
    ({ s with hpt := x } : State).sor = s.sor ∧ ({ s with hpt := x } : State).fab = s.fab ∧ ({ s with hpt := x } : State).sec = s.sec ∧
    ({ s with hpt := x } : State).pwr = s.pwr ∧ ({ s with hpt := x } : State).thm = s.thm ∧ ({ s with hpt := x } : State).boot = s.boot ∧
    ({ s with hpt := x } : State).ldg = s.ldg ∧ ({ s with hpt := x } : State).flt = s.flt ∧ ({ s with hpt := x } : State).fwu = s.fwu ∧
    ({ s with hpt := x } : State).con = s.con := by
  and_intros <;> rfl
theorem State.only_rng (x : Sp Ring) :
    ({ s with rng := x } : State).part = s.part ∧ ({ s with rng := x } : State).clock = s.clock ∧ ({ s with rng := x } : State).free = s.free ∧
    ({ s with rng := x } : State).pending = s.pending ∧ ({ s with rng := x } : State).waited = s.waited ∧
    ({ s with rng := x } : State).regs = s.regs ∧ ({ s with rng := x } : State).mem = s.mem ∧ ({ s with rng := x } : State).frd = s.frd ∧
    ({ s with rng := x } : State).thl = s.thl ∧ ({ s with rng := x } : State).msc = s.msc ∧ ({ s with rng := x } : State).pil = s.pil ∧
    ({ s with rng := x } : State).pnw = s.pnw ∧ ({ s with rng := x } : State).hpt = s.hpt ∧ ({ s with rng := x } : State).ses = s.ses ∧
    ({ s with rng := x } : State).sor = s.sor ∧ ({ s with rng := x } : State).fab = s.fab ∧ ({ s with rng := x } : State).sec = s.sec ∧
    ({ s with rng := x } : State).pwr = s.pwr ∧ ({ s with rng := x } : State).thm = s.thm ∧ ({ s with rng := x } : State).boot = s.boot ∧
    ({ s with rng := x } : State).ldg = s.ldg ∧ ({ s with rng := x } : State).flt = s.flt ∧ ({ s with rng := x } : State).fwu = s.fwu ∧
    ({ s with rng := x } : State).con = s.con := by
  and_intros <;> rfl
theorem State.only_ses (x : SesState) :
    ({ s with ses := x } : State).part = s.part ∧ ({ s with ses := x } : State).clock = s.clock ∧ ({ s with ses := x } : State).free = s.free ∧
    ({ s with ses := x } : State).pending = s.pending ∧ ({ s with ses := x } : State).waited = s.waited ∧
    ({ s with ses := x } : State).regs = s.regs ∧ ({ s with ses := x } : State).mem = s.mem ∧ ({ s with ses := x } : State).frd = s.frd ∧
    ({ s with ses := x } : State).thl = s.thl ∧ ({ s with ses := x } : State).msc = s.msc ∧ ({ s with ses := x } : State).pil = s.pil ∧
    ({ s with ses := x } : State).pnw = s.pnw ∧ ({ s with ses := x } : State).hpt = s.hpt ∧ ({ s with ses := x } : State).rng = s.rng ∧
    ({ s with ses := x } : State).sor = s.sor ∧ ({ s with ses := x } : State).fab = s.fab ∧ ({ s with ses := x } : State).sec = s.sec ∧
    ({ s with ses := x } : State).pwr = s.pwr ∧ ({ s with ses := x } : State).thm = s.thm ∧ ({ s with ses := x } : State).boot = s.boot ∧
    ({ s with ses := x } : State).ldg = s.ldg ∧ ({ s with ses := x } : State).flt = s.flt ∧ ({ s with ses := x } : State).fwu = s.fwu ∧
    ({ s with ses := x } : State).con = s.con := by
  and_intros <;> rfl
theorem State.only_sor (x : SorState) :
    ({ s with sor := x } : State).part = s.part ∧ ({ s with sor := x } : State).clock = s.clock ∧ ({ s with sor := x } : State).free = s.free ∧
    ({ s with sor := x } : State).pending = s.pending ∧ ({ s with sor := x } : State).waited = s.waited ∧
    ({ s with sor := x } : State).regs = s.regs ∧ ({ s with sor := x } : State).mem = s.mem ∧ ({ s with sor := x } : State).frd = s.frd ∧
    ({ s with sor := x } : State).thl = s.thl ∧ ({ s with sor := x } : State).msc = s.msc ∧ ({ s with sor := x } : State).pil = s.pil ∧
    ({ s with sor := x } : State).pnw = s.pnw ∧ ({ s with sor := x } : State).hpt = s.hpt ∧ ({ s with sor := x } : State).rng = s.rng ∧
    ({ s with sor := x } : State).ses = s.ses ∧ ({ s with sor := x } : State).fab = s.fab ∧ ({ s with sor := x } : State).sec = s.sec ∧
    ({ s with sor := x } : State).pwr = s.pwr ∧ ({ s with sor := x } : State).thm = s.thm ∧ ({ s with sor := x } : State).boot = s.boot ∧
    ({ s with sor := x } : State).ldg = s.ldg ∧ ({ s with sor := x } : State).flt = s.flt ∧ ({ s with sor := x } : State).fwu = s.fwu ∧
    ({ s with sor := x } : State).con = s.con := by
  and_intros <;> rfl
theorem State.only_fab (x : FabState) :
    ({ s with fab := x } : State).part = s.part ∧ ({ s with fab := x } : State).clock = s.clock ∧ ({ s with fab := x } : State).free = s.free ∧
    ({ s with fab := x } : State).pending = s.pending ∧ ({ s with fab := x } : State).waited = s.waited ∧
    ({ s with fab := x } : State).regs = s.regs ∧ ({ s with fab := x } : State).mem = s.mem ∧ ({ s with fab := x } : State).frd = s.frd ∧
    ({ s with fab := x } : State).thl = s.thl ∧ ({ s with fab := x } : State).msc = s.msc ∧ ({ s with fab := x } : State).pil = s.pil ∧
    ({ s with fab := x } : State).pnw = s.pnw ∧ ({ s with fab := x } : State).hpt = s.hpt ∧ ({ s with fab := x } : State).rng = s.rng ∧
    ({ s with fab := x } : State).ses = s.ses ∧ ({ s with fab := x } : State).sor = s.sor ∧ ({ s with fab := x } : State).sec = s.sec ∧
    ({ s with fab := x } : State).pwr = s.pwr ∧ ({ s with fab := x } : State).thm = s.thm ∧ ({ s with fab := x } : State).boot = s.boot ∧
    ({ s with fab := x } : State).ldg = s.ldg ∧ ({ s with fab := x } : State).flt = s.flt ∧ ({ s with fab := x } : State).fwu = s.fwu ∧
    ({ s with fab := x } : State).con = s.con := by
  and_intros <;> rfl
theorem State.only_sec (x : SecState) :
    ({ s with sec := x } : State).part = s.part ∧ ({ s with sec := x } : State).clock = s.clock ∧ ({ s with sec := x } : State).free = s.free ∧
    ({ s with sec := x } : State).pending = s.pending ∧ ({ s with sec := x } : State).waited = s.waited ∧
    ({ s with sec := x } : State).regs = s.regs ∧ ({ s with sec := x } : State).mem = s.mem ∧ ({ s with sec := x } : State).frd = s.frd ∧
    ({ s with sec := x } : State).thl = s.thl ∧ ({ s with sec := x } : State).msc = s.msc ∧ ({ s with sec := x } : State).pil = s.pil ∧
    ({ s with sec := x } : State).pnw = s.pnw ∧ ({ s with sec := x } : State).hpt = s.hpt ∧ ({ s with sec := x } : State).rng = s.rng ∧
    ({ s with sec := x } : State).ses = s.ses ∧ ({ s with sec := x } : State).sor = s.sor ∧ ({ s with sec := x } : State).fab = s.fab ∧
    ({ s with sec := x } : State).pwr = s.pwr ∧ ({ s with sec := x } : State).thm = s.thm ∧ ({ s with sec := x } : State).boot = s.boot ∧
    ({ s with sec := x } : State).ldg = s.ldg ∧ ({ s with sec := x } : State).flt = s.flt ∧ ({ s with sec := x } : State).fwu = s.fwu ∧
    ({ s with sec := x } : State).con = s.con := by
  and_intros <;> rfl
theorem State.only_pwr (x : PwrState) :
    ({ s with pwr := x } : State).part = s.part ∧ ({ s with pwr := x } : State).clock = s.clock ∧ ({ s with pwr := x } : State).free = s.free ∧
    ({ s with pwr := x } : State).pending = s.pending ∧ ({ s with pwr := x } : State).waited = s.waited ∧
    ({ s with pwr := x } : State).regs = s.regs ∧ ({ s with pwr := x } : State).mem = s.mem ∧ ({ s with pwr := x } : State).frd = s.frd ∧
    ({ s with pwr := x } : State).thl = s.thl ∧ ({ s with pwr := x } : State).msc = s.msc ∧ ({ s with pwr := x } : State).pil = s.pil ∧
    ({ s with pwr := x } : State).pnw = s.pnw ∧ ({ s with pwr := x } : State).hpt = s.hpt ∧ ({ s with pwr := x } : State).rng = s.rng ∧
    ({ s with pwr := x } : State).ses = s.ses ∧ ({ s with pwr := x } : State).sor = s.sor ∧ ({ s with pwr := x } : State).fab = s.fab ∧
    ({ s with pwr := x } : State).sec = s.sec ∧ ({ s with pwr := x } : State).thm = s.thm ∧ ({ s with pwr := x } : State).boot = s.boot ∧
    ({ s with pwr := x } : State).ldg = s.ldg ∧ ({ s with pwr := x } : State).flt = s.flt ∧ ({ s with pwr := x } : State).fwu = s.fwu ∧
    ({ s with pwr := x } : State).con = s.con := by
  and_intros <;> rfl
theorem State.only_thm (x : ThmState) :
    ({ s with thm := x } : State).part = s.part ∧ ({ s with thm := x } : State).clock = s.clock ∧ ({ s with thm := x } : State).free = s.free ∧
    ({ s with thm := x } : State).pending = s.pending ∧ ({ s with thm := x } : State).waited = s.waited ∧
    ({ s with thm := x } : State).regs = s.regs ∧ ({ s with thm := x } : State).mem = s.mem ∧ ({ s with thm := x } : State).frd = s.frd ∧
    ({ s with thm := x } : State).thl = s.thl ∧ ({ s with thm := x } : State).msc = s.msc ∧ ({ s with thm := x } : State).pil = s.pil ∧
    ({ s with thm := x } : State).pnw = s.pnw ∧ ({ s with thm := x } : State).hpt = s.hpt ∧ ({ s with thm := x } : State).rng = s.rng ∧
    ({ s with thm := x } : State).ses = s.ses ∧ ({ s with thm := x } : State).sor = s.sor ∧ ({ s with thm := x } : State).fab = s.fab ∧
    ({ s with thm := x } : State).sec = s.sec ∧ ({ s with thm := x } : State).pwr = s.pwr ∧ ({ s with thm := x } : State).boot = s.boot ∧
    ({ s with thm := x } : State).ldg = s.ldg ∧ ({ s with thm := x } : State).flt = s.flt ∧ ({ s with thm := x } : State).fwu = s.fwu ∧
    ({ s with thm := x } : State).con = s.con := by
  and_intros <;> rfl
theorem State.only_boot (x : BootState) :
    ({ s with boot := x } : State).part = s.part ∧ ({ s with boot := x } : State).clock = s.clock ∧ ({ s with boot := x } : State).free = s.free ∧
    ({ s with boot := x } : State).pending = s.pending ∧ ({ s with boot := x } : State).waited = s.waited ∧
    ({ s with boot := x } : State).regs = s.regs ∧ ({ s with boot := x } : State).mem = s.mem ∧ ({ s with boot := x } : State).frd = s.frd ∧
    ({ s with boot := x } : State).thl = s.thl ∧ ({ s with boot := x } : State).msc = s.msc ∧ ({ s with boot := x } : State).pil = s.pil ∧
    ({ s with boot := x } : State).pnw = s.pnw ∧ ({ s with boot := x } : State).hpt = s.hpt ∧ ({ s with boot := x } : State).rng = s.rng ∧
    ({ s with boot := x } : State).ses = s.ses ∧ ({ s with boot := x } : State).sor = s.sor ∧ ({ s with boot := x } : State).fab = s.fab ∧
    ({ s with boot := x } : State).sec = s.sec ∧ ({ s with boot := x } : State).pwr = s.pwr ∧ ({ s with boot := x } : State).thm = s.thm ∧
    ({ s with boot := x } : State).ldg = s.ldg ∧ ({ s with boot := x } : State).flt = s.flt ∧ ({ s with boot := x } : State).fwu = s.fwu ∧
    ({ s with boot := x } : State).con = s.con := by
  and_intros <;> rfl
theorem State.only_ldg (x : LdgState) :
    ({ s with ldg := x } : State).part = s.part ∧ ({ s with ldg := x } : State).clock = s.clock ∧ ({ s with ldg := x } : State).free = s.free ∧
    ({ s with ldg := x } : State).pending = s.pending ∧ ({ s with ldg := x } : State).waited = s.waited ∧
    ({ s with ldg := x } : State).regs = s.regs ∧ ({ s with ldg := x } : State).mem = s.mem ∧ ({ s with ldg := x } : State).frd = s.frd ∧
    ({ s with ldg := x } : State).thl = s.thl ∧ ({ s with ldg := x } : State).msc = s.msc ∧ ({ s with ldg := x } : State).pil = s.pil ∧
    ({ s with ldg := x } : State).pnw = s.pnw ∧ ({ s with ldg := x } : State).hpt = s.hpt ∧ ({ s with ldg := x } : State).rng = s.rng ∧
    ({ s with ldg := x } : State).ses = s.ses ∧ ({ s with ldg := x } : State).sor = s.sor ∧ ({ s with ldg := x } : State).fab = s.fab ∧
    ({ s with ldg := x } : State).sec = s.sec ∧ ({ s with ldg := x } : State).pwr = s.pwr ∧ ({ s with ldg := x } : State).thm = s.thm ∧
    ({ s with ldg := x } : State).boot = s.boot ∧ ({ s with ldg := x } : State).flt = s.flt ∧ ({ s with ldg := x } : State).fwu = s.fwu ∧
    ({ s with ldg := x } : State).con = s.con := by
  and_intros <;> rfl
theorem State.only_flt (x : FltState) :
    ({ s with flt := x } : State).part = s.part ∧ ({ s with flt := x } : State).clock = s.clock ∧ ({ s with flt := x } : State).free = s.free ∧
    ({ s with flt := x } : State).pending = s.pending ∧ ({ s with flt := x } : State).waited = s.waited ∧
    ({ s with flt := x } : State).regs = s.regs ∧ ({ s with flt := x } : State).mem = s.mem ∧ ({ s with flt := x } : State).frd = s.frd ∧
    ({ s with flt := x } : State).thl = s.thl ∧ ({ s with flt := x } : State).msc = s.msc ∧ ({ s with flt := x } : State).pil = s.pil ∧
    ({ s with flt := x } : State).pnw = s.pnw ∧ ({ s with flt := x } : State).hpt = s.hpt ∧ ({ s with flt := x } : State).rng = s.rng ∧
    ({ s with flt := x } : State).ses = s.ses ∧ ({ s with flt := x } : State).sor = s.sor ∧ ({ s with flt := x } : State).fab = s.fab ∧
    ({ s with flt := x } : State).sec = s.sec ∧ ({ s with flt := x } : State).pwr = s.pwr ∧ ({ s with flt := x } : State).thm = s.thm ∧
    ({ s with flt := x } : State).boot = s.boot ∧ ({ s with flt := x } : State).ldg = s.ldg ∧ ({ s with flt := x } : State).fwu = s.fwu ∧
    ({ s with flt := x } : State).con = s.con := by
  and_intros <;> rfl
theorem State.only_fwu (x : FwuState) :
    ({ s with fwu := x } : State).part = s.part ∧ ({ s with fwu := x } : State).clock = s.clock ∧ ({ s with fwu := x } : State).free = s.free ∧
    ({ s with fwu := x } : State).pending = s.pending ∧ ({ s with fwu := x } : State).waited = s.waited ∧
    ({ s with fwu := x } : State).regs = s.regs ∧ ({ s with fwu := x } : State).mem = s.mem ∧ ({ s with fwu := x } : State).frd = s.frd ∧
    ({ s with fwu := x } : State).thl = s.thl ∧ ({ s with fwu := x } : State).msc = s.msc ∧ ({ s with fwu := x } : State).pil = s.pil ∧
    ({ s with fwu := x } : State).pnw = s.pnw ∧ ({ s with fwu := x } : State).hpt = s.hpt ∧ ({ s with fwu := x } : State).rng = s.rng ∧
    ({ s with fwu := x } : State).ses = s.ses ∧ ({ s with fwu := x } : State).sor = s.sor ∧ ({ s with fwu := x } : State).fab = s.fab ∧
    ({ s with fwu := x } : State).sec = s.sec ∧ ({ s with fwu := x } : State).pwr = s.pwr ∧ ({ s with fwu := x } : State).thm = s.thm ∧
    ({ s with fwu := x } : State).boot = s.boot ∧ ({ s with fwu := x } : State).ldg = s.ldg ∧ ({ s with fwu := x } : State).flt = s.flt ∧
    ({ s with fwu := x } : State).con = s.con := by
  and_intros <;> rfl
theorem State.only_con (x : ConState) :
    ({ s with con := x } : State).part = s.part ∧ ({ s with con := x } : State).clock = s.clock ∧ ({ s with con := x } : State).free = s.free ∧
    ({ s with con := x } : State).pending = s.pending ∧ ({ s with con := x } : State).waited = s.waited ∧
    ({ s with con := x } : State).regs = s.regs ∧ ({ s with con := x } : State).mem = s.mem ∧ ({ s with con := x } : State).frd = s.frd ∧
    ({ s with con := x } : State).thl = s.thl ∧ ({ s with con := x } : State).msc = s.msc ∧ ({ s with con := x } : State).pil = s.pil ∧
    ({ s with con := x } : State).pnw = s.pnw ∧ ({ s with con := x } : State).hpt = s.hpt ∧ ({ s with con := x } : State).rng = s.rng ∧
    ({ s with con := x } : State).ses = s.ses ∧ ({ s with con := x } : State).sor = s.sor ∧ ({ s with con := x } : State).fab = s.fab ∧
    ({ s with con := x } : State).sec = s.sec ∧ ({ s with con := x } : State).pwr = s.pwr ∧ ({ s with con := x } : State).thm = s.thm ∧
    ({ s with con := x } : State).boot = s.boot ∧ ({ s with con := x } : State).ldg = s.ldg ∧ ({ s with con := x } : State).flt = s.flt ∧
    ({ s with con := x } : State).fwu = s.fwu := by
  and_intros <;> rfl

/-! ### The updates: the simplifier takes each of these as one rule for each field -/

@[simp] theorem State.setRword_frame (off : Nat) (v : W64) :
    (s.setRword off v).part = s.part ∧ (s.setRword off v).clock = s.clock ∧ (s.setRword off v).free = s.free ∧
    (s.setRword off v).pending = s.pending ∧ (s.setRword off v).waited = s.waited ∧ (s.setRword off v).mem = s.mem ∧
    (s.setRword off v).frd = s.frd ∧ (s.setRword off v).thl = s.thl ∧ (s.setRword off v).msc = s.msc ∧ (s.setRword off v).pil = s.pil ∧
    (s.setRword off v).pnw = s.pnw ∧ (s.setRword off v).hpt = s.hpt ∧ (s.setRword off v).rng = s.rng ∧ (s.setRword off v).ses = s.ses ∧
    (s.setRword off v).sor = s.sor ∧ (s.setRword off v).fab = s.fab ∧ (s.setRword off v).sec = s.sec ∧ (s.setRword off v).pwr = s.pwr ∧
    (s.setRword off v).thm = s.thm ∧ (s.setRword off v).boot = s.boot ∧ (s.setRword off v).ldg = s.ldg ∧ (s.setRword off v).flt = s.flt ∧
    (s.setRword off v).fwu = s.fwu ∧ (s.setRword off v).con = s.con :=
  State.only_regs s (s.setRword off v).regs
@[simp] theorem State.rset_frame (f : Fd) (v : Nat) :
    (s.rset f v).part = s.part ∧ (s.rset f v).clock = s.clock ∧ (s.rset f v).free = s.free ∧ (s.rset f v).pending = s.pending ∧
    (s.rset f v).waited = s.waited ∧ (s.rset f v).mem = s.mem ∧ (s.rset f v).frd = s.frd ∧ (s.rset f v).thl = s.thl ∧ (s.rset f v).msc = s.msc ∧
    (s.rset f v).pil = s.pil ∧ (s.rset f v).pnw = s.pnw ∧ (s.rset f v).hpt = s.hpt ∧ (s.rset f v).rng = s.rng ∧ (s.rset f v).ses = s.ses ∧
    (s.rset f v).sor = s.sor ∧ (s.rset f v).fab = s.fab ∧ (s.rset f v).sec = s.sec ∧ (s.rset f v).pwr = s.pwr ∧ (s.rset f v).thm = s.thm ∧
    (s.rset f v).boot = s.boot ∧ (s.rset f v).ldg = s.ldg ∧ (s.rset f v).flt = s.flt ∧ (s.rset f v).fwu = s.fwu ∧ (s.rset f v).con = s.con :=
  State.only_regs s (s.rset f v).regs
@[simp] theorem State.radd_frame (f : Fd) (k : Nat) :
    (s.radd f k).part = s.part ∧ (s.radd f k).clock = s.clock ∧ (s.radd f k).free = s.free ∧ (s.radd f k).pending = s.pending ∧
    (s.radd f k).waited = s.waited ∧ (s.radd f k).mem = s.mem ∧ (s.radd f k).frd = s.frd ∧ (s.radd f k).thl = s.thl ∧ (s.radd f k).msc = s.msc ∧
    (s.radd f k).pil = s.pil ∧ (s.radd f k).pnw = s.pnw ∧ (s.radd f k).hpt = s.hpt ∧ (s.radd f k).rng = s.rng ∧ (s.radd f k).ses = s.ses ∧
    (s.radd f k).sor = s.sor ∧ (s.radd f k).fab = s.fab ∧ (s.radd f k).sec = s.sec ∧ (s.radd f k).pwr = s.pwr ∧ (s.radd f k).thm = s.thm ∧
    (s.radd f k).boot = s.boot ∧ (s.radd f k).ldg = s.ldg ∧ (s.radd f k).flt = s.flt ∧ (s.radd f k).fwu = s.fwu ∧ (s.radd f k).con = s.con :=
  State.only_regs s (s.radd f k).regs
@[simp] theorem State.rbit_frame (f : Fd) (i : Nat) (b : Bool) :
    (s.rbit f i b).part = s.part ∧ (s.rbit f i b).clock = s.clock ∧ (s.rbit f i b).free = s.free ∧ (s.rbit f i b).pending = s.pending ∧
    (s.rbit f i b).waited = s.waited ∧ (s.rbit f i b).mem = s.mem ∧ (s.rbit f i b).frd = s.frd ∧ (s.rbit f i b).thl = s.thl ∧
    (s.rbit f i b).msc = s.msc ∧ (s.rbit f i b).pil = s.pil ∧ (s.rbit f i b).pnw = s.pnw ∧ (s.rbit f i b).hpt = s.hpt ∧
    (s.rbit f i b).rng = s.rng ∧ (s.rbit f i b).ses = s.ses ∧ (s.rbit f i b).sor = s.sor ∧ (s.rbit f i b).fab = s.fab ∧
    (s.rbit f i b).sec = s.sec ∧ (s.rbit f i b).pwr = s.pwr ∧ (s.rbit f i b).thm = s.thm ∧ (s.rbit f i b).boot = s.boot ∧
    (s.rbit f i b).ldg = s.ldg ∧ (s.rbit f i b).flt = s.flt ∧ (s.rbit f i b).fwu = s.fwu ∧ (s.rbit f i b).con = s.con :=
  State.only_regs s (s.rbit f i b).regs
@[simp] theorem State.setArr_frame (f a : Nat) (v : Arr) :
    (s.setArr f a v).part = s.part ∧ (s.setArr f a v).clock = s.clock ∧ (s.setArr f a v).free = s.free ∧ (s.setArr f a v).pending = s.pending ∧
    (s.setArr f a v).waited = s.waited ∧ (s.setArr f a v).regs = s.regs ∧ (s.setArr f a v).mem = s.mem ∧ (s.setArr f a v).thl = s.thl ∧
    (s.setArr f a v).msc = s.msc ∧ (s.setArr f a v).pil = s.pil ∧ (s.setArr f a v).pnw = s.pnw ∧ (s.setArr f a v).hpt = s.hpt ∧
    (s.setArr f a v).rng = s.rng ∧ (s.setArr f a v).ses = s.ses ∧ (s.setArr f a v).sor = s.sor ∧ (s.setArr f a v).fab = s.fab ∧
    (s.setArr f a v).sec = s.sec ∧ (s.setArr f a v).pwr = s.pwr ∧ (s.setArr f a v).thm = s.thm ∧ (s.setArr f a v).boot = s.boot ∧
    (s.setArr f a v).ldg = s.ldg ∧ (s.setArr f a v).flt = s.flt ∧ (s.setArr f a v).fwu = s.fwu ∧ (s.setArr f a v).con = s.con :=
  State.only_frd s (s.setArr f a v).frd
@[simp] theorem State.modArr_frame (f a : Nat) (g : Arr → Arr) :
    (s.modArr f a g).part = s.part ∧ (s.modArr f a g).clock = s.clock ∧ (s.modArr f a g).free = s.free ∧ (s.modArr f a g).pending = s.pending ∧
    (s.modArr f a g).waited = s.waited ∧ (s.modArr f a g).regs = s.regs ∧ (s.modArr f a g).mem = s.mem ∧ (s.modArr f a g).thl = s.thl ∧
    (s.modArr f a g).msc = s.msc ∧ (s.modArr f a g).pil = s.pil ∧ (s.modArr f a g).pnw = s.pnw ∧ (s.modArr f a g).hpt = s.hpt ∧
    (s.modArr f a g).rng = s.rng ∧ (s.modArr f a g).ses = s.ses ∧ (s.modArr f a g).sor = s.sor ∧ (s.modArr f a g).fab = s.fab ∧
    (s.modArr f a g).sec = s.sec ∧ (s.modArr f a g).pwr = s.pwr ∧ (s.modArr f a g).thm = s.thm ∧ (s.modArr f a g).boot = s.boot ∧
    (s.modArr f a g).ldg = s.ldg ∧ (s.modArr f a g).flt = s.flt ∧ (s.modArr f a g).fwu = s.fwu ∧ (s.modArr f a g).con = s.con :=
  State.only_frd s (s.modArr f a g).frd
@[simp] theorem State.setFr_frame (f : Nat) (v : Frond) :
    (s.setFr f v).part = s.part ∧ (s.setFr f v).clock = s.clock ∧ (s.setFr f v).free = s.free ∧ (s.setFr f v).pending = s.pending ∧
    (s.setFr f v).waited = s.waited ∧ (s.setFr f v).regs = s.regs ∧ (s.setFr f v).mem = s.mem ∧ (s.setFr f v).thl = s.thl ∧
    (s.setFr f v).msc = s.msc ∧ (s.setFr f v).pil = s.pil ∧ (s.setFr f v).pnw = s.pnw ∧ (s.setFr f v).hpt = s.hpt ∧ (s.setFr f v).rng = s.rng ∧
    (s.setFr f v).ses = s.ses ∧ (s.setFr f v).sor = s.sor ∧ (s.setFr f v).fab = s.fab ∧ (s.setFr f v).sec = s.sec ∧ (s.setFr f v).pwr = s.pwr ∧
    (s.setFr f v).thm = s.thm ∧ (s.setFr f v).boot = s.boot ∧ (s.setFr f v).ldg = s.ldg ∧ (s.setFr f v).flt = s.flt ∧ (s.setFr f v).fwu = s.fwu ∧
    (s.setFr f v).con = s.con :=
  State.only_frd s (s.setFr f v).frd
@[simp] theorem State.modFr_frame (f : Nat) (g : Frond → Frond) :
    (s.modFr f g).part = s.part ∧ (s.modFr f g).clock = s.clock ∧ (s.modFr f g).free = s.free ∧ (s.modFr f g).pending = s.pending ∧
    (s.modFr f g).waited = s.waited ∧ (s.modFr f g).regs = s.regs ∧ (s.modFr f g).mem = s.mem ∧ (s.modFr f g).thl = s.thl ∧
    (s.modFr f g).msc = s.msc ∧ (s.modFr f g).pil = s.pil ∧ (s.modFr f g).pnw = s.pnw ∧ (s.modFr f g).hpt = s.hpt ∧ (s.modFr f g).rng = s.rng ∧
    (s.modFr f g).ses = s.ses ∧ (s.modFr f g).sor = s.sor ∧ (s.modFr f g).fab = s.fab ∧ (s.modFr f g).sec = s.sec ∧ (s.modFr f g).pwr = s.pwr ∧
    (s.modFr f g).thm = s.thm ∧ (s.modFr f g).boot = s.boot ∧ (s.modFr f g).ldg = s.ldg ∧ (s.modFr f g).flt = s.flt ∧ (s.modFr f g).fwu = s.fwu ∧
    (s.modFr f g).con = s.con :=
  State.only_frd s (s.modFr f g).frd
@[simp] theorem State.setDma_frame (f c : Nat) (v : Dma) :
    (s.setDma f c v).part = s.part ∧ (s.setDma f c v).clock = s.clock ∧ (s.setDma f c v).free = s.free ∧ (s.setDma f c v).pending = s.pending ∧
    (s.setDma f c v).waited = s.waited ∧ (s.setDma f c v).regs = s.regs ∧ (s.setDma f c v).mem = s.mem ∧ (s.setDma f c v).thl = s.thl ∧
    (s.setDma f c v).msc = s.msc ∧ (s.setDma f c v).pil = s.pil ∧ (s.setDma f c v).pnw = s.pnw ∧ (s.setDma f c v).hpt = s.hpt ∧
    (s.setDma f c v).rng = s.rng ∧ (s.setDma f c v).ses = s.ses ∧ (s.setDma f c v).sor = s.sor ∧ (s.setDma f c v).fab = s.fab ∧
    (s.setDma f c v).sec = s.sec ∧ (s.setDma f c v).pwr = s.pwr ∧ (s.setDma f c v).thm = s.thm ∧ (s.setDma f c v).boot = s.boot ∧
    (s.setDma f c v).ldg = s.ldg ∧ (s.setDma f c v).flt = s.flt ∧ (s.setDma f c v).fwu = s.fwu ∧ (s.setDma f c v).con = s.con :=
  State.only_frd s (s.setDma f c v).frd
@[simp] theorem State.setKrn_frame (f k : Nat) (v : Option Kernel) :
    (s.setKrn f k v).part = s.part ∧ (s.setKrn f k v).clock = s.clock ∧ (s.setKrn f k v).free = s.free ∧ (s.setKrn f k v).pending = s.pending ∧
    (s.setKrn f k v).waited = s.waited ∧ (s.setKrn f k v).regs = s.regs ∧ (s.setKrn f k v).mem = s.mem ∧ (s.setKrn f k v).thl = s.thl ∧
    (s.setKrn f k v).msc = s.msc ∧ (s.setKrn f k v).pil = s.pil ∧ (s.setKrn f k v).pnw = s.pnw ∧ (s.setKrn f k v).hpt = s.hpt ∧
    (s.setKrn f k v).rng = s.rng ∧ (s.setKrn f k v).ses = s.ses ∧ (s.setKrn f k v).sor = s.sor ∧ (s.setKrn f k v).fab = s.fab ∧
    (s.setKrn f k v).sec = s.sec ∧ (s.setKrn f k v).pwr = s.pwr ∧ (s.setKrn f k v).thm = s.thm ∧ (s.setKrn f k v).boot = s.boot ∧
    (s.setKrn f k v).ldg = s.ldg ∧ (s.setKrn f k v).flt = s.flt ∧ (s.setKrn f k v).fwu = s.fwu ∧ (s.setKrn f k v).con = s.con :=
  State.only_frd s (s.setKrn f k v).frd
@[simp] theorem State.setGrp_frame (f g : Nat) (v : Group) :
    (s.setGrp f g v).part = s.part ∧ (s.setGrp f g v).clock = s.clock ∧ (s.setGrp f g v).free = s.free ∧ (s.setGrp f g v).pending = s.pending ∧
    (s.setGrp f g v).waited = s.waited ∧ (s.setGrp f g v).regs = s.regs ∧ (s.setGrp f g v).mem = s.mem ∧ (s.setGrp f g v).thl = s.thl ∧
    (s.setGrp f g v).msc = s.msc ∧ (s.setGrp f g v).pil = s.pil ∧ (s.setGrp f g v).pnw = s.pnw ∧ (s.setGrp f g v).hpt = s.hpt ∧
    (s.setGrp f g v).rng = s.rng ∧ (s.setGrp f g v).ses = s.ses ∧ (s.setGrp f g v).sor = s.sor ∧ (s.setGrp f g v).fab = s.fab ∧
    (s.setGrp f g v).sec = s.sec ∧ (s.setGrp f g v).pwr = s.pwr ∧ (s.setGrp f g v).thm = s.thm ∧ (s.setGrp f g v).boot = s.boot ∧
    (s.setGrp f g v).ldg = s.ldg ∧ (s.setGrp f g v).flt = s.flt ∧ (s.setGrp f g v).fwu = s.fwu ∧ (s.setGrp f g v).con = s.con :=
  State.only_frd s (s.setGrp f g v).frd
@[simp] theorem State.setThr_frame (f g t : Nat) (v : Thread) :
    (s.setThr f g t v).part = s.part ∧ (s.setThr f g t v).clock = s.clock ∧ (s.setThr f g t v).free = s.free ∧
    (s.setThr f g t v).pending = s.pending ∧ (s.setThr f g t v).waited = s.waited ∧ (s.setThr f g t v).regs = s.regs ∧
    (s.setThr f g t v).mem = s.mem ∧ (s.setThr f g t v).thl = s.thl ∧ (s.setThr f g t v).msc = s.msc ∧ (s.setThr f g t v).pil = s.pil ∧
    (s.setThr f g t v).pnw = s.pnw ∧ (s.setThr f g t v).hpt = s.hpt ∧ (s.setThr f g t v).rng = s.rng ∧ (s.setThr f g t v).ses = s.ses ∧
    (s.setThr f g t v).sor = s.sor ∧ (s.setThr f g t v).fab = s.fab ∧ (s.setThr f g t v).sec = s.sec ∧ (s.setThr f g t v).pwr = s.pwr ∧
    (s.setThr f g t v).thm = s.thm ∧ (s.setThr f g t v).boot = s.boot ∧ (s.setThr f g t v).ldg = s.ldg ∧ (s.setThr f g t v).flt = s.flt ∧
    (s.setThr f g t v).fwu = s.fwu ∧ (s.setThr f g t v).con = s.con :=
  State.only_frd s (s.setThr f g t v).frd
@[simp] theorem State.modThr_frame (f g t : Nat) (h : Thread → Thread) :
    (s.modThr f g t h).part = s.part ∧ (s.modThr f g t h).clock = s.clock ∧ (s.modThr f g t h).free = s.free ∧
    (s.modThr f g t h).pending = s.pending ∧ (s.modThr f g t h).waited = s.waited ∧ (s.modThr f g t h).regs = s.regs ∧
    (s.modThr f g t h).mem = s.mem ∧ (s.modThr f g t h).thl = s.thl ∧ (s.modThr f g t h).msc = s.msc ∧ (s.modThr f g t h).pil = s.pil ∧
    (s.modThr f g t h).pnw = s.pnw ∧ (s.modThr f g t h).hpt = s.hpt ∧ (s.modThr f g t h).rng = s.rng ∧ (s.modThr f g t h).ses = s.ses ∧
    (s.modThr f g t h).sor = s.sor ∧ (s.modThr f g t h).fab = s.fab ∧ (s.modThr f g t h).sec = s.sec ∧ (s.modThr f g t h).pwr = s.pwr ∧
    (s.modThr f g t h).thm = s.thm ∧ (s.modThr f g t h).boot = s.boot ∧ (s.modThr f g t h).ldg = s.ldg ∧ (s.modThr f g t h).flt = s.flt ∧
    (s.modThr f g t h).fwu = s.fwu ∧ (s.modThr f g t h).con = s.con :=
  State.only_frd s (s.modThr f g t h).frd
@[simp] theorem State.setPred_frame (f g t v : Nat) :
    (s.setPred f g t v).part = s.part ∧ (s.setPred f g t v).clock = s.clock ∧ (s.setPred f g t v).free = s.free ∧
    (s.setPred f g t v).pending = s.pending ∧ (s.setPred f g t v).waited = s.waited ∧ (s.setPred f g t v).regs = s.regs ∧
    (s.setPred f g t v).mem = s.mem ∧ (s.setPred f g t v).thl = s.thl ∧ (s.setPred f g t v).msc = s.msc ∧ (s.setPred f g t v).pil = s.pil ∧
    (s.setPred f g t v).pnw = s.pnw ∧ (s.setPred f g t v).hpt = s.hpt ∧ (s.setPred f g t v).rng = s.rng ∧ (s.setPred f g t v).ses = s.ses ∧
    (s.setPred f g t v).sor = s.sor ∧ (s.setPred f g t v).fab = s.fab ∧ (s.setPred f g t v).sec = s.sec ∧ (s.setPred f g t v).pwr = s.pwr ∧
    (s.setPred f g t v).thm = s.thm ∧ (s.setPred f g t v).boot = s.boot ∧ (s.setPred f g t v).ldg = s.ldg ∧ (s.setPred f g t v).flt = s.flt ∧
    (s.setPred f g t v).fwu = s.fwu ∧ (s.setPred f g t v).con = s.con :=
  State.only_frd s (s.setPred f g t v).frd
@[simp] theorem State.setRing_frame (r : Nat) (v : Ring) :
    (s.setRing r v).part = s.part ∧ (s.setRing r v).clock = s.clock ∧ (s.setRing r v).free = s.free ∧ (s.setRing r v).pending = s.pending ∧
    (s.setRing r v).waited = s.waited ∧ (s.setRing r v).regs = s.regs ∧ (s.setRing r v).mem = s.mem ∧ (s.setRing r v).frd = s.frd ∧
    (s.setRing r v).thl = s.thl ∧ (s.setRing r v).msc = s.msc ∧ (s.setRing r v).pil = s.pil ∧ (s.setRing r v).pnw = s.pnw ∧
    (s.setRing r v).hpt = s.hpt ∧ (s.setRing r v).ses = s.ses ∧ (s.setRing r v).sor = s.sor ∧ (s.setRing r v).fab = s.fab ∧
    (s.setRing r v).sec = s.sec ∧ (s.setRing r v).pwr = s.pwr ∧ (s.setRing r v).thm = s.thm ∧ (s.setRing r v).boot = s.boot ∧
    (s.setRing r v).ldg = s.ldg ∧ (s.setRing r v).flt = s.flt ∧ (s.setRing r v).fwu = s.fwu ∧ (s.setRing r v).con = s.con :=
  State.only_rng s (s.setRing r v).rng
@[simp] theorem State.modRing_frame (r : Nat) (g : Ring → Ring) :
    (s.modRing r g).part = s.part ∧ (s.modRing r g).clock = s.clock ∧ (s.modRing r g).free = s.free ∧ (s.modRing r g).pending = s.pending ∧
    (s.modRing r g).waited = s.waited ∧ (s.modRing r g).regs = s.regs ∧ (s.modRing r g).mem = s.mem ∧ (s.modRing r g).frd = s.frd ∧
    (s.modRing r g).thl = s.thl ∧ (s.modRing r g).msc = s.msc ∧ (s.modRing r g).pil = s.pil ∧ (s.modRing r g).pnw = s.pnw ∧
    (s.modRing r g).hpt = s.hpt ∧ (s.modRing r g).ses = s.ses ∧ (s.modRing r g).sor = s.sor ∧ (s.modRing r g).fab = s.fab ∧
    (s.modRing r g).sec = s.sec ∧ (s.modRing r g).pwr = s.pwr ∧ (s.modRing r g).thm = s.thm ∧ (s.modRing r g).boot = s.boot ∧
    (s.modRing r g).ldg = s.ldg ∧ (s.modRing r g).flt = s.flt ∧ (s.modRing r g).fwu = s.fwu ∧ (s.modRing r g).con = s.con :=
  State.only_rng s (s.modRing r g).rng
@[simp] theorem State.setStep_frame (h : Nat) (v : Option StepRec) :
    (s.setStep h v).part = s.part ∧ (s.setStep h v).clock = s.clock ∧ (s.setStep h v).free = s.free ∧ (s.setStep h v).pending = s.pending ∧
    (s.setStep h v).waited = s.waited ∧ (s.setStep h v).regs = s.regs ∧ (s.setStep h v).mem = s.mem ∧ (s.setStep h v).frd = s.frd ∧
    (s.setStep h v).thl = s.thl ∧ (s.setStep h v).msc = s.msc ∧ (s.setStep h v).pil = s.pil ∧ (s.setStep h v).pnw = s.pnw ∧
    (s.setStep h v).hpt = s.hpt ∧ (s.setStep h v).rng = s.rng ∧ (s.setStep h v).sor = s.sor ∧ (s.setStep h v).fab = s.fab ∧
    (s.setStep h v).sec = s.sec ∧ (s.setStep h v).pwr = s.pwr ∧ (s.setStep h v).thm = s.thm ∧ (s.setStep h v).boot = s.boot ∧
    (s.setStep h v).ldg = s.ldg ∧ (s.setStep h v).flt = s.flt ∧ (s.setStep h v).fwu = s.fwu ∧ (s.setStep h v).con = s.con :=
  State.only_ses s (s.setStep h v).ses
@[simp] theorem State.setSlot_frame (x : Nat) (v : Slot) :
    (s.setSlot x v).part = s.part ∧ (s.setSlot x v).clock = s.clock ∧ (s.setSlot x v).free = s.free ∧ (s.setSlot x v).pending = s.pending ∧
    (s.setSlot x v).waited = s.waited ∧ (s.setSlot x v).regs = s.regs ∧ (s.setSlot x v).mem = s.mem ∧ (s.setSlot x v).frd = s.frd ∧
    (s.setSlot x v).thl = s.thl ∧ (s.setSlot x v).msc = s.msc ∧ (s.setSlot x v).pil = s.pil ∧ (s.setSlot x v).pnw = s.pnw ∧
    (s.setSlot x v).hpt = s.hpt ∧ (s.setSlot x v).rng = s.rng ∧ (s.setSlot x v).sor = s.sor ∧ (s.setSlot x v).fab = s.fab ∧
    (s.setSlot x v).sec = s.sec ∧ (s.setSlot x v).pwr = s.pwr ∧ (s.setSlot x v).thm = s.thm ∧ (s.setSlot x v).boot = s.boot ∧
    (s.setSlot x v).ldg = s.ldg ∧ (s.setSlot x v).flt = s.flt ∧ (s.setSlot x v).fwu = s.fwu ∧ (s.setSlot x v).con = s.con :=
  State.only_ses s (s.setSlot x v).ses
@[simp] theorem State.modSlot_frame (x : Nat) (g : Slot → Slot) :
    (s.modSlot x g).part = s.part ∧ (s.modSlot x g).clock = s.clock ∧ (s.modSlot x g).free = s.free ∧ (s.modSlot x g).pending = s.pending ∧
    (s.modSlot x g).waited = s.waited ∧ (s.modSlot x g).regs = s.regs ∧ (s.modSlot x g).mem = s.mem ∧ (s.modSlot x g).frd = s.frd ∧
    (s.modSlot x g).thl = s.thl ∧ (s.modSlot x g).msc = s.msc ∧ (s.modSlot x g).pil = s.pil ∧ (s.modSlot x g).pnw = s.pnw ∧
    (s.modSlot x g).hpt = s.hpt ∧ (s.modSlot x g).rng = s.rng ∧ (s.modSlot x g).sor = s.sor ∧ (s.modSlot x g).fab = s.fab ∧
    (s.modSlot x g).sec = s.sec ∧ (s.modSlot x g).pwr = s.pwr ∧ (s.modSlot x g).thm = s.thm ∧ (s.modSlot x g).boot = s.boot ∧
    (s.modSlot x g).ldg = s.ldg ∧ (s.modSlot x g).flt = s.flt ∧ (s.modSlot x g).fwu = s.fwu ∧ (s.modSlot x g).con = s.con :=
  State.only_ses s (s.modSlot x g).ses
@[simp] theorem State.setPool_frame (k : Nat) (v : Pool) :
    (s.setPool k v).part = s.part ∧ (s.setPool k v).clock = s.clock ∧ (s.setPool k v).free = s.free ∧ (s.setPool k v).pending = s.pending ∧
    (s.setPool k v).waited = s.waited ∧ (s.setPool k v).regs = s.regs ∧ (s.setPool k v).mem = s.mem ∧ (s.setPool k v).frd = s.frd ∧
    (s.setPool k v).thl = s.thl ∧ (s.setPool k v).msc = s.msc ∧ (s.setPool k v).pil = s.pil ∧ (s.setPool k v).pnw = s.pnw ∧
    (s.setPool k v).hpt = s.hpt ∧ (s.setPool k v).rng = s.rng ∧ (s.setPool k v).sor = s.sor ∧ (s.setPool k v).fab = s.fab ∧
    (s.setPool k v).sec = s.sec ∧ (s.setPool k v).pwr = s.pwr ∧ (s.setPool k v).thm = s.thm ∧ (s.setPool k v).boot = s.boot ∧
    (s.setPool k v).ldg = s.ldg ∧ (s.setPool k v).flt = s.flt ∧ (s.setPool k v).fwu = s.fwu ∧ (s.setPool k v).con = s.con :=
  State.only_ses s (s.setPool k v).ses
@[simp] theorem State.setSorus_frame (n : Nat) (v : Sorus) :
    (s.setSorus n v).part = s.part ∧ (s.setSorus n v).clock = s.clock ∧ (s.setSorus n v).free = s.free ∧ (s.setSorus n v).pending = s.pending ∧
    (s.setSorus n v).waited = s.waited ∧ (s.setSorus n v).regs = s.regs ∧ (s.setSorus n v).mem = s.mem ∧ (s.setSorus n v).frd = s.frd ∧
    (s.setSorus n v).thl = s.thl ∧ (s.setSorus n v).msc = s.msc ∧ (s.setSorus n v).pil = s.pil ∧ (s.setSorus n v).pnw = s.pnw ∧
    (s.setSorus n v).hpt = s.hpt ∧ (s.setSorus n v).rng = s.rng ∧ (s.setSorus n v).ses = s.ses ∧ (s.setSorus n v).fab = s.fab ∧
    (s.setSorus n v).sec = s.sec ∧ (s.setSorus n v).pwr = s.pwr ∧ (s.setSorus n v).thm = s.thm ∧ (s.setSorus n v).boot = s.boot ∧
    (s.setSorus n v).ldg = s.ldg ∧ (s.setSorus n v).flt = s.flt ∧ (s.setSorus n v).fwu = s.fwu ∧ (s.setSorus n v).con = s.con :=
  State.only_sor s (s.setSorus n v).sor
@[simp] theorem State.setLink_frame (l : Nat) (v : Link) :
    (s.setLink l v).part = s.part ∧ (s.setLink l v).clock = s.clock ∧ (s.setLink l v).free = s.free ∧ (s.setLink l v).pending = s.pending ∧
    (s.setLink l v).waited = s.waited ∧ (s.setLink l v).regs = s.regs ∧ (s.setLink l v).mem = s.mem ∧ (s.setLink l v).frd = s.frd ∧
    (s.setLink l v).thl = s.thl ∧ (s.setLink l v).msc = s.msc ∧ (s.setLink l v).pil = s.pil ∧ (s.setLink l v).pnw = s.pnw ∧
    (s.setLink l v).hpt = s.hpt ∧ (s.setLink l v).rng = s.rng ∧ (s.setLink l v).ses = s.ses ∧ (s.setLink l v).sor = s.sor ∧
    (s.setLink l v).sec = s.sec ∧ (s.setLink l v).pwr = s.pwr ∧ (s.setLink l v).thm = s.thm ∧ (s.setLink l v).boot = s.boot ∧
    (s.setLink l v).ldg = s.ldg ∧ (s.setLink l v).flt = s.flt ∧ (s.setLink l v).fwu = s.fwu ∧ (s.setLink l v).con = s.con :=
  State.only_fab s (s.setLink l v).fab
@[simp] theorem State.modLink_frame (l : Nat) (g : Link → Link) :
    (s.modLink l g).part = s.part ∧ (s.modLink l g).clock = s.clock ∧ (s.modLink l g).free = s.free ∧ (s.modLink l g).pending = s.pending ∧
    (s.modLink l g).waited = s.waited ∧ (s.modLink l g).regs = s.regs ∧ (s.modLink l g).mem = s.mem ∧ (s.modLink l g).frd = s.frd ∧
    (s.modLink l g).thl = s.thl ∧ (s.modLink l g).msc = s.msc ∧ (s.modLink l g).pil = s.pil ∧ (s.modLink l g).pnw = s.pnw ∧
    (s.modLink l g).hpt = s.hpt ∧ (s.modLink l g).rng = s.rng ∧ (s.modLink l g).ses = s.ses ∧ (s.modLink l g).sor = s.sor ∧
    (s.modLink l g).sec = s.sec ∧ (s.modLink l g).pwr = s.pwr ∧ (s.modLink l g).thm = s.thm ∧ (s.modLink l g).boot = s.boot ∧
    (s.modLink l g).ldg = s.ldg ∧ (s.modLink l g).flt = s.flt ∧ (s.modLink l g).fwu = s.fwu ∧ (s.modLink l g).con = s.con :=
  State.only_fab s (s.modLink l g).fab
@[simp] theorem State.setLinkState_frame (l v : Nat) :
    (s.setLinkState l v).part = s.part ∧ (s.setLinkState l v).clock = s.clock ∧ (s.setLinkState l v).free = s.free ∧
    (s.setLinkState l v).pending = s.pending ∧ (s.setLinkState l v).waited = s.waited ∧ (s.setLinkState l v).mem = s.mem ∧
    (s.setLinkState l v).frd = s.frd ∧ (s.setLinkState l v).thl = s.thl ∧ (s.setLinkState l v).msc = s.msc ∧ (s.setLinkState l v).pil = s.pil ∧
    (s.setLinkState l v).pnw = s.pnw ∧ (s.setLinkState l v).hpt = s.hpt ∧ (s.setLinkState l v).rng = s.rng ∧ (s.setLinkState l v).ses = s.ses ∧
    (s.setLinkState l v).sor = s.sor ∧ (s.setLinkState l v).fab = s.fab ∧ (s.setLinkState l v).sec = s.sec ∧ (s.setLinkState l v).pwr = s.pwr ∧
    (s.setLinkState l v).thm = s.thm ∧ (s.setLinkState l v).boot = s.boot ∧ (s.setLinkState l v).ldg = s.ldg ∧ (s.setLinkState l v).flt = s.flt ∧
    (s.setLinkState l v).fwu = s.fwu ∧ (s.setLinkState l v).con = s.con :=
  State.only_regs s (s.setLinkState l v).regs
@[simp] theorem State.setXfer_frame (x : Nat) (v : Option Xfer) :
    (s.setXfer x v).part = s.part ∧ (s.setXfer x v).clock = s.clock ∧ (s.setXfer x v).free = s.free ∧ (s.setXfer x v).pending = s.pending ∧
    (s.setXfer x v).waited = s.waited ∧ (s.setXfer x v).regs = s.regs ∧ (s.setXfer x v).mem = s.mem ∧ (s.setXfer x v).frd = s.frd ∧
    (s.setXfer x v).thl = s.thl ∧ (s.setXfer x v).msc = s.msc ∧ (s.setXfer x v).pil = s.pil ∧ (s.setXfer x v).pnw = s.pnw ∧
    (s.setXfer x v).hpt = s.hpt ∧ (s.setXfer x v).rng = s.rng ∧ (s.setXfer x v).ses = s.ses ∧ (s.setXfer x v).sor = s.sor ∧
    (s.setXfer x v).sec = s.sec ∧ (s.setXfer x v).pwr = s.pwr ∧ (s.setXfer x v).thm = s.thm ∧ (s.setXfer x v).boot = s.boot ∧
    (s.setXfer x v).ldg = s.ldg ∧ (s.setXfer x v).flt = s.flt ∧ (s.setXfer x v).fwu = s.fwu ∧ (s.setXfer x v).con = s.con :=
  State.only_fab s (s.setXfer x v).fab
@[simp] theorem State.setRed_frame (g : Nat) (v : Option Red) :
    (s.setRed g v).part = s.part ∧ (s.setRed g v).clock = s.clock ∧ (s.setRed g v).free = s.free ∧ (s.setRed g v).pending = s.pending ∧
    (s.setRed g v).waited = s.waited ∧ (s.setRed g v).regs = s.regs ∧ (s.setRed g v).mem = s.mem ∧ (s.setRed g v).frd = s.frd ∧
    (s.setRed g v).thl = s.thl ∧ (s.setRed g v).msc = s.msc ∧ (s.setRed g v).pil = s.pil ∧ (s.setRed g v).pnw = s.pnw ∧
    (s.setRed g v).hpt = s.hpt ∧ (s.setRed g v).rng = s.rng ∧ (s.setRed g v).ses = s.ses ∧ (s.setRed g v).sor = s.sor ∧
    (s.setRed g v).sec = s.sec ∧ (s.setRed g v).pwr = s.pwr ∧ (s.setRed g v).thm = s.thm ∧ (s.setRed g v).boot = s.boot ∧
    (s.setRed g v).ldg = s.ldg ∧ (s.setRed g v).flt = s.flt ∧ (s.setRed g v).fwu = s.fwu ∧ (s.setRed g v).con = s.con :=
  State.only_fab s (s.setRed g v).fab
@[simp] theorem State.setIde_frame (n : Nat) (v : IdeStream) :
    (s.setIde n v).part = s.part ∧ (s.setIde n v).clock = s.clock ∧ (s.setIde n v).free = s.free ∧ (s.setIde n v).pending = s.pending ∧
    (s.setIde n v).waited = s.waited ∧ (s.setIde n v).regs = s.regs ∧ (s.setIde n v).mem = s.mem ∧ (s.setIde n v).frd = s.frd ∧
    (s.setIde n v).thl = s.thl ∧ (s.setIde n v).msc = s.msc ∧ (s.setIde n v).pil = s.pil ∧ (s.setIde n v).pnw = s.pnw ∧
    (s.setIde n v).hpt = s.hpt ∧ (s.setIde n v).rng = s.rng ∧ (s.setIde n v).ses = s.ses ∧ (s.setIde n v).sor = s.sor ∧
    (s.setIde n v).fab = s.fab ∧ (s.setIde n v).pwr = s.pwr ∧ (s.setIde n v).thm = s.thm ∧ (s.setIde n v).boot = s.boot ∧
    (s.setIde n v).ldg = s.ldg ∧ (s.setIde n v).flt = s.flt ∧ (s.setIde n v).fwu = s.fwu ∧ (s.setIde n v).con = s.con :=
  State.only_sec s (s.setIde n v).sec
@[simp] theorem State.setTenantKey_frame (t : Nat) (v : Option (List Byte)) :
    (s.setTenantKey t v).part = s.part ∧ (s.setTenantKey t v).clock = s.clock ∧ (s.setTenantKey t v).free = s.free ∧
    (s.setTenantKey t v).pending = s.pending ∧ (s.setTenantKey t v).waited = s.waited ∧ (s.setTenantKey t v).regs = s.regs ∧
    (s.setTenantKey t v).mem = s.mem ∧ (s.setTenantKey t v).frd = s.frd ∧ (s.setTenantKey t v).thl = s.thl ∧ (s.setTenantKey t v).msc = s.msc ∧
    (s.setTenantKey t v).pil = s.pil ∧ (s.setTenantKey t v).pnw = s.pnw ∧ (s.setTenantKey t v).hpt = s.hpt ∧ (s.setTenantKey t v).rng = s.rng ∧
    (s.setTenantKey t v).ses = s.ses ∧ (s.setTenantKey t v).sor = s.sor ∧ (s.setTenantKey t v).fab = s.fab ∧ (s.setTenantKey t v).pwr = s.pwr ∧
    (s.setTenantKey t v).thm = s.thm ∧ (s.setTenantKey t v).boot = s.boot ∧ (s.setTenantKey t v).ldg = s.ldg ∧ (s.setTenantKey t v).flt = s.flt ∧
    (s.setTenantKey t v).fwu = s.fwu ∧ (s.setTenantKey t v).con = s.con :=
  State.only_sec s (s.setTenantKey t v).sec
@[simp] theorem State.setWay_frame (sl set way : Nat) (v : CLine) :
    (s.setWay sl set way v).part = s.part ∧ (s.setWay sl set way v).clock = s.clock ∧ (s.setWay sl set way v).free = s.free ∧
    (s.setWay sl set way v).pending = s.pending ∧ (s.setWay sl set way v).waited = s.waited ∧ (s.setWay sl set way v).regs = s.regs ∧
    (s.setWay sl set way v).mem = s.mem ∧ (s.setWay sl set way v).frd = s.frd ∧ (s.setWay sl set way v).thl = s.thl ∧
    (s.setWay sl set way v).pil = s.pil ∧ (s.setWay sl set way v).pnw = s.pnw ∧ (s.setWay sl set way v).hpt = s.hpt ∧
    (s.setWay sl set way v).rng = s.rng ∧ (s.setWay sl set way v).ses = s.ses ∧ (s.setWay sl set way v).sor = s.sor ∧
    (s.setWay sl set way v).fab = s.fab ∧ (s.setWay sl set way v).sec = s.sec ∧ (s.setWay sl set way v).pwr = s.pwr ∧
    (s.setWay sl set way v).thm = s.thm ∧ (s.setWay sl set way v).boot = s.boot ∧ (s.setWay sl set way v).ldg = s.ldg ∧
    (s.setWay sl set way v).flt = s.flt ∧ (s.setWay sl set way v).fwu = s.fwu ∧ (s.setWay sl set way v).con = s.con :=
  State.only_msc s (s.setWay sl set way v).msc
@[simp] theorem State.setMode_frame (tq b v : Nat) :
    (s.setMode tq b v).part = s.part ∧ (s.setMode tq b v).clock = s.clock ∧ (s.setMode tq b v).free = s.free ∧
    (s.setMode tq b v).pending = s.pending ∧ (s.setMode tq b v).waited = s.waited ∧ (s.setMode tq b v).regs = s.regs ∧
    (s.setMode tq b v).mem = s.mem ∧ (s.setMode tq b v).frd = s.frd ∧ (s.setMode tq b v).thl = s.thl ∧ (s.setMode tq b v).pil = s.pil ∧
    (s.setMode tq b v).pnw = s.pnw ∧ (s.setMode tq b v).hpt = s.hpt ∧ (s.setMode tq b v).rng = s.rng ∧ (s.setMode tq b v).ses = s.ses ∧
    (s.setMode tq b v).sor = s.sor ∧ (s.setMode tq b v).fab = s.fab ∧ (s.setMode tq b v).sec = s.sec ∧ (s.setMode tq b v).pwr = s.pwr ∧
    (s.setMode tq b v).thm = s.thm ∧ (s.setMode tq b v).boot = s.boot ∧ (s.setMode tq b v).ldg = s.ldg ∧ (s.setMode tq b v).flt = s.flt ∧
    (s.setMode tq b v).fwu = s.fwu ∧ (s.setMode tq b v).con = s.con :=
  State.only_msc s (s.setMode tq b v).msc
@[simp] theorem State.setPend_frame (tq b v : Nat) :
    (s.setPend tq b v).part = s.part ∧ (s.setPend tq b v).clock = s.clock ∧ (s.setPend tq b v).free = s.free ∧
    (s.setPend tq b v).pending = s.pending ∧ (s.setPend tq b v).waited = s.waited ∧ (s.setPend tq b v).regs = s.regs ∧
    (s.setPend tq b v).mem = s.mem ∧ (s.setPend tq b v).frd = s.frd ∧ (s.setPend tq b v).thl = s.thl ∧ (s.setPend tq b v).pil = s.pil ∧
    (s.setPend tq b v).pnw = s.pnw ∧ (s.setPend tq b v).hpt = s.hpt ∧ (s.setPend tq b v).rng = s.rng ∧ (s.setPend tq b v).ses = s.ses ∧
    (s.setPend tq b v).sor = s.sor ∧ (s.setPend tq b v).fab = s.fab ∧ (s.setPend tq b v).sec = s.sec ∧ (s.setPend tq b v).pwr = s.pwr ∧
    (s.setPend tq b v).thm = s.thm ∧ (s.setPend tq b v).boot = s.boot ∧ (s.setPend tq b v).ldg = s.ldg ∧ (s.setPend tq b v).flt = s.flt ∧
    (s.setPend tq b v).fwu = s.fwu ∧ (s.setPend tq b v).con = s.con :=
  State.only_msc s (s.setPend tq b v).msc
@[simp] theorem State.setTagBad_frame (k v : Nat) :
    (s.setTagBad k v).part = s.part ∧ (s.setTagBad k v).clock = s.clock ∧ (s.setTagBad k v).free = s.free ∧ (s.setTagBad k v).pending = s.pending ∧
    (s.setTagBad k v).waited = s.waited ∧ (s.setTagBad k v).regs = s.regs ∧ (s.setTagBad k v).mem = s.mem ∧ (s.setTagBad k v).frd = s.frd ∧
    (s.setTagBad k v).thl = s.thl ∧ (s.setTagBad k v).pil = s.pil ∧ (s.setTagBad k v).pnw = s.pnw ∧ (s.setTagBad k v).hpt = s.hpt ∧
    (s.setTagBad k v).rng = s.rng ∧ (s.setTagBad k v).ses = s.ses ∧ (s.setTagBad k v).sor = s.sor ∧ (s.setTagBad k v).fab = s.fab ∧
    (s.setTagBad k v).sec = s.sec ∧ (s.setTagBad k v).pwr = s.pwr ∧ (s.setTagBad k v).thm = s.thm ∧ (s.setTagBad k v).boot = s.boot ∧
    (s.setTagBad k v).ldg = s.ldg ∧ (s.setTagBad k v).flt = s.flt ∧ (s.setTagBad k v).fwu = s.fwu ∧ (s.setTagBad k v).con = s.con :=
  State.only_msc s (s.setTagBad k v).msc
@[simp] theorem State.setLaser_frame (e n v : Nat) :
    (s.setLaser e n v).part = s.part ∧ (s.setLaser e n v).clock = s.clock ∧ (s.setLaser e n v).free = s.free ∧
    (s.setLaser e n v).pending = s.pending ∧ (s.setLaser e n v).waited = s.waited ∧ (s.setLaser e n v).regs = s.regs ∧
    (s.setLaser e n v).mem = s.mem ∧ (s.setLaser e n v).frd = s.frd ∧ (s.setLaser e n v).thl = s.thl ∧ (s.setLaser e n v).msc = s.msc ∧
    (s.setLaser e n v).pil = s.pil ∧ (s.setLaser e n v).pnw = s.pnw ∧ (s.setLaser e n v).hpt = s.hpt ∧ (s.setLaser e n v).rng = s.rng ∧
    (s.setLaser e n v).ses = s.ses ∧ (s.setLaser e n v).sor = s.sor ∧ (s.setLaser e n v).fab = s.fab ∧ (s.setLaser e n v).sec = s.sec ∧
    (s.setLaser e n v).pwr = s.pwr ∧ (s.setLaser e n v).thm = s.thm ∧ (s.setLaser e n v).boot = s.boot ∧ (s.setLaser e n v).flt = s.flt ∧
    (s.setLaser e n v).fwu = s.fwu ∧ (s.setLaser e n v).con = s.con :=
  State.only_ldg s (s.setLaser e n v).ldg
@[simp] theorem State.setFwuState_frame (v : Nat) :
    (s.setFwuState v).part = s.part ∧ (s.setFwuState v).clock = s.clock ∧ (s.setFwuState v).free = s.free ∧ (s.setFwuState v).pending = s.pending ∧
    (s.setFwuState v).waited = s.waited ∧ (s.setFwuState v).mem = s.mem ∧ (s.setFwuState v).frd = s.frd ∧ (s.setFwuState v).thl = s.thl ∧
    (s.setFwuState v).msc = s.msc ∧ (s.setFwuState v).pil = s.pil ∧ (s.setFwuState v).pnw = s.pnw ∧ (s.setFwuState v).hpt = s.hpt ∧
    (s.setFwuState v).rng = s.rng ∧ (s.setFwuState v).ses = s.ses ∧ (s.setFwuState v).sor = s.sor ∧ (s.setFwuState v).fab = s.fab ∧
    (s.setFwuState v).sec = s.sec ∧ (s.setFwuState v).pwr = s.pwr ∧ (s.setFwuState v).thm = s.thm ∧ (s.setFwuState v).boot = s.boot ∧
    (s.setFwuState v).ldg = s.ldg ∧ (s.setFwuState v).flt = s.flt ∧ (s.setFwuState v).fwu = s.fwu ∧ (s.setFwuState v).con = s.con :=
  State.only_regs s (s.setFwuState v).regs
@[simp] theorem State.setSlotImg_frame (bank c : Nat) (v : Option FwImage) :
    (s.setSlotImg bank c v).part = s.part ∧ (s.setSlotImg bank c v).clock = s.clock ∧ (s.setSlotImg bank c v).free = s.free ∧
    (s.setSlotImg bank c v).pending = s.pending ∧ (s.setSlotImg bank c v).waited = s.waited ∧ (s.setSlotImg bank c v).regs = s.regs ∧
    (s.setSlotImg bank c v).mem = s.mem ∧ (s.setSlotImg bank c v).frd = s.frd ∧ (s.setSlotImg bank c v).thl = s.thl ∧
    (s.setSlotImg bank c v).msc = s.msc ∧ (s.setSlotImg bank c v).pil = s.pil ∧ (s.setSlotImg bank c v).pnw = s.pnw ∧
    (s.setSlotImg bank c v).hpt = s.hpt ∧ (s.setSlotImg bank c v).rng = s.rng ∧ (s.setSlotImg bank c v).ses = s.ses ∧
    (s.setSlotImg bank c v).sor = s.sor ∧ (s.setSlotImg bank c v).fab = s.fab ∧ (s.setSlotImg bank c v).sec = s.sec ∧
    (s.setSlotImg bank c v).pwr = s.pwr ∧ (s.setSlotImg bank c v).thm = s.thm ∧ (s.setSlotImg bank c v).boot = s.boot ∧
    (s.setSlotImg bank c v).ldg = s.ldg ∧ (s.setSlotImg bank c v).flt = s.flt ∧ (s.setSlotImg bank c v).con = s.con :=
  State.only_fwu s (s.setSlotImg bank c v).fwu
@[simp] theorem State.setRestarting_frame (u : Nat) (v : Option (List (Nat × Nat))) :
    (s.setRestarting u v).part = s.part ∧ (s.setRestarting u v).clock = s.clock ∧ (s.setRestarting u v).free = s.free ∧
    (s.setRestarting u v).pending = s.pending ∧ (s.setRestarting u v).waited = s.waited ∧ (s.setRestarting u v).regs = s.regs ∧
    (s.setRestarting u v).mem = s.mem ∧ (s.setRestarting u v).frd = s.frd ∧ (s.setRestarting u v).thl = s.thl ∧ (s.setRestarting u v).msc = s.msc ∧
    (s.setRestarting u v).pil = s.pil ∧ (s.setRestarting u v).pnw = s.pnw ∧ (s.setRestarting u v).hpt = s.hpt ∧ (s.setRestarting u v).rng = s.rng ∧
    (s.setRestarting u v).ses = s.ses ∧ (s.setRestarting u v).sor = s.sor ∧ (s.setRestarting u v).fab = s.fab ∧ (s.setRestarting u v).sec = s.sec ∧
    (s.setRestarting u v).pwr = s.pwr ∧ (s.setRestarting u v).thm = s.thm ∧ (s.setRestarting u v).ldg = s.ldg ∧ (s.setRestarting u v).flt = s.flt ∧
    (s.setRestarting u v).fwu = s.fwu ∧ (s.setRestarting u v).con = s.con :=
  State.only_boot s (s.setRestarting u v).boot
@[simp] theorem State.setIn_frame (i v : Nat) :
    (s.setIn i v).part = s.part ∧ (s.setIn i v).clock = s.clock ∧ (s.setIn i v).free = s.free ∧ (s.setIn i v).pending = s.pending ∧
    (s.setIn i v).waited = s.waited ∧ (s.setIn i v).mem = s.mem ∧ (s.setIn i v).frd = s.frd ∧ (s.setIn i v).thl = s.thl ∧
    (s.setIn i v).msc = s.msc ∧ (s.setIn i v).pil = s.pil ∧ (s.setIn i v).pnw = s.pnw ∧ (s.setIn i v).hpt = s.hpt ∧ (s.setIn i v).rng = s.rng ∧
    (s.setIn i v).ses = s.ses ∧ (s.setIn i v).sor = s.sor ∧ (s.setIn i v).fab = s.fab ∧ (s.setIn i v).sec = s.sec ∧ (s.setIn i v).pwr = s.pwr ∧
    (s.setIn i v).thm = s.thm ∧ (s.setIn i v).boot = s.boot ∧ (s.setIn i v).ldg = s.ldg ∧ (s.setIn i v).flt = s.flt ∧ (s.setIn i v).fwu = s.fwu ∧
    (s.setIn i v).con = s.con :=
  State.only_regs s (s.setIn i v).regs
@[simp] theorem State.setReport_frame (n : Nat) (r : StageRep) :
    (s.setReport n r).part = s.part ∧ (s.setReport n r).clock = s.clock ∧ (s.setReport n r).free = s.free ∧ (s.setReport n r).pending = s.pending ∧
    (s.setReport n r).waited = s.waited ∧ (s.setReport n r).regs = s.regs ∧ (s.setReport n r).mem = s.mem ∧ (s.setReport n r).frd = s.frd ∧
    (s.setReport n r).thl = s.thl ∧ (s.setReport n r).msc = s.msc ∧ (s.setReport n r).pil = s.pil ∧ (s.setReport n r).pnw = s.pnw ∧
    (s.setReport n r).hpt = s.hpt ∧ (s.setReport n r).rng = s.rng ∧ (s.setReport n r).ses = s.ses ∧ (s.setReport n r).sor = s.sor ∧
    (s.setReport n r).fab = s.fab ∧ (s.setReport n r).sec = s.sec ∧ (s.setReport n r).pwr = s.pwr ∧ (s.setReport n r).thm = s.thm ∧
    (s.setReport n r).ldg = s.ldg ∧ (s.setReport n r).flt = s.flt ∧ (s.setReport n r).fwu = s.fwu ∧ (s.setReport n r).con = s.con :=
  State.only_boot s (s.setReport n r).boot
@[simp] theorem State.dropFence_frame (u : FUnit) :
    (s.dropFence u).part = s.part ∧ (s.dropFence u).clock = s.clock ∧ (s.dropFence u).free = s.free ∧ (s.dropFence u).pending = s.pending ∧
    (s.dropFence u).waited = s.waited ∧ (s.dropFence u).regs = s.regs ∧ (s.dropFence u).mem = s.mem ∧ (s.dropFence u).frd = s.frd ∧
    (s.dropFence u).thl = s.thl ∧ (s.dropFence u).msc = s.msc ∧ (s.dropFence u).pil = s.pil ∧ (s.dropFence u).pnw = s.pnw ∧
    (s.dropFence u).hpt = s.hpt ∧ (s.dropFence u).rng = s.rng ∧ (s.dropFence u).ses = s.ses ∧ (s.dropFence u).sor = s.sor ∧
    (s.dropFence u).fab = s.fab ∧ (s.dropFence u).sec = s.sec ∧ (s.dropFence u).pwr = s.pwr ∧ (s.dropFence u).thm = s.thm ∧
    (s.dropFence u).boot = s.boot ∧ (s.dropFence u).ldg = s.ldg ∧ (s.dropFence u).fwu = s.fwu ∧ (s.dropFence u).con = s.con :=
  State.only_flt s (s.dropFence u).flt
@[simp] theorem State.dropInj_frame (c k : Nat) :
    (s.dropInj c k).part = s.part ∧ (s.dropInj c k).clock = s.clock ∧ (s.dropInj c k).free = s.free ∧ (s.dropInj c k).pending = s.pending ∧
    (s.dropInj c k).waited = s.waited ∧ (s.dropInj c k).regs = s.regs ∧ (s.dropInj c k).frd = s.frd ∧ (s.dropInj c k).thl = s.thl ∧
    (s.dropInj c k).msc = s.msc ∧ (s.dropInj c k).pil = s.pil ∧ (s.dropInj c k).pnw = s.pnw ∧ (s.dropInj c k).hpt = s.hpt ∧
    (s.dropInj c k).rng = s.rng ∧ (s.dropInj c k).ses = s.ses ∧ (s.dropInj c k).sor = s.sor ∧ (s.dropInj c k).fab = s.fab ∧
    (s.dropInj c k).sec = s.sec ∧ (s.dropInj c k).pwr = s.pwr ∧ (s.dropInj c k).thm = s.thm ∧ (s.dropInj c k).boot = s.boot ∧
    (s.dropInj c k).ldg = s.ldg ∧ (s.dropInj c k).flt = s.flt ∧ (s.dropInj c k).fwu = s.fwu ∧ (s.dropInj c k).con = s.con :=
  State.only_mem s (s.dropInj c k).mem
@[simp] theorem State.hostStore_frame (a : Nat) (l : List Byte) :
    (s.hostStore a l).part = s.part ∧ (s.hostStore a l).clock = s.clock ∧ (s.hostStore a l).free = s.free ∧ (s.hostStore a l).pending = s.pending ∧
    (s.hostStore a l).waited = s.waited ∧ (s.hostStore a l).regs = s.regs ∧ (s.hostStore a l).frd = s.frd ∧ (s.hostStore a l).thl = s.thl ∧
    (s.hostStore a l).msc = s.msc ∧ (s.hostStore a l).pil = s.pil ∧ (s.hostStore a l).pnw = s.pnw ∧ (s.hostStore a l).hpt = s.hpt ∧
    (s.hostStore a l).rng = s.rng ∧ (s.hostStore a l).ses = s.ses ∧ (s.hostStore a l).sor = s.sor ∧ (s.hostStore a l).fab = s.fab ∧
    (s.hostStore a l).sec = s.sec ∧ (s.hostStore a l).pwr = s.pwr ∧ (s.hostStore a l).thm = s.thm ∧ (s.hostStore a l).boot = s.boot ∧
    (s.hostStore a l).ldg = s.ldg ∧ (s.hostStore a l).flt = s.flt ∧ (s.hostStore a l).fwu = s.fwu ∧ (s.hostStore a l).con = s.con :=
  State.only_mem s (s.hostStore a l).mem
@[simp] theorem State.commitFor_frame (ws : List LWrite) (who : LWho) :
    (s.commitFor ws who).part = s.part ∧ (s.commitFor ws who).clock = s.clock ∧ (s.commitFor ws who).free = s.free ∧
    (s.commitFor ws who).pending = s.pending ∧ (s.commitFor ws who).waited = s.waited ∧ (s.commitFor ws who).regs = s.regs ∧
    (s.commitFor ws who).mem = s.mem ∧ (s.commitFor ws who).frd = s.frd ∧ (s.commitFor ws who).thl = s.thl ∧ (s.commitFor ws who).msc = s.msc ∧
    (s.commitFor ws who).pil = s.pil ∧ (s.commitFor ws who).pnw = s.pnw ∧ (s.commitFor ws who).hpt = s.hpt ∧ (s.commitFor ws who).rng = s.rng ∧
    (s.commitFor ws who).ses = s.ses ∧ (s.commitFor ws who).sor = s.sor ∧ (s.commitFor ws who).fab = s.fab ∧ (s.commitFor ws who).sec = s.sec ∧
    (s.commitFor ws who).pwr = s.pwr ∧ (s.commitFor ws who).thm = s.thm ∧ (s.commitFor ws who).boot = s.boot ∧ (s.commitFor ws who).flt = s.flt ∧
    (s.commitFor ws who).fwu = s.fwu ∧ (s.commitFor ws who).con = s.con :=
  State.only_ldg s (s.commitFor ws who).ldg
@[simp] theorem State.atsFill_frame (a n : Nat) :
    (s.atsFill a n).part = s.part ∧ (s.atsFill a n).clock = s.clock ∧ (s.atsFill a n).free = s.free ∧ (s.atsFill a n).pending = s.pending ∧
    (s.atsFill a n).waited = s.waited ∧ (s.atsFill a n).regs = s.regs ∧ (s.atsFill a n).mem = s.mem ∧ (s.atsFill a n).frd = s.frd ∧
    (s.atsFill a n).thl = s.thl ∧ (s.atsFill a n).msc = s.msc ∧ (s.atsFill a n).pil = s.pil ∧ (s.atsFill a n).pnw = s.pnw ∧
    (s.atsFill a n).rng = s.rng ∧ (s.atsFill a n).ses = s.ses ∧ (s.atsFill a n).sor = s.sor ∧ (s.atsFill a n).fab = s.fab ∧
    (s.atsFill a n).sec = s.sec ∧ (s.atsFill a n).pwr = s.pwr ∧ (s.atsFill a n).thm = s.thm ∧ (s.atsFill a n).boot = s.boot ∧
    (s.atsFill a n).ldg = s.ldg ∧ (s.atsFill a n).flt = s.flt ∧ (s.atsFill a n).fwu = s.fwu ∧ (s.atsFill a n).con = s.con :=
  State.only_hpt s (s.atsFill a n).hpt
@[simp] theorem State.plruUse_frame (sl set way : Nat) :
    (s.plruUse sl set way).part = s.part ∧ (s.plruUse sl set way).clock = s.clock ∧ (s.plruUse sl set way).free = s.free ∧
    (s.plruUse sl set way).pending = s.pending ∧ (s.plruUse sl set way).waited = s.waited ∧ (s.plruUse sl set way).regs = s.regs ∧
    (s.plruUse sl set way).mem = s.mem ∧ (s.plruUse sl set way).frd = s.frd ∧ (s.plruUse sl set way).thl = s.thl ∧
    (s.plruUse sl set way).pil = s.pil ∧ (s.plruUse sl set way).pnw = s.pnw ∧ (s.plruUse sl set way).hpt = s.hpt ∧
    (s.plruUse sl set way).rng = s.rng ∧ (s.plruUse sl set way).ses = s.ses ∧ (s.plruUse sl set way).sor = s.sor ∧
    (s.plruUse sl set way).fab = s.fab ∧ (s.plruUse sl set way).sec = s.sec ∧ (s.plruUse sl set way).pwr = s.pwr ∧
    (s.plruUse sl set way).thm = s.thm ∧ (s.plruUse sl set way).boot = s.boot ∧ (s.plruUse sl set way).ldg = s.ldg ∧
    (s.plruUse sl set way).flt = s.flt ∧ (s.plruUse sl set way).fwu = s.fwu ∧ (s.plruUse sl set way).con = s.con :=
  State.only_msc s (s.plruUse sl set way).msc
@[simp] theorem State.modWay_frame (sl set way : Nat) (g : CLine → CLine) :
    (s.modWay sl set way g).part = s.part ∧ (s.modWay sl set way g).clock = s.clock ∧ (s.modWay sl set way g).free = s.free ∧
    (s.modWay sl set way g).pending = s.pending ∧ (s.modWay sl set way g).waited = s.waited ∧ (s.modWay sl set way g).regs = s.regs ∧
    (s.modWay sl set way g).mem = s.mem ∧ (s.modWay sl set way g).frd = s.frd ∧ (s.modWay sl set way g).thl = s.thl ∧
    (s.modWay sl set way g).pil = s.pil ∧ (s.modWay sl set way g).pnw = s.pnw ∧ (s.modWay sl set way g).hpt = s.hpt ∧
    (s.modWay sl set way g).rng = s.rng ∧ (s.modWay sl set way g).ses = s.ses ∧ (s.modWay sl set way g).sor = s.sor ∧
    (s.modWay sl set way g).fab = s.fab ∧ (s.modWay sl set way g).sec = s.sec ∧ (s.modWay sl set way g).pwr = s.pwr ∧
    (s.modWay sl set way g).thm = s.thm ∧ (s.modWay sl set way g).boot = s.boot ∧ (s.modWay sl set way g).ldg = s.ldg ∧
    (s.modWay sl set way g).flt = s.flt ∧ (s.modWay sl set way g).fwu = s.fwu ∧ (s.modWay sl set way g).con = s.con :=
  State.only_msc s (s.modWay sl set way g).msc
@[simp] theorem State.modJob_frame (r i : Nat) (g : Job → Job) :
    (s.modJob r i g).part = s.part ∧ (s.modJob r i g).clock = s.clock ∧ (s.modJob r i g).free = s.free ∧ (s.modJob r i g).pending = s.pending ∧
    (s.modJob r i g).waited = s.waited ∧ (s.modJob r i g).regs = s.regs ∧ (s.modJob r i g).mem = s.mem ∧ (s.modJob r i g).frd = s.frd ∧
    (s.modJob r i g).thl = s.thl ∧ (s.modJob r i g).msc = s.msc ∧ (s.modJob r i g).pil = s.pil ∧ (s.modJob r i g).pnw = s.pnw ∧
    (s.modJob r i g).hpt = s.hpt ∧ (s.modJob r i g).rng = s.rng ∧ (s.modJob r i g).ses = s.ses ∧ (s.modJob r i g).sor = s.sor ∧
    (s.modJob r i g).sec = s.sec ∧ (s.modJob r i g).pwr = s.pwr ∧ (s.modJob r i g).thm = s.thm ∧ (s.modJob r i g).boot = s.boot ∧
    (s.modJob r i g).ldg = s.ldg ∧ (s.modJob r i g).flt = s.flt ∧ (s.modJob r i g).fwu = s.fwu ∧ (s.modJob r i g).con = s.con :=
  State.only_fab s (s.modJob r i g).fab
@[simp] theorem State.dropJob_frame (r i : Nat) :
    (s.dropJob r i).part = s.part ∧ (s.dropJob r i).clock = s.clock ∧ (s.dropJob r i).free = s.free ∧ (s.dropJob r i).pending = s.pending ∧
    (s.dropJob r i).waited = s.waited ∧ (s.dropJob r i).regs = s.regs ∧ (s.dropJob r i).mem = s.mem ∧ (s.dropJob r i).frd = s.frd ∧
    (s.dropJob r i).thl = s.thl ∧ (s.dropJob r i).msc = s.msc ∧ (s.dropJob r i).pil = s.pil ∧ (s.dropJob r i).pnw = s.pnw ∧
    (s.dropJob r i).hpt = s.hpt ∧ (s.dropJob r i).rng = s.rng ∧ (s.dropJob r i).ses = s.ses ∧ (s.dropJob r i).sor = s.sor ∧
    (s.dropJob r i).sec = s.sec ∧ (s.dropJob r i).pwr = s.pwr ∧ (s.dropJob r i).thm = s.thm ∧ (s.dropJob r i).boot = s.boot ∧
    (s.dropJob r i).ldg = s.ldg ∧ (s.dropJob r i).flt = s.flt ∧ (s.dropJob r i).fwu = s.fwu ∧ (s.dropJob r i).con = s.con :=
  State.only_fab s (s.dropJob r i).fab
@[simp] theorem State.setSpore_frame (j : SporeJob) :
    (s.setSpore j).part = s.part ∧ (s.setSpore j).clock = s.clock ∧ (s.setSpore j).free = s.free ∧ (s.setSpore j).pending = s.pending ∧
    (s.setSpore j).waited = s.waited ∧ (s.setSpore j).regs = s.regs ∧ (s.setSpore j).mem = s.mem ∧ (s.setSpore j).frd = s.frd ∧
    (s.setSpore j).thl = s.thl ∧ (s.setSpore j).msc = s.msc ∧ (s.setSpore j).pil = s.pil ∧ (s.setSpore j).pnw = s.pnw ∧
    (s.setSpore j).hpt = s.hpt ∧ (s.setSpore j).rng = s.rng ∧ (s.setSpore j).ses = s.ses ∧ (s.setSpore j).sor = s.sor ∧
    (s.setSpore j).sec = s.sec ∧ (s.setSpore j).pwr = s.pwr ∧ (s.setSpore j).thm = s.thm ∧ (s.setSpore j).boot = s.boot ∧
    (s.setSpore j).ldg = s.ldg ∧ (s.setSpore j).flt = s.flt ∧ (s.setSpore j).fwu = s.fwu ∧ (s.setSpore j).con = s.con :=
  State.only_fab s (s.setSpore j).fab
@[simp] theorem State.setVolt_frame (f v : Nat) :
    (s.setVolt f v).part = s.part ∧ (s.setVolt f v).clock = s.clock ∧ (s.setVolt f v).free = s.free ∧ (s.setVolt f v).pending = s.pending ∧
    (s.setVolt f v).waited = s.waited ∧ (s.setVolt f v).regs = s.regs ∧ (s.setVolt f v).mem = s.mem ∧ (s.setVolt f v).frd = s.frd ∧
    (s.setVolt f v).thl = s.thl ∧ (s.setVolt f v).msc = s.msc ∧ (s.setVolt f v).pil = s.pil ∧ (s.setVolt f v).pnw = s.pnw ∧
    (s.setVolt f v).hpt = s.hpt ∧ (s.setVolt f v).rng = s.rng ∧ (s.setVolt f v).ses = s.ses ∧ (s.setVolt f v).sor = s.sor ∧
    (s.setVolt f v).fab = s.fab ∧ (s.setVolt f v).sec = s.sec ∧ (s.setVolt f v).thm = s.thm ∧ (s.setVolt f v).boot = s.boot ∧
    (s.setVolt f v).ldg = s.ldg ∧ (s.setVolt f v).flt = s.flt ∧ (s.setVolt f v).fwu = s.fwu ∧ (s.setVolt f v).con = s.con :=
  State.only_pwr s (s.setVolt f v).pwr
@[simp] theorem State.setClkUp_frame (f : Nat) (v : Option (Nat × Nat)) :
    (s.setClkUp f v).part = s.part ∧ (s.setClkUp f v).clock = s.clock ∧ (s.setClkUp f v).free = s.free ∧ (s.setClkUp f v).pending = s.pending ∧
    (s.setClkUp f v).waited = s.waited ∧ (s.setClkUp f v).regs = s.regs ∧ (s.setClkUp f v).mem = s.mem ∧ (s.setClkUp f v).frd = s.frd ∧
    (s.setClkUp f v).thl = s.thl ∧ (s.setClkUp f v).msc = s.msc ∧ (s.setClkUp f v).pil = s.pil ∧ (s.setClkUp f v).pnw = s.pnw ∧
    (s.setClkUp f v).hpt = s.hpt ∧ (s.setClkUp f v).rng = s.rng ∧ (s.setClkUp f v).ses = s.ses ∧ (s.setClkUp f v).sor = s.sor ∧
    (s.setClkUp f v).fab = s.fab ∧ (s.setClkUp f v).sec = s.sec ∧ (s.setClkUp f v).thm = s.thm ∧ (s.setClkUp f v).boot = s.boot ∧
    (s.setClkUp f v).ldg = s.ldg ∧ (s.setClkUp f v).flt = s.flt ∧ (s.setClkUp f v).fwu = s.fwu ∧ (s.setClkUp f v).con = s.con :=
  State.only_pwr s (s.setClkUp f v).pwr
@[simp] theorem State.setQueue_frame (link : Nat) (l : List QEntry) :
    (s.setQueue link l).part = s.part ∧ (s.setQueue link l).clock = s.clock ∧ (s.setQueue link l).free = s.free ∧
    (s.setQueue link l).pending = s.pending ∧ (s.setQueue link l).waited = s.waited ∧ (s.setQueue link l).regs = s.regs ∧
    (s.setQueue link l).mem = s.mem ∧ (s.setQueue link l).frd = s.frd ∧ (s.setQueue link l).thl = s.thl ∧ (s.setQueue link l).msc = s.msc ∧
    (s.setQueue link l).pil = s.pil ∧ (s.setQueue link l).hpt = s.hpt ∧ (s.setQueue link l).rng = s.rng ∧ (s.setQueue link l).ses = s.ses ∧
    (s.setQueue link l).sor = s.sor ∧ (s.setQueue link l).fab = s.fab ∧ (s.setQueue link l).sec = s.sec ∧ (s.setQueue link l).pwr = s.pwr ∧
    (s.setQueue link l).thm = s.thm ∧ (s.setQueue link l).boot = s.boot ∧ (s.setQueue link l).ldg = s.ldg ∧ (s.setQueue link l).flt = s.flt ∧
    (s.setQueue link l).fwu = s.fwu ∧ (s.setQueue link l).con = s.con :=
  State.only_pnw s (s.setQueue link l).pnw
@[simp] theorem State.setInst_frame (kind i : Nat) (x : RegInst) :
    (s.setInst kind i x).part = s.part ∧ (s.setInst kind i x).clock = s.clock ∧ (s.setInst kind i x).free = s.free ∧
    (s.setInst kind i x).pending = s.pending ∧ (s.setInst kind i x).waited = s.waited ∧ (s.setInst kind i x).regs = s.regs ∧
    (s.setInst kind i x).mem = s.mem ∧ (s.setInst kind i x).frd = s.frd ∧ (s.setInst kind i x).thl = s.thl ∧ (s.setInst kind i x).msc = s.msc ∧
    (s.setInst kind i x).pil = s.pil ∧ (s.setInst kind i x).hpt = s.hpt ∧ (s.setInst kind i x).rng = s.rng ∧ (s.setInst kind i x).ses = s.ses ∧
    (s.setInst kind i x).sor = s.sor ∧ (s.setInst kind i x).fab = s.fab ∧ (s.setInst kind i x).sec = s.sec ∧ (s.setInst kind i x).pwr = s.pwr ∧
    (s.setInst kind i x).thm = s.thm ∧ (s.setInst kind i x).boot = s.boot ∧ (s.setInst kind i x).ldg = s.ldg ∧ (s.setInst kind i x).flt = s.flt ∧
    (s.setInst kind i x).fwu = s.fwu ∧ (s.setInst kind i x).con = s.con :=
  State.only_pnw s (s.setInst kind i x).pnw
@[simp] theorem State.setRestartLatched_frame (u : Nat) (v : Option (List (Nat × Nat))) :
    (s.setRestartLatched u v).part = s.part ∧ (s.setRestartLatched u v).clock = s.clock ∧ (s.setRestartLatched u v).free = s.free ∧
    (s.setRestartLatched u v).pending = s.pending ∧ (s.setRestartLatched u v).waited = s.waited ∧ (s.setRestartLatched u v).regs = s.regs ∧
    (s.setRestartLatched u v).mem = s.mem ∧ (s.setRestartLatched u v).frd = s.frd ∧ (s.setRestartLatched u v).thl = s.thl ∧
    (s.setRestartLatched u v).msc = s.msc ∧ (s.setRestartLatched u v).pil = s.pil ∧ (s.setRestartLatched u v).pnw = s.pnw ∧
    (s.setRestartLatched u v).hpt = s.hpt ∧ (s.setRestartLatched u v).rng = s.rng ∧ (s.setRestartLatched u v).ses = s.ses ∧
    (s.setRestartLatched u v).sor = s.sor ∧ (s.setRestartLatched u v).fab = s.fab ∧ (s.setRestartLatched u v).sec = s.sec ∧
    (s.setRestartLatched u v).pwr = s.pwr ∧ (s.setRestartLatched u v).thm = s.thm ∧ (s.setRestartLatched u v).ldg = s.ldg ∧
    (s.setRestartLatched u v).flt = s.flt ∧ (s.setRestartLatched u v).fwu = s.fwu ∧ (s.setRestartLatched u v).con = s.con :=
  State.only_boot s (s.setRestartLatched u v).boot
@[simp] theorem State.modCmd_frame (f c : Nat) (g : DmaCmd → DmaCmd) :
    (s.modCmd f c g).part = s.part ∧ (s.modCmd f c g).clock = s.clock ∧ (s.modCmd f c g).free = s.free ∧ (s.modCmd f c g).pending = s.pending ∧
    (s.modCmd f c g).waited = s.waited ∧ (s.modCmd f c g).regs = s.regs ∧ (s.modCmd f c g).mem = s.mem ∧ (s.modCmd f c g).thl = s.thl ∧
    (s.modCmd f c g).msc = s.msc ∧ (s.modCmd f c g).pil = s.pil ∧ (s.modCmd f c g).pnw = s.pnw ∧ (s.modCmd f c g).hpt = s.hpt ∧
    (s.modCmd f c g).rng = s.rng ∧ (s.modCmd f c g).ses = s.ses ∧ (s.modCmd f c g).sor = s.sor ∧ (s.modCmd f c g).fab = s.fab ∧
    (s.modCmd f c g).sec = s.sec ∧ (s.modCmd f c g).pwr = s.pwr ∧ (s.modCmd f c g).thm = s.thm ∧ (s.modCmd f c g).boot = s.boot ∧
    (s.modCmd f c g).ldg = s.ldg ∧ (s.modCmd f c g).flt = s.flt ∧ (s.modCmd f c g).fwu = s.fwu ∧ (s.modCmd f c g).con = s.con :=
  State.only_frd s (s.modCmd f c g).frd
@[simp] theorem State.popDma_frame (f c : Nat) :
    (s.popDma f c).part = s.part ∧ (s.popDma f c).clock = s.clock ∧ (s.popDma f c).free = s.free ∧ (s.popDma f c).pending = s.pending ∧
    (s.popDma f c).waited = s.waited ∧ (s.popDma f c).regs = s.regs ∧ (s.popDma f c).mem = s.mem ∧ (s.popDma f c).thl = s.thl ∧
    (s.popDma f c).msc = s.msc ∧ (s.popDma f c).pil = s.pil ∧ (s.popDma f c).pnw = s.pnw ∧ (s.popDma f c).hpt = s.hpt ∧
    (s.popDma f c).rng = s.rng ∧ (s.popDma f c).ses = s.ses ∧ (s.popDma f c).sor = s.sor ∧ (s.popDma f c).fab = s.fab ∧
    (s.popDma f c).sec = s.sec ∧ (s.popDma f c).pwr = s.pwr ∧ (s.popDma f c).thm = s.thm ∧ (s.popDma f c).boot = s.boot ∧
    (s.popDma f c).ldg = s.ldg ∧ (s.popDma f c).flt = s.flt ∧ (s.popDma f c).fwu = s.fwu ∧ (s.popDma f c).con = s.con :=
  State.only_frd s (s.popDma f c).frd
@[simp] theorem State.setCmd_frame (f a i : Nat) (g : ArrCmd → ArrCmd) :
    (s.setCmd f a i g).part = s.part ∧ (s.setCmd f a i g).clock = s.clock ∧ (s.setCmd f a i g).free = s.free ∧
    (s.setCmd f a i g).pending = s.pending ∧ (s.setCmd f a i g).waited = s.waited ∧ (s.setCmd f a i g).regs = s.regs ∧
    (s.setCmd f a i g).mem = s.mem ∧ (s.setCmd f a i g).thl = s.thl ∧ (s.setCmd f a i g).msc = s.msc ∧ (s.setCmd f a i g).pil = s.pil ∧
    (s.setCmd f a i g).pnw = s.pnw ∧ (s.setCmd f a i g).hpt = s.hpt ∧ (s.setCmd f a i g).rng = s.rng ∧ (s.setCmd f a i g).ses = s.ses ∧
    (s.setCmd f a i g).sor = s.sor ∧ (s.setCmd f a i g).fab = s.fab ∧ (s.setCmd f a i g).sec = s.sec ∧ (s.setCmd f a i g).pwr = s.pwr ∧
    (s.setCmd f a i g).thm = s.thm ∧ (s.setCmd f a i g).boot = s.boot ∧ (s.setCmd f a i g).ldg = s.ldg ∧ (s.setCmd f a i g).flt = s.flt ∧
    (s.setCmd f a i g).fwu = s.fwu ∧ (s.setCmd f a i g).con = s.con :=
  State.only_frd s (s.setCmd f a i g).frd
@[simp] theorem State.dropCmd_frame (f a i : Nat) :
    (s.dropCmd f a i).part = s.part ∧ (s.dropCmd f a i).clock = s.clock ∧ (s.dropCmd f a i).free = s.free ∧
    (s.dropCmd f a i).pending = s.pending ∧ (s.dropCmd f a i).waited = s.waited ∧ (s.dropCmd f a i).regs = s.regs ∧
    (s.dropCmd f a i).mem = s.mem ∧ (s.dropCmd f a i).thl = s.thl ∧ (s.dropCmd f a i).msc = s.msc ∧ (s.dropCmd f a i).pil = s.pil ∧
    (s.dropCmd f a i).pnw = s.pnw ∧ (s.dropCmd f a i).hpt = s.hpt ∧ (s.dropCmd f a i).rng = s.rng ∧ (s.dropCmd f a i).ses = s.ses ∧
    (s.dropCmd f a i).sor = s.sor ∧ (s.dropCmd f a i).fab = s.fab ∧ (s.dropCmd f a i).sec = s.sec ∧ (s.dropCmd f a i).pwr = s.pwr ∧
    (s.dropCmd f a i).thm = s.thm ∧ (s.dropCmd f a i).boot = s.boot ∧ (s.dropCmd f a i).ldg = s.ldg ∧ (s.dropCmd f a i).flt = s.flt ∧
    (s.dropCmd f a i).fwu = s.fwu ∧ (s.dropCmd f a i).con = s.con :=
  State.only_frd s (s.dropCmd f a i).frd
@[simp] theorem State.setZone_frame (z v : Nat) :
    (s.setZone z v).part = s.part ∧ (s.setZone z v).clock = s.clock ∧ (s.setZone z v).free = s.free ∧ (s.setZone z v).pending = s.pending ∧
    (s.setZone z v).waited = s.waited ∧ (s.setZone z v).mem = s.mem ∧ (s.setZone z v).frd = s.frd ∧ (s.setZone z v).thl = s.thl ∧
    (s.setZone z v).msc = s.msc ∧ (s.setZone z v).pil = s.pil ∧ (s.setZone z v).pnw = s.pnw ∧ (s.setZone z v).hpt = s.hpt ∧
    (s.setZone z v).rng = s.rng ∧ (s.setZone z v).ses = s.ses ∧ (s.setZone z v).sor = s.sor ∧ (s.setZone z v).fab = s.fab ∧
    (s.setZone z v).sec = s.sec ∧ (s.setZone z v).pwr = s.pwr ∧ (s.setZone z v).thm = s.thm ∧ (s.setZone z v).boot = s.boot ∧
    (s.setZone z v).ldg = s.ldg ∧ (s.setZone z v).flt = s.flt ∧ (s.setZone z v).fwu = s.fwu ∧ (s.setZone z v).con = s.con :=
  State.only_regs s (s.setZone z v).regs
@[simp] theorem State.setPhys_frame (i set : Nat) :
    (s.setPhys i set).part = s.part ∧ (s.setPhys i set).clock = s.clock ∧ (s.setPhys i set).free = s.free ∧
    (s.setPhys i set).pending = s.pending ∧ (s.setPhys i set).waited = s.waited ∧ (s.setPhys i set).mem = s.mem ∧ (s.setPhys i set).frd = s.frd ∧
    (s.setPhys i set).thl = s.thl ∧ (s.setPhys i set).msc = s.msc ∧ (s.setPhys i set).pil = s.pil ∧ (s.setPhys i set).pnw = s.pnw ∧
    (s.setPhys i set).hpt = s.hpt ∧ (s.setPhys i set).rng = s.rng ∧ (s.setPhys i set).ses = s.ses ∧ (s.setPhys i set).sor = s.sor ∧
    (s.setPhys i set).fab = s.fab ∧ (s.setPhys i set).sec = s.sec ∧ (s.setPhys i set).pwr = s.pwr ∧ (s.setPhys i set).thm = s.thm ∧
    (s.setPhys i set).boot = s.boot ∧ (s.setPhys i set).ldg = s.ldg ∧ (s.setPhys i set).flt = s.flt ∧ (s.setPhys i set).fwu = s.fwu ∧
    (s.setPhys i set).con = s.con :=
  State.only_regs s (s.setPhys i set).regs
@[simp] theorem State.setTdi_frame (v : Nat) :
    (s.setTdi v).mem = s.mem ∧ (s.setTdi v).frd = s.frd ∧ (s.setTdi v).rng = s.rng ∧ (s.setTdi v).ses = s.ses ∧ (s.setTdi v).sor = s.sor ∧
    (s.setTdi v).fab = s.fab ∧ (s.setTdi v).sec = s.sec ∧ (s.setTdi v).hpt = s.hpt ∧ (s.setTdi v).ldg = s.ldg ∧ (s.setTdi v).flt = s.flt := by
  unfold State.setTdi State.rset
  simp
@[simp] theorem State.setWaited_frame :
    s.setWaited.regs = s.regs ∧ s.setWaited.mem = s.mem ∧ s.setWaited.frd = s.frd ∧ s.setWaited.msc = s.msc ∧ s.setWaited.rng = s.rng ∧
    s.setWaited.ses = s.ses ∧ s.setWaited.sor = s.sor ∧ s.setWaited.fab = s.fab ∧ s.setWaited.flt = s.flt := by
  and_intros <;> rfl
@[simp] theorem State.keepFills_frame (t : State) :
    (s.keepFills t).waited = s.waited ∧ (s.keepFills t).regs = s.regs ∧ (s.keepFills t).mem = s.mem ∧ (s.keepFills t).frd = s.frd ∧
    (s.keepFills t).rng = s.rng ∧ (s.keepFills t).ses = s.ses ∧ (s.keepFills t).sor = s.sor ∧ (s.keepFills t).fab = s.fab ∧ (s.keepFills t).flt = s.flt := by
  and_intros <;> rfl

/-! ### A read of what was written -/

@[simp] theorem State.arr_setArr_same (f a : Nat) (v : Arr) : (s.setArr f a v).arr f a = v := spGet_spPut_same _ _ _ _
@[simp] theorem State.fr_setFr_same (f : Nat) (v : Frond) : (s.setFr f v).fr f = v := spGet_spPut_same _ _ _ _
@[simp] theorem State.dma_setDma_same (f c : Nat) (v : Dma) : (s.setDma f c v).dma f c = v := spGet_spPut_same _ _ _ _
@[simp] theorem State.krn_setKrn_same (f k : Nat) (v : Option Kernel) : (s.setKrn f k v).krn f k = v := spGet_spPut_same _ _ _ _
@[simp] theorem State.grp_setGrp_same (f g : Nat) (v : Group) : (s.setGrp f g v).grp f g = v := spGet_spPut_same _ _ _ _
@[simp] theorem State.thr_setThr_same (f g t : Nat) (v : Thread) : (s.setThr f g t v).thr f g t = v := spGet_spPut_same _ _ _ _
@[simp] theorem State.pred_setPred_same (f g t v : Nat) : (s.setPred f g t v).pred f g t = v := spGet_spPut_same _ _ _ _
@[simp] theorem State.ring_setRing_same (r : Nat) (v : Ring) : (s.setRing r v).ring r = v := spGet_spPut_same _ _ _ _
@[simp] theorem State.step__setStep_same (h : Nat) (v : Option StepRec) : (s.setStep h v).step_ h = v := spGet_spPut_same _ _ _ _
@[simp] theorem State.slot_setSlot_same (x : Nat) (v : Slot) : (s.setSlot x v).slot x = v := spGet_spPut_same _ _ _ _
@[simp] theorem State.pool_setPool_same (k : Nat) (v : Pool) : (s.setPool k v).pool k = v := spGet_spPut_same _ _ _ _
@[simp] theorem State.sorus_setSorus_same (n : Nat) (v : Sorus) : (s.setSorus n v).sorus n = v := spGet_spPut_same _ _ _ _
@[simp] theorem State.link_setLink_same (l : Nat) (v : Link) : (s.setLink l v).link l = v := spGet_spPut_same _ _ _ _
@[simp] theorem State.way_setWay_same (sl set way : Nat) (v : CLine) : (s.setWay sl set way v).way sl set way = v := spGet_spPut_same _ _ _ _
@[simp] theorem State.bgMode_setMode_same (tq b v : Nat) : (s.setMode tq b v).bgMode tq b = v := spGet_spPut_same _ _ _ _
@[simp] theorem State.pendOf_setPend_same (tq b v : Nat) : (s.setPend tq b v).pendOf tq b = v := spGet_spPut_same _ _ _ _
@[simp] theorem State.laser_setLaser_same (e n v : Nat) : (s.setLaser e n v).laser e n = v := spGet_spPut_same _ _ _ _
@[simp] theorem State.slotImg_setSlotImg_same (bank c : Nat) (v : Option FwImage) : (s.setSlotImg bank c v).slotImg bank c = v := spGet_spPut_same _ _ _ _
@[simp] theorem State.tenantKey_setTenantKey_same (t : Nat) (v : Option (List Byte)) : (s.setTenantKey t v).tenantKey t = v := spGet_spPut_same _ _ _ _
@[simp] theorem State.volt_setVolt_same (f v : Nat) : (s.setVolt f v).volt f = v := spGet_spPut_same _ _ _ _
@[simp] theorem State.clkUp_setClkUp_same (f : Nat) (v : Option (Nat × Nat)) : (s.setClkUp f v).clkUp f = v := spGet_spPut_same _ _ _ _
@[simp] theorem State.queue_setQueue_same (link : Nat) (l : List QEntry) : (s.setQueue link l).queue link = l := spGet_spPut_same _ _ _ _

/-! ### A read of another piece -/

theorem State.fr_setFr_ne (f : Nat) (v : Frond) (k : Nat) (h : k ≠ f) : (s.setFr f v).fr k = s.fr k := spGet_spPut_ne _ _ _ h
theorem State.ring_setRing_ne (r : Nat) (v : Ring) (k : Nat) (h : k ≠ r) : (s.setRing r v).ring k = s.ring k := spGet_spPut_ne _ _ _ h
theorem State.slot_setSlot_ne (x : Nat) (v : Slot) (k : Nat) (h : k ≠ x) : (s.setSlot x v).slot k = s.slot k := spGet_spPut_ne _ _ _ h
theorem State.pool_setPool_ne (n : Nat) (v : Pool) (k : Nat) (h : k ≠ n) : (s.setPool n v).pool k = s.pool k := spGet_spPut_ne _ _ _ h
theorem State.sorus_setSorus_ne (n : Nat) (v : Sorus) (k : Nat) (h : k ≠ n) : (s.setSorus n v).sorus k = s.sorus k := spGet_spPut_ne _ _ _ h
theorem State.link_setLink_ne (l : Nat) (v : Link) (k : Nat) (h : k ≠ l) : (s.setLink l v).link k = s.link k := spGet_spPut_ne _ _ _ h
theorem State.step__setStep_ne (n : Nat) (v : Option StepRec) (k : Nat) (h : k ≠ n) : (s.setStep n v).step_ k = s.step_ k := spGet_spPut_ne _ _ _ h
theorem State.tenantKey_setTenantKey_ne (t : Nat) (v : Option (List Byte)) (k : Nat) (h : k ≠ t) : (s.setTenantKey t v).tenantKey k = s.tenantKey k := spGet_spPut_ne _ _ _ h
theorem State.arr_setArr_ne (f a : Nat) (v : Arr) (k j : Nat) (h : k * 8 + j ≠ f * 8 + a) : (s.setArr f a v).arr k j = s.arr k j := spGet_spPut_ne _ _ _ h
theorem State.dma_setDma_ne (f c : Nat) (v : Dma) (k j : Nat) (h : k * 16 + j ≠ f * 16 + c) : (s.setDma f c v).dma k j = s.dma k j := spGet_spPut_ne _ _ _ h
theorem State.krn_setKrn_ne (f n : Nat) (v : Option Kernel) (k j : Nat) (h : k * 8 + j ≠ f * 8 + n) : (s.setKrn f n v).krn k j = s.krn k j := spGet_spPut_ne _ _ _ h
theorem State.grp_setGrp_ne (f g : Nat) (v : Group) (k j : Nat) (h : k * 64 + j ≠ f * 64 + g) : (s.setGrp f g v).grp k j = s.grp k j := spGet_spPut_ne _ _ _ h
theorem State.thr_setThr_ne (f g t : Nat) (v : Thread) (k j i : Nat) (h : thrKey k j i ≠ thrKey f g t) : (s.setThr f g t v).thr k j i = s.thr k j i := spGet_spPut_ne _ _ _ h
theorem State.way_setWay_ne (sl set w : Nat) (v : CLine) (k j i : Nat) (h : wayKey k j i ≠ wayKey sl set w) : (s.setWay sl set w v).way k j i = s.way k j i := spGet_spPut_ne _ _ _ h

end Sys2Proof.Machine
end

