-- ==== Sys2Proof/Laws/Rings.lean ====
section
/-!
SUPPORT. What completing a descriptor does, and what it leaves as it was.
-/

namespace Sys2Proof.Machine

variable (s : State)

/-- A channel that a ring's copy halted goes on: only registers and Fronds change (R130). -/
theorem State.dmaResume_shape (r i : Nat) : ∃ w x, s.dmaResume r i = { s with regs := w, frd := x } := by
  unfold State.dmaResume
  refine List.foldlRecOn (motive := fun t : State => ∃ w x, t = { s with regs := w, frd := x }) _ _ ⟨s.regs, s.frd, rfl⟩ fun u hu f _ => ?_
  refine List.foldlRecOn (motive := fun t : State => ∃ w x, t = { s with regs := w, frd := x }) _ _ hu fun v hv c _ => ?_
  obtain ⟨w, x, rfl⟩ := hv
  split
  · split
    · exact ⟨_, _, rfl⟩
    · exact ⟨_, _, rfl⟩
  · exact ⟨_, _, rfl⟩

/-- Completing a descriptor changes its ring and the ring's two counters, and lets a channel halted for it go on where its completion is
discarded; nothing else. -/
@[simp] theorem State.complete_frame (r i status reason result : Nat) :
    (s.complete r i status reason result).part = s.part ∧ (s.complete r i status reason result).clock = s.clock ∧
    (s.complete r i status reason result).free = s.free ∧ (s.complete r i status reason result).pending = s.pending ∧
    (s.complete r i status reason result).waited = s.waited ∧
    (s.complete r i status reason result).mem = s.mem ∧
    (s.complete r i status reason result).thl = s.thl ∧ (s.complete r i status reason result).msc = s.msc ∧
    (s.complete r i status reason result).pil = s.pil ∧ (s.complete r i status reason result).pnw = s.pnw ∧
    (s.complete r i status reason result).hpt = s.hpt ∧ (s.complete r i status reason result).ses = s.ses ∧
    (s.complete r i status reason result).sor = s.sor ∧ (s.complete r i status reason result).fab = s.fab ∧
    (s.complete r i status reason result).sec = s.sec ∧ (s.complete r i status reason result).pwr = s.pwr ∧
    (s.complete r i status reason result).thm = s.thm ∧ (s.complete r i status reason result).boot = s.boot ∧
    (s.complete r i status reason result).ldg = s.ldg ∧ (s.complete r i status reason result).flt = s.flt ∧
    (s.complete r i status reason result).fwu = s.fwu ∧ (s.complete r i status reason result).con = s.con := by
  unfold State.complete
  split
  · simp only [and_self]
  · dsimp only
    split
    · obtain ⟨w, x, e⟩ := State.dmaResume_shape (s.modRing r _) r i
      rw [e]
      and_intros <;> rfl
    · split <;> simp only [State.radd_frame, State.modRing_frame, and_self]

/-- A completion that is not discarded leaves the Fronds as they are. -/
theorem State.complete_frd {r i : Nat} (h : i ∉ (s.ring r).discard) (status reason result : Nat) :
    (s.complete r i status reason result).frd = s.frd := by
  have hc : (s.ring r).discard.contains i = false := by simpa using h
  unfold State.complete
  split
  · rfl
  · simp only [hc, Bool.false_eq_true, if_false]
    split <;> simp only [State.radd_frame, State.modRing_frame]

@[simp] theorem State.markRan_frame (r i : Nat) :
    (s.markRan r i).part = s.part ∧ (s.markRan r i).clock = s.clock ∧ (s.markRan r i).free = s.free ∧ (s.markRan r i).pending = s.pending ∧ (s.markRan r i).waited = s.waited ∧
    (s.markRan r i).regs = s.regs ∧ (s.markRan r i).mem = s.mem ∧ (s.markRan r i).frd = s.frd ∧ (s.markRan r i).thl = s.thl ∧
    (s.markRan r i).msc = s.msc ∧ (s.markRan r i).pil = s.pil ∧ (s.markRan r i).pnw = s.pnw ∧ (s.markRan r i).hpt = s.hpt ∧
    (s.markRan r i).ses = s.ses ∧ (s.markRan r i).sor = s.sor ∧ (s.markRan r i).fab = s.fab ∧ (s.markRan r i).sec = s.sec ∧
    (s.markRan r i).pwr = s.pwr ∧ (s.markRan r i).thm = s.thm ∧ (s.markRan r i).boot = s.boot ∧ (s.markRan r i).ldg = s.ldg ∧
    (s.markRan r i).flt = s.flt ∧ (s.markRan r i).fwu = s.fwu ∧ (s.markRan r i).con = s.con := by
  unfold State.markRan
  simp only [State.modRing_frame, and_self]

/-- A started descriptor that completes leaves the started ones and, unless it is discarded, its completion waits last in line. -/
theorem State.complete_completes {r i : Nat} {st : Started} (h : (s.ring r).find i = some st) (status reason result : Nat) :
    s.Completes (s.complete r i status reason result) r i status reason result := by
  refine ⟨st, h, fun hd => ?_⟩
  have hc : (s.ring r).discard.contains i = false := by simpa using hd
  have key : ∀ t : State, t.rng = (s.complete r i status reason result).rng → t.ring r = (s.complete r i status reason result).ring r :=
    fun t e => by simp only [State.ring, e]
  have hr : (s.complete r i status reason result).ring r =
      { (s.ring r) with
        started := (s.ring r).started.filter (fun x => x.idx != i)
        done := (s.ring r).done ++ [⟨i, st.d.f 0 63 32, status, if st.d.cls = 1 && st.d.op = 0 then st.d.f 1 63 48 else 0, reason, result,
          st.d.f 0 17 17 == 1, st.d.f 0 16 16 == 1⟩]
        discard := (s.ring r).discard.filter (· != i) } := by
    unfold State.complete
    rw [h]
    simp only [hc, Bool.false_eq_true, if_false]
    split <;> simp [State.ring, State.modRing, State.setRing]
  rw [hr]
  refine ⟨?_, rfl⟩
  simp only [Ring.find, List.find?_filter, List.find?_eq_none]
  intro x _
  simp

end Sys2Proof.Machine
end

