-- ==== Sys2Proof/Laws/Rows.lean ====
section
/-!
SUPPORT. The register tables: in every row the fields lie in the slot and share no bit.
-/

namespace Sys2Proof.Machine

/-- A row's fields lie in 64 bits and no two of them share one. -/
def rowOk (r : RRow) : Bool :=
  r.fields.all (fun f => decide (f.lo ≤ f.hi) && decide (f.hi < 64)) &&
    (List.range r.fields.length).all (fun i => (List.range r.fields.length).all (fun j => i == j ||
      (match r.fields[i]?, r.fields[j]? with
       | some a, some b => decide (a.hi < b.lo) || decide (b.hi < a.lo)
       | _, _ => true)))

theorem rows_ok : (rowsHub ++ rowsThl ++ rowsMsc ++ rowsPil ++ rowsPnw ++ rowsHpt ++ rowsSes ++ rowsSor ++ rowsFab ++ rowsSec ++ rowsPwr ++
    rowsThm ++ rowsBoot ++ rowsLdg ++ rowsFlt ++ rowsFwu ++ rowsFrd ++ rowsTwr ++ rowsRng).all rowOk = true := by decide +kernel

end Sys2Proof.Machine
end

