-- ==== Sys2Proof/Tests/States.lean ====
section
/-!
SUPPORT. Lemmas by which the tests read off what a function answers, and the small states they start from.
-/

namespace Sys2Proof.Tests

set_option Elab.async false
set_option linter.unusedVariables false

open Sys2Proof Sys2Proof.Machine

theorem ok_by {ε α : Type} [DecidableEq α] {x : Except ε α} {b : α}
    (h : (match x with | .ok c => decide (c = b) | .error _ => false) = true) : x = .ok b := by
  cases x with
  | ok c => simpa using h
  | error e => simp at h
theorem pair_eq {α β : Type} {x : α × β} {b : β} (h : x.2 = b) : x = (x.1, b) := by rw [← h]
theorem not_ls {pa : Nat} (h : (match physClass pa with | .lstore .. => false | _ => true) = true) (i o w : Nat) : physClass pa ≠ .lstore i o (w + 1) := by
  intro e; rw [e] at h; simp at h
theorem not_host {pa : Nat} (h : (match physClass pa with | .host _ => false | _ => true) = true) (a : Nat) : physClass pa ≠ .host a := by
  intro e; rw [e] at h; simp at h
/-- What a read that succeeds answers. -/
def got {ε α : Type} (x : Except ε α) (d : α) : α :=
  match x with
  | .ok b => b
  | .error _ => d

/-! ## Small states -/

/-- Page tables in the Thallus window: address space 0 of tenant 0 maps virtual addresses 0 to 2 MiB to read and write, the next
2 MiB to execute, and the four after them to the local store of Frond 0, to DRAM, to the bit-set window of Frond 0 and to host memory. -/
def tables : List Host.Cell :=
  memPutN (memPutN (memPutN (memPutN (memPutN (memPutN (memPutN (memPutN (memPutN [] 0 (leBytes 8 0x80000001001)) 0x1000 (leBytes 8 0x80000002003)) 0x2000
    (leBytes 8 0x80000003003)) 0x3000 (leBytes 8 0x8000020000D)) 0x3008 (leBytes 8 0x80000400015)) 0x3010 (leBytes 8 0xC000000000D)) 0x3018
    (leBytes 8 0xD)) 0x3020 (leBytes 8 0xE000000000D)) 0x3028 (leBytes 8 0x4000000000D)

/-- The module at Noon with every tower up, the host link trained and translation on in Fronds 0 and 1. -/
def noon : State :=
  let s := (List.range 4).foldl (fun (s : State) t => s.rset (Fd.TWR_STAT_STATE t) 4) State.reset
  let s := [(Fd.BOOT_STAT_STAGE, 6), (Fd.BOOT_STAT_AT_NOON, 1), (Fd.HPT_LINK_STAT_UP, 1), (Fd.FRD_ASPACE_BASE_EN 0, 1), (Fd.FRD_ASPACE_BASE_BASE 0, 0x8000000),
    (Fd.FRD_ASPACE_BASE_EN 1, 1), (Fd.FRD_ASPACE_BASE_BASE 1, 0x8000000), (Fd.PWR_IN_STAT_STATE 0, 3), (Fd.PWR_IN_STAT_STATE 1, 2),
    (Fd.SES_STAT_ENGINE_UP, 1), (Fd.SEC_STAT_ENGINE_UP, 1), (Fd.PWR_IN_STAT_PHYS 1, 1), (Fd.HUB_CONN_STAT_PRES0, 1), (Fd.HUB_CONN_STAT_PRES1, 2),
    (Fd.THM_COOL_FLOW_OK, 1)].foldl
      (fun (s : State) p => s.rset p.1 p.2) s
  { s with mem := { s.mem with thl := tables }, clock := 100000000, hpt := { s.hpt with ready := true, perst := false, sbLost := false } }

/-- A kernel of tenant 0 in address space 0, with group slot 0. -/
def kern : Kernel := ⟨⟨0#64, 0#64, 0#64, 0#64, .ring 0 0, 0⟩, [0], none⟩

/-- `noon` with that kernel in slot 0 of Frond 0, and the sequencers of Frond 0 running. -/
def busy : State :=
  let s := noon.setKrn 0 0 (some kern)
  let s := s.modFr 0 (fun q => { q with dmaSeqUp := true })
  s.modArr 0 0 (fun q => { q with seqUp := true, owner := some 0 })

/-- `busy` with two threads of the kernel live in group 0, at 0x200000. -/
def run2 : State :=
  let s := busy.setGrp 0 0 ⟨some 0, 0, []⟩
  let s := s.setThr 0 0 0 { Thread.init with live := true, pc := 0x200000 }
  s.setThr 0 0 1 { Thread.init with live := true, pc := 0x200000 }

theorem err_by {ε α : Type} [DecidableEq ε] {x : Except ε α} {e : ε}
    (h : (match x with | .ok _ => false | .error c => decide (c = e)) = true) : x = .error e := by
  cases x with
  | ok c => simp at h
  | error c => simpa using h

theorem some_eq {α β : Type} {x : Option (α × β)} {d : α × β} (h : x.isSome = true) : x = some ((x.getD d).1, (x.getD d).2) := by
  cases x with
  | some p => rfl
  | none => simp at h
theorem trip_eq {α β γ : Type} {x : α × β × γ} {c : γ} (h : x.2.2 = c) : x = (x.1, x.2.1, c) := by rw [← h]
theorem both {α β : Type} {x : α × β} : x = (x.1, x.2) := rfl

theorem ok_pair {ε α β : Type} {x : Except ε (α × β)} {d : α × β} (h : (match x with | .ok _ => true | .error _ => false) = true) :
    x = .ok ((got x d).1, (got x d).2) := by
  cases x with
  | ok p => rfl
  | error e => simp at h
/-- A read that succeeds: its state, and what it answers. -/
theorem both_eq {σ ε α : Type} {x : σ × Except ε α} {d : α} (h : (match x.2 with | .ok _ => true | .error _ => false) = true) : x = (x.1, .ok (got x.2 d)) := by
  obtain ⟨u, y⟩ := x
  cases y with
  | ok b => rfl
  | error e => simp at h
theorem took {α β : Type} {x : Option (α × β)} {d : α × β} {a : α} (h : x.isSome = true) (h2 : (x.getD d).1 = a) : x = some (a, (x.getD d).2) := by
  cases x with
  | some p => rw [← h2]; rfl
  | none => simp at h
theorem ok_trip {ε α β γ : Type} {x : Except ε (α × β × γ)} {d : α × β × γ} (h : (match x with | .ok _ => true | .error _ => false) = true) :
    x = .ok ((got x d).1, (got x d).2.1, (got x d).2.2) := by
  cases x with
  | ok p => rfl
  | error e => simp at h

theorem not_coll {w : Wait} {c : Nat} (h : w.isColl = false) (d sr x : Nat) (p : Bool) : w ≠ .coll c d sr x p := by
  intro e; rw [e] at h; cases h
/-- What holds of the two threads holds of every live one. -/
theorem two {l : List Nat} {P : Nat → Prop} (hl : l = [0, 1]) (h0 : P 0) (h1 : P 1) : ∀ h ∈ l, P h := by
  subst hl
  simp [h0, h1]

/-! ## Runs of several parts -/

/-- What the pick and the fetch of a group give: the state after them, the kernel's slot, the kernel, and the threads. -/
def issRun (s : State) (f g : Nat) : Option (State × Nat × Kernel × List Nat) :=
  match s.slotKernel f g, s.pick f g with
  | some (k, q), (s0, some (pc, ts)) =>
    let r := s0.fetch f g k q pc ts
    if q.abort = none && r.2 && !r.1.waited then some (r.1, k, q, ts) else none
  | _, _ => none
/-- The state in which the instruction of a group takes effect. -/
def issued (s : State) (f g : Nat) : State :=
  match issRun s f g with
  | some r => r.1
  | none => s
theorem iss {s u : State} {f g k : Nat} {q : Kernel} {ts : List Nat} (h : issRun s f g = some (u, k, q, ts)) : s.Issues f g u k q ts := by
  unfold issRun at h
  split at h
  · rename_i k' q' s0 pc ts' h1 h2
    simp only [Bool.and_eq_true, Bool.not_eq_true', decide_eq_true_eq] at h
    split at h
    · rename_i h3
      cases h
      exact ⟨s0, pc, h1, h3.1.1, h2, pair_eq h3.1.2, h3.2⟩
    · cases h
  · cases h

/-- The state after the vectors of a pass. -/
def streamRun (f a : Nat) (c : ArrCmd) (t : StatSet) (d : Tensor) : Nat → Nat → State → State × Bool
  | 0, _, s => (s, true)
  | n + 1, m, s =>
    match s.readVec f (s.kspace f c.kslot).1 (s.kspace f c.kslot).2 d (fld c.w2 31 0 + m) (fld c.w2 63 32) (if fld c.w0 9 9 = 1 then 128 else t.depth) with
    | (s1, .ok v) =>
      if fld c.w0 8 8 = 1 → (s1.arr f a).badCol (fld c.w3 25 16 + m) = none then
        streamRun f a c t d n (m + 1) ((if fld c.w0 8 8 = 1 then s1.accCount f a (fld c.w3 25 16 + m) 128 else s1).accEntry f a (fld c.w3 25 16 + m) t d.fmt v
          (fld c.w0 9 9 == 1) (fld c.w0 8 8 == 1))
      else (s, false)
    | _ => (s, false)
theorem streams {f a : Nat} {c : ArrCmd} {t : StatSet} {d : Tensor} (n : Nat) : ∀ {m : Nat} {s : State}, (streamRun f a c t d n m s).2 = true →
    s.Streams f a c t d n m (streamRun f a c t d n m s).1 := by
  induction n with
  | zero => intros; rfl
  | succ n ih =>
    intro m s h
    unfold streamRun at h ⊢
    unfold State.Streams
    split at h
    · rename_i s1 v e
      split at h
      · rename_i h1
        simp only [e]
        exact ⟨s1, v, rfl, h1, by rw [if_pos h1]; exact ih h⟩
      · simp at h
    · simp at h

/-- The state after the rows of a drain. -/
def drainRun (f a : Nat) (c : ArrCmd) (d : Tensor) (bias : List W32) : Nat → Nat → List Nat → State → State × Bool
  | 0, _, _, s => (s, true)
  | n + 1, m, lanes, s =>
    let sp := s.kspace f c.kslot
    let s1 := s.accCount f a (fld c.w0 39 30 + m) 128
    let ys := (List.range (fld c.w0 47 40 + 1)).map (fun j =>
      f32 (fFma ((s1.arr f a).accGet (fld c.w0 39 30 + m) j) (BitVec.ofNat 32 (fld c.w2 31 0)) (bias.getD j 0#32)))
    let row := drainRow d.fmt (fld c.w0 14 14 == 1) (fld c.w0 13 13 == 1) ys lanes
    let r := s1.vwrite (some f) 1 sp.1 sp.2 (d.base + m / d.size1 * d.stride2 + m % d.size1 * d.stride1) (packCodes d.fmt row.codes)
    if (s.arr f a).badCol (fld c.w0 39 30 + m) = none && r.2.isNone && row.scales.isEmpty then drainRun f a c d bias n (m + 1) row.lanes r.1
    else (s, false)
theorem drains {f a : Nat} {c : ArrCmd} {d : Tensor} {bias : List W32} {u : State} (n : Nat) : ∀ {m : Nat} {lanes : List Nat} {s : State},
    drainRun f a c d bias n m lanes s = (u, true) → s.Drains f a c d bias n m lanes u := by
  induction n with
  | zero => intro m lanes s h; unfold drainRun at h; cases h; rfl
  | succ n ih =>
    intro m lanes s h
    unfold drainRun at h
    unfold State.Drains
    dsimp only at h ⊢
    split at h
    · rename_i h1
      simp only [Bool.and_eq_true, decide_eq_true_eq, Option.isNone_iff_eq_none] at h1
      exact ⟨h1.1.1, _, _, pair_eq h1.1.2, by rw [if_pos h1.2], ih h⟩
    · simp at h

/-- The state after an operation on each of a list of pieces. -/
def unitsRun {α ε : Type} (op : State → α → State × Option ε) (s : State) : List α → State × Bool
  | [] => (s, true)
  | x :: l => let r := op s x; if r.2.isNone then unitsRun op r.1 l else (s, false)
theorem units {α ε : Type} {op : State → α → State × Option ε} {u : State} (l : List α) : ∀ {s : State}, unitsRun op s l = (u, true) →
    EachUnit op s l u := by
  induction l with
  | nil => intro s h; unfold unitsRun at h; cases h; rfl
  | cons x l ih =>
    intro s h
    unfold unitsRun at h
    unfold EachUnit
    dsimp only at h
    split at h
    · rename_i h1
      exact ⟨_, pair_eq (Option.isNone_iff_eq_none.mp h1), ih h⟩
    · simp at h

theorem units_run {α ε : Type} {op : State → α → State × Option ε} {s : State} {l : List α} (h : (unitsRun op s l).2 = true) :
    EachUnit op s l (unitsRun op s l).1 := units l (pair_eq h)

/-- A message that has left the receive buffer of a link, and the state then. -/
def rxRun (s : State) (l op : Nat) : Msg × State := (s.takeRx l op).getD (⟨0, 0, 0, 0, false, 0, 0, 0, 0, 0, 0, 0, []⟩, s)
def rxed (s : State) (l op : Nat) : State := (rxRun s l op).2
theorem rxd {s : State} {l op : Nat} {m : Msg} (h : ((s.takeRx l op).any fun r => decide (r.1 = m)) = true) : s.takeRx l op = some (m, rxed s l op) := by
  unfold rxed rxRun
  cases e : s.takeRx l op with
  | none => rw [e] at h; simp at h
  | some r => rw [e] at h; simp at h; rw [← h]; rfl
theorem rxd_as {s : State} {l op : Nat} {m : Msg} (h : (s.takeRx l op).isSome = true) (h2 : (rxRun s l op).1 = m) : s.takeRx l op = some (m, rxed s l op) := by
  rw [← h2]
  unfold rxed rxRun
  cases e : s.takeRx l op with
  | none => rw [e] at h; simp at h
  | some r => rfl
/-- The state once a message for this module has been taken. -/
def taken (s : State) (l op : Nat) : State := ((rxed s l op).arrive_ l (rxRun s l op).1).1
theorem takes {s : State} {l op : Nat} {m : Msg} (h : ((s.takeRx l op).any fun r => decide (r.1 = m) && (r.2.arrive_ l m).2) = true) :
    s.Takes l op m (taken s l op) := by
  unfold taken rxed rxRun
  cases e : s.takeRx l op with
  | none => rw [e] at h; simp at h
  | some r =>
    rw [e] at h
    obtain ⟨m', u0⟩ := r
    simp at h
    obtain ⟨rfl, h2⟩ := h
    exact ⟨u0, e, pair_eq h2⟩

/-- What holds of the value of an option, or where it has none. -/
theorem opt_all {α : Type} {o : Option α} {P : α → Prop} [DecidablePred P] (h : (o.all fun c => decide (P c)) = true) : ∀ c, o = some c → P c := by
  intro c e
  rw [e] at h
  simpa using h

end Sys2Proof.Tests
end

