-- ==== Sys2Proof/Tests/WitnessCompute.lean ====
section
/-!
SUPPORT. For every statement about the matrix arrays, Fronds, threads and kernels: states and operands that meet its hypotheses, clause by clause.
-/

namespace Sys2Proof.Tests

set_option Elab.async false
set_option linter.unusedVariables false

open Sys2Proof Sys2Proof.Machine

/-! ## Arrays -/

/-- `busy` with a tensor descriptor of one row of 128 E4M3 elements at virtual address 0x400, its data at 0x1000. -/
def arrMem (s : State) (fmt : Nat) : State :=
  let ws := [fmt * 2 ^ 59 + 0x1000, 0, 0, 2 ^ 32 + 128, 1, 2 ^ 32 * 512 + 512, 0, 0]
  { s with mem := { s.mem with thl := memPutN (memPutN s.mem.thl 0x200400 (ws.flatMap (leBytes 8))) 0x201000 (leBytes 4 0x38393A3B) } }
/-- One command in the queue of array 0 of Frond 0. -/
def arrCmd (s : State) (c : ArrCmd) : State := s.modArr 0 0 (fun q => { q with queue := [c] })

def cbCmd : ArrCmd := ⟨0x301#64, 0x400000#64, 0#64, 0#64, 0, 0, []⟩
def sCb : State := arrCmd (arrMem busy 3) cbCmd
def sCbRun : State := arrCmd busy { cbCmd with phase := 2 }
def ldCmd : ArrCmd := ⟨2#64, 0x400#64, 0#64, 0#64, 0, 0, []⟩
def sLd : State := arrCmd (arrMem busy 3) ldCmd
def sLdRun : State := arrCmd busy { ldCmd with phase := 2 }
def tens (fmt : Nat) : Tensor := ⟨[fmt * 2 ^ 59 + 0x1000, 0, 0, 2 ^ 32 + 128, 1, 2 ^ 32 * 512 + 512, 0, 0]⟩
def oneSet : StatSet := { StatSet.zero with fmt := 3, cells := [(0, 0x38), (129, 0x38)] }
def passCmd : ArrCmd := ⟨3#64, 0x400#64, 0#64, 1#64, 0, 0, []⟩
def sPass : State := (arrCmd (arrMem busy 3) passCmd).modArr 0 0 (fun q => { q with active := some oneSet })
def swapCmd : ArrCmd := ⟨0x403#64, 0x400#64, 0#64, 1#64, 0, 0, []⟩
def sSwap : State := (arrCmd (arrMem busy 3) swapCmd).modArr 0 0 (fun q => { q with shadow := some oneSet })
/-- The same pass after it was found to wait: it keeps its descriptor. -/
def heldCmd : ArrCmd := { swapCmd with phase := 1, desc := (tens 3).w }
def sSwapHeld : State := (arrCmd (arrMem busy 3) heldCmd).modArr 0 0 (fun q => { q with shadow := some oneSet, shadowDone := true })
/-- The state in which the first vector of a pass is read. -/
def passFrom (s : State) (i : Nat) (c : ArrCmd) (stall : Nat) : State :=
  let s1 := s.entryStall 0 0 c stall
  let s2 := if fld c.w0 10 10 = 1 then s1.modArr 0 0 (fun q => { q with active := q.shadow, shadow := none, shadowDone := false }) else s1
  s2.setCmd 0 0 i (fun x => { x with phase := 2 })
def sPassOut : State := (streamRun 0 0 passCmd oneSet (tens 3) (fld passCmd.w3 15 0) 0
  (passFrom (sPass.readTensor 0 (sPass.kspace 0 passCmd.kslot).1 (sPass.kspace 0 passCmd.kslot).2 (fld passCmd.w1 47 0)).1 0 passCmd 5)).1
def sSwapOut : State := (streamRun 0 0 heldCmd oneSet ⟨heldCmd.desc⟩ (fld heldCmd.w3 15 0) 0
  (passFrom (sSwapHeld.radd (Fd.FRD_ARR_STAT_SWAP_STALL 0 0) 7) 0 heldCmd 5)).1
def drainCmd : ArrCmd := ⟨4#64, 0x400#64, 0x3F800000#64, 0#64, 0, 0, []⟩
def sDrain : State := (arrCmd (arrMem busy 0) drainCmd).modArr 0 0 (fun q => { q with acc := [(0, 0x40400000#32)] })
/-- A drain stalled on its writes. -/
def stallCmd : ArrCmd := { drainCmd with phase := 3, desc := (tens 0).w }
def sDrainStall : State := (arrCmd (arrMem busy 0) stallCmd).modArr 0 0 (fun q => { q with acc := [(0, 0x40400000#32)] })
/-- The bias read of a drain from `s`, and the state after its rows. -/
def biasFrom (s : State) (sp : Nat × Nat) (c : ArrCmd) : State × Except VErr (List Byte) :=
  if fld c.w0 15 15 = 1 then s.vread (some 0) 1 sp.1 sp.2 (fld c.w3 47 0) ((fld c.w0 47 40 + 1) * (if fld c.w0 17 16 = 0 then 4 else 2)) else (s, .ok [])
def drainOut (s : State) (c : ArrCmd) (d : Tensor) : State :=
  (drainRun 0 0 c d (if fld c.w0 15 15 = 1 then biasVals (fld c.w0 17 16) [] (fld c.w0 47 40 + 1) else List.replicate (fld c.w0 47 40 + 1) 0#32)
    (fld c.w0 29 20 + 1) 0 ((List.range (fld c.w0 47 40 + 1)).map (laneSeed (fld c.w2 63 32))) s).1
def sDrainOut : State :=
  drainOut (biasFrom (sDrain.readTensor 0 (sDrain.kspace 0 drainCmd.kslot).1 (sDrain.kspace 0 drainCmd.kslot).2 (fld drainCmd.w1 47 0)).1
    (sDrain.kspace 0 drainCmd.kslot) drainCmd).1 drainCmd (tens 0)
def sStallOut : State := drainOut (biasFrom sDrainStall (sDrainStall.kspace 0 stallCmd.kslot) stallCmd).1 stallCmd ⟨stallCmd.desc⟩
def sDrainRun : State := arrCmd busy { drainCmd with phase := 2 }
def sTest : State := busy.modArr 0 0 (fun q => { q with test := some 3 })

/-- A state and operands for each clause of Obligations.ArrayLoads. -/
theorem witness_ArrayLoads :
    (∃ (s : State) (f a i : Nat) (c : ArrCmd) (bytes : List Byte),
      let r := s.vread (some f) 1 (s.kspace f c.kslot).1 (s.kspace f c.kslot).2 (fld c.w1 47 0) (if fld c.w0 14 14 = 1 then 16384 else 1024);
      s.arrNext f a 1 = some (i, c) ∧ c.bad = false ∧ (fld c.w0 14 14 = 1 → fld c.w0 13 8 % 16 = 0) ∧
      cbClash (s.arr f a).queue 2 (cbSlots c) = false ∧ cbClash (s.arr f a).queue 1 (cbSlots c) = false ∧ r.2 = .ok bytes ∧ r.1.waited = false) ∧
    (∃ (s : State) (f a i : Nat), runningCmd (s.arr f a).queue 1 = some i) ∧
    (∃ (s : State) (f a i : Nat) (c : ArrCmd) (d : Tensor) (cols : List StatCol), let sp := s.kspace f c.kslot;
      let r := s.readTensor f sp.1 sp.2 (fld c.w1 47 0); let q := r.1.readCols f sp.1 sp.2 d c (depthOf (fld c.w0 9 8)); s.arrNext f a 2 = some (i,
      c) ∧ c.bad = false ∧ cbClash (s.arr f a).queue 1 (statSlots c) = false ∧ runningCmd (s.arr f a).queue 2 = none ∧ r.2 = .ok d ∧
      d.bad 0 = false ∧ (fmtIsVq d.fmt = true → ∀ n ∈ statSlots c, (r.1.arr f a).slot n = if fmtIsVq3 d.fmt then 2 else 1) ∧
      fmtStationary d.fmt = true ∧ (d.sparse = true → fmtSparse d.fmt = true) ∧ depthRow d.fmt d.sparse (depthOf (fld c.w0 9 8)) = true ∧
      q.2 = .ok cols ∧ (∀ x ∈ cols, x.badNib d.sparse = false ∧ x.badWord d.fmt (q.1.arr f a).fmemBad = none) ∧ q.1.waited = false) ∧
    (∃ (s : State) (f a i : Nat), runningCmd (s.arr f a).queue 2 = some i) ∧
    (∃ (d : Tensor) (depth : Nat) (fmem : Sp Byte) (cols : List StatCol) (r c g : Nat), r < 128 ∧ c < 128 ∧ g < 16) :=
  ⟨⟨sCb, 0, 0, 0, cbCmd, got (sCb.vread (some 0) 1 0 0 0x400000 1024).2 [],
    by dsimp only; refine ⟨?_, ?_, ?_, ?_, ?_, ok_by ?_, ?_⟩ <;> decide +kernel⟩,
   ⟨sCbRun, 0, 0, 0, by decide +kernel⟩,
   ⟨sLd, 0, 0, 0, ldCmd, tens 3, got ((sLd.readTensor 0 0 0 0x400).1.readCols 0 0 0 (tens 3) ldCmd 128).2 [],
    by dsimp only; refine ⟨?_, ?_, ?_, ?_, ok_by ?_, ?_, (by decide +kernel), ?_, ?_, ?_, ok_by ?_, ?_, ?_⟩ <;> decide +kernel⟩,
   ⟨sLdRun, 0, 0, 0, by decide +kernel⟩,
   ⟨tens 3, 128, [], [⟨128, List.replicate 128 0x38#8, [], [], 0⟩], 127, 127, 15, by decide +kernel⟩⟩

/-- A state and operands for each clause of Obligations.ArrayPasses. -/
theorem witness_ArrayPasses :
    (∃ (s : State) (f a i stall : Nat) (c : ArrCmd) (d : Tensor) (st : StatSet) (u : State),
      let r := s.readTensor f (s.kspace f c.kslot).1 (s.kspace f c.kslot).2 (fld c.w1 47 0); let s1 := r.1.entryStall f a c stall;
      let s2 := if fld c.w0 10 10 = 1 then s1.modArr f a (fun q => { q with active := q.shadow, shadow := none, shadowDone := false }) else s1;
      s.arrNext f a 3 = some (i, c) ∧ c.phase = 0 ∧ c.bad = false ∧ passRange c = false ∧ fld c.w1 47 0 % 64 = 0 ∧ r.2 = .ok d ∧
      (if fld c.w0 10 10 = 1 then (r.1.arr f a).shadow else (r.1.arr f a).active) = some st ∧ d.bad 1 = false ∧
      fld c.w2 31 0 + fld c.w3 15 0 ≤ d.vectors ∧ fmtStreamed d.fmt = true ∧ streamRow st d.fmt = true ∧ (fld c.w0 9 9 = 1 → transBad st = false) ∧
      (fld c.w0 10 10 = 1 → (r.1.arr f a).shadowDone = true) ∧ drainWaits (r.1.arr f a).queue c = false ∧
      (s2.setCmd f a i (fun x => { x with phase := 2 })).Streams f a c st d (fld c.w3 15 0) 0 u ∧ (u.finishCmd f a 3).waited = false) ∧
    (∃ (s : State) (f a i stall : Nat) (upset : Option Nat) (c : ArrCmd) (d : Tensor) (st : StatSet),
      let r := s.readTensor f (s.kspace f c.kslot).1 (s.kspace f c.kslot).2 (fld c.w1 47 0); s.arrNext f a 3 = some (i, c) ∧ c.phase = 0 ∧
      c.bad = false ∧ passRange c = false ∧ fld c.w1 47 0 % 64 = 0 ∧ r.2 = .ok d ∧ fld c.w0 10 10 = 1 ∧ (r.1.arr f a).shadow = some st ∧
      d.bad 1 = false ∧ fld c.w2 31 0 + fld c.w3 15 0 ≤ d.vectors ∧ fmtStreamed d.fmt = true ∧ streamRow st d.fmt = true ∧
      (fld c.w0 9 9 = 1 → transBad st = false) ∧ (r.1.arr f a).shadowDone = false ∧ r.1.waited = false) ∧
    (∃ (s : State) (f a i held stall : Nat) (c : ArrCmd) (st : StatSet) (u : State),
      let s1 := (s.radd (Fd.FRD_ARR_STAT_SWAP_STALL f a) held).entryStall f a c stall;
      let s2 := if fld c.w0 10 10 = 1 then s1.modArr f a (fun q => { q with active := q.shadow, shadow := none, shadowDone := false }) else s1;
      s.arrNext f a 3 = some (i, c) ∧ c.phase = 1 ∧ (s.arr f a).shadowDone = true ∧ drainWaits (s.arr f a).queue c = false ∧
      (s2.arr f a).active = some st ∧ (s2.setCmd f a i (fun x => { x with phase := 2 })).Streams f a c st ⟨c.desc⟩ (fld c.w3 15 0) 0 u ∧
      (u.finishCmd f a 3).waited = false) ∧
    (∃ (s : State) (f a i : Nat), runningCmd (s.arr f a).queue 3 = some i) ∧
    (∃ (s : State) (f a i stall x k : Nat) (c : ArrCmd) (d : Tensor) (st : StatSet) (q : Kernel),
      let r := s.readTensor f (s.kspace f c.kslot).1 (s.kspace f c.kslot).2 (fld c.w1 47 0); s.arrNext f a 3 = some (i, c) ∧ c.phase = 0 ∧
      c.bad = false ∧ passRange c = false ∧ fld c.w1 47 0 % 64 = 0 ∧ r.2 = .ok d ∧ fld c.w0 10 10 = 0 ∧ (r.1.arr f a).active = some st ∧
      d.bad 1 = false ∧ fld c.w2 31 0 + fld c.w3 15 0 ≤ d.vectors ∧ fmtStreamed d.fmt = true ∧ streamRow st d.fmt = true ∧ fld c.w0 9 9 = 0 ∧
      drainWaits (r.1.arr f a).queue c = false ∧ c.kslot = k ∧ r.1.krn f k = some q ∧ q.abort = none ∧ r.1.waited = false) :=
  ⟨⟨sPass, 0, 0, 0, 5, passCmd, tens 3, oneSet, sPassOut,
    by dsimp only; refine ⟨?_, ?_, ?_, ?_, ?_, ok_by ?_, (by decide +kernel), ?_, ?_, ?_, ?_, ?_, ?_, (by decide +kernel), streams _ ?_, ?_⟩ <;> decide +kernel⟩,
   ⟨sSwap, 0, 0, 0, 5, none, swapCmd, tens 3, oneSet,
    by dsimp only; refine ⟨?_, ?_, ?_, ?_, ?_, ok_by ?_, (by decide +kernel), ?_, ?_, ?_, ?_, ?_, ?_, (by decide +kernel), ?_⟩ <;> decide +kernel⟩,
   ⟨sSwapHeld, 0, 0, 0, 7, 5, heldCmd, oneSet, sSwapOut, by dsimp only; refine ⟨?_, ?_, ?_, ?_, ?_, streams _ ?_, ?_⟩ <;> decide +kernel⟩,
   ⟨arrCmd busy { passCmd with phase := 2 }, 0, 0, 0, by decide +kernel⟩,
   ⟨sPass, 0, 0, 0, 5, 1025, 0, passCmd, tens 3, oneSet, kern,
    by dsimp only; refine ⟨?_, ?_, ?_, ?_, ?_, ok_by ?_, (by decide +kernel), ?_, ?_, ?_, ?_, ?_, ?_, (by decide +kernel), ?_, ?_, ?_, ?_⟩ <;> decide +kernel⟩⟩

/-- A state and operands for each clause of Obligations.DrainAndTests. -/
theorem witness_DrainAndTests :
    (∃ (s u : State) (f a i : Nat) (c : ArrCmd) (d : Tensor) (b : List Byte), let sp := s.kspace f c.kslot;
      let r := s.readTensor f sp.1 sp.2 (fld c.w1 47 0); let n := fld c.w0 47 40 + 1;
      let w := if fld c.w0 15 15 = 1 then r.1.vread (some f) 1 sp.1 sp.2 (fld c.w3 47 0) (n * (if fld c.w0 17 16 = 0 then 4 else 2)) else (r.1, .ok []);
      s.arrNext f a 4 = some (i, c) ∧ stalledDrain (s.arr f a).queue = none ∧ c.bad = false ∧ fld c.w1 47 0 % 64 = 0 ∧
      fld c.w0 39 30 + fld c.w0 29 20 ≤ 1023 ∧ drainIn (s.arr f a).queue (blocksOf (fld c.w0 39 30) (fld c.w0 29 20 + 1)) (2 ≤ ·) = false ∧
      r.2 = .ok d ∧ d.bad 2 = false ∧ d.fmt = fld c.w0 12 8 ∧ n ≤ d.size0 ∧ fld c.w0 29 20 + 1 ≤ d.rows ∧ (fmtIsMx d.fmt = true → n % 32 = 0) ∧
      w.2 = .ok b ∧
      w.1.Drains f a c d (if fld c.w0 15 15 = 1 then biasVals (fld c.w0 17 16) b n else List.replicate n 0#32) (fld c.w0 29 20 + 1) 0 ((List.range n).map (laneSeed (fld c.w2 63 32))) u ∧
      u.waited = false) ∧
    (∃ (s u : State) (f a i : Nat) (c : ArrCmd) (b : List Byte), let sp := s.kspace f c.kslot; let n := fld c.w0 47 40 + 1;
      let w := if fld c.w0 15 15 = 1 then s.vread (some f) 1 sp.1 sp.2 (fld c.w3 47 0) (n * (if fld c.w0 17 16 = 0 then 4 else 2)) else (s, .ok []);
      s.arrReady f a = true ∧ stalledDrain (s.arr f a).queue = some (i, c) ∧ w.2 = .ok b ∧
      w.1.Drains f a c ⟨c.desc⟩ (if fld c.w0 15 15 = 1 then biasVals (fld c.w0 17 16) b n else List.replicate n 0#32) (fld c.w0 29 20 + 1) 0 ((List.range n).map (laneSeed (fld c.w2 63 32))) u ∧
      u.waited = false) ∧
    (∃ (s : State) (f a i : Nat), runningCmd (s.arr f a).queue 4 = some i) ∧
    (∃ (s : State) (f a b : Nat), (s.arr f a).test = some b) ∧
    (∃ (s : State) (f a b : Nat), (s.arr f a).test = some b ∧ s.switching = none) ∧
    (∃ (s : State) (f a : Nat) (c : ArrCmd) (l : List ArrCmd) (k : Kernel), (s.arr f a).queue = c :: l ∧ s.krn f c.kslot = some k ∧ k.abort = none ∧
      s.endpointSwitching 7 (8 * f + a) = false) :=
  ⟨⟨sDrain, sDrainOut, 0, 0, 0, drainCmd, tens 0, [],
    by dsimp only; refine ⟨?_, ?_, ?_, ?_, ?_, ?_, ok_by ?_, ?_, ?_, ?_, ?_, ?_, ok_by ?_, drains _ ?_, ?_⟩ <;> decide +kernel⟩,
   ⟨sDrainStall, sStallOut, 0, 0, 0, stallCmd, [], by dsimp only; refine ⟨?_, ?_, ok_by ?_, drains _ ?_, ?_⟩ <;> decide +kernel⟩,
   ⟨sDrainRun, 0, 0, 0, by decide +kernel⟩,
   ⟨sTest, 0, 0, 3, by decide +kernel⟩,
   ⟨sTest, 0, 0, 3, by decide +kernel⟩,
   ⟨sCb, 0, 0, cbCmd, [], kern, by decide +kernel⟩⟩

/-! ## Fronds -/

/-- The page table entry of the first 2 MiB, and their physical addresses. -/
def pteD : Nat := 0x8000020000D
def paD : Nat := 0x80000200100
/-- The bit-set window of Frond 0, and a word of it. -/
def pteW : Nat := 0xE000000000D
def paW : Nat := 0xE0000000010
def sbOne : SbEntry := ⟨paD / 128, [(0, 0x11#8), (1, 0x22#8)], 0, 0, 0⟩
/-- One store waits in the buffer of Frond 0. -/
def sSb : State := run2.modFr 0 (fun q => { q with sbuf := [sbOne] })
/-- The state after the translation of a virtual address in address space 0. -/
def xlated (va : Nat) (need : Need) : State := (run2.xlate (some 0) 0 0 va need).1
/-- `run2` where its two threads take the next instruction. -/
def sIss : State := issued run2 0 0

/-- A state and operands for each clause of Obligations.ThreadMemory, part 1 of 2. -/
theorem witness_ThreadMemory_1 :
    (∃ (s s' : State) (f g mask size rd conv k : Nat) (reads vas ts : List Nat) (q : Kernel),
      let t := s'.eachThread f g mask reads ts (fun u h => u.load f g k q h (vas.getD h 0) size rd conv); s.Issues f g s' k q ts ∧
      sizeOk size = true ∧ t.waited = false) ∧
    (∃ (s : State) (f g k h va size rd conv pa pte : Nat) (q : Kernel) (l : List Byte),
      let r := s.xlate (some f) q.launch.asid q.launch.tenant va .r; let m := r.1.loadBytes f pa pte size; let w := m.1.loadRegs l conv;
      sizeOk size = true ∧ va % size = 0 ∧ r.2 = .ok (pa, pte) ∧ r.1.loadHeld f pa pte size = false ∧ m.2 = .ok l) ∧
    (∃ (s : State) (f pa pte size : Nat), (s.fr f).sbuf.find? (fun e => e.line == pa / 128 && secdedBad e.bad) = none) ∧
    (∃ (s : State) (f pa i : Nat) (l : List Byte) (e : SbEntry) (es : List SbEntry) (b : Byte), i < l.length) ∧
    (∃ (s s' : State) (f g mask size rs k : Nat) (reads vas ts : List Nat) (q : Kernel),
      let t := s'.eachThread f g mask (reads ++ valueRegs rs size) ts (fun u h => u.store f g k q h (vas.getD h 0) (u.storeBytes f g h rs size) false);
      s.Issues f g s' k q ts ∧ sizeOk size = true ∧ t.waited = false) ∧
    (∃ (s : State) (f g k h va pa pte : Nat) (q : Kernel) (bytes : List Byte), let r := s.xlate (some f) q.launch.asid q.launch.tenant va .w;
      let u := if !((r.1.fr f).sbuf.any (fun e => e.line == pa / 128)) && (r.1.fr f).sbuf.length ≥ 64 then r.1.sbWrite f else r.1;
      sizeOk bytes.length = true ∧ va % bytes.length = 0 ∧ r.2 = .ok (pa, pte) ∧ r.1.sbStuck f pa = false ∧ (∀ i o w,
      physClass pa ≠ .lstore i o (w + 1))) ∧
    (∃ (s s' : State) (f g mask size rs k : Nat) (reads vas ts : List Nat) (q : Kernel),
      let t := s'.eachThread f g mask (reads ++ valueRegs rs size) ts (fun u h => u.store f g k q h (vas.getD h 0) (u.storeBytes f g h rs size) true);
      s.Issues f g s' k q ts ∧ sizeOk size = true ∧ t.waited = false) ∧
    (∃ (s u : State) (f g k h va pa pte i o w : Nat) (q : Kernel) (bytes : List Byte) (al : Bool),
      let r := s.xlate (some f) q.launch.asid q.launch.tenant va .w; va % bytes.length = 0 ∧ r.2 = .ok (pa, pte) ∧ r.1.sbStuck f pa = false ∧
      physClass pa = .lstore i o (w + 1) ∧ r.1.sbHeld f = false ∧ r.1.accHeld pa = false ∧ (r.1.sbDrain f).write pa bytes = (u, none)) :=
  ⟨⟨run2, sIss, 0, 0, 3, 8, 4, 0, 0, [1], [0x100, 0x108], [0, 1], kern, by dsimp only; refine ⟨iss ?_, ?_, ?_⟩ <;> decide +kernel⟩,
   ⟨run2, 0, 0, 0, 0, 0x100, 8, 4, 0, paD, pteD, kern, got ((xlated 0x100 .r).loadBytes 0 paD pteD 8).2 [],
    by dsimp only; refine ⟨?_, ?_, ok_by ?_, ?_, ok_by ?_⟩ <;> decide +kernel⟩,
   ⟨run2, 0, paD, pteD, 8, by decide +kernel⟩,
   ⟨sSb, 0, paD, 1, [1#8, 2#8], sbOne, [], 0x22#8, by decide +kernel⟩,
   ⟨run2, sIss, 0, 0, 3, 4, 6, 0, [1], [0x100, 0x108], [0, 1], kern, by dsimp only; refine ⟨iss ?_, ?_, ?_⟩ <;> decide +kernel⟩,
   ⟨run2, 0, 0, 0, 0, 0x100, paD, pteD, kern, [1#8, 2#8, 3#8, 4#8],
    by dsimp only; refine ⟨?_, ?_, ok_by ?_, ?_, not_ls ?_⟩ <;> decide +kernel⟩,
   ⟨run2, sIss, 0, 0, 3, 4, 6, 0, [1], [0x800010, 0x800014], [0, 1], kern, by dsimp only; refine ⟨iss ?_, ?_, ?_⟩ <;> decide +kernel⟩,
   ⟨run2, (((xlated 0x800010 .w).sbDrain 0).write paW (leBytes 4 0xF0F)).1, 0, 0, 0, 0, 0x800010, paW, pteW, 0, 0x10, 0, kern, leBytes 4 0xF0F, true,
    by dsimp only; refine ⟨?_, ok_by ?_, ?_, ?_, ?_, ?_, pair_eq ?_⟩ <;> decide +kernel⟩⟩

/-- A state and operands for each clause of Obligations.ThreadMemory, part 2 of 2. -/
theorem witness_ThreadMemory_2 :
    (∃ (s : State) (f o win n val : Nat), let r := s.aliasPoke f o win (leBytes n val); (n = 4 ∨ n = 8) ∧ o % n = 0 ∧ o + n ≤ 2 ^ 24 ∧ (∀ i,
      i < n / 4 → secdedBad (s.lsBadW (lsKey f o / 4 + i)) = false)) ∧
    (∃ (s : State) (f : Nat) (e : SbEntry) (l : List SbEntry),
      let s1 := (s.setFr f { s.fr f with sbuf := l, sbCorr := (s.fr f).sbCorr + (if popCount 39 e.bad = 1 then 1 else 0) }).dropInj 6 (sbKey f e.slot);
      (s.fr f).sbuf = e :: l ∧ s.entryHeld e = false ∧ secdedBad e.bad = false) ∧
    (∃ (s s' : State) (f g mask op size rv rc rd k : Nat) (reads vas ts : List Nat) (q : Kernel),
      let t := s'.eachThread f g mask (reads ++ valueRegs rv size ++ (if op = 9 then valueRegs rc size else [])) ts (fun u h => u.atomic f g k q h op (vas.getD h 0) size (leNat (u.storeBytes f g h rv size)) (leNat (u.storeBytes f g h rc size)) rd);
      s.Issues f g s' k q ts ∧ atomicOk op size = true ∧ t.waited = false) ∧
    (∃ (s u : State) (f g k h op va size v cmp rd pa pte old : Nat) (q : Kernel), let r := s.xlate (some f) q.launch.asid q.launch.tenant va .w;
      (size = 4 ∨ size = 8) ∧ va % size = 0 ∧ r.2 = .ok (pa, pte) ∧ r.1.redHeld pa size = false ∧ r.1.sbHeld f = false ∧ (∀ a,
      physClass pa ≠ .host a) ∧ ((r.1.sbDrain f).bundleUse f pa true).atomicAt op size pa v cmp = (u, .ok old)) :=
  ⟨⟨run2, 0, 0x20, 1, 4, 0xF0F, by dsimp only; decide +kernel⟩,
   ⟨sSb, 0, sbOne, [], by dsimp only; decide +kernel⟩,
   ⟨run2, sIss, 0, 0, 3, 0, 4, 1, 2, 9, 0, [1], [0x100, 0x104], [0, 1], kern, by dsimp only; refine ⟨iss ?_, ?_, ?_⟩ <;> decide +kernel⟩,
   ⟨run2, ((((xlated 0x100 .w).sbDrain 0).bundleUse 0 paD true).atomicAt 0 4 paD 7 0).1, 0, 0, 0, 0, 0, 0x100, 4, 7, 0, 9, paD, pteD, 0, kern,
    by dsimp only; refine ⟨?_, ?_, ok_by ?_, ?_, ?_, not_host ?_, pair_eq (ok_by ?_)⟩ <;> decide +kernel⟩⟩

/-- A state and operands for each clause of Obligations.ThreadFences. -/
theorem witness_ThreadFences :
    (∃ (s s' : State) (f g mask k : Nat) (ts : List Nat) (q : Kernel), s.Issues f g s' k q ts) ∧
    (∃ (s s' : State) (f g mask k : Nat) (ts : List Nat) (q : Kernel),
      let t := s'.eachThread f g mask [] ts (fun u h => (u.sbDrain f).advance f g h); s.Issues f g s' k q ts ∧ s.sbHeld f = false ∧ t.waited = false) ∧
    (∃ (s s' : State) (f g mask k : Nat) (ts : List Nat) (q : Kernel),
      let t := s'.eachThread f g mask [] ts (fun u h => ((u.sbDrain f).dcClear f).advance f g h); s.Issues f g s' k q ts ∧ s.sbHeld f = false ∧
      t.waited = false) ∧
    (∃ (s s' : State) (f g mask k : Nat) (reads vas ts : List Nat) (q : Kernel),
      let t := s'.eachThread f g mask reads ts (fun u h => u.cinv1 f g q h (vas.getD h 0)); s.Issues f g s' k q ts ∧ t.waited = false) ∧
    (∃ (s : State) (f g h va pa pte : Nat) (q : Kernel), let r := s.xlate (some f) q.launch.asid q.launch.tenant va .r; r.2 = .ok (pa, pte)) :=
  ⟨⟨run2, sIss, 0, 0, 3, 0, [0, 1], kern, by exact iss (by decide +kernel)⟩,
   ⟨run2, sIss, 0, 0, 3, 0, [0, 1], kern, by dsimp only; refine ⟨iss ?_, ?_, ?_⟩ <;> decide +kernel⟩,
   ⟨run2, sIss, 0, 0, 3, 0, [0, 1], kern, by dsimp only; refine ⟨iss ?_, ?_, ?_⟩ <;> decide +kernel⟩,
   ⟨run2, sIss, 0, 0, 3, 0, [1], [0x100, 0x180], [0, 1], kern, by dsimp only; refine ⟨iss ?_, ?_⟩ <;> decide +kernel⟩,
   ⟨run2, 0, 0, 0, 0x100, paD, pteD, kern, by dsimp only; exact ok_by (by decide +kernel)⟩⟩

/-- A state and operands for each clause of Obligations.TranslationWalk. -/
theorem witness_TranslationWalk :
    (∃ (s : State) (f g h agent va k pa pte : Nat) (q : Kernel) (need : Need), let r := s.xlate (some f) q.launch.asid q.launch.tenant va need;
      s.grpKernel f g = some (k, q) ∧ r.2 = .ok (pa, pte) ∧ r.1.waited = false) ∧
    (∃ (s : State) (f g h agent va k : Nat) (q : Kernel) (need : Need) (e : XErr), let r := s.xlate (some f) q.launch.asid q.launch.tenant va need;
      s.grpKernel f g = some (k, q) ∧ r.2 = .error e ∧ agent < 4 ∧ va < 2 ^ 48 ∧ q.launch.asid < 4096 ∧ e.kind < 8 ∧ e.level < 4 ∧
      r.1.waited = false ∧ r.1.rget (Fd.FRD_XLAT_FAULT_VALID f) = 0) :=
  ⟨⟨run2, 0, 0, 0, 0, 0x100, 0, paD, pteD, kern, .w, by dsimp only; refine ⟨?_, ok_by ?_, ?_⟩ <;> decide +kernel⟩,
   ⟨run2, 0, 0, 0, 3, 0x1000000, 0, kern, .r, ⟨1, 2, 0x0201, false⟩,
    by dsimp only; refine ⟨?_, err_by ?_, ?_, ?_, ?_, ?_, (by decide +kernel), ?_, ?_⟩ <;> decide +kernel⟩⟩

def copyCmd : DmaCmd := ⟨1#64, 0x100#64, 0x1000#64, 64#64, .kernel 0 0, 0, 0, false, false, none, 0⟩
def fillCmd : DmaCmd := ⟨2#64, 0x1122334455667788#64, 0x100#64, 16#64, .kernel 0 0, 0, 0, false, false, none, 0⟩
/-- One command in channel 3 of Frond 0. -/
def dmaAt (c : DmaCmd) : State := busy.setDma 0 3 ⟨[c], none⟩
def sCopy : State := dmaAt copyCmd
def sFill : State := dmaAt fillCmd
def copyDone : DmaCmd := { copyCmd with phase := 1 }
/-- A descriptor started in ring 5 with index 3. -/
def started (s : State) (r i : Nat) (d : Desc) : State :=
  (s.rset (Fd.RNG_CTL_STATE r) 1).modRing r (fun q => { q with started := [⟨i, d, false, 0, 0, 0, 0, 0⟩] })
def desc0 : Desc := ⟨0x10000#64, 0#64, 0#64, 0#64, 0#64, 0#64, 0#64, 0#64⟩
def sDoneRing : State := started (dmaAt { copyDone with src := .ring 5 3 }) 5 3 desc0

/-- A state and operands for each clause of Obligations.DmaCommands. -/
theorem witness_DmaCommands :
    (∃ (s u : State) (f c : Nat) (x : DmaCmd), s.dmaHead f c 1 = some x ∧ x.bad = false ∧
      EachUnit (fun v w => v.copyUnit f x w) s (readUnits x.srcA x.len) u ∧ u.waited = false) ∧
    (∃ (s s1 s2 : State) (f : Nat) (x : DmaCmd) (w : Nat × Nat) (l : List Byte), s.dmaRead f x w.1 w.2 = (s1, .ok l)) ∧
    (∃ (s u : State) (f c : Nat) (x : DmaCmd), s.dmaHead f c 2 = some x ∧ x.bad = false ∧
      EachUnit (fun v w => v.dmaWrite f x w.1 ((List.range w.2).map (fun j => (leBytes 8 x.w1.toNat).getD ((w.1 - x.dst + j) % 8) 0#8))) s (readUnits x.dst x.len) u ∧
      u.waited = false) ∧
    (∃ (s : State) (f c g k : Nat) (x : DmaCmd) (l : List DmaCmd),
      let w := if bit x.w0 34 then s.sorNow f (fld x.w0 47 35) 1 x.tenant else (s, none); (s.dma f c).queue = x :: l ∧ x.phase = 1 ∧
      s.endpointSwitching 6 f = false ∧ w.2 = none ∧ x.src = .kernel g k) ∧
    (∃ (s : State) (f c r i : Nat) (x : DmaCmd) (l : List DmaCmd) (d : Started),
      let w := if bit x.w0 34 then s.sorNow f (fld x.w0 47 35) 1 x.tenant else (s, none); (s.dma f c).queue = x :: l ∧ x.phase = 1 ∧
      s.endpointSwitching 6 f = false ∧ w.2 = none ∧ x.src = .ring r i ∧ (w.1.ring r).find i = some d) :=
  ⟨⟨sCopy, (unitsRun (fun v w => v.copyUnit 0 copyCmd w) sCopy (readUnits copyCmd.srcA copyCmd.len)).1, 0, 3, copyCmd,
    by refine ⟨?_, ?_, units _ ?_, ?_⟩ <;> decide +kernel⟩,
   ⟨sCopy, (sCopy.dmaRead 0 copyCmd 0x100 64).1,
     ((sCopy.dmaRead 0 copyCmd 0x100 64).1.dmaWrite 0 copyCmd 0x1000 (got (sCopy.dmaRead 0 copyCmd 0x100 64).2 [])).1, 0, copyCmd, (0x100, 64),
     got (sCopy.dmaRead 0 copyCmd 0x100 64).2 [], by exact pair_eq (ok_by (by decide +kernel))⟩,
   ⟨sFill,
     (unitsRun (fun v w => v.dmaWrite 0 fillCmd w.1 ((List.range w.2).map (fun j => (leBytes 8 fillCmd.w1.toNat).getD ((w.1 - fillCmd.dst + j) % 8) 0#8))) sFill (readUnits fillCmd.dst fillCmd.len)).1,
     0, 3, fillCmd, by refine ⟨?_, ?_, units _ ?_, ?_⟩ <;> decide +kernel⟩,
   ⟨dmaAt copyDone, 0, 3, 0, 0, copyDone, [], by dsimp only; decide +kernel⟩,
   ⟨sDoneRing, 0, 3, 5, 3, { copyDone with src := .ring 5 3 }, [], ⟨3, desc0, false, 0, 0, 0, 0, 0⟩, by dsimp only; decide +kernel⟩⟩

def sDusk : State := (noon.rset (Fd.FRD_SLEEP_STAT_STATE 0) 1).rset (Fd.FRD_SLEEP_CTL_FLOOR 0) 3
def sEnter : State := (noon.rset (Fd.FRD_SLEEP_STAT_STATE 0) 2).rset (Fd.FRD_SLEEP_STAT_ENTERING 0) 1
def sWaking : State := noon.modFr 0 (fun q => { q with waking := true, wakeFrom := 3 })
def lsAt : Nat := 0xC0000000000 + 0 * 0x4000000 + 0x40 % 0x1000000

/-- A state and operands for each clause of Obligations.FrondSleep, part 1 of 2. -/
theorem witness_FrondSleep_1 :
    (∃ (s : State) (f depth : Nat) (c : Instr), (c, depth) ∈ [(Instr.duskEntry f, 1), (.nightEntry f, 2), (.darkEntry f, 3)] ∧ s.frondUp f = true ∧
      s.idle f = true ∧ s.sleep f + 1 = depth ∧ depth ≤ s.rget (Fd.FRD_SLEEP_CTL_FLOOR f) ∧ s.idleDue f depth ≤ s.clock - (s.fr f).idleFrom) ∧
    (∃ (s : State) (f : Nat), s.entering f = true) ∧
    (∃ (s : State) (f : Nat) (slow : Bool), f < s.fronds ∧ s.entering f = false ∧ s.sleep f ≠ 0 ∧ (s.fr f).waking = false) ∧
    (∃ (s : State) (f : Nat) (slow : Bool), f < s.fronds ∧ s.entering f = true) ∧
    (∃ (s : State) (f : Nat), (s.fr f).waking = true) ∧
    (∃ (s : State) (f : Nat), (s.fr f).waking = true ∧ 100 * wakeUs (s.fr f).wakeFrom (s.fr f).wakeSlow < s.clock - (s.fr f).wakeAt ∧
      s.fencedIn (.frond f) = false ∧ s.switching = none) ∧
    (∃ (s : State) (f addr : Nat) (agent : Agent) (wr : Bool) (bytes : List Byte), s.frondUp f = true ∧ s.moving f = true) ∧
    (∃ (s u : State) (f addr : Nat) (agent : Agent) (bytes : List Byte), s.moving f = false ∧
      s.write (0xC0000000000 + f * 0x4000000 + addr % 0x1000000) bytes = (u, none)) :=
  ⟨⟨sDusk, 0, 2, .nightEntry 0, by refine ⟨(by simp), ?_, ?_, ?_, ?_, ?_⟩ <;> decide +kernel⟩,
   ⟨sEnter, 0, by decide +kernel⟩,
   ⟨noon.rset (Fd.FRD_SLEEP_STAT_STATE 0) 2, 0, false, by decide +kernel⟩,
   ⟨sEnter, 0, false, by decide +kernel⟩,
   ⟨sWaking, 0, by decide +kernel⟩,
   ⟨sWaking, 0, by decide +kernel⟩,
   ⟨sEnter, 0, 0x40, .host, true, [1#8], by decide +kernel⟩,
   ⟨noon, (noon.write lsAt [1#8]).1, 0, 0x40, .host, [1#8], by refine ⟨?_, pair_eq ?_⟩ <;> decide +kernel⟩⟩

/-- A state and operands for each clause of Obligations.FrondSleep, part 2 of 2. -/
theorem witness_FrondSleep_2 :
    (∃ (s u : State) (f addr : Nat) (agent : Agent) (bytes l : List Byte), s.moving f = false ∧
      s.read (0xC0000000000 + f * 0x4000000 + addr % 0x1000000) bytes.length = (u, .ok l)) ∧
    (∃ (s : State) (f : Nat) (v : W64), f < s.fronds) :=
  ⟨⟨noon, (noon.read lsAt [1#8].length).1, 0, 0x40, .host, [1#8], got (noon.read lsAt 1).2 [],
    by refine ⟨?_, pair_eq (ok_by ?_)⟩ <;> decide +kernel⟩,
   ⟨noon, 0, 0x0001025800050008#64, by decide +kernel⟩⟩

/-! ## Threads -/

/-- A state and operands for each clause of Obligations.InstructionIssue. -/
theorem witness_InstructionIssue :
    (∃ (s s' : State) (f g mask k : Nat) (reads writes ts : List Nat) (q : Kernel), s.Issues f g s' k q ts) ∧
    (∃ (s s' : State) (f g mask rd n k : Nat) (ts : List Nat) (q : Kernel), s.Issues f g s' k q ts) ∧
    (∃ (s s' : State) (f g mask k : Nat) (reads ts targets : List Nat) (q : Kernel), s.Issues f g s' k q ts) ∧
    (∃ (s s' : State) (f g mask k : Nat) (ts : List Nat) (q : Kernel), s.Issues f g s' k q ts) ∧
    (∃ (s s' : State) (f g mask k : Nat) (reads ts : List Nat) (q : Kernel), s.Issues f g s' k q ts ∧ (∀ h ∈ ts,
      nbit mask h = true → s'.badReg f g h reads = none)) ∧
    (∃ (s s' : State) (f g mask k : Nat) (reads ts targets : List Nat) (q : Kernel), s.Issues f g s' k q ts ∧ (∀ h ∈ ts,
      nbit mask h = true → s'.badReg f g h reads = none)) :=
  ⟨⟨run2, sIss, 0, 0, 3, 0, [1], [2], [0, 1], kern, by exact iss (by decide +kernel)⟩,
   ⟨run2, sIss, 0, 0, 3, 9, 1, 0, [0, 1], kern, by exact iss (by decide +kernel)⟩,
   ⟨run2, sIss, 0, 0, 3, 0, [1], [0, 1], [0x200040, 0], kern, by exact iss (by decide +kernel)⟩,
   ⟨run2, sIss, 0, 0, 3, 0, [0, 1], kern, by exact iss (by decide +kernel)⟩,
   ⟨run2, sIss, 0, 0, 3, 0, [1], [0, 1], kern, by refine ⟨iss ?_, ?_⟩ <;> decide +kernel⟩,
   ⟨run2, sIss, 0, 0, 3, 0, [1], [0, 1], [0x200040, 0], kern, by refine ⟨iss ?_, ?_⟩ <;> decide +kernel⟩⟩

/-- A state and operands for each clause of Obligations.LaneArithmetic. -/
theorem witness_LaneArithmetic :
    (∃ (s s' : State) (f g mask op rd ra rb rc k : Nat) (ts : List Nat) (q : Kernel), s.Issues f g s' k q ts) ∧
    (∃ (s s' : State) (f g mask fn rd ra k : Nat) (ts : List Nat) (q : Kernel), s.Issues f g s' k q ts) ∧
    (∃ (s s' : State) (f g mask op rd ra rb rc k h : Nat) (ts : List Nat) (q : Kernel), (op ≤ 4 ∨ (17 ≤ op ∧ op ≤ 20) ∨ (25 ≤ op ∧ op ≤ 28)) ∧
      s.Issues f g s' k q ts ∧ (∀ i ∈ ts, nbit mask i = true → s'.badReg f g i (fmaReads op ra rb rc) = none) ∧ h ∈ ts) ∧
    (∃ (s s' : State) (f g mask op rd ra rb rc k h : Nat) (ts : List Nat) (q : Kernel), (op = 5 ∨ op = 6 ∨ (8 ≤ op ∧ op ≤ 13)) ∧
      s.Issues f g s' k q ts ∧ (∀ i ∈ ts, nbit mask i = true → s'.badReg f g i (fmaReads op ra rb rc) = none) ∧ h ∈ ts ∧ nbit mask h = true) ∧
    (∃ (s s' : State) (f g mask rd ra rb rc k h : Nat) (ts : List Nat) (q : Kernel), s.Issues f g s' k q ts ∧ (∀ i ∈ ts,
      nbit mask i = true → s'.badReg f g i (fmaReads 7 ra rb rc) = none) ∧ h ∈ ts ∧ nbit mask h = true) ∧
    (∃ (s s' : State) (f g mask fn rd ra k h : Nat) (ts : List Nat) (q : Kernel), s.Issues f g s' k q ts ∧ (∀ i ∈ ts,
      nbit mask i = true → s'.badReg f g i [ra % 128] = none) ∧ h ∈ ts ∧ nbit mask h = true) :=
  ⟨⟨run2, sIss, 0, 0, 3, 2, 5, 1, 2, 3, 0, [0, 1], kern, by exact iss (by decide +kernel)⟩,
   ⟨run2, sIss, 0, 0, 3, 0, 5, 1, 0, [0, 1], kern, by exact iss (by decide +kernel)⟩,
   ⟨run2, sIss, 0, 0, 3, 2, 5, 1, 2, 3, 0, 0, [0, 1], kern, by refine ⟨?_, iss ?_, ?_, ?_⟩ <;> decide +kernel⟩,
   ⟨run2, sIss, 0, 0, 3, 5, 9, 1, 2, 3, 0, 0, [0, 1], kern, by refine ⟨?_, iss ?_, ?_, ?_, ?_⟩ <;> decide +kernel⟩,
   ⟨run2, sIss, 0, 0, 3, 4, 2, 6, 8, 0, 1, [0, 1], kern, by refine ⟨iss ?_, ?_, ?_, ?_⟩ <;> decide +kernel⟩,
   ⟨run2, sIss, 0, 0, 3, 0, 5, 1, 0, 0, [0, 1], kern, by refine ⟨iss ?_, ?_, ?_, ?_⟩ <;> decide +kernel⟩⟩

/-- A thread waits at a group-wide instruction, or both do, or one at a barrier. -/
def collAt (s : State) (h : Nat) : State := s.setThr 0 0 h { Thread.init with live := true, pc := 0x200000, wait := .coll 0 5 6 7 true, since := 1 }
def sColl : State := collAt run2 1
def sBoth : State := collAt sColl 0
def sBar : State := run2.setThr 0 0 1 { Thread.init with live := true, pc := 0x200000, wait := .barG 2, since := 1 }

/-- A state and operands for each clause of Obligations.GroupWide. -/
theorem witness_GroupWide :
    (∃ (s s' : State) (f g mask code d sr x k : Nat) (ts : List Nat) (q : Kernel) (c : Instr), (c, code) ∈ [(Instr.gshuf f g mask d sr x, 0),
      (.gxpose f g mask d sr, 1), (.gmv f g mask d sr x, 2), (.gred f g mask x d sr, 3), (.gscan f g mask x d sr, 4)] ∧ s.Issues f g s' k q ts ∧
      d < 128 ∧ sr < 128 ∧ (code = 1 → d % 32 = 0 ∧ x = 0) ∧ (code = 1 ∨ code = 2 → sr % 32 = 0)) ∧
    (∃ (s : State) (f g code d sr x pc cs : Nat) (inn : List Nat), (s.liveThreads f g ≠ []) ∧ inn = s.rowsIn f g ∧ (∀ h ∈ s.liveThreads f g,
      (s.thr f g h).pc = pc ∧ (s.thr f g h).cseq = cs ∧ ∃ p, (s.thr f g h).wait = .coll code d sr x p) ∧ (∀ h ∈ inn,
      s.badReg f g h (collReads code sr x) = none) ∧ d < 128 ∧ (code = 1 → d % 32 = 0)) ∧
    (∃ (s : State) (f g code d sr x h i : Nat) (p : Bool), h ∈ s.liveThreads f g ∧ i ∈ s.liveThreads f g ∧ (s.thr f g h).wait = .coll code d sr x p ∧
      (∀ d' sr' x' p', (s.thr f g i).wait ≠ .coll code d' sr' x' p')) :=
  ⟨⟨run2, sIss, 0, 0, 3, 1, 64, 32, 0, 0, [0, 1], kern, .gxpose 0 0 3 64 32,
    by refine ⟨(by simp), iss ?_, ?_, ?_, ?_, ?_⟩ <;> decide +kernel⟩,
   ⟨sBoth, 0, 0, 0, 5, 6, 7, 0x200000, 0, [0, 1],
    by refine ⟨?_, ?_, (two (by decide +kernel) ⟨by decide +kernel, by decide +kernel, true, by decide +kernel⟩ ⟨by decide +kernel, by decide +kernel, true, by decide +kernel⟩), ?_, ?_, ?_⟩ <;> decide +kernel⟩,
   ⟨sColl, 0, 0, 0, 5, 6, 7, 1, 0, true, by refine ⟨?_, ?_, ?_, not_coll ?_⟩ <;> decide +kernel⟩⟩

def sHeld : State := noon.modFr 0 (fun q => { q with clHeld := [2], slotHeld := [2] })

/-- A state and operands for each clause of Obligations.BarriersAndTraps, part 1 of 2. -/
theorem witness_BarriersAndTraps_1 :
    (∃ (s s' : State) (f g mask b k : Nat) (ts : List Nat) (q : Kernel), b < 8 ∧ s.Issues f g s' k q ts) ∧
    (∃ (s s' : State) (f g mask b k : Nat) (ts : List Nat) (q : Kernel), b < 16 ∧ s.Issues f g s' k q ts) ∧
    (∃ (s : State) (f g mask h : Nat) (w : Wait) (ts : List Nat), ts.Nodup ∧ h ∈ ts) ∧
    (∃ (s : State) (f k b : Nat) (q : Kernel), s.krn f k = some q ∧ q.groups.Nodup ∧ (∀ g ∈ q.groups, g < 64)) ∧
    (∃ (s s' : State) (f g mask k h : Nat) (ts : List Nat) (q : Kernel), s.Issues f g s' k q ts ∧ h ∈ ts ∧ nbit mask h = true) ∧
    (∃ (s s' : State) (f g mask arg k h : Nat) (ts : List Nat) (q : Kernel), s.Issues f g s' k q ts ∧ s'.krn f k = some q ∧
      ts.find? (nbit mask) = some h ∧ s'.rget (Fd.FRD_TRAP_VALID f) = 0 ∧ h < 32 ∧ g < 64 ∧ k < 8 ∧ (s'.thr f g h).pc < 2 ^ 48 ∧
      (s'.thr f g h).cseq < 65536 ∧ (s'.grp f g).kernel = some k) ∧
    (∃ (s : State) (f g h k : Nat) (q : Kernel), s.grpKernel f g = some (k, q) ∧ s.timedWait f g = some (h, true)) ∧
    (∃ (s : State) (f g h k : Nat) (q : Kernel), s.grpKernel f g = some (k, q) ∧ s.timedWait f g = some (h, false)) :=
  ⟨⟨run2, sIss, 0, 0, 3, 7, 0, [0, 1], kern, by refine ⟨?_, iss ?_⟩ <;> decide +kernel⟩,
   ⟨run2, sIss, 0, 0, 3, 15, 0, [0, 1], kern, by refine ⟨?_, iss ?_⟩ <;> decide +kernel⟩,
   ⟨run2, 0, 0, 1, 1, .barG 2, [0, 1], by decide +kernel⟩,
   ⟨run2, 0, 0, 15, kern, by decide +kernel⟩,
   ⟨run2, sIss, 0, 0, 1, 0, 0, [0, 1], kern, by refine ⟨iss ?_, ?_, ?_⟩ <;> decide +kernel⟩,
   ⟨run2, sIss, 0, 0, 2, 0xFFFF, 0, 1, [0, 1], kern,
    by refine ⟨iss ?_, ?_, ?_, ?_, ?_, ?_, (by decide +kernel), ?_, ?_, ?_⟩ <;> decide +kernel⟩,
   ⟨sColl, 0, 0, 1, 0, kern, by decide +kernel⟩,
   ⟨sBar, 0, 0, 1, 0, kern, by decide +kernel⟩⟩

/-- A state and operands for each clause of Obligations.BarriersAndTraps, part 2 of 2. -/
theorem witness_BarriersAndTraps_2 :
    (∃ (s : State) (f c : Nat), (s.fr f).clHeld.contains c = true ∧ s.clusterEmpty f c = true) ∧
    (∃ (s : State) (f c : Nat), (s.fr f).clHeld.contains c = true ∧ s.clusterEmpty f c = true ∧ s.switching = none) :=
  ⟨⟨sHeld, 0, 2, by decide +kernel⟩,
   ⟨sHeld, 0, 2, by decide +kernel⟩⟩

/-- The kernel owns array 0. -/
def kernArr : Kernel := { kern with launch := { kern.launch with w0 := 1#64 <<< 18 } }
def runArr : State := run2.setKrn 0 0 (some kernArr)

/-- A state and operands for each clause of Obligations.CommandIssue. -/
theorem witness_CommandIssue :
    (∃ (s s' : State) (f g mask a n k : Nat) (ts : List Nat) (q : Kernel),
      let t := s'.eachThread f g mask (eightRegs n) ts (fun u h => (u.sbDrain f).acmd1 f g a n k q h); s.Issues f g s' k q ts ∧ a < 8 ∧
      s.sbHeld f = false ∧ n % 8 = 0 ∧ n < 128 ∧ t.waited = false) ∧
    (∃ (s : State) (f g a n k h : Nat) (q : Kernel), nbit q.launch.arrays a = true ∧ s.arrFenced f a = false) ∧
    (∃ (s : State) (f g a n k h : Nat) (q : Kernel), nbit q.launch.arrays a = false ∧ s.grpKernel f g = some (k, q)) ∧
    (∃ (s s' : State) (f g mask c n k : Nat) (ts : List Nat) (q : Kernel),
      let t := s'.eachThread f g mask (eightRegs n) ts (fun u h => (u.sbDrain f).dcmd1 f g c n k q h); s.Issues f g s' k q ts ∧ c < 16 ∧
      s.sbHeld f = false ∧ n % 8 = 0 ∧ n < 128 ∧ t.waited = false) ∧
    (∃ (s : State) (f g c n k h : Nat) (q : Kernel), nbit (s.rget (Fd.FRD_DMA_CTL_RING_MASK f)) c = false) ∧
    (∃ (s s' : State) (f g mask a n k h : Nat) (ts : List Nat) (q : Kernel), s.Issues f g s' k q ts ∧ h ∈ ts ∧ nbit mask h = true) ∧
    (∃ (s s' : State) (f g mask c n k h : Nat) (ts : List Nat) (q : Kernel), s.Issues f g s' k q ts ∧ h ∈ ts ∧ nbit mask h = true) :=
  ⟨⟨runArr, issued runArr 0 0, 0, 0, 3, 0, 120, 0, [0, 1], kernArr, by dsimp only; refine ⟨iss ?_, ?_, ?_, ?_, ?_, ?_⟩ <;> decide +kernel⟩,
   ⟨runArr, 0, 0, 0, 120, 0, 1, kernArr, by decide +kernel⟩,
   ⟨run2, 0, 0, 0, 120, 0, 1, kern, by decide +kernel⟩,
   ⟨run2, sIss, 0, 0, 3, 3, 120, 0, [0, 1], kern, by dsimp only; refine ⟨iss ?_, ?_, ?_, ?_, ?_, ?_⟩ <;> decide +kernel⟩,
   ⟨run2, 0, 0, 3, 120, 0, 1, kern, by decide +kernel⟩,
   ⟨run2, sIss, 0, 0, 3, 3, 15, 0, 1, [0, 1], kern, by refine ⟨iss ?_, ?_, ?_⟩ <;> decide +kernel⟩,
   ⟨run2, sIss, 0, 0, 3, 3, 15, 0, 1, [0, 1], kern, by refine ⟨iss ?_, ?_, ?_⟩ <;> decide +kernel⟩⟩

def sLaunched : State := noon.modFr 0 (fun q => { q with lq := [kern.launch], dcache := [] })
def aborting : Kernel := { kern with abort := some 0x0285 }
def sAborting : State := run2.setKrn 0 0 (some aborting)
/-- A kernel launched by descriptor 3 of ring 5, and that descriptor. -/
def ringKern : Kernel := { kern with launch := { kern.launch with issuer := .ring 5 3 } }
def launchDesc : Started := ⟨3, desc0, true, 1, 1, 0, 0, 0⟩
def sOver : State := (started (busy.setKrn 0 0 (some ringKern)) 5 3 desc0).modRing 5 (fun q => { q with started := [launchDesc] })

/-- A state and operands for each clause of Obligations.Kernels. -/
theorem witness_Kernels :
    (∃ (s : State) (f r i image : Nat) (w0 w1 w2 w3 : W64), s.launchRoom f = true ∧ s.frondUp f = true ∧ s.rget (Fd.FRD_ASPACE_BASE_EN f) = 1 ∧
      s.launchBad f ⟨w0, w1, w2, w3, .ring r i, image⟩ = false ∧ s.awake f = true) ∧
    (∃ (s : State) (f r i image : Nat) (w0 w1 w2 w3 : W64), s.launchRoom f = true ∧ s.frondUp f = true ∧ s.rget (Fd.FRD_ASPACE_BASE_EN f) = 1 ∧
      s.launchBad f ⟨w0, w1, w2, w3, .ring r i, image⟩ = false ∧ s.awake f = false) ∧
    (∃ (s : State) (f k : Nat) (l : Launch) (rest : List Launch), (s.fr f).lq = l :: rest ∧
      (List.range 8).find? (fun k => (s.krn f k).isNone) = some k ∧ s.frondUp f = true ∧ s.inRun f = true ∧ l.groupsM1 + 1 ≤ (s.freeSlots f).length ∧
      (∀ a ∈ bitsOf 8 l.arrays, (s.arr f a).owner = none)) ∧
    (∃ (s : State) (f k reason : Nat) (q : Kernel), s.krn f k = some q ∧ q.abort = some reason ∧ s.sbHeld f = false) ∧
    (∃ (s : State) (f k : Nat) (q : Kernel), let u := (s.sbDrain f).releaseKernel f k;
      let w := if q.launch.sig then u.sorNow f q.launch.sorus 1 q.launch.tenant else (u, none); s.krn f k = some q ∧ q.abort = none ∧
      s.kernelOver f k q = true ∧ s.sbHeld f = false ∧ (s.sbDrain f).kRunning f k = true ∧ w.2 = none) ∧
    (∃ (s : State) (f r i : Nat) (d : Started), (s.ring r).find i = some d ∧ f < 16 ∧ d.running = 2 ^ f ∧ d.failed = 0) :=
  ⟨⟨noon, 0, 5, 3, 0, 0#64, 0#64, 0#64, 0#64, by decide +kernel⟩,
   ⟨noon.rset (Fd.FRD_SLEEP_STAT_STATE 0) 1, 0, 5, 3, 0, 0#64, 0#64, 0#64, 0#64, by decide +kernel⟩,
   ⟨sLaunched, 0, 0, kern.launch, [], by decide +kernel⟩,
   ⟨sAborting, 0, 0, 0x0285, aborting, by decide +kernel⟩,
   ⟨sOver, 0, 0, ringKern, by dsimp only; decide +kernel⟩,
   ⟨sOver, 0, 5, 3, launchDesc, by decide +kernel⟩⟩

end Sys2Proof.Tests
end

