-- ==== Sys2Proof/Tests/WitnessMemory.lean ====
section
/-!
SUPPORT. For every statement about the Thallus, the memory-side cache, the piles and the network: states and operands that meet its hypotheses, clause by clause.
-/

namespace Sys2Proof.Tests

set_option Elab.async false
set_option linter.unusedVariables false

open Sys2Proof Sys2Proof.Machine

/-! ## The Thallus -/

def sRowDue : State := { noon with thl.rowDue := [(bgKey 1 1 2 3 * 32 + 4) * 1024 + 1023] }
def sScrub : State := noon.rset Fd.THL_SCRUB_CTL_EN 1
/-- A stored byte with one wrong bit at the place of the patrol. -/
def sFlip : State := { sScrub with mem.thlBad := [(bgByte 0 0 0 0 0, 2)] }
/-- A pass that began long ago, not at its end. -/
def sLate : State := { sScrub with thl.patrolPos := [(0, 5)], clock := 1000000000000 }
/-- A TSV link on which a transfer failed twice in succession. -/
def sWire : State := { noon with thl.crcTwice := [linkKey 3 3 2 31] }
def viaTsv : State := noon.transfers 0 (0x80000000000 + 0x2000000 % 0x400000000) (0x2000000 % 0x400000000) true []

/-- A state and operands for each clause of Obligations.Thallus, part 1 of 2. -/
theorem witness_Thallus_1 :
    (∃ (s v u : State) (agent : Agent) (off : Nat) (bytes : List Byte) (crc : List Nat), let o := off % 0x400000000; (∀ f k,
      agent = .kernel f k → v = s.transfers f (0x80000000000 + o) o true crc) ∧ ((∀ f k, agent ≠ .kernel f k) → v = s) ∧
      v.write (0x80000000000 + o) bytes = (u, none)) ∧
    (∃ (s v u : State) (agent : Agent) (off : Nat) (bytes l : List Byte) (crc : List Nat), let o := off % 0x400000000; (∀ f k,
      agent = .kernel f k → v = s.transfers f (0x80000000000 + o) o false crc) ∧ ((∀ f k, agent ≠ .kernel f k) → v = s) ∧
      v.read (0x80000000000 + o) bytes.length = (u, .ok l)) ∧
    (∃ (s : State) (agent : Agent) (off : Nat) (bytes : List Byte) (crc : List Nat), off % 32 + bytes.length ≤ 32 ∧ 0 < bytes.length ∧
      off < 0x400000000 ∧ s.physErr (0x80000000000 + off) = none ∧ s.rget Fd.FLT_INJ_CTL_ARM = 0) ∧
    (∃ (s : State) (t q kind b : Nat) (failed : List (Nat × Nat)), let link := linkKey t q kind b;
      let s1 : State := { s with thl := { s.thl with crcFails := s.thl.crcFails.filter (fun p => p.1 != link), crcTwice := s.thl.crcTwice.filter (· != link) } };
      s.bgThere t 0 q b = true ∧ kind < 3 ∧ s.towerUp t = true ∧ s.linkServes t q kind b = true ∧ s.wireTestDue link = true ∧ (∀ seg,
      seg < 16 → s.wiresUsed t q kind b seg + (failed.filter (fun w => w.1 == seg)).length ≤ wireSpares kind)) ∧
    (∃ (s : State) (t q kind b : Nat) (failed : List (Nat × Nat)), let link := linkKey t q kind b;
      let s1 : State := { s with thl := { s.thl with crcFails := s.thl.crcFails.filter (fun p => p.1 != link), crcTwice := s.thl.crcTwice.filter (· != link) } };
      s.bgThere t 0 q b = true ∧ kind < 3 ∧ s.towerUp t = true ∧ s.linkServes t q kind b = true ∧ s.wireTestDue link = true ∧ (∃ seg, seg < 16 ∧
      wireSpares kind < s.wiresUsed t q kind b seg + (failed.filter (fun w => w.1 == seg)).length)) ∧
    (∃ (s : State) (t q kind b seg wire : Nat), let u := s.replaceWire t q kind b (seg, wire);
      let map := spGet (fun _ => []) s.thl.wires (wireKey t q kind b seg) ++ [wire]; s.wiresUsed t q kind b seg < wireSpares kind) ∧
    (∃ (s : State) (t die q b m row : Nat), let mk := bgKey t die q b * 32 + m; s.bgThere t die q b = true ∧ m < 32 ∧ row < 1024 ∧
      s.thl.rowDue.contains (mk * 1024 + row) = true ∧ spGet (fun _ => 0) s.thl.rowsUsed mk < 16) ∧
    (∃ (s : State) (t die q b len : Nat), let key := bgKey t die q b; let pos := spGet (fun _ => 0) s.thl.patrolPos key; s.bgThere t die q b = true ∧
      s.towerUp t = true ∧ s.rget Fd.THL_SCRUB_CTL_EN = 1 ∧ s.thl.unavail.contains key = false ∧ s.patrolOpen key = true ∧ len ≠ 0) :=
  ⟨⟨noon, viaTsv, (viaTsv.write (0x80000000000 + 0x2000000 % 0x400000000) [1#8]).1, .kernel 0 0, 0x2000000, [1#8], [],
    by dsimp only; refine ⟨(by intro f k e; cases e; rfl), (fun h => absurd rfl (h 0 0)), pair_eq ?_⟩ <;> decide +kernel⟩,
   ⟨noon, noon, (noon.read (0x80000000000 + 0x40 % 0x400000000) [1#8].length).1, .host, 0x40, [1#8], [0#8], [],
    by dsimp only; refine ⟨(by intro f k e; cases e), (fun _ => rfl), pair_eq (ok_by ?_)⟩ <;> decide +kernel⟩,
   ⟨noon, .host, 0x3FFFFFFFE, [1#8, 2#8], [], by decide +kernel⟩,
   ⟨sWire, 3, 3, 2, 31, [(15, 7)], by dsimp only; decide +kernel⟩,
   ⟨sWire, 3, 3, 2, 31, List.replicate 40 (15, 7), by dsimp only; refine ⟨?_, ?_, ?_, ?_, ?_, ⟨15, ?_, ?_⟩⟩ <;> decide +kernel⟩,
   ⟨noon, 3, 3, 2, 31, 15, 7, by dsimp only; decide +kernel⟩,
   ⟨sRowDue, 1, 1, 2, 3, 4, 1023, by dsimp only; decide +kernel⟩,
   ⟨sScrub, 3, 1, 3, 31, 2, by dsimp only; decide +kernel⟩⟩

/-- A state and operands for each clause of Obligations.Thallus, part 2 of 2. -/
theorem witness_Thallus_2 :
    (∃ (s : State) (t q b e : Nat), let pos := spGet (fun _ => 0) s.thl.patrolPos (bgKey t 0 q b); let o := bgByte t 0 q b pos;
      s.bgThere t 0 q b = true ∧ s.towerUp t = true ∧ s.rget Fd.THL_SCRUB_CTL_EN = 1 ∧ s.thl.unavail.contains (bgKey t 0 q b) = false ∧
      s.patrolOpen (bgKey t 0 q b) = true ∧ s.thlMask o ≠ 0 ∧ thlDecode (s.thlMask o) = some (e, true)) ∧
    (∃ (s : State) (k : Nat), s.rget Fd.THL_SCRUB_CTL_EN = 1 ∧ k ∈ s.liveBgs ∧ spGet (fun _ => 0) s.thl.patrolPos k ≠ 0 ∧
      spGet (fun _ => 0) s.thl.patrolAt k + 2 * s.patrolPeriod < s.clock) ∧
    (∃ (s : State) (t die q b : Nat), s.bgThere t die q b = true) ∧
    (∃ (s : State) (t die q b : Nat), s.bgThere t die q b = true ∧ s.towerUp t = true ∧
      spGet (fun _ => 0) s.thl.lastUse (bgKey t die q b) + 100 ≤ s.clock) :=
  ⟨⟨sFlip, 0, 0, 0, 0, by dsimp only; decide +kernel⟩,
   ⟨sLate, 0, by decide +kernel⟩,
   ⟨noon, 3, 1, 3, 31, by decide +kernel⟩,
   ⟨noon, 3, 1, 3, 31, by decide +kernel⟩⟩

/-! ## The memory-side cache -/

def regionG : Region := ⟨true, true, 0, 0, 1, 0⟩
/-- One global region, at line address 0, with no bank group in cache mode. -/
def dramOn : State := { noon with pil.applied := [regionG], mem.dram := memPutN [] (dramKey 0 0) (leBytes 8 0x1122334455667788) }
/-- The same with the bank groups of slice 0 in cache mode. -/
def cacheOn : State := [0, 1, 2, 3].foldl (fun (s : State) b => s.setMode 0 b 1) dramOn
/-- One line of it cached, with all its sectors. -/
def secOne : Sector := ⟨true, true, false, List.replicate 32 7#8, []⟩
def lineOne : CLine := ⟨true, 0, true, false, false, secOne, secOne, secOne, secOne⟩
def cached : State := cacheOn.setWay 0 0 5 lineOne
def unpinned : State := (cacheOn.setWay 0 0 5 { lineOne with pinned := false }).rset Fd.MSC_PIN_CTL_WAYS_MAX 12 |>.rset Fd.MSC_PIN_CTL_CAP_MIB 1
/-- Every way of set 0 locked: a miss there waits. -/
def full : State := (List.range 16).foldl (fun (s : State) w => s.setWay 0 0 w { lineOne with tag := w + 1, locked := true }) cacheOn
def waitRead : HeldMem := ⟨.kernel 0 0, 0, false, [0#8]⟩
def waitOne : State := { cacheOn with msc.waiting := [waitRead] }

/-- A state and operands for each clause of Obligations.CacheAccess. -/
theorem witness_CacheAccess :
    (∃ (s u : State) (agent : Agent) (pa len : Nat) (l : List Byte), physClass pa = .dram ∧ s.rdHeld pa len = false ∧ s.read pa len = (u, .ok l)) ∧
    (∃ (s : State) (agent : Agent) (pa len : Nat), physClass pa = .dram ∧ s.rdHeld pa len = true) ∧
    (∃ (s u : State) (agent : Agent) (pa : Nat) (bytes : List Byte), physClass pa = .dram ∧ s.wrHeld pa bytes.length = false ∧ s.write pa bytes = (u,
      none)) ∧
    (∃ (s : State) (agent : Agent) (pa : Nat) (bytes : List Byte), physClass pa = .dram ∧ s.wrHeld pa bytes.length = true) ∧
    (∃ (s : State) (sl set : Nat), let s1 := (s.msc.waiting.filter (fun w => s.inSet sl set w.pa)).foldl (fun v w => v.waitGo w) s;
      let s2 := (s1.msc.fills.filter (s1.inSet sl set)).foldl (fun v pa => v.fillGo pa) s1;
      let l := s2.msc.heldRed.filter (fun h => s2.inSet sl set h.pa && !s2.redHeld h.pa h.bytes.length);
      s2.msc.waiting.any (fun w => s2.inSet sl set w.pa) = false ∧ s2.msc.fills.any (s2.inSet sl set) = false) ∧
    (∃ (s u : State) (w : HeldMem), (w.write = false → s.rdHeld w.pa w.bytes.length = false ∧ ∃ l,
      ({ s with msc := { s.msc with waiting := s.msc.waiting.erase w } } : State).read w.pa w.bytes.length = (u, .ok l)) ∧
      (w.write = true → s.wrHeld w.pa w.bytes.length = false ∧
      ({ s with msc := { s.msc with waiting := s.msc.waiting.erase w } } : State).write w.pa w.bytes = (u, none)) ∧ w.agent ≠ .host) ∧
    (∃ (s : State) (agent : Agent) (pa n w : Nat) (r : Region), let ch := (chanAddr r s.channels pa).1; let a := (chanAddr r s.channels pa).2;
      let set := Machine.setOf (pa / 128); physClass pa = .dram ∧ s.rdHeld pa 1 = false ∧ s.msc.tagBad = [] ∧ s.physErr pa = none ∧
      s.rget Fd.FLT_INJ_CTL_ARM = 0 ∧ s.regionOf pa = some (n, r) ∧ s.findWay ch set (tagOf (pa / 128)) = none ∧ s.fillWay ch set = some w ∧
      (s.way ch set w).valid = false ∧ s.sectorPoisoned (sectorKey ch a) = false ∧ s.sectorBad (sectorKey ch a) = [] ∧ s.hasWays ch = true) :=
  ⟨⟨cached, (cached.read 0 32).1, .host, 0, 32, List.replicate 32 7#8, by refine ⟨?_, ?_, pair_eq (ok_by ?_)⟩ <;> decide +kernel⟩,
   ⟨full, .host, 0, 32, by decide +kernel⟩,
   ⟨cached, (cached.write 0 [1#8]).1, .host, 0, [1#8], by refine ⟨?_, ?_, pair_eq ?_⟩ <;> decide +kernel⟩,
   ⟨full, .host, 0, List.replicate 32 1#8, by decide +kernel⟩,
   ⟨waitOne, 0, 0, by dsimp only; decide +kernel⟩,
   ⟨waitOne,
     (({ waitOne with msc := { waitOne.msc with waiting := waitOne.msc.waiting.erase waitRead } } : State).read waitRead.pa waitRead.bytes.length).1,
     waitRead, by refine ⟨(fun _ => ⟨?_, [0x88#8], pair_eq (ok_by ?_)⟩), (by intro h; cases h), ?_⟩ <;> decide +kernel⟩,
   ⟨cacheOn, .host, 0, 0, 0, regionG, by dsimp only; decide +kernel⟩⟩

/-- A state and operands for each clause of Obligations.SliceOperations. -/
theorem witness_SliceOperations :
    (∃ (s u : State) (agent : Agent) (op ty pa : Nat) (bytes : List Byte), reduceReserved op ty = false ∧ bytes.length % elemSize ty = 0 ∧
      pa % elemSize ty = 0 ∧ physClass pa = .dram ∧ s.redHeld pa bytes.length = false ∧ s.reduceAt op ty pa bytes = (u, none)) ∧
    (∃ (s : State) (agent : Agent) (op ty pa : Nat) (bytes : List Byte), reduceReserved op ty = false ∧ bytes.length % elemSize ty = 0 ∧
      pa % elemSize ty = 0 ∧ physClass pa = .dram ∧ s.redHeld pa bytes.length = true) ∧
    (∃ (s s1 s2 : State) (op ty pa : Nat) (bytes old : List Byte), s.read pa bytes.length = (s1, .ok old) ∧
      s1.write pa (reduceBytes op ty bytes.length old bytes) = (s2, none)) ∧
    (∃ (op ty n : Nat) (a b old v : List Byte), a.length = elemSize ty ∧ b.length = elemSize ty) ∧
    (∃ (s u : State) (agent : Agent) (op size pa v cmp old : Nat), physClass pa = .dram ∧ (size = 4 ∨ size = 8) ∧ pa % size = 0 ∧
      s.redHeld pa size = false ∧ s.atomicAt op size pa v cmp = (u, .ok old)) ∧
    (∃ (s s1 s2 : State) (op size pa v cmp : Nat) (l : List Byte), s.read pa size = (s1, .ok l) ∧
      s1.write pa (leBytes size (atomicNew op size (leNat l) v cmp)) = (s2, none)) ∧
    (∃ (s : State) (pa n w : Nat) (r : Region), s.regionOf pa = some (n, r) ∧
      s.findWay (chanAddr r s.channels pa).1 (Machine.setOf (pa / 128)) (tagOf (pa / 128)) = some w) :=
  ⟨⟨cached, (cached.reduceAt 0 0 0 [1#8, 0#8, 0#8, 0#8]).1, .host, 0, 0, 0, [1#8, 0#8, 0#8, 0#8],
    by refine ⟨?_, ?_, ?_, ?_, ?_, pair_eq ?_⟩ <;> decide +kernel⟩,
   ⟨full, .host, 0, 0, 0, [1#8, 0#8, 0#8, 0#8], by decide +kernel⟩,
   ⟨cached, (cached.read 0 4).1, ((cached.read 0 4).1.write 0 (reduceBytes 0 0 4 (List.replicate 4 7#8) [1#8, 0#8, 0#8, 0#8])).1, 0, 0, 0, [1#8, 0#8,
     0#8, 0#8], List.replicate 4 7#8, by refine ⟨pair_eq (ok_by ?_), pair_eq ?_⟩ <;> decide +kernel⟩,
   ⟨0, 0, 0, [1#8, 0#8, 0#8, 0#8], [2#8, 0#8, 0#8, 0#8], [], [], by decide +kernel⟩,
   ⟨cached, (cached.atomicAt 0 4 0 5 0).1, .host, 0, 4, 0, 5, 0, 0x07070707,
    by refine ⟨?_, ?_, ?_, ?_, pair_eq (ok_by ?_)⟩ <;> decide +kernel⟩,
   ⟨cached, (cached.read 0 4).1, ((cached.read 0 4).1.write 0 (leBytes 4 (atomicNew 0 4 (leNat (List.replicate 4 7#8)) 5 0))).1, 0, 4, 0, 5, 0,
     List.replicate 4 7#8, by refine ⟨pair_eq (ok_by ?_), pair_eq ?_⟩ <;> decide +kernel⟩,
   ⟨cached, 0, 0, 5, regionG, by decide +kernel⟩⟩

/-- A range operation on the line at 0x600000. -/
def rangeDesc (op : Nat) : Desc := ⟨BitVec.ofNat 64 (0x60 + op), 0x600000#64, 128#64, 0#64, 0#64, 0#64, 0#64, 0#64⟩
def rangeOn (s : State) (op : Nat) : State := started s 5 3 (rangeDesc op)

/-- A state and operands for each clause of Obligations.RangeOperations. -/
theorem witness_RangeOperations :
    (∃ (s u : State) (r i op e : Nat) (need : Need) (d : Desc) (c : Instr) (g : State → Nat → Nat → State × Nat), (c, op, need,
      g) ∈ [(Instr.prefetch r i, 1, Need.r, fun (v : State) (_ : Nat) pa => v.prefetch1 pa), (.flush r i, 2, .r, fun v _ pa => v.flush1 pa),
      (.invalidate r i, 3, .w, fun v va pa => v.invalidate1 d va pa), (.unpin r i, 5, .r, fun v _ pa => v.unpin1 pa)] ∧ s.opOf r i 6 op = some d ∧
      s.walkRange r need g (rangeLines (d.f 1 47 0) (d.f 2 47 0)) = (u, 0, e) ∧ u.waited = false) ∧
    (∃ (s u : State) (r i e : Nat) (d : Desc) (mine : List Nat), s.opOf r i 6 4 = some d ∧
      s.pinnedLines + s.msc.reserved_ + (rangeLines (d.f 1 47 0) (d.f 2 47 0)).length ≤ s.pinCap ∧
      s.pinWalk r (rangeLines (d.f 1 47 0) (d.f 2 47 0)) [] = (u, 0, e, mine) ∧ u.waited = false) ∧
    (∃ (s : State) (r i op va pa pte n w : Nat) (need : Need) (d : Desc) (g : Region) (c : Instr),
      let u := (s.xlate none (s.ringAsid r) (s.ringTenant r) va need).1; let ch := (chanAddr g u.channels pa).1; let set := Machine.setOf (pa / 128);
      (c, op, need) ∈ [(Instr.flush r i, 2, Need.r), (.invalidate r i, 3, .w), (.unpin r i, 5, .r), (.prefetch r i, 1, .r)] ∧
      s.opOf r i 6 op = some d ∧ rangeLines (d.f 1 47 0) (d.f 2 47 0) = [va] ∧ u.waited = false ∧
      (s.xlate none (s.ringAsid r) (s.ringTenant r) va need).2 = .ok (pa, pte) ∧ u.dramLine pa = true ∧ u.accHeld pa = false ∧ u.physErr pa = none ∧
      u.regionOf pa = some (n, g) ∧ u.findWay ch set (tagOf (pa / 128)) = some w ∧ (u.way ch set w).locked = false ∧ (∀ j,
      j < 4 → ((u.way ch set w).sec j).valid = true)) ∧
    (∃ (s : State) (r i va pa pte n w : Nat) (d : Desc) (g : Region), let u := (s.xlate none (s.ringAsid r) (s.ringTenant r) va .r).1;
      let ch := (chanAddr g u.channels pa).1; let set := Machine.setOf (pa / 128); s.opOf r i 6 4 = some d ∧
      rangeLines (d.f 1 47 0) (d.f 2 47 0) = [va] ∧ u.waited = false ∧ s.pinnedLines + s.msc.reserved_ + 1 ≤ s.pinCap ∧
      (s.xlate none (s.ringAsid r) (s.ringTenant r) va .r).2 = .ok (pa, pte) ∧ u.dramLine pa = true ∧ u.accHeld pa = false ∧ u.physErr pa = none ∧
      u.regionOf pa = some (n, g) ∧ u.findWay ch set (tagOf (pa / 128)) = some w ∧ (∀ j, j < 4 → ((u.way ch set w).sec j).valid = true) ∧
      (u.way ch set w).pinned = false ∧ u.pinnedIn ch set < u.pinQuota (u.sliceK ch) ∧ u.hasWays ch = true) :=
  ⟨⟨rangeOn cached 3, ((rangeOn cached 3).walkRange 5 .w (fun v va pa => v.invalidate1 (rangeDesc 3) va pa) [0x600000]).1, 5, 3, 3, 0, .w,
     rangeDesc 3, .invalidate 5 3, fun v va pa => v.invalidate1 (rangeDesc 3) va pa,
    by refine ⟨.tail _ (.tail _ (.head _)), ?_, pair_eq ?_, ?_⟩ <;> decide +kernel⟩,
   ⟨rangeOn unpinned 4, ((rangeOn unpinned 4).pinWalk 5 [0x600000] []).1, 5, 3, 0, rangeDesc 4, ((rangeOn unpinned 4).pinWalk 5 [0x600000] []).2.2.2,
    by refine ⟨?_, ?_, pair_eq ?_, ?_⟩ <;> decide +kernel⟩,
   ⟨rangeOn cached 2, 5, 3, 2, 0x600000, 0, 0xD, 0, 5, .r, rangeDesc 2, regionG, .flush 5 3,
    by dsimp only; refine ⟨.head _, ?_, ?_, ?_, ok_by ?_, ?_, (by decide +kernel), ?_, ?_, ?_, ?_, ?_⟩ <;> decide +kernel⟩,
   ⟨rangeOn unpinned 4, 5, 3, 0x600000, 0, 0xD, 0, 5, rangeDesc 4, regionG,
    by dsimp only; refine ⟨?_, ?_, ?_, ?_, ok_by ?_, ?_, (by decide +kernel), ?_, ?_, ?_, ?_, ?_, ?_, (by decide +kernel)⟩ <;> decide +kernel⟩⟩

def modeDesc : Desc := ⟨0x71#64, 0xF00000000#64, 0#64, 0#64, 0#64, 0#64, 0#64, 0#64⟩
def sSwitch (v : Nat) : State := { (dramOn.setMode 0 2 v) with mem.thl := memPutN tables (bgOff 0 1 0 2) [5#8] }
def sSwitched : State := { sSwitch 2 with msc.switched := [modeKey 0 2] }

/-- A state and operands for each clause of Obligations.BankGroupModes. -/
theorem witness_BankGroupModes :
    (∃ (s : State) (r i b : Nat) (d : Desc), let t := d.f 1 1 0; let tq := t * 4 + d.f 1 3 2; let mask := d.f 1 63 32;
      let toScr := ((List.range 32).filter (s.bgAvail tq)).filter (fun c => !nbit mask c && s.bgMode tq c == 1); s.opOf r i 7 1 = some d ∧
      t < s.towers ∧ (∀ c ∈ bitsOf 32 mask, s.bgAvail tq c = true) ∧ (∀ c ∈ toScr,
      s.pinsExceed (t * 32 + (tq % 4) * 8 + c / 4) (s.sliceK (t * 32 + (tq % 4) * 8 + c / 4) - (toScr.filter (fun x => x / 4 == c / 4)).length) = false) ∧
      b < 32 ∧ s.bgAvail tq b = true) ∧
    (∃ (s : State) (t q b : Nat), s.bgMode (t * 4 + q) b = 2) ∧
    (∃ (s : State) (t q b : Nat), s.bgMode (t * 4 + q) b = 3) ∧
    (∃ (s : State) (t q b : Nat), let tq := t * 4 + q; let p := s.pendOf tq b; s.msc.switched.contains (modeKey (t * 4 + q) b) = true) :=
  ⟨⟨started dramOn 5 3 modeDesc, 5, 3, 2, modeDesc, by dsimp only; decide +kernel⟩,
   ⟨sSwitch 2, 0, 0, 2, by decide +kernel⟩,
   ⟨sSwitch 3, 0, 0, 2, by decide +kernel⟩,
   ⟨sSwitched, 0, 0, 2, by dsimp only; decide +kernel⟩⟩

/-! ## Memory piles -/

/-- REGION registers that hold one region, valid or of size 0. -/
def sTable (size : Nat) : State := (noon.rset (Fd.PIL_REGION_EN 0) 1).rset (Fd.PIL_REGION_SIZE_GIB 0) size |>.rset (Fd.PIL_REGION_MODE 0) 0
def sApplying : State := { (noon.rset Fd.PIL_MAP_CTL_BUSY 1) with pil.applying := [regionG] }
def sPScrub : State := noon.rset Fd.PIL_SCRUB_CTL_EN 1
/-- Channel 63 near the end of its pass. -/
def sPLast : State := { sPScrub with pil.scrubPos := [(63, chanSectors - 1)] }
def sRetire : State := { noon with pil.rowDue := [(63 * 48 + 47) * 32768 + 32767] }
def sCoils (n : Nat) : State := { noon with pil.coilsUsed := [(63 * 12 + 11, n)] }
def sPostponed (n : Nat) : State := { noon with pil.postponed := [(63 * 48 + 47, n)] }

/-- A state and operands for each clause of Obligations.Piles, part 1 of 3. -/
theorem witness_Piles_1 :
    (∃ (s : State), s.rget Fd.PIL_MAP_CTL_LOCK = 0 ∧ s.rget Fd.PIL_MAP_CTL_BUSY = 0 ∧ s.tableStatus s.regionTable = 0) ∧
    (∃ (s : State), s.rget Fd.PIL_MAP_CTL_LOCK = 0 ∧ s.rget Fd.PIL_MAP_CTL_BUSY = 0 ∧ s.tableStatus s.regionTable ≠ 0) ∧
    (∃ (s : State), s.rget Fd.PIL_MAP_CTL_LOCK = 0 ∧ s.rget Fd.PIL_MAP_CTL_BUSY = 1) ∧
    (∃ (s : State), s.rget Fd.PIL_MAP_CTL_PENDING = 1 ∧ s.rget Fd.PIL_MAP_CTL_BUSY = 0 ∧ s.tableStatus s.regionTable = 0) ∧
    (∃ (s : State), s.rget Fd.PIL_MAP_CTL_BUSY = 1 ∧ s.pil.held = []) ∧
    (∃ (s : State) (n : Nat), n < 16 ∧ (∀ c, c < s.channels → s.chanLost c = false)) ∧
    (∃ (s : State) (agent : Agent) (pa n : Nat) (r : Region) (bytes : List Byte), let ch := (chanAddr r s.channels pa).1;
      let a := (chanAddr r s.channels pa).2; physClass pa = .dram ∧ s.wrHeld pa 32 = false ∧ pa % 32 = 0 ∧ bytes.length = 32 ∧ s.physErr pa = none ∧
      s.regionOf pa = some (n, r) ∧ s.rget Fd.FLT_INJ_CTL_ARM = 0) ∧
    (∃ (s : State) (agent : Agent) (pa n : Nat) (r : Region) (bytes l : List Byte), let ch := (chanAddr r s.channels pa).1;
      let a := (chanAddr r s.channels pa).2; physClass pa = .dram ∧ s.rdHeld pa 32 = false ∧ pa % 32 = 0 ∧ bytes.length = 32 ∧ s.physErr pa = none ∧
      s.regionOf pa = some (n, r) ∧ s.chanPeek ch a 32 = .ok l) :=
  ⟨⟨sTable 1, by decide +kernel⟩,
   ⟨sTable 0, by decide +kernel⟩,
   ⟨sApplying, by decide +kernel⟩,
   ⟨(sTable 1).rset Fd.PIL_MAP_CTL_PENDING 1, by decide +kernel⟩,
   ⟨sApplying, by decide +kernel⟩,
   ⟨noon, 15, by decide +kernel⟩,
   ⟨dramOn, .host, 0x20, 0, regionG, List.replicate 32 9#8, by dsimp only; decide +kernel⟩,
   ⟨dramOn, .host, 0, 0, regionG, List.replicate 32 9#8, leBytes 8 0x1122334455667788 ++ List.replicate 24 0#8,
    by dsimp only; refine ⟨?_, ?_, ?_, ?_, ?_, ?_, ok_by ?_⟩ <;> decide +kernel⟩⟩

/-- A state and operands for each clause of Obligations.Piles, part 2 of 3. -/
theorem witness_Piles_2 :
    (∃ (s : State) (ch bank : Nat), ch < s.channels ∧ bank < 48 ∧ spGet (fun _ => 0) s.pil.postponed (ch * 48 + bank) < 8) ∧
    (∃ (s : State) (ch bank : Nat) (postpone : Bool), ch < s.channels ∧ bank < 48 ∧
      (postpone = false ∨ 8 ≤ spGet (fun _ => 0) s.pil.postponed (ch * 48 + bank))) ∧
    (∃ (s : State) (p : Nat), let band := if s.calFault (4 + p) then 3 else bandStep (s.rget (Fd.PIL_STAT_BAND p)) (s.pileEstimate p); p < s.piles) ∧
    (∃ (s : State) (ch n : Nat), let pos := spGet (fun _ => 0) s.pil.scrubPos ch; s.scrubbed ch = true ∧ s.endpointSwitching 3 (ch / 16) = false ∧
      s.rget Fd.PIL_SCRUB_CTL_EN = 1 ∧ s.scrubOpen ch = true ∧ n ≠ 0 ∧ pos + n < chanSectors) ∧
    (∃ (s : State) (ch n : Nat), let pos := spGet (fun _ => 0) s.pil.scrubPos ch; s.scrubbed ch = true ∧ s.endpointSwitching 3 (ch / 16) = false ∧
      s.rget Fd.PIL_SCRUB_CTL_EN = 1 ∧ s.scrubOpen ch = true ∧ n ≠ 0 ∧ pos ≤ chanSectors ∧ chanSectors ≤ pos + n) ∧
    (∃ (s : State) (ch bank row : Nat), ch < s.channels ∧ bank < 48 ∧ s.endpointSwitching 3 (ch / 16) = false ∧
      s.pil.rowDue.contains ((ch * 48 + bank) * 32768 + row) = true ∧ spGet (fun _ => 0) s.pil.rowsUsed (ch * 48 + bank) < 128) ∧
    (∃ (s : State) (ch layer coil : Nat), ch < s.channels ∧ 1 ≤ layer ∧ layer ≤ 12 ∧ spGet (fun _ => 0) s.pil.coilsUsed (ch * 12 + layer - 1) < 4) ∧
    (∃ (s : State) (ch layer coil : Nat), ch < s.channels ∧ 1 ≤ layer ∧ layer ≤ 12 ∧ 4 ≤ spGet (fun _ => 0) s.pil.coilsUsed (ch * 12 + layer - 1)) :=
  ⟨⟨sPostponed 7, 63, 47, by decide +kernel⟩,
   ⟨sPostponed 8, 63, 47, true, by decide +kernel⟩,
   ⟨noon, 3, by dsimp only; decide +kernel⟩,
   ⟨sPScrub, 63, 2, by dsimp only; decide +kernel⟩,
   ⟨sPLast, 63, 2, by dsimp only; decide +kernel⟩,
   ⟨sRetire, 63, 47, 32767, by decide +kernel⟩,
   ⟨sCoils 3, 63, 12, 1, by decide +kernel⟩,
   ⟨sCoils 4, 63, 12, 1, by decide +kernel⟩⟩

/-- A state and operands for each clause of Obligations.Piles, part 3 of 3. -/
theorem witness_Piles_3 :
    (∃ (s : State) (ch unit : Nat), ch < s.channels ∧ unit ∈ [0, 1, 3]) ∧
    (∃ (s : State) (p : Nat), p < s.piles ∧ s.switching = none) :=
  ⟨⟨noon, 63, 3, by decide +kernel⟩,
   ⟨noon, 3, by decide +kernel⟩⟩

/-! ## The package network -/

def sFdrain : State := noon.modFr 7 (fun q => { q with stubFenced := true, draining := true })
def sPending : State := { (noon.rset Fd.PNW_SLOT_CTL_PENDING 16) with pnw.latched := 16 }
/-- A link of the network is being retrained. -/
def sRetrain (l : Nat) : State := { noon with pnw.retraining := [l] }
/-- The tower-to-hub link of tower 3 has used its two spare lanes. -/
def sSpares : State := { (sRetrain 43) with pnw.lanesBad := [(43, 2)] }
def reqA : NetReq := ⟨0, .dma, 0, 0, .scrub⟩
def reqB : NetReq := ⟨1, .dma, 300, 0, .scrub⟩

/-- A state and operands for each clause of Obligations.Network, part 1 of 2. -/
theorem witness_Network_1 :
    (∃ (s : State) (l : Nat) (req : Option CrossReq), let u := s.crcFailed l;
      let v := if 40 ≤ l ∧ l < 44 then u.radd (Fd.PNW_LINK_STAT_REPLAYS (linkTower l)) 1 else u; s.towerUp (linkTower l) = true ∧
      s.rget Fd.FLT_INJ_CTL_ARM = 0 ∧ (req.isSome = true → s.queueFull l = false)) ∧
    (∃ (s : State) (l lane : Nat), l < 10 * s.towers ∧ s.pnw.retraining.contains l = true ∧ s.linkRetired (l / 10) (l % 10) = false ∧
      spGet (fun _ => 0) s.pnw.lanesBad l = 0 ∧ s.queue l = []) ∧
    (∃ (s : State) (l : Nat), s.pnw.retraining.contains l = true ∧ s.queue l = []) ∧
    (∃ (s : State) (t lane : Nat), t < s.towers ∧ s.pnw.retraining.contains (40 + t) = true ∧ spGet (fun _ => 0) s.pnw.lanesBad (40 + t) = 2 ∧
      s.rget (Fd.PNW_LINK_STAT_FENCED t) = 0 ∧ s.queue (40 + t) = []) ∧
    (∃ (s : State) (t : Nat), s.towerUp t = true ∧ s.fencedIn (.tower t) = false ∧ s.switching = none) ∧
    (∃ (s : State) (t q : Nat), s.towerUp t = true ∧ q < 4 ∧ s.fencedIn (.frond (4 * t + q)) = false ∧ s.switching = none) ∧
    (∃ (s : State) (t i : Nat), s.towerUp t = true ∧ i < 25) ∧
    (∃ (s : State) (f : Nat), f < s.fronds ∧ (s.fr f).stubFenced = true ∧ (s.fr f).draining = true) :=
  ⟨⟨noon, 43, some ⟨.host, 0⟩, by dsimp only; decide +kernel⟩,
   ⟨sRetrain 39, 39, 5, by decide +kernel⟩,
   ⟨sRetrain 43, 43, by decide +kernel⟩,
   ⟨sSpares, 3, 79, by decide +kernel⟩,
   ⟨noon, 3, by decide +kernel⟩,
   ⟨noon, 3, 3, by decide +kernel⟩,
   ⟨noon, 3, 24, by decide +kernel⟩,
   ⟨sFdrain, 7, by decide +kernel⟩⟩

/-- A state and operands for each clause of Obligations.Network, part 2 of 2. -/
theorem witness_Network_2 :
    (∃ (s : State) (f : Nat), f < s.fronds ∧ (s.fr f).stubFenced = false ∧ s.moving f = false) ∧
    (∃ (s : State) (f : Nat), (s.fr f).draining = true ∧ (s.fr f).drainAt + 2500 ≤ s.clock) ∧
    (∃ (s : State) (k i : Nat) (reqs : List NetReq) (q : NetReq), let x := s.inst k i; let lv := s.reqLevel k i q; k < 5 ∧ i < s.instances k ∧
      s.grantWinner k i reqs = some q) ∧
    (∃ (s : State) (k i : Nat), k < 5 ∧ i < s.instances k) ∧
    (∃ (s : State) (k w : Nat), k < 5 ∧ w < 4 ∧ s.rget Fd.PNW_SLOT_CTL_LOCK = 0 ∧ nbit (s.rget Fd.PNW_SLOT_CTL_PENDING) k = false ∧ (∀ i,
      i < 4 → slotBad (s.rget (Fd.PNW_SLOT_SLOTS k i)) = false)) ∧
    (∃ (s : State) (k i : Nat), k < 5 ∧ i < 4 ∧ s.rget Fd.PNW_SLOT_CTL_LOCK = 0 ∧ nbit (s.rget Fd.PNW_SLOT_CTL_PENDING) k = false ∧
      slotBad (s.rget (Fd.PNW_SLOT_SLOTS k i)) = true) ∧
    (∃ (s : State) (bits : Nat), s.rget Fd.PNW_SLOT_CTL_LOCK = 1) ∧
    (∃ (s : State) (k w : Nat), k < 5 ∧ w < 4 ∧ nbit s.pnw.latched k = true ∧ s.pnw.latched < 32 ∧ nbit (s.rget Fd.PNW_SLOT_CTL_PENDING) k = true ∧
      (∀ i, i < 4 → slotBad (s.rget (Fd.PNW_SLOT_SLOTS k i)) = false)) :=
  ⟨⟨noon, 7, by decide +kernel⟩,
   ⟨sFdrain, 7, by decide +kernel⟩,
   ⟨noon, 4, 0, [reqA, reqB], reqA, by dsimp only; decide +kernel⟩,
   ⟨noon, 4, 0, by decide +kernel⟩,
   ⟨noon, 4, 3, by decide +kernel⟩,
   ⟨noon.rset (Fd.PNW_SLOT_SLOTS 4 3) 8, 4, 3, by decide +kernel⟩,
   ⟨noon.rset Fd.PNW_SLOT_CTL_LOCK 1, 31, by decide +kernel⟩,
   ⟨sPending, 4, 3, by decide +kernel⟩⟩

end Sys2Proof.Tests
end

