-- ==== Sys2Proof/Tests/WitnessHost.lean ====
section
/-!
SUPPORT. For every statement about the host port, rings, sessions and sori: states and operands that meet its hypotheses, clause by clause.
-/

namespace Sys2Proof.Tests

set_option Elab.async false
set_option linter.unusedVariables false

open Sys2Proof Sys2Proof.Machine

/-! ## The host port -/

def sIde : State := noon.setIde 5 ⟨some [], none, some 0⟩
def sDown : State := { (noon.rset Fd.HPT_LINK_STAT_UP 0) with hpt.downSince := some 5 }
def sSide : State := noon.rset Fd.HPT_LINK_STAT_SIDEBAND 1

/-- A state and operands for each clause of Obligations.HostPort. -/
theorem witness_HostPort :
    (∃ (s : State), s.hostUp = true) ∧
    (∃ (s : State), s.hostUp = false ∧ s.hpt.downSince.isSome = true) ∧
    (∃ (s : State) (n : Nat), n < 6 ∧ s.ideSecure n = true) ∧
    (∃ (s : State) (rate width : Nat), s.perstOn = false ∧ s.hostUp = false ∧ (s.atNoon = true ∨ s.twilight = true) ∧ (rate = 1 ∨ rate = 2) ∧
      (width = 4 ∨ width = 8 ∨ width = 16)) ∧
    (∃ (s : State) (p : Bool), s.rget Fd.HPT_LINK_STAT_SIDEBAND = 1 ∧ (p = false ∨ s.hpt.perst = true)) ∧
    (∃ (s : State), s.rget Fd.HPT_LINK_STAT_SIDEBAND = 1 ∧ s.hpt.perst = false) ∧
    (∃ (s : State), s.rget Fd.HPT_LINK_STAT_SIDEBAND = 1) :=
  ⟨⟨noon, by decide +kernel⟩,
   ⟨sDown, by decide +kernel⟩,
   ⟨sIde, 5, by decide +kernel⟩,
   ⟨sDown, 2, 16, by decide +kernel⟩,
   ⟨{ sSide with hpt.perst := true }, true, by decide +kernel⟩,
   ⟨sSide, by decide +kernel⟩,
   ⟨sSide, by decide +kernel⟩⟩

/-- Half a GiB of DRAM exposed as it stands. -/
def sHdm : State := { dramOn with hpt.hdm0 := ⟨true, false, 0x100000000, 0x20000000, 1, 256⟩ }
def line0 : List Byte := List.replicate 64 0#8
def line3 : List Byte := List.replicate 64 3#8
def sTdiError : State := sHdm.rset Fd.SEC_TDI_STATE 3

/-- A state and operands for each clause of Obligations.ExposedMemory. -/
theorem witness_ExposedMemory :
    (∃ (s : State) (n base size ways gran : Nat), n < 2 ∧ s.tdiLocked = false ∧ [1, 2, 4, 8].contains ways = true ∧ [256, 512, 1024, 2048, 4096,
      8192, 16384].contains gran = true ∧ size / ways + (s.hdm (1 - n)).span ≤ 64 * 2 ^ 30 ∧
      s.hdmBase + (size / ways + (s.hdm (1 - n)).span) ≤ s.part.dramGib * 2 ^ 30) ∧
    (∃ (s u : State) (hpa d : Nat) (bytes l : List Byte), s.hostUp = true ∧ s.twilight = false ∧ bytes.length = 64 ∧ hpa % 64 = 0 ∧ s.tdi ≠ 3 ∧
      s.hdmDecode hpa = some d ∧ s.rdHeld (s.hdmBase + d) 64 = false ∧ s.read (s.hdmBase + d) 64 = (u, .ok l)) ∧
    (∃ (s u : State) (hpa d : Nat) (bytes : List Byte), s.hostUp = true ∧ s.twilight = false ∧ bytes.length = 64 ∧ hpa % 64 = 0 ∧ s.tdi ≠ 3 ∧
      s.hdmDecode hpa = some d ∧ s.wrHeld (s.hdmBase + d) 64 = false ∧ s.write (s.hdmBase + d) bytes = (u, none)) ∧
    (∃ (s : State) (hpa : Nat) (wr : Bool) (bytes : List Byte), s.hostUp = true ∧ s.twilight = false ∧ bytes.length = 64 ∧ hpa % 64 = 0 ∧ s.tdi = 3) :=
  ⟨⟨noon, 1, 0x100000000, 0x20000000, 8, 16384, by decide +kernel⟩,
   (by refine ⟨sHdm, _, 0x100000000, 0, line0, _, ?_, ?_, ?_, ?_, ?_, ?_, (by decide +kernel), both_eq (d := []) ?_⟩ <;> decide +kernel),
   ⟨sHdm, (sHdm.write (sHdm.hdmBase + 0x1FFFFFC0) line3).1, 0x11FFFFFC0, 0x1FFFFFC0, line3,
    by refine ⟨?_, ?_, ?_, ?_, ?_, ?_, (by decide +kernel), pair_eq ?_⟩ <;> decide +kernel⟩,
   ⟨sTdiError, 0x100000000, false, line0, by decide +kernel⟩⟩

/-! ## Rings -/

/-- Ring 5 with its bases, in a state. -/
def ringOn (st : Nat) : State :=
  ((noon.rset (Fd.RNG_SQ_BASE_BASE 5) 0x100).rset (Fd.RNG_CQ_BASE_BASE 5) 0x200).rset (Fd.RNG_CTL_STATE 5) st
def sTail : State := (ringOn 1).rset (Fd.RNG_STAT_SQ_TAIL 5) 1
def sFetched (d : Desc) : State := (ringOn 1).modRing 5 (fun q => { q with fetched := [(3, d)] })

/-- A state and operands for each clause of Obligations.RingControl. -/
theorem witness_RingControl :
    (∃ (s : State) (r : Nat), s.ringWriteOff r = none ∧ s.ringState r = 0 ∧ (s.rset (Fd.RNG_CTL_ENABLE r) 1).ringOk r = true) ∧
    (∃ (s : State) (r : Nat), s.ringWriteOff r = none ∧ s.ringState r = 0 ∧ (s.rset (Fd.RNG_CTL_ENABLE r) 1).ringOk r = false) ∧
    (∃ (s : State) (r : Nat), s.ringWriteOff r = none ∧ s.ringState r = 1 ∧ s.sor.waits = []) ∧
    (∃ (s : State) (r : Nat), s.ringState r = 2 ∧ (s.ring r).started = [] ∧ (s.ring r).done = [] ∧ s.rget (Fd.RNG_CTL_PEND r) = 0) ∧
    (∃ (s : State) (r v : Nat) (image : List (Nat × List Byte)), r < 1024 ∧ s.twilight = false ∧ s.ringState r = 1 ∧
      sub32 (v % 2 ^ 32) (s.rget (Fd.RNG_STAT_SQ_TAIL r)) < 2 ^ 31 ∧ sub32 (v % 2 ^ 32) (s.rget (Fd.RNG_STAT_SQ_HEAD r)) ≤ s.ringN r) ∧
    (∃ (s : State) (r v : Nat), r < 1024 ∧ s.twilight = false ∧ s.ringState r ≠ 0 ∧
      sub32 (s.rget (Fd.RNG_CSTAT_CQ_TAIL r)) (v % 2 ^ 32) ≤ s.ringN r ∧ sub32 (v % 2 ^ 32) (s.rget (Fd.RNG_CSTAT_CQ_HEAD r)) < 2 ^ 31) :=
  ⟨⟨ringOn 0, 5, by decide +kernel⟩,
   ⟨noon, 5, by decide +kernel⟩,
   ⟨sFetched desc0, 5, by decide +kernel⟩,
   ⟨ringOn 2, 5, by decide +kernel⟩,
   ⟨ringOn 1, 5, 1, [(0x100000, [5#8])], by decide +kernel⟩,
   ⟨(ringOn 1).rset (Fd.RNG_CSTAT_CQ_TAIL 5) 3, 5, 2, by decide +kernel⟩⟩

/-- A state and operands for each clause of Obligations.DescriptorFlow. -/
theorem witness_DescriptorFlow :
    (∃ (s : State) (cp r : Nat) (l : List Byte), let head := s.rget (Fd.RNG_STAT_SQ_HEAD r);
      let n := min 8 (min (sub32 (s.rget (Fd.RNG_STAT_SQ_TAIL r)) head) (s.ringN r - head % s.ringN r)); s.hostUp = true ∧ s.nextRing cp = some r ∧
      s.hostRead (s.rget (Fd.RNG_SQ_BASE_BASE r) * 4096 + (head % s.ringN r) * 64) (64 * n) = .ok l) ∧
    (∃ (s : State) (r i : Nat) (d : Desc) (rest : List (Nat × Desc)),
      let free := (s.ring r).started.length + (s.ring r).done.length + sub32 (s.rget (Fd.RNG_CSTAT_CQ_TAIL r)) (s.rget (Fd.RNG_CSTAT_CQ_HEAD r));
      let u := s.setRing r { s.ring r with fetched := rest, started := (s.ring r).started ++ [⟨i, d, false, 0, 0, 0, 0, s.schedMask⟩] };
      (s.ring r).fetched = (i, d) :: rest ∧ s.ringState r = 1 ∧ (s.ring r).fenced = false ∧ (d.f 0 18 18 = 0 ∨ (s.ring r).started = []) ∧
      (d.cls ≠ 0 ∨ d.op ≠ 1 ∨ (s.ring r).started = []) ∧ free < s.ringN r ∧ (s.ring r).started.length < 64 ∧
      s.cpLoad (s.rget (Fd.RNG_CTL_CP r)) < 4096 ∧ s.rget Fd.HUB_CONN_STAT_RM_PHASE = 0) :=
  ⟨⟨sTail, 0, 5, List.replicate 64 0#8, by dsimp only; refine ⟨?_, ?_, ok_by ?_⟩ <;> decide +kernel⟩,
   ⟨sFetched desc0, 5, 3, desc0, [], by dsimp only; decide +kernel⟩⟩

def compl (c : Bool) : Compl := ⟨3, 7, 0, 0, 0, 0, true, c⟩
def sFinished (c : Bool) : State := (ringOn 1).modRing 5 (fun q => { q with done := [compl c] })
def sTimer : State :=
  { (((ringOn 1).rset (Fd.RNG_IRQ_IRQ_EN 5) 1).modRing 5 (fun q => { q with pendCnt := 1, pendAt := some 0 })) with hpt.msix := [(1, 0#64)] }

/-- A state and operands for each clause of Obligations.CompletionWrite. -/
theorem witness_CompletionWrite :
    (∃ (s : State) (r : Nat) (c : Compl) (rest : List Compl), let tail := s.rget (Fd.RNG_CSTAT_CQ_TAIL r);
      let addr := s.rget (Fd.RNG_CQ_BASE_BASE r) * 4096 + (tail % s.ringN r) * 32; (s.ring r).done = c :: rest ∧ (c.status ≠ 0 ∨ c.cmpl = true) ∧
      s.hostUp = true ∧ sub32 tail (s.rget (Fd.RNG_CSTAT_CQ_HEAD r)) < s.ringN r ∧ s.hostFail addr 32 = none) ∧
    (∃ (s : State) (r : Nat) (c : Compl) (rest : List Compl), (s.ring r).done = c :: rest ∧ c.status = 0 ∧ c.cmpl = false) ∧
    (∃ (s : State) (r c : Nat), (s.ring r).pendAt = some c ∧ s.rget (Fd.RNG_IRQ_IRQ_EN r) = 1 ∧ 25 * s.rget (Fd.RNG_IRQ_TIME_US r) ≤ s.clock - c ∧
      s.hostUp = true ∧ s.msiMasked (s.rget (Fd.RNG_IRQ_VECTOR r)) = false) :=
  ⟨⟨sFinished true, 5, compl true, [], by dsimp only; decide +kernel⟩,
   ⟨sFinished false, 5, compl false, [], by decide +kernel⟩,
   ⟨sTimer, 5, 0, by decide +kernel⟩⟩

def ctlDesc (op w1 : Nat) : Desc := ⟨BitVec.ofNat 64 op, BitVec.ofNat 64 w1, 0x200040#64, 1#64, 0#64, 0#64, 0#64, 0#64⟩
/-- The same started as descriptor 3 of ring 5. -/
def ctlStarted (op w1 : Nat) : Started := ⟨3, ctlDesc op w1, false, 0, 0, 0, 0, 0⟩
def ctlOn (s : State) (op w1 : Nat) : State := started s 5 3 (ctlDesc op w1)
def image0 : Image := ⟨0, 0, 0x200000, 8, none⟩
/-- An image's header and code at 0x200000. -/
def codeCrc : Nat := crc32 (List.replicate 8 0#8)
def header0 : List Byte := leBytes 4 0x4A444646 ++ leBytes 4 1 ++ leBytes 4 8 ++ leBytes 4 codeCrc ++ List.replicate 48 0#8
def sImage : State := { (ctlOn noon 0x11 0x200000) with mem.thl := memPutN tables 0x400000 header0 }
def sLoaded : State := { (ctlOn noon 0x10 1) with hpt.images := [image0] }
def sUnload : State := { (ctlOn noon 0x12 0) with hpt.images := [image0] }
def sRingMask : State := noon.rset (Fd.FRD_DMA_CTL_RING_MASK 0) 0x8000

/-- A state and operands for each clause of Obligations.ControlDescriptors. -/
theorem witness_ControlDescriptors :
    (∃ (s : State) (r i op : Nat) (d : Desc) (c : Instr), (c, op) ∈ [(Instr.nop r i, 0), (.fence r i, 1)] ∧ s.opOf r i 0 op = some d) ∧
    (∃ (s : State) (r i : Nat) (d : Desc), let v := (List.range s.fronds).foldl (fun s f => s.sbDrain f) s;
      let w := v.xlatInv (d.f 1 12 12 == 1) (d.f 1 13 13 == 1) (d.f 1 11 0) (alignDown (d.f 2 47 0) 65536) (alignUp (d.f 2 47 0 + d.f 3 47 0) 65536);
      s.opOf r i 0 2 = some d ∧ (List.range s.fronds).any s.sbHeld = false ∧ v.opOf r i 0 2 = some d) ∧
    (∃ (s : State) (r i f : Nat) (d : Desc) (st : Started) (m : Image),
      let l := { d.launch (s.ringAsid r) (s.ringTenant r) r i with image := m.handle }; s.opOf r i 1 0 = some d ∧ (s.ring r).find i = some st ∧
      d.f 1 16 16 = 0 ∧ bitsOf 16 (d.f 1 15 0) = [f] ∧ s.frondUp f = true ∧ s.launchRoom f = true ∧ s.imageAt l.asid l.entry = some m ∧
      s.rget (Fd.FRD_ASPACE_BASE_EN f) = 1 ∧ s.launchBad f l = false ∧ s.awake f = true) ∧
    (∃ (s : State) (r i n crc k : Nat) (d : Desc) (h code : List Byte), let u := s.execRead (s.ringAsid r) (s.ringTenant r) (d.f 1 47 0) 64;
      let v := u.1.execRead (s.ringAsid r) (s.ringTenant r) (d.f 1 47 0 + 64) n; s.opOf r i 1 1 = some d ∧ u.2 = some h ∧ imageHeader h = some (n,
      crc) ∧ u.1.ringAsid r = s.ringAsid r ∧ u.1.ringTenant r = s.ringTenant r ∧ v.2 = some code ∧ crc32 code = crc ∧ v.1.ringAsid r = s.ringAsid r ∧
      v.1.waited = false ∧
      v.1.hpt.images.any (fun m => m.asid == s.ringAsid r && decide (m.va < d.f 1 47 0 + n) && decide (d.f 1 47 0 < m.va + m.len)) = false ∧
      (List.range 256).find? (fun k => !v.1.hpt.images.any (fun m => m.handle == k)) = some k) ∧
    (∃ (s : State) (r i k : Nat) (st : Started) (m : Image), (s.ring r).find i = some st ∧ st.d.cls = 1 ∧ st.d.op = 2 ∧ st.d.f 1 7 0 = k ∧
      s.hpt.images.find? (fun x => x.handle == k && x.asid == s.ringAsid r && (x.unload.isNone || x.unload == some (r, i))) = some m ∧
      s.imageUsed k = false) ∧
    (∃ (s : State) (r i op c : Nat) (d : Desc) (x : Instr), (x, op) ∈ [(Instr.ringCopy r i, 1), (.ringFill r i, 2)] ∧ s.opOf r i 3 op = some d ∧
      s.frondUp (d.f 1 3 0) = true ∧ s.waited = false ∧ (d.f 1 10 10 = 0 ∨ (reduceReserved (d.f 1 17 14) (d.f 1 19 18) = false ∧
      s.dstInDram (s.ringAsid r) (s.ringTenant r) (d.f 3 47 0) (d.f 4 31 0) = true)) ∧ s.ringChannel (d.f 1 3 0) = some c ∧
      (s.dma (d.f 1 3 0) c).queue.length < 16 ∧ s.awake (d.f 1 3 0) = true) ∧
    (∃ (s : State) (r i op c : Nat) (d : Desc) (x : Instr), (x, op) ∈ [(Instr.ringCopy r i, 1), (.ringFill r i, 2)] ∧ s.opOf r i 3 op = some d ∧
      s.frondUp (d.f 1 3 0) = true ∧ s.waited = false ∧ (d.f 1 10 10 = 0 ∨ (reduceReserved (d.f 1 17 14) (d.f 1 19 18) = false ∧
      s.dstInDram (s.ringAsid r) (s.ringTenant r) (d.f 3 47 0) (d.f 4 31 0) = true)) ∧ s.ringChannel (d.f 1 3 0) = some c ∧
      (s.dma (d.f 1 3 0) c).queue.length < 16 ∧ s.awake (d.f 1 3 0) = true) :=
  ⟨⟨ctlOn noon 1 0, 5, 3, 1, ctlDesc 1 0, .fence 5 3, by refine ⟨.tail _ (.head _), ?_⟩ <;> decide +kernel⟩,
   ⟨ctlOn noon 2 0x3000, 5, 3, ctlDesc 2 0x3000, by dsimp only; decide +kernel⟩,
   ⟨sLoaded, 5, 3, 0, ctlDesc 0x10 1, ctlStarted 0x10 1, image0, by dsimp only; decide +kernel⟩,
   ⟨sImage, 5, 3, 8, codeCrc, 0, ctlDesc 0x11 0x200000, header0, List.replicate 8 0#8, by dsimp only; decide +kernel⟩,
   ⟨sUnload, 5, 3, 0, ctlStarted 0x12 0, image0, by decide +kernel⟩,
   ⟨ctlOn sRingMask 0x31 0, 5, 3, 1, 15, ctlDesc 0x31 0, .ringCopy 5 3,
    by refine ⟨.head _, ?_, ?_, ?_, ?_, ?_, (by decide +kernel), ?_⟩ <;> decide +kernel⟩,
   ⟨ctlOn sRingMask 0x32 0, 5, 3, 2, 15, ctlDesc 0x32 0, .ringFill 5 3,
    by refine ⟨.tail _ (.head _), ?_, ?_, ?_, ?_, ?_, (by decide +kernel), ?_⟩ <;> decide +kernel⟩⟩

/-! ## Sessions -/

/-- Session memory: the directory entry, two page entries, two words of the free stack, a batch and a plan. -/
def sesMem : List Host.Cell :=
  [(0x310000, 0x80000002), (0x320000, 0x80000003), (0x320004, 0x80000005), (0x300024, 6), (0x300020, 7), (0x201000, 5), (0x202000, 2)].foldl
    (fun m p => memPutN m p.1 (leBytes 4 p.2)) tables
/-- Pool 1, and slot 5 with 16 tokens of it. -/
def sesSlot : Slot := { Slot.init with st := .resident, bound := true, pool := 1, tb := 12, tokens := 16, dir := 1 }
def sesOn (q : Slot) : State := (({ noon with mem.thl := sesMem } : State).setPool 1 ⟨true, 0, 0, 0x100000, 16, 10⟩).setSlot 5 q
def sesDesc (op w1 : Nat) : Desc := ⟨BitVec.ofNat 64 (0x20 + op), BitVec.ofNat 64 w1, 0#64, 0x10000#64, 0#64, 0#64, 0#64, 0#64⟩
def sesStarted (op w1 : Nat) : Started := ⟨3, sesDesc op w1, false, 0, 0, 0, 0, 0⟩
def sesState (q : Slot) (op : Nat) : State := started (sesOn q) 5 3 (sesDesc op 5)
def sOpen : State := started ((sesOn sesSlot).rset Fd.SEC_STAT_RNG_OK 1) 5 3 (sesDesc 0 0x20006)
def sPend (st : SlotSt) (op : Nat) : State := sesState { sesSlot with st := st, pend := some (5, 3) } op
def sStopped : State :=
  let s := sesState { sesSlot with st := .parking, seq := some (5, 3) } 3
  { s with ses.stopped := [5] }

/-- A state and operands for each clause of Obligations.SessionSlots, part 1 of 2. -/
theorem witness_SessionSlots_1 :
    (∃ (s u v : State) (r i x page : Nat) (d : Desc) (key : List Byte), let k := d.f 1 22 17; s.opOf r i 2 0 = some d ∧ s.sesUp = true ∧
      s.secSwitching = false ∧ ((d.f 1 16 16 = 1 ∧ s.freeSlot = some x) ∨ (d.f 1 16 16 = 0 ∧ x = d.f 1 15 0 ∧ (s.slot x).st = .free ∧
      (s.slot x).recBad = false ∧ (s.slot x).pend = none)) ∧ s.tenantErasing (s.ringTenant r) = false ∧ (s.pool k).valid = true ∧
      (s.pool k).tenant = s.ringTenant r ∧ (s.pool k).asid = s.ringAsid r ∧ s.newKey = some (u, key) ∧ u.popPage k = (v, .ok page) ∧
      v.waited = false) ∧
    (∃ (s : State) (r i : Nat) (d : Desc), let x := d.f 1 15 0; let v := (s.modSlot x (fun q => { q with key := none })).returnAll x;
      s.opOf r i 2 1 = some d ∧ s.sesUp = true ∧ (s.slot x).st = .resident ∧ (s.slot x).recBad = false ∧ s.boundOk x r 1 = true ∧
      (s.slot x).pend = none ∧ v.1.waited = false) ∧
    (∃ (s : State) (r i : Nat) (d : Desc), let x := d.f 1 15 0; let q := s.slot x; let n := d.f 2 23 0;
      let v := s.returnPages x (q.entries n) (q.entries q.tokens) (listsOf (q.entries n)) (listsOf (q.entries q.tokens)) false;
      s.opOf r i 2 5 = some d ∧ s.sesUp = true ∧ q.st = .resident ∧ q.recBad = false ∧ s.boundOk x r 5 = true ∧ n ≤ q.tokens ∧ v.2.2 = true ∧
      q.pend = none ∧ v.1.waited = false) ∧
    (∃ (s : State) (r i : Nat) (d : Desc), s.opOf r i 2 6 = some d ∧ s.sesUp = true ∧ (s.slot (d.f 1 15 0)).recBad = false ∧ s.waited = false ∧
      s.boundOk (d.f 1 15 0) r 6 = true) ∧
    (∃ (s : State) (r i upset : Nat) (d : Desc), let x := d.f 1 15 0; s.opOf r i 2 6 = some d ∧ s.sesUp = true ∧ s.waited = false ∧ upset ≠ 0 ∧
      (s.slot x).st ≠ .lost) ∧
    (∃ (s : State) (r i op : Nat) (d : Desc) (c : Instr), let x := d.f 1 15 0; (c, op) ∈ [(Instr.close r i 0, 1), (.park r i, 3), (.resume r i, 4),
      (.truncate r i, 5)] ∧ s.opOf r i 2 op = some d ∧ s.sesUp = true ∧ (s.slot x).recBad = false ∧ s.waited = false ∧ s.boundOk x r op = false) ∧
    (∃ (s : State) (r i op : Nat) (d : Desc) (c : Instr) (code : Nat), let x := d.f 1 15 0; (c, op) ∈ [(Instr.close r i 0, 1), (.park r i, 3),
      (.resume r i, 4), (.truncate r i, 5)] ∧ s.opOf r i 2 op = some d ∧ s.sesUp = true ∧ (s.slot x).recBad = false ∧ s.waited = false ∧
      s.boundOk x r op = true ∧ slotTable (s.slot x).st op = .refuse code) ∧
    (∃ (s : State) (r i op : Nat) (d : Desc) (c : Instr), let x := d.f 1 15 0; (c, op) ∈ [(Instr.close r i 0, 1), (.park r i, 3), (.resume r i, 4),
      (.truncate r i, 5)] ∧ s.opOf r i 2 op = some d ∧ s.sesUp = true ∧ (s.slot x).recBad = false ∧ s.waited = false ∧ s.boundOk x r op = true ∧
      slotTable (s.slot x).st op = .latch ∧ (s.slot x).pend = none) :=
  ⟨(by refine ⟨sOpen, _, _, 5, 3, 6, _, sesDesc 0 0x20006, _, ?_, ?_, ?_, ?_, ?_, ?_, (by decide +kernel), ?_, some_eq (d := (sOpen, [])) ?_, both_eq (d := 0) ?_, ?_⟩ <;> decide +kernel),
   ⟨sesState sesSlot 1, 5, 3, sesDesc 1 5, by dsimp only; decide +kernel⟩,
   ⟨sesState sesSlot 5, 5, 3, sesDesc 5 5, by dsimp only; decide +kernel⟩,
   ⟨sesState sesSlot 6, 5, 3, sesDesc 6 5, by decide +kernel⟩,
   ⟨sesState sesSlot 6, 5, 3, 2, sesDesc 6 5, by dsimp only; decide +kernel⟩,
   ⟨sesState { sesSlot with tenant := 3 } 1, 5, 3, 1, sesDesc 1 5, .close 5 3 0,
    by dsimp only; refine ⟨.head _, ?_, ?_, ?_, ?_, ?_⟩ <;> decide +kernel⟩,
   ⟨sesState { sesSlot with st := .lost } 3, 5, 3, 3, sesDesc 3 5, .park 5 3, 2,
    by dsimp only; refine ⟨.tail _ (.head _), ?_, ?_, ?_, ?_, ?_, ?_⟩ <;> decide +kernel⟩,
   ⟨sesState { sesSlot with st := .stepping } 5, 5, 3, 5, sesDesc 5 5, .truncate 5 3,
    by dsimp only; refine ⟨.tail _ (.tail _ (.tail _ (.head _))), ?_, ?_, ?_, ?_, ?_, (by decide +kernel), ?_⟩ <;> decide +kernel⟩⟩

/-- A state and operands for each clause of Obligations.SessionSlots, part 2 of 2. -/
theorem witness_SessionSlots_2 :
    (∃ (s : State) (r i op : Nat) (d : Desc) (c : Instr), let x := d.f 1 15 0; (c, op) ∈ [(Instr.close r i 0, 1), (.park r i, 3), (.resume r i, 4),
      (.truncate r i, 5)] ∧ s.opOf r i 2 op = some d ∧ s.sesUp = true ∧ (s.slot x).recBad = false ∧ s.waited = false ∧ s.boundOk x r op = true ∧
      slotTable (s.slot x).st op = .latch ∧ (s.slot x).pend.isSome = true) ∧
    (∃ (s : State) (x r i : Nat) (st : Started), let u := (s.modSlot x (fun q => { q with pend := none })).slotGo x r i st.d.op st.d;
      (s.slot x).pend = some (r, i) ∧ (s.ring r).find i = some st ∧ s.sesUp = true ∧ (s.slot x).recBad = false ∧
      slotTable (s.slot x).st st.d.op = .start ∧ u.waited = false) ∧
    (∃ (s : State) (x r i c : Nat) (st : Started), (s.slot x).pend = some (r, i) ∧ (s.ring r).find i = some st ∧ s.sesUp = true ∧
      (s.slot x).recBad = false ∧ slotTable (s.slot x).st st.d.op = .refuse c ∧ s.waited = false) ∧
    (∃ (s : State), s.sesUp = true ∧ s.ses.stopped = [] ∧ s.waited = false) ∧
    (∃ (s : State) (x r i : Nat) (st : Started),
      let u := ({ s with ses := { s.ses with stopped := [], downSaid := false } } : State).dropFence (.engine (sesLoc 4 0xFFFF)); s.sesUp = true ∧
      s.ses.stopped = [x] ∧ (s.slot x).seq = some (r, i) ∧ (s.ring r).find i = some st ∧ (s.slot x).st = .parking ∧ s.hostUp = true ∧
      ((u.modSlot x (fun q => { q with st := .resident })).parkGo x r i st.d).waited = false) :=
  ⟨⟨sesState { sesSlot with st := .parking, pend := some (7, 1) } 4, 5, 3, 4, sesDesc 4 5, .resume 5 3,
    by dsimp only; refine ⟨.tail _ (.tail _ (.head _)), ?_, ?_, ?_, ?_, ?_, (by decide +kernel), ?_⟩ <;> decide +kernel⟩,
   ⟨sPend .resident 1, 5, 5, 3, sesStarted 1 5, by dsimp only; decide +kernel⟩,
   ⟨sPend .lost 3, 5, 5, 3, 2, sesStarted 3 5, by decide +kernel⟩,
   ⟨noon, by decide +kernel⟩,
   ⟨sStopped, 5, 5, 3, sesStarted 3 5, by dsimp only; decide +kernel⟩⟩

def sPark : State := (sesState { sesSlot with tokens := 0 } 3).setTenantKey 0 (some [])
/-- The header of a parked image in host memory, with its tag. -/
def parkedSlot : Slot := { sesSlot with tokens := 0, st := .parked }
def parkedHdr : List Byte := parkedSlot.hdr 5
def parkedImage : List Byte := parkedHdr ++ gcmTag [] (slice parkedHdr 0x0C 4 ++ leBytes 4 0xFFFFFFFF ++ leBytes 4 0) parkedHdr []
def sResume : State :=
  { ((sesState parkedSlot 4).setTenantKey 0 (some [])) with mem.host := (List.range 128).map (fun i => (i, parkedImage.getD i 0#8)) }
set_option maxRecDepth 20000 in
theorem resume_header : sResume.hostRead ((sesDesc 4 5).f 2 63 0) 0x80 = .ok parkedImage := by rfl
set_option maxRecDepth 20000 in
theorem resume_tag : gcmTag ((sResume.slot ((sesDesc 4 5).f 1 15 0)).key.getD []) (slice parkedImage 0x0C 4 ++ leBytes 4 0xFFFFFFFF ++ leBytes 4 0)
    (parkedImage.take 0x70) [] = parkedImage.drop 0x70 := by rfl

/-- A state and operands for each clause of Obligations.ParkAndResume. -/
theorem witness_ParkAndResume :
    (∃ (s v w : State) (r i : Nat) (d : Desc), let x := d.f 1 15 0; let q := s.slot x; let np := q.entries q.tokens;
      let h := (s.hold x r i).modSlot x (fun q => { q with st := .parking, parkCount := (q.parkCount + 1) % 2 ^ 32, image := imageSize np });
      let key := q.key.getD []; let hdr := (h.slot x).hdr x; s.opOf r i 2 3 = some d ∧ s.sesUp = true ∧ q.st = .resident ∧ q.recBad = false ∧
      s.boundOk x r 3 = true ∧ q.pend = none ∧ s.hostUp = true ∧ w.waited = false ∧ imageSize np ≤ d.f 3 63 0 ∧
      (s.tenantKey q.tenant).isSome = true ∧ h.parkPages x (d.f 2 63 0) key hdr (List.range np) = (v, none) ∧
      v.hostWrite (d.f 2 63 0) (hdr ++ gcmTag key (leBytes 4 (v.slot x).parkCount ++ leBytes 4 0xFFFFFFFF ++ leBytes 4 0) hdr []) = (w, none)) ∧
    (∃ (s v w y : State) (r i dir : Nat) (d : Desc) (h : List Byte) (rs : List Resv), let x := d.f 1 15 0; let q := s.slot x;
      let np := q.entries q.tokens; let key := q.key.getD []; let p := s.pool q.pool; s.opOf r i 2 4 = some d ∧ s.sesUp = true ∧ q.st = .parked ∧
      q.recBad = false ∧ s.boundOk x r 4 = true ∧ q.pend = none ∧ s.hostUp = true ∧ y.waited = false ∧ s.tenantErasing q.tenant = false ∧
      (s.tenantKey q.tenant).isSome = true ∧ s.hostRead (d.f 2 63 0) 0x80 = .ok h ∧
      gcmTag key (slice h 0x0C 4 ++ leBytes 4 0xFFFFFFFF ++ leBytes 4 0) (h.take 0x70) [] = h.drop 0x70 ∧ h.take 0x18 = (q.hdr x).take 0x18 ∧
      p.valid = true ∧ p.tenant = q.tenant ∧ p.asid = q.asid ∧ np + listsOf np + 1 ≤ p.free ∧
      ((s.hold x r i).modSlot x (fun q => { q with st := .resuming })).popPage q.pool = (v, .ok dir) ∧
      State.grow x np 0 (v.modSlot x (fun q => { q with dir := dir })) [] = (w, rs, none) ∧
      w.resumePages x (d.f 2 63 0) key (h.take 0x70) (List.range np) = (y, .ok true)) :=
  ⟨(by refine ⟨sPark, _, _, 5, 3, sesDesc 3 5, ?_, ?_, ?_, ?_, ?_, ?_, (by decide +kernel), ?_, ?_, ?_, pair_eq ?_, pair_eq ?_⟩ <;> decide +kernel),
   (by refine ⟨sResume, _, _, _, 5, 3, 6, sesDesc 4 5, parkedImage, _, ?_, ?_, ?_, ?_, ?_, ?_, (by decide +kernel), ?_, ?_, ?_, resume_header, resume_tag, (by rfl), (by decide +kernel), ?_, ?_, ?_, pair_eq (ok_by ?_), trip_eq ?_, pair_eq (ok_by ?_)⟩ <;> decide +kernel)⟩

def poolDesc : Desc := ⟨0x72#64, 2#64, 0x600000#64, 4#64, 0#64, 0#64, 0#64, 0#64⟩
def sPool : State := started dramOn 5 3 poolDesc
def unpoolDesc : Desc := ⟨0x73#64, 1#64, 0#64, 0#64, 0#64, 0#64, 0#64, 0#64⟩
def sUnpool : State := started (sesOn { sesSlot with st := .parked }) 5 3 unpoolDesc

/-- A state and operands for each clause of Obligations.PoolOperations. -/
theorem witness_PoolOperations :
    (∃ (s u : State) (r i root : Nat) (d : Desc), let n := d.f 3 23 0; let free := n - ceilDiv (n * 4) 65536; s.opOf r i 7 2 = some d ∧
      s.sesUp = true ∧ (s.pool (d.f 1 5 0)).valid = false ∧ s.rget (Fd.FRD_ASPACE_BASE_EN 0) = 1 ∧
      s.aspRead (s.rget (Fd.FRD_ASPACE_BASE_BASE 0)) (d.f 1 27 16) = .ok (some (root, d.f 1 37 28)) ∧
      s.arenaMapped (d.f 1 27 16) (d.f 1 37 28) (d.f 2 47 0) n = true ∧
      s.vwrite none 0 (d.f 1 27 16) (d.f 1 37 28) (d.f 2 47 0) ((List.range free).flatMap (fun j => leBytes 4 (n - 1 - j))) = (u, none) ∧
      u.waited = false) ∧
    (∃ (s : State) (r i : Nat) (d : Desc), s.opOf r i 7 3 = some d ∧ s.sesUp = true ∧ s.waited = false ∧ (s.pool (d.f 1 5 0)).valid = true ∧
      (∀ p ∈ s.ses.slots, p.2.pool = d.f 1 5 0 → p.2.st = .free ∨ p.2.st = .parked)) :=
  ⟨(by refine ⟨sPool, _, 5, 3, 0x80000001000, poolDesc, ?_, ?_, ?_, ?_, ok_by ?_, ?_, pair_eq ?_, ?_⟩ <;> decide +kernel),
   ⟨sUnpool, 5, 3, unpoolDesc, by decide +kernel⟩⟩

def stepDesc : Desc := ⟨0x22#64, 0x100000#64, 0x1000#64, 0x3000#64, 0x2000#64, 0x4000#64, 0x5000#64, 1000#64⟩
def stepStarted : Started := ⟨3, stepDesc, false, 0, 0, 0, 0, 0⟩
def sStep : State := started (sesOn sesSlot) 5 3 stepDesc
def gatherE : PlanE := ⟨2#64, 0#64, 0#64, 0#64, 0, 0, none⟩
def launchE : PlanE := ⟨0x100000001#64, 0x200040#64, 0#64, 0#64, 0, 0, none⟩
def stepRec (p : PlanE) : StepRec := ⟨5, 3, 9, [⟨5, 0, 16⟩], 0, [], [p], 1, false, false, 0x4000, 0x5000, none, none⟩
def stepBad : StepRec := { stepRec gatherE with fail := some 0x0903 }
def stepDone : StepRec := stepRec { gatherE with phase := 2 }
/-- A step under handle 2. -/
def sPlan (q : StepRec) : State :=
  let s := started (sesOn { sesSlot with st := .stepping }) 5 3 stepDesc
  { s with hpt.images := [image0], ses.steps := [(2, some q)] }

/-- A state and operands for each clause of Obligations.SessionSteps. -/
theorem witness_SessionSteps :
    (∃ (s u v w y : State) (r i h : Nat) (d : Desc) (st : Started) (bl pl : List Byte) (a : AdmitAcc) (plan : List PlanE), let n := d.f 1 13 0 + 1;
      let m := d.f 1 63 52 + 1; let adv := d.f 1 31 20; let ids := (List.range n).map (fun j => leNat (slice bl (2 * j) 2));
      let gl := ((planOf pl m).filter (fun p => p.kind == 2)).map PlanE.layer; s.opOf r i 2 2 = some d ∧ (s.ring r).find i = some st ∧
      s.sesUp = true ∧ (∃ k, k < 16 ∧ s.step_ k = none) ∧ s.vread none 0 (s.ringAsid r) (s.ringTenant r) (d.f 2 47 0) (2 * n) = (u, .ok bl) ∧
      u.vread none 0 (s.ringAsid r) (s.ringTenant r) (d.f 4 47 0) (32 * m) = (v, .ok pl) ∧ (planOf pl m).all PlanE.ok = true ∧
      (List.range ids.length).foldl (State.admitOne r adv (gl.foldl (fun k l => some (max (k.getD 0) l)) none) ids) (v, ⟨[], [], [], none⟩) = (w,
      a) ∧ a.fail = none ∧ (d.f 1 16 16 = 0 ∨ a.adm.length = ids.length) ∧ a.adm ≠ [] ∧
      w.vwrite none 0 (w.ringAsid r) (w.ringTenant r) (d.f 3 47 0) (a.codes.map (BitVec.ofNat 8)) = (y, none) ∧ y.gatherSize a.adm adv ≤ d.f 7 31 0 ∧
      planFronds (d.f 1 17 17 == 1) st.sched (planOf pl m) = some plan ∧ (List.range 16).find? (fun h => (y.step_ h).isNone) = some h ∧
      y.waited = false) ∧
    (∃ (s : State) (h e f : Nat) (q : StepRec) (p : PlanE) (m : Image),
      let l := { p.launch (s.ringAsid q.ring) (s.ringTenant q.ring) q.gbuf0 h e with image := m.handle }; s.step_ h = some q ∧ q.next = some (e, p) ∧
      p.kind = 1 ∧ bitsOf 16 p.fronds = [f] ∧ s.sesUp = true ∧ s.frondUp f = true ∧ s.launchRoom f = true ∧ s.imageAt l.asid l.entry = some m ∧
      s.rget (Fd.FRD_ASPACE_BASE_EN f) = 1 ∧ s.launchBad f l = false ∧ s.awake f = true ∧ s.waited = false) ∧
    (∃ (s v w : State) (h e : Nat) (q : StepRec) (p : PlanE) (recs : List Byte) (pages : List Nat),
      let buf := if bit p.w0 16 then q.gbuf1 else q.gbuf0; let other := if bit p.w0 16 then q.gbuf0 else q.gbuf1;
      let l := gatherHdr q.seqNo p.layer q.admitted.length pages.length other ++ recs ++ pages.flatMap (leBytes 8); s.step_ h = some q ∧
      q.next = some (e, p) ∧ p.kind = 2 ∧ s.sesUp = true ∧ q.pf = false ∧
      (s.modPlan h e (fun p => { p with phase := 2 })).gatherAll p.layer q.advance q.admitted [] [] = (v, .ok (recs, pages)) ∧
      v.vwrite none 0 (s.ringAsid q.ring) (s.ringTenant q.ring) buf l = (w, none) ∧ w.waited = false) ∧
    (∃ (s : State) (h : Nat) (q : StepRec), s.step_ h = some q ∧ q.failed = false ∧ (∀ p ∈ q.plan, p.phase = 2) ∧
      ((s.ring q.ring).find q.idx).isSome = true ∧ (q.admitted.map (·.slot)).Nodup ∧ s.waited = false) ∧
    (∃ (s : State) (h : Nat) (q : StepRec), s.step_ h = some q ∧ q.failed = true ∧ (∀ p ∈ q.plan, p.phase ≠ 1) ∧
      ((s.ring q.ring).find q.idx).isSome = true ∧ ((s.giveBack q.resv).release q.admitted).waited = false) :=
  ⟨(by refine ⟨sStep, _, _, _, _, 5, 3, 0, stepDesc, stepStarted, [5#8, 0#8], leBytes 8 2 ++ List.replicate 24 0#8, _, [gatherE], ?_, ?_, ?_, ⟨0, ?_, ?_⟩, pair_eq (ok_by ?_), pair_eq (ok_by ?_), (by decide +kernel), both, ?_, ?_, ?_, pair_eq ?_, ?_, (by decide +kernel), ?_, ?_⟩ <;> decide +kernel),
   ⟨sPlan (stepRec launchE), 2, 0, 0, stepRec launchE, launchE, image0, by dsimp only; decide +kernel⟩,
   (by refine ⟨sPlan (stepRec gatherE), _, _, 2, 0, stepRec gatherE, gatherE, _, _, ?_, ?_, ?_, ?_, ?_, pair_eq (ok_pair (d := ([], [])) ?_), pair_eq ?_, ?_⟩ <;> decide +kernel),
   ⟨sPlan stepDone, 2, stepDone, by decide +kernel⟩,
   ⟨sPlan stepBad, 2, stepBad, by decide +kernel⟩⟩

/-! ## Sori -/

def sorus9 (v t : Nat) : Sorus := ⟨BitVec.ofNat 64 v, BitVec.ofNat 64 t, 0, false, .allocated, true, 0, 0, 0, 0⟩
/-- Sorus 9, named by register 4 of thread 1; register 6 holds 3. -/
def sorOn (v t : Nat) : State :=
  let s := { run2 with sor.sori := [(9, sorus9 v t)] }
  (s.setGreg 0 0 1 4 9#32).setGreg 0 0 1 6 3#32

/-- A state and operands for each clause of Obligations.SorusInstructions. -/
theorem witness_SorusInstructions :
    (∃ (s s' : State) (f g mask gs gn k : Nat) (ts : List Nat) (q : Kernel),
      let t := s'.eachThread f g mask [gs % 128, gn % 128] ts (fun u h => u.onSorus f g h gs (fun v n => v.ssig1 f g h gn k q n));
      s.Issues f g s' k q ts ∧ s.sbHeld f = false ∧ t.waited = false) ∧
    (∃ (s s' : State) (f g mask gs k : Nat) (inv : Bool) (ts : List Nat) (q : Kernel),
      let t := s'.eachThread f g mask [gs % 128] ts (fun u h => u.onSorus f g h gs (fun v n => v.sorWait f g h n q.launch.tenant none inv));
      s.Issues f g s' k q ts ∧ t.waited = false) ∧
    (∃ (s s' : State) (f g mask gs gt k : Nat) (inv : Bool) (ts : List Nat) (q : Kernel),
      let t := s'.eachThread f g mask [gs % 128, gt % 128, (gt + 1) % 128] ts (fun u h => u.onSorus f g h gs (fun v n => v.sorWait f g h n q.launch.tenant (some (v.regPair f g h gt)) inv));
      s.Issues f g s' k q ts ∧ gt % 2 = 0 ∧ t.waited = false) ∧
    (∃ (s s' : State) (f g mask gd gs k : Nat) (ts : List Nat) (q : Kernel),
      let t := s'.eachThread f g mask [gs % 128] ts (fun u h => u.onSorus f g h gs (fun v n => v.srd1 f g h gd q.launch.tenant n));
      s.Issues f g s' k q ts ∧ gd % 2 = 0 ∧ t.waited = false) :=
  ⟨⟨sorOn 5 7, issued (sorOn 5 7) 0 0, 0, 0, 2, 4, 6, 0, [0, 1], kern, by dsimp only; refine ⟨iss ?_, ?_, ?_⟩ <;> decide +kernel⟩,
   ⟨sorOn 7 7, issued (sorOn 7 7) 0 0, 0, 0, 2, 4, 0, true, [0, 1], kern, by dsimp only; refine ⟨iss ?_, ?_⟩ <;> decide +kernel⟩,
   ⟨sorOn 2 7, issued (sorOn 2 7) 0 0, 0, 0, 2, 4, 6, 0, false, [0, 1], kern, by dsimp only; refine ⟨iss ?_, ?_, ?_⟩ <;> decide +kernel⟩,
   ⟨sorOn 5 7, issued (sorOn 5 7) 0 0, 0, 0, 2, 126, 4, 0, [0, 1], kern, by dsimp only; refine ⟨iss ?_, ?_, ?_⟩ <;> decide +kernel⟩⟩

def upd9 : SUpd := ⟨0, 9, 3, 0, .thread 0 0 1⟩
def sUpdate : State := { sorOn 5 7 with sor.queue := [upd9] }
def watch9 (sat : Bool) : WatchE := ⟨0, 1, 9, 7, sat⟩
def sWatch (sat : Bool) : State :=
  let s := (sorOn 7 7).setThr 0 0 1 { Thread.init with live := true, pc := 0x200000, wait := .sorus 9 7 true }
  s.modFr 0 (fun q => { q with watch := [watch9 sat] })

/-- A state and operands for each clause of Obligations.SorusUpdates. -/
theorem witness_SorusUpdates :
    (∃ (s : State) (bank p : Nat) (u : SUpd) (f k h : Nat), let from_ := spGet (fun _ => 0) s.sor.ptr bank;
      ((List.range 26).map (fun i => (from_ + i) % 26)).find? (fun q => s.sor.queue.any (fun u => u.at_ q bank)) = some p ∧
      s.sor.queue.find? (fun u => u.at_ p bank) = some u ∧ u.src = .thread f k h ∧ s.SorusOk u.sorus ∧ (s.sorus u.sorus).tenant = u.tenant) ∧
    (∃ (s u : State) (n amount tenant : Nat) (remote : Bool), s.SorusOk n ∧ s.sorSignal n amount tenant remote = (u, none)) ∧
    (∃ (s : State) (f n : Nat) (w : WatchE), (s.fr f).watch.filter (fun w => w.sorus == n && w.sat) = [w]) ∧
    (∃ (s : State) (f g h n th k : Nat) (inv : Bool) (q : Kernel), (s.thr f g h).wait = .sorus n th inv ∧ ⟨g, h, n, th, false⟩ ∈ (s.fr f).watch ∧
      s.waitTo ≤ s.clock - (s.thr f g h).waitClock ∧ s.grpKernel f g = some (k, q)) :=
  ⟨⟨sUpdate, 1, 0, upd9, 0, 0, 1, by dsimp only; refine ⟨?_, ?_, ?_, (by unfold State.SorusOk; decide +kernel), ?_⟩ <;> decide +kernel⟩,
   (by refine ⟨sorOn 5 7, _, 9, 3, 0, false, (by unfold State.SorusOk; decide +kernel), pair_eq ?_⟩ <;> decide +kernel),
   ⟨sWatch true, 0, 9, watch9 true, by decide +kernel⟩,
   ⟨sWatch false, 0, 0, 1, 9, 7, 0, true, kern, by decide +kernel⟩⟩

def sorDesc (op : Nat) : Desc := ⟨BitVec.ofNat 64 (0x40 + op), 9#64, 2#64, 8#64, 0#64, 0#64, 0#64, 0#64⟩
def sSor (op : Nat) : State := started (sorOn 5 7) 5 3 (sorDesc op)
def wait9 (sat : Bool) : DWait := ⟨5, 3, 9, 7, 100, sat⟩
def sWaiting (sat : Bool) : State := { sSor 4 with sor.waits := [wait9 sat] }

/-- A state and operands for each clause of Obligations.SorusDescriptors. -/
theorem witness_SorusDescriptors :
    (∃ (s : State) (r i : Nat) (d : Desc), s.opOf r i 4 0 = some d ∧ (s.sorus (d.f 1 12 0)).st = .free ∧ s.rget Fd.FLT_INJ_CTL_ARM = 0) ∧
    (∃ (s : State) (r i : Nat) (d : Desc), s.opOf r i 4 1 = some d ∧ s.SorusOk (d.f 1 12 0) ∧ (s.sorus (d.f 1 12 0)).bound = true ∧
      (s.sorus (d.f 1 12 0)).tenant = s.ringTenant r ∧ (∀ w ∈ s.sor.waits, w.sorus ≠ d.f 1 12 0) ∧ (∀ f, f < s.fronds → ∀ w ∈ (s.fr f).watch,
      w.sorus ≠ d.f 1 12 0)) ∧
    (∃ (s : State) (r i : Nat) (d : Desc), let n := d.f 1 12 0; s.opOf r i 4 2 = some d ∧ s.SorusOk n ∧ (s.sorus n).tenant = s.ringTenant r ∧
      (∀ u ∈ s.sor.queue, u.at_ (16 + s.rget (Fd.RNG_CTL_CP r)) (n % 8) = false)) ∧
    (∃ (s : State) (r i : Nat) (d : Desc), let n := d.f 1 12 0; s.opOf r i 4 3 = some d ∧ s.SorusOk n ∧ (s.sorus n).tenant = s.ringTenant r) ∧
    (∃ (s : State) (r i : Nat) (d : Desc), let n := d.f 1 12 0; let th := if d.f 1 17 17 = 1 then (s.sorus n).thresh.toNat else d.f 2 63 0;
      s.opOf r i 4 4 = some d ∧ s.SorusOk n ∧ (s.sorus n).tenant = s.ringTenant r ∧ s.sor.waits.length < 4096) ∧
    (∃ (s : State) (r i : Nat) (w : DWait), s.sor.waits.find? (fun w => w.ring == r && w.idx == i) = some w ∧ ((s.ring r).find i).isSome = true ∧
      w.sat = true) ∧
    (∃ (s : State) (r i : Nat) (w : DWait), s.sor.waits.find? (fun w => w.ring == r && w.idx == i) = some w ∧ ((s.ring r).find i).isSome = true ∧
      w.sat = false ∧ w.due ≤ s.clock) ∧
    (∃ (s : State) (r i : Nat) (d : Desc), s.opOf r i 4 5 = some d ∧ s.SorusOk (d.f 1 12 0) ∧ (s.sorus (d.f 1 12 0)).tenant = s.ringTenant r) :=
  ⟨⟨started noon 5 3 (sorDesc 0), 5, 3, sorDesc 0, by decide +kernel⟩,
   ⟨sSor 1, 5, 3, sorDesc 1, by refine ⟨?_, (by unfold State.SorusOk; decide +kernel), ?_, ?_, ?_, ?_⟩ <;> decide +kernel⟩,
   ⟨sSor 2, 5, 3, sorDesc 2, by dsimp only; refine ⟨?_, (by unfold State.SorusOk; decide +kernel), ?_, ?_⟩ <;> decide +kernel⟩,
   ⟨sSor 3, 5, 3, sorDesc 3, by dsimp only; refine ⟨?_, (by unfold State.SorusOk; decide +kernel), ?_⟩ <;> decide +kernel⟩,
   ⟨sSor 4, 5, 3, sorDesc 4, by dsimp only; refine ⟨?_, (by unfold State.SorusOk; decide +kernel), ?_, ?_⟩ <;> decide +kernel⟩,
   ⟨sWaiting true, 5, 3, wait9 true, by decide +kernel⟩,
   ⟨sWaiting false, 5, 3, wait9 false, by decide +kernel⟩,
   ⟨sSor 5, 5, 3, sorDesc 5, by refine ⟨?_, (by unfold State.SorusOk; decide +kernel), ?_⟩ <;> decide +kernel⟩⟩

end Sys2Proof.Tests
end

