-- ==== Sys2Proof/Tests/WitnessFabric.lean ====
section
/-!
SUPPORT. For every statement about the fabric and security: states and operands that meet its hypotheses, clause by clause.
-/

namespace Sys2Proof.Tests

set_option Elab.async false
set_option linter.unusedVariables false

open Sys2Proof Sys2Proof.Machine

/-! ## The fabric -/

/-- Device ID 7 in force, link 4 (port 2) in a state, and window 3 on 64 KiB of tenant 0. -/
def fabOn (st : Nat) (q : Link) : State :=
  let s := (((noon.rset Fd.FAB_ID_VALID 1).rset Fd.FAB_ID_DEVID 7).rset (Fd.FAB_PORT_CFG_EN 2) 1).rset Fd.SEC_STAT_RNG_OK 1
  let s := { (s.setLinkState 4 st) with fab.wins := [(3, ⟨true, 7, 0x10000, 1, 0, 0⟩)] }
  s.setLink 4 q
def fab0 : State := fabOn 2 Link.init
def lockAll : Sp Lane := (List.range 8).map (fun p => (p, { Lane.init with lock := true, good := 64 }))
/-- A message to this module, of an operation, with a target and data. -/
def msgOf (op target : Nat) (data : List Byte) : Msg := ⟨op, 7, 9, 0, false, data.length - 1, 0, 0, 15, 0, 1, target, data⟩
def rx (s : State) (m : Msg) : State := s.modLink 4 (fun q => { q with rxbuf := [⟨m, 0⟩] })
def peerId : List Byte := [1#8, 0#8, 0#8, 0#8, 0#8, 0#8, 0#8, 0#8]

def identData : List Byte := ((moduleSerial.headD 0#8) + 1#8) :: (List.replicate 10 0#8 ++ [8#8] ++ List.replicate 52 0#8)
def ownIdent : List Byte := moduleSerial ++ List.replicate 56 0#8
theorem serial_ne : identData.take 8 ≠ moduleSerial := by
  intro h
  have : (moduleSerial.headD 0#8) + 1#8 = moduleSerial.headD 0#8 := by
    have := congrArg (fun l : List Byte => l.headD 0#8) h
    exact this
  bv_omega
def sIdent : State := rx (fabOn 1 Link.init) (msgOf 0x34 0 identData)
def sOwnIdent : State := rx (fabOn 1 Link.init) (msgOf 0x34 0 ownIdent)
def keyMsg : Msg := msgOf 0x35 0 (List.replicate 192 0#8)
def sKeyx : State := rx { (fabOn 1 { Link.init with tstep := 4, identRx := peerId }) with sec.peers := [(1, [])] } keyMsg
def rekeyMsg : Msg := msgOf 0x33 0 (List.replicate 96 0#8)
def sRekey (b : Bool) : State := rx (fabOn 2 { Link.init with rekeying := b }) rekeyMsg
def leaveMsg : Msg := msgOf 0x32 0 []
def sLeave : State := rx fab0 leaveMsg
def idle5 : Link := { Link.init with failedAt := some 0 }
def sLatched : State := (fabOn 5 Link.init).setLatched 2 (some 3)
def sStep2 : State := fabOn 1 { Link.init with tstep := 2, lanes := lockAll, nextB := some 0 }
def sStep3 : State := fabOn 1 { Link.init with tstep := 3, identRx := peerId }
def sStep4 : State := fabOn 1 { Link.init with tstep := 4, keyTx := some [], identRx := peerId, lanes := lockAll }

/-- A state and operands for each clause of Obligations.FabricPorts, part 1 of 3. -/
theorem witness_FabricPorts_1 :
    (∃ (s : State) (p : Nat) (v : W64), p < s.part.fports ∧ s.twilight = false ∧ s.portBusy p = false ∧ fld v 63 63 = s.rget (Fd.FAB_PORT_CFG_EN p) ∧
      fld v 62 62 = s.rget (Fd.FAB_PORT_CFG_SPLIT p) ∧ (∀ l ∈ s.portLinks p, s.linkState l ≠ 4)) ∧
    (∃ (s : State) (p : Nat) (v : W64), p < s.part.fports ∧ s.twilight = false ∧ s.portBusy p = true ∧ fld v 63 63 ≠ s.rget (Fd.FAB_PORT_CFG_EN p)) ∧
    (∃ (s : State) (p : Nat) (v : W64), p < s.part.fports ∧ s.twilight = false ∧ s.portBusy p = false ∧ s.rget (Fd.FAB_PORT_CFG_EN p) = 1 ∧
      fld v 63 63 = 0 ∧ (∀ l ∈ s.portLinks p, s.linkState l ≠ 2)) ∧
    (∃ (s : State) (p v : Nat), s.latchedPort p = some v ∧ s.portBusy p = false) ∧
    (∃ (s : State) (l : Nat), s.linkThere l = true ∧ s.linkState l = 1) ∧
    (∃ (s : State) (l : Nat), s.linkThere l = true ∧ s.linkState l = 1 ∧ (s.link l).tstep = 1 ∧ (s.link l).crossed = false) ∧
    (∃ (s : State) (l : Nat) (u : _) (nonce : _), s.linkThere l = true ∧ s.linkState l = 1 ∧ (s.link l).tstep = 2 ∧ s.allLocked l = true ∧
      (s.link l).nextB.isSome = true ∧ s.secSwitching = false ∧ s.random 4 = some (u, nonce)) ∧
    (∃ (s : State) (l : Nat) (u : _) (priv : _), s.linkThere l = true ∧ s.linkState l = 1 ∧ (s.link l).tstep = 3 ∧ (s.link l).identRx ≠ [] ∧
      s.secSwitching = false ∧ s.random 6 = some (u, priv)) :=
  ⟨⟨fab0, 2, BitVec.ofNat 64 (2 ^ 63 + 2 ^ 61 + 5 * 2 ^ 33), by decide +kernel⟩,
   ⟨fabOn 1 Link.init, 2, 0#64, by decide +kernel⟩,
   ⟨fabOn 5 Link.init, 2, BitVec.ofNat 64 (2 ^ 62), by decide +kernel⟩,
   ⟨sLatched, 2, 3, by decide +kernel⟩,
   ⟨fabOn 1 Link.init, 4, by decide +kernel⟩,
   ⟨fabOn 1 { Link.init with tstep := 1 }, 4, by decide +kernel⟩,
   (by refine ⟨sStep2, 4, _, _, ?_, ?_, ?_, ?_, ?_, ?_, some_eq (d := (noon, [])) ?_⟩ <;> decide +kernel),
   (by refine ⟨sStep3, 4, _, _, ?_, ?_, ?_, ?_, ?_, some_eq (d := (noon, [])) ?_⟩ <;> decide +kernel)⟩

/-- A state and operands for each clause of Obligations.FabricPorts, part 2 of 3. -/
theorem witness_FabricPorts_2 :
    (∃ (s : State) (l : Nat), s.linkThere l = true ∧ s.linkState l = 1 ∧ (s.link l).tstep = 4 ∧ (s.link l).keyTx.isSome = true ∧ s.fab.jobs = [] ∧
      s.fab.spores = []) ∧
    (∃ (s : State) (l : Nat), s.linkThere l = true ∧ s.fabricOn = true ∧ s.linkFit l = true ∧
      (s.linkState l = 5 ∨ s.linkState l = 6 ∨ s.linkState l = 0 ∨ (s.linkState l = 4 ∧ (s.link l).light = false)) ∧
      s.rget (Fd.FAB_PORT_CFG_EN (l / 2)) = 1 ∧ (∀ c, (s.link l).failedAt = some c → 2500000 ≤ s.clock - c) ∧ s.thm.engHot.contains (l / 2) = false) ∧
    (∃ (s : State) (l : Nat), s.linkThere l = true ∧ s.fabricOn = true ∧ s.linkFit l = true ∧
      (s.linkState l = 5 ∨ s.linkState l = 6 ∨ s.linkState l = 0 ∨ (s.linkState l = 4 ∧ (s.link l).light = false)) ∧
      s.rget (Fd.FAB_PORT_CFG_EN (l / 2)) = 1 ∧ (∀ c, (s.link l).failedAt = some c → 2500000 ≤ s.clock - c) ∧ s.thm.engHot.contains (l / 2) = false) ∧
    (∃ (s : State) (l : Nat), s.linkThere l = true ∧ s.fabricOn = true ∧ s.linkFit l = true ∧
      (s.linkState l = 5 ∨ s.linkState l = 6 ∨ s.linkState l = 0 ∨ (s.linkState l = 4 ∧ (s.link l).light = false)) ∧
      s.rget (Fd.FAB_PORT_CFG_EN (l / 2)) = 1 ∧ (∀ c, (s.link l).failedAt = some c → 2500000 ≤ s.clock - c) ∧ s.thm.engHot.contains (l / 2) = false) ∧
    (∃ (s : State) (l : Nat), s.linkThere l = true ∧ s.fabricOn = true ∧ s.linkFit l = true ∧
      (s.linkState l = 5 ∨ s.linkState l = 6 ∨ s.linkState l = 0 ∨ (s.linkState l = 4 ∧ (s.link l).light = false)) ∧
      s.rget (Fd.FAB_PORT_CFG_EN (l / 2)) = 1 ∧ (∀ c, (s.link l).failedAt = some c → 2500000 ≤ s.clock - c) ∧ s.thm.engHot.contains (l / 2) = false) ∧
    (∃ (s : State) (l : Nat) (again : Bool), s.linkThere l = true ∧ s.linkState l = 1 ∧ ((s.link l).tstep = 1 ∨ (s.link l).tstep = 0) ∧
      (again = true → (s.link l).rounds + 1 < 16)) ∧
    (∃ (s : State) (l : Nat) (again : Bool), s.linkThere l = true ∧ s.linkState l = 1 ∧ ((s.link l).tstep = 1 ∨ (s.link l).tstep = 0) ∧
      (again = true → (s.link l).rounds + 1 < 16)) ∧
    (∃ (s : State) (l : Nat) (again : Bool), s.linkThere l = true ∧ s.linkState l = 1 ∧ ((s.link l).tstep = 1 ∨ (s.link l).tstep = 0) ∧
      (again = true → (s.link l).rounds + 1 < 16)) ∧
    (∃ (s : State) (l : Nat), s.linkThere l = true ∧ s.linkState l = 3 ∧ (∀ n ∈ s.linkLanes l, s.laser (l / 2) n ≠ 1) ∧ s.allLocked l = true) ∧
    (∃ (s : State) (l : Nat), s.linkThere l = true ∧ s.linkState l = 3 ∧ (∀ n ∈ s.linkLanes l, s.laser (l / 2) n ≠ 1) ∧ (s.link l).retrFails < 2) ∧
    (∃ (s : State) (l : Nat), s.linkThere l = true ∧ s.linkState l = 2 ∧ s.QuietLink l) ∧
    (∃ (s u : State) (l : Nat) (m : Msg), s.takeRx l 0x34 = some (m, u) ∧ u.linkState l = 1 ∧ m.data.take 8 ≠ moduleSerial ∧
      rdLe m.data 11 1 = u.linkWidth l ∧ u.rget (Fd.FAB_PORT_CFG_EXPECT (l / 2)) = 0) ∧
    (∃ (s u : State) (l : Nat) (m : Msg), s.takeRx l 0x34 = some (m, u) ∧ u.linkState l = 1 ∧ m.data.take 8 = moduleSerial) :=
  ⟨⟨sStep4, 4, by decide +kernel⟩,
   ⟨fabOn 5 idle5, 4, by decide +kernel⟩,
   ⟨fabOn 6 idle5, 4, by decide +kernel⟩,
   ⟨fabOn 0 Link.init, 4, by decide +kernel⟩,
   ⟨fabOn 4 { Link.init with light := false }, 4, by decide +kernel⟩,
   ⟨fabOn 1 { Link.init with tstep := 1, crossed := true }, 4, true, by decide +kernel⟩,
   ⟨fabOn 1 { Link.init with rounds := 14 }, 4, true, by decide +kernel⟩,
   ⟨fabOn 1 { Link.init with tstep := 1 }, 4, false, by decide +kernel⟩,
   ⟨fabOn 3 { Link.init with lanes := lockAll }, 4, by decide +kernel⟩,
   ⟨fabOn 3 { Link.init with retrFails := 1 }, 4, by decide +kernel⟩,
   ⟨fab0, 4, by refine ⟨?_, ?_, (by unfold State.QuietLink; decide +kernel)⟩ <;> decide +kernel⟩,
   ⟨sIdent, rxed sIdent 4 0x34, 4, msgOf 0x34 0 identData,
    by refine ⟨rxd_as (by decide +kernel) (by rfl), ?_, serial_ne, ?_, ?_⟩ <;> decide +kernel⟩,
   ⟨sOwnIdent, rxed sOwnIdent 4 0x34, 4, msgOf 0x34 0 ownIdent,
    by refine ⟨rxd_as (by decide +kernel) (by rfl), ?_, (by rfl)⟩ <;> decide +kernel⟩⟩

/-- A state and operands for each clause of Obligations.FabricPorts, part 3 of 3. -/
theorem witness_FabricPorts_3 :
    (∃ (s u : State) (l n : Nat) (m : Msg) (k : List Byte),
      let good := Config.verifies algEcdsa k (sha384 ((u.link l).identRx ++ (u.link l).identTx ++ m.data.take 96)) (m.data.drop 96);
      s.takeRx l 0x35 = some (m, u) ∧ u.linkState l = 1 ∧ (u.link l).tstep = 4 ∧ (u.link l).identRx ≠ [] ∧
      u.sec.peers.find? (fun p => p.1 == leNat ((u.link l).identRx.take 8)) = some (n, k)) ∧
    (∃ (s u : State) (l : Nat) (m : Msg), s.secSwitching = false ∧ s.takeRx l 0x33 = some (m, u) ∧ (u.link l).rekeying = true) ∧
    (∃ (s u v : State) (l : Nat) (m : Msg) (priv : List Byte), s.secSwitching = false ∧ s.takeRx l 0x33 = some (m, u) ∧ (u.link l).rekeying = false ∧
      u.random 6 = some (v, priv)) ∧
    (∃ (s u : State) (l : Nat) (m : Msg), s.takeRx l 0x32 = some (m, u) ∧ u.linkThere l = true ∧ u.linkState l = 2 ∧ u.QuietLink l) :=
  ⟨⟨sKeyx, rxed sKeyx 4 0x35, 4, 1, keyMsg, [], by dsimp only; refine ⟨rxd ?_, ?_, ?_, ?_, ?_⟩ <;> decide +kernel⟩,
   ⟨sRekey true, rxed (sRekey true) 4 0x33, 4, rekeyMsg, by refine ⟨?_, rxd ?_, ?_⟩ <;> decide +kernel⟩,
   (by refine ⟨sRekey false, rxed (sRekey false) 4 0x33, _, 4, rekeyMsg, _, ?_, rxd ?_, ?_, some_eq (d := (noon, [])) ?_⟩ <;> decide +kernel),
   ⟨sLeave, rxed sLeave 4 0x32, 4, leaveMsg, by refine ⟨rxd ?_, ?_, ?_, (by unfold State.QuietLink; decide +kernel)⟩ <;> decide +kernel⟩⟩

/-- A block of which only SYNC is not zero: two of its codewords hold one data symbol each, and their check symbols. -/
def syncBlock : List Byte :=
  [0x3C#8, 0x5A#8, 0#8, 0#8] ++ List.replicate 484 0#8 ++ [0xAC#8, 0xBF#8, 0#8, 0#8, 0x87#8, 0x59#8, 0#8, 0#8, 0x99#8, 0x74#8, 0#8, 0#8, 0xBA#8, 0x8E#8, 0#8, 0#8,
    0xE2#8, 0x4A#8, 0#8, 0#8, 0xD6#8, 0x0C#8, 0#8, 0#8]
/-- The same with two symbols of one codeword wrong. -/
def wrongBlock : List Byte := (syncBlock.set 42 9#8).set 82 200#8
def syncBytes : List Byte := [0x3C#8, 0x5A#8] ++ List.replicate 486 0#8
/-- Four symbols of one codeword wrong. -/
def badBlock : List Byte := (((syncBlock.set 42 9#8).set 82 200#8).set 2 1#8).set 122 3#8
def sLane : State := fabOn 1 { Link.init with lanes := [(2, { Lane.init with good := 63 })] }
def sBadBlocks : State := fabOn 2 { Link.init with badBlocks := List.replicate 16 99999999 }
/-- A flit of one message that signals sorus 9. -/
def sigHeader : List Byte := leBytes 8 (4 * 2 ^ 58 + 7 * 2 ^ 44 + 9 * 2 ^ 30 + 15 * 2) ++ leBytes 8 9
def flitArea : List Byte := sigHeader ++ leBytes 4 1 ++ List.replicate 12 0#8
def flitW0 : W64 := BitVec.ofNat 64 (2 ^ 60)
def gapFlit : List (Option Byte) := none :: List.replicate 255 (some 0#8)
def sGap : State := fabOn 2 { Link.init with flits := [gapFlit] }
def sWhole : State := fabOn 2 { Link.init with flits := [List.replicate 256 (some 1#8)] }
def sOldMsg : State := rx fab0 (msgOf 1 5 [1#8, 2#8])

/-- A state and operands for each clause of Obligations.FabricFlits, part 1 of 2. -/
theorem witness_FabricFlits_1 :
    (∃ (s : State) (l phys n : Nat) (block b : List Byte), s.linkThere l = true ∧ phys ∈ s.linkLanes l ∧ blockDecode block = some (b, n) ∧
      blockSync b = true ∧ s.linkState l ≠ 2 ∧ 63 ≤ ((s.link l).lane phys).good) ∧
    (∃ (s : State) (l phys n : Nat) (block b : List Byte), s.linkThere l = true ∧ phys ∈ s.linkLanes l ∧ blockDecode block = some (b, n) ∧
      blockSync b = true ∧ s.linkState l ≠ 2 ∧ 63 ≤ ((s.link l).lane phys).good) ∧
    (∃ (s : State) (l phys : Nat) (block : List Byte), s.linkThere l = true ∧ phys ∈ s.linkLanes l ∧ blockDecode block = none ∧ s.linkState l = 2 ∧
      16 ≤ ((s.link l).badBlocks.filter (fun c => decide (s.clock - c < 25000))).length) ∧
    (∃ (row : List (List (Option Byte))) (b : Nat), (∀ d ∈ row, d.length = 480) ∧ b < 480 * row.length) ∧
    (∃ (s : State) (l : Nat) (w0 w1 : W64) (area : List Byte) (crcOk tagOk : Bool), let f := (s.link l).flitSeen w0 w1 area crcOk;
      (s.link l).flits = []) ∧
    (∃ (s : State) (l : Nat) (w0 w1 : W64) (area : List Byte) (crcOk tagOk : Bool) (x : _) (rest : _), let f := (s.link l).flitSeen w0 w1 area crcOk;
      (s.link l).flits = x :: rest) ∧
    (∃ (s : State) (l : Nat) (w0 w1 : W64) (area : List Byte) (crcOk tagOk : Bool) (x : _) (rest : _), let f := (s.link l).flitSeen w0 w1 area crcOk;
      (s.link l).flits = x :: rest) ∧
    (∃ (s : State) (l : Nat) (w0 w1 : W64) (area rest : List Byte) (ms : List Msg), s.linkThere l = true ∧ s.linkState l = 2 ∧ fld w0 63 60 = 1 ∧
      (s.link l).unack = [] ∧ (s.link l).txq = [] ∧ (s.link l).partial_ = [] ∧ fld w0 35 35 = 0 ∧ fld w0 59 48 = (s.link l).rxSeq ∧
      fld w0 33 31 ≠ 7 ∧ parseMsgs 8 (area.drop (32 * fld w0 33 31)) = (ms, rest) ∧ (∀ m ∈ ms, m.valid = true ∧ m.op ≠ 0x34 ∧ m.op ≠ 0x35)) ∧
    (∃ (s : State) (l : Nat) (w0 w1 : W64) (area : List Byte) (tagOk : Bool), s.linkThere l = true ∧ s.linkState l = 2 ∧
      (fld w0 63 60 = 1 ∨ fld w0 63 60 = 2)) ∧
    (∃ (s : State) (l c : Nat), (s.link l).nak = some c ∧ 50 ≤ s.clock - c) :=
  ⟨⟨sLane, 4, 2, 0, syncBlock, syncBytes, by decide +kernel⟩,
   ⟨sLane, 4, 2, 2, wrongBlock, syncBytes, by decide +kernel⟩,
   ⟨sBadBlocks, 4, 2, badBlock, by decide +kernel⟩,
   ⟨List.replicate 4 (List.replicate 480 none), 1919, by decide +kernel⟩,
   ⟨fab0, 4, flitW0, 0#64, flitArea, true, true, by dsimp only; decide +kernel⟩,
   ⟨sGap, 4, flitW0, 0#64, flitArea, true, true, gapFlit, [], by dsimp only; decide +kernel⟩,
   ⟨sWhole, 4, flitW0, 0#64, flitArea, true, true, List.replicate 256 (some 1#8), [], by dsimp only; decide +kernel⟩,
   (by refine ⟨fab0, 4, flitW0, 0#64, flitArea, _, _, ?_, ?_, ?_, ?_, ?_, ?_, (by decide +kernel), ?_, ?_, both, ?_⟩ <;> decide +kernel),
   ⟨fab0, 4, flitW0, 0#64, flitArea, true, by decide +kernel⟩,
   ⟨fabOn 2 { Link.init with nak := some 0 }, 4, 0, by decide +kernel⟩⟩

/-- A state and operands for each clause of Obligations.FabricFlits, part 2 of 2. -/
theorem witness_FabricFlits_2 :
    (∃ (s : State) (l : Nat), s.linkUp l = true) ∧
    (∃ (s u : State) (l : Nat) (priv : List Byte), s.linkThere l = true ∧ s.linkState l = 2 ∧ (s.link l).rekeying = false ∧ s.secSwitching = false ∧
      (2 ^ 40 ≤ (s.link l).sentCnt ∨ 90000000000 ≤ s.clock - (s.link l).keyAt) ∧ s.random 6 = some (u, priv)) ∧
    (∃ (s : State) (l : Nat) (x : RxMsg) (rest : List RxMsg), l ≠ selfLink ∧ (s.link l).rxbuf = x :: rest ∧ 250000 ≤ s.clock - x.at_) :=
  ⟨⟨fab0, 4, by decide +kernel⟩,
   (by refine ⟨fabOn 2 { Link.init with sentCnt := 2 ^ 40 }, _, 4, _, ?_, ?_, ?_, ?_, ?_, some_eq (d := (noon, [])) ?_⟩ <;> decide +kernel),
   ⟨sOldMsg, 4, ⟨msgOf 1 5 [1#8, 2#8], 0⟩, [], by decide +kernel⟩⟩

/-- Window 3 and an offset in it. -/
def winT (off : Nat) : Nat := 3 * 2 ^ 38 + off
/-- Window 3 on DRAM, for reductions there. -/
def sRedWin : State := { (fabOn 2 Link.init) with pil.applied := [regionG], fab.wins := [(3, ⟨true, 7, 0x600000, 1, 0, 0⟩)] }
def wrMsg : Msg := msgOf 1 (winT 0x20) [1#8, 2#8]
def rdMsg : Msg := msgOf 3 (winT 0x20) [1#8, 2#8]
def redMsg : Msg := msgOf 2 (winT 0x20) [1#8, 2#8, 3#8, 4#8]
def winRed : Win := ⟨true, 7, 0x600000, 1, 0, 0⟩
/-- The window's state once the message is taken, and the state after its pieces. -/
def sRedIn : State := taken (rx sRedWin redMsg) 4 2
def redOp (s : State) (p : Nat × Nat) : State × Option VErr := s.redWrite1 (sRedIn.win redMsg.win) redMsg p
theorem redPieces_eq : pieces ((sRedIn.win redMsg.win).base + redMsg.off) redMsg.len = [(0x600020, 4)] := by decide +kernel
def sRedOut : State := (unitsRun redOp sRedIn [(0x600020, 4)]).1
theorem red_out : unitsRun redOp sRedIn [(0x600020, 4)] = (sRedOut, true) := pair_eq (by decide +kernel)
def badMsg (op : Nat) : Msg := msgOf op (5 * 2 ^ 38) [1#8]
def sigMsg (mc : Bool) : Msg := { (msgOf 4 9 [1#8, 0#8, 0#8, 0#8]) with mc := mc, dst := if mc then 1 else 7 }
def sSig (mc : Bool) : State := { (rx fab0 (sigMsg mc)) with fab.mcast := [(1, BitVec.ofNat 64 (2 ^ 63 + 2 ^ 62))] }
/-- A session slot free for a transfer. -/
def fabSes (q : Slot) : State := { fab0 with mem.thl := sesMem, ses.pools := [(1, ⟨true, 0, 0, 0x100000, 16, 10⟩)], ses.slots := [(5, q)] }
def xferHead : Msg := msgOf 5 (5 * 2 ^ 32) (leBytes 1 0 ++ leBytes 1 12 ++ leBytes 2 0 ++ leBytes 4 16 ++ leBytes 4 1)
def xferPiece : Msg := msgOf 5 (5 * 2 ^ 32 + 2) (List.replicate 8 9#8)
def sXfer : State := rx (fabSes { sesSlot with tokens := 0 }) xferHead
def xferOne (got : Nat) : Xfer := ⟨9, 16, 1, got, [], 4⟩
def sPiece (got : Nat) : State := rx ({ fabSes { sesSlot with st := .resuming } with fab.xfers := [(5, some (xferOne got))] } : State) xferPiece
/-- The transfer's page found, and its piece written. -/
def sPage (got : Nat) : State := ((taken (sPiece got) 4 5).kvPage 5 0).1
def sWrote (got : Nat) : State :=
  ((sPage got).vwrite none 0 ((sPage got).slot 5).asid ((sPage got).slot 5).tenant (((sPage got).pool ((sPage got).slot 5).pool).va 3 + 256) xferPiece.data).1
theorem page_eq (got x p : Nat) (hx : x = 5) (hp : p = 0) (h : ((taken (sPiece got) 4 5).kvPage 5 0).2 = some 3) :
    (taken (sPiece got) 4 5).kvPage x p = (sPage got, some 3) := by
  subst hx hp
  exact pair_eq h
theorem wrote_eq (got x o : Nat) (hx : x = 5) (ho : o = 256) (h : ((sPage got).vwrite none 0 ((sPage got).slot 5).asid ((sPage got).slot 5).tenant
    (((sPage got).pool ((sPage got).slot 5).pool).va 3 + 256) xferPiece.data).2 = none) :
    (sPage got).vwrite none 0 ((sPage got).slot x).asid ((sPage got).slot x).tenant (((sPage got).pool ((sPage got).slot x).pool).va 3 + o) xferPiece.data =
      (sWrote got, none) := by
  subst hx ho
  exact pair_eq h
def fabDesc (op w1 w2 w3 w4 : Nat) : Desc :=
  ⟨BitVec.ofNat 64 (0x50 + op), BitVec.ofNat 64 w1, BitVec.ofNat 64 w2, BitVec.ofNat 64 w3, BitVec.ofNat 64 w4, 0#64, 0#64, 0#64⟩
def fabStarted (d : Desc) : Started := ⟨3, d, false, 0, 0, 0, 0, 0⟩
def req1 (op : Nat) : Req := ⟨1, 5, 3, 4, op, 0x100, 2, 0⟩
def job1 : Job := ⟨5, 3, 1, 1, 1, none⟩
/-- A request of a descriptor outstanding. -/
def sReq (op : Nat) (d : Desc) : State :=
  let s := started fab0 5 3 d
  { s with fab.reqs := [req1 op], fab.jobs := [job1] }
def putZero : Desc := fabDesc 2 0 0 0 0
def getZero : Desc := fabDesc 3 0 0 0 0

/-- A state and operands for each clause of Obligations.FabricMessages, part 1 of 2. -/
theorem witness_FabricMessages_1 :
    (∃ (s u v : State) (l : Nat) (m : Msg), s.Takes l 1 m u ∧ u.sporeWin m = false ∧ u.winOk m 1 = true ∧ v.waited = false ∧
      u.vwrite none 0 (u.win m.win).asid (u.win m.win).tenant ((u.win m.win).base + m.off) m.data = (v, none)) ∧
    (∃ (s u : State) (l op perm : Nat) (m : Msg) (c : Instr), (c, op, perm) ∈ [(Instr.msgWrite l, 1, 1), (.msgRedWrite l, 2, 2), (.msgRead l, 3,
      0)] ∧ s.Takes l op m u ∧ u.sporeWin m = false ∧ u.winOk m perm = false ∧ u.waited = false) ∧
    (∃ (s u : State) (l op perm : Nat) (m : Msg) (c : Instr), (c, op, perm) ∈ [(Instr.msgWrite l, 1, 1), (.msgRedWrite l, 2, 2), (.msgRead l, 3,
      0)] ∧ s.Takes l op m u ∧ u.sporeWin m = false ∧ u.winOk m perm = false ∧ u.waited = false) ∧
    (∃ (s u : State) (l op perm : Nat) (m : Msg) (c : Instr), (c, op, perm) ∈ [(Instr.msgWrite l, 1, 1), (.msgRedWrite l, 2, 2), (.msgRead l, 3,
      0)] ∧ s.Takes l op m u ∧ u.sporeWin m = false ∧ u.winOk m perm = false ∧ u.waited = false) ∧
    (∃ (s u v : State) (l : Nat) (m : Msg) (data : List Byte), s.Takes l 3 m u ∧ u.sporeWin m = false ∧ u.winOk m 0 = true ∧ v.waited = false ∧
      u.vread none 0 (u.win m.win).asid (u.win m.win).tenant ((u.win m.win).base + m.off) (m.lenM1 + 1) = (v, .ok data)) ∧
    (∃ (s u v : State) (l : Nat) (m : Msg), s.Takes l 2 m u ∧ u.sporeWin m = false ∧ u.winOk m 2 = true ∧ reduceReserved m.redop m.rtype = false ∧
      m.off % elemSize m.rtype = 0 ∧ m.len % elemSize m.rtype = 0 ∧
      EachUnit (fun x p => x.redWrite1 (u.win m.win) m p) u (pieces ((u.win m.win).base + m.off) m.len) v ∧ v.waited = false) ∧
    (∃ (s v w : State) (b : Win) (m : Msg) (x : Nat × Nat) (pa pte : Nat), s.xlate none b.asid b.tenant x.1 .w = (v, .ok (pa, pte)) ∧
      physClass pa = .dram ∧ v.redHeld pa x.2 = false ∧ v.reduceAt m.redop m.rtype pa (slice m.data (x.1 - m.va b) x.2) = (w, none)) ∧
    (∃ (s u : State) (l : Nat) (m : Msg), s.Takes l 4 m u ∧ (m.mc = true → ∀ x ∈ (s.link l).rxbuf, ¬(x.m.op = 1 ∧ x.m.mc = true ∧ x.m.src = m.src ∧
      x.m.dst = m.dst))) ∧
    (∃ (s u : State) (l : Nat) (m : Msg), s.Takes l 4 m u ∧ (m.mc = true → ∀ x ∈ (s.link l).rxbuf, ¬(x.m.op = 1 ∧ x.m.mc = true ∧ x.m.src = m.src ∧
      x.m.dst = m.dst))) :=
  ⟨(by refine ⟨rx fab0 wrMsg, taken (rx fab0 wrMsg) 4 1, _, 4, wrMsg, takes ?_, ?_, ?_, ?_, pair_eq ?_⟩ <;> decide +kernel),
   ⟨rx fab0 (badMsg 1), taken (rx fab0 (badMsg 1)) 4 1, 4, 1, 1, badMsg 1, .msgWrite 4,
    by refine ⟨.head _, takes ?_, ?_, ?_, ?_⟩ <;> decide +kernel⟩,
   ⟨rx fab0 (badMsg 2), taken (rx fab0 (badMsg 2)) 4 2, 4, 2, 2, badMsg 2, .msgRedWrite 4,
    by refine ⟨.tail _ (.head _), takes ?_, ?_, ?_, ?_⟩ <;> decide +kernel⟩,
   ⟨rx fab0 (badMsg 3), taken (rx fab0 (badMsg 3)) 4 3, 4, 3, 0, badMsg 3, .msgRead 4,
    by refine ⟨.tail _ (.tail _ (.head _)), takes ?_, ?_, ?_, ?_⟩ <;> decide +kernel⟩,
   (by refine ⟨rx fab0 rdMsg, taken (rx fab0 rdMsg) 4 3, _, 4, rdMsg, [0#8, 0#8], takes ?_, ?_, ?_, ?_, pair_eq (ok_by ?_)⟩ <;> decide +kernel),
   ⟨rx sRedWin redMsg, sRedIn, sRedOut, 4, redMsg,
    by refine ⟨takes ?_, ?_, ?_, ?_, ?_, ?_, (by rw [redPieces_eq]; exact units _ red_out), ?_⟩ <;> decide +kernel⟩,
   (by refine ⟨sRedWin, _, _, winRed, redMsg, (0x600020, 4), 0x20, 0xD, pair_eq (ok_by ?_), ?_, ?_, pair_eq ?_⟩ <;> decide +kernel),
   ⟨sSig false, taken (sSig false) 4 4, 4, sigMsg false, by refine ⟨takes ?_, ?_⟩ <;> decide +kernel⟩,
   ⟨sSig true, taken (sSig true) 4 4, 4, sigMsg true, by refine ⟨takes ?_, ?_⟩ <;> decide +kernel⟩⟩

/-- A state and operands for each clause of Obligations.FabricMessages, part 2 of 2. -/
theorem witness_FabricMessages_2 :
    (∃ (s u v : State) (l : Nat) (m : Msg) (acc : List Resv), let x := m.target / 2 ^ 32; let c := u.slot x; let tokens := rdLe m.data 4 4;
      let np := rdLe m.data 8 4; s.Takes l 5 m u ∧ m.target % 2 ^ 32 = 0 ∧ c.bound = true ∧ c.tenant = m.tenant ∧ c.st = .resident ∧ c.tokens = 0 ∧
      c.seq = none ∧ c.pend = none ∧ u.xfer x = none ∧ c.layersM1 = rdLe m.data 0 1 ∧ c.tb = rdLe m.data 1 1 ∧ np = c.entries tokens ∧
      m.data.length = 12 ∧ u.sesUp = true ∧ np ≠ 0 ∧ State.grow x np 0 u [] = (v, acc, none) ∧ v.waited = false) ∧
    (∃ (s u v w : State) (l i : Nat) (m : Msg) (q : Xfer), let x := m.target / 2 ^ 32; let n := m.target % 2 ^ 32; s.Takes l 5 m u ∧ n ≠ 0 ∧
      u.xfer x = some q ∧ q.src = m.src ∧ n ≤ 256 * q.np ∧ u.kvPage x ((n - 1) / 256) = (v, some i) ∧
      v.vwrite none 0 (v.slot x).asid (v.slot x).tenant ((v.pool (v.slot x).pool).va i + 256 * ((n - 1) % 256)) m.data = (w, none) ∧
      w.waited = false) ∧
    (∃ (s u v w : State) (l i : Nat) (m : Msg) (q : Xfer), let x := m.target / 2 ^ 32; let n := m.target % 2 ^ 32; s.Takes l 5 m u ∧ n ≠ 0 ∧
      u.xfer x = some q ∧ q.src = m.src ∧ n ≤ 256 * q.np ∧ u.kvPage x ((n - 1) / 256) = (v, some i) ∧
      v.vwrite none 0 (v.slot x).asid (v.slot x).tenant ((v.pool (v.slot x).pool).va i + 256 * ((n - 1) % 256)) m.data = (w, none) ∧
      w.waited = false) ∧
    (∃ (s u : State) (l : Nat) (m : Msg) (q : Req) (j : Job) (st : Started),
      let b := ({ u with fab := { u.fab with reqs := u.fab.reqs.filter (fun x => x.tag != q.tag) } } : State).modJob q.ring q.idx (fun j => { j with waiting := j.waiting - 1 });
      u.fab.reqs.find? (fun q => q.tag == m.tag) = some q ∧ u.fab.jobs = [j] ∧ j.ring = q.ring ∧ j.idx = q.idx ∧ j.waiting = 1 ∧ j.err = none ∧
      j.total ≤ j.next ∧ u.fab.spores = [] ∧ (u.ring q.ring).find q.idx = some st ∧ st.d.cls = 5 ∧ st.d.op ≠ 6 ∧ u.waited = false ∧
      s.Takes l 0x10 m u ∧ q.op ≠ 3) ∧
    (∃ (s u : State) (l : Nat) (m : Msg) (q : Req) (j : Job) (st : Started) (v : _),
      let b := ({ u with fab := { u.fab with reqs := u.fab.reqs.filter (fun x => x.tag != q.tag) } } : State).modJob q.ring q.idx (fun j => { j with waiting := j.waiting - 1 });
      u.fab.reqs.find? (fun q => q.tag == m.tag) = some q ∧ u.fab.jobs = [j] ∧ j.ring = q.ring ∧ j.idx = q.idx ∧ j.waiting = 1 ∧ j.err = none ∧
      j.total ≤ j.next ∧ u.fab.spores = [] ∧ (u.ring q.ring).find q.idx = some st ∧ st.d.cls = 5 ∧ st.d.op ≠ 6 ∧ u.waited = false ∧
      s.Takes l 0x11 m u ∧ q.op = 3 ∧ b.vwrite none 0 (b.ringAsid q.ring) (b.ringTenant q.ring) q.va m.data = (v, none) ∧ v.waited = false) ∧
    (∃ (s u : State) (l : Nat) (m : Msg) (q : Req) (j : Job) (st : Started),
      let b := ({ u with fab := { u.fab with reqs := u.fab.reqs.filter (fun x => x.tag != q.tag) } } : State).modJob q.ring q.idx (fun j => { j with waiting := j.waiting - 1 });
      u.fab.reqs.find? (fun q => q.tag == m.tag) = some q ∧ u.fab.jobs = [j] ∧ j.ring = q.ring ∧ j.idx = q.idx ∧ j.waiting = 1 ∧ j.err = none ∧
      j.total ≤ j.next ∧ u.fab.spores = [] ∧ (u.ring q.ring).find q.idx = some st ∧ st.d.cls = 5 ∧ st.d.op ≠ 6 ∧ u.waited = false ∧
      s.Takes l 0x12 m u) :=
  ⟨(by refine ⟨sXfer, taken sXfer 4 5, _, 4, xferHead, _, takes ?_, ?_, ?_, ?_, ?_, ?_, (by decide +kernel), ?_, ?_, ?_, ?_, ?_, ?_, (by decide +kernel), ?_, trip_eq ?_, ?_⟩ <;> decide +kernel),
   (by refine ⟨sPiece 254, taken (sPiece 254) 4 5, sPage 254, sWrote 254, 4, _, xferPiece, xferOne 254, takes ?_, ?_, ?_, ?_, ?_, page_eq 254 _ _ ?_ ?_ ?_, wrote_eq 254 _ _ ?_ ?_ ?_, ?_⟩ <;> decide +kernel),
   (by refine ⟨sPiece 255, taken (sPiece 255) 4 5, sPage 255, sWrote 255, 4, _, xferPiece, xferOne 255, takes ?_, ?_, ?_, ?_, ?_, page_eq 255 _ _ ?_ ?_ ?_, wrote_eq 255 _ _ ?_ ?_ ?_, ?_⟩ <;> decide +kernel),
   ⟨rx (sReq 1 putZero) (msgOf 0x10 0 []), taken (rx (sReq 1 putZero) (msgOf 0x10 0 [])) 4 0x10, 4, (msgOf 0x10 0 []), req1 1, job1,
     fabStarted putZero,
    by dsimp only; refine ⟨?_, ?_, ?_, ?_, ?_, ?_, (by decide +kernel), ?_, ?_, ?_, ?_, ?_, takes ?_, (by decide +kernel)⟩ <;> decide +kernel⟩,
   (by refine ⟨rx (sReq 3 getZero) (msgOf 0x11 0 [1#8, 2#8]), taken (rx (sReq 3 getZero) (msgOf 0x11 0 [1#8, 2#8])) 4 0x11, 4, (msgOf 0x11 0 [1#8, 2#8]), req1 3, job1, fabStarted getZero, _, ?_, ?_, ?_, ?_, ?_, ?_, (by decide +kernel), ?_, ?_, ?_, ?_, ?_, takes ?_, (by decide +kernel), pair_eq ?_, ?_⟩ <;> decide +kernel),
   ⟨rx (sReq 1 putZero) (msgOf 0x12 0x0B0B []), taken (rx (sReq 1 putZero) (msgOf 0x12 0x0B0B [])) 4 0x12, 4, (msgOf 0x12 0x0B0B []), req1 1, job1,
     fabStarted putZero,
    by dsimp only; refine ⟨?_, ?_, ?_, ?_, ?_, ?_, (by decide +kernel), ?_, ?_, ?_, ?_, ?_, takes ?_⟩ <;> decide +kernel⟩⟩

def putDesc (op : Nat) : Desc := fabDesc op (9 * 2 ^ 44 + 3) (if op = 4 then 1 else 0x100) 0 2
/-- Link 4 is up and routes to device 9. -/
def sJob (op : Nat) : State :=
  let s := started (fabOn 2 { Link.init with credTx := ⟨64, 64, 64, 64⟩ }) 5 3 (putDesc op)
  { s with fab.routes := [(9, BitVec.ofNat 16 (0x8000 + 4 * 1024))], mem.thl := memPutN tables 0x200100 [1#8, 2#8] }
def sporeDesc : Desc := ⟨0x77#64, 1#64, 0x100#64, 16#64, 0x1000#64, 0#64, 0x3000#64, 0#64⟩
def sFwSpore : State := { (started fab0 5 3 sporeDesc) with fab.mcast := [(1, BitVec.ofNat 64 (2 ^ 63 + 16))] }
def tableDesc (table : Nat) : Desc := ⟨0x74#64, BitVec.ofNat 64 (table * 65536), 0x1000#64, 1#64, 0#64, 0#64, 0#64, 0#64⟩
/-- A table descriptor started, with the entry in memory. -/
def sFabTbl (table : Nat) (e : List Byte) : State := started { fab0 with mem.thl := memPutN tables 0x201000 e } 5 3 (tableDesc table)
def openDesc : Desc := fabDesc 0 0x70004 0x10000 2 0
def closeDesc : Desc := fabDesc 1 3 0 0 0
def sendDesc : Desc := fabDesc 6 5 0 0 0

/-- A state and operands for each clause of Obligations.FabricDescriptors, part 1 of 2. -/
theorem witness_FabricDescriptors_1 :
    (∃ (s : State) (r i : Nat) (d : Desc), s.opOf r i 5 0 = some d ∧ s.idValid = true ∧ (s.win (d.f 1 9 0)).open_ = false ∧
      (d.f 1 9 0 ≠ 1023 ∨ s.rget Fd.FWU_SPORE_EN = 0) ∧
      s.rangeMapped (s.ringAsid r) (s.ringTenant r) (d.f 2 47 0) (d.f 3 31 0) (d.f 1 18 16) = true ∧ s.waited = false) ∧
    (∃ (s : State) (r i : Nat) (d : Desc), s.opOf r i 5 1 = some d ∧ s.idValid = true ∧ (s.win (d.f 1 9 0)).open_ = true ∧
      (s.win (d.f 1 9 0)).tenant = s.ringTenant r) ∧
    (∃ (s : State) (r i op : Nat) (d : Desc) (c : Instr), (c, op) ∈ [(Instr.put r i, 2), (.get r i, 3), (.fabricSignal r i, 4)] ∧
      s.opOf r i 5 op = some d ∧ s.idValid = true ∧ (op = 2 → d.f 1 42 42 = 1 → reduceReserved (d.f 1 41 38) (d.f 1 37 36) = false) ∧
      (op = 4 → (s.ring r).started.any (fun x => decide (x.idx < i) && x.d.cls == 5 && x.d.op == 2 && x.d.f 1 57 44 == d.f 1 57 44 && x.d.f 1 43 43 == d.f 1 43 43) = false) ∧
      (s.jobBegin r i d).waited = false) ∧
    (∃ (s : State) (r i op : Nat) (d : Desc) (c : Instr), (c, op) ∈ [(Instr.put r i, 2), (.get r i, 3), (.fabricSignal r i, 4)] ∧
      s.opOf r i 5 op = some d ∧ s.idValid = true ∧ (op = 2 → d.f 1 42 42 = 1 → reduceReserved (d.f 1 41 38) (d.f 1 37 36) = false) ∧
      (op = 4 → (s.ring r).started.any (fun x => decide (x.idx < i) && x.d.cls == 5 && x.d.op == 2 && x.d.f 1 57 44 == d.f 1 57 44 && x.d.f 1 43 43 == d.f 1 43 43) = false) ∧
      (s.jobBegin r i d).waited = false) ∧
    (∃ (s : State) (r i op : Nat) (d : Desc) (c : Instr), (c, op) ∈ [(Instr.put r i, 2), (.get r i, 3), (.fabricSignal r i, 4)] ∧
      s.opOf r i 5 op = some d ∧ s.idValid = true ∧ (op = 2 → d.f 1 42 42 = 1 → reduceReserved (d.f 1 41 38) (d.f 1 37 36) = false) ∧
      (op = 4 → (s.ring r).started.any (fun x => decide (x.idx < i) && x.d.cls == 5 && x.d.op == 2 && x.d.f 1 57 44 == d.f 1 57 44 && x.d.f 1 43 43 == d.f 1 43 43) = false) ∧
      (s.jobBegin r i d).waited = false) ∧
    (∃ (s u v : State) (r i op va len : Nat) (d : Desc) (m : Msg) (c : Instr),
      let b := ({ s with fab := { s.fab with jobs := s.fab.jobs ++ [⟨r, i, 0, 1, 0, none⟩] } } : State).markRan r i; (c, op) ∈ [(Instr.put r i, 2),
      (.get r i, 3), (.fabricSignal r i, 4)] ∧ s.opOf r i 5 op = some d ∧ s.idValid = true ∧ (op = 2 → d.f 1 42 42 = 0) ∧
      (op = 4 → ∀ x ∈ (s.ring r).started, x.d.cls ≠ 5 ∨ x.d.op ≠ 2) ∧ s.jobTotal d = 1 ∧ s.job r i = none ∧ s.fab.reqs = [] ∧ b.jobMsg r d 0 = (u,
      .ok (m, va, len)) ∧ m.mc = false ∧ u.sendReq r i m va len = (v, true) ∧ v.waited = false) ∧
    (∃ (s u v : State) (r i op va len : Nat) (d : Desc) (m : Msg) (c : Instr),
      let b := ({ s with fab := { s.fab with jobs := s.fab.jobs ++ [⟨r, i, 0, 1, 0, none⟩] } } : State).markRan r i; (c, op) ∈ [(Instr.put r i, 2),
      (.get r i, 3), (.fabricSignal r i, 4)] ∧ s.opOf r i 5 op = some d ∧ s.idValid = true ∧ (op = 2 → d.f 1 42 42 = 0) ∧
      (op = 4 → ∀ x ∈ (s.ring r).started, x.d.cls ≠ 5 ∨ x.d.op ≠ 2) ∧ s.jobTotal d = 1 ∧ s.job r i = none ∧ s.fab.reqs = [] ∧ b.jobMsg r d 0 = (u,
      .ok (m, va, len)) ∧ m.mc = false ∧ u.sendReq r i m va len = (v, true) ∧ v.waited = false) ∧
    (∃ (s u v : State) (r i op va len : Nat) (d : Desc) (m : Msg) (c : Instr),
      let b := ({ s with fab := { s.fab with jobs := s.fab.jobs ++ [⟨r, i, 0, 1, 0, none⟩] } } : State).markRan r i; (c, op) ∈ [(Instr.put r i, 2),
      (.get r i, 3), (.fabricSignal r i, 4)] ∧ s.opOf r i 5 op = some d ∧ s.idValid = true ∧ (op = 2 → d.f 1 42 42 = 0) ∧
      (op = 4 → ∀ x ∈ (s.ring r).started, x.d.cls ≠ 5 ∨ x.d.op ≠ 2) ∧ s.jobTotal d = 1 ∧ s.job r i = none ∧ s.fab.reqs = [] ∧ b.jobMsg r d 0 = (u,
      .ok (m, va, len)) ∧ m.mc = false ∧ u.sendReq r i m va len = (v, true) ∧ v.waited = false) ∧
    (∃ (s : State) (r i : Nat) (d : Desc), s.opOf r i 5 6 = some d ∧ s.idValid = true ∧ s.sesUp = true ∧ (s.slot (d.f 1 15 0)).st = .resident ∧
      (s.slot (d.f 1 15 0)).seq = none ∧ (s.slot (d.f 1 15 0)).recBad = false ∧ s.boundOk (d.f 1 15 0) r 3 = true ∧
      ((s.modSlot (d.f 1 15 0) (fun q => { q with st := .parking })).jobBegin r i d).waited = false) ∧
    (∃ (s : State) (tag : Nat) (q : Req) (j : Job) (st : Started), s.fab.reqs.find? (fun q => q.tag == tag) = some q ∧
      25 * max 100 (s.rget Fd.FAB_CTL_E2E_TO_US) ≤ s.clock - q.sentAt ∧ s.fab.spores = [] ∧ s.fab.jobs = [j] ∧ j.ring = q.ring ∧ j.idx = q.idx ∧
      j.err = none ∧ (s.ring q.ring).find q.idx = some st ∧ st.d.cls = 5 ∧ st.d.op ≠ 6) ∧
    (∃ (s u : State) (r i : Nat) (d : Desc) (b : List Byte), let first := d.f 1 15 0; let n := d.f 3 15 0;
      let e := fun k => (BitVec.ofNat 16 (rdLe b (2 * k) 2) : W16); s.opOf r i 7 4 = some d ∧ u.waited = false ∧ d.f 1 17 16 = 0 ∧
      first + n ≤ 16384 ∧ s.vread none 0 (s.ringAsid r) (s.ringTenant r) (d.f 2 47 0) (2 * n) = (u, .ok b) ∧ (∀ k, k < n → u.routeOk (e k) = true)) ∧
    (∃ (s u : State) (r i : Nat) (d : Desc) (b : List Byte) (k : Nat), let first := d.f 1 15 0; let n := d.f 3 15 0;
      let e := fun k => (BitVec.ofNat 16 (rdLe b (2 * k) 2) : W16); s.opOf r i 7 4 = some d ∧ u.waited = false ∧ d.f 1 17 16 = 0 ∧
      first + n ≤ 16384 ∧ s.vread none 0 (s.ringAsid r) (s.ringTenant r) (d.f 2 47 0) (2 * n) = (u, .ok b) ∧ k < n ∧ u.routeOk (e k) = false) :=
  ⟨⟨started fab0 5 3 openDesc, 5, 3, openDesc, by decide +kernel⟩,
   ⟨started fab0 5 3 closeDesc, 5, 3, closeDesc, by decide +kernel⟩,
   ⟨sJob 2, 5, 3, 2, putDesc 2, .put 5 3, by refine ⟨.head _, ?_, ?_, ?_, ?_, ?_⟩ <;> decide +kernel⟩,
   ⟨sJob 3, 5, 3, 3, putDesc 3, .get 5 3, by refine ⟨.tail _ (.head _), ?_, ?_, ?_, ?_, ?_⟩ <;> decide +kernel⟩,
   ⟨sJob 4, 5, 3, 4, putDesc 4, .fabricSignal 5 3, by refine ⟨.tail _ (.tail _ (.head _)), ?_, ?_, ?_, ?_, ?_⟩ <;> decide +kernel⟩,
   (by refine ⟨sJob 2, _, _, 5, 3, 2, _, _, putDesc 2, _, .put 5 3, .head _, ?_, ?_, ?_, ?_, ?_, (by decide +kernel), ?_, pair_eq (ok_trip (d := (msgOf 0 0 [], 0, 0)) ?_), ?_, pair_eq ?_, ?_⟩ <;> decide +kernel),
   (by refine ⟨sJob 3, _, _, 5, 3, 3, _, _, putDesc 3, _, .get 5 3, .tail _ (.head _), ?_, ?_, ?_, ?_, ?_, (by decide +kernel), ?_, pair_eq (ok_trip (d := (msgOf 0 0 [], 0, 0)) ?_), ?_, pair_eq ?_, ?_⟩ <;> decide +kernel),
   (by refine ⟨sJob 4, _, _, 5, 3, 4, _, _, putDesc 4, _, .fabricSignal 5 3, .tail _ (.tail _ (.head _)), ?_, ?_, ?_, ?_, ?_, (by decide +kernel), ?_, pair_eq (ok_trip (d := (msgOf 0 0 [], 0, 0)) ?_), ?_, pair_eq ?_, ?_⟩ <;> decide +kernel),
   ⟨started (fabSes sesSlot) 5 3 sendDesc, 5, 3, sendDesc, by decide +kernel⟩,
   ⟨sReq 1 putZero, 1, req1 1, job1, fabStarted putZero, by decide +kernel⟩,
   (by refine ⟨sFabTbl 0 (leBytes 2 0x9000), _, 5, 3, tableDesc 0, leBytes 2 0x9000, ?_, ?_, ?_, ?_, pair_eq (ok_by ?_), ?_⟩ <;> decide +kernel),
   (by refine ⟨sFabTbl 0 (leBytes 2 0xFC00), _, 5, 3, tableDesc 0, leBytes 2 0xFC00, 0, ?_, ?_, ?_, ?_, pair_eq (ok_by ?_), ?_, ?_⟩ <;> decide +kernel)⟩

/-- A state and operands for each clause of Obligations.FabricDescriptors, part 2 of 2. -/
theorem witness_FabricDescriptors_2 :
    (∃ (s u : State) (r i : Nat) (d : Desc) (b : List Byte), let first := d.f 1 15 0; let n := d.f 3 15 0;
      let e := fun k => (BitVec.ofNat 64 (rdLe b (8 * k) 8) : W64); s.opOf r i 7 4 = some d ∧ u.waited = false ∧ d.f 1 17 16 = 1 ∧ first + n ≤ 4096 ∧
      s.vread none 0 (s.ringAsid r) (s.ringTenant r) (d.f 2 47 0) (8 * n) = (u, .ok b) ∧ (∀ k, k < n → u.mcastOk (e k) = true)) ∧
    (∃ (s u : State) (r i : Nat) (d : Desc) (b : List Byte), let first := d.f 1 15 0; let n := d.f 3 15 0;
      let e := fun k => (⟨BitVec.ofNat 64 (rdLe b (16 * k) 8), BitVec.ofNat 64 (rdLe b (16 * k + 8) 8)⟩ : RGrp); s.opOf r i 7 4 = some d ∧
      u.waited = false ∧ 2 ≤ d.f 1 17 16 ∧ first + n ≤ 256 ∧ s.vread none 0 (s.ringAsid r) (s.ringTenant r) (d.f 2 47 0) (16 * n) = (u, .ok b) ∧
      (∀ k, k < n → u.groupOk (e k) = true) ∧ (∀ k, k < n → (u.red (first + k)).isSome = true → u.rgrp (first + k) = e k)) ∧
    (∃ (s u v : State) (r i : Nat) (d : Desc) (ids p : List Byte), let n := d.f 5 13 0 + 1; s.opOf r i 7 7 = some d ∧ s.idValid = true ∧
      v.waited = false ∧ s.vread none 0 (s.ringAsid r) (s.ringTenant r) (d.f 4 47 0) (2 * n) = (u, .ok ids) ∧
      u.vread none 0 (u.ringAsid r) (u.ringTenant r) (d.f 2 47 0) (d.f 3 31 0) = (v, .ok p) ∧ p ≠ [] ∧ v.mcUp (d.f 1 11 0) ≠ [] ∧ s.spore r i = none) :=
  ⟨(by refine ⟨sFabTbl 1 (leBytes 8 (2 ^ 63 + 16)), _, 5, 3, tableDesc 1, leBytes 8 (2 ^ 63 + 16), ?_, ?_, ?_, ?_, pair_eq (ok_by ?_), ?_⟩ <;> decide +kernel),
   (by refine ⟨sFabTbl 2 (leBytes 8 (2 ^ 63 + 4 * 2 ^ 54 + 16) ++ leBytes 8 0), _, 5, 3, tableDesc 2, leBytes 8 (2 ^ 63 + 4 * 2 ^ 54 + 16) ++ leBytes 8 0, ?_, ?_, ?_, ?_, pair_eq (ok_by ?_), ?_, ?_⟩ <;> decide +kernel),
   (by refine ⟨sFwSpore, _, _, 5, 3, sporeDesc, [0#8, 0#8], List.replicate 16 0#8, ?_, ?_, ?_, pair_eq (ok_by ?_), pair_eq (ok_by ?_), ?_, (by decide +kernel), ?_⟩ <;> decide +kernel)⟩

/-- A reduction group whose child is link 4, and its reduction under way. -/
def grp2 (role : Nat) : RGrp := ⟨BitVec.ofNat 64 (2 ^ 63 + role * 2 ^ 61 + 4 * 2 ^ 54 + 16), BitVec.ofNat 64 (3 * 2 ^ 38)⟩
def redDesc : Desc := fabDesc 5 (2 * 2 ^ 56 + 6 * 2 ^ 40) 0 256 0
def redSig : Desc := fabDesc 5 (2 * 2 ^ 56 + 6 * 2 ^ 40 + 2 ^ 13 + 9) 0 256 0
def redLong : Desc := fabDesc 5 0 0 256 0
def red2 (fin : Bool) : Red := ⟨5, 3, 6, 0, 0, 2, 0, 0, 0, 0, 0, fin, []⟩
def sRed (role : Nat) (d : Desc) (q : Option Red) : State :=
  let s := started fab0 5 3 d
  { s with fab.groups := [(2, grp2 role)], fab.reds := (match q with | some q => [(2, some q)] | none => []) }
/-- The same with a message that has come. -/
def sRedRx (role : Nat) (q : Option Red) (m : Msg) : State := rx (sRed role redDesc q) m
def redT : Nat := 2 * 2 ^ 40 + 6 * 2 ^ 24
def chunkMsg (t : Nat) : Msg := msgOf 0x20 t (List.replicate 128 1#8)
def abortMsg : Msg := msgOf 0x31 redT []
def advMsg : Msg := msgOf 0x30 (redT + 9) []
/-- A root on a part without the reduction unit, and a chunk that came in. -/
def sSplit : State := { (sRedRx 2 (some (red2 false)) (chunkMsg redT)) with part := .fjd2840 }
/-- What it performed, and the reduction then. -/
def sSplitDone : State := ((rxed sSplit 4 0x20).redPerform ((chunkMsg redT).target / 2 ^ 40) (red2 false) ((chunkMsg redT).target % 2 ^ 24) (chunkMsg redT).data).1
def sSplitNext : State :=
  (sSplitDone.setRed ((chunkMsg redT).target / 2 ^ 40) (some ((red2 false).modChunk ((chunkMsg redT).target % 2 ^ 24)
    (fun c => { c with from_ := c.from_ ||| (1 <<< 4) })))).redGo ((chunkMsg redT).target / 2 ^ 40)
def sRedSig : State := { (sRed 2 redSig (some (red2 true))) with sor.sori := [(9, sorus9 5 7)] }
def sAdv : State := { (sRed 0 redDesc none) with fab.advs := [(2, 6, 9)] }

/-- A state and operands for each clause of Obligations.Reductions, part 1 of 2. -/
theorem witness_Reductions_1 :
    (∃ (s : State) (r i limit : Nat) (d : Desc), let g := d.f 1 63 56; let seq := d.f 1 55 40; let e := s.rgrp g;
      let b : State := { s with fab := { s.fab with advs := s.fab.advs.filter (fun a => !(a.1 == g && a.2.1 == seq)), aborted := s.fab.aborted.filter (· != (g, seq)) } };
      let q : Red := ⟨r, i, seq, d.f 1 39 36, d.f 1 35 34, d.f 3 31 0 / 128, s.clock, 0, 0, limit, 0, false, []⟩;
      let t := (((b.markRan r i).setRed g (some q)).redAdvance g q).redGo g; s.opOf r i 5 5 = some d ∧ s.idValid = true ∧
      reduceReserved (d.f 1 39 36) (d.f 1 35 34) = false ∧ e.valid = true ∧ (e.localIn = true → d.f 3 31 0 % elemSize (d.f 1 35 34) = 0) ∧
      s.red g = none ∧ s.fab.aborted.contains (g, seq) = false ∧
      limit = ((s.fab.advs.find? (fun a => a.1 == g && a.2.1 == seq)).map (·.2.2)).getD 0 ∧ (e.role = 2 → s.redWinOk e (d.f 3 31 0) = true) ∧
      (∀ l ∈ e.links, s.linkUp l = true) ∧ t.waited = false) ∧
    (∃ (s : State) (r i limit : Nat) (d : Desc), let g := d.f 1 63 56; let seq := d.f 1 55 40; let e := s.rgrp g;
      let b : State := { s with fab := { s.fab with advs := s.fab.advs.filter (fun a => !(a.1 == g && a.2.1 == seq)), aborted := s.fab.aborted.filter (· != (g, seq)) } };
      let q : Red := ⟨r, i, seq, d.f 1 39 36, d.f 1 35 34, d.f 3 31 0 / 128, s.clock, 0, 0, limit, 0, false, []⟩;
      let t := (((b.markRan r i).setRed g (some q)).redAdvance g q).redGo g; s.opOf r i 5 5 = some d ∧ s.idValid = true ∧
      reduceReserved (d.f 1 39 36) (d.f 1 35 34) = false ∧ e.valid = true ∧ (e.localIn = true → d.f 3 31 0 % elemSize (d.f 1 35 34) = 0) ∧
      s.red g = none ∧ s.fab.aborted.contains (g, seq) = false ∧
      limit = ((s.fab.advs.find? (fun a => a.1 == g && a.2.1 == seq)).map (·.2.2)).getD 0 ∧ (e.role = 2 → s.redWinOk e (d.f 3 31 0) = true) ∧
      (∀ l ∈ e.links, s.linkUp l = true) ∧ t.waited = false) ∧
    (∃ (s : State) (r i limit : Nat) (d : Desc), let g := d.f 1 63 56; let seq := d.f 1 55 40; let e := s.rgrp g;
      let b : State := { s with fab := { s.fab with advs := s.fab.advs.filter (fun a => !(a.1 == g && a.2.1 == seq)), aborted := s.fab.aborted.filter (· != (g, seq)) } };
      let q : Red := ⟨r, i, seq, d.f 1 39 36, d.f 1 35 34, d.f 3 31 0 / 128, s.clock, 0, 0, limit, 0, false, []⟩;
      let t := (((b.markRan r i).setRed g (some q)).redAdvance g q).redGo g; s.opOf r i 5 5 = some d ∧ s.idValid = true ∧
      reduceReserved (d.f 1 39 36) (d.f 1 35 34) = false ∧ e.valid = true ∧ (e.localIn = true → d.f 3 31 0 % elemSize (d.f 1 35 34) = 0) ∧
      s.red g = none ∧ s.fab.aborted.contains (g, seq) = false ∧
      limit = ((s.fab.advs.find? (fun a => a.1 == g && a.2.1 == seq)).map (·.2.2)).getD 0 ∧ (e.role = 2 → s.redWinOk e (d.f 3 31 0) = true) ∧
      (∀ l ∈ e.links, s.linkUp l = true) ∧ t.waited = false) ∧
    (∃ (s : State) (r i : Nat) (d : Desc), s.opOf r i 5 5 = some d ∧ s.idValid = true ∧ reduceReserved (d.f 1 39 36) (d.f 1 35 34) = false ∧
      (s.rgrp (d.f 1 63 56)).valid = false ∧ s.waited = false) ∧
    (∃ (s u : State) (l : Nat) (m : Msg) (q : Red) (t : _), let g := m.target / 2 ^ 40; let k := m.target % 2 ^ 24; s.takeRx l 0x20 = some (m, u) ∧
      u.red g = some q ∧ m.target / 2 ^ 24 % 65536 = q.seq ∧ m.redop = q.redop ∧ m.rtype = q.rtype ∧ k < q.chunks ∧
      (u.rgrp g).children.contains l = true ∧ q.low ≤ k ∧ k < q.low + 512 ∧ (∀ c ∈ q.window, c.index = k → nbit c.from_ l = false) ∧
      u.redSplit (u.rgrp g) = false ∧
      (u.setRed g (some (q.modChunk k (fun c => { c with from_ := c.from_ ||| (1 <<< l), value := some (q.combine c.value m.data) })))).redGo g = t ∧
      t.waited = false) ∧
    (∃ (s u : State) (l : Nat) (m : Msg) (q : Red) (t : _), let g := m.target / 2 ^ 40; let k := m.target % 2 ^ 24; s.takeRx l 0x20 = some (m, u) ∧
      u.red g = some q ∧ m.target / 2 ^ 24 % 65536 = q.seq ∧ m.redop = q.redop ∧ m.rtype = q.rtype ∧ k < q.chunks ∧
      (u.rgrp g).children.contains l = true ∧ q.low ≤ k ∧ k < q.low + 512 ∧ (∀ c ∈ q.window, c.index = k → nbit c.from_ l = false) ∧
      u.redSplit (u.rgrp g) = false ∧
      (u.setRed g (some (q.modChunk k (fun c => { c with from_ := c.from_ ||| (1 <<< l), value := some (q.combine c.value m.data) })))).redGo g = t ∧
      t.waited = false) ∧
    (∃ (s u : State) (l : Nat) (m : Msg) (q : Red) (v : _) (t : _), let g := m.target / 2 ^ 40; let k := m.target % 2 ^ 24;
      s.takeRx l 0x20 = some (m, u) ∧ u.red g = some q ∧ m.target / 2 ^ 24 % 65536 = q.seq ∧ m.redop = q.redop ∧ m.rtype = q.rtype ∧ k < q.chunks ∧
      (u.rgrp g).children.contains l = true ∧ q.low ≤ k ∧ k < q.low + 512 ∧ (∀ c ∈ q.window, c.index = k → nbit c.from_ l = false) ∧
      u.redSplit (u.rgrp g) = true ∧ u.redPerform g q k m.data = (v, true) ∧
      (v.setRed g (some (q.modChunk k (fun c => { c with from_ := c.from_ ||| (1 <<< l) })))).redGo g = t ∧ t.waited = false) ∧
    (∃ (s u : State) (l : Nat) (m : Msg) (q : Red) (st : Started), let g := m.target / 2 ^ 40; let seq := m.target / 2 ^ 24 % 65536;
      u.red g = some q ∧ (u.ring q.ring).find q.idx = some st ∧ u.waited = false ∧ s.takeRx l 0x20 = some (m, u) ∧ seq ≠ q.seq) ∧
    (∃ (s u : State) (l : Nat) (m : Msg) (q : Red) (st : Started), let g := m.target / 2 ^ 40; let seq := m.target / 2 ^ 24 % 65536;
      u.red g = some q ∧ (u.ring q.ring).find q.idx = some st ∧ u.waited = false ∧ s.takeRx l 0x31 = some (m, u) ∧ seq = q.seq) ∧
    (∃ (s u : State) (l : Nat) (m : Msg) (q : Red) (st : Started) (t : _), let g := m.target / 2 ^ 40; let seq := m.target / 2 ^ 24 % 65536;
      u.red g = some q ∧ (u.ring q.ring).find q.idx = some st ∧ u.waited = false ∧ s.takeRx l 0x30 = some (m, u) ∧ seq = q.seq ∧
      (u.rgrp g).role ≠ 2 ∧ (u.rgrp g).parent = l ∧ (u.setRed g (some { q with limit := max q.limit (m.target % 2 ^ 24) })).redGo g = t ∧
      t.waited = false) ∧
    (∃ (s u : State) (l : Nat) (m : Msg), u.red (m.target / 2 ^ 40) = none ∧ u.waited = false ∧ s.takeRx l 0x31 = some (m, u)) :=
  ⟨⟨sRed 0 redDesc none, 5, 3, 0, redDesc, by dsimp only; decide +kernel⟩,
   ⟨sAdv, 5, 3, 9, redDesc, by dsimp only; decide +kernel⟩,
   ⟨sRed 2 redDesc none, 5, 3, 0, redDesc, by dsimp only; decide +kernel⟩,
   ⟨started fab0 5 3 redLong, 5, 3, redLong, by decide +kernel⟩,
   ⟨sRedRx 0 (some (red2 false)) (chunkMsg (redT + 0)), rxed (sRedRx 0 (some (red2 false)) (chunkMsg (redT + 0))) 4 0x20, 4, (chunkMsg (redT + 0)),
     red2 false,
     ((rxed (sRedRx 0 (some (red2 false)) (chunkMsg (redT + 0))) 4 0x20).setRed ((chunkMsg (redT + 0)).target / 2 ^ 40) (some ((red2 false).modChunk ((chunkMsg (redT + 0)).target % 2 ^ 24) (fun c => { c with from_ := c.from_ ||| (1 <<< 4), value := some ((red2 false).combine c.value (chunkMsg (redT + 0)).data) })))).redGo ((chunkMsg (redT + 0)).target / 2 ^ 40),
    by dsimp only; refine ⟨rxd ?_, ?_, ?_, ?_, ?_, ?_, (by decide +kernel), ?_, ?_, ?_, ?_, rfl, ?_⟩ <;> decide +kernel⟩,
   ⟨sRedRx 0 (some (red2 false)) (chunkMsg (redT + 1)), rxed (sRedRx 0 (some (red2 false)) (chunkMsg (redT + 1))) 4 0x20, 4, (chunkMsg (redT + 1)),
     red2 false,
     ((rxed (sRedRx 0 (some (red2 false)) (chunkMsg (redT + 1))) 4 0x20).setRed ((chunkMsg (redT + 1)).target / 2 ^ 40) (some ((red2 false).modChunk ((chunkMsg (redT + 1)).target % 2 ^ 24) (fun c => { c with from_ := c.from_ ||| (1 <<< 4), value := some ((red2 false).combine c.value (chunkMsg (redT + 1)).data) })))).redGo ((chunkMsg (redT + 1)).target / 2 ^ 40),
    by dsimp only; refine ⟨rxd ?_, ?_, ?_, ?_, ?_, ?_, (by decide +kernel), ?_, ?_, ?_, ?_, rfl, ?_⟩ <;> decide +kernel⟩,
   ⟨sSplit, rxed sSplit 4 0x20, 4, chunkMsg redT, red2 false, sSplitDone, sSplitNext,
    by dsimp only; refine ⟨rxd ?_, ?_, ?_, ?_, ?_, ?_, (by decide +kernel), ?_, ?_, ?_, ?_, pair_eq ?_, rfl, (by decide +kernel)⟩ <;> decide +kernel⟩,
   ⟨sRedRx 0 (some (red2 false)) (chunkMsg (redT + 2 ^ 24)), rxed (sRedRx 0 (some (red2 false)) (chunkMsg (redT + 2 ^ 24))) 4 0x20, 4,
     (chunkMsg (redT + 2 ^ 24)), red2 false, fabStarted redDesc, by dsimp only; refine ⟨?_, ?_, ?_, rxd ?_, ?_⟩ <;> decide +kernel⟩,
   ⟨sRedRx 0 (some (red2 false)) abortMsg, rxed (sRedRx 0 (some (red2 false)) abortMsg) 4 0x31, 4, abortMsg, red2 false, fabStarted redDesc,
    by dsimp only; refine ⟨?_, ?_, ?_, rxd ?_, ?_⟩ <;> decide +kernel⟩,
   ⟨sRedRx 0 (some (red2 false)) advMsg, rxed (sRedRx 0 (some (red2 false)) advMsg) 4 0x30, 4, advMsg, red2 false, fabStarted redDesc,
     ((rxed (sRedRx 0 (some (red2 false)) advMsg) 4 0x30).setRed (advMsg.target / 2 ^ 40) (some { (red2 false) with limit := max (red2 false).limit (advMsg.target % 2 ^ 24) })).redGo (advMsg.target / 2 ^ 40),
    by dsimp only; refine ⟨?_, ?_, ?_, rxd ?_, ?_, ?_, (by decide +kernel), rfl, ?_⟩ <;> decide +kernel⟩,
   ⟨sRedRx 0 none abortMsg, rxed (sRedRx 0 none abortMsg) 4 0x31, 4, abortMsg, by refine ⟨?_, ?_, rxd ?_⟩ <;> decide +kernel⟩⟩

/-- A state and operands for each clause of Obligations.Reductions, part 2 of 2. -/
theorem witness_Reductions_2 :
    (∃ (s u : State) (l : Nat) (m : Msg), u.red (m.target / 2 ^ 40) = none ∧ u.waited = false ∧ s.takeRx l 0x30 = some (m, u) ∧
      (u.rgrp (m.target / 2 ^ 40)).role ≠ 2 ∧ (u.rgrp (m.target / 2 ^ 40)).parent = l) ∧
    (∃ (s : State) (g : Nat) (q : Red) (st : Started), s.red g = some q ∧ (s.ring q.ring).find q.idx = some st ∧ q.fin = true ∧ s.waited = false ∧
      ((s.rgrp g).role ≠ 2 ∨ st.d.f 1 13 13 = 0)) ∧
    (∃ (s : State) (g : Nat) (q : Red) (st : Started), s.red g = some q ∧ (s.ring q.ring).find q.idx = some st ∧ q.fin = true ∧ s.waited = false ∧
      ((s.rgrp g).role ≠ 2 ∨ st.d.f 1 13 13 = 0)) ∧
    (∃ (s : State) (g : Nat) (q : Red) (st : Started) (v : _), s.red g = some q ∧ (s.ring q.ring).find q.idx = some st ∧ q.fin = true ∧
      v.waited = false ∧ (s.rgrp g).role = 2 ∧ st.d.f 1 13 13 = 1 ∧
      (s.setRed g none).sorNow (16 + s.rget (Fd.RNG_CTL_CP q.ring)) (st.d.f 1 12 0) 1 (s.ringTenant q.ring) = (v, none)) ∧
    (∃ (s : State) (g : Nat) (q : Red) (st : Started), s.red g = some q ∧ (s.ring q.ring).find q.idx = some st ∧
      25000 * max 1 (s.rget Fd.FAB_CTL_RED_TO_MS) ≤ s.clock - q.startAt) :=
  ⟨⟨sRedRx 0 none advMsg, rxed (sRedRx 0 none advMsg) 4 0x30, 4, advMsg, by refine ⟨?_, ?_, rxd ?_, ?_, ?_⟩ <;> decide +kernel⟩,
   ⟨sRed 0 redDesc (some (red2 true)), 2, red2 true, fabStarted redDesc, by decide +kernel⟩,
   ⟨sRed 2 redDesc (some (red2 true)), 2, red2 true, fabStarted redDesc, by decide +kernel⟩,
   (by refine ⟨sRedSig, 2, red2 true, fabStarted redSig, _, ?_, ?_, ?_, ?_, ?_, ?_, pair_eq ?_⟩ <;> decide +kernel),
   ⟨sRed 0 redDesc (some (red2 false)), 2, red2 false, fabStarted redDesc, by decide +kernel⟩⟩

/-! ## Security -/

def secOn : State := noon.rset Fd.SEC_STAT_RNG_OK 1
def rngOff (n : Nat) : State := { (noon.rset Fd.SEC_STAT_RNG_OK 0) with sec.passes := n }
def secDerived : State := { secOn with sec.derived := true, sec.lmsNext := 1024, sec.nextIdx := 900 }
def sLowIdx (at_ : Option Nat) : State := { secDerived with sec.nextIdx := 2 ^ 40 - 1, sec.lowAt := at_, clock := 2160000000001 }
def sRefuse : State := { secDerived with sec.requests := 0 }.rset Fd.SEC_STAT_POLICY 8
def sNightBus : State := secDerived.rset Fd.HUB_CONN_STAT_NIGHT_UP 1
def sSpdm : State := { secOn with sec.spdm := [(1, some [])] }

/-- A state and operands for each clause of Obligations.SecurityEngine, part 1 of 2. -/
theorem witness_SecurityEngine_1 :
    (∃ (s : State), s.rngOk = true) ∧
    (∃ (s : State), s.rngOk = false ∧ s.sec.retestAt + 25000000 ≤ s.clock ∧ s.sec.passes = 9) ∧
    (∃ (s : State), s.rngOk = false ∧ s.sec.retestAt + 25000000 ≤ s.clock ∧ s.sec.passes < 9) ∧
    (∃ (s : State), s.rngOk = false ∧ s.sec.retestAt + 25000000 ≤ s.clock) ∧
    (∃ (s : State), s.secUp = true ∧ s.sec.derived = true ∧ s.sec.lmsBusy = false ∧ s.reserveDue = true) ∧
    (∃ (s : State), s.sec.lmsDone = some true ∧ s.sec.evWait = []) ∧
    (∃ (s : State), s.sec.lmsDone = some false) ∧
    (∃ (s : State) (n : Nat), s.sec.building = some n) :=
  ⟨⟨secOn, by decide +kernel⟩,
   ⟨rngOff 9, by decide +kernel⟩,
   ⟨rngOff 8, by decide +kernel⟩,
   ⟨rngOff 5, by decide +kernel⟩,
   ⟨secDerived, by decide +kernel⟩,
   ⟨{ secDerived with sec.lmsDone := some true, sec.lmsBusy := true }, by decide +kernel⟩,
   ⟨{ secDerived with sec.lmsDone := some false, sec.lmsBusy := true }, by decide +kernel⟩,
   ⟨{ secDerived with sec.building := some 3 }, 3, by decide +kernel⟩⟩

/-- A state and operands for each clause of Obligations.SecurityEngine, part 2 of 2. -/
theorem witness_SecurityEngine_2 :
    (∃ (s : State), s.sec.derived = true ∧ 2 ^ 40 - 2 ^ 36 < s.sec.nextIdx ∧ s.sec.nextIdx ≤ 2 ^ 40 ∧ (∀ c,
      s.sec.lowAt = some c → 2160000000000 ≤ s.clock - c)) ∧
    (∃ (s : State), s.sec.derived = true ∧ 2 ^ 40 - 2 ^ 36 < s.sec.nextIdx ∧ s.sec.nextIdx ≤ 2 ^ 40 ∧ (∀ c,
      s.sec.lowAt = some c → 2160000000000 ≤ s.clock - c)) ∧
    (∃ (s : State) (night : Bool) (nonce : Nat), let body := s.evidenceBody nonce s.sec.nextIdx; s.secUp = true ∧
      (night = true → s.rget Fd.HUB_CONN_STAT_NIGHT_UP = 1) ∧ (night = true ∨ nbit (s.rget Fd.SEC_STAT_POLICY) 3 = false) ∧ s.sec.nextIdx < 2 ^ 40 ∧
      s.signBusy = false ∧ s.indexReady = true) ∧
    (∃ (s : State) (night : Bool) (nonce : Nat), let body := s.evidenceBody nonce s.sec.nextIdx; s.secUp = true ∧
      (night = true → s.rget Fd.HUB_CONN_STAT_NIGHT_UP = 1) ∧ (night = true ∨ nbit (s.rget Fd.SEC_STAT_POLICY) 3 = false) ∧ s.sec.nextIdx < 2 ^ 40 ∧
      s.signBusy = false ∧ s.indexReady = true) ∧
    (∃ (s : State) (nonce : Nat), s.secUp = true ∧ nbit (s.rget Fd.SEC_STAT_POLICY) 3 = true) ∧
    (∃ (s : State) (night : Bool) (nonce : List Byte), s.secUp = true ∧ (night = true → s.rget Fd.HUB_CONN_STAT_NIGHT_UP = 1)) ∧
    (∃ (s u : State) (night : Bool) (pub e : List Byte) (k : Nat), s.secUp = true ∧ (night = true → s.rget Fd.HUB_CONN_STAT_NIGHT_UP = 1) ∧
      (List.range 4).find? (fun k => (spGet (fun _ => none) s.sec.spdm k).isNone) = some k ∧ s.random 6 = some (u, e)) ∧
    (∃ (s : State) (night : Bool) (k : Nat), s.secUp = true ∧ (night = true → s.rget Fd.HUB_CONN_STAT_NIGHT_UP = 1) ∧
      (spGet (fun _ => none) s.sec.spdm k).isSome = true) :=
  ⟨⟨sLowIdx none, by decide +kernel⟩,
   ⟨sLowIdx (some 1), by decide +kernel⟩,
   ⟨secDerived, false, 7, by dsimp only; decide +kernel⟩,
   ⟨sNightBus, true, 7, by dsimp only; decide +kernel⟩,
   ⟨sRefuse, 7, by decide +kernel⟩,
   ⟨sNightBus, true, [1#8], by decide +kernel⟩,
   (by refine ⟨secOn, _, false, [], _, 0, ?_, ?_, ?_, some_eq (d := (noon, [])) ?_⟩ <;> decide +kernel),
   ⟨sSpdm, false, 1, by decide +kernel⟩⟩

def eraseDesc : Desc := ⟨0x75#64, 0#64, 0#64, 0#64, 0#64, 0#64, 0#64, 0#64⟩
/-- Tenant 0 with a tenant key, and slot 5 in a state. -/
def sErase (st : SlotSt) : State := (started (sesOn { sesSlot with st := st, key := some [] }) 5 3 eraseDesc).setTenantKey 0 (some [])
def sIdeSet : State := secOn.setIde 2 ⟨some [], some [], some 1⟩
def sTdi (v : Nat) : State := (sIdeSet.rset Fd.SEC_TDI_BIND_VALID 1).rset Fd.SEC_TDI_STATE v
def key96 : List Byte := List.replicate 96 5#8

/-- A state and operands for each clause of Obligations.KeysOwnerAndTdi, part 1 of 2. -/
theorem witness_KeysOwnerAndTdi_1 :
    (∃ (s : State) (r i : Nat) (d : Desc), s.opOf r i 7 5 = some d ∧ s.eraseRefused (d.f 1 9 0) = none ∧ s.eraseWrites (d.f 1 9 0) = []) ∧
    (∃ (s : State) (r i : Nat) (d : Desc), s.opOf r i 7 5 = some d ∧ s.eraseRefused (d.f 1 9 0) = none ∧ s.eraseWrites (d.f 1 9 0) ≠ []) ∧
    (∃ (s : State) (r i code : Nat) (d : Desc), s.opOf r i 7 5 = some d ∧ s.eraseRefused (d.f 1 9 0) = some code) ∧
    (∃ (s : State) (x : Nat), (s.slot x).key.isSome = true) ∧
    (∃ (s : State) (x : Nat), (s.tenantKey x).isSome = true) ∧
    (∃ (s : State) (x : Nat), (spGet (fun _ => none) s.sec.spdm x).isSome = true) ∧
    (∃ (s : State), s.sec.derived = true) ∧
    (∃ (s : State) (x : Nat), (s.ideStream x).set0.isSome = true ∧ (s.ideStream x).use ≠ some 0) :=
  ⟨⟨started secOn 5 3 eraseDesc, 5, 3, eraseDesc, by decide +kernel⟩,
   ⟨sErase .parked, 5, 3, eraseDesc, by decide +kernel⟩,
   ⟨sErase .resident, 5, 3, 1, eraseDesc, by decide +kernel⟩,
   ⟨sErase .resident, 5, by decide +kernel⟩,
   ⟨sErase .parked, 0, by decide +kernel⟩,
   ⟨sSpdm, 1, by decide +kernel⟩,
   ⟨secDerived, by decide +kernel⟩,
   ⟨sIdeSet, 2, by decide +kernel⟩⟩

/-- A state and operands for each clause of Obligations.KeysOwnerAndTdi, part 2 of 2. -/
theorem witness_KeysOwnerAndTdi_2 :
    (∃ (s : State) (k counter policy : Nat) (key sig : List Byte) (peers : List (Nat × List Byte)) (m : OwnerMsg) (c : Instr),
      ((c = .ownerClaim k counter key ∧ m = ⟨0, counter, key, 0, []⟩ ∧ sig = []) ∨ (c = .ownerRelease k counter sig ∧ m = ⟨1, counter, [], 0,
      []⟩) ∨ (c = .policySet k counter policy sig ∧ m = ⟨2, counter, [], policy % 16, []⟩) ∨ (c = .peerTableLoad k counter peers sig ∧ m = ⟨3,
      counter, [], 0, peers⟩)) ∧ s.secSwitching = false) ∧
    (∃ (s : State) (k counter policy : Nat) (key sig : List Byte) (peers : List (Nat × List Byte)) (m : OwnerMsg) (c : Instr),
      ((c = .ownerClaim k counter key ∧ m = ⟨0, counter, key, 0, []⟩ ∧ sig = []) ∨ (c = .ownerRelease k counter sig ∧ m = ⟨1, counter, [], 0,
      []⟩) ∨ (c = .policySet k counter policy sig ∧ m = ⟨2, counter, [], policy % 16, []⟩) ∨ (c = .peerTableLoad k counter peers sig ∧ m = ⟨3,
      counter, [], 0, peers⟩)) ∧ s.secSwitching = false) ∧
    (∃ (s : State) (k counter policy : Nat) (key sig : List Byte) (peers : List (Nat × List Byte)) (m : OwnerMsg) (c : Instr),
      ((c = .ownerClaim k counter key ∧ m = ⟨0, counter, key, 0, []⟩ ∧ sig = []) ∨ (c = .ownerRelease k counter sig ∧ m = ⟨1, counter, [], 0,
      []⟩) ∨ (c = .policySet k counter policy sig ∧ m = ⟨2, counter, [], policy % 16, []⟩) ∨ (c = .peerTableLoad k counter peers sig ∧ m = ⟨3,
      counter, [], 0, peers⟩)) ∧ s.secSwitching = false) ∧
    (∃ (s : State) (k counter policy : Nat) (key sig : List Byte) (peers : List (Nat × List Byte)) (m : OwnerMsg) (c : Instr),
      ((c = .ownerClaim k counter key ∧ m = ⟨0, counter, key, 0, []⟩ ∧ sig = []) ∨ (c = .ownerRelease k counter sig ∧ m = ⟨1, counter, [], 0,
      []⟩) ∨ (c = .policySet k counter policy sig ∧ m = ⟨2, counter, [], policy % 16, []⟩) ∨ (c = .peerTableLoad k counter peers sig ∧ m = ⟨3,
      counter, [], 0, peers⟩)) ∧ s.secSwitching = false) ∧
    (∃ (s : State) (k counter policy : Nat) (key sig : List Byte) (peers : List (Nat × List Byte)) (m : OwnerMsg) (c : Instr),
      ((c = .ownerClaim k counter key ∧ m = ⟨0, counter, key, 0, []⟩ ∧ sig = []) ∨ (c = .ownerRelease k counter sig ∧ m = ⟨1, counter, [], 0,
      []⟩) ∨ (c = .policySet k counter policy sig ∧ m = ⟨2, counter, [], policy % 16, []⟩) ∨ (c = .peerTableLoad k counter peers sig ∧ m = ⟨3,
      counter, [], 0, peers⟩)) ∧ s.secSwitching = false) ∧
    (∃ (s : State) (k stream : Nat) (key : List Byte), s.secUp = true ∧ (spGet (fun _ => none) s.sec.spdm k).isSome = true ∧ stream < 6 ∧
      (s.ideStream stream).use ≠ some 0) ∧
    (∃ (s : State) (k stream : Nat) (key : List Byte), s.secUp = true ∧ (spGet (fun _ => none) s.sec.spdm k).isSome = true ∧ stream < 6 ∧
      (s.ideStream stream).use ≠ some 1) ∧
    (∃ (s : State) (stream : Nat), stream < 6 ∧ (s.ideStream stream).set1.isSome = true) ∧
    (∃ (s : State) (stream : Nat), stream < 6 ∧ (s.ideStream stream).set0.isSome = true) ∧
    (∃ (s : State), s.tdi = 0 ∧ s.rget Fd.SEC_TDI_BIND_VALID = 1 ∧ (∃ n, n < 5 ∧ s.ideSecure n = true) ∧
      (s.hpt.hdm0.committed = true ∨ s.hpt.hdm1.committed = true → s.ideSecure 5 = true)) ∧
    (∃ (s : State), s.tdi = 1) :=
  ⟨⟨sSpdm, 1, 9, 5, [], [], [], ⟨0, 9, [], 0, []⟩, .ownerClaim 1 9 [], by refine ⟨.inl ⟨rfl, rfl, rfl⟩, ?_⟩ <;> decide +kernel⟩,
   ⟨sSpdm, 1, 9, 5, [], [2#8], [], ⟨1, 9, [], 0, []⟩, .ownerRelease 1 9 [2#8], by refine ⟨.inr (.inl ⟨rfl, rfl⟩), ?_⟩ <;> decide +kernel⟩,
   ⟨sSpdm, 1, 9, 5, [], [2#8], [], ⟨2, 9, [], 5 % 16, []⟩, .policySet 1 9 5 [2#8],
    by refine ⟨.inr (.inr (.inl ⟨rfl, rfl⟩)), ?_⟩ <;> decide +kernel⟩,
   ⟨sSpdm, 1, 9, 5, [], [2#8], [], ⟨3, 9, [], 0, []⟩, .peerTableLoad 1 9 [] [2#8],
    by refine ⟨.inr (.inr (.inr ⟨rfl, rfl⟩)), ?_⟩ <;> decide +kernel⟩,
   ⟨{ sSpdm with sec.spdmNight := [1] }, 1, 9, 5, key96, [], [], ⟨0, 9, key96, 0, []⟩, .ownerClaim 1 9 key96,
    by refine ⟨.inl ⟨rfl, rfl, rfl⟩, ?_⟩ <;> decide +kernel⟩,
   ⟨sSpdm, 1, 5, [7#8], by decide +kernel⟩,
   ⟨sSpdm, 1, 5, [7#8], by decide +kernel⟩,
   ⟨sIdeSet, 2, by decide +kernel⟩,
   ⟨sIdeSet, 2, by decide +kernel⟩,
   ⟨sTdi 0, by refine ⟨?_, ?_, ⟨2, ?_⟩, ?_⟩ <;> decide +kernel⟩,
   ⟨sTdi 1, by decide +kernel⟩⟩

end Sys2Proof.Tests
end

