-- ==== Sys2Proof/Tests/WitnessModule.lean ====
section
/-!
SUPPORT. For every statement about power, bring-up, the ledger, faults, updates, connections and the whole module: states and operands that meet its hypotheses, clause by clause.
-/

namespace Sys2Proof.Tests

set_option Elab.async false
set_option linter.unusedVariables false

open Sys2Proof Sys2Proof.Machine

/-! ## Power and thermal -/

theorem spGet_small {b : Nat} (hb : 0 < b) : ∀ (m : Sp Nat), m.all (fun p => decide (p.2 < b)) = true → ∀ i, spGet (fun _ => 0) m i < b := by
  intro m
  induction m with
  | nil => intro _ i; simpa [spGet] using hb
  | cons p m ih =>
    intro h i
    simp only [List.all_cons, Bool.and_eq_true, decide_eq_true_eq] at h
    unfold spGet
    split
    · exact h.1
    · first
      | exact ih h.2 i
      | (split <;> first | exact hb | exact ih h.2 i)

def sNoMain : State := { (noon.rset (Fd.PWR_IN_STAT_STATE 0) 7) with pwr.offAt := [(0, some 5)] }
def sShort : State := { (noon.rset (Fd.PWR_IN_STAT_STATE 0) 5) with pwr.offAt := [(0, some 74750000)] }
def sReturn : State := { (((noon.rset (Fd.PWR_IN_STAT_STATE 0) 2).rset (Fd.PWR_IN_STAT_STATE 1) 3).rset Fd.PWR_CTL_RETURN 1) with pwr.qualAt := [(0, some 5)] }
def sDark : State := (noon.rset (Fd.PWR_IN_STAT_STATE 0) 7).rset (Fd.PWR_IN_STAT_STATE 1) 7
def sRamp (c : Nat) : State := { (noon.setClkUp 15 (some (1400, 0))) with clock := c }
def sNightPhase : State := { noon with pwr.phases := [154 * 32] }
def predawnS : State := noon.rset Fd.BOOT_STAT_AT_NOON 0
def hk0 : HkSample := ⟨[(0, 4800), (1, 4790)], [], [], [], 300, [], [], [], [], 0, [], [], 3000, 3500, 500, [], [], [], [], false⟩
def sHour : State := { noon with boot.noonAt := some 5, clock := 90000000005 }

def sHot (j : Int) : State := { noon with thm.started := true, thm.junction := [(0, j), (4, 1000), (8, 1000)], thm.temp := [(0, j), (4, 1000), (8, 1000)] }
/-- The three bands of the clock limits. -/
theorem witness_Power_levels :
    ((sHot 105000).calFault 0 = false ∧ 105000 ≤ (sHot 105000).frondHot hk0 0) ∧
    ((sHot 104999).calFault 0 = false ∧ 100000 ≤ (sHot 104999).frondHot hk0 0 ∧ (sHot 104999).frondHot hk0 0 < 105000) ∧
    ((sHot 99999).calFault 0 = false ∧ (sHot 99999).frondHot hk0 0 < 100000) := by decide +kernel

/-- A state and operands for each clause of Obligations.Power, part 1 of 3. -/
theorem witness_Power_1 :
    (∃ (s : State) (i : Nat), i < 2 ∧ s.setPresent (s.rget (Fd.PWR_IN_STAT_PHYS i)) = true ∧ s.inSt i ∈ [0, 1, 4, 5, 7] ∧ s.qualDue i = true) ∧
    (∃ (s : State) (i : Nat), i < 2 ∧ s.setPresent (s.rget (Fd.PWR_IN_STAT_PHYS i)) = true ∧ s.inSt i ∈ [0, 1, 4, 5, 7] ∧ s.qualDue i = true) ∧
    (∃ (s : State) (i : Nat), i < 2 ∧ s.qualified i = true) ∧
    (∃ (s : State) (i : Nat), i < 2 ∧ s.qualified i = true) ∧
    (∃ (s : State) (i : Nat), i < 2 ∧ s.qualified i = true) ∧
    (∃ (s : State) (i : Nat), i < 2 ∧ s.qualified i = true) ∧
    (∃ (s : State) (i : Nat), i < 2 ∧ s.qualified i = true) ∧
    (∃ (s : State) (i : Nat), i < 2 ∧ s.qualified i = true) ∧
    (∃ (s : State) (c : Nat), s.rget Fd.PWR_CTL_RETURN = 1 ∧ s.inSt 0 = 2 ∧ s.inSt 1 = 3 ∧ spGet (fun _ => none) s.pwr.qualAt 0 = some c ∧
      25000000 ≤ s.clock - c) ∧
    (∃ (s : State) (begun : Nat), s.qualified 0 = false ∧ s.qualified 1 = false ∧ (s.inSt 0 ≠ 0 ∨ s.inSt 1 ≠ 0) ∧ s.con.shutdown = false) ∧
    (∃ (s : State) (z : Nat), s.zoneThere z = true ∧ nbit (s.zone z) 2 = true) ∧
    (∃ (s : State) (z : Nat), s.zoneThere z = true ∧ nbit (s.zone z) 2 = true) ∧
    (∃ (s : State) (c : Nat), c < 8 ∧ c ∉ s.pwr.cells ∧ s.pwr.cells.length ≤ 5) ∧
    (∃ (s : State) (c : Nat), c < 8 ∧ c ∉ s.pwr.cells ∧ s.pwr.cells.length ≤ 5) :=
  ⟨⟨sNoMain, 0, by decide +kernel⟩,
   ⟨sShort, 0, by decide +kernel⟩,
   ⟨noon, 0, by decide +kernel⟩,
   ⟨noon, 1, by decide +kernel⟩,
   ⟨noon, 0, by decide +kernel⟩,
   ⟨noon, 1, by decide +kernel⟩,
   ⟨noon, 0, by decide +kernel⟩,
   ⟨noon, 1, by decide +kernel⟩,
   ⟨sReturn, 5, by decide +kernel⟩,
   ⟨sDark, 0, by decide +kernel⟩,
   ⟨noon.setZone 11 4, 11, by decide +kernel⟩,
   ⟨noon.setZone 0 12, 0, by decide +kernel⟩,
   ⟨noon, 7, by decide +kernel⟩,
   ⟨{ noon with pwr.cells := [0, 1, 2, 3, 4] }, 7, by decide +kernel⟩⟩

/-- A state and operands for each clause of Obligations.Power, part 2 of 3. -/
theorem witness_Power_2 :
    (∃ (s : State) (b : Nat), (b = 12 ∨ b = 13) ∧ b ∉ s.pwr.branches) ∧
    (∃ (s : State) (b : Nat), (b = 12 ∨ b = 13) ∧ b ∉ s.pwr.branches) ∧
    (∃ (s : State) (b : Nat), b < 4 ∧ s.zoneThere b = true ∧ b ∉ s.pwr.branches ∧ s.fencedIn (.tower b) = false ∧ s.switching = none) ∧
    (∃ (s : State) (k ph : Nat), k < 96 ∧ s.groupThere k = true ∧ ph < 4 ∧ k * 32 + ph ∉ s.pwr.phases ∧ s.failedPhases k = 0) ∧
    (∃ (s : State) (k ph : Nat), k < 96 ∧ s.groupThere k = true ∧ ph < 4 ∧ k * 32 + ph ∉ s.pwr.phases ∧ s.failedPhases k = 1) ∧
    (∃ (s : State), 154 * 32 ∈ s.pwr.phases ∧ s.failedPhases 154 = 1 ∧ 154 * 32 + 1 ∉ s.pwr.phases) ∧
    (∃ (s : State) (tw rail : Nat), tw < s.towers ∧ rail < 15) ∧
    (∃ (s : State) (f c at_ : Nat), f < 16 ∧ s.clkUp f = some (c, at_) ∧ at_ + s.rampTime f c ≤ s.clock) ∧
    (∃ (s : State) (f c at_ : Nat), s.clkUp f = some (c, at_) ∧ s.clock < at_ + s.rampTime f c) :=
  ⟨⟨noon, 12, by decide +kernel⟩,
   ⟨noon, 13, by decide +kernel⟩,
   ⟨noon, 3, by decide +kernel⟩,
   ⟨noon, 95, 3, by decide +kernel⟩,
   ⟨{ noon with pwr.phases := [95 * 32] }, 95, 3, by decide +kernel⟩,
   ⟨sNightPhase, by decide +kernel⟩,
   ⟨noon, 3, 14, by decide +kernel⟩,
   ⟨sRamp 100000, 15, 1400, 0, by decide +kernel⟩,
   ⟨sRamp 5, 15, 1400, 0, by decide +kernel⟩⟩

/-- A state and operands for each clause of Obligations.Power, part 3 of 3. -/
theorem witness_Power_3 :
    (∃ (s : State), s.nightOn = true) ∧
    (∃ (s : State), s.rget Fd.THM_COOL_REVERSED = 0) ∧
    (∃ (s : State), s.rget Fd.THM_COOL_REVERSED = 1) ∧
    (∃ (s : State), s.atNoon = true ∧ s.hourDue = true) ∧
    (∃ (s : State) (h : HkSample), s.nightOn = true ∧ s.thm.started = false ∧ s.atNoon = false ∧ (∀ i, spGet (fun _ => 0) h.volts i < 65536) ∧ (∀ i,
      spGet (fun _ => 0) h.amps i < 65536) ∧ h.inputW < 4096) ∧
    (∃ (s : State) (h : HkSample), s.nightOn = false) :=
  ⟨⟨noon, by decide +kernel⟩,
   ⟨noon, by decide +kernel⟩,
   ⟨noon.rset Fd.THM_COOL_REVERSED 1, by decide +kernel⟩,
   ⟨sHour, by decide +kernel⟩,
   ⟨predawnS, hk0, by refine ⟨?_, ?_, ?_, spGet_small (by decide) _ ?_, spGet_small (by decide) _ ?_, ?_⟩ <;> decide +kernel⟩,
   ⟨sDark, hk0, by decide +kernel⟩⟩

/-! ## Bring-up -/

def stg (n : Nat) : State :=
  let s := (noon.rset Fd.BOOT_STAT_AT_NOON 0).rset Fd.BOOT_STAT_STAGE n
  { s with boot := { s.boot with running := true } }
def sNight : State := { stg 0 with boot := { (stg 0).boot with running := false } }
def towers (n v : Nat) : State := (List.range 4).foldl (fun (s : State) t => s.rset (Fd.TWR_STAT_STATE t) v) (stg n)

/-- A state and operands for each clause of Obligations.BringUpStages, part 1 of 2. -/
theorem witness_BringUpStages_1 :
    (∃ (s : State), s.nightOn = true ∧ s.fencedAt .modul = false ∧ s.boot.running = false ∧ s.stage = 0 ∧ s.atNoon = false ∧ s.boot.retryAt = none ∧
      s.boot.failed = none ∧ s.rget Fd.HUB_CONN_STAT_RM_PHASE = 0) ∧
    (∃ (s : State), s.nightOn = true ∧ s.fencedAt .modul = false ∧ s.boot.running = false ∧ s.stage = 0 ∧ s.atNoon = false ∧ s.boot.retryAt = none ∧
      s.boot.failed = none ∧ s.rget Fd.HUB_CONN_STAT_RM_PHASE = 0) ∧
    (∃ (s u : State) (bad : List Nat) (inlet : Option Int), s.predawnReady = true ∧ s.stage = 1 ∧
      u = ({ s with boot := { s.boot with predawn := true } } : State).applyPower ∧ u.pwr.cells.length ≤ 6 ∧ 5 ≤ u.hubGroups ∧
      s.rget Fd.HUB_CONN_STAT_REMOVE = 0) ∧
    (∃ (s : State) (bad : List Nat) (inlet : Option Int), s.predawnReady = true) ∧
    (∃ (s u : State) (crc mac : List (Bool × Nat)) (coresBad : List Nat) (unreadable : Bool), s.inStage 2 = true ∧
      s.earlyEnter.ldgMount crc mac unreadable = (u, true)) ∧
    (∃ (s : State) (coresBad : List Nat), s.boot.cores = [] ∧ 2 ≤ ((List.range 4).filter (fun i => !coresBad.contains i)).length ∧
      s.rget Fd.HUB_CONN_STAT_REMOVE = 0 ∧ s.boot.running = true) ∧
    (∃ (s u : State) (crc mac : List (Bool × Nat)) (coresBad : List Nat) (unreadable up : Bool), s.inStage 2 = true ∧
      s.earlyEnter.ldgMount crc mac unreadable = (u, false)) ∧
    (∃ (s : State) (lost : List (Nat × Nat × List (Nat × Nat))), let z := (s.zones.foldl (fun s z => s.zoneOn z) s).applyLasers.darkEngines;
      let v := [2, 3, 4, 5, 6, 7].foldl (fun (acc : State × Nat × Nat) c => ((acc.1.sporeClass lost c).1, acc.2.1 + (acc.1.sporeClass lost c).2.1, max acc.2.2 (acc.1.sporeClass lost c).2.2)) (z, 0, 0);
      s.inStage 3 = true) :=
  ⟨⟨sNight, by decide +kernel⟩,
   ⟨sNight, by decide +kernel⟩,
   ⟨stg 1, ({ stg 1 with boot := { (stg 1).boot with predawn := true } } : State).applyPower, [], some 3000,
    by refine ⟨?_, ?_, rfl, ?_, ?_, ?_⟩ <;> decide +kernel⟩,
   ⟨stg 1, [], some 3000, by decide +kernel⟩,
   ⟨stg 2, ((stg 2).earlyEnter.ldgMount [] [] false).1, [], [], [], false, by refine ⟨?_, pair_eq ?_⟩ <;> decide +kernel⟩,
   ⟨stg 2, [3], by decide +kernel⟩,
   ⟨stg 2, ((stg 2).earlyEnter.ldgMount [] [] true).1, [], [], [], true, true, by refine ⟨?_, pair_eq ?_⟩ <;> decide +kernel⟩,
   ⟨stg 3, [], by dsimp only; decide +kernel⟩⟩

/-- A state and operands for each clause of Obligations.BringUpStages, part 2 of 2. -/
theorem witness_BringUpStages_2 :
    (∃ (s : State) (k : Nat), s.inStage 4 = true ∧ k < s.towers ∧ s.rget (Fd.TWR_STAT_STATE k) = 2 ∧ s.rget Fd.HUB_CONN_STAT_REMOVE = 0 ∧
      s.pwr.phases = [] ∧ s.ldgKeys 1 = [] ∧ s.ldgKeys 2 = [] ∧ s.thl.tsvRet = [] ∧ s.thl.bundleRet = []) ∧
    (∃ (s : State) (f : Nat), s.inStage 5 = true ∧ f < s.fronds ∧ s.rget (Fd.TWR_STAT_STATE (f / 4)) = 3 ∧ (s.fr f).inReset = false ∧
      (s.fr f).stubFenced = false ∧ s.fencedIn (.frond f) = false ∧ s.rget Fd.HUB_CONN_STAT_REMOVE = 0 ∧ s.pwr.phases = [] ∧ s.ldgKeys 3 = [] ∧ (∀ k,
      k < s.towers → s.rget (Fd.PNW_LINK_STAT_FENCED k) = 0)) ∧
    (∃ (s : State), s.inStage 6 = true ∧ s.atNoon = false ∧ s.hpt.ready = true ∧ (∀ l, l < 32 → s.linkThere l = true → s.linkState l ≠ 1) ∧
      s.rget Fd.HUB_CONN_STAT_REMOVE = 0 ∧ s.fwu.raises = [] ∧ (∀ c ∈ updateOrder, (s.ldgWords 0x0D c).getD 1 0 ≠ 1)) :=
  ⟨⟨towers 4 2, 3, by decide +kernel⟩,
   ⟨towers 5 3, 15, by decide +kernel⟩,
   ⟨stg 6, by decide +kernel⟩⟩

def sFailed (k : Nat) : State := { ((noon.rset Fd.BOOT_STAT_AT_NOON 0).rset Fd.BOOT_STAT_FAILED_STARTS k) with boot.failed := some (3, 0x0F0D) }
def sBadRom : State := { sNight with boot := { sNight.boot with failed := some (0, 0x0F02) } }
def sCount : State := { (noon.rset Fd.BOOT_STAT_FAILED_STARTS 2) with boot.noonAt := some 0, clock := 90000000000 }
def sTwilight : State := ((noon.rset Fd.BOOT_STAT_AT_NOON 0).rset Fd.BOOT_STAT_STAGE 7).rset Fd.BOOT_STAT_TWILIGHT 1

/-- A state and operands for each clause of Obligations.FailedStarts. -/
theorem witness_FailedStarts :
    (∃ (s : State), s.stageWorks = true ∧ stageTimeout s.stage ≤ s.elapsed) ∧
    (∃ (s : State) (n reason : Nat), s.boot.failed = some (n, reason) ∧ reason ≠ 0x0F02 ∧ s.rget Fd.HUB_CONN_STAT_REMOVE = 0 ∧ n < 8 ∧
      reason < 65536) ∧
    (∃ (s : State) (n reason : Nat), s.boot.failed = some (n, reason) ∧ reason ≠ 0x0F02 ∧ s.rget Fd.HUB_CONN_STAT_REMOVE = 0 ∧ n < 8 ∧
      reason < 65536) ∧
    (∃ (s : State) (n reason : Nat), s.boot.failed = some (n, reason) ∧ reason ≠ 0x0F02 ∧ s.rget Fd.HUB_CONN_STAT_REMOVE = 1) ∧
    (∃ (s : State) (n : Nat), s.boot.failed = some (n, 0x0F02)) ∧
    (∃ (s : State) (c : Nat), s.boot.retryAt = some c ∧ c ≤ s.clock ∧ s.rget Fd.HUB_CONN_STAT_RM_PHASE = 0) ∧
    (∃ (s : State) (c : Nat), s.boot.noonAt = some c ∧ s.atNoon = true ∧ s.rget Fd.BOOT_STAT_FAILED_STARTS ≠ 0 ∧ 90000000000 ≤ s.clock - c) ∧
    (∃ (s : State), s.twilight = true ∧ s.rget Fd.HUB_CONN_STAT_RM_PHASE = 0) ∧
    (∃ (s : State), s.rget Fd.BOOT_STAT_LOADER = 1 ∧ s.rget Fd.HUB_CONN_STAT_RM_PHASE = 0) :=
  ⟨⟨{ stg 4 with clock := 200000000 }, by decide +kernel⟩,
   ⟨sFailed 1, 3, 0x0F0D, by decide +kernel⟩,
   ⟨sFailed 2, 3, 0x0F0D, by decide +kernel⟩,
   ⟨(sFailed 1).rset Fd.HUB_CONN_STAT_REMOVE 1, 3, 0x0F0D, by decide +kernel⟩,
   ⟨sBadRom, 0, by decide +kernel⟩,
   ⟨{ sTwilight with boot.retryAt := some 5 }, 5, by decide +kernel⟩,
   ⟨sCount, 0, by decide +kernel⟩,
   ⟨sTwilight, by decide +kernel⟩,
   ⟨sTwilight.rset Fd.BOOT_STAT_LOADER 1, by decide +kernel⟩⟩

def rstDesc : Desc := ⟨0x76#64, 3#64, 0#64, 0#64, 0#64, 0#64, 0#64, 0#64⟩
def towerDesc : Desc := ⟨0x76#64, 0x103#64, 0#64, 0#64, 0#64, 0#64, 0#64, 0#64⟩
def sRst : State := started noon 5 3 rstDesc
def sRst1 : State := { sRst with boot.restarting := [(3, [(7, 1)])] }
/-- Frond 3 restarts for the descriptor. -/
def sRst2 : State :=
  let s := { sRst with boot.restarting := [(3, [(5, 3)])] }
  { s.modFr 3 (fun q => { q with inReset := true }) with mem.ls := memPutN [] (3 * 2 ^ 24) [1#8], flt.fences := [FUnit.frond 3] }
def sRst3 : State := { sRst with boot.latched := [(3, [(5, 3)])] }
def sRstFenced : State := { sRst with flt.fences := [FUnit.tower 0] }
def sRstDrain : State := sRst.modFr 3 (fun q => { q with draining := true })
def sTwrRst : State := { (started noon 5 3 towerDesc) with flt.fences := [FUnit.tower 3], mem.thl := memPutN tables (3 * 2 ^ 32) [5#8] }
/-- Tower 3 restarts, its zone switched off. -/
def sTwrEnd : State :=
  let s := started ((noon.setZone 3 6).rset (Fd.TWR_STAT_STATE 3) 6) 5 3 towerDesc
  { s with flt.fences := [FUnit.tower 3], boot.restarting := [(19, [(5, 3)])] }
def sAuto : State := { (noon.rset Fd.BOOT_CTL_AUTO_FROND 1) with boot.wakeFenced := [3], flt.fences := [FUnit.frond 3] }

/-- A state and operands for each clause of Obligations.Restarts, part 1 of 2. -/
theorem witness_Restarts_1 :
    (∃ (s : State) (r i f : Nat) (d : Desc) (wb : Bool), s.opOf r i 7 6 = some d ∧ d.f 1 8 8 = 0 ∧ d.f 1 3 0 = f ∧ s.restartable f = false) ∧
    (∃ (s : State) (r i f : Nat) (d : Desc) (wb : Bool), s.opOf r i 7 6 = some d ∧ d.f 1 8 8 = 0 ∧ d.f 1 3 0 = f ∧ s.restartable f = true ∧
      s.restarting (16 + f / 4) = false ∧ (s.restarting f || s.drainRuns f) = true) ∧
    (∃ (s : State) (r i f : Nat) (d : Desc) (wb : Bool), s.opOf r i 7 6 = some d ∧ d.f 1 8 8 = 0 ∧ d.f 1 3 0 = f ∧ s.restartable f = true ∧
      s.restarting (16 + f / 4) = false ∧ (s.restarting f || s.drainRuns f) = true) ∧
    (∃ (s : State) (r i f : Nat) (d : Desc) (wb : Bool), s.opOf r i 7 6 = some d ∧ d.f 1 8 8 = 0 ∧ d.f 1 3 0 = f ∧ s.restartable f = true ∧
      s.restarting (16 + f / 4) = false ∧ s.restarting f = false ∧ s.switchHolds f = false ∧ s.drainRuns f = false ∧ s.fencedIn (.frond f) = false ∧
      s.switching = none) ∧
    (∃ (s : State) (r i k : Nat) (d : Desc) (wb : Bool), s.opOf r i 7 6 = some d ∧ d.f 1 8 8 = 1 ∧ d.f 1 3 0 = k ∧ s.restartable (16 + k) = true ∧
      s.restarting (16 + k) = false ∧ s.switchHolds (16 + k) = false ∧ s.fencedAt (.tower k) = true ∧ (∀ f, restartsOf s.boot.restarting f = none ∧
      restartsOf s.boot.latched f = none)) ∧
    (∃ (s : State) (f r i : Nat), f < s.fronds ∧ s.restarting f = true ∧ restartsOf s.boot.restarting f = some [(r, i)] ∧ s.moving f = false ∧
      s.drainRuns f = false ∧ s.boot.refenced.contains f = false ∧ s.fencedIn (.tower (f / 4)) = false ∧ ((s.ring r).find i).isSome = true ∧ (∀ k,
      s.krn f k = none) ∧ (s.fr f).lq = [] ∧ (s.fr f).stub = [] ∧ (s.fr f).sbuf = [] ∧ (∀ c, (s.dma f c).queue = [])) ∧
    (∃ (s : State) (k r i : Nat), k < s.towers ∧ s.restarting (16 + k) = true ∧ restartsOf s.boot.restarting (16 + k) = some [(r, i)] ∧
      s.zoneLatched k = false ∧ s.zoneState k = 2 ∧ ((s.ring r).find i).isSome = true) ∧
    (∃ (s : State) (k r i : Nat), k < s.towers ∧ s.restarting (16 + k) = true ∧ restartsOf s.boot.restarting (16 + k) = some [(r, i)] ∧
      s.zoneLatched k = false ∧ s.zoneState k = 2 ∧ ((s.ring r).find i).isSome = true ∧ s.boot.refenced.contains (16 + k) = false ∧ (∀ f,
      f / 4 = k → (∀ j, s.krn f j = none) ∧ (s.fr f).lq = [] ∧ (s.fr f).stub = [] ∧ (s.fr f).sbuf = [] ∧ (∀ c, (s.dma f c).queue = []))) ∧
    (∃ (s : State) (u : Nat) (wb : Bool) (l : List (Nat × Nat)), restartsOf s.boot.latched u = some l ∧ s.restarting u = false ∧
      s.switchHolds u = false ∧ (u < 16 → s.drainRuns u = false)) :=
  ⟨⟨sRstFenced, 5, 3, 3, rstDesc, true, by decide +kernel⟩,
   ⟨sRst1, 5, 3, 3, rstDesc, true, by decide +kernel⟩,
   ⟨sRstDrain, 5, 3, 3, rstDesc, true, by decide +kernel⟩,
   ⟨sRst, 5, 3, 3, rstDesc, true, by decide +kernel⟩,
   ⟨sTwrRst, 5, 3, 3, towerDesc, true, by refine ⟨?_, ?_, ?_, ?_, ?_, ?_, (by decide +kernel), (fun _ => ⟨rfl, rfl⟩)⟩ <;> decide +kernel⟩,
   ⟨sRst2, 3, 5, 3,
    by refine ⟨?_, ?_, ?_, ?_, ?_, ?_, (by decide +kernel), ?_, (fun _ => rfl), ?_, ?_, ?_, (fun _ => rfl)⟩ <;> decide +kernel⟩,
   ⟨sTwrEnd, 3, 5, 3, by decide +kernel⟩,
   ⟨sTwrEnd, 3, 5, 3,
    by refine ⟨?_, ?_, ?_, ?_, ?_, ?_, (by decide +kernel), (fun _ _ => ⟨fun _ => rfl, rfl, rfl, rfl, fun _ => rfl⟩)⟩ <;> decide +kernel⟩,
   ⟨sRst3, 3, true, [(5, 3)], by decide +kernel⟩⟩

/-- A state and operands for each clause of Obligations.Restarts, part 2 of 2. -/
theorem witness_Restarts_2 :
    (∃ (s : State) (f : Nat), f < 16 ∧ s.rget Fd.BOOT_CTL_AUTO_FROND = 1 ∧ s.boot.wakeFenced.contains f = true ∧
      s.boot.autoTried.contains f = false ∧ s.fencedAt (.frond f) = true ∧ s.restarting f = false ∧ s.drainRuns f = false ∧ s.restartable f = true) :=
  ⟨sAuto, 3, by decide +kernel⟩

/-! ## Ledger and fault unit -/

def lw (sec key : Nat) : LWrite := ⟨sec, key, false, [1, 2], 16⟩
def lcopy (sec key seq : Nat) : LCopy := ⟨lw sec key, seq, 0, false, true, true⟩
def lq (n : Nat) : LReq := ⟨(List.range n).map (lw 0x0D), .nobody⟩
def sLedger (n : Nat) (a b : Bool) : State :=
  { noon with ldg := { noon.ldg with queue := [lq n, ⟨[lw 4 1], .nobody⟩], okA := a, okB := b, halfA := [lcopy 1 1 9], halfB := [lcopy 1 1 9] } }
def lrest : List LReq := [⟨[lw 4 1], .nobody⟩]
def sStarts : State := { noon with ldg := { noon.ldg with queue := [⟨[lw 0xB 0], .starts⟩] }, boot.startsHeld := true }
def sCompact (b : Bool) : State :=
  let q := { noon.ldg with halfA := [lcopy 1 1 10, lcopy 1 1 9], halfB := [lcopy 1 1 10] }
  { noon with ldg := if b then { q with usedB := halfBytes - 8 } else { q with usedA := halfBytes - 8 } }
def badCopy : LCopy := { lcopy 1 1 10 with crcOk := false }
def sDaily : State := { noon with ldg := { noon.ldg with halfA := [badCopy, lcopy 1 1 9], halfB := [lcopy 1 1 10] } }
def sNoSpare : State := { fab0 with ldg.sparesUsed := [(8, 2), (67, 1), (68, 1)] }

/-- A state and operands for each clause of Obligations.LedgerAndLasers, part 1 of 2. -/
theorem witness_LedgerAndLasers_1 :
    (∃ (s : State) (r : LReq) (l : List LReq) (badA badB : Option Nat), s.waited = false ∧ s.ldg.queue = r :: l ∧ r.who = .nobody ∧
      (s.ldg.okA = true ∧ badA = none ∧ badB = none)) ∧
    (∃ (s : State) (r : LReq) (l : List LReq) (badA badB : Option Nat), s.waited = false ∧ s.ldg.queue = r :: l ∧ r.who = .nobody ∧
      (s.ldg.okA = true ∧ badA = none ∧ badB = none)) ∧
    (∃ (s : State) (r : LReq) (l : List LReq) (badA badB : Option Nat), s.waited = false ∧ s.ldg.queue = r :: l ∧ r.who = .nobody ∧
      (s.ldg.okA = false ∧ s.ldg.okB = false)) ∧
    (∃ (s : State) (ws : List LWrite) (l : List LReq), s.waited = false ∧ s.ldg.queue = ⟨ws, .starts⟩ :: l ∧ s.ldg.okA = true) ∧
    (∃ (s : State) (p : Nat) (r : LReq) (l : List LReq), s.waited = false ∧ s.ldg.queue = r :: l ∧ r.who = .nobody ∧ s.ldg.okA = true ∧
      s.ldg.okB = true ∧ 1 < s.ldg.poolPages) ∧
    (∃ (s : State), s.ldg.queue = []) ∧
    (∃ (s : State) (b : Bool), s.halfFree b < 8 * 2 ^ 20) ∧
    (∃ (s : State) (b : Bool), s.halfFree b < 8 * 2 ^ 20) ∧
    (∃ (s : State) (b : Bool), 8 * 2 ^ 20 ≤ s.halfFree b) ∧
    (∃ (s : State) (q : Nat) (c : LCopy), s.dailyDue = true ∧ s.ldg.okA = true ∧ s.ldg.halfB.find? (fun c => c.seq == q && c.crcOk) = some c) :=
  ⟨⟨sLedger 1 true true, lq 1, lrest, none, none, by decide +kernel⟩,
   ⟨sLedger 3 true false, lq 3, lrest, none, none, by decide +kernel⟩,
   ⟨sLedger 1 false false, lq 1, lrest, none, none, by decide +kernel⟩,
   ⟨sStarts, [lw 0xB 0], [], by decide +kernel⟩,
   ⟨sLedger 1 true true, 7, lq 1, lrest, by decide +kernel⟩,
   ⟨noon, by decide +kernel⟩,
   ⟨sCompact false, false, by decide +kernel⟩,
   ⟨sCompact true, true, by decide +kernel⟩,
   ⟨noon, true, by decide +kernel⟩,
   ⟨sDaily, 10, lcopy 1 1 10, by decide +kernel⟩⟩

/-- A state and operands for each clause of Obligations.LedgerAndLasers, part 2 of 2. -/
theorem witness_LedgerAndLasers_2 :
    (∃ (s : State) (pages : List (Nat × Nat)) (crc : List (Bool × Nat)), s.dailyDue = false) ∧
    (∃ (s : State) (e n : Nat), s.enginePresent e = true ∧ n < engineLasers e ∧ s.laser e n ≤ 1 ∧ s.sparesUsed e (spareGroup e n) < groupSpares e) ∧
    (∃ (s : State) (e n : Nat), s.enginePresent e = true ∧ n < engineLasers e ∧ s.laser e n ≤ 1 ∧ groupSpares e ≤ s.sparesUsed e (spareGroup e n)) ∧
    (∃ (s : State) (e n : Nat), s.enginePresent e = true ∧ n < engineLasers e ∧ s.laser e n ≤ 1 ∧ groupSpares e ≤ s.sparesUsed e (spareGroup e n)) ∧
    (∃ (s : State) (e n : Nat), s.enginePresent e = true ∧ n < engineLasers e ∧ s.laser e n ≤ 1 ∧ groupSpares e ≤ s.sparesUsed e (spareGroup e n)) :=
  ⟨⟨{ noon with ldg.dailyAt := some 5 }, [], [], by decide +kernel⟩,
   ⟨fab0, 2, 7, by decide +kernel⟩,
   ⟨sNoSpare, 2, 7, by decide +kernel⟩,
   ⟨sNoSpare, 16, 16, by decide +kernel⟩,
   ⟨sNoSpare, 17, 0, by decide +kernel⟩⟩

def heldRec : FaultRec := ⟨5, 0#64, 0x0101, 0, 1, false, false, false, false, 1, 7, none, true⟩
def sHold : State := { noon with flt := { noon.flt with log := [heldRec] } }
def sRingIrq : State := { noon with flt := { noon.flt with ringIrqDue := true, ringIrqAt := some 5 }, hpt.msix := [(0, 0#64)] }

/-- A state and operands for each clause of Obligations.FaultUnit, part 1 of 2. -/
theorem witness_FaultUnit_1 :
    (∃ (s : State) (seq i : Nat) (r : FaultRec), findIdxFrom (fun q => q.seq == seq && q.held) s.flt.log 0 = some i ∧ s.flt.log[i]? = some r ∧
      s.rget Fd.FLT_CTL_COAL_MS * 25000 ≤ s.clock - r.timestamp) ∧
    (∃ (s : State) (v : W64), s.rget Fd.FLT_RING_CTL_EN = 0 ∧ bit v 63 = true) ∧
    (∃ (s : State) (v : W64), s.rget Fd.FLT_RING_CTL_EN = 1) ∧
    (∃ (s : State), s.flt.ringIrqDue = true ∧ (∀ c, s.flt.ringIrqAt = some c → 2500 ≤ s.clock - c)) ∧
    (∃ (s : State) (v : W64), bit v 62 = true ∧ s.rget Fd.FLT_INJ_CTL_LOCK = 0) ∧
    (∃ (s : State) (v : W64), bit v 62 = true ∧ s.rget Fd.FLT_INJ_CTL_LOCK = 1) ∧
    (∃ (s : State) (v : W64), bit v 62 = false) ∧
    (∃ (s : State) (v : W64), s.rget Fd.FLT_PACE_CTL_LOCK = 0 ∧ bit v 62 = true) :=
  ⟨⟨sHold, 7, 0, heldRec, by decide +kernel⟩,
   ⟨noon, 0x8000000000000000#64, by decide +kernel⟩,
   ⟨noon.rset Fd.FLT_RING_CTL_EN 1, 0#64, by decide +kernel⟩,
   ⟨sRingIrq, by decide +kernel⟩,
   ⟨noon, 0x4000000000000000#64, by decide +kernel⟩,
   ⟨noon.rset Fd.FLT_INJ_CTL_LOCK 1, 0x4000000000000000#64, by decide +kernel⟩,
   ⟨noon, 0#64, by decide +kernel⟩,
   ⟨noon, 0x4000000000000000#64, by decide +kernel⟩⟩

/-- A state and operands for each clause of Obligations.FaultUnit, part 2 of 2. -/
theorem witness_FaultUnit_2 :
    (∃ (s : State) (v : W64), s.rget Fd.FLT_PACE_CTL_LOCK = 0 ∧ bit v 62 = false) ∧
    (∃ (s : State) (v : W64), s.rget Fd.FLT_PACE_CTL_LOCK = 1) :=
  ⟨⟨noon, 0#64, by decide +kernel⟩,
   ⟨noon.rset Fd.FLT_PACE_CTL_LOCK 1, 0#64, by decide +kernel⟩⟩

/-! ## Firmware update -/

def fwImg : FwImage := ⟨[], []⟩
def sSwitchOn : State := { busy.setFwuState 2 with fwu := { busy.fwu with todo := [7, 0], fresh := [(7, some fwImg)] } }
def sSwitching : State := { sSwitchOn with fwu := { sSwitchOn.fwu with cur := some 0 } }
def sClassDone : State := { sSwitchOn with fwu := { sSwitchOn.fwu with todo := [0], switched := [0], fresh := [(0, some fwImg)] } }
def sSwitching2 : State := { sSwitchOn with fwu := { sSwitchOn.fwu with todo := [2], cur := some 0, fresh := [(2, some fwImg)] } }
def sCommitting : State := { noon.setFwuState 5 with fwu := { noon.fwu with todo := [7, 0], committing := true } }
def nightUp : State := noon.rset Fd.HUB_CONN_STAT_NIGHT_UP 1
def sBadPkg : State := { (noon.rset Fd.FWU_PKG_LEN_LEN 64) with hpt.hostErr := [0] }
def sPldm : State := { nightUp with fwu := { noon.fwu with pldm := [3], banks := [(19, some fwImg)] } }

/-- A state and operands for each clause of Obligations.FirmwareUpdate, part 1 of 2. -/
theorem witness_FirmwareUpdate_1 :
    (∃ (s : State) (pages : List (Nat × List Byte)) (p : List Byte) (comps : Option (List (Nat × FwImage))),
      let u := pages.foldl (fun (s : State) q => s.hostStore q.1 q.2) s; (s.atNoon = true ∨ s.twilight = true) ∧ s.hostUp = true ∧
      u.hostRead (u.rget Fd.FWU_PKG_BASE_BASE * 4096) (u.rget Fd.FWU_PKG_LEN_LEN) = .ok p ∧ (packageComps p).map (fun l => l.map (fun c => (c.cls,
      c.img))) = comps) ∧
    (∃ (s u : State) (pages : List (Nat × List Byte)) (e : Nat), (s.atNoon = true ∨ s.twilight = true) ∧ s.hostUp = true ∧
      u = pages.foldl (fun (s : State) q => s.hostStore q.1 q.2) s ∧
      u.hostRead (u.rget Fd.FWU_PKG_BASE_BASE * 4096) (u.rget Fd.FWU_PKG_LEN_LEN) = .error e) ∧
    (∃ (s : State) (c i : Nat) (l : List Nat), s.fwu.todo = c :: l ∧ s.fwuState = 2 ∧ s.fwu.cur = none ∧ s.fwu.committing = false ∧
      s.nextEndpoint c = some i ∧ s.switchPoint c i = true ∧ i < 256) ∧
    (∃ (s : State) (c : Nat) (l : List Nat) (q : FwImage), s.fwu.todo = c :: l ∧ s.fwuState = 2 ∧ s.fwu.cur = none ∧ s.fwu.committing = false ∧
      s.nextEndpoint c = none ∧ s.freshImg c = some q) ∧
    (∃ (s : State) (c i : Nat) (l : List Nat) (q : FwImage), s.fwu.todo = c :: l ∧ s.fwu.cur = some i ∧ s.fwu.deferred = [] ∧ s.freshImg c = some q) ∧
    (∃ (s : State) (c i : Nat) (l : List Nat), s.fwu.todo = c :: l ∧ s.fwu.cur = some i ∧ s.fwu.deferred = [] ∧ c < 16 ∧
      s.siteFitted (endpointLoc c i) = true) ∧
    (∃ (s : State) (c i : Nat) (l : List Nat), s.fwu.todo = c :: l ∧ s.fwu.cur = some i ∧ s.fwu.deferred = [] ∧ s.fwu.switched = [] ∧
      s.siteFitted (endpointLoc c i) = true) ∧
    (∃ (s : State), (s.fwuState = 5 ∨ s.fwuState = 3 ∨ s.fwuState = 4) ∧ s.fwu.committing = false) ∧
    (∃ (s : State), (s.fwuState = 5 ∨ s.fwuState = 3 ∨ s.fwuState = 4) ∧ s.fwu.committing = false) ∧
    (∃ (s : State), (s.fwuState = 5 ∨ s.fwuState = 3 ∨ s.fwuState = 4) ∧ s.fwu.committing = false) :=
  ⟨⟨noon, [], [], (packageComps []).map (fun l => l.map (fun c => (c.cls, c.img))),
    by dsimp only; refine ⟨?_, ?_, ok_by ?_, rfl⟩ <;> decide +kernel⟩,
   ⟨sBadPkg, sBadPkg, [], 0x0705, by refine ⟨?_, ?_, rfl, err_by ?_⟩ <;> decide +kernel⟩,
   ⟨sSwitchOn, 7, 0, [0], by decide +kernel⟩,
   ⟨sClassDone, 0, [], fwImg, by decide +kernel⟩,
   ⟨sSwitching, 7, 0, [0], fwImg, by decide +kernel⟩,
   ⟨sSwitching, 7, 0, [0], by decide +kernel⟩,
   ⟨sSwitching, 7, 0, [0], by decide +kernel⟩,
   ⟨noon.setFwuState 3, by decide +kernel⟩,
   ⟨noon.setFwuState 5, by decide +kernel⟩,
   ⟨noon.setFwuState 4, by decide +kernel⟩⟩

/-- A state and operands for each clause of Obligations.FirmwareUpdate, part 2 of 2. -/
theorem witness_FirmwareUpdate_2 :
    (∃ (s : State), (s.fwuState = 5 ∨ s.fwuState = 3 ∨ s.fwuState = 4) ∧ s.fwu.committing = true) ∧
    (∃ (s : State) (c : Nat) (m im : List Byte), c < 8 ∧ s.rget Fd.HUB_CONN_STAT_NIGHT_UP = 1 ∧ s.rget Fd.BOOT_STAT_LOADER = 1 ∧ manClass m = c) ∧
    (∃ (s : State) (c : Nat) (m im : List Byte), c < 8 ∧ s.rget Fd.HUB_CONN_STAT_NIGHT_UP = 1 ∧ s.rget Fd.BOOT_STAT_LOADER = 0 ∧
      (s.fwuState = 0 ∨ s.fwuState = 4)) ∧
    (∃ (s : State) (c : Nat) (m im : List Byte), c < 8 ∧ s.rget Fd.HUB_CONN_STAT_NIGHT_UP = 1 ∧ s.rget Fd.BOOT_STAT_LOADER = 0 ∧
      (s.fwuState = 0 ∨ s.fwuState = 4)) ∧
    (∃ (s : State) (l : List (Nat × FwImage)), s.fwu.pldm.filterMap (fun c => (s.slotImg (1 - s.bankOf c) c).map (fun q => (c, q))) = l ∧ l ≠ [] ∧
      s.rget Fd.HUB_CONN_STAT_NIGHT_UP = 1) :=
  ⟨⟨sCommitting, by decide +kernel⟩,
   ⟨nightUp.rset Fd.BOOT_STAT_LOADER 1, 0, [], [], by decide +kernel⟩,
   ⟨nightUp, 0, [], [], by decide +kernel⟩,
   ⟨nightUp.setFwuState 4, 7, [1#8], [2#8], by decide +kernel⟩,
   ⟨sPldm, [(3, fwImg)], by decide +kernel⟩⟩

/-! ## Connections -/

def ph (n : Nat) : State := noon.rset Fd.HUB_CONN_STAT_RM_PHASE n
def sOut : State := ((noon.rset Fd.HUB_CONN_STAT_PRES0 3).rset Fd.HUB_CONN_STAT_PRES1 3)
def sPredawn (b : Bool) : State := { noon with boot := { noon.boot with predawn := b } }
def phAt (n c : Nat) : State := { ph n with con := { noon.con with rmAt := some c } }
def sUndrained : State := { (busy.rset Fd.HUB_CONN_STAT_RM_PHASE 2) with con := { noon.con with rmAt := some 100000000 } }

/-- A state and operands for each clause of Obligations.RemovalAndContacts, part 1 of 2. -/
theorem witness_RemovalAndContacts_1 :
    (∃ (s : State), ¬ (s.rget Fd.HUB_CONN_STAT_PRES0 = 1 ∧ s.rget Fd.HUB_CONN_STAT_PRES1 = 2)) ∧
    (∃ (s : State), ¬ (s.rget Fd.HUB_CONN_STAT_PRES0 = 2 ∧ s.rget Fd.HUB_CONN_STAT_PRES1 = 1)) ∧
    (∃ (s : State), ¬ (s.rget Fd.HUB_CONN_STAT_PRES0 = 1 ∧ s.rget Fd.HUB_CONN_STAT_PRES1 = 1)) ∧
    (∃ (s : State) (begun : Nat), s.rget Fd.HUB_CONN_STAT_RM_PHASE ≠ 6 ∧ ¬ (s.rget Fd.HUB_CONN_STAT_PRES0 = 3 ∧ s.rget Fd.HUB_CONN_STAT_PRES1 = 3) ∧
      s.con.shutdown = false) ∧
    (∃ (s : State), s.boot.predawn = true ∧ s.rget Fd.HUB_CONN_STAT_REMOVE = 0 ∧ s.boot.running = false ∧ s.boot.failed = none) ∧
    (∃ (s : State), s.boot.predawn = false) ∧
    (∃ (s : State), s.rget Fd.HUB_CONN_STAT_RM_PHASE = 6) ∧
    (∃ (s : State), s.rget Fd.HUB_CONN_STAT_RM_PHASE ≠ 6) :=
  ⟨⟨sOut, by decide +kernel⟩,
   ⟨sOut, by decide +kernel⟩,
   ⟨noon, by decide +kernel⟩,
   ⟨noon, 0, by decide +kernel⟩,
   ⟨sPredawn true, by decide +kernel⟩,
   ⟨sPredawn false, by decide +kernel⟩,
   ⟨ph 6, by decide +kernel⟩,
   ⟨ph 2, by decide +kernel⟩⟩

/-- A state and operands for each clause of Obligations.RemovalAndContacts, part 2 of 2. -/
theorem witness_RemovalAndContacts_2 :
    (∃ (s : State), s.waited = false ∧ s.rget Fd.HUB_CONN_STAT_RM_PHASE = 1) ∧
    (∃ (s : State), s.waited = false ∧ s.rget Fd.HUB_CONN_STAT_RM_PHASE = 1) ∧
    (∃ (s : State), s.waited = false ∧ s.rget Fd.HUB_CONN_STAT_RM_PHASE = 2 ∧ s.drained = true ∧ s.residents = []) ∧
    (∃ (s : State), s.rget Fd.HUB_CONN_STAT_RM_PHASE = 2 ∧ s.drained = false ∧ s.rmDue (s.graceMs + 200) = false) ∧
    (∃ (s : State), s.waited = false ∧ s.rget Fd.HUB_CONN_STAT_RM_PHASE = 3 ∧ s.con.parkList = [] ∧ s.residents = [] ∧
      s.rget Fd.HUB_CONN_STAT_SESS_CLOSED = 0 ∧ (∀ l, l < 32 → s.linkUp l = false)) ∧
    (∃ (s : State), s.waited = false ∧ s.rget Fd.HUB_CONN_STAT_RM_PHASE = 4 ∧ s.rmDue 1800 = true ∧ (∀ l, l < 32 → s.linkUp l = false)) ∧
    (∃ (s : State), s.waited = false ∧ s.rget Fd.HUB_CONN_STAT_RM_PHASE = 5) :=
  ⟨⟨ph 1, by decide +kernel⟩,
   ⟨phAt 1 100000000, by decide +kernel⟩,
   ⟨ph 2, by decide +kernel⟩,
   ⟨sUndrained, by decide +kernel⟩,
   ⟨ph 3, by decide +kernel⟩,
   ⟨phAt 4 0, by decide +kernel⟩,
   ⟨ph 5, by decide +kernel⟩⟩

def nightGood : List Byte := let b := [1#8, 0#8, 4#8, 0#8, 0#8, 0#8, 0#8, 0#8]; b ++ leBytes 4 (crc32c b)

/-- A state and operands for each clause of Obligations.LightAndNightPort, part 1 of 2. -/
theorem witness_LightAndNightPort_1 :
    (∃ (s : State) (night : Bool), s.nightOn = true ∧ s.rget (if night then Fd.HUB_CONN_STAT_NIGHT_CROSSED else Fd.HUB_CONN_STAT_HOST_CROSSED) = 0) ∧
    (∃ (s : State) (night : Bool), s.nightOn = true ∧ s.rget (if night then Fd.HUB_CONN_STAT_NIGHT_CROSSED else Fd.HUB_CONN_STAT_HOST_CROSSED) = 0) ∧
    (∃ (s : State) (e lane : Nat), e < 16 ∧ e < s.part.fports ∧ lane < 8 ∧ s.nightOn = true ∧ s.con.lowLanes.contains (e * 32 + lane) = false) ∧
    (∃ (s : State) (e lane : Nat), e < 16 ∧ e < s.part.fports ∧ lane < 8 ∧ s.nightOn = true ∧ s.con.lowLanes.contains (e * 32 + lane) = false) ∧
    (∃ (s : State), s.nightOn = true ∧ s.con.lowLanes.contains (17 * 32) = false ∧ s.rget Fd.HUB_CONN_STAT_NIGHT_UP = 1) ∧
    (∃ (s : State) (e l : Nat), e < 16 ∧ s.portLinks e = [l] ∧ s.linkThere l = true ∧ s.linkState l = 2 ∧ s.QuietLink l) ∧
    (∃ (s : State), s.rget Fd.HUB_CONN_STAT_NIGHT_UP = 1) ∧
    (∃ (s : State), s.nightOn = true ∧ s.laser 17 0 ≠ 3 ∧ s.thm.engHot.contains 17 = false) ∧
    (∃ (s : State) (b : List Byte), s.rget Fd.HUB_CONN_STAT_NIGHT_UP = 1) ∧
    (∃ (s : State) (b : List Byte), s.rget Fd.HUB_CONN_STAT_NIGHT_UP = 1) ∧
    (∃ (s : State), s.rget Fd.HUB_CONN_STAT_NIGHT_UP = 1 ∧ s.frameDue = true) :=
  ⟨⟨noon, true, by decide +kernel⟩,
   ⟨noon, false, by decide +kernel⟩,
   ⟨noon, 0, 0, by decide +kernel⟩,
   ⟨fab0, 2, 7, by decide +kernel⟩,
   ⟨nightUp, by decide +kernel⟩,
   ⟨fab0, 2, 4, by refine ⟨?_, ?_, ?_, ?_, (by unfold State.QuietLink; decide +kernel)⟩ <;> decide +kernel⟩,
   ⟨nightUp, by decide +kernel⟩,
   ⟨noon, by decide +kernel⟩,
   ⟨nightUp, [], by decide +kernel⟩,
   ⟨nightUp, nightGood, by decide +kernel⟩,
   ⟨nightUp, by decide +kernel⟩⟩

/-- A state and operands for each clause of Obligations.LightAndNightPort, part 2 of 2. -/
theorem witness_LightAndNightPort_2 :
    (∃ (s : State) (b0 b1 b2 b3 : Byte), s.rget Fd.HUB_CONN_STAT_NIGHT_UP = 1 ∧ 0x80#8 ≤ b0 ∧ b1 = 1#8 ∧ b2.toNat % 4 ≤ 1 ∧ b3 ≠ 0#8 ∧ b3 ≠ 0xFF#8) ∧
    (∃ (s : State) (off size : Nat), s.rget Fd.HUB_CONN_STAT_NIGHT_UP = 1 ∧ (size = 4 ∨ size = 8) ∧ off % size = 0) ∧
    (∃ (s : State) (off size : Nat), s.rget Fd.HUB_CONN_STAT_NIGHT_UP = 1 ∧ (size = 4 ∨ size = 8) ∧ off % size = 0) :=
  ⟨⟨nightUp, 0x80#8, 1#8, 0#8, 9#8, by decide +kernel⟩,
   ⟨nightUp, 0, 8, by decide +kernel⟩,
   ⟨nightUp, 0x7FFFFC, 4, by decide +kernel⟩⟩

/-! ## The whole module -/

theorem some_get {α : Type} {x : Option α} (h : x.isSome = true) : x = some (x.get h) := by simp

/-- A state and operands for each clause of Obligations.RegisterAccess. -/
theorem witness_RegisterAccess :
    (∃ (s : State) (off size val slot : Nat) (r : RRow), (size = 4 ∨ size = 8) ∧ off % size = 0 ∧ slot = off - off % 8 ∧ s.twilight = false ∧
      s.tdiLocks slot = false ∧ slot < 0x800000 ∧ s.slotThere slot = true ∧ s.ownLow slot (writeMask off size) (writeWord off size val) = none ∧
      s.ownHigh slot (writeMask off size) (writeWord off size val) = none ∧ regRow slot = some r) ∧
    (∃ (s : State) (off size val slot : Nat) (r : RRow), (size = 4 ∨ size = 8) ∧ off % size = 0 ∧ slot = off - off % 8 ∧ s.twilight = false ∧
      s.tdiLocks slot = false ∧ slot < 0x800000 ∧ s.slotThere slot = true ∧ s.ownLow slot (writeMask off size) (writeWord off size val) = none ∧
      s.ownHigh slot (writeMask off size) (writeWord off size val) = none ∧ regRow slot = some r) ∧
    (∃ (s : State) (v : Nat), s.twilight = false) ∧
    (∃ (s : State) (off size val : Nat), (¬ ((size = 4 ∨ size = 8) ∧ off % size = 0))) ∧
    (∃ (s : State) (off size val : Nat), (¬ ((size = 4 ∨ size = 8) ∧ off % size = 0))) :=
  ⟨(by refine ⟨noon, 0xF0004, 4, 5, 0xF0000, _, ?_, ?_, ?_, ?_, ?_, ?_, (by decide +kernel), ?_, ?_, some_get ?_⟩ <;> decide +kernel),
   (by refine ⟨noon, 0x10008, 8, 7, 0x10008, _, ?_, ?_, ?_, ?_, ?_, ?_, (by decide +kernel), ?_, ?_, some_get ?_⟩ <;> decide +kernel),
   ⟨noon, 2 ^ 63 + 77, by decide +kernel⟩,
   ⟨noon, 2, 4, 0, by decide +kernel⟩,
   ⟨noon, 0, 2, 0, by decide +kernel⟩⟩

def sCq (r : Nat) (head tail : Nat) : State :=
  (((noon.rset (Fd.RNG_CTL_STATE r) 1).rset (Fd.RNG_CSTAT_CQ_HEAD r) head).rset (Fd.RNG_CSTAT_CQ_TAIL r) tail).modRing r (fun q => { q with done := [⟨3, 7, 0, 0, 0, 0, true, true⟩] })
def cqDone : Compl := ⟨3, 7, 0, 0, 0, 0, true, true⟩
def sCqFull : State := sCq 0 0 (State.ringN noon 0)

/-- A state and operands for each clause of Obligations.CompletionHead. -/
theorem witness_CompletionHead :
    (∃ (s : State) (r v : Nat), r < 1024 ∧ s.twilight = false ∧ s.ringState r = 1 ∧
      sub32 (s.rget (Fd.RNG_CSTAT_CQ_TAIL r)) (v % 2 ^ 32) ≤ s.ringN r ∧ sub32 (v % 2 ^ 32) (s.rget (Fd.RNG_CSTAT_CQ_HEAD r)) < 2 ^ 31) ∧
    (∃ (s : State) (r v : Nat), r < 1024 ∧ s.twilight = false ∧ s.ringState r = 1 ∧
      sub32 (s.rget (Fd.RNG_CSTAT_CQ_TAIL r)) (v % 2 ^ 32) ≤ s.ringN r ∧ sub32 (v % 2 ^ 32) (s.rget (Fd.RNG_CSTAT_CQ_HEAD r)) < 2 ^ 31) ∧
    (∃ (s : State) (r v : Nat), r < 1024 ∧ s.twilight = false ∧ s.ringState r = 1 ∧
      ¬ (sub32 (s.rget (Fd.RNG_CSTAT_CQ_TAIL r)) (v % 2 ^ 32) ≤ s.ringN r ∧ sub32 (v % 2 ^ 32) (s.rget (Fd.RNG_CSTAT_CQ_HEAD r)) < 2 ^ 31)) ∧
    (∃ (s : State) (r v : Nat), r < 1024 ∧ s.twilight = false ∧ s.ringState r = 1 ∧
      ¬ (sub32 (s.rget (Fd.RNG_CSTAT_CQ_TAIL r)) (v % 2 ^ 32) ≤ s.ringN r ∧ sub32 (v % 2 ^ 32) (s.rget (Fd.RNG_CSTAT_CQ_HEAD r)) < 2 ^ 31)) ∧
    (∃ (s : State) (r : Nat) (c : Compl) (rest : List Compl), (s.ring r).done = c :: rest ∧ (c.status ≠ 0 ∨ c.cmpl = true) ∧
      s.ringN r ≤ sub32 (s.rget (Fd.RNG_CSTAT_CQ_TAIL r)) (s.rget (Fd.RNG_CSTAT_CQ_HEAD r))) :=
  ⟨⟨sCq 0 0 2, 0, 1, by decide +kernel⟩,
   ⟨sCq 1023 0xFFFFFFFF 2, 1023, 2, by decide +kernel⟩,
   ⟨sCq 0 0 2, 0, 3, by decide +kernel⟩,
   ⟨sCq 0 1 2, 0, 0, by decide +kernel⟩,
   ⟨sCqFull, 0, cqDone, [], by decide +kernel⟩⟩

/-- A state and operands for each clause of Obligations.CompletionSlot. -/
theorem witness_CompletionSlot :
    (∃ (s : State) (r : Nat) (c : Compl) (rest : List Compl), let n := s.rget (Fd.RNG_CSTAT_CQ_TAIL r);
      let addr := s.rget (Fd.RNG_CQ_BASE_BASE r) * 4096 + (n &&& (s.ringN r - 1)) * 32; (s.ring r).done = c :: rest ∧
      (c.status ≠ 0 ∨ c.cmpl = true) ∧ s.hostUp = true ∧ sub32 n (s.rget (Fd.RNG_CSTAT_CQ_HEAD r)) < s.ringN r ∧ s.hostFail addr 32 = none) ∧
    (∃ (s : State) (r i status reason result : Nat), ((s.ring r).find i).isSome = true ∧ i ∉ (s.ring r).discard) :=
  ⟨⟨sCq 0 0 0, 0, cqDone, [], by dsimp only; decide +kernel⟩,
   ⟨started noon 5 3 desc0, 5, 3, 0, 0, 0, by decide +kernel⟩⟩

def sSum9 : State := { noon with sor.sori := [(9, sorus9 5 7)] }
/-- Both sides of the bound of Obligations.SignalSaturates. -/
theorem witness_SignalSaturates :
    (sSum9.sorus 9).value.toNat + (2 ^ 64 - 6) ≤ 2 ^ 64 - 1 ∧ 2 ^ 64 - 1 < (sSum9.sorus 9).value.toNat + (2 ^ 64 - 5) := by decide +kernel

/-- A state and operands for each clause of Obligations.StepRunsFront. -/
theorem witness_StepRunsFront :
    (∃ (c : Instr) (rest : List Instr) (s : State), s.pending = c :: rest) :=
  ⟨.nightPortDown, [.nightPortUp], { noon with pending := [.nightPortDown, .nightPortUp] }, by decide +kernel⟩

/-- A state and operands for each clause of Obligations.IdleTick. -/
theorem witness_IdleTick :
    (∃ (s : State), s.pending = []) :=
  ⟨noon, by decide +kernel⟩

/-- A state and operands for each clause of Obligations.StepKeepsCanonical. -/
theorem witness_StepKeepsCanonical :
    (∃ (s t : State), s.Canonical ∧ step s = .next t) :=
  ⟨State.reset, State.tick State.reset, by exact ⟨(by unfold State.Canonical; decide +kernel), rfl⟩⟩

/-- A state and operands for each clause of Obligations.StepKeepsUnwaited. -/
theorem witness_StepKeepsUnwaited :
    (∃ (s t : State), s.waited = false ∧ step s = .next t) :=
  ⟨noon, noon.tick, by refine ⟨?_, rfl⟩ <;> decide +kernel⟩

end Sys2Proof.Tests
end

