-- ==== Sys2Proof/WellFormed.lean ====
section
/-!
DEFINITION. Well-formed commands: every index names a unit of the largest variant. A command on a unit the fitted variant has not, or whose
state does not admit it, leaves the state as it is; that is the meaning's matter, not this check's.
-/

namespace Sys2Proof

/-- A Frond number, below 16. -/
def okFrond (f : Nat) : Bool := decide (f < 16)
/-- An array of a Frond, below 8. -/
def okArray (a : Nat) : Bool := decide (a < 8)
/-- A group slot, below 64. -/
def okGroup (g : Nat) : Bool := decide (g < 64)
/-- A thread of a group, below 32. -/
def okThread (t : Nat) : Bool := decide (t < 32)
/-- A general register, below 128. -/
def okGreg (n : Nat) : Bool := decide (n < 128)
/-- A DMA channel of a Frond, below 16. -/
def okChannel16 (c : Nat) : Bool := decide (c < 16)
/-- A kernel slot, below 8. -/
def okKslot (k : Nat) : Bool := decide (k < 8)
/-- A cluster of a Frond, below 4. -/
def okCluster (c : Nat) : Bool := decide (c < 4)
/-- A tower, below 4. -/
def okTower (t : Nat) : Bool := decide (t < 4)
/-- A Thallus die, below 2. -/
def okDie (d : Nat) : Bool := decide (d < 2)
/-- A quadrant, below 4. -/
def okQuad (q : Nat) : Bool := decide (q < 4)
/-- A bank group of a quadrant, below 32. -/
def okBg (b : Nat) : Bool := decide (b < 32)
/-- A macro of a bank group, below 32. -/
def okMacro (m : Nat) : Bool := decide (m < 32)
/-- A row of a macro, below 1024. -/
def okRow1k (r : Nat) : Bool := decide (r < 1024)
/-- A cache slice, below 128. -/
def okSlice (sl : Nat) : Bool := decide (sl < 128)
/-- A set of a slice, below 32768. -/
def okSet15 (n : Nat) : Bool := decide (n < 32768)
/-- A DRAM region, below 16. -/
def okRegion (n : Nat) : Bool := decide (n < 16)
/-- A DRAM channel, below 128. -/
def okChan (c : Nat) : Bool := decide (c < 128)
/-- A bank of a channel, below 48. -/
def okBank48 (b : Nat) : Bool := decide (b < 48)
/-- A memory pile, below 8. -/
def okPile (p : Nat) : Bool := decide (p < 8)
/-- A row of a DRAM bank, below 32768. -/
def okRow15 (r : Nat) : Bool := decide (r < 32768)
/-- A network link (Table 09-1): 0–39 of towers, 40–43 to the hub, 44–59 of Frond interfaces, 60–187 of slices. -/
def okNetLink (l : Nat) : Bool := decide (l < 188)
/-- A router of a tower, below 5. -/
def okRouter (k : Nat) : Bool := decide (k < 5)
/-- A slot-table kind, below 5. -/
def okKind5 (k : Nat) : Bool := decide (k < 5)
/-- A descriptor ring, below 1024. -/
def okRing (r : Nat) : Bool := decide (r < 1024)
/-- A command processor, below 8. -/
def okCmdProc (c : Nat) : Bool := decide (c < 8)
/-- A step handle, below 16. -/
def okStep16 (h : Nat) : Bool := decide (h < 16)
/-- A session, below 65536. -/
def okSession (x : Nat) : Bool := decide (x < 65536)
/-- A sorus, below 8192. -/
def okSorus (n : Nat) : Bool := decide (n < 8192)
/-- A fabric port, below 16. -/
def okFport (p : Nat) : Bool := decide (p < 16)
/-- A link code, 32 the loop of the module itself, below 33. -/
def okLink (l : Nat) : Bool := decide (l < 33)
/-- A reduction group, below 256. -/
def okRgroup (g : Nat) : Bool := decide (g < 256)
/-- An IDE stream, below 6. -/
def okStream (n : Nat) : Bool := decide (n < 6)
/-- An HDM decoder, below 2. -/
def okDecoder (n : Nat) : Bool := decide (n < 2)
/-- An input supply, below 2. -/
def okInput (i : Nat) : Bool := decide (i < 2)
/-- A first-stage cell, below 8. -/
def okCell (c : Nat) : Bool := decide (c < 8)
/-- A branch of the intermediate bus, below 14. -/
def okBranch (b : Nat) : Bool := decide (b < 14)
/-- A zone, below 12. -/
def okZone (z : Nat) : Bool := decide (z < 12)
/-- A light engine, below 18. -/
def okEngine (e : Nat) : Bool := decide (e < 18)
/-- A unit that restarts: Fronds, and towers from 16, below 20. -/
def okUnit (u : Nat) : Bool := decide (u < 20)
/-- A presence code, below 4. -/
def okCode2 (p : Nat) : Bool := decide (p < 4)
/-- An image class, below 8. -/
def okFwClass (c : Nat) : Bool := decide (c < 8)
/-- A virtual address, below 281474976710656. -/
def okVa48 (va : Nat) : Bool := decide (va < 2 ^ 48)
/-- A mask of threads, below 4294967296. -/
def okMask32 (m : Nat) : Bool := decide (m < 2 ^ 32)
/-- A kernel barrier, below 16. -/
def okBarrier (b : Nat) : Bool := decide (b < 16)
/-- A group barrier, below 8. -/
def okBarrierG (b : Nat) : Bool := decide (b < 8)

/-- Every operand of the command is in range. -/
def Instr.wellFormed (i : Instr) : Bool :=
  match i with
  | .registerWrite _ _ _ => true
  | .loadCb f a => okFrond f && okArray a
  | .loadCbComplete f a => okFrond f && okArray a
  | .loadStat f a => okFrond f && okArray a
  | .shadowLoadComplete f a => okFrond f && okArray a
  | .pass f a _ _ => okFrond f && okArray a
  | .swapMarkerRelease f a _ _ _ => okFrond f && okArray a
  | .drain f a => okFrond f && okArray a
  | .drainComplete f a => okFrond f && okArray a
  | .accumulatorPatternTest f a _ => okFrond f && okArray a
  | .commandTimeout f a => okFrond f && okArray a
  | .threadLoad f g mask _ _ _ rd _ => okFrond f && okGroup g && okMask32 mask && okGreg rd
  | .threadStore f g mask _ _ _ rs => okFrond f && okGroup g && okMask32 mask && okGreg rs
  | .storeBufferWrite f => okFrond f
  | .aliasStore f g mask _ _ _ rs => okFrond f && okGroup g && okMask32 mask && okGreg rs
  | .atomic f g mask _ _ _ _ rv rc rd => okFrond f && okGroup g && okMask32 mask && okGreg rv && okGreg rc && okGreg rd
  | .fenceL f g mask => okFrond f && okGroup g && okMask32 mask
  | .fenceM f g mask => okFrond f && okGroup g && okMask32 mask
  | .fenceMi f g mask => okFrond f && okGroup g && okMask32 mask
  | .cinv f g mask _ _ => okFrond f && okGroup g && okMask32 mask
  | .translationWalk f g t _ va _ => okFrond f && okGroup g && okThread t && okVa48 va
  | .copy f c => okFrond f && okChannel16 c
  | .fill f c => okFrond f && okChannel16 c
  | .dmaComplete f c => okFrond f && okChannel16 c
  | .duskEntry f => okFrond f
  | .nightEntry f => okFrond f
  | .darkEntry f => okFrond f
  | .sleepEntryComplete f => okFrond f
  | .wakeRequest f _ => okFrond f
  | .wakeComplete f => okFrond f
  | .wakeTimeout f => okFrond f
  | .sleepingLocalStoreAccess f _ _ _ _ => okFrond f
  | .frdSleepCtlWrite f _ => okFrond f
  | .instructionIssue f g mask _ _ => okFrond f && okGroup g && okMask32 mask
  | .fmaInstruction f g mask _ rd ra rb rc => okFrond f && okGroup g && okMask32 mask && okGreg rd && okGreg ra && okGreg rb && okGreg rc
  | .specialFunction f g mask _ rd ra => okFrond f && okGroup g && okMask32 mask && okGreg rd && okGreg ra
  | .gshuf f g mask d sreg _ => okFrond f && okGroup g && okMask32 mask && okGreg d && okGreg sreg
  | .gxpose f g mask d sreg => okFrond f && okGroup g && okMask32 mask && okGreg d && okGreg sreg
  | .gmv f g mask d sreg _ => okFrond f && okGroup g && okMask32 mask && okGreg d && okGreg sreg
  | .gred f g mask _ d sreg => okFrond f && okGroup g && okMask32 mask && okGreg d && okGreg sreg
  | .gscan f g mask _ d sreg => okFrond f && okGroup g && okMask32 mask && okGreg d && okGreg sreg
  | .barG f g mask b => okFrond f && okGroup g && okMask32 mask && okBarrierG b
  | .barK f g mask b => okFrond f && okGroup g && okMask32 mask && okBarrier b
  | .exit f g mask => okFrond f && okGroup g && okMask32 mask
  | .trap f g mask _ => okFrond f && okGroup g && okMask32 mask
  | .clusterPatternTest f c _ => okFrond f && okCluster c
  | .acmd f g mask a _ => okFrond f && okGroup g && okMask32 mask && okArray a
  | .dcmd f g mask c _ => okFrond f && okGroup g && okMask32 mask && okChannel16 c
  | .await f g mask a _ => okFrond f && okGroup g && okMask32 mask && okArray a
  | .dwait f g mask c _ => okFrond f && okGroup g && okMask32 mask && okChannel16 c
  | .divergentCollective f g => okFrond f && okGroup g
  | .barrierDeadlock f g => okFrond f && okGroup g
  | .kernelAbort f k => okFrond f && okKslot k
  | .launchRecord f _ _ _ _ r _ _ => okFrond f && okRing r
  | .kernelAdmission f => okFrond f
  | .kernelExit f k => okFrond f && okKslot k
  | .scratchpadAccess _ _ _ _ _ => true
  | .bundleWireTest t q _ b _ => okTower t && okQuad q && okBg b
  | .rowRepair t die q b m row => okTower t && okDie die && okQuad q && okBg b && okMacro m && okRow1k row
  | .patrolRead t die q b _ => okTower t && okDie die && okQuad q && okBg b
  | .patrolLate => true
  | .thallusBandChange t die q b => okTower t && okDie die && okQuad q && okBg b
  | .retentionEntry t die q b => okTower t && okDie die && okQuad q && okBg b
  | .cacheRead _ _ _ => true
  | .cacheWrite _ _ _ => true
  | .fillWaitRelease sl set => okSlice sl && okSet15 set
  | .setCacheMode r _ => okRing r
  | .switchToCache t q b => okTower t && okQuad q && okBg b
  | .switchToScratchpad t q b => okTower t && okQuad q && okBg b
  | .modeSwitchComplete t q b => okTower t && okQuad q && okBg b
  | .prefetch r _ => okRing r
  | .flush r _ => okRing r
  | .invalidate r _ => okRing r
  | .pin r _ => okRing r
  | .unpin r _ => okRing r
  | .postedReduction _ _ _ _ _ => true
  | .sliceAtomic _ _ _ _ _ _ => true
  | .lineLockEnd _ => true
  | .apply => true
  | .applyLatchedStart => true
  | .regionLostClear n => okRegion n
  | .dramAccess _ _ _ _ => true
  | .refresh ch bank _ => okChan ch && okBank48 bank
  | .pileBandChange p => okPile p
  | .pileScrub ch _ => okChan ch
  | .rowRetirement ch bank row => okChan ch && okBank48 bank && okRow15 row
  | .coilLoss ch _ _ => okChan ch
  | .pileFailed p => okPile p
  | .flitReplay link _ => okNetLink link
  | .networkLinkRetrain link _ => okNetLink link
  | .routerFailed t k => okTower t && okRouter k
  | .routeTableWrite t => okTower t
  | .frondDrain f => okFrond f
  | .drainTimeout f => okFrond f
  | .requestPromotion kind _ reqs => okKind5 kind && reqs.all (fun q => decide (q.src < 256))
  | .slotTableCommit _ => true
  | .slotTableLatchedCommit k => okKind5 k
  | .hostPortReset => true
  | .linkDown _ => true
  | .hostLinkUp _ _ => true
  | .ideIntegrity stream => okStream stream
  | .sidebandFrame _ _ => true
  | .sidebandLost => true
  | .cxlMemAccess _ _ _ => true
  | .hdmDecoderCommit n _ _ _ _ _ => okDecoder n
  | .ringEnable r => okRing r
  | .ringDisable r => okRing r
  | .ringDisableDone r => okRing r
  | .sqTail r _ _ _ => okRing r
  | .cqHead r _ _ => okRing r
  | .descriptorFetch cp => okCmdProc cp
  | .descriptorStart r => okRing r
  | .completionWrite r => okRing r
  | .nop r _ => okRing r
  | .fence r _ => okRing r
  | .xlatInv r _ => okRing r
  | .launch r _ => okRing r
  | .imageLoad r _ => okRing r
  | .imageUnload r _ => okRing r
  | .ringCopy r _ => okRing r
  | .ringFill r _ => okRing r
  | .ringIrqTimer r => okRing r
  | .openSession r _ upset => okRing r && decide (upset ≤ 2)
  | .close r _ upset => okRing r && decide (upset ≤ 2)
  | .step r _ => okRing r
  | .planLaunch h => okStep16 h
  | .planGather h => okStep16 h
  | .stepComplete h => okStep16 h
  | .stepFail h => okStep16 h
  | .park r _ => okRing r
  | .resume r _ => okRing r
  | .truncate r _ => okRing r
  | .query r _ upset => okRing r && decide (upset ≤ 2)
  | .poolCreate r _ => okRing r
  | .poolDestroy r _ => okRing r
  | .slotLatchedStart x => okSession x
  | .sessionSequenceRestart => true
  | .ssig f g mask gs gn => okFrond f && okGroup g && okMask32 mask && okGreg gs && okGreg gn
  | .swait f g mask gs _ => okFrond f && okGroup g && okMask32 mask && okGreg gs
  | .swaitT f g mask gs gt _ => okFrond f && okGroup g && okMask32 mask && okGreg gs && okGreg gt
  | .srd f g mask gd gs => okFrond f && okGroup g && okMask32 mask && okGreg gd && okGreg gs
  | .sorusUpdateApply _ => true
  | .watchRelease f n => okFrond f && okSorus n
  | .waitTimeout f g t => okFrond f && okGroup g && okThread t
  | .create r _ => okRing r
  | .destroy r _ => okRing r
  | .signal r _ => okRing r
  | .setSorus r _ => okRing r
  | .wait r _ => okRing r
  | .waitSatisfied r _ => okRing r
  | .waitTimedOut r _ => okRing r
  | .read r _ => okRing r
  | .fabPortCfgWrite p _ => okFport p
  | .portLatchedChange p => okFport p
  | .linkTraining l _ => okLink l
  | .trainingRetry l _ => okLink l
  | .crossedSwap l _ => okLink l
  | .blockReceive l _ block => okLink l && block.length == 512
  | .flitReceive l _ _ _ _ _ => okLink l
  | .nakRepeat l => okLink l
  | .ackReport l => okLink l
  | .linkRetrained l _ => okLink l
  | .rekeyStart l => okLink l
  | .messageDropped l => okLink l
  | .fabricLinkDown l => okLink l
  | .msgWrite l => okLink l
  | .msgRedWrite l => okLink l
  | .msgRead l => okLink l
  | .msgSignal l => okLink l
  | .msgSess l => okLink l
  | .msgDone l => okLink l
  | .msgData l => okLink l
  | .msgError l => okLink l
  | .msgChunk l => okLink l
  | .msgAdvance l => okLink l
  | .msgAbort l => okLink l
  | .msgLeave l => okLink l
  | .msgRekey l => okLink l
  | .msgIdent l => okLink l
  | .msgKeyx l => okLink l
  | .winOpen r _ => okRing r
  | .winClose r _ => okRing r
  | .put r _ => okRing r
  | .get r _ => okRing r
  | .fabricSignal r _ => okRing r
  | .reduce r _ => okRing r
  | .reduceComplete g => okRgroup g
  | .reductionTimeout g => okRgroup g
  | .sessionSend r _ => okRing r
  | .fabTable r _ => okRing r
  | .fabricTimeout _ => true
  | .randomSourceFailure => true
  | .randomSourceRetest _ => true
  | .lmsReservation => true
  | .lmsReservationDone => true
  | .lmsTreeBuilt => true
  | .lmsIndexLow => true
  | .tenantErase r _ => okRing r
  | .keySlotUncorrectable _ _ => true
  | .ownerClaim _ _ _ => true
  | .ownerRelease _ _ _ => true
  | .policySet _ _ _ _ => true
  | .peerTableLoad _ _ _ _ => true
  | .spdmRequest _ _ => true
  | .getEvidence _ _ => true
  | .keyProg _ stream _ _ => okStream stream
  | .kSetGo stream _ => okStream stream
  | .lockInterfaceRequest => true
  | .stopInterfaceRequest => true
  | .inputQualified idx => okInput idx
  | .inputDisqualified idx => okInput idx
  | .returnToMain => true
  | .bothSuppliesLost _ => true
  | .reversePolarity idx => okInput idx
  | .inputShort idx => okInput idx
  | .cellShed c => okCell c
  | .branchShort b => okBranch b
  | .phaseFail _ _ => true
  | .zoneLatchedSwitchOn z => okZone z
  | .railOverLimit t _ => okTower t
  | .inputOverLimit => true
  | .housekeepingRound _ => true
  | .flowPresent => true
  | .lowFlow => true
  | .coolantLost => true
  | .reversedFlow => true
  | .reversedFlowCleared => true
  | .hourlyCommit => true
  | .nightStage _ => true
  | .predawn _ _ _ => true
  | .firstLight _ _ _ _ _ => true
  | .dawn _ => true
  | .sunrise _ _ _ _ => true
  | .morning _ _ _ => true
  | .noon => true
  | .stageTimeout => true
  | .failedStartCounted => true
  | .startRetry => true
  | .failedStartCountCleared => true
  | .retry => true
  | .recoveryLoaderStart => true
  | .restart r _ _ => okRing r
  | .restartCompleted u _ _ _ _ _ _ => okUnit u
  | .restartLatchedStart u _ => okUnit u
  | .autoFrondRestart f => okFrond f
  | .ledgerCommit _ _ => true
  | .compaction _ => true
  | .ledgerDailyRead _ _ => true
  | .laserFailed e _ => okEngine e
  | .recordHoldEnd _ => true
  | .faultRingEnable _ => true
  | .faultRingIrq => true
  | .arm _ => true
  | .evictWrite _ => true
  | .start _ => true
  | .endpointSwitch => true
  | .endpointReady => true
  | .switchFailed _ => true
  | .abandon => true
  | .pldmTransfer c _ _ => okFwClass c
  | .activateFirmware => true
  | .fwSpore r _ => okRing r
  | .presenceChange p0 p1 => okCode2 p0 && okCode2 p1
  | .latchOpen => true
  | .latchClose => true
  | .removalPhaseEnd => true
  | .surpriseExtraction _ => true
  | .blockCrossed _ => true
  | .lowLight e _ => okEngine e
  | .lossOfLight e => okEngine e
  | .nightFrame _ => true
  | .linkControlFrame => true
  | .mctpMessage _ _ => true
  | .managementRead _ _ => true
  | .nightPortDown => true
  | .applyComplete => true
  | .startInterfaceRequest => true
  | .atsInvalidation _ _ _ => true
  | .nightPortUp => true
  | .sidebandLockGained => true
  | .voltageRampDone f => okFrond f

end Sys2Proof
end

