-- ==== Sys2Proof/Tests/Slice0.lean ====
section
/-!
SUPPORT. Tests: an ill-formed command for each check of WellFormed, and the worked examples of spec/. Every expected value is the spec's own, but for
the two check values of the cyclic codes, which are the ones those codes are published with.
-/

namespace Sys2Proof.Tests

set_option Elab.async false

open Sys2Proof Sys2Proof.Machine

/-! ## Well-formed commands -/

/-- An ill-formed command for each of: okFrond, okArray, okGroup, okThread, okGreg, okChannel16, okKslot, okCluster, okTower, okDie, okQuad, okBg. -/
theorem test_ill_formed_1 : ([.storeBufferWrite 16, .drain 0 8, .fenceL 0 64 0, .waitTimeout 0 0 32, .threadLoad 0 0 0 [] [] 4 128 0, .copy 0 16,
    .kernelExit 0 8, .clusterPatternTest 0 4 false, .routeTableWrite 4, .patrolRead 0 2 0 0 128, .bundleWireTest 0 4 0 0 [],
    .bundleWireTest 0 0 0 32 []] : List Instr).all (fun c => !c.wellFormed) = true := by decide

/-- An ill-formed command for each of: okMacro, okRow1k, okSlice, okSet15, okRegion, okChan, okBank48, okPile, okRow15, okNetLink, okRouter, okKind5. -/
theorem test_ill_formed_2 : ([.rowRepair 0 0 0 0 32 0, .rowRepair 0 0 0 0 0 1024, .fillWaitRelease 128 0, .fillWaitRelease 0 32768, .regionLostClear 16,
    .refresh 128 0 false, .refresh 0 48 false, .pileFailed 8, .rowRetirement 0 0 32768, .flitReplay 188 none, .routerFailed 0 5,
    .requestPromotion 5 0 []] : List Instr).all (fun c => !c.wellFormed) = true := by decide

/-- An ill-formed command for each of: okRing, okCmdProc, okStep16, okSession, okSorus, okFport, okLink, okRgroup, okStream, okDecoder, okInput, okCell. -/
theorem test_ill_formed_3 : ([.nop 1024 0, .descriptorFetch 8, .planLaunch 16, .slotLatchedStart 65536, .watchRelease 0 8192, .portLatchedChange 16,
    .nakRepeat 33, .reduceComplete 256, .ideIntegrity 6, .hdmDecoderCommit 2 0 0 0 0 true, .reversePolarity 2, .cellShed 8] : List Instr).all
    (fun c => !c.wellFormed) = true := by decide

/-- An ill-formed command for each of: okBranch, okZone, okEngine, okUnit, okCode2, okFwClass, okVa48, okMask32, okBarrier, okBarrierG. -/
theorem test_ill_formed_4 : ([.branchShort 14, .zoneLatchedSwitchOn 12, .lossOfLight 18, .restartCompleted 20 true [] [] [] [] [], .presenceChange 4 0,
    .pldmTransfer 8 [] [], .translationWalk 0 0 0 0 (2 ^ 48) .r, .exit 0 0 (2 ^ 32), .barK 0 0 1 16, .barG 0 0 1 8] : List Instr).all
    (fun c => !c.wellFormed) = true := by decide

/-- The greatest operands are in range. -/
theorem test_well_formed : ([.drain 15 7, .fenceL 15 63 (2 ^ 32 - 1), .refresh 127 47 true, .nop 1023 65535, .nakRepeat 32, .watchRelease 15 8191] : List Instr).all
    Instr.wellFormed = true := by decide

/-! ## Locations and addresses (chapters 00, 04, 06, 07, 08) -/

/-- The worked example of chapter 00. -/
theorem test_location_code : Loc.code ⟨1, 2, 2, 1, 0x06, 0x1A, 0x0123⟩ 0x155 = 0x05544881061A0123#64 := by decide
/-- The location of chapter 17's worked example: feeder sequencer 3 of Frond 9. -/
theorem test_location_feeder : (feederLoc 9 3 4).code 0 = 0x000048010B04FFFF#64 := by decide
/-- Chapter 04: the bit-set window of Frond 6 at offset 0x10_0040. -/
theorem test_alias_address : physClass 0x0E0018100040 = .lstore 6 0x100040 1 := by decide
/-- Chapter 06: address 0x0801_4B12_34A5 lies in quadrant 2 of tower 1, bank group 9, macro 0xB, row 0x48. -/
theorem test_thallus_address :
    physClass 0x08014B1234A5 = .thallus 0x14B1234A5 ∧
    [thlTower, thlDie, thlQuad, thlBg, thlMacro, thlRow].map (· 0x14B1234A5) = [1, 0, 2, 9, 0xB, 0x48] ∧
    thlLine 0x14B1234A5 % 4 = 3 ∧ 0x14B1234A5 % 128 = 0x25 := by decide
/-- Chapter 06: the codeword of 0xA5, and the correction of its bit 5. -/
theorem test_byte_code : thlEncode 0xA5 = 0x3A5 ∧ syndrome (1 <<< 5) = 10 ∧ thlDecode (1 <<< 5) = some (0, true) := by decide +kernel
/-- Chapter 07: slice, set and tag of 0x12_3456_7880, in a global and in a tower-local region. -/
theorem test_cache_address :
    let l := 0x1234567880 / 128
    (sliceOf l true 0 128, sliceTQ 43, sliceBg 43 0, setOf l, tagOf l, sliceOf l false 3 128) = (43, 5, 12, 0x5159, 0x48F1, 107) := by decide +kernel
/-- Chapter 08: the table of the worked example, and the channel address. -/
theorem test_region_table :
    (placeRegions 128 [⟨true, true, 0, 0, 256, 0⟩, ⟨true, false, 0, 256, 32, 0⟩, ⟨true, false, 1, 288, 32, 0⟩, ⟨true, false, 2, 320, 32, 0⟩,
      ⟨true, false, 3, 352, 32, 0⟩] (List.replicate 128 0)).map (fun r => (r.choff, r.take_ 128)) =
      [(0, 2048), (2048, 1024), (2048, 1024), (2048, 1024), (2048, 1024)] ∧
    chanAddr ⟨true, true, 0, 0, 256, 0⟩ 128 0x1234567880 = (43, 0x2468AC80) := by decide +kernel

/-! ## Formats and arrays (chapters 02, 03) -/

/-- Chapter 02: the codes of a VQ3 row. -/
theorem test_vq3_codes : vqCode true [0xB2#8, 0x4A#8, 0x7C#8] 0 = 0xAB2 ∧ vqCode true [0xB2#8, 0x4A#8, 0x7C#8] 1 = 0x7C4 := by decide
/-- Chapter 02: the bytes of the stationary block, the group sum 3.25 and the entry 13.25. -/
theorem test_group_sum :
    let w := (List.range 4).map (packedElem 9 [0xD3#8, 0x71#8])
    let sum := scaledGroup false 0x7C 0x81 ((w.zip [0x3E, 0x32, 0xC0, 0x39]).map (fun p => fvMul (decodeElem efE2m1 p.1) (decodeElem efE4m3 p.2)))
    w = [3, 13, 1, 7] ∧ sum = 0x40500000#32 ∧ fAdd 0x41200000#32 sum = 0x41540000#32 := by decide +kernel
/-- Chapter 02: 13.25 in E4M3 is 13 to nearest, and 14 where the random number is at least 49,152. -/
theorem test_drain_rounding :
    encodeRne efE4m3 false (f32 0x41540000#32) = 0x55 ∧ encodeStoch efE4m3 false 49151 (f32 0x41540000#32) = 0x55 ∧
    encodeStoch efE4m3 false 49152 (f32 0x41540000#32) = 0x56 := by decide +kernel
/-- The descriptor of chapter 03's convolution, and an input whose block at byte offset o begins with o / 32 + 1. -/
def convT : Tensor :=
  ⟨[3 * 2 ^ 59 + 2 ^ 56 + 0x1000, 0, 0, 2 ^ 48 + 5 * 2 ^ 32 + 5 * 2 ^ 16 + 32,
    3 * 2 ^ 48 + 2 ^ 40 + 2 ^ 32 + 2 ^ 28 + 2 ^ 24 + 2 * 2 ^ 20 + 2 * 2 ^ 16 + 3 * 2 ^ 8 + 3, 160 * 2 ^ 32 + 32, 3 * 2 ^ 48 + 800, 0]⟩
def convIn : State :=
  { noon with mem := { noon.mem with thl := tables ++ (List.range 25).map (fun o => (0x201000 + 32 * o, BitVec.ofNat 8 (o + 1))) } }
def convSeen (m : Nat) : List (Option Nat) :=
  (List.range 9).map (fun t => match (convIn.convBlock 0 0 0 convT m (32 * t)).2 with
    | .ok (b, _) => if b.getD 0 0 = 0 then none else some ((b.getD 0 0 - 1) * 32)
    | .error _ => some 9999)
/-- Chapter 03, Table 03-9: the block offsets of vectors 0, 4 and 8 (none is padding). -/
theorem test_conv_m0 : convSeen 0 = [none, none, none, none, some 0, some 32, none, some 160, some 192] := by decide +kernel
theorem test_conv_m4 : convSeen 4 = [192, 224, 256, 352, 384, 416, 512, 544, 576].map some := by decide +kernel
theorem test_conv_m8 : convSeen 8 = [some 576, some 608, none, some 736, some 768, none, none, none, none] := by decide +kernel

/-! ## Slot tables (chapter 09) -/

/-- The program of Table 09-5: the deficits after a slot, and the class it takes. -/
def slotStep (cnt d : List Nat) : List Nat × Nat :=
  let d := (d.zip cnt).map (fun p => p.1 + p.2)
  let best := (List.range 8).foldl (fun b c => if d.getD c 0 > d.getD b 0 then c else b) 0
  ((List.range 8).map (fun c => if c = best then d.getD c 0 else d.getD c 0 + 64), best)
/-- Slots of a kind, lowest first; 64 is added to every deficit in each slot, so that none goes below zero. -/
def slotProgram (cnt : List Nat) : List Nat :=
  ((List.range 64).foldl (fun (p : List Nat × List Nat) _ => let (d, b) := slotStep cnt p.1; (d, p.2 ++ [b])) (List.replicate 8 0, [])).2
theorem test_slot_tables : (List.range 5).all (fun k => slotProgram (slotCounts k) ==
    (List.range 64).map (fun i => nfld (slotReset k (i / 16)) (4 * (i % 16) + 3) (4 * (i % 16)))) = true := by decide +kernel

/-! ## Rings, sessions, sori, pace (chapters 10, 11, 12, 19, 21) -/

/-- Chapter 10: entries 1,020 to 1,023 of a ring of 1,024 have PHASE 1, entry 1,024 has PHASE 0; the tail 1,028 over head 1,020 is accepted. -/
theorem test_phase : ([1020, 1023, 1024, 1027].map (fun n => ((Compl.bytes ⟨0, 0, 0, 0, 0, 0, true, true⟩ n 10 0).headD 0#8).toNat % 2)) = [1, 1, 0, 0] ∧
    sub32 1028 1020 ≤ 1024 := by decide +kernel
/-- Chapters 11 and 21: the page of token 1,000 in layer 47, and the images of the removal example. -/
theorem test_session_pages :
    let q : Slot := { Slot.init with layersM1 := 47, tb := 11 }
    q.tpp = 32 ∧ Pool.va ⟨true, 0, 0, 0x10000000000, 1, 0⟩ 0x41A2C = 0x01041A2C0000 ∧ q.entries 128 = 192 ∧ imageSize (q.entries 128) = 12648448 ∧
    imageSize (q.entries 2048) = 201392128 := by decide +kernel
/-- Chapter 12: with 46 in sorus 0x123 and the pointer past Frond 2, Frond 3's signal is applied before Frond 9's. -/
def sorusRace : State :=
  { noon with sor := { noon.sor with sori := [(0x123, ⟨46#64, 0#64, 0, false, .allocated, true, 0, 0, 0, 0⟩)], ptr := [(3, 3)],
                                     queue := [⟨9, 0x123, 1, 0, .thread 9 0 0⟩, ⟨3, 0x123, 1, 0, .thread 3 0 0⟩] } }
theorem test_sorus_order :
    (match execSorusUpdateApply 3 sorusRace with
     | .next t => decide ((t.sorus 0x123).value = 47#64 ∧ t.sor.queue.map (·.party) = [9])
     | _ => false) = true := by decide +kernel
/-- Chapter 19: the pace values of the worked example, and their lower median. -/
theorem test_pace :
    ([(3, 1200000), (9, 1150000), (4, 1300000), (5, 1250000), (6, 1100000)].map (fun p => paceOf (noon.paceTerms { hk0 with cycles := [p] } p.1))) =
      [877, 841, 950, 914, 804] ∧
    lowerMedian [950, 950, 950, 877, 950, 950, 950, 950, 950, 804, 950, 950, 950, 950, 950, 950] = 950 := by decide +kernel
/-- The check values of CRC-32 and CRC-32C over the nine digits. -/
theorem test_crc : crc32 (ascii "123456789") = 0xCBF43926 ∧ crc32c (ascii "123456789") = 0xE3069283 := by decide +kernel

end Sys2Proof.Tests
end

section
/-!
PROOFS. The rings of the host port (chapter 10): what a halt of a ring leaves and records, what the writing of a completion entry
leaves, and the two statements on CQ_HEAD (R332) and on the slot and PHASE of an entry (R344).
-/

namespace Sys2Proof.Machine

/-! ### Reads of registers, rings and bytes of memory -/

/-- A register field depends on the registers and, through their reset values, on the part alone. -/
theorem State.rget_congr {s t : State} (hr : t.regs = s.regs) (hp : t.part = s.part) (f : Fd) : t.rget f = s.rget f := by
  simp only [State.rget, State.rword, hr, hp]

/-- A write to another register leaves a field as it is, whatever bits of it are written. -/
theorem State.rget_rset_off (s : State) {f g : Fd} (v : Nat) (h : g.off ≠ f.off) : (s.rset f v).rget g = s.rget g := by
  simp only [State.rget, State.rset, State.rword_setRword_ne s _ h]

theorem State.rget_radd_off (s : State) {f g : Fd} (k : Nat) (h : g.off ≠ f.off) : (s.radd f k).rget g = s.rget g :=
  State.rget_rset_off s _ h

@[simp] theorem State.rget_setRing (s : State) (r : Nat) (q : Ring) (f : Fd) : (s.setRing r q).rget f = s.rget f := rfl

@[simp] theorem State.rget_modRing (s : State) (r : Nat) (g : Ring → Ring) (f : Fd) : (s.modRing r g).rget f = s.rget f := rfl

@[simp] theorem State.ring_modRing_same (s : State) (r : Nat) (g : Ring → Ring) : (s.modRing r g).ring r = g (s.ring r) :=
  State.ring_setRing_same s r _

theorem State.ring_congr {s t : State} (h : t.rng = s.rng) (r : Nat) : t.ring r = s.ring r := by
  simp only [State.ring, h]

@[simp] theorem State.ring_rset (s : State) (f : Fd) (v r : Nat) : (s.rset f v).ring r = s.ring r :=
  State.ring_congr (by simp) r

/-- A register of the rings lies outside what raising a record writes. -/
theorem not_recSlot_of_ring {off : Nat} (h : 0x400000 ≤ off) : ¬ recSlot off := by
  simp only [recSlot, Fd.HPT_ATS_STAT_FAILS]; omega

theorem memGet_memPut (m : List Host.Cell) (a : Nat) (b : Byte) (k : Nat) :
    memGet (memPut m a b) k = if k = a then b else memGet m k := spGet_spPut _ m a b k

/-- Storing bytes leaves every address outside them. -/
theorem memGet_memPutN_outside (m : List Host.Cell) (a : Nat) (l : List Byte) {k : Nat} (h : k < a ∨ a + l.length ≤ k) :
    memGet (memPutN m a l) k = memGet m k := by
  induction l generalizing m a with
  | nil => rfl
  | cons b l ih =>
    rw [List.length_cons] at h
    rw [memPutN, ih _ _ (by omega), memGet_memPut, if_neg (by omega)]

/-- Byte `i` of the bytes stored at `a` is read at `a + i`. -/
theorem memGet_memPutN_at (m : List Host.Cell) (a : Nat) (l : List Byte) {i : Nat} (h : i < l.length) :
    memGet (memPutN m a l) (a + i) = l.getD i 0#8 := by
  induction l generalizing m a i with
  | nil => cases h
  | cons b l ih =>
    cases i with
    | zero => rw [memPutN, memGet_memPutN_outside _ _ _ (by omega), memGet_memPut, if_pos (by omega)]; rfl
    | succ i => rw [memPutN, show a + (i + 1) = a + 1 + i by omega, ih _ _ (Nat.lt_of_succ_lt_succ h), List.getD_cons_succ]

@[simp] theorem leBytes_length (n v : Nat) : (leBytes n v).length = n := by
  induction n generalizing v with
  | zero => rfl
  | succ n ih => simp [leBytes, ih]

/-! ### A ring that halts (R329) -/

/-- A halt writes RNG_CTL and RNG_CNT of its ring and what its record writes; every other register stays. -/
theorem State.rget_ringHalt (s : State) (r reason : Nat) (loc : Loc) (f : Fd) (hf : ¬ recSlot f.off)
    (hctl : f.off ≠ (Fd.RNG_CTL_STATE r).off) (hcnt : f.off ≠ (Fd.RNG_CNT_DONE r).off) :
    (s.ringHalt r reason loc).rget f = s.rget f := by
  have herr (t : State) (v : Nat) : (t.rset (Fd.RNG_CTL_ERR r) v).rget f = t.rget f := t.rget_rset_off v hctl
  have hfail (t : State) (k : Nat) : (t.radd (Fd.RNG_CNT_FAILED r) k).rget f = t.rget f := t.rget_radd_off k hcnt
  unfold State.ringHalt
  dsimp only
  split
  · rw [hfail, State.rget_radd_off _ _ hcnt, State.rget_rset_off _ _ hctl, State.rget_setRing, herr, State.rget_raise _ _ _ hf]
  · rw [herr, State.rget_raise _ _ _ hf]

/-- An enabled ring that halts is halted. -/
theorem State.ringState_ringHalt {s : State} {r : Nat} (h : s.ringState r = 1) (reason : Nat) (loc : Loc) :
    (s.ringHalt r reason loc).ringState r = 3 := by
  have hst (a : RecArg) : (s.raise a).rget (Fd.RNG_CTL_STATE r) = 1 :=
    (s.rget_raise a _ (not_recSlot_of_ring (by simp only [Fd.RNG_CTL_STATE]; omega))).trans h
  have hcnt : (Fd.RNG_CTL_STATE r).off ≠ (Fd.RNG_CNT_DONE r).off := by simp only [Fd.RNG_CTL_STATE, Fd.RNG_CNT_DONE]; omega
  have hfail (t : State) (k : Nat) : (t.radd (Fd.RNG_CNT_FAILED r) k).rget (Fd.RNG_CTL_STATE r) = t.rget (Fd.RNG_CTL_STATE r) :=
    t.rget_radd_off k hcnt
  unfold State.ringState State.ringHalt
  dsimp only
  rw [if_pos (hst _), hfail, State.rget_radd_off _ _ hcnt, State.rget_rset_same]
  all_goals simp [Fd.RNG_CTL_STATE]

/-- What a halt leaves in the fault unit is what its record leaves there. -/
theorem State.ringHalt_flt (s : State) (r reason : Nat) (loc : Loc) :
    (s.ringHalt r reason loc).flt = (s.raise { recNote reason loc with ctx := s.ringCtx r }).flt := by
  unfold State.ringHalt
  dsimp only
  split <;> simp only [State.radd_frame, State.rset_frame, State.setRing_frame]

/-- From First light on the log holds the halt's reason at the ring's location. -/
theorem State.ringHalt_hasRecord (s : State) (r reason : Nat) (h : 2 ≤ s.stage) :
    (s.ringHalt r reason (s.ringLoc r)).HasRecord reason ((s.ringLoc r).code s.devId) := by
  unfold State.HasRecord
  rw [State.ringHalt_flt]
  exact State.raise_hasRecord s _ h rfl

/-! ### CQ_HEAD (R332) -/

/-- BAR2 takes a doorbell of 4 bytes that the ring takes, outside Twilight mode (R313, R322, R331). -/
theorem State.doorbellOff_eq_none {s : State} {r : Nat} (hr : r < 1024) (ht : s.twilight = false) :
    s.doorbellOff r 4 true = none := by
  simp [State.doorbellOff, ht, hr]

theorem exec_cqHead (r size v : Nat) (s : State) : exec (.cqHead r size v) s = execCqHead r size v s := rfl

theorem exec_completionWrite (r : Nat) (s : State) : exec (.completionWrite r) s = execCompletionWrite r s := rfl

/-- A write of CQ_HEAD that reaches an enabled ring is taken or halts the ring, by R332's two conditions alone. -/
theorem exec_cqHead_of_enabled {s : State} {r : Nat} (v : Nat) (hr : r < 1024) (ht : s.twilight = false) (hs : s.ringState r = 1) :
    exec (.cqHead r 4 v) s = .next (
      if sub32 (s.rget (Fd.RNG_CSTAT_CQ_TAIL r)) (v % 2 ^ 32) ≤ s.ringN r ∧ sub32 (v % 2 ^ 32) (s.rget (Fd.RNG_CSTAT_CQ_HEAD r)) < 2 ^ 31
      then s.rset (Fd.RNG_CSTAT_CQ_HEAD r) (v % 2 ^ 32) else s.ringHalt r 0x080E (s.ringLoc r)) := by
  have hon : decide (s.ringState r ≠ 0) = true := by simp [hs]
  rw [exec_cqHead, execCqHead, hon, State.doorbellOff_eq_none hr ht]
  simp only [Bool.and_eq_true, decide_eq_true_eq]

/-- Where the host has N entries still to consume, a completion that needs an entry waits (R332). -/
theorem exec_completionWrite_full {s : State} {r : Nat} {c : Compl} {rest : List Compl} (hd : (s.ring r).done = c :: rest)
    (hc : c.status ≠ 0 ∨ c.cmpl = true) (hn : s.ringN r ≤ sub32 (s.rget (Fd.RNG_CSTAT_CQ_TAIL r)) (s.rget (Fd.RNG_CSTAT_CQ_HEAD r))) :
    exec (.completionWrite r) s = .next s := by
  have hentry : (decide (c.status = 0) && !c.cmpl) = false := by rcases hc with h | h <;> simp [h]
  simp [exec_completionWrite, execCompletionWrite, hd, hentry, hn]

/-- Settles O52: the conditions of R332 decide between taking the head and the halt, and a full ring holds its completions back. -/
theorem completionHead : Obligations.CompletionHead := by
  unfold Obligations.CompletionHead
  refine ⟨fun s r v hr ht hs hok => ⟨s.rset (Fd.RNG_CSTAT_CQ_HEAD r) (v % 2 ^ 32), ?_, rfl, ?_⟩,
    fun s r v hr ht hs hbad => ⟨s.ringHalt r 0x080E (s.ringLoc r), ?_, State.ringState_ringHalt hs _ _, ?_, s.ringHalt_hasRecord r _⟩,
    fun s r c rest hd hc hn => exec_completionWrite_full hd hc hn⟩
  · rw [exec_cqHead_of_enabled v hr ht hs, if_pos hok]
  · rw [State.rget_rset_same] <;> simp [Fd.RNG_CSTAT_CQ_HEAD]
  · rw [exec_cqHead_of_enabled v hr ht hs, if_neg hbad]
  · apply State.rget_ringHalt
    · exact not_recSlot_of_ring (by simp only [Fd.RNG_CSTAT_CQ_HEAD]; omega)
    · simp [Fd.RNG_CSTAT_CQ_HEAD, Fd.RNG_CTL_STATE]
    · simp [Fd.RNG_CSTAT_CQ_HEAD, Fd.RNG_CNT_DONE]

/-! ### Completion entries (R343, R344) -/

@[simp] theorem State.ring_dmaResume (s : State) (r i k : Nat) : (s.dmaResume r i).ring k = s.ring k := by
  obtain ⟨w, x, e⟩ := s.dmaResume_shape r i
  rw [e]; rfl

@[simp] theorem State.dmaResume_mem (s : State) (r i : Nat) : (s.dmaResume r i).mem = s.mem := by
  obtain ⟨w, x, e⟩ := s.dmaResume_shape r i
  rw [e]

/-- Channels that go on have their HALTED bits cleared; every register but theirs stays. -/
theorem State.rget_dmaResume (s : State) (r i : Nat) {g : Fd} (hg : ∀ f c, c < 16 → g.off ≠ (Fd.FRD_DMA_STAT_HALTED f c).off) :
    (s.dmaResume r i).rget g = s.rget g := by
  unfold State.dmaResume
  refine List.foldlRecOn (motive := fun t : State => t.rget g = s.rget g) _ _ rfl fun t ht f _ => ?_
  refine List.foldlRecOn (motive := fun t : State => t.rget g = s.rget g) _ _ ht fun u hu c hc => ?_
  split
  · split
    · rw [State.rget_rset_off _ _ (hg f c (List.mem_range.mp hc))]; exact hu
    · exact hu
  · exact hu

/-- An interrupt changes nothing but the vectors pending and sent. -/
theorem State.msi_shape (s : State) (v : Nat) : ∃ h, s.msi v = { s with hpt := h } := by
  unfold State.msi
  split
  · exact ⟨_, rfl⟩
  · exact ⟨_, rfl⟩

/-- A ring's interrupt restarts its count; registers and memory stay, and so do the completions that wait. -/
theorem State.ringIrq_frame (s : State) (r : Nat) :
    (s.ringIrq r).regs = s.regs ∧ (s.ringIrq r).part = s.part ∧ (s.ringIrq r).mem = s.mem ∧
    ((s.ringIrq r).ring r).done = (s.ring r).done := by
  obtain ⟨h, e⟩ := s.msi_shape (s.rget (Fd.RNG_IRQ_VECTOR r))
  unfold State.ringIrq
  rw [e]
  refine ⟨rfl, rfl, rfl, ?_⟩
  rw [State.ring_modRing_same]; rfl

/-- The state in which an entry is counted and its ring's interrupt not yet decided on. -/
def State.entryCounted (s : State) (r : Nat) : State :=
  (s.rset (Fd.RNG_CSTAT_CQ_TAIL r) ((s.rget (Fd.RNG_CSTAT_CQ_TAIL r) + 1) % 2 ^ 32)).modRing r (fun q =>
    { q with pendCnt := q.pendCnt + 1, pendAt := some (q.pendAt.getD s.clock) })

/-- After an entry is counted its ring raises its vector or does not (R347). -/
theorem State.entryWritten_cases (s : State) (r : Nat) (irq : Bool) :
    s.entryWritten r irq = (s.entryCounted r).ringIrq r ∨ s.entryWritten r irq = s.entryCounted r := by
  unfold State.entryWritten
  dsimp only
  split
  · exact .inl rfl
  · exact .inr rfl

theorem State.entryCounted_cqTail (s : State) (r : Nat) :
    (s.entryCounted r).rget (Fd.RNG_CSTAT_CQ_TAIL r) = (s.rget (Fd.RNG_CSTAT_CQ_TAIL r) + 1) % 2 ^ 32 := by
  rw [State.entryCounted, State.rget_modRing, State.rget_rset_same] <;> simp [Fd.RNG_CSTAT_CQ_TAIL]

theorem State.entryCounted_mem (s : State) (r : Nat) : (s.entryCounted r).mem = s.mem := by
  simp [State.entryCounted]

theorem State.entryCounted_done (s : State) (r : Nat) : ((s.entryCounted r).ring r).done = (s.ring r).done := by
  simp [State.entryCounted]

/-- Counting an entry moves CQ_TAIL on by one; memory and the completions that wait stay. -/
theorem State.entryWritten_spec (s : State) (r : Nat) (irq : Bool) :
    (s.entryWritten r irq).rget (Fd.RNG_CSTAT_CQ_TAIL r) = (s.rget (Fd.RNG_CSTAT_CQ_TAIL r) + 1) % 2 ^ 32 ∧
    (s.entryWritten r irq).mem = s.mem ∧ ((s.entryWritten r irq).ring r).done = (s.ring r).done := by
  obtain ⟨hregs, hpart, hmem, hdone⟩ := (s.entryCounted r).ringIrq_frame r
  rcases s.entryWritten_cases r irq with h | h
  · rw [h]
    exact ⟨(State.rget_congr hregs hpart _).trans (s.entryCounted_cqTail r), hmem.trans (s.entryCounted_mem r),
      hdone.trans (s.entryCounted_done r)⟩
  · rw [h]
    exact ⟨s.entryCounted_cqTail r, s.entryCounted_mem r, s.entryCounted_done r⟩

/-- Where the host takes it, a store is performed whole. -/
theorem State.hostWrite_of_ok {s : State} {addr : Nat} {l : List Byte} (h : s.hostFail addr l.length = none) :
    s.hostWrite addr l = ((s.atsFill addr l.length).hostStore addr l, none) := by
  unfold State.hostWrite
  rw [h]

@[simp] theorem Compl.bytes_length (c : Compl) (tail log clock : Nat) : (c.bytes tail log clock).length = 32 := by
  simp [Compl.bytes]

/-- PHASE, bit 0 of an entry, is the complement of bit LOG2N of its index (R344). -/
theorem Compl.bytes_phase (c : Compl) (tail log clock : Nat) :
    bit (BitVec.ofNat 64 ((c.bytes tail log clock).getD 0 0#8).toNat) 0 = !nbit tail log := by
  have hbyte : (c.bytes tail log clock).getD 0 0#8 =
      BitVec.ofNat 8 (c.userTag * 2 ^ 32 + (c.idx % 2 ^ 16) * 2 ^ 16 + c.status * 2 ^ 8 + (1 - tail / 2 ^ log % 2)) := rfl
  rw [hbyte]
  simp only [bit, nbit, BitVec.toNat_ofNat, Nat.shiftRight_eq_div_pow]
  rcases Nat.mod_two_eq_zero_or_one (tail / 2 ^ log) with h | h
  · rw [h]; simp; omega
  · rw [h]; simp; omega

/-- The indices of the first pass round a ring of 2 ^ `k` entries have bit `k` clear, so that their PHASE is 1 (R344). -/
theorem nbit_eq_false_of_lt {n k : Nat} (h : n < 2 ^ k) : nbit n k = false := by
  simp [nbit, Nat.shiftRight_eq_div_pow, Nat.div_eq_of_lt h]

/-- The state in which the entry of completion `c`, taken from the front of its ring's list, stands in host memory at `addr`. -/
def State.entryStored (s : State) (r addr : Nat) (c : Compl) (rest : List Compl) : State :=
  (((s.modRing r fun q => { q with done := rest }).atsFill addr 32).hostStore addr
    (c.bytes (s.rget (Fd.RNG_CSTAT_CQ_TAIL r)) (s.ringLog r) s.clock)).dmaResume r c.idx

/-- An entry the ring has room for and the host takes is stored in slot CQ_TAIL modulo N and counted (R344). -/
theorem exec_completionWrite_room {s : State} {r : Nat} {c : Compl} {rest : List Compl} (hd : (s.ring r).done = c :: rest)
    (hc : c.status ≠ 0 ∨ c.cmpl = true) (hup : s.hostUp = true)
    (hroom : sub32 (s.rget (Fd.RNG_CSTAT_CQ_TAIL r)) (s.rget (Fd.RNG_CSTAT_CQ_HEAD r)) < s.ringN r) {addr : Nat}
    (haddr : addr = s.rget (Fd.RNG_CQ_BASE_BASE r) * 4096 + s.rget (Fd.RNG_CSTAT_CQ_TAIL r) % s.ringN r * 32)
    (hok : s.hostFail addr 32 = none) :
    exec (.completionWrite r) s = .next ((s.entryStored r addr c rest).entryWritten r c.irq) := by
  have hentry : (decide (c.status = 0) && !c.cmpl) = false := by rcases hc with h | h <;> simp [h]
  have hfail : (s.modRing r fun q => { q with done := rest }).hostFail addr
      (c.bytes (s.rget (Fd.RNG_CSTAT_CQ_TAIL r)) (s.ringLog r) s.clock).length = none := by
    rw [Compl.bytes_length]; exact hok
  rw [exec_completionWrite, execCompletionWrite, hd]
  simp only [hentry, hup, Nat.not_le.mpr hroom, Bool.false_eq_true, if_false, Bool.not_true, Bool.false_or, decide_false,
    ← haddr, State.hostWrite_of_ok hfail, Compl.bytes_length, State.entryStored]

theorem State.entryStored_done (s : State) (r addr : Nat) (c : Compl) (rest : List Compl) :
    ((s.entryStored r addr c rest).ring r).done = rest := by
  rw [State.entryStored, State.ring_dmaResume,
    State.ring_congr (s := s.modRing r fun q => { q with done := rest }) (by simp), State.ring_modRing_same]

theorem State.entryStored_cqTail (s : State) (r addr : Nat) (c : Compl) (rest : List Compl) :
    (s.entryStored r addr c rest).rget (Fd.RNG_CSTAT_CQ_TAIL r) = s.rget (Fd.RNG_CSTAT_CQ_TAIL r) := by
  have hne : ∀ f k, k < 16 → (Fd.RNG_CSTAT_CQ_TAIL r).off ≠ (Fd.FRD_DMA_STAT_HALTED f k).off := by
    intro f k hk
    simp only [Fd.RNG_CSTAT_CQ_TAIL, Fd.FRD_DMA_STAT_HALTED]; omega
  rw [State.entryStored, State.rget_dmaResume _ _ _ hne, State.rget_congr (s := s) (by simp) (by simp)]

theorem State.entryStored_byte (s : State) (r addr : Nat) (c : Compl) (rest : List Compl) {i : Nat} (hi : i < 32) :
    memGet (s.entryStored r addr c rest).mem.host (addr + i) =
      (c.bytes (s.rget (Fd.RNG_CSTAT_CQ_TAIL r)) (s.ringLog r) s.clock).getD i 0#8 := by
  rw [State.entryStored, State.dmaResume_mem]
  exact memGet_memPutN_at _ _ _ (by rwa [Compl.bytes_length])

/-- Settles O53: the entry written, the list it came from, and the memory at reset. -/
theorem completionSlot : Obligations.CompletionSlot := by
  unfold Obligations.CompletionSlot
  refine ⟨?_, fun s r i status reason result hf hi => ?_, fun a => rfl⟩
  · intro s r c rest n addr hd hc hup hroom hok
    have haddr : addr = s.rget (Fd.RNG_CQ_BASE_BASE r) * 4096 + n % s.ringN r * 32 := by
      simp only [addr, State.ringN, Nat.and_two_pow_sub_one_eq_mod]
    obtain ⟨htail, hmem, hdone⟩ := (s.entryStored r addr c rest).entryWritten_spec r c.irq
    have hbyte : ∀ i, i < 32 → memGet ((s.entryStored r addr c rest).entryWritten r c.irq).mem.host (addr + i) =
        (c.bytes n (s.ringLog r) s.clock).getD i 0#8 := by
      intro i hi
      rw [hmem, State.entryStored_byte s r addr c rest hi]
    have hphase : bit (BitVec.ofNat 64 (memGet ((s.entryStored r addr c rest).entryWritten r c.irq).mem.host addr).toNat) 0 =
        !nbit n (s.ringLog r) := by
      rw [← Compl.bytes_phase c n (s.ringLog r) s.clock, ← hbyte 0 (by decide), Nat.add_zero]
    refine ⟨_, exec_completionWrite_room hd hc hup hroom haddr hok, hdone.trans (s.entryStored_done r addr c rest), ?_, hbyte,
      hphase, fun hn => ?_⟩
    · rw [htail, State.entryStored_cqTail]
    · rw [hphase, nbit_eq_false_of_lt hn]; rfl
  · obtain ⟨st, -, hall⟩ := State.complete_completes s (Option.get_mem hf) status reason result
    obtain ⟨-, hdone⟩ := hall hi
    exact ⟨_, hdone, rfl, rfl⟩

end Sys2Proof.Machine
end

section
/-!
PROOFS. A signal applied to a sorus (R394): what storing VALUE and evaluating the waits leave, the two cases of the addition, and the
statement that it adds and saturates.
-/

namespace Sys2Proof.Machine

theorem State.sorus_congr {s t : State} (h : t.sor.sori = s.sor.sori) (n : Nat) : t.sorus n = s.sorus n := by
  simp only [State.sorus, h]

/-! ### The flip mask's bookkeeping (R610, R612) -/

@[simp] theorem State.injDone_sor_flt (s : State) : s.injDone.sor = s.sor ∧ s.injDone.flt = s.flt := by
  unfold State.injDone
  split
  · exact ⟨rfl, rfl⟩
  · simp only [State.rset_frame, and_self]

@[simp] theorem State.noteInj_sor_flt (s : State) (c k : Nat) : (s.noteInj c k).sor = s.sor ∧ (s.noteInj c k).flt = s.flt := by
  unfold State.noteInj
  split <;> exact ⟨rfl, rfl⟩

/-! ### VALUE stored and the waits evaluated -/

/-- Struck by the flip mask or not, the sorus then holds the VALUE stored, and the fault unit is as it was. -/
theorem State.sorWrite_value_flt (s : State) (n : Nat) (v : W64) :
    ((s.sorWrite n v).sorus n).value = v ∧ (s.sorWrite n v).flt = s.flt := by
  unfold State.sorWrite
  dsimp only
  split
  · next m _ =>
    rw [State.sorus_congr (s := s.setSorus n { s.sorus n with value := v, badV := m % 2 ^ 64 }) (by simp)]
    simp
  · next =>
    rw [State.sorus_congr (s := s.setSorus n { s.sorus n with value := v, badV := 0 }) (by simp)]
    simp

/-- The marks of the waits and of the watch lists stand outside the sori and the fault unit. -/
theorem State.sorEval_sori_flt (s : State) (n : Nat) :
    (s.sorEval n).sor.sori = s.sor.sori ∧ (s.sorEval n).flt = s.flt := by
  unfold State.sorEval
  exact foldl_keeps (p := fun u : State => u.sor.sori = s.sor.sori ∧ u.flt = s.flt) _
    (fun u f hu => by simpa only [State.modFr_frame] using hu) _ ⟨rfl, rfl⟩

theorem State.sorEval_sorWrite (s : State) (n : Nat) (v : W64) :
    (((s.sorWrite n v).sorEval n).sorus n).value = v ∧ ((s.sorWrite n v).sorEval n).flt = s.flt := by
  obtain ⟨hsori, hflt⟩ := (s.sorWrite n v).sorEval_sori_flt n
  obtain ⟨hvalue, hwrite⟩ := s.sorWrite_value_flt n v
  exact ⟨by rw [State.sorus_congr hsori, hvalue], hflt.trans hwrite⟩

/-! ### The addition (R394) -/

/-- A sum that fits is stored, and nothing is recorded. -/
theorem State.sorAdd_of_fits {s : State} {n amount : Nat} (h : (s.sorus n).value.toNat + amount ≤ 2 ^ 64 - 1) :
    ((s.sorAdd n amount).sorus n).value.toNat = (s.sorus n).value.toNat + amount ∧ (s.sorAdd n amount).flt = s.flt := by
  unfold State.sorAdd
  dsimp only
  rw [if_neg (by omega), Nat.min_eq_left h]
  obtain ⟨hvalue, hflt⟩ := s.sorEval_sorWrite n (BitVec.ofNat 64 ((s.sorus n).value.toNat + amount))
  exact ⟨by rw [hvalue, BitVec.toNat_ofNat, Nat.mod_eq_of_lt (by omega)], hflt⟩

/-- A sum that does not fit leaves VALUE at its bound and, in the fault unit, the sorus-saturated record alone. -/
theorem State.sorAdd_of_exceeds {s : State} {n amount : Nat} (h : 2 ^ 64 - 1 < (s.sorus n).value.toNat + amount) :
    ((s.sorAdd n amount).sorus n).value.toNat = 2 ^ 64 - 1 ∧
      (s.sorAdd n amount).flt = (s.raise (recNote 0x0A07 (sorLoc n))).flt := by
  unfold State.sorAdd
  dsimp only
  rw [if_pos (by omega), Nat.min_eq_right h.le]
  obtain ⟨hvalue, hflt⟩ := ((s.raise (recNote 0x0A07 (sorLoc n))).radd Fd.SOR_ERR_STAT_SATURATED 1).sorEval_sorWrite n
    (BitVec.ofNat 64 (2 ^ 64 - 1))
  exact ⟨by rw [hvalue]; rfl, by rw [hflt, State.radd_flt]⟩

/-- Settles O54: by whether the sum fits in 64 bits. -/
theorem signalSaturates : Obligations.SignalSaturates := by
  unfold Obligations.SignalSaturates
  intro s n amount sum u
  refine ⟨State.sorAdd_of_fits, fun h => ?_, ?_⟩
  · obtain ⟨hvalue, hflt⟩ := State.sorAdd_of_exceeds h
    refine ⟨hvalue, hflt ▸ (s.raise_same _).fences, fun hstage => ?_⟩
    unfold State.HasRecord
    rw [hflt]
    exact s.raise_hasRecord _ hstage rfl
  · rcases Nat.lt_or_ge (2 ^ 64 - 1) sum with h | h
    · exact (Nat.le_sub_one_of_lt (s.sorus n).value.isLt).trans (State.sorAdd_of_exceeds h).left.ge
    · exact (Nat.le_add_right _ amount).trans (State.sorAdd_of_fits h).left.ge

end Sys2Proof.Machine
end

section
/-!
PROOFS. What every step keeps (`State.Keeps`): the registers, the memories and translation.
-/

namespace Sys2Proof.Machine
open State

set_option Elab.async false

/-- What a step may look at of the queue, the part, the clock, the mark of a wait, the registers and the memories: `t` comes from `s` by work
that leaves the first three alone, keeps the canonical form, and, where it is calm, sets no mark. -/
structure State.Keeps (s : State) (calm : Bool) (t : State) : Prop where
  part : t.part = s.part
  clock : t.clock = s.clock
  pending : t.pending = s.pending
  waited : calm = true → s.waited = false → t.waited = false
  canonical : s.Canonical → t.Canonical

/-- The pieces of the state that `State.Keeps` speaks of. -/
def State.core (s : State) : (Part × Nat × List Instr × Bool) × Sp W64 × List (List Host.Cell) :=
  ((s.part, s.clock, s.pending, s.waited), s.regs, [s.mem.dram, s.mem.thl, s.mem.ls, s.mem.host])

section
variable {c : Bool} {s₀ s t : State}

theorem State.Keeps.refl (s : State) : s.Keeps c s := ⟨rfl, rfl, rfl, fun _ h => h, id⟩

theorem State.Keeps.trans {u : State} (h : s₀.Keeps c s) (k : s.Keeps c u) : s₀.Keeps c u :=
  ⟨k.part.trans h.part, k.clock.trans h.clock, k.pending.trans h.pending, fun hc hw => k.waited hc (h.waited hc hw), k.canonical ∘ h.canonical⟩

/-- Work on the pieces outside the core. -/
theorem State.Keeps.congr (h : s₀.Keeps c s) (e : t.core = s.core) : s₀.Keeps c t := by
  simp only [State.core, Prod.mk.injEq, List.cons.injEq] at e
  obtain ⟨⟨hp, hk, hq, hw⟩, hr, hd, ht, hl, hh, -⟩ := e
  refine ⟨hp.trans h.part, hk.trans h.clock, hq.trans h.pending, fun hc k => hw.trans (h.waited hc k), fun k => ?_⟩
  have hs := h.canonical k
  unfold State.Canonical at hs ⊢
  rwa [hp, hr, hd, ht, hl, hh]

theorem State.Keeps.of_eq {α : Type} {p : State × α} {x : α} (h : s₀.Keeps c p.1) (e : p = (t, x)) : s₀.Keeps c t := by
  rw [e] at h; exact h

theorem State.Keeps.of_eq_snd {α : Type} {p : α × State} {x : α} (h : s₀.Keeps c p.2) (e : p = (x, t)) : s₀.Keeps c t := by
  rw [e] at h; exact h

theorem State.Keeps.foldl {α : Type} {g : State → α → State} {l : List α} (h : s₀.Keeps c s)
    (hg : ∀ u x, s₀.Keeps c u → s₀.Keeps c (g u x)) : s₀.Keeps c (l.foldl g s) := foldl_keeps _ hg _ h

theorem State.Keeps.foldl_fst {α β : Type} {g : State × β → α → State × β} {p : State × β} {l : List α} (h : s₀.Keeps c p.1)
    (hg : ∀ q x, s₀.Keeps c q.1 → s₀.Keeps c (g q x).1) : s₀.Keeps c (l.foldl g p).1 :=
  foldl_keeps (p := fun q : State × β => s₀.Keeps c q.1) g hg _ h

/-- A command one of whose accesses is held leaves no mark: it leaves the state, but for the fills. -/
theorem State.Keeps.attempt {act : State → State} (h : s₀.Keeps c s) (k : s.Keeps false s → s.Keeps false (act s)) : s₀.Keeps c (s.attempt act) := by
  unfold State.attempt
  dsimp only
  split
  · exact h.congr rfl
  · next hw =>
    have k := k (.refl s)
    exact h.trans ⟨k.part, k.clock, k.pending, fun _ _ => by simpa using hw, k.canonical⟩

/-! ### The updates of a state -/

/-- Work on the units alone: each is what it is, or another. -/
theorem State.Keeps.units {free' frd' thl' msc' pil' pnw' hpt' rng' ses' sor' fab' sec' pwr' thm' boot' fwu' con' ldg' flt'} (h : s₀.Keeps c s) :
    s₀.Keeps c { s with free := free', frd := frd', thl := thl', msc := msc', pil := pil', pnw := pnw', hpt := hpt', rng := rng', ses := ses', sor := sor', fab := fab', sec := sec', pwr := pwr', thm := thm', boot := boot', fwu := fwu', con := con', ldg := ldg', flt := flt' } := h.congr rfl

/-- Work on the units, and on what stands beside the bytes of the memories. -/
theorem State.Keeps.side {m free' frd' thl' msc' pil' pnw' hpt' rng' ses' sor' fab' sec' pwr' thm' boot' fwu' con' ldg' flt'} (h : s₀.Keeps c s)
    (e : (m.dram, m.thl, m.ls, m.host) = (s.mem.dram, s.mem.thl, s.mem.ls, s.mem.host) := by rfl) :
    s₀.Keeps c { s with mem := m, free := free', frd := frd', thl := thl', msc := msc', pil := pil', pnw := pnw', hpt := hpt', rng := rng', ses := ses', sor := sor', fab := fab', sec := sec', pwr := pwr', thm := thm', boot := boot', fwu := fwu', con := con', ldg := ldg', flt := flt' } := by
  simp only [Prod.mk.injEq] at e
  obtain ⟨hd, ht, hl, hh⟩ := e
  exact h.congr (by simp only [State.core, hd, ht, hl, hh])

/-- Work that keeps the form of the registers and of each memory. -/
theorem State.Keeps.stored {r m free' frd' thl' msc' pil' pnw' hpt' rng' ses' sor' fab' sec' pwr' thm' boot' fwu' con' ldg' flt'} (h : s₀.Keeps c s)
    (hm : (spWf (resetWord s.part.dramGib) 0 s.regs = true → spWf (resetWord s.part.dramGib) 0 r = true) ∧
      (memWf s.mem.dram → memWf m.dram) ∧ (memWf s.mem.thl → memWf m.thl) ∧ (memWf s.mem.ls → memWf m.ls) ∧ (memWf s.mem.host → memWf m.host)) :
    s₀.Keeps c { s with regs := r, mem := m, free := free', frd := frd', thl := thl', msc := msc', pil := pil', pnw := pnw', hpt := hpt', rng := rng', ses := ses', sor := sor', fab := fab', sec := sec', pwr := pwr', thm := thm', boot := boot', fwu := fwu', con := con', ldg := ldg', flt := flt' } := by
  obtain ⟨kr, kd, kt, kl, kh⟩ := hm
  exact h.trans ⟨rfl, rfl, rfl, fun _ k => k, fun ⟨r, d, t, l, o⟩ => ⟨kr r, kd d, kt t, kl l, kh o⟩⟩

theorem State.Keeps.setRword {off v} (h : s₀.Keeps c s) : s₀.Keeps c (s.setRword off v) :=
  h.stored ⟨fun k => spWf_spPut _ _ k (Nat.zero_le off), id, id, id, id⟩

theorem State.Keeps.setWaited (h : s₀.Keeps false s) : s₀.Keeps false s.setWaited :=
  ⟨h.part, h.clock, h.pending, nofun, h.canonical⟩

theorem State.Keeps.after {o : Out} (k : ∃ t, o = .next t ∧ s₀.Keeps c t) : s₀.Keeps c (Sys2Proof.Machine.after o s) := by
  obtain ⟨t, rfl, k⟩ := k
  exact k

theorem State.Keeps.rset {f v} (h : s₀.Keeps c s) : s₀.Keeps c (s.rset f v) :=
  h.setRword

theorem State.Keeps.radd {f k'} (h : s₀.Keeps c s) : s₀.Keeps c (s.radd f k') :=
  h.rset

theorem State.Keeps.rbit {f i b} (h : s₀.Keeps c s) : s₀.Keeps c (s.rbit f i b) :=
  h.rset

theorem State.Keeps.fresh (h : s₀.Keeps c s) : s₀.Keeps c (s.fresh).2 :=
  h.units

theorem State.Keeps.keepFills {t'} (h : s₀.Keeps c s) : s₀.Keeps c (s.keepFills t') :=
  h.units

theorem State.Keeps.setArr {f a v} (h : s₀.Keeps c s) : s₀.Keeps c (s.setArr f a v) :=
  h.units

theorem State.Keeps.modArr {f a g} (h : s₀.Keeps c s) : s₀.Keeps c (s.modArr f a g) :=
  h.setArr

theorem State.Keeps.setFr {f v} (h : s₀.Keeps c s) : s₀.Keeps c (s.setFr f v) :=
  h.units

theorem State.Keeps.modFr {f g} (h : s₀.Keeps c s) : s₀.Keeps c (s.modFr f g) :=
  h.setFr

theorem State.Keeps.setDma {f c' v} (h : s₀.Keeps c s) : s₀.Keeps c (s.setDma f c' v) :=
  h.units

theorem State.Keeps.setKrn {f k' v} (h : s₀.Keeps c s) : s₀.Keeps c (s.setKrn f k' v) :=
  h.units

theorem State.Keeps.setGrp {f g v} (h : s₀.Keeps c s) : s₀.Keeps c (s.setGrp f g v) :=
  h.units

theorem State.Keeps.setThr {f g t' v} (h : s₀.Keeps c s) : s₀.Keeps c (s.setThr f g t' v) :=
  h.units

theorem State.Keeps.modThr {f g t' h'} (h : s₀.Keeps c s) : s₀.Keeps c (s.modThr f g t' h') :=
  h.setThr

theorem State.Keeps.setPred {f g t' v} (h : s₀.Keeps c s) : s₀.Keeps c (s.setPred f g t' v) :=
  h.units

theorem State.Keeps.setRing {r v} (h : s₀.Keeps c s) : s₀.Keeps c (s.setRing r v) :=
  h.units

theorem State.Keeps.modRing {r g} (h : s₀.Keeps c s) : s₀.Keeps c (s.modRing r g) :=
  h.setRing

theorem State.Keeps.injDone (h : s₀.Keeps c s) : s₀.Keeps c (s.injDone) := by
  unfold State.injDone
  split
  · exact h
  · exact h.rset.rset

theorem State.Keeps.injTransfer {l} (h : s₀.Keeps c s) : s₀.Keeps c (s.injTransfer l) := by
  unfold State.injTransfer
  split
  · exact h.injDone
  · exact h

theorem State.Keeps.noteInj {c' k'} (h : s₀.Keeps c s) : s₀.Keeps c (s.noteInj c' k') := by
  unfold State.noteInj
  split
  · exact h
  · exact h.side

theorem State.Keeps.keepInj {b c' k'} (h : s₀.Keeps c s) : s₀.Keeps c (s.keepInj b c' k') := by
  unfold State.keepInj
  split
  · exact h.noteInj
  · exact h

theorem State.Keeps.dropInj {c' k'} (h : s₀.Keeps c s) : s₀.Keeps c (s.dropInj c' k') :=
  h.side

theorem State.Keeps.clearInj {b c' k'} (h : s₀.Keeps c s) : s₀.Keeps c (s.clearInj b c' k') := by
  unfold State.clearInj
  split
  · exact h.dropInj
  · exact h

theorem State.Keeps.setGreg {f g t' n v} (h : s₀.Keeps c s) : s₀.Keeps c (s.setGreg f g t' n v) := by
  unfold State.setGreg
  dsimp only
  split
  · exact h.units.dropInj.units.noteInj.injDone
  · exact h.units.dropInj

theorem State.Keeps.countHostFail {why} (h : s₀.Keeps c s) : s₀.Keeps c (s.countHostFail why) := by
  unfold State.countHostFail
  split
  · exact h.radd
  · exact h

theorem State.Keeps.atsFill {addr len} (h : s₀.Keeps c s) : s₀.Keeps c (s.atsFill addr len) :=
  h.units

theorem State.Keeps.hostStore {addr bytes} (h : s₀.Keeps c s) : s₀.Keeps c (s.hostStore addr bytes) :=
  h.stored (by exact ⟨id, id, id, id, fun k => memWf_memPutN k _ _⟩)

theorem State.Keeps.hostWrite {addr bytes} (h : s₀.Keeps c s) : s₀.Keeps c (s.hostWrite addr bytes).1 := by
  unfold State.hostWrite
  split
  · exact h.countHostFail
  · exact h.atsFill.hostStore

theorem State.Keeps.msi {v} (h : s₀.Keeps c s) : s₀.Keeps c (s.msi v) := by
  unfold State.msi
  split <;> exact h.units

theorem State.Keeps.capBump (h : s₀.Keeps c s) : s₀.Keeps c (s.capBump) := by
  unfold State.capBump
  dsimp only
  split
  · exact h.units.msi
  · exact h.units

theorem State.Keeps.distBump (h : s₀.Keeps c s) : s₀.Keeps c (s.distBump) := by
  unfold State.distBump
  dsimp only
  refine .capBump ?_
  split
  · exact h.units.msi
  · exact h.units

theorem State.Keeps.commitFor {ws who} (h : s₀.Keeps c s) : s₀.Keeps c (s.commitFor ws who) :=
  h.units

theorem State.Keeps.commit {ws} (h : s₀.Keeps c s) : s₀.Keeps c (s.commit ws) :=
  h.commitFor

theorem State.Keeps.retainNow {r} (h : s₀.Keeps c s) : s₀.Keeps c (s.retainNow r) := by
  unfold State.retainNow
  dsimp only
  split
  · split
    · exact h.radd
    · exact h.units
  · split
    · exact h.radd
    · exact h.units

theorem State.Keeps.retain {r} (h : s₀.Keeps c s) : s₀.Keeps c (s.retain r) := by
  unfold State.retain
  split
  · exact h.retainNow
  · exact h

theorem State.Keeps.fltIrq (h : s₀.Keeps c s) : s₀.Keeps c (s.fltIrq) := by
  unfold State.fltIrq
  split
  · split
    · split
      · exact h.units.msi
      · exact h.units
    · exact h.units.msi
  · exact h

theorem State.Keeps.toRing {r} (h : s₀.Keeps c s) : s₀.Keeps c (s.toRing r) := by
  unfold State.toRing
  split
  · split
    · exact h
    · split
      · exact h.radd
      · dsimp only
        split
        · next e =>
            exact (h.hostWrite.of_eq e).radd
        · next e =>
            exact (h.hostWrite.of_eq e).fltIrq
  · exact h

theorem State.Keeps.deliver {r} (h : s₀.Keeps c s) : s₀.Keeps c (s.deliver r) := by
  unfold State.deliver
  dsimp only
  split
  · exact h.retain.toRing.rset
  · exact h.retain.toRing

theorem State.Keeps.raiseN {a n} (h : s₀.Keeps c s) : s₀.Keeps c (s.raiseN a n) := by
  unfold State.raiseN
  dsimp only
  split
  · split <;> exact h.units
  · split
    · exact h.units
    · split
      · split
        · exact h.units
        · exact h.units.deliver
      · split
        · exact h.units
        · exact h.units.deliver

theorem State.Keeps.raise {a} (h : s₀.Keeps c s) : s₀.Keeps c (s.raise a) :=
  h.raiseN

theorem State.Keeps.zeroReserve {kind inst loc} (h : s₀.Keeps c s) : s₀.Keeps c (s.zeroReserve kind inst loc) := by
  unfold State.zeroReserve
  dsimp only
  split
  · exact h.rbit
  · exact h.rbit.units.raise

theorem State.Keeps.noteTag {s0 tag} (h : s₀.Keeps c s) : s₀.Keeps c (s.noteTag s0 tag) := by
  unfold State.noteTag
  split
  · exact h
  · exact h.units

theorem State.Keeps.addFence {u} (h : s₀.Keeps c s) : s₀.Keeps c (s.addFence u) := by
  unfold State.addFence
  split
  · exact h
  · exact h.units

theorem State.Keeps.dropFence {u} (h : s₀.Keeps c s) : s₀.Keeps c (s.dropFence u) :=
  h.units

theorem State.Keeps.dmaResume {r i} (h : s₀.Keeps c s) : s₀.Keeps c (s.dmaResume r i) := by
  unfold State.dmaResume
  refine h.foldl (fun _ _ k => k.foldl (fun _ _ k1 => ?_))
  split
  · split
    · exact k1.setDma.rset
    · exact k1
  · exact k1

theorem State.Keeps.complete {r i status reason result} (h : s₀.Keeps c s) : s₀.Keeps c (s.complete r i status reason result) := by
  unfold State.complete
  split
  · exact h
  · dsimp only
    split
    · exact h.modRing.dmaResume
    · split
      · exact h.modRing.radd.radd
      · exact h.modRing.radd

theorem State.Keeps.markRan {r i} (h : s₀.Keeps c s) : s₀.Keeps c (s.markRan r i) :=
  h.modRing

theorem State.Keeps.launchDone {r i f ok reason} (h : s₀.Keeps c s) : s₀.Keeps c (s.launchDone r i f ok reason) := by
  unfold State.launchDone
  split
  · exact h
  · dsimp only
    split
    · exact h.modRing.complete
    · exact h.modRing

theorem State.Keeps.setStep {h' v} (h : s₀.Keeps c s) : s₀.Keeps c (s.setStep h' v) :=
  h.units

theorem State.Keeps.stepKernelDone {h' e' f ok reason} (h : s₀.Keeps c s) : s₀.Keeps c (s.stepKernelDone h' e' f ok reason) := by
  unfold State.stepKernelDone
  split
  · exact h
  · exact h.setStep

theorem State.Keeps.kernelDone {who f ok reason} (h : s₀.Keeps c s) : s₀.Keeps c (s.kernelDone who f ok reason) := by
  unfold State.kernelDone
  split
  · exact h.launchDone
  · exact h.stepKernelDone

theorem State.Keeps.failLaunches {f reason l} (h : s₀.Keeps c s) : s₀.Keeps c (s.failLaunches f reason l) :=
  h.foldl (fun _ _ k => k.kernelDone)

theorem State.Keeps.markAbort {f k' reason} (h : s₀.Keeps c s) : s₀.Keeps c (s.markAbort f k' reason) := by
  unfold State.markAbort
  split
  · exact h
  · split
    · exact h
    · exact h.setKrn.addFence

theorem State.Keeps.faultKernelI {f k' reason loc inj} (h : s₀.Keeps c s) : s₀.Keeps c (s.faultKernelI f k' reason loc inj) := by
  unfold State.faultKernelI
  split
  · exact h.raise
  · exact h.raise.markAbort

theorem State.Keeps.faultAgentI {a reason loc inj} (h : s₀.Keeps c s) : s₀.Keeps c (s.faultAgentI a reason loc inj) := by
  unfold State.faultAgentI
  split
  · exact h.faultKernelI
  · exact h.raise
  · exact h.raise

theorem State.Keeps.faultKernel {f k' reason loc} (h : s₀.Keeps c s) : s₀.Keeps c (s.faultKernel f k' reason loc) :=
  h.faultKernelI

theorem State.Keeps.faultAgent {a reason loc} (h : s₀.Keeps c s) : s₀.Keeps c (s.faultAgent a reason loc) :=
  h.faultAgentI

theorem State.Keeps.trapI {f g t' reason arg loc inj} (h : s₀.Keeps c s) : s₀.Keeps c (s.trapI f g t' reason arg loc inj) := by
  unfold State.trapI
  split
  · exact h
  · split
    · exact h
    · split
      · exact h.radd
      · dsimp only
        refine .markAbort ?_
        split
        · exact h.raise
        · exact h.raise.rset.rset.rset.rset.rset.rset.rset.rset.rset

theorem State.Keeps.trap {f g t' reason arg loc} (h : s₀.Keeps c s) : s₀.Keeps c (s.trap f g t' reason arg loc) :=
  h.trapI

theorem State.Keeps.abortAll {f reason} (h : s₀.Keeps c s) : s₀.Keeps c (s.abortAll f reason) :=
  h.foldl (fun _ _ k1 => k1.markAbort)

theorem State.Keeps.dropQueued {f} (h : s₀.Keeps c s) : s₀.Keeps c (s.dropQueued f) :=
  h.modFr.failLaunches

theorem State.Keeps.dropHeld {f} (h : s₀.Keeps c s) : s₀.Keeps c (s.dropHeld f) :=
  h.modFr.foldl (fun _ _ k => k.faultAgent)

theorem State.Keeps.clearPace {f} (h : s₀.Keeps c s) : s₀.Keeps c (s.clearPace f) :=
  h.rset.rset.rset.rset

theorem State.Keeps.beginDrain {f} (h : s₀.Keeps c s) : s₀.Keeps c (s.beginDrain f) := by
  unfold State.beginDrain
  split
  · exact h.modFr
  · exact h.modFr.dropQueued.dropHeld

theorem State.Keeps.defer {u} (h : s₀.Keeps c s) : s₀.Keeps c (s.defer u) := by
  unfold State.defer
  split
  · exact h
  · exact h.units

theorem State.Keeps.fenceEngineNow {u} (h : s₀.Keeps c s) : s₀.Keeps c (s.fenceEngineNow u) :=
  h.addFence.capBump

theorem State.Keeps.fenceEngine {reason loc u wid degr ctx} (h : s₀.Keeps c s) : s₀.Keeps c (s.fenceEngine reason loc u wid degr ctx) := by
  unfold State.fenceEngine
  dsimp only
  split
  · exact h.raise.defer
  · exact h.raise.fenceEngineNow

theorem State.Keeps.refence {u} (h : s₀.Keeps c s) : s₀.Keeps c (s.refence u) := by
  unfold State.refence
  split
  · exact h.units
  · exact h

theorem State.Keeps.fenceFrondNow {f} (h : s₀.Keeps c s) : s₀.Keeps c (s.fenceFrondNow f) :=
  h.addFence.abortAll.clearPace.modFr.beginDrain.distBump

theorem State.Keeps.fenceFrond {f reason loc wid} (h : s₀.Keeps c s) : s₀.Keeps c (s.fenceFrond f reason loc wid) := by
  unfold State.fenceFrond
  dsimp only
  split
  · exact h.raise.refence
  · split
    · exact h.raise.defer
    · exact h.raise.fenceFrondNow

theorem State.Keeps.markLost (h : s₀.Keeps c s) : s₀.Keeps c (s.markLost) := by
  unfold State.markLost
  dsimp only
  refine h.foldl (fun _ _ k => ?_)
  split
  · exact k.rset
  · exact k

theorem State.Keeps.networkOff {t'} (h : s₀.Keeps c s) : s₀.Keeps c (s.networkOff t') :=
  h.units

theorem State.Keeps.fenceTowerNow {t' reason} (h : s₀.Keeps c s) : s₀.Keeps c (s.fenceTowerNow t' reason) :=
  ((h.networkOff.addFence.rset.rset.foldl (fun _ _ k => k.abortAll.clearPace.modFr.dropQueued.dropHeld)).markLost).distBump

theorem State.Keeps.fenceTower {t' reason loc wid} (h : s₀.Keeps c s) : s₀.Keeps c (s.fenceTower t' reason loc wid) := by
  unfold State.fenceTower
  dsimp only
  split
  · exact h.raise.refence
  · split
    · exact h.raise.rset.defer
    · exact h.raise.fenceTowerNow

theorem State.Keeps.fencePileNow {p'} (h : s₀.Keeps c s) : s₀.Keeps c (s.fencePileNow p') :=
  (((h.foldl (fun _ _ k => k.addFence)).rset).markLost).distBump

theorem State.Keeps.fencePile {p' reason loc wid} (h : s₀.Keeps c s) : s₀.Keeps c (s.fencePile p' reason loc wid) := by
  unfold State.fencePile
  dsimp only
  split
  · exact h.raise
  · split
    · exact h.raise.defer
    · exact h.raise.fencePileNow

theorem State.Keeps.fencesDue (h : s₀.Keeps c s) : s₀.Keeps c (s.fencesDue) := by
  unfold State.fencesDue
  dsimp only
  refine h.units.foldl (fun _ _ k => ?_)
  split
  · split
    · exact k
    · exact k.fenceFrondNow
  · split
    · exact k
    · exact k.fenceTowerNow
  · split
    · exact k.fencePileNow
    · exact k.fenceEngineNow
  · exact k

theorem State.Keeps.fenceChannelNow {c'} (h : s₀.Keeps c s) : s₀.Keeps c (s.fenceChannelNow c') :=
  h.addFence.rbit.markLost.distBump

theorem State.Keeps.fenceChannel {c' reason loc wid} (h : s₀.Keeps c s) : s₀.Keeps c (s.fenceChannel c' reason loc wid) :=
  h.raise.fenceChannelNow

theorem State.Keeps.moduleFence {reason loc wid} (h : s₀.Keeps c s) : s₀.Keeps c (s.moduleFence reason loc wid) :=
  h.raise.addFence.foldl (fun _ _ k => k.rset.foldl (fun _ _ k1 => k1.abortAll.dropQueued))

theorem State.Keeps.setWay {sl set way v} (h : s₀.Keeps c s) : s₀.Keeps c (s.setWay sl set way v) :=
  h.units

theorem State.Keeps.modWay {sl set way g} (h : s₀.Keeps c s) : s₀.Keeps c (s.modWay sl set way g) :=
  h.setWay

theorem State.Keeps.lsPutWord {k bytes} (h : s₀.Keeps c s) : s₀.Keeps c (s.lsPutWord k bytes) := by
  have h1 : s₀.Keeps c (State.dropInj { s with mem.ls := memPutN s.mem.ls k bytes, mem.lsBad := spDel s.mem.lsBad (k / 4) } 0 (k / 4)) :=
    .dropInj (.stored h (by exact ⟨id, id, id, fun w => memWf_memPutN w _ _, id⟩))
  unfold State.lsPutWord
  dsimp only
  split
  · exact h1.side.noteInj.injDone
  · exact h1

theorem State.Keeps.lsPoke {f o bytes} (h : s₀.Keeps c s) : s₀.Keeps c (s.lsPoke f o bytes).1 := by
  unfold State.lsPoke
  refine h.foldl_fst (fun _ _ k => ?_)
  split
  · exact k
  · exact k.lsPutWord

theorem State.Keeps.aliasPoke {f o win bytes} (h : s₀.Keeps c s) : s₀.Keeps c (s.aliasPoke f o win bytes).1 := by
  unfold State.aliasPoke
  split
  · split
    · exact h
    · exact h.lsPoke
  · exact h

theorem State.Keeps.thlCorrected {o inj} (h : s₀.Keeps c s) : s₀.Keeps c (s.thlCorrected o inj) := by
  unfold State.thlCorrected
  split
  · exact h
  · exact h.units

theorem State.Keeps.bgUse {key} (h : s₀.Keeps c s) : s₀.Keeps c (s.bgUse key) :=
  h.units

theorem State.Keeps.thlUse {o} (h : s₀.Keeps c s) : s₀.Keeps c (s.thlUse o) :=
  h.bgUse

theorem State.Keeps.thlTouch1 {o} (h : s₀.Keeps c s) : s₀.Keeps c (s.thlTouch1 o) := by
  unfold State.thlTouch1
  split
  · exact h
  · split
    · exact h
    · exact (((h.stored (by exact ⟨id, id, fun k => memWf_memPut k _ _, id, id⟩)).dropInj).radd).thlCorrected
    · exact h.radd

theorem State.Keeps.thlTouch {o len} (h : s₀.Keeps c s) : s₀.Keeps c (s.thlTouch o len) :=
  h.thlUse.foldl (fun _ _ k => k.thlTouch1)

theorem State.Keeps.thlPoke1 {o b} (h : s₀.Keeps c s) : s₀.Keeps c (s.thlPoke1 o b) := by
  have h1 : s₀.Keeps c (State.dropInj { s with mem.thl := memPut s.mem.thl o b, mem.thlBad := spDel s.mem.thlBad o } 1 o) :=
    .dropInj (.stored h (by exact ⟨id, id, fun w => memWf_memPut w _ _, id, id⟩))
  unfold State.thlPoke1
  dsimp only
  split
  · exact h1.side.noteInj.injDone
  · exact h1

theorem State.Keeps.thlPokes {o n} (h : s₀.Keeps c s) : s₀.Keeps c (s.thlPokes o n) := by
  induction n generalizing s o with
  | nil =>
    rw [State.thlPokes]
    exact h
  | cons x l ih =>
    rw [State.thlPokes]
    exact ih h.thlPoke1

theorem State.Keeps.thlPoke {o bytes} (h : s₀.Keeps c s) : s₀.Keeps c (s.thlPoke o bytes) :=
  h.thlUse.thlPokes

theorem State.Keeps.rowIsDue {ch a} (h : s₀.Keeps c s) : s₀.Keeps c (s.rowIsDue ch a) := by
  unfold State.rowIsDue
  split
  · exact h
  · exact h.units

theorem State.Keeps.rowCorrected {ch a} (h : s₀.Keeps c s) : s₀.Keeps c (s.rowCorrected ch a) := by
  unfold State.rowCorrected
  dsimp only
  split
  · exact h.units.rowIsDue
  · exact h.units

theorem State.Keeps.chanTouch {ch a} (h : s₀.Keeps c s) : s₀.Keeps c (s.chanTouch ch a) := by
  unfold State.chanTouch
  dsimp only
  split
  · exact h
  · split
    · exact h
    · split
      · exact h.side.dropInj.radd
      · exact h.side.dropInj.radd.rowCorrected
    · split
      · exact h.radd
      · exact h.radd.rowIsDue

theorem State.Keeps.chanPutSector {ch a data poison} (h : s₀.Keeps c s) : s₀.Keeps c (s.chanPutSector ch a data poison) := by
  have h1 : s₀.Keeps c (State.dropInj { s with mem.dram := memPutN s.mem.dram (dramKey ch (alignDown a 32)) data, mem.dramBad := spDel s.mem.dramBad (sectorKey ch a), mem.dramMeta := spPut (fun _ => 0) s.mem.dramMeta (sectorKey ch a) (poisonMeta poison) } 2 (sectorKey ch a)) :=
    .dropInj (.stored h (by exact ⟨id, fun w => memWf_memPutN w _ _, id, id, id⟩))
  unfold State.chanPutSector
  dsimp only
  split
  · exact h1.side.noteInj.injDone
  · exact h1

theorem State.Keeps.chanMerge {ch a bytes} (h : s₀.Keeps c s) : s₀.Keeps c (s.chanMerge ch a bytes) := by
  unfold State.chanMerge
  dsimp only
  split
  · exact h.chanTouch.chanPutSector.keepInj
  · split
    · exact h.chanTouch.chanPutSector.keepInj.raise
    · exact h.chanTouch.chanPutSector

theorem State.Keeps.plruUse {sl set way} (h : s₀.Keeps c s) : s₀.Keeps c (s.plruUse sl set way) :=
  h.units

theorem State.Keeps.writeBack {sl set way} (h : s₀.Keeps c s) : s₀.Keeps c (s.writeBack sl set way) := by
  unfold State.writeBack
  dsimp only
  split
  · exact h
  · refine h.foldl (fun _ _ k => ?_)
    split
    · exact k.chanPutSector.keepInj
    · exact k

theorem State.Keeps.forgetLine {l} (h : s₀.Keeps c s) : s₀.Keeps c (s.forgetLine l) :=
  h.foldl (fun _ _ k => k.dropInj)

theorem State.Keeps.evict {sl set way} (h : s₀.Keeps c s) : s₀.Keeps c (s.evict sl set way) := by
  unfold State.evict
  dsimp only
  split
  · refine .forgetLine (.setWay ?_)
    split
    · exact h.writeBack.units
    · exact h.writeBack
  · exact h

theorem State.Keeps.setTagBad {k' v} (h : s₀.Keeps c s) : s₀.Keeps c (s.setTagBad k' v) :=
  h.units

theorem State.Keeps.tagInject {sl k' copy} (h : s₀.Keeps c s) : s₀.Keeps c (s.tagInject sl k' copy) := by
  unfold State.tagInject
  split
  · exact h.setTagBad.noteInj.injDone
  · exact h

theorem State.Keeps.allocLine {sl set tag} (h : s₀.Keeps c s) : s₀.Keeps c (s.allocLine sl set tag).1 := by
  unfold State.allocLine
  split
  · exact h.plruUse
  · split
    · exact h
    · exact h.evict.setWay.units.setTagBad.tagInject.tagInject.plruUse

theorem State.Keeps.fetchSector {sl set way i ch a} (h : s₀.Keeps c s) : s₀.Keeps c (s.fetchSector sl set way i ch a) := by
  unfold State.fetchSector
  dsimp only
  split
  · exact h
  · split
    · exact h.chanTouch
    · exact h.chanTouch.setWay

theorem State.Keeps.demandFill {pa} (h : s₀.Keeps c s) : s₀.Keeps c (s.demandFill pa) := by
  unfold State.demandFill
  split
  · exact h
  · split
    · dsimp only
      split
      · split
        · next e =>
            exact (h.units.allocLine.of_eq e).fetchSector
        · next e =>
            exact (h.units.allocLine.of_eq e).chanTouch
      · exact h.chanTouch

theorem State.Keeps.tagCheck {pa} (h : s₀.Keeps c s) : s₀.Keeps c (s.tagCheck pa) := by
  unfold State.tagCheck
  split
  · exact h
  · dsimp only
    split
    · exact h
    · split
      · exact h.units
      · exact h.units.raise.fenceChannelNow

theorem State.Keeps.sectorFix {sl set way i offs} (h : s₀.Keeps c s) : s₀.Keeps c (s.sectorFix sl set way i offs) := by
  unfold State.sectorFix
  refine h.foldl (fun _ _ k => ?_)
  dsimp only
  split
  · exact k.setWay.radd.thlCorrected
  · exact k

theorem State.Keeps.dramTouch {pa len} (h : s₀.Keeps c s) : s₀.Keeps c (s.dramTouch pa len) := by
  unfold State.dramTouch
  split
  · exact h
  · split
    · dsimp only
      split
      · split
        · split
          · split
            · exact h.bgUse.radd.setWay.radd.raise
            · exact h.bgUse.radd.setWay.radd.dropInj.fetchSector
          · exact h.bgUse.sectorFix.modWay.plruUse
        · exact h.bgUse.demandFill
      · exact h.demandFill

theorem State.Keeps.wayPoke {ch set w i off pa bytes} (h : s₀.Keeps c s) : s₀.Keeps c (s.wayPoke ch set w i off pa bytes) := by
  unfold State.wayPoke
  dsimp only
  split
  · exact h.clearInj.setWay.noteInj.injDone
  · exact h.clearInj.setWay

theorem State.Keeps.dramPoke {pa bytes} (h : s₀.Keeps c s) : s₀.Keeps c (s.dramPoke pa bytes) := by
  unfold State.dramPoke
  split
  · exact h
  · split
    · dsimp only
      split
      · split
        · exact h.chanPutSector
        · split
          · next e =>
              exact (h.allocLine.of_eq e).chanPutSector
          · next e =>
              exact (h.allocLine.of_eq e).wayPoke
      · exact h.chanMerge

theorem State.Keeps.bundleUse {f pa wr} (h : s₀.Keeps c s) : s₀.Keeps c (s.bundleUse f pa wr) := by
  unfold State.bundleUse
  split
  · split
    · exact h.foldl (fun _ _ k => k.injTransfer)
    · exact h
  · exact h

theorem State.Keeps.hostFault {why ctx} (h : s₀.Keeps c s) : s₀.Keeps c (s.hostFault why ctx) :=
  h.raise

theorem State.Keeps.lsWakeDusk {f} (h : s₀.Keeps c s) : s₀.Keeps c (s.lsWakeDusk f) := by
  unfold State.lsWakeDusk
  dsimp only
  split
  · exact h.modFr.rset
  · exact h.modFr

theorem State.Keeps.lsCount {f o len} (h : s₀.Keeps c s) : s₀.Keeps c (s.lsCount f o len) := by
  unfold State.lsCount
  dsimp only
  split
  · exact h
  · exact h.modFr

theorem State.Keeps.touchPiece {pa len} (h : s₀.Keeps c s) : s₀.Keeps c (s.touchPiece pa len) := by
  unfold State.touchPiece
  split
  · exact h
  · split
    · exact h.tagCheck.dramTouch
    · split
      · exact h.countHostFail
      · exact h.atsFill
    · exact h.thlTouch
    · exact h.lsWakeDusk.lsCount
    · exact h

theorem State.Keeps.touch {pa len} (h : s₀.Keeps c s) : s₀.Keeps c (s.touch pa len) :=
  h.foldl (fun _ _ k => k.touchPiece)

theorem State.Keeps.tagReads {pa len} (h : s₀.Keeps c s) : s₀.Keeps c (s.tagReads pa len) := by
  unfold State.tagReads
  refine h.foldl (fun _ _ k => ?_)
  split
  · exact k.tagCheck
  · exact k

theorem State.Keeps.read {pa len} (h : s₀.Keeps c s) : s₀.Keeps c (s.read pa len).1 :=
  h.tagReads.touch

theorem State.Keeps.pokePiece {pa bytes} (h : s₀.Keeps c s) : s₀.Keeps c (s.pokePiece pa bytes).1 := by
  unfold State.pokePiece
  split
  · exact h
  · split
    · dsimp only
      split
      · exact h.tagCheck
      · exact h.tagCheck.dramPoke
    · split
      · next e =>
          exact h.hostWrite.of_eq e
      · next e =>
          exact h.hostWrite.of_eq e
    · exact h.thlPoke
    · exact h.lsWakeDusk.lsPoke
    · exact h.lsWakeDusk.aliasPoke
    · exact h

theorem State.Keeps.write {pa bytes} (h : s₀.Keeps c s) : s₀.Keeps c (s.write pa bytes).1 := by
  unfold State.write
  split
  · exact h
  · refine h.foldl_fst (fun _ _ k => ?_)
    split
    · exact k
    · exact k.pokePiece

theorem State.Keeps.noteFills {pa len} (h : s₀.Keeps c s) : s₀.Keeps c (s.noteFills pa len) :=
  h.units

theorem State.Keeps.bankCheck {f bank} (h : s₀.Keeps c s) : s₀.Keeps c (s.bankCheck f bank) := by
  unfold State.bankCheck
  dsimp only
  split
  · exact h.modFr.fenceFrond
  · exact h.modFr

theorem State.Keeps.accFault {a e'} (h : s₀.Keeps c s) : s₀.Keeps c (s.accFault a e') := by
  unfold State.accFault
  dsimp only
  split
  · exact h.faultAgentI.bankCheck
  · exact h.faultAgentI

theorem State.Keeps.lockLine {pa v} (h : s₀.Keeps c s) : s₀.Keeps c (s.lockLine pa v) := by
  unfold State.lockLine
  split
  · exact h
  · split
    · exact h.modWay
    · exact h

theorem State.Keeps.reduceAt {op ty pa bytes} (h : s₀.Keeps c s) : s₀.Keeps c (s.reduceAt op ty pa bytes).1 := by
  unfold State.reduceAt
  split
  · next e =>
      exact h.read.of_eq e
  · next e =>
      split
      · next e1 =>
          exact ((h.read.of_eq e).write).of_eq e1
      · next e1 =>
          exact (((h.read.of_eq e).write).of_eq e1).foldl (fun _ _ k => k.lockLine)

theorem State.Keeps.atomicAt {op size pa v cmp} (h : s₀.Keeps c s) : s₀.Keeps c (s.atomicAt op size pa v cmp).1 := by
  unfold State.atomicAt
  split
  · next e =>
      exact h.read.of_eq e
  · next e =>
      split
      · next e1 =>
          exact ((h.read.of_eq e).write).of_eq e1
      · next e1 =>
          exact ((h.read.of_eq e).write).of_eq e1

theorem State.Keeps.tableTouch {a len} (h : s₀.Keeps false s) : s₀.Keeps false (s.tableTouch a len) := by
  unfold State.tableTouch
  split
  · exact h.noteFills.setWaited
  · exact h.touch

theorem State.Keeps.walkTouch {va n m j} (h : s₀.Keeps false s) : s₀.Keeps false (s.walkTouch va n m j) := by
  induction n generalizing s va m j with
  | zero =>
    rw [State.walkTouch]
    exact h
  | succ n ih =>
    rw [State.walkTouch]
    split
    · exact h.tableTouch
    · split
      · exact ih h.tableTouch
      · exact h.tableTouch

theorem State.Keeps.roomFor {α : Type} {cap} {l : List α} (h : s₀.Keeps c s) : s₀.Keeps c (s.roomFor cap l).1 := by
  unfold State.roomFor
  split
  · exact h
  · exact h.units

theorem State.Keeps.xlate {who asid tenant va need} (h : s₀.Keeps false s) : s₀.Keeps false (s.xlate who asid tenant va need).1 := by
  unfold State.xlate
  extract_lets f q cachedAsp asp s1 hit
  have h1 : s₀.Keeps false s1 := by
    unfold s1
    split
    · exact h.tableTouch
    · exact h
  clear_value s1 asp hit
  split
  · exact h
  · split
    · exact h1
    · exact h1
    · extract_lets s2 start found s3
      have h2 : s₀.Keeps false s2 := by
        unfold s2
        split
        · exact h1.modFr
        · exact h1
      have h3 := h2.walkTouch (va := va) (n := 4 - start.1) (m := start.1) (j := start.2)
      clear_value s2 start
      split
      · exact h2
      · split
        · exact h2
        · cases hit with
          | some e => dsimp only; split <;> exact h2
          | none =>
            dsimp only
            split
            · exact h2
            · clear_value found
              split
              · exact h3
              · split
                · split
                  all_goals
                    dsimp only
                    split
                    · exact .modFr (.foldl_fst h3.roomFor (fun _ _ k => k.roomFor))
                    · exact h3
                · split
                  all_goals
                    dsimp only
                    split
                    · exact .modFr (.foldl_fst h3.roomFor (fun _ _ k => k.roomFor))
                    · exact h3

end
end Sys2Proof.Machine
end

section
/-!
PROOFS. What every step keeps (`State.Keeps`): arrays, threads and their memory.
-/

namespace Sys2Proof.Machine
open State

set_option Elab.async false

section
variable {c : Bool} {s₀ s t : State}

theorem State.Keeps.captureXlate {f agent asid va e'} (h : s₀.Keeps c s) : s₀.Keeps c (s.captureXlate f agent asid va e') := by
  unfold State.captureXlate
  split
  · exact h
  · exact h.rset.rset.rset.rset.rset.rset

theorem State.Keeps.wiresOf {who pa wr} (h : s₀.Keeps c s) : s₀.Keeps c (s.wiresOf who pa wr) := by
  unfold State.wiresOf
  split
  · exact h.bundleUse
  · exact h

theorem State.Keeps.holdFor {who} (h : s₀.Keeps false s) : s₀.Keeps false (s.holdFor who) := by
  unfold State.holdFor
  split
  · exact h
  · exact h.setWaited

theorem State.Keeps.vreadPiece {who agent asid tenant va len} (h : s₀.Keeps false s) :
    s₀.Keeps false (s.vreadPiece who agent asid tenant va len).1 := by
  unfold State.vreadPiece
  split
  · next e =>
      split
      · exact (h.xlate.of_eq e).captureXlate
      · exact h.xlate.of_eq e
  · next e =>
      split
      · exact ((h.xlate.of_eq e).noteFills).holdFor
      · split
        · next e1 =>
            exact (((h.xlate.of_eq e).wiresOf).read).of_eq e1
        · next e1 =>
            exact (((h.xlate.of_eq e).wiresOf).read).of_eq e1

theorem State.Keeps.vread {who agent asid tenant va len} (h : s₀.Keeps false s) : s₀.Keeps false (s.vread who agent asid tenant va len).1 := by
  unfold State.vread
  refine h.foldl_fst (fun _ _ k => ?_)
  split
  · exact k
  · split
    · next e =>
        exact k.vreadPiece.of_eq e
    · next e =>
        exact k.vreadPiece.of_eq e

theorem State.Keeps.vwritePiece {who agent asid tenant va bytes} (h : s₀.Keeps false s) :
    s₀.Keeps false (s.vwritePiece who agent asid tenant va bytes).1 := by
  unfold State.vwritePiece
  split
  · next e =>
      split
      · exact (h.xlate.of_eq e).captureXlate
      · exact h.xlate.of_eq e
  · next e =>
      split
      · exact ((h.xlate.of_eq e).noteFills).holdFor
      · split
        · next e1 =>
            exact (((h.xlate.of_eq e).wiresOf).write).of_eq e1
        · next e1 =>
            exact (((h.xlate.of_eq e).wiresOf).write).of_eq e1

theorem State.Keeps.vwrite {who agent asid tenant va bytes} (h : s₀.Keeps false s) : s₀.Keeps false (s.vwrite who agent asid tenant va bytes).1 := by
  unfold State.vwrite
  refine h.foldl_fst (fun _ _ k => ?_)
  split
  · exact k
  · exact k.vwritePiece

theorem State.Keeps.vFault {a e'} (h : s₀.Keeps c s) : s₀.Keeps c (s.vFault a e') :=
  h.accFault

theorem State.Keeps.xlatInv {allAsid allVa asid lo hi} (h : s₀.Keeps c s) : s₀.Keeps c (s.xlatInv allAsid allVa asid lo hi) :=
  h.foldl (fun _ _ k => k.modFr)

theorem State.Keeps.arrFault {f a i kslot reason loc inj} (h : s₀.Keeps c s) : s₀.Keeps c (s.arrFault f a i kslot reason loc inj) :=
  h.modArr.faultKernelI.noteTag

theorem State.Keeps.arrVFault {s0 f a i kslot e'} (h : s₀.Keeps c s) (hs0 : s₀.Keeps c s0) : s₀.Keeps c (s.arrVFault s0 f a i kslot e') := by
  unfold State.arrVFault
  split
  · exact hs0.keepFills
  · exact h.modArr.vFault.noteTag

theorem State.Keeps.setCmd {f a i g} (h : s₀.Keeps c s) : s₀.Keeps c (s.setCmd f a i g) :=
  h.modArr

theorem State.Keeps.dropCmd {f a i} (h : s₀.Keeps c s) : s₀.Keeps c (s.dropCmd f a i) :=
  h.modArr

theorem State.Keeps.fmemPut {f a off bytes} (h : s₀.Keeps c s) : s₀.Keeps c (s.fmemPut f a off bytes) := by
  unfold State.fmemPut
  dsimp only
  split
  · exact h.setArr.modArr.noteInj.injDone
  · exact h.setArr

theorem State.Keeps.loadCb {f a} (h : s₀.Keeps false s) : s₀.Keeps false (s.loadCb f a) := by
  unfold State.loadCb
  dsimp only
  split
  · exact h
  · split
    · exact h.arrFault
    · split
      · exact h.arrFault
      · split
        · exact h
        · split
          · next e =>
              exact (h.vread.of_eq e).arrVFault h
          · next e =>
              exact (((h.vread.of_eq e).setArr).fmemPut).setCmd

theorem State.Keeps.execLoadCb {f a} (h : s₀.Keeps c s) : ∃ t, execLoadCb f a s = .next t ∧ s₀.Keeps c t :=
  ⟨_, rfl, h.attempt (fun k => k.loadCb)⟩

theorem State.Keeps.finishCmd {f a op} (h : s₀.Keeps c s) : s₀.Keeps c (s.finishCmd f a op) := by
  unfold State.finishCmd
  split
  · exact h.modArr
  · exact h

theorem State.Keeps.execLoadCbComplete {f a} (h : s₀.Keeps c s) : ∃ t, execLoadCbComplete f a s = .next t ∧ s₀.Keeps c t :=
  ⟨_, rfl, h.finishCmd⟩

theorem State.Keeps.readCol {f asid tenant d nStart kStart depth cb c'} (h : s₀.Keeps false s) :
    s₀.Keeps false (s.readCol f asid tenant d nStart kStart depth cb c').1 := by
  unfold State.readCol
  dsimp only
  split
  · exact h
  · split
    · next e =>
        exact h.vread.of_eq e
    · next e =>
        split
        · next e1 =>
            refine .of_eq ?_ e1
            split
            · exact (h.vread.of_eq e).vread
            · exact h.vread.of_eq e
        · next e1 =>
            split
            · next e2 =>
                refine .of_eq ?_ e2
                split
                · refine .vread (.of_eq ?_ e1)
                  split
                  · exact (h.vread.of_eq e).vread
                  · exact h.vread.of_eq e
                · refine .of_eq ?_ e1
                  split
                  · exact (h.vread.of_eq e).vread
                  · exact h.vread.of_eq e
            · next e2 =>
                refine .of_eq ?_ e2
                split
                · refine .vread (.of_eq ?_ e1)
                  split
                  · exact (h.vread.of_eq e).vread
                  · exact h.vread.of_eq e
                · refine .of_eq ?_ e1
                  split
                  · exact (h.vread.of_eq e).vread
                  · exact h.vread.of_eq e

theorem State.Keeps.readCols {f asid tenant d c' depth} (h : s₀.Keeps false s) : s₀.Keeps false (s.readCols f asid tenant d c' depth).1 := by
  unfold State.readCols
  refine h.foldl_fst (fun _ _ k => ?_)
  split
  · exact k
  · split
    · next e =>
        exact k.readCol.of_eq e
    · next e =>
        exact k.readCol.of_eq e

theorem State.Keeps.readTensor {f asid tenant va} (h : s₀.Keeps false s) : s₀.Keeps false (s.readTensor f asid tenant va).1 := by
  unfold State.readTensor
  split
  · next e =>
      exact h.vread.of_eq e
  · next e =>
      exact h.vread.of_eq e

theorem State.Keeps.loadStat {f a} (h : s₀.Keeps false s) : s₀.Keeps false (s.loadStat f a) := by
  unfold State.loadStat
  dsimp only
  split
  · exact h
  · split
    · exact h.arrFault
    · split
      · exact h
      · split
        · next e =>
            exact (h.readTensor.of_eq e).arrVFault h
        · next e =>
            split
            · exact (h.readTensor.of_eq e).arrFault
            · split
              · split
                · exact (h.readTensor.of_eq e).arrFault
                · split
                  · exact (h.readTensor.of_eq e).arrFault
                  · split
                    · next e1 =>
                        exact (((h.readTensor.of_eq e).readCols).of_eq e1).arrVFault h
                    · next e1 =>
                        split
                        · exact (((h.readTensor.of_eq e).readCols).of_eq e1).arrFault
                        · split
                          · exact ((((h.readTensor.of_eq e).readCols).of_eq e1).modArr).arrFault
                          · exact ((((h.readTensor.of_eq e).readCols).of_eq e1).modArr).setCmd
              · split
                · exact (h.readTensor.of_eq e).arrFault
                · split
                  · exact (h.readTensor.of_eq e).arrFault
                  · split
                    · next e1 =>
                        exact (((h.readTensor.of_eq e).readCols).of_eq e1).arrVFault h
                    · next e1 =>
                        split
                        · exact (((h.readTensor.of_eq e).readCols).of_eq e1).arrFault
                        · split
                          · exact ((((h.readTensor.of_eq e).readCols).of_eq e1).modArr).arrFault
                          · exact ((((h.readTensor.of_eq e).readCols).of_eq e1).modArr).setCmd

theorem State.Keeps.execLoadStat {f a} (h : s₀.Keeps c s) : ∃ t, execLoadStat f a s = .next t ∧ s₀.Keeps c t :=
  ⟨_, rfl, h.attempt (fun k => k.loadStat)⟩

theorem State.Keeps.execShadowLoadComplete {f a} (h : s₀.Keeps c s) : ∃ t, execShadowLoadComplete f a s = .next t ∧ s₀.Keeps c t := by
  refine ⟨_, rfl, ?_⟩
  split
  · exact h.finishCmd.modArr
  · exact h

theorem State.Keeps.plainBlock {f asid tenant d i k'} (h : s₀.Keeps false s) : s₀.Keeps false (s.plainBlock f asid tenant d i k').1 := by
  unfold State.plainBlock
  split
  · exact h
  · dsimp only
    split
    · next e =>
        exact h.vread.of_eq e
    · next e =>
        split
        · next e1 =>
            refine .of_eq ?_ e1
            split
            · exact (h.vread.of_eq e).vread
            · exact h.vread.of_eq e
        · next e1 =>
            refine .of_eq ?_ e1
            split
            · exact (h.vread.of_eq e).vread
            · exact h.vread.of_eq e

theorem State.Keeps.convBlock {f asid tenant d m k'} (h : s₀.Keeps false s) : s₀.Keeps false (s.convBlock f asid tenant d m k').1 := by
  unfold State.convBlock
  split
  · exact h
  · dsimp only
    split
    · exact h
    · split
      · next e =>
          exact h.vread.of_eq e
      · next e =>
          split
          · next e1 =>
              refine .of_eq ?_ e1
              split
              · exact (h.vread.of_eq e).vread
              · exact h.vread.of_eq e
          · next e1 =>
              refine .of_eq ?_ e1
              split
              · exact (h.vread.of_eq e).vread
              · exact h.vread.of_eq e

theorem State.Keeps.readVec {f asid tenant d m kStart n} (h : s₀.Keeps false s) : s₀.Keeps false (s.readVec f asid tenant d m kStart n).1 := by
  unfold State.readVec
  refine h.foldl_fst (fun _ _ k => ?_)
  split
  · exact k
  · split
    · next e =>
        refine .of_eq ?_ e
        split
        · exact k.convBlock
        · exact k.plainBlock
    · next e =>
        refine .of_eq ?_ e
        split
        · exact k.convBlock
        · exact k.plainBlock

theorem State.Keeps.accPut {f a e' c' v} (h : s₀.Keeps c s) : s₀.Keeps c (s.accPut f a e' c' v) := by
  unfold State.accPut
  dsimp only
  split
  · exact h.setArr.modArr.noteInj.injDone
  · exact h.setArr

theorem State.Keeps.accCount {f a e' n} (h : s₀.Keeps c s) : s₀.Keeps c (s.accCount f a e' n) :=
  h.modArr

theorem State.Keeps.accEntry {f a e' t' str v trans acc} (h : s₀.Keeps c s) : s₀.Keeps c (s.accEntry f a e' t' str v trans acc) :=
  h.foldl (fun _ _ k => k.accPut)

theorem State.Keeps.passVecs {s0 f a i c' t' d n m} (h : s₀.Keeps false s) (hs0 : s₀.Keeps false s0) :
    s₀.Keeps false (s.passVecs s0 f a i c' t' d n m) := by
  induction n generalizing s f a i c' t' d m with
  | zero =>
    rw [State.passVecs]
    exact h.finishCmd
  | succ n ih =>
    rw [State.passVecs]
    split
    · next e =>
        exact (h.readVec.of_eq e).arrVFault hs0
    · next e =>
        split
        · exact ((h.readVec.of_eq e).arrFault).modArr
        · refine ih (.accEntry ?_)
          split
          · exact (h.readVec.of_eq e).accCount
          · exact h.readVec.of_eq e

theorem State.Keeps.passRun {s0 f a i c' d upset} (h : s₀.Keeps false s) (hs0 : s₀.Keeps false s0) :
    s₀.Keeps false (s.passRun s0 f a i c' d upset) := by
  unfold State.passRun
  dsimp only
  split
  · refine .arrFault (.setCmd ?_)
    split
    · exact h.modArr
    · exact h
  · split
    · refine .modArr (.arrFault (.setCmd ?_))
      split
      · exact h.modArr
      · exact h
    · refine .passVecs (.setCmd ?_) hs0
      split
      · exact h.modArr
      · exact h

theorem State.Keeps.keepDesc {f a i d phase} (h : s₀.Keeps c s) : s₀.Keeps c (s.keepDesc f a i d phase) :=
  h.setCmd

theorem State.Keeps.entryStall {f a c' stall} (h : s₀.Keeps c s) : s₀.Keeps c (s.entryStall f a c' stall) := by
  unfold State.entryStall
  split
  · exact h.radd
  · exact h

theorem State.Keeps.pass {f a stall upset} (h : s₀.Keeps false s) : s₀.Keeps false (s.pass f a stall upset) := by
  unfold State.pass
  dsimp only
  split
  · exact h
  · split
    · exact h
    · split
      · exact h.arrFault
      · split
        · exact h.arrFault
        · split
          · next e =>
              exact (h.readTensor.of_eq e).arrVFault h
          · next e =>
              split
              · exact (h.readTensor.of_eq e).arrFault
              · split
                · exact (h.readTensor.of_eq e).arrFault
                · split
                  · exact (h.readTensor.of_eq e).arrFault
                  · split
                    · exact (h.readTensor.of_eq e).arrFault
                    · split
                      · exact (h.readTensor.of_eq e).arrFault
                      · split
                        · exact (h.readTensor.of_eq e).keepDesc
                        · split
                          · exact h
                          · exact ((h.readTensor.of_eq e).entryStall).passRun h

theorem State.Keeps.execPass {f a stall upset} (h : s₀.Keeps c s) : ∃ t, execPass f a stall upset s = .next t ∧ s₀.Keeps c t :=
  ⟨_, rfl, h.attempt (fun k => k.pass)⟩

theorem State.Keeps.swapRelease {f a held stall upset} (h : s₀.Keeps false s) : s₀.Keeps false (s.swapRelease f a held stall upset) := by
  unfold State.swapRelease
  dsimp only
  split
  · exact h
  · split
    · exact h.radd.entryStall.passRun h
    · exact h

theorem State.Keeps.execSwapMarkerRelease {f a held stall upset} (h : s₀.Keeps c s) :
    ∃ t, execSwapMarkerRelease f a held stall upset s = .next t ∧ s₀.Keeps c t :=
  ⟨_, rfl, h.attempt (fun k => k.swapRelease)⟩

theorem State.Keeps.drainVFault {s0 f a i kslot d e'} (h : s₀.Keeps c s) (hs0 : s₀.Keeps c s0) : s₀.Keeps c (s.drainVFault s0 f a i kslot d e') := by
  unfold State.drainVFault
  split
  · exact hs0.keepFills.keepDesc
  · exact h.arrVFault hs0

theorem State.Keeps.drainRows {s0 f a i c' d bias n m j} (h : s₀.Keeps false s) (hs0 : s₀.Keeps false s0) :
    s₀.Keeps false (s.drainRows s0 f a i c' d bias n m j) := by
  induction n generalizing s f a i c' d bias m j with
  | zero =>
    rw [State.drainRows]
    exact h.setCmd
  | succ n ih =>
    rw [State.drainRows]
    split
    · exact h.arrFault.modArr
    · dsimp only
      split
      · next e =>
          exact (h.accCount.vwrite.of_eq e).drainVFault hs0
      · next e =>
          split
          · next e1 =>
              refine .drainVFault (.of_eq ?_ e1) hs0
              split
              · exact h.accCount.vwrite.of_eq e
              · exact (h.accCount.vwrite.of_eq e).vwrite
          · next e1 =>
              refine ih (.of_eq ?_ e1)
              split
              · exact h.accCount.vwrite.of_eq e
              · exact (h.accCount.vwrite.of_eq e).vwrite

theorem State.Keeps.drainRun {s0 f a i c' d} (h : s₀.Keeps false s) (hs0 : s₀.Keeps false s0) : s₀.Keeps false (s.drainRun s0 f a i c' d) := by
  unfold State.drainRun
  dsimp only
  split
  · next e =>
      refine .drainVFault (.of_eq ?_ e) hs0
      split
      · exact h.vread
      · exact h
  · next e =>
      refine .drainRows (.of_eq ?_ e) hs0
      split
      · exact h.vread
      · exact h

theorem State.Keeps.drain {f a} (h : s₀.Keeps false s) : s₀.Keeps false (s.drain f a) := by
  unfold State.drain
  dsimp only
  split
  · exact h.drainRun h
  · split
    · exact h
    · split
      · exact h.arrFault
      · split
        · exact h.arrFault
        · split
          · exact h
          · split
            · next e =>
                exact (h.readTensor.of_eq e).arrVFault h
            · next e =>
                split
                · exact (h.readTensor.of_eq e).arrFault
                · split
                  · exact (h.readTensor.of_eq e).arrFault
                  · exact (h.readTensor.of_eq e).drainRun h

theorem State.Keeps.execDrain {f a} (h : s₀.Keeps c s) : ∃ t, execDrain f a s = .next t ∧ s₀.Keeps c t :=
  ⟨_, rfl, h.attempt (fun k => k.drain)⟩

theorem State.Keeps.execDrainComplete {f a} (h : s₀.Keeps c s) : ∃ t, execDrainComplete f a s = .next t ∧ s₀.Keeps c t :=
  ⟨_, rfl, h.finishCmd⟩

theorem State.Keeps.execAccumulatorPatternTest {f a fails} (h : s₀.Keeps c s) :
    ∃ t, execAccumulatorPatternTest f a fails s = .next t ∧ s₀.Keeps c t := by
  refine ⟨_, rfl, ?_⟩
  split
  · exact h
  · dsimp only
    split
    · exact h.modArr.fenceEngine
    · exact h.modArr

theorem State.Keeps.execCommandTimeout {f a} (h : s₀.Keeps c s) : ∃ t, execCommandTimeout f a s = .next t ∧ s₀.Keeps c t := by
  refine ⟨_, rfl, ?_⟩
  split
  · exact h
  · split
    · exact h
    · exact h.arrFault

theorem State.Keeps.setLink {l v} (h : s₀.Keeps c s) : s₀.Keeps c (s.setLink l v) :=
  h.units

theorem State.Keeps.modLink {l g} (h : s₀.Keeps c s) : s₀.Keeps c (s.modLink l g) :=
  h.setLink

theorem State.Keeps.setLinkState {l v} (h : s₀.Keeps c s) : s₀.Keeps c (s.setLinkState l v) :=
  h.rset

theorem State.Keeps.pump {l} (h : s₀.Keeps c s) : s₀.Keeps c (s.pump l) := by
  unfold State.pump
  split
  · dsimp only
    split
    · exact h.setLink
    · exact h.setLink.injTransfer
  · exact h

theorem State.Keeps.toLink {l m why} (h : s₀.Keeps c s) : s₀.Keeps c (s.toLink l m why) :=
  h.modLink.pump

theorem State.Keeps.deliverMsg {l m} (h : s₀.Keeps c s) : s₀.Keeps c (s.deliverMsg l m) :=
  h.modLink

theorem State.Keeps.routeQuiet {m why} (h : s₀.Keeps c s) : s₀.Keeps c (s.routeQuiet m why) := by
  unfold State.routeQuiet
  split
  · exact h.deliverMsg
  · split
    · exact h.toLink
    · exact h

theorem State.Keeps.answer {q op target data} (h : s₀.Keeps c s) : s₀.Keeps c (s.answer q op target data) :=
  h.routeQuiet

theorem State.Keeps.dropMsg {m reason loc} (h : s₀.Keeps c s) : s₀.Keeps c (s.dropMsg m reason loc) := by
  unfold State.dropMsg
  dsimp only
  split
  · exact h.raise.answer
  · exact h.raise

theorem State.Keeps.route {m from_ why} (h : s₀.Keeps c s) : s₀.Keeps c (s.route m from_ why) := by
  unfold State.route
  split
  · dsimp only
    split
    · split
      · refine (h.foldl (fun _ _ k => ?_)).deliverMsg
        split
        · exact k.toLink
        · exact k.radd
      · refine h.foldl (fun _ _ k => ?_)
        split
        · exact k.toLink
        · exact k.radd
    · exact h
  · split
    · exact h.deliverMsg
    · split
      · exact h.toLink
      · exact h.dropMsg

theorem State.Keeps.forward {m from_} (h : s₀.Keeps c s) : s₀.Keeps c (s.forward m from_) := by
  unfold State.forward
  split
  · exact h.dropMsg
  · exact h.route

theorem State.Keeps.freeRx {l m} (h : s₀.Keeps c s) : s₀.Keeps c (s.freeRx l m) :=
  h.modLink

theorem State.Keeps.setSorus {n v} (h : s₀.Keeps c s) : s₀.Keeps c (s.setSorus n v) :=
  h.units

theorem State.Keeps.trapWatchers {n reason} (h : s₀.Keeps c s) : s₀.Keeps c (s.trapWatchers n reason) :=
  h.foldl (fun _ _ k => k.modFr.foldl (fun _ _ k1 => k1.trap))

theorem State.Keeps.sorCheckErr {n} (h : s₀.Keeps c s) : s₀.Keeps c (s.sorCheckErr n) := by
  unfold State.sorCheckErr
  dsimp only
  split
  · exact h.setSorus.raise.trapWatchers.units.foldl (fun _ _ k => k.raise.complete)
  · exact h

theorem State.Keeps.sorWrite {n v} (h : s₀.Keeps c s) : s₀.Keeps c (s.sorWrite n v) := by
  unfold State.sorWrite
  dsimp only
  split
  · exact h.setSorus.noteInj.injDone
  · exact h.setSorus.dropInj

theorem State.Keeps.sorEval {n} (h : s₀.Keeps c s) : s₀.Keeps c (s.sorEval n) :=
  h.units.foldl (fun _ _ k => k.modFr)

theorem State.Keeps.sorAdd {n amount} (h : s₀.Keeps c s) : s₀.Keeps c (s.sorAdd n amount) := by
  unfold State.sorAdd
  dsimp only
  refine .sorEval (.sorWrite ?_)
  split
  · exact h.raise.radd
  · exact h

theorem State.Keeps.sorSignal {n amount tenant remote} (h : s₀.Keeps c s) : s₀.Keeps c (s.sorSignal n amount tenant remote).1 := by
  unfold State.sorSignal
  dsimp only
  split
  · exact h.sorCheckErr
  · exact h.sorCheckErr.sorAdd

theorem State.Keeps.applyUpd {u} (h : s₀.Keeps c s) : s₀.Keeps c (s.applyUpd u) := by
  unfold State.applyUpd
  split
  · split
    · next e =>
        split
        · split
          · exact (h.sorSignal.of_eq e).faultKernel
          · exact (h.sorSignal.of_eq e).raise
        · split
          · exact (h.sorSignal.of_eq e).faultKernel
          · exact (h.sorSignal.of_eq e).raise
    · next e =>
        exact h.sorSignal.of_eq e
  · dsimp only
    split
    · next e =>
        split
        · refine .raise ?_
          split
          · exact ((h.sorSignal.of_eq e).raise).radd
          · exact (h.sorSignal.of_eq e).raise
        · refine .answer ?_
          split
          · exact ((h.sorSignal.of_eq e).raise).radd
          · exact (h.sorSignal.of_eq e).raise
    · next e =>
        split
        · exact h.sorSignal.of_eq e
        · exact (h.sorSignal.of_eq e).answer

theorem State.Keeps.sorNow {party n amount tenant} (h : s₀.Keeps c s) : s₀.Keeps c (s.sorNow party n amount tenant).1 :=
  (h.units.foldl (fun _ _ k => k.applyUpd)).sorSignal

theorem State.Keeps.advance {f g t'} (h : s₀.Keeps c s) : s₀.Keeps c (s.advance f g t') :=
  h.modThr

theorem State.Keeps.advanceAll {f g ts} (h : s₀.Keeps c s) : s₀.Keeps c (s.advanceAll f g ts) :=
  h.foldl (fun _ _ k => k.advance)

theorem State.Keeps.startWait {f g t' w} (h : s₀.Keeps c s) : s₀.Keeps c (s.startWait f g t' w) :=
  h.modThr.units

theorem State.Keeps.trapHere {f g t' reason} (h : s₀.Keeps c s) : s₀.Keeps c (s.trapHere f g t' reason) :=
  h.trap

theorem State.Keeps.trapEach {f g reason loc inj ts} (h : s₀.Keeps c s) : s₀.Keeps c (s.trapEach f g reason loc inj ts) :=
  h.foldl (fun _ _ k => k.trapI)

theorem State.Keeps.xTrap {f g t' e'} (h : s₀.Keeps c s) : s₀.Keeps c (s.xTrap f g t' e') :=
  h.trapI

theorem State.Keeps.pick {f g} (h : s₀.Keeps c s) : s₀.Keeps c (s.pick f g).1 := by
  unfold State.pick
  dsimp only
  split
  · exact h
  · exact h.setGrp

theorem State.Keeps.countRegs {f g t' ns} (h : s₀.Keeps c s) : s₀.Keeps c (s.countRegs f g t' ns) := by
  unfold State.countRegs
  dsimp only
  split
  · exact h
  · exact h.modFr

theorem State.Keeps.regFault {f g t' n} (h : s₀.Keeps c s) : s₀.Keeps c (s.regFault f g t' n) :=
  h.trapI.modFr

theorem State.Keeps.icFill {f line} (h : s₀.Keeps c s) : s₀.Keeps c (s.icFill f line) := by
  unfold State.icFill
  dsimp only
  refine .modFr ?_
  split
  · exact h
  · exact h.fresh

theorem State.Keeps.icParityCheck {f line} (h : s₀.Keeps c s) : s₀.Keeps c (s.icParityCheck f line) := by
  unfold State.icParityCheck
  split
  · exact h.modFr
  · exact h

theorem State.Keeps.fetch {f g k' q pc ts} (h : s₀.Keeps false s) : s₀.Keeps false (s.fetch f g k' q pc ts).1 := by
  unfold State.fetch
  split
  · next e =>
      exact ((h.xlate.of_eq e).captureXlate).trapEach
  · next e =>
      dsimp only
      split
      · exact (h.xlate.of_eq e).icParityCheck
      · split
        · exact ((h.xlate.of_eq e).icParityCheck).noteFills
        · split
          · next e1 =>
              exact (((((h.xlate.of_eq e).icParityCheck).bundleUse).read).of_eq e1).icFill
          · next e1 =>
              split
              · exact (((((h.xlate.of_eq e).icParityCheck).bundleUse).read).of_eq e1).trapEach
              · exact (((((h.xlate.of_eq e).icParityCheck).bundleUse).read).of_eq e1).accFault

theorem State.Keeps.issueNow {f g eff} (h : s₀.Keeps false s) (heff : ∀ u x1 x2 x3, s₀.Keeps false u → s₀.Keeps false (eff u x1 x2 x3)) :
    s₀.Keeps false (s.issueNow f g eff) := by
  unfold State.issueNow
  split
  · exact h
  · split
    · next e =>
        exact h.pick.of_eq e
    · next e =>
        split
        · next e1 =>
            exact ((h.pick.of_eq e).fetch).of_eq e1
        · next e1 =>
            exact heff _ _ _ _ (((h.pick.of_eq e).fetch).of_eq e1)

theorem State.Keeps.issue {f g eff} (h : s₀.Keeps c s) (he : ∀ u k q ts, s.Keeps false u → s.Keeps false (eff u k q ts)) :
    s₀.Keeps c (s.issue f g eff) := by
  refine h.attempt (fun k => ?_)
  split
  · exact k
  · split
    · exact k.issueNow he
    · exact k.rset

theorem State.Keeps.eachThread {f g mask reads ts act} (h : s₀.Keeps c s) (hact : ∀ u x1, s₀.Keeps c u → s₀.Keeps c (act u x1)) :
    s₀.Keeps c (s.eachThread f g mask reads ts act) := by
  unfold State.eachThread
  refine h.foldl (fun _ _ k => ?_)
  split
  · split
    · exact k.regFault
    · exact hact _ _ k.countRegs
  · exact k.advance

theorem State.Keeps.putRegs {f g t' n m} (h : s₀.Keeps c s) : s₀.Keeps c (s.putRegs f g t' n m) := by
  induction m generalizing s f g t' n with
  | nil =>
    rw [State.putRegs]
    exact h
  | cons x l ih =>
    rw [State.putRegs]
    exact ih h.setGreg

theorem State.Keeps.sbFault {f e'} (h : s₀.Keeps c s) : s₀.Keeps c (s.sbFault f e') :=
  h.faultKernelI.dropInj

theorem State.Keeps.sbWrite {f} (h : s₀.Keeps c s) : s₀.Keeps c (s.sbWrite f) := by
  unfold State.sbWrite
  split
  · exact h
  · dsimp only
    split
    · exact h.modFr.sbFault
    · refine h.modFr.dropInj.foldl (fun _ _ k => ?_)
      split
      · next e =>
          exact k.bundleUse.write.of_eq e
      · next e =>
          exact (k.bundleUse.write.of_eq e).accFault

theorem State.Keeps.sbDrain {f} (h : s₀.Keeps c s) : s₀.Keeps c (s.sbDrain f) :=
  h.foldl (fun _ _ k => k.sbWrite)

theorem State.Keeps.sbPut {f k' pa bytes} (h : s₀.Keeps c s) : s₀.Keeps c (s.sbPut f k' pa bytes) := by
  unfold State.sbPut
  dsimp only
  split
  · refine .modFr ?_
    split
    · exact h.sbWrite
    · exact h
  · split
    · refine .injDone (.noteInj (.modFr ?_))
      split
      · exact h.sbWrite
      · exact h
    · refine .modFr ?_
      split
      · exact h.sbWrite
      · exact h

theorem State.Keeps.dcUpdate {f pa bytes} (h : s₀.Keeps c s) : s₀.Keeps c (s.dcUpdate f pa bytes) :=
  h.modFr

theorem State.Keeps.dcDrop {f line} (h : s₀.Keeps c s) : s₀.Keeps c (s.dcDrop f line) :=
  h.modFr

theorem State.Keeps.sbCheck {f line} (h : s₀.Keeps c s) : s₀.Keeps c (s.sbCheck f line) := by
  unfold State.sbCheck
  split
  · exact h.modFr.sbFault
  · exact h

theorem State.Keeps.dcFill {f pa data} (h : s₀.Keeps c s) : s₀.Keeps c (s.dcFill f pa data) := by
  unfold State.dcFill
  dsimp only
  refine .modFr ?_
  split
  · exact h
  · exact h.fresh

theorem State.Keeps.loadBytes {f pa pte size} (h : s₀.Keeps c s) : s₀.Keeps c (s.loadBytes f pa pte size).1 := by
  unfold State.loadBytes
  dsimp only
  split
  · split
    · exact h.sbCheck
    · split
      · next e =>
          exact (h.sbCheck.bundleUse.read.of_eq e).dcFill
      · next e =>
          exact h.sbCheck.bundleUse.read.of_eq e
  · split
    · next e =>
        exact h.sbCheck.bundleUse.read.of_eq e
    · next e =>
        exact h.sbCheck.bundleUse.read.of_eq e

theorem State.Keeps.loadRegs {bytes conv} (h : s₀.Keeps c s) : s₀.Keeps c (s.loadRegs bytes conv).1 := by
  unfold State.loadRegs
  split
  · exact h
  · split
    · split
      · next e =>
          exact h.fresh.of_eq_snd e
    · exact h

theorem State.Keeps.load {f g k' q t' va size rd conv} (h : s₀.Keeps false s) : s₀.Keeps false (s.load f g k' q t' va size rd conv) := by
  unfold State.load
  split
  · exact h.trapHere
  · split
    · next e =>
        exact ((h.xlate.of_eq e).captureXlate).xTrap
    · next e =>
        split
        · exact (h.xlate.of_eq e).noteFills
        · split
          · next e1 =>
              exact (((h.xlate.of_eq e).loadBytes).of_eq e1).accFault
          · next e1 =>
              split
              · next e2 =>
                  exact ((((((h.xlate.of_eq e).loadBytes).of_eq e1).loadRegs).of_eq e2).putRegs).advance

theorem State.Keeps.execThreadLoad {f g mask reads vas size rd conv} (h : s₀.Keeps c s) :
    ∃ t, execThreadLoad f g mask reads vas size rd conv s = .next t ∧ s₀.Keeps c t := by
  refine ⟨_, rfl, ?_⟩
  split
  · exact h.issue (fun _ _ _ _ k1 => k1.eachThread (fun _ _ k2 => k2.load))
  · exact h

theorem State.Keeps.storeMisaligned {f g k' q t' va} (h : s₀.Keeps false s) : s₀.Keeps false (s.storeMisaligned f g k' q t' va) := by
  unfold State.storeMisaligned
  split
  · next e =>
      split
      · exact (h.xlate.of_eq e).accFault
      · exact h.trapHere
  · exact h.trapHere

theorem State.Keeps.store {f g k' q t' va bytes alias_} (h : s₀.Keeps false s) : s₀.Keeps false (s.store f g k' q t' va bytes alias_) := by
  unfold State.store
  split
  · exact h.storeMisaligned
  · split
    · next e =>
        exact ((h.xlate.of_eq e).captureXlate).xTrap
    · next e =>
        split
        · exact h.xlate.of_eq e
        · split
          · split
            · exact h.xlate.of_eq e
            · split
              · next e1 =>
                  exact ((((h.xlate.of_eq e).sbDrain).write).of_eq e1).advance
              · next e1 =>
                  exact (((((h.xlate.of_eq e).sbDrain).write).of_eq e1).accFault).advance
          · split
            · exact (h.xlate.of_eq e).accFault
            · exact ((h.xlate.of_eq e).sbPut).advance
          · exact (((h.xlate.of_eq e).sbPut).dcUpdate).advance

theorem State.Keeps.storeEach {f g mask reads vas size rs alias_} (h : s₀.Keeps c s) :
    s₀.Keeps c (s.storeEach f g mask reads vas size rs alias_) := by
  unfold State.storeEach
  split
  · exact h.issue (fun _ _ _ _ k1 => k1.eachThread (fun _ _ k2 => k2.store))
  · exact h

theorem State.Keeps.execThreadStore {f g mask reads vas size rs} (h : s₀.Keeps c s) :
    ∃ t, execThreadStore f g mask reads vas size rs s = .next t ∧ s₀.Keeps c t :=
  ⟨_, rfl, h.storeEach⟩

theorem State.Keeps.execStoreBufferWrite {f} (h : s₀.Keeps c s) : ∃ t, execStoreBufferWrite f s = .next t ∧ s₀.Keeps c t := by
  refine ⟨_, rfl, ?_⟩
  split
  · exact h
  · split
    · exact h.foldl (fun _ _ k => k.noteFills)
    · exact h.sbWrite

theorem State.Keeps.execAliasStore {f g mask reads vas size rs} (h : s₀.Keeps c s) :
    ∃ t, execAliasStore f g mask reads vas size rs s = .next t ∧ s₀.Keeps c t :=
  ⟨_, rfl, h.storeEach⟩

theorem State.Keeps.atomic {f g k' q t' op va size v cmp rd} (h : s₀.Keeps false s) : s₀.Keeps false (s.atomic f g k' q t' op va size v cmp rd) := by
  unfold State.atomic
  split
  · exact h.trapHere
  · split
    · next e =>
        exact ((h.xlate.of_eq e).captureXlate).xTrap
    · next e =>
        split
        · exact (h.xlate.of_eq e).noteFills
        · split
          · exact (h.xlate.of_eq e).accFault
          · split
            · next e1 =>
                exact (((((h.xlate.of_eq e).sbDrain).bundleUse).atomicAt).of_eq e1).accFault
            · next e1 =>
                exact (((((((h.xlate.of_eq e).sbDrain).bundleUse).atomicAt).of_eq e1).dcDrop).putRegs).advance

theorem State.Keeps.execAtomic {f g mask op reads vas size rv rc rd} (h : s₀.Keeps c s) :
    ∃ t, execAtomic f g mask op reads vas size rv rc rd s = .next t ∧ s₀.Keeps c t := by
  refine ⟨_, rfl, ?_⟩
  split
  · exact h.issue (fun _ _ _ _ k1 => k1.eachThread (fun _ _ k2 => k2.atomic))
  · exact h

theorem State.Keeps.execFenceL {f g mask} (h : s₀.Keeps c s) : ∃ t, execFenceL f g mask s = .next t ∧ s₀.Keeps c t :=
  ⟨_, rfl, h.issue (fun _ _ _ _ k => k.eachThread (fun _ _ k1 => k1.modThr.advance))⟩

theorem State.Keeps.execFenceM {f g mask} (h : s₀.Keeps c s) : ∃ t, execFenceM f g mask s = .next t ∧ s₀.Keeps c t := by
  refine ⟨_, rfl, ?_⟩
  split
  · exact h
  · exact h.issue (fun _ _ _ _ k => k.eachThread (fun _ _ k1 => k1.sbDrain.advance))

theorem State.Keeps.dcClear {f} (h : s₀.Keeps c s) : s₀.Keeps c (s.dcClear f) :=
  h.modFr

theorem State.Keeps.execFenceMi {f g mask} (h : s₀.Keeps c s) : ∃ t, execFenceMi f g mask s = .next t ∧ s₀.Keeps c t := by
  refine ⟨_, rfl, ?_⟩
  split
  · exact h
  · exact h.issue (fun _ _ _ _ k => k.eachThread (fun _ _ k1 => k1.sbDrain.dcClear.advance))

theorem State.Keeps.cinv1 {f g q t' va} (h : s₀.Keeps false s) : s₀.Keeps false (s.cinv1 f g q t' va) := by
  unfold State.cinv1
  split
  · next e =>
      exact ((h.xlate.of_eq e).captureXlate).xTrap
  · next e =>
      exact ((h.xlate.of_eq e).dcDrop).advance

theorem State.Keeps.execCinv {f g mask reads vas} (h : s₀.Keeps c s) : ∃ t, execCinv f g mask reads vas s = .next t ∧ s₀.Keeps c t :=
  ⟨_, rfl, h.issue (fun _ _ _ _ k => k.eachThread (fun _ _ k1 => k1.cinv1))⟩

theorem State.Keeps.execTranslationWalk {f g t' agent va need} (h : s₀.Keeps c s) :
    ∃ t, execTranslationWalk f g t' agent va need s = .next t ∧ s₀.Keeps c t := by
  refine ⟨_, rfl, ?_⟩
  refine h.attempt (fun k => ?_)
  split
  · exact k
  · split
    · next e =>
        exact k.xlate.of_eq e
    · next e =>
        dsimp only
        split
        · exact ((k.xlate.of_eq e).captureXlate).trapI
        · split
          · exact ((k.xlate.of_eq e).captureXlate).xTrap
          · exact ((k.xlate.of_eq e).captureXlate).faultKernelI

theorem State.Keeps.modCmd {f c' g} (h : s₀.Keeps c s) : s₀.Keeps c (s.modCmd f c' g) :=
  h.setDma

theorem State.Keeps.popDma {f c'} (h : s₀.Keeps c s) : s₀.Keeps c (s.popDma f c') :=
  h.setDma

theorem State.Keeps.doneDma {f c'} (h : s₀.Keeps c s) : s₀.Keeps c (s.doneDma f c') :=
  h.setDma

theorem State.Keeps.bankNote {reason loc inj} (h : s₀.Keeps c s) : s₀.Keeps c (s.bankNote reason loc inj) := by
  unfold State.bankNote
  split
  · exact h.bankCheck
  · exact h

theorem State.Keeps.dmaFault {f c' reason loc src inj} (h : s₀.Keeps c s) : s₀.Keeps c (s.dmaFault f c' reason loc src inj) := by
  unfold State.dmaFault
  dsimp only
  refine .bankNote ?_
  split
  · exact h.setDma.faultKernelI.noteTag
  · split
    · exact h.popDma.complete
    · exact h.popDma.faultAgentI.noteTag.complete
  · exact h.popDma.faultAgentI.noteTag

end
end Sys2Proof.Machine
end

section
/-!
PROOFS. What every step keeps (`State.Keeps`): DMA, sleep, the Thallus, the cache and range operations.
-/

namespace Sys2Proof.Machine
open State

set_option Elab.async false

section
variable {c : Bool} {s₀ s t : State}

theorem State.Keeps.dmaRead {f c' a len} (h : s₀.Keeps false s) : s₀.Keeps false (s.dmaRead f c' a len).1 := by
  unfold State.dmaRead
  split
  · split
    · exact h.atsFill
    · exact h.countHostFail
  · exact h.vread

theorem State.Keeps.dmaWrite {f c' a bytes} (h : s₀.Keeps false s) : s₀.Keeps false (s.dmaWrite f c' a bytes).1 := by
  unfold State.dmaWrite
  split
  · split
    · next e =>
        exact h.hostWrite.of_eq e
    · next e =>
        exact h.hostWrite.of_eq e
  · split
    · refine h.foldl_fst (fun _ _ k => ?_)
      split
      · exact k
      · split
        · next e =>
            exact (k.xlate.of_eq e).captureXlate
        · next e =>
            split
            · exact (k.xlate.of_eq e).noteFills
            · split
              · next e1 =>
                  exact ((k.xlate.of_eq e).reduceAt).of_eq e1
              · next e1 =>
                  exact ((k.xlate.of_eq e).reduceAt).of_eq e1
    · exact h.vwrite

theorem State.Keeps.freeBytes {n} (h : s₀.Keeps c s) : s₀.Keeps c (State.freeBytes n s).1 := by
  induction n generalizing s with
  | zero =>
    rw [State.freeBytes]
    exact h
  | succ n ih =>
    rw [State.freeBytes]
    split
    · next e =>
        split
        · next e1 =>
            exact (ih (h.fresh.of_eq_snd e)).of_eq e1

theorem State.Keeps.copyUnit {f c' u} (h : s₀.Keeps false s) : s₀.Keeps false (s.copyUnit f c' u).1 := by
  unfold State.copyUnit
  split
  · next e =>
      exact h.dmaRead.of_eq e
  · next e =>
      split
      · next e1 =>
          split
          · next e2 =>
              refine .of_eq (.dmaWrite (.of_eq ?_ e1)) e2
              split
              · exact (h.dmaRead.of_eq e).freeBytes
              · exact h.dmaRead.of_eq e
          · next e2 =>
              refine .of_eq (.dmaWrite (.of_eq ?_ e1)) e2
              split
              · exact (h.dmaRead.of_eq e).freeBytes
              · exact h.dmaRead.of_eq e

theorem State.Keeps.dmaHalt {f c' x e'} (h : s₀.Keeps c s) : s₀.Keeps c (s.dmaHalt f c' x e') := by
  unfold State.dmaHalt
  dsimp only
  refine .bankNote ?_
  split
  · exact h.rset.modCmd.faultKernelI.noteTag
  · exact h.rset.modCmd.faultAgentI.noteTag.complete
  · exact h.rset.modCmd

theorem State.Keeps.dmaCopy {f c' x} (h : s₀.Keeps false s) : s₀.Keeps false (s.dmaCopy f c' x) := by
  unfold State.dmaCopy
  split
  · next e =>
      refine ((h.foldl_fst (fun _ _ k => ?_)).of_eq e).modCmd
      split
      · exact k
      · exact k.copyUnit
  · next e =>
      split
      · exact h.keepFills
      · split
        · refine ((h.foldl_fst (fun _ _ k => ?_)).of_eq e).dmaHalt
          split
          · exact k
          · exact k.copyUnit
        · refine ((h.foldl_fst (fun _ _ k => ?_)).of_eq e).dmaFault
          split
          · exact k
          · exact k.copyUnit

theorem State.Keeps.execCopy {f c'} (h : s₀.Keeps c s) : ∃ t, execCopy f c' s = .next t ∧ s₀.Keeps c t := by
  refine ⟨_, rfl, ?_⟩
  refine h.attempt (fun k => ?_)
  split
  · exact k
  · split
    · exact k.dmaFault
    · exact k.dmaCopy

theorem State.Keeps.execFill {f c'} (h : s₀.Keeps c s) : ∃ t, execFill f c' s = .next t ∧ s₀.Keeps c t := by
  refine ⟨_, rfl, ?_⟩
  refine h.attempt (fun k => ?_)
  split
  · exact k
  · split
    · exact k.dmaFault
    · split
      · next e =>
          refine ((k.foldl_fst (fun _ _ k1 => ?_)).of_eq e).modCmd
          split
          · exact k1
          · exact k1.dmaWrite
      · next e =>
          split
          · exact k.keepFills
          · refine ((k.foldl_fst (fun _ _ k1 => ?_)).of_eq e).dmaFault
            split
            · exact k1
            · exact k1.dmaWrite

theorem State.Keeps.execDmaComplete {f c'} (h : s₀.Keeps c s) : ∃ t, execDmaComplete f c' s = .next t ∧ s₀.Keeps c t := by
  refine ⟨_, rfl, ?_⟩
  split
  · exact h
  · split
    · exact h
    · split
      · next e =>
          split
          · refine .dmaFault (.of_eq ?_ e)
            split
            · exact h.sorNow
            · exact h
          · refine .complete (.doneDma (.of_eq ?_ e))
            split
            · exact h.sorNow
            · exact h
          · refine .doneDma (.of_eq ?_ e)
            split
            · exact h.sorNow
            · exact h

theorem State.Keeps.idleMark {f} (h : s₀.Keeps c s) : s₀.Keeps c (s.idleMark f) := by
  unfold State.idleMark
  split
  · exact h
  · exact h.modFr

theorem State.Keeps.sleepEnter {f depth} (h : s₀.Keeps c s) : s₀.Keeps c (s.sleepEnter f depth) := by
  unfold State.sleepEnter
  split
  · exact h.units.rset.rset
  · exact h

theorem State.Keeps.execDuskEntry {f} (h : s₀.Keeps c s) : ∃ t, execDuskEntry f s = .next t ∧ s₀.Keeps c t :=
  ⟨_, rfl, h.sleepEnter⟩

theorem State.Keeps.execNightEntry {f} (h : s₀.Keeps c s) : ∃ t, execNightEntry f s = .next t ∧ s₀.Keeps c t :=
  ⟨_, rfl, h.sleepEnter⟩

theorem State.Keeps.execDarkEntry {f} (h : s₀.Keeps c s) : ∃ t, execDarkEntry f s = .next t ∧ s₀.Keeps c t :=
  ⟨_, rfl, h.sleepEnter⟩

theorem State.Keeps.logicLost {f} (h : s₀.Keeps c s) : s₀.Keeps c (s.logicLost f) := by
  unfold State.logicLost
  exact (h.foldl (fun _ _ k => k.modArr)).modFr

theorem State.Keeps.dmaOut {f} (h : s₀.Keeps c s) : s₀.Keeps c (s.dmaOut f) := by
  unfold State.dmaOut
  refine h.foldl (fun _ _ k => ?_)
  dsimp only
  refine k.setDma.rset.foldl (fun _ _ k1 => ?_)
  split
  · exact k1.complete
  · exact k1

theorem State.Keeps.lsZero {f} (h : s₀.Keeps c s) : s₀.Keeps c (s.lsZero f) :=
  h.stored (by exact ⟨id, id, id, spWf_filter _ _, id⟩)

theorem State.Keeps.wakeStart {f slow} (h : s₀.Keeps c s) : s₀.Keeps c (s.wakeStart f slow) := by
  unfold State.wakeStart
  dsimp only
  refine .modFr (.rset (.rset ?_))
  split
  · refine .lsZero ?_
    split
    · exact h.radd
    · exact h
  · split
    · exact h.radd
    · exact h

theorem State.Keeps.wakeReq {f slow} (h : s₀.Keeps c s) : s₀.Keeps c (s.wakeReq f slow) := by
  unfold State.wakeReq
  split
  · exact h.rset
  · split
    · exact h
    · exact h.wakeStart

theorem State.Keeps.lsAccess {f a} (h : s₀.Keeps c s) : s₀.Keeps c (s.lsAccess f a) := by
  unfold State.lsAccess
  dsimp only
  split
  · split
    · next e =>
        exact h.write.of_eq e
    · next e =>
        exact (h.write.of_eq e).accFault
  · split
    · next e =>
        exact h.read.of_eq e
    · next e =>
        exact (h.read.of_eq e).accFault

theorem State.Keeps.serveHeld {f} (h : s₀.Keeps c s) : s₀.Keeps c (s.serveHeld f) :=
  h.modFr.foldl (fun _ _ k => k.lsAccess)

theorem State.Keeps.drainDue {f} (h : s₀.Keeps c s) : s₀.Keeps c (s.drainDue f) := by
  unfold State.drainDue
  split
  · exact h.modFr.beginDrain
  · exact h

theorem State.Keeps.execSleepEntryComplete {f} (h : s₀.Keeps c s) : ∃ t, execSleepEntryComplete f s = .next t ∧ s₀.Keeps c t := by
  refine ⟨_, rfl, ?_⟩
  split
  · dsimp only
    split
    · refine .wakeStart (.drainDue (.serveHeld (.modFr ?_)))
      split
      · exact h.rset.logicLost
      · exact h.rset
    · refine .drainDue (.serveHeld (.modFr ?_))
      split
      · exact h.rset.logicLost
      · exact h.rset
  · exact h

theorem State.Keeps.execWakeRequest {f slow} (h : s₀.Keeps c s) : ∃ t, execWakeRequest f slow s = .next t ∧ s₀.Keeps c t := by
  refine ⟨_, rfl, ?_⟩
  split
  · exact h.wakeReq
  · exact h

theorem State.Keeps.reloaded {f} (h : s₀.Keeps c s) : s₀.Keeps c (s.reloaded f) := by
  unfold State.reloaded
  split
  · exact h.units
  · exact h.units
  · exact h

theorem State.Keeps.execWakeComplete {f} (h : s₀.Keeps c s) : ∃ t, execWakeComplete f s = .next t ∧ s₀.Keeps c t := by
  refine ⟨_, rfl, ?_⟩
  split
  · dsimp only
    refine .drainDue (.serveHeld (.modFr ?_))
    split
    · exact h.modFr.rset.reloaded
    · exact h.modFr.rset
  · exact h

theorem State.Keeps.execWakeTimeout {f} (h : s₀.Keeps c s) : ∃ t, execWakeTimeout f s = .next t ∧ s₀.Keeps c t := by
  refine ⟨_, rfl, ?_⟩
  dsimp only
  split
  · split
    · exact h.units.modFr.fenceFrond.beginDrain
    · exact h.units.modFr.fenceFrond
  · exact h

theorem State.Keeps.execSleepingLocalStoreAccess {f agent addr wr bytes} (h : s₀.Keeps c s) :
    ∃ t, execSleepingLocalStoreAccess f agent addr wr bytes s = .next t ∧ s₀.Keeps c t := by
  refine ⟨_, rfl, ?_⟩
  dsimp only
  split
  · exact h.modFr
  · exact h.lsAccess

theorem State.Keeps.execFrdSleepCtlWrite {f v} (h : s₀.Keeps c s) : ∃ t, execFrdSleepCtlWrite f v s = .next t ∧ s₀.Keeps c t := by
  refine ⟨_, rfl, ?_⟩
  split
  · dsimp only
    split
    · exact h.rset.rset.rset.rset.wakeReq
    · exact h.rset.rset.rset.rset
  · exact h

theorem State.Keeps.crcFail {link n} (h : s₀.Keeps c s) : s₀.Keeps c (s.crcFail link n) :=
  h.units

theorem State.Keeps.transfers {f pa o wr crc} (h : s₀.Keeps c s) : s₀.Keeps c (s.transfers f pa o wr crc) := by
  unfold State.transfers
  split
  · exact h.bundleUse.foldl (fun _ _ k => k.crcFail)
  · exact h

theorem State.Keeps.execScratchpadAccess {agent off wr bytes crc} (h : s₀.Keeps c s) :
    ∃ t, execScratchpadAccess agent off wr bytes crc s = .next t ∧ s₀.Keeps c t := by
  refine ⟨_, rfl, ?_⟩
  dsimp only
  split
  · split
    · next e =>
        refine .of_eq (.write ?_) e
        split
        · exact h.transfers
        · exact h
    · next e =>
        refine .accFault (.of_eq (.write ?_) e)
        split
        · exact h.transfers
        · exact h
  · split
    · next e =>
        refine .of_eq (.read ?_) e
        split
        · exact h.transfers
        · exact h
    · next e =>
        refine .accFault (.of_eq (.read ?_) e)
        split
        · exact h.transfers
        · exact h

theorem State.Keeps.columnGone {t' q b lowerOnly} (h : s₀.Keeps c s) : s₀.Keeps c (s.columnGone t' q b lowerOnly) :=
  h.units.raise.addFence.distBump

theorem State.Keeps.neitherMode {t' q} (h : s₀.Keeps c s) : s₀.Keeps c (s.neitherMode t' q) :=
  h.units

theorem State.Keeps.retireLink {t' q kind b} (h : s₀.Keeps c s) : s₀.Keeps c (s.retireLink t' q kind b) := by
  unfold State.retireLink
  dsimp only
  split
  · split
    · exact h
    · split
      · exact h.units.distBump.commit.raise.addFence.columnGone
      · exact h.units.distBump.commit.raise.addFence
  · split
    · exact h
    · split
      · exact h.units.distBump.commit.raise.addFence.columnGone
      · exact h.units.distBump.commit.raise.addFence

theorem State.Keeps.replaceWire {t' q kind b w} (h : s₀.Keeps c s) : s₀.Keeps c (s.replaceWire t' q kind b w) := by
  unfold State.replaceWire
  dsimp only
  split
  · split
    · exact h.units.commit.raise.zeroReserve
    · exact h.units.commit.raise
  · exact h

theorem State.Keeps.wireTest {t' q kind b failed} (h : s₀.Keeps c s) : s₀.Keeps c (s.wireTest t' q kind b failed) := by
  unfold State.wireTest
  dsimp only
  split
  · exact h.retireLink
  · exact h.foldl (fun _ _ k => k.replaceWire)

theorem State.Keeps.execBundleWireTest {t' q kind b failed} (h : s₀.Keeps c s) :
    ∃ t, execBundleWireTest t' q kind b failed s = .next t ∧ s₀.Keeps c t := by
  refine ⟨_, rfl, ?_⟩
  dsimp only
  split
  · exact h.units.wireTest
  · exact h

theorem State.Keeps.cellClean {o} (h : s₀.Keeps c s) : s₀.Keeps c (s.cellClean o) := by
  unfold State.cellClean
  dsimp only
  split
  · exact h.modWay
  · exact h

theorem State.Keeps.byteClean {o} (h : s₀.Keeps c s) : s₀.Keeps c (s.byteClean o) := by
  unfold State.byteClean
  split
  · exact (h.stored (by exact ⟨id, id, fun k => memWf_memPut k _ _, id, id⟩)).dropInj
  · exact h

theorem State.Keeps.execRowRepair {t' die q b m row} (h : s₀.Keeps c s) : ∃ t, execRowRepair t' die q b m row s = .next t ∧ s₀.Keeps c t := by
  refine ⟨_, rfl, ?_⟩
  dsimp only
  split
  · split
    · split
      · refine ((((h.units.foldl (fun _ _ k => ?_)).units).raise).commit).zeroReserve
        split
        · exact k.cellClean
        · exact k.byteClean
      · refine (((h.units.foldl (fun _ _ k => ?_)).units).raise).commit
        split
        · exact k.cellClean
        · exact k.byteClean
    · split
      · exact h.units
      · exact h.units.raise
  · exact h

theorem State.Keeps.columnSeen {o i} (h : s₀.Keeps c s) : s₀.Keeps c (s.columnSeen o i) := by
  unfold State.columnSeen
  dsimp only
  split
  · split
    · exact h.units.raise
    · exact h
  · split
    · exact h.units.raise
    · exact h.units

theorem State.Keeps.patrolSeen {o mask} (h : s₀.Keeps c s) : s₀.Keeps c (s.patrolSeen o mask) := by
  unfold State.patrolSeen
  dsimp only
  refine .foldl (.units ?_) (fun _ _ k => k.columnSeen)
  split
  · exact h.units
  · exact h

theorem State.Keeps.patrolByte {o} (h : s₀.Keeps c s) : s₀.Keeps c (s.patrolByte o) := by
  unfold State.patrolByte
  dsimp only
  split
  · exact h
  · split
    · exact h.radd.raise
    · split
      · exact h.thlTouch1
      · exact h.thlTouch1.patrolSeen

theorem State.Keeps.patrolCached {t' q b n} (h : s₀.Keeps c s) : s₀.Keeps c (s.patrolCached t' q b n) := by
  unfold State.patrolCached
  dsimp only
  split
  · exact h
  · split
    · split
      · exact h.sectorFix
      · exact h.sectorFix.patrolSeen
    · split
      · split
        · exact h.radd
        · exact h.radd.setWay.radd.raise
      · split
        · exact h.radd.setWay.radd.fetchSector
        · exact h.radd.setWay.radd

theorem State.Keeps.patrolWrap {key} (h : s₀.Keeps c s) : s₀.Keeps c (s.patrolWrap key) :=
  h.units.rset

theorem State.Keeps.execPatrolRead {t' die q b len} (h : s₀.Keeps c s) : ∃ t, execPatrolRead t' die q b len s = .next t ∧ s₀.Keeps c t := by
  refine ⟨_, rfl, ?_⟩
  dsimp only
  split
  · split
    · refine .patrolWrap (.units (.foldl (.bgUse ?_) (fun _ _ k => ?_)))
      · split
        · exact h.units
        · exact h
      · split
        · exact k.patrolCached
        · exact k.patrolByte
    · refine .units (.foldl (.bgUse ?_) (fun _ _ k => ?_))
      · split
        · exact h.units
        · exact h
      · split
        · exact k.patrolCached
        · exact k.patrolByte
  · exact h

theorem State.Keeps.execPatrolLate (h : s₀.Keeps c s) : ∃ t, execPatrolLate s = .next t ∧ s₀.Keeps c t := by
  refine ⟨_, rfl, ?_⟩
  split
  · exact h.rset
  · exact h

theorem State.Keeps.execThallusBandChange {t' die q b} (h : s₀.Keeps c s) : ∃ t, execThallusBandChange t' die q b s = .next t ∧ s₀.Keeps c t := by
  refine ⟨_, rfl, ?_⟩
  split
  · exact h.units
  · exact h

theorem State.Keeps.execRetentionEntry {t' die q b} (h : s₀.Keeps c s) : ∃ t, execRetentionEntry t' die q b s = .next t ∧ s₀.Keeps c t := by
  refine ⟨_, rfl, ?_⟩
  dsimp only
  split
  · exact h.units
  · exact h

theorem State.Keeps.holdMem {agent pa wr bytes} (h : s₀.Keeps c s) : s₀.Keeps c (s.holdMem agent pa wr bytes) := by
  unfold State.holdMem
  split <;> exact h.units

theorem State.Keeps.memReply {a v} (h : s₀.Keeps c s) : s₀.Keeps c (s.memReply a v) := by
  unfold State.memReply
  split
  · exact h.units
  · exact h

theorem State.Keeps.heldMemGo {h'} (h : s₀.Keeps c s) : s₀.Keeps c (s.heldMemGo h') := by
  unfold State.heldMemGo
  split
  · split
    · next e =>
        exact h.write.of_eq e
    · next e =>
        exact (h.write.of_eq e).accFault
  · split
    · next e =>
        exact (h.read.of_eq e).memReply
    · next e =>
        exact ((h.read.of_eq e).accFault).memReply

theorem State.Keeps.execCacheRead {agent pa len} (h : s₀.Keeps c s) : ∃ t, execCacheRead agent pa len s = .next t ∧ s₀.Keeps c t := by
  refine ⟨_, rfl, ?_⟩
  split
  · split
    · exact h.holdMem
    · split
      · next e =>
          exact h.read.of_eq e
      · next e =>
          exact (h.read.of_eq e).accFault
  · exact h

theorem State.Keeps.execCacheWrite {agent pa bytes} (h : s₀.Keeps c s) : ∃ t, execCacheWrite agent pa bytes s = .next t ∧ s₀.Keeps c t := by
  refine ⟨_, rfl, ?_⟩
  split
  · split
    · exact h.holdMem
    · split
      · next e =>
          exact h.write.of_eq e
      · next e =>
          exact (h.write.of_eq e).accFault
  · exact h

theorem State.Keeps.reducePosted {agent op ty pa bytes} (h : s₀.Keeps c s) : s₀.Keeps c (s.reducePosted agent op ty pa bytes) := by
  unfold State.reducePosted
  split
  · next e =>
      exact h.reduceAt.of_eq e
  · next e =>
      exact (h.reduceAt.of_eq e).accFault

theorem State.Keeps.execPostedReduction {agent op ty pa bytes} (h : s₀.Keeps c s) :
    ∃ t, execPostedReduction agent op ty pa bytes s = .next t ∧ s₀.Keeps c t := by
  refine ⟨_, rfl, ?_⟩
  split
  · exact h
  · split
    · exact h.noteFills.units
    · exact h.reducePosted

theorem State.Keeps.execSliceAtomic {agent op size pa v cmp} (h : s₀.Keeps c s) :
    ∃ t, execSliceAtomic agent op size pa v cmp s = .next t ∧ s₀.Keeps c t := by
  refine ⟨_, rfl, ?_⟩
  split
  · exact h
  · split
    · exact h.noteFills
    · split
      · next e =>
          exact (h.atomicAt.of_eq e).lockLine
      · next e =>
          exact (h.atomicAt.of_eq e).accFault

theorem State.Keeps.execLineLockEnd {pa} (h : s₀.Keeps c s) : ∃ t, execLineLockEnd pa s = .next t ∧ s₀.Keeps c t :=
  ⟨_, rfl, h.lockLine⟩

theorem State.Keeps.fetchLine {pa} (h : s₀.Keeps false s) : s₀.Keeps false (s.fetchLine pa) := by
  unfold State.fetchLine
  split
  · exact h
  · split
    · dsimp only
      split
      · exact h.noteFills.setWaited
      · split
        · exact h
        · split
          · next e =>
              exact h.tagCheck.allocLine.of_eq e
          · next e =>
              exact (h.tagCheck.allocLine.of_eq e).foldl (fun _ _ k => k.fetchSector)

theorem State.Keeps.onLine {pa g} (h : s₀.Keeps c s) (hg : ∀ u x1 x2 x3, s₀.Keeps c u → s₀.Keeps c (g u x1 x2 x3)) : s₀.Keeps c (s.onLine pa g) := by
  unfold State.onLine
  split
  · exact h
  · dsimp only
    split
    · exact hg _ _ _ _ h
    · exact h

theorem State.Keeps.flushWay {ch set w} (h : s₀.Keeps false s) : s₀.Keeps false (s.flushWay ch set w) := by
  unfold State.flushWay
  split
  · exact h.setWaited
  · exact h.writeBack.modWay

theorem State.Keeps.walkRange {r need g n} (h : s₀.Keeps false s) (hg : ∀ u x1 x2, s₀.Keeps false u → s₀.Keeps false (g u x1 x2).1) :
    s₀.Keeps false (s.walkRange r need g n).1 := by
  induction n generalizing s r need with
  | nil =>
    rw [State.walkRange]
    exact h
  | cons x l ih =>
    rw [State.walkRange]
    split
    · next e =>
        exact h.xlate.of_eq e
    · next e =>
        split
        · split
          · exact (h.xlate.of_eq e).setWaited
          · split
            · next e1 =>
                exact ih ((hg _ _ _ (h.xlate.of_eq e)).of_eq e1)
            · next e1 =>
                exact (hg _ _ _ (h.xlate.of_eq e)).of_eq e1
        · exact ih (h.xlate.of_eq e)

theorem State.Keeps.rangeEnd {r i st reason} (h : s₀.Keeps c s) : s₀.Keeps c (s.rangeEnd r i st reason) := by
  unfold State.rangeEnd
  split
  · exact h.raise.complete
  · exact h.complete

theorem State.Keeps.rangeOp {r i op need g} (h : s₀.Keeps c s) (hg : ∀ d u va pa, s.Keeps false u → s.Keeps false (g d u va pa).1) :
    s₀.Keeps c (s.rangeOp r i op need g) := by
  refine h.attempt (fun k => ?_)
  dsimp only
  split
  · exact k
  · exact (k.walkRange (hg _)).rangeEnd

theorem State.Keeps.prefetch1 {pa} (h : s₀.Keeps false s) : s₀.Keeps false (s.prefetch1 pa).1 := by
  unfold State.prefetch1
  split
  · exact h
  · exact h.fetchLine

theorem State.Keeps.flush1 {pa} (h : s₀.Keeps false s) : s₀.Keeps false (s.flush1 pa).1 :=
  h.onLine (fun _ _ _ _ k => k.flushWay)

theorem State.Keeps.invalidate1 {d va pa} (h : s₀.Keeps false s) : s₀.Keeps false (s.invalidate1 d va pa).1 := by
  unfold State.invalidate1
  dsimp only
  refine h.onLine (fun _ _ _ _ k => ?_)
  split
  · exact k.setWaited
  · refine .setWay ?_
    split
    · exact k
    · exact k.flushWay

theorem State.Keeps.unpin1 {pa} (h : s₀.Keeps c s) : s₀.Keeps c (s.unpin1 pa).1 := by
  unfold State.unpin1
  dsimp only
  refine h.onLine (fun _ _ _ _ k => ?_)
  exact k.modWay

theorem State.Keeps.execPrefetch {r i} (h : s₀.Keeps c s) : ∃ t, execPrefetch r i s = .next t ∧ s₀.Keeps c t :=
  ⟨_, rfl, h.rangeOp (fun _ _ _ _ k => k.prefetch1)⟩

theorem State.Keeps.execFlush {r i} (h : s₀.Keeps c s) : ∃ t, execFlush r i s = .next t ∧ s₀.Keeps c t :=
  ⟨_, rfl, h.rangeOp (fun _ _ _ _ k => k.flush1)⟩

theorem State.Keeps.execInvalidate {r i} (h : s₀.Keeps c s) : ∃ t, execInvalidate r i s = .next t ∧ s₀.Keeps c t :=
  ⟨_, rfl, h.rangeOp (fun _ _ _ _ k => k.invalidate1)⟩

theorem State.Keeps.execUnpin {r i} (h : s₀.Keeps c s) : ∃ t, execUnpin r i s = .next t ∧ s₀.Keeps c t :=
  ⟨_, rfl, h.rangeOp (fun _ _ _ _ k => k.unpin1)⟩

theorem State.Keeps.pinLine {pa} (h : s₀.Keeps false s) : s₀.Keeps false (s.pinLine pa).1 := by
  unfold State.pinLine
  split
  · exact h
  · dsimp only
    split
    · split
      · exact h.fetchLine
      · split
        · exact h
        · dsimp only
          refine h.fetchLine.onLine (fun _ _ _ _ k => ?_)
          exact k.modWay
    · split
      · exact h.fetchLine
      · split
        · exact h
        · dsimp only
          refine h.fetchLine.onLine (fun _ _ _ _ k => ?_)
          exact k.modWay

theorem State.Keeps.pinWalk {r n m} (h : s₀.Keeps false s) : s₀.Keeps false (s.pinWalk r n m).1 := by
  induction n generalizing s r m with
  | nil =>
    rw [State.pinWalk]
    exact h
  | cons x l ih =>
    rw [State.pinWalk]
    split
    · next e =>
        exact h.xlate.of_eq e
    · next e =>
        split
        · split
          · exact h.xlate.of_eq e
          · split
            · exact (h.xlate.of_eq e).setWaited
            · split
              · next e1 =>
                  exact ((h.xlate.of_eq e).pinLine).of_eq e1
              · next e1 =>
                  exact ih (((h.xlate.of_eq e).pinLine).of_eq e1)
        · exact ih (h.xlate.of_eq e)

theorem State.Keeps.execPin {r i} (h : s₀.Keeps c s) : ∃ t, execPin r i s = .next t ∧ s₀.Keeps c t := by
  refine ⟨_, rfl, ?_⟩
  refine h.attempt (fun k => ?_)
  split
  · exact k
  · dsimp only
    split
    · exact k.complete
    · split
      · next e =>
          exact (k.pinWalk.of_eq e).complete
      · next e =>
          exact ((k.pinWalk.of_eq e).foldl (fun _ _ k1 => k1.unpin1)).rangeEnd

theorem State.Keeps.waitGo {w} (h : s₀.Keeps c s) : s₀.Keeps c (s.waitGo w) := by
  unfold State.waitGo
  split
  · split
    · exact h
    · exact h.units.heldMemGo
  · split
    · exact h
    · exact h.units.heldMemGo

theorem State.Keeps.fillGo {pa} (h : s₀.Keeps c s) : s₀.Keeps c (s.fillGo pa) := by
  unfold State.fillGo
  split
  · exact h
  · dsimp only
    split
    · exact h.units
    · exact h.units.tagCheck.demandFill

theorem State.Keeps.execFillWaitRelease {sl set} (h : s₀.Keeps c s) : ∃ t, execFillWaitRelease sl set s = .next t ∧ s₀.Keeps c t := by
  refine ⟨_, rfl, ?_⟩
  dsimp only
  split
  · exact (h.foldl (fun _ _ k => k.waitGo)).foldl (fun _ _ k => k.fillGo)
  · exact (((h.foldl (fun _ _ k => k.waitGo)).foldl (fun _ _ k => k.fillGo)).units).foldl (fun _ _ k => k.reducePosted)

theorem State.Keeps.setMode {tq b v} (h : s₀.Keeps c s) : s₀.Keeps c (s.setMode tq b v) :=
  h.units

theorem State.Keeps.setPend {tq b v} (h : s₀.Keeps c s) : s₀.Keeps c (s.setPend tq b v) :=
  h.units

theorem State.Keeps.switchStart {tq b cache} (h : s₀.Keeps c s) : s₀.Keeps c (s.switchStart tq b cache) :=
  h.setMode

theorem State.Keeps.modeRequest {tq b cache} (h : s₀.Keeps c s) : s₀.Keeps c (s.modeRequest tq b cache) := by
  unfold State.modeRequest
  dsimp only
  split
  · refine .setPend ?_
    split
    · exact h.units
    · exact h
  · split
    · exact h
    · exact h.switchStart

theorem State.Keeps.modeOpsCheck (h : s₀.Keeps c s) : s₀.Keeps c (s.modeOpsCheck) :=
  h.units.foldl (fun _ _ k => k.complete)

theorem State.Keeps.execSetCacheMode {r i} (h : s₀.Keeps c s) : ∃ t, execSetCacheMode r i s = .next t ∧ s₀.Keeps c t := by
  refine ⟨_, rfl, ?_⟩
  split
  · exact h
  · dsimp only
    split
    · exact h.complete
    · exact ((h.markRan.foldl (fun _ _ k => k.modeRequest)).units).modeOpsCheck

theorem State.Keeps.bgZero {t' die q b} (h : s₀.Keeps c s) : s₀.Keeps c (s.bgZero t' die q b) :=
  h.stored (by exact ⟨id, id, spWf_filter _ _, id, id⟩)

theorem State.Keeps.execSwitchToCache {t' q b} (h : s₀.Keeps c s) : ∃ t, execSwitchToCache t' q b s = .next t ∧ s₀.Keeps c t := by
  refine ⟨_, rfl, ?_⟩
  dsimp only
  split
  · exact h.bgZero.units
  · exact h

theorem State.Keeps.movePinned {sl set way} (h : s₀.Keeps c s) : s₀.Keeps c (s.movePinned sl set way) := by
  unfold State.movePinned
  dsimp only
  split
  · exact h
  · exact h.evict.setWay.setWay

theorem State.Keeps.execSwitchToScratchpad {t' q b} (h : s₀.Keeps c s) : ∃ t, execSwitchToScratchpad t' q b s = .next t ∧ s₀.Keeps c t := by
  refine ⟨_, rfl, ?_⟩
  dsimp only
  split
  · refine (((h.foldl (fun _ _ k1 => ?_)).foldl (fun _ _ k1 => k1.evict)).bgZero).units
    split
    · exact k1.movePinned
    · exact k1
  · exact h

theorem State.Keeps.execModeSwitchComplete {t' q b} (h : s₀.Keeps c s) : ∃ t, execModeSwitchComplete t' q b s = .next t ∧ s₀.Keeps c t := by
  refine ⟨_, rfl, ?_⟩
  dsimp only
  split
  · refine .modeOpsCheck ?_
    split
    · refine .switchStart (.distBump ?_)
      split
      · split
        · exact h.units.setMode.setPend.units
        · exact h.units.setMode.setPend
      · split
        · exact h.units.setMode.setPend.units
        · exact h.units.setMode.setPend
    · refine .distBump ?_
      split
      · split
        · exact h.units.setMode.setPend.units
        · exact h.units.setMode.setPend
      · split
        · exact h.units.setMode.setPend.units
        · exact h.units.setMode.setPend
  · exact h

theorem State.Keeps.flushAll (h : s₀.Keeps c s) : s₀.Keeps c (s.flushAll) :=
  (h.foldl (fun _ _ k1 => k1.writeBack)).units

theorem State.Keeps.applyStart (h : s₀.Keeps c s) : s₀.Keeps c (s.applyStart) := by
  unfold State.applyStart
  dsimp only
  split
  · exact h.rset.flushAll.rset.units
  · exact h.rset

theorem State.Keeps.execApply (h : s₀.Keeps c s) : ∃ t, execApply s = .next t ∧ s₀.Keeps c t := by
  refine ⟨_, rfl, ?_⟩
  split
  · exact h
  · split
    · exact h.rset
    · exact h.applyStart

theorem State.Keeps.execApplyLatchedStart (h : s₀.Keeps c s) : ∃ t, execApplyLatchedStart s = .next t ∧ s₀.Keeps c t := by
  refine ⟨_, rfl, ?_⟩
  split
  · exact h.rset.applyStart
  · exact h

theorem State.Keeps.regionUndefined {r} (h : s₀.Keeps c s) : s₀.Keeps c (s.regionUndefined r) := by
  unfold State.regionUndefined
  dsimp only
  exact h.foldl (fun _ _ k => k.fresh.stored (by exact ⟨id, fun k => memWf_memPut k _ _, id, id, id⟩))

theorem State.Keeps.applyRegion {old new_ n} (h : s₀.Keeps c s) : s₀.Keeps c (s.applyRegion old new_ n) := by
  unfold State.applyRegion
  dsimp only
  split
  · exact h.rset.rset
  · split
    · exact h.rset
    · exact h.rset.regionUndefined.rset

theorem State.Keeps.execApplyComplete (h : s₀.Keeps c s) : ∃ t, execApplyComplete s = .next t ∧ s₀.Keeps c t := by
  refine ⟨_, rfl, ?_⟩
  split
  · exact (((((h.foldl (fun _ _ k => k.applyRegion)).units).rset).units).foldl (fun _ _ k => k.heldMemGo)).distBump
  · exact h

theorem State.Keeps.execRegionLostClear {n} (h : s₀.Keeps c s) : ∃ t, execRegionLostClear n s = .next t ∧ s₀.Keeps c t := by
  refine ⟨_, rfl, ?_⟩
  split
  · exact h.rset
  · exact h

theorem State.Keeps.chanAccess {agent pa wr bytes} (h : s₀.Keeps c s) : s₀.Keeps c (s.chanAccess agent pa wr bytes) := by
  unfold State.chanAccess
  split
  · exact h.accFault
  · split
    · exact h
    · split
      · split
        · split
          · exact h.chanPutSector
          · exact h.chanMerge
        · split
          · exact h.chanTouch
          · exact h.chanTouch.accFault

theorem State.Keeps.execDramAccess {agent pa wr bytes} (h : s₀.Keeps c s) : ∃ t, execDramAccess agent pa wr bytes s = .next t ∧ s₀.Keeps c t := by
  refine ⟨_, rfl, ?_⟩
  split
  · split
    · split
      · exact h.holdMem
      · exact h.foldl (fun _ _ k => k.chanAccess)
    · split
      · exact h.holdMem
      · exact h.foldl (fun _ _ k => k.chanAccess)
  · exact h

theorem State.Keeps.execRefresh {ch bank postpone} (h : s₀.Keeps c s) : ∃ t, execRefresh ch bank postpone s = .next t ∧ s₀.Keeps c t := by
  refine ⟨_, rfl, ?_⟩
  split
  · dsimp only
    split <;> exact h.units
  · exact h

theorem State.Keeps.setPileBand {p' band} (h : s₀.Keeps c s) : s₀.Keeps c (s.setPileBand p' band) := by
  unfold State.setPileBand
  dsimp only
  split
  · split
    · exact h.rset.rset.raise
    · exact h.rset.rset
  · split
    · exact h.rset.rset.raise
    · exact h.rset.rset

theorem State.Keeps.execPileBandChange {p'} (h : s₀.Keeps c s) : ∃ t, execPileBandChange p' s = .next t ∧ s₀.Keeps c t := by
  refine ⟨_, rfl, ?_⟩
  split
  · exact h.setPileBand
  · exact h

theorem State.Keeps.scrubSector {ch a} (h : s₀.Keeps c s) : s₀.Keeps c (s.scrubSector ch a) := by
  unfold State.scrubSector
  dsimp only
  split
  · exact h
  · split
    · exact h
    · split
      · exact h.chanTouch
      · refine .units ?_
        split
        · exact h.chanTouch.rowIsDue
        · exact h.chanTouch
    · exact h.chanTouch.raise

theorem State.Keeps.execPileScrub {ch n} (h : s₀.Keeps c s) : ∃ t, execPileScrub ch n s = .next t ∧ s₀.Keeps c t := by
  refine ⟨_, rfl, ?_⟩
  split
  · dsimp only
    split
    · refine .units (.foldl ?_ (fun _ _ k => k.scrubSector))
      split
      · exact h.units
      · exact h
    · refine .units (.foldl ?_ (fun _ _ k => k.scrubSector))
      split
      · exact h.units
      · exact h
  · exact h

theorem State.Keeps.spareSector {ch a} (h : s₀.Keeps c s) : s₀.Keeps c (s.spareSector ch a) := by
  unfold State.spareSector
  dsimp only
  split
  · exact h
  · exact h.side.dropInj
  · exact h.side

theorem State.Keeps.execRowRetirement {ch bank row} (h : s₀.Keeps c s) : ∃ t, execRowRetirement ch bank row s = .next t ∧ s₀.Keeps c t := by
  refine ⟨_, rfl, ?_⟩
  dsimp only
  split
  · split
    · split
      · exact ((((h.units.foldl (fun _ _ k => k.spareSector)).units).raise).commit).zeroReserve
      · exact (((h.units.foldl (fun _ _ k => k.spareSector)).units).raise).commit
    · split
      · exact h.units
      · exact h.units.raise
  · exact h

theorem State.Keeps.coilLost {ch layer coil} (h : s₀.Keeps c s) : s₀.Keeps c (s.coilLost ch layer coil) := by
  unfold State.coilLost
  split
  · dsimp only
    split
    · split
      · exact h.units.raise.commit.zeroReserve
      · exact h.units.raise.commit
    · exact h.fenceChannel
  · exact h

end
end Sys2Proof.Machine
end

section
/-!
PROOFS. What every step keeps (`State.Keeps`): the piles, the network, the host port and kernels.
-/

namespace Sys2Proof.Machine
open State

set_option Elab.async false

section
variable {c : Bool} {s₀ s t : State}

theorem State.Keeps.baseUnitLost {ch unit} (h : s₀.Keeps c s) : s₀.Keeps c (s.baseUnitLost ch unit) := by
  unfold State.baseUnitLost
  split
  · exact h.fenceChannel
  · exact h

theorem State.Keeps.execCoilLoss {ch layer coil} (h : s₀.Keeps c s) : ∃ t, execCoilLoss ch layer coil s = .next t ∧ s₀.Keeps c t := by
  refine ⟨_, rfl, ?_⟩
  split
  · exact h.baseUnitLost
  · exact h.coilLost

theorem State.Keeps.execPileFailed {p'} (h : s₀.Keeps c s) : ∃ t, execPileFailed p' s = .next t ∧ s₀.Keeps c t := by
  refine ⟨_, rfl, ?_⟩
  split
  · exact h.fencePile
  · exact h

theorem State.Keeps.setQueue {link l} (h : s₀.Keeps c s) : s₀.Keeps c (s.setQueue link l) :=
  h.units

theorem State.Keeps.queuePut {link agent urgency} (h : s₀.Keeps c s) : s₀.Keeps c (s.queuePut link agent urgency) := by
  unfold State.queuePut
  split
  · exact h.setQueue.injDone
  · exact h.setQueue

theorem State.Keeps.queueRead {link e'} (h : s₀.Keeps c s) : s₀.Keeps c (s.queueRead link e') := by
  unfold State.queueRead
  split
  · exact h.faultAgentI
  · exact h

theorem State.Keeps.queueDrain {link} (h : s₀.Keeps c s) : s₀.Keeps c (s.queueDrain link) :=
  h.setQueue.foldl (fun _ _ k => k.queueRead)

theorem State.Keeps.queueReset {link} (h : s₀.Keeps c s) : s₀.Keeps c (s.queueReset link) :=
  h.setQueue

theorem State.Keeps.setInst {kind i x} (h : s₀.Keeps c s) : s₀.Keeps c (s.setInst kind i x) :=
  h.units

theorem State.Keeps.resourceCycle {kind i l} (h : s₀.Keeps c s) : s₀.Keeps c (s.resourceCycle kind i l) := by
  unfold State.resourceCycle
  dsimp only
  split
  · exact h.setInst
  · split
    · exact h.setInst.radd
    · split
      · exact h.setInst.radd
      · exact h.setInst

theorem State.Keeps.routeTables {t'} (h : s₀.Keeps c s) : s₀.Keeps c (s.routeTables t') :=
  h.units

theorem State.Keeps.execRouteTableWrite {t'} (h : s₀.Keeps c s) : ∃ t, execRouteTableWrite t' s = .next t ∧ s₀.Keeps c t := by
  refine ⟨_, rfl, ?_⟩
  split
  · exact h.routeTables.distBump
  · exact h

theorem State.Keeps.crcFailed {link} (h : s₀.Keeps c s) : s₀.Keeps c (s.crcFailed link) := by
  unfold State.crcFailed
  dsimp only
  split <;> exact h.units

theorem State.Keeps.crossing {link req} (h : s₀.Keeps c s) : s₀.Keeps c (s.crossing link req) := by
  unfold State.crossing
  split
  · exact h
  · split
    · exact h
    · dsimp only
      split
      · exact h.queuePut
      · exact h.queuePut.queueDrain

theorem State.Keeps.execFlitReplay {link req} (h : s₀.Keeps c s) : ∃ t, execFlitReplay link req s = .next t ∧ s₀.Keeps c t := by
  refine ⟨_, rfl, ?_⟩
  dsimp only
  split
  · exact h
  · refine .crossing ?_
    split
    · exact h.injTransfer.crcFailed.radd
    · exact h.injTransfer.crcFailed

theorem State.Keeps.quadrantLost {t' q} (h : s₀.Keeps c s) : s₀.Keeps c (s.quadrantLost t' q) :=
  (((h.units.fenceFrond.foldl (fun _ _ k => k.fenceChannel)).neitherMode).units).distBump

theorem State.Keeps.routerFailed {t' k'} (h : s₀.Keeps c s) : s₀.Keeps c (s.routerFailed t' k') := by
  unfold State.routerFailed
  split
  · split
    · exact h.units.fenceTower
    · exact h.quadrantLost
  · exact h

theorem State.Keeps.execRouterFailed {t' k'} (h : s₀.Keeps c s) : ∃ t, execRouterFailed t' k' s = .next t ∧ s₀.Keeps c t := by
  refine ⟨_, rfl, ?_⟩
  split
  · exact h.routerFailed
  · exact h

theorem State.Keeps.quadrantCheck {t' q} (h : s₀.Keeps c s) : s₀.Keeps c (s.quadrantCheck t' q) := by
  unfold State.quadrantCheck
  split
  · exact h.quadrantLost
  · exact h

theorem State.Keeps.laneAdd {k' lane} (h : s₀.Keeps c s) : s₀.Keeps c (s.laneAdd k' lane) :=
  h.units

theorem State.Keeps.laneCommit {k' used} (h : s₀.Keeps c s) : s₀.Keeps c (s.laneCommit k' used) :=
  h.commit

theorem State.Keeps.netLane {t' l lane} (h : s₀.Keeps c s) : s₀.Keeps c (s.netLane t' l lane) := by
  unfold State.netLane
  dsimp only
  split
  · exact h
  · split
    · exact h.units.laneAdd.raise.laneCommit.zeroReserve
    · exact h.rbit.raise.addFence.laneCommit.foldl (fun _ _ k => k.quadrantCheck)

theorem State.Keeps.towerSpare {t' lane used} (h : s₀.Keeps c s) : s₀.Keeps c (s.towerSpare t' lane used) := by
  unfold State.towerSpare
  dsimp only
  split
  · exact h.raise.laneCommit.zeroReserve
  · exact h.raise.laneCommit

theorem State.Keeps.towerNarrow {t' lane used} (h : s₀.Keeps c s) : s₀.Keeps c (s.towerNarrow t' lane used) := by
  unfold State.towerNarrow
  dsimp only
  split
  · exact h.laneCommit
  · split
    · exact h.laneCommit.rset.fenceTower
    · exact h.laneCommit.rset.distBump

theorem State.Keeps.towerLane {t' lane} (h : s₀.Keeps c s) : s₀.Keeps c (s.towerLane t' lane) := by
  unfold State.towerLane
  dsimp only
  split
  · exact h.units.laneAdd.towerSpare
  · exact h.units.laneAdd.towerNarrow

theorem State.Keeps.stubLane {f lane} (h : s₀.Keeps c s) : s₀.Keeps c (s.stubLane f lane) := by
  unfold State.stubLane
  dsimp only
  split
  · exact h.units.laneAdd.raise.laneCommit.zeroReserve
  · split
    · exact h
    · exact h.raise.addFence.fenceFrond

theorem State.Keeps.execNetworkLinkRetrain {link failed} (h : s₀.Keeps c s) : ∃ t, execNetworkLinkRetrain link failed s = .next t ∧ s₀.Keeps c t := by
  refine ⟨_, rfl, ?_⟩
  split
  · exact h
  · dsimp only
    refine .queueDrain ?_
    split
    · exact h.units.foldl (fun _ _ k => k.netLane)
    · split
      · exact h.units.foldl (fun _ _ k => k.towerLane)
      · split
        · exact h.units.foldl (fun _ _ k => k.stubLane)
        · exact h.units

theorem State.Keeps.applyReset {f} (h : s₀.Keeps c s) : s₀.Keeps c (s.applyReset f) :=
  h.dropHeld.dmaOut.logicLost.queueDrain.queueReset.modFr

theorem State.Keeps.execFrondDrain {f} (h : s₀.Keeps c s) : ∃ t, execFrondDrain f s = .next t ∧ s₀.Keeps c t := by
  refine ⟨_, rfl, ?_⟩
  split
  · dsimp only
    split
    · split
      · exact h.sbDrain.applyReset
      · exact h
    · split
      · exact h.beginDrain.sbDrain.applyReset
      · exact h.beginDrain
  · exact h

theorem State.Keeps.execDrainTimeout {f} (h : s₀.Keeps c s) : ∃ t, execDrainTimeout f s = .next t ∧ s₀.Keeps c t := by
  refine ⟨_, rfl, ?_⟩
  split
  · exact h.sbDrain.raise.applyReset
  · exact h

theorem State.Keeps.execRequestPromotion {kind inst reqs} (h : s₀.Keeps c s) :
    ∃ t, execRequestPromotion kind inst reqs s = .next t ∧ s₀.Keeps c t := by
  refine ⟨_, rfl, ?_⟩
  split
  · exact h.resourceCycle
  · exact h

theorem State.Keeps.slotCommit {k'} (h : s₀.Keeps c s) : s₀.Keeps c (s.slotCommit k') := by
  unfold State.slotCommit
  dsimp only
  split
  · exact h.rbit
  · exact h.units.rbit

theorem State.Keeps.execSlotTableCommit {bits} (h : s₀.Keeps c s) : ∃ t, execSlotTableCommit bits s = .next t ∧ s₀.Keeps c t := by
  refine ⟨_, rfl, ?_⟩
  split
  · exact h
  · refine h.foldl (fun _ _ k1 => ?_)
    split
    · exact k1.units
    · exact k1.slotCommit

theorem State.Keeps.slotTake {k'} (h : s₀.Keeps c s) : s₀.Keeps c (s.slotTake k') := by
  unfold State.slotTake
  split
  · exact h.units.rbit
  · exact h

theorem State.Keeps.execSlotTableLatchedCommit {k'} (h : s₀.Keeps c s) : ∃ t, execSlotTableLatchedCommit k' s = .next t ∧ s₀.Keeps c t := by
  refine ⟨_, rfl, ?_⟩
  split
  · exact h.slotTake.units.slotCommit
  · exact h

theorem State.Keeps.drawBytes {n} (h : s₀.Keeps c s) : s₀.Keeps c (State.drawBytes n s).1 := by
  induction n generalizing s with
  | zero =>
    rw [State.drawBytes]
    exact h
  | succ n ih =>
    rw [State.drawBytes]
    split
    · next e =>
        split
        · next e1 =>
            exact (ih (h.fresh.of_eq_snd e)).of_eq e1

theorem State.Keeps.random {n} {r} (h : s₀.Keeps c s) (e : s.random n = some r) : s₀.Keeps c r.1 := by
  unfold State.random at e
  split at e
  · cases e
    exact h.units.drawBytes
  · cases e

theorem State.Keeps.ecdsa {key msg} (h : s₀.Keeps c s) : s₀.Keeps c (s.ecdsa key msg).1 := by
  unfold State.ecdsa
  split
  · next e =>
      exact (h.random e :)
  · exact h

theorem State.Keeps.newKey {x} (h : s₀.Keeps c s) (e : s.newKey = some x) : s₀.Keeps c x.1 := by
  unfold State.newKey at e
  exact h.random e

theorem State.Keeps.issueAlias (h : s₀.Keeps c s) : s₀.Keeps c (s.issueAlias) :=
  h.ecdsa.units

theorem State.Keeps.manRefused {c' reason} (h : s₀.Keeps c s) : s₀.Keeps c (s.manRefused c' reason) :=
  h.radd.raise

theorem State.Keeps.ldgAppend {ws n} (h : s₀.Keeps c s) : s₀.Keeps c (s.ldgAppend ws n) :=
  h.units

theorem State.Keeps.setTdi {v} (h : s₀.Keeps c s) : s₀.Keeps c (s.setTdi v) :=
  h.rset.rset

theorem State.Keeps.tdispLock (h : s₀.Keeps c s) : s₀.Keeps c (s.tdispLock) :=
  h.raise

theorem State.Keeps.ringHalt {r reason loc} (h : s₀.Keeps c s) : s₀.Keeps c (s.ringHalt r reason loc) := by
  unfold State.ringHalt
  dsimp only
  split
  · exact h.raise.rset.setRing.rset.radd.radd
  · exact h.raise.rset

theorem State.Keeps.setIde {n v} (h : s₀.Keeps c s) : s₀.Keeps c (s.setIde n v) :=
  h.units

theorem State.Keeps.ideStat (h : s₀.Keeps c s) : s₀.Keeps c (s.ideStat) :=
  h.rset.rset

theorem State.Keeps.ideZero (h : s₀.Keeps c s) : s₀.Keeps c (s.ideZero) :=
  h.units.ideStat

theorem State.Keeps.tdiError (h : s₀.Keeps c s) : s₀.Keeps c (s.tdiError) := by
  unfold State.tdiError
  split
  · exact h.setTdi.foldl (fun _ _ k => k.ringHalt)
  · exact h

theorem State.Keeps.ideFail {n} (h : s₀.Keeps c s) : s₀.Keeps c (s.ideFail n) := by
  unfold State.ideFail
  dsimp only
  split
  · exact h.raise.addFence.units.ideZero.rset.units.tdiError
  · exact h.raise.addFence.units.ideZero.rset.units

theorem State.Keeps.ringReset {r} (h : s₀.Keeps c s) : s₀.Keeps c (s.ringReset r) :=
  h.setRing.foldl (fun _ _ k => k.dmaResume)

theorem State.Keeps.hostPortReset (h : s₀.Keeps c s) : s₀.Keeps c (s.hostPortReset) :=
  (((((((h.foldl (fun _ _ k => k.ringReset)).foldl (fun _ _ k => k.complete)).units).stored (by exact ⟨spWf_filter _ _, id, id, id, id⟩)).rset).ideZero).setTdi).rset

theorem State.Keeps.execHostPortReset (h : s₀.Keeps c s) : ∃ t, execHostPortReset s = .next t ∧ s₀.Keeps c t :=
  ⟨_, rfl, h.hostPortReset⟩

theorem State.Keeps.hostLinkDown (h : s₀.Keeps c s) : s₀.Keeps c (s.hostLinkDown) := by
  unfold State.hostLinkDown
  split
  · exact h.units.rset.rset.rset.radd
  · exact h

theorem State.Keeps.execLinkDown {long} (h : s₀.Keeps c s) : ∃ t, execLinkDown long s = .next t ∧ s₀.Keeps c t := by
  refine ⟨_, rfl, ?_⟩
  dsimp only
  split
  · exact h.hostLinkDown.raise.addFence.hostPortReset
  · exact h.hostLinkDown

theorem State.Keeps.execHostLinkUp {rate width} (h : s₀.Keeps c s) : ∃ t, execHostLinkUp rate width s = .next t ∧ s₀.Keeps c t := by
  refine ⟨_, rfl, ?_⟩
  split
  · dsimp only
    refine .units ?_
    split
    · exact h.rset.rset.rset.units.dropFence.raise
    · exact h.rset.rset.rset.units.dropFence
  · exact h

theorem State.Keeps.execIdeIntegrity {stream} (h : s₀.Keeps c s) : ∃ t, execIdeIntegrity stream s = .next t ∧ s₀.Keeps c t := by
  refine ⟨_, rfl, ?_⟩
  split
  · exact h.ideFail
  · exact h

theorem State.Keeps.execSidebandFrame {toModule perst} (h : s₀.Keeps c s) : ∃ t, execSidebandFrame toModule perst s = .next t ∧ s₀.Keeps c t := by
  refine ⟨_, rfl, ?_⟩
  split
  · split
    · dsimp only
      split
      · exact h.units.hostPortReset
      · exact h.units
    · exact h
  · exact h.units

theorem State.Keeps.sidebandLost (h : s₀.Keeps c s) : s₀.Keeps c (s.sidebandLost) := by
  unfold State.sidebandLost
  split
  · exact h.rset.raise.addFence.units.hostPortReset
  · exact h

theorem State.Keeps.execSidebandLost (h : s₀.Keeps c s) : ∃ t, execSidebandLost s = .next t ∧ s₀.Keeps c t :=
  ⟨_, rfl, h.sidebandLost⟩

theorem State.Keeps.execSidebandLockGained (h : s₀.Keeps c s) : ∃ t, execSidebandLockGained s = .next t ∧ s₀.Keeps c t :=
  ⟨_, rfl, h.units.rset⟩

theorem State.Keeps.execAtsInvalidation {addr len how} (h : s₀.Keeps c s) : ∃ t, execAtsInvalidation addr len how s = .next t ∧ s₀.Keeps c t :=
  ⟨_, rfl, h.units.radd⟩

theorem State.Keeps.execHdmDecoderCommit {n base size ways gran on} (h : s₀.Keeps c s) :
    ∃ t, execHdmDecoderCommit n base size ways gran on s = .next t ∧ s₀.Keeps c t := by
  refine ⟨_, rfl, ?_⟩
  split
  · exact h
  · split
    · exact h.tdispLock
    · dsimp only
      split
      · split <;> exact h.units
      · split
        · split
          · split <;> exact h.units
          · refine .raise ?_
            split <;> exact h.units
        · split
          · split <;> exact h.units
          · refine .raise ?_
            split <;> exact h.units

theorem State.Keeps.execCxlMemAccess {hpa wr bytes} (h : s₀.Keeps c s) : ∃ t, execCxlMemAccess hpa wr bytes s = .next t ∧ s₀.Keeps c t := by
  refine ⟨_, rfl, ?_⟩
  extract_lets poison
  have hp {u} (k : s₀.Keeps c u) : s₀.Keeps c (poison u) := by
    unfold poison
    split
    · exact k
    · exact k.units
  clear_value poison
  split
  · exact h
  · split
    · exact hp h
    · split
      · exact hp h.raise
      · extract_lets pa
        split
        · split
          · exact h.holdMem
          · split
            next e => exact (h.write.of_eq e).accFault
            next e => exact h.write.of_eq e
        · split
          · exact h.holdMem
          · split
            next e => exact (h.read.of_eq e).units
            next e => exact hp (h.read.of_eq e).accFault

theorem State.Keeps.freeRegs {f g t' n} (h : s₀.Keeps c s) : s₀.Keeps c (s.freeRegs f g t' n) := by
  induction n generalizing s f g t' with
  | nil =>
    rw [State.freeRegs]
    exact h
  | cons x l ih =>
    rw [State.freeRegs]
    split
    · next e =>
        exact ih ((h.fresh.of_eq_snd e).setGreg)

theorem State.Keeps.execInstructionIssue {f g mask kind upset} (h : s₀.Keeps c s) :
    ∃ t, execInstructionIssue f g mask kind upset s = .next t ∧ s₀.Keeps c t := by
  refine ⟨_, rfl, ?_⟩
  dsimp only
  split
  · refine .issue ?_ (fun _ _ _ _ k => k.eachThread (fun _ _ k1 => k1.freeRegs.advance))
    split
    · exact h
    · exact h.modFr
  · refine .issue ?_ (fun _ _ _ _ k => k.eachThread (fun _ _ k1 => k1.putRegs.advance))
    split
    · exact h
    · exact h.modFr
  · refine .issue ?_ (fun _ _ _ _ k => k.eachThread (fun _ _ k1 => k1.modThr))
    split
    · exact h
    · exact h.modFr
  · refine .issue ?_ (fun _ _ _ _ k => k.trapEach)
    split
    · exact h
    · exact h.modFr

theorem State.Keeps.fma1 {f g op rd ra rb rc t'} (h : s₀.Keeps c s) : s₀.Keeps c (s.fma1 f g op rd ra rb rc t') := by
  unfold State.fma1
  dsimp only
  split
  · exact h.setGreg
  · exact h.setGreg
  · exact h.setGreg
  · exact h.setGreg
  · exact h.setGreg
  · exact h.setPred
  · exact h.setPred
  · exact h.setPred
  · exact h.setPred
  · exact h.setPred
  · exact h.setPred
  · exact h.setPred
  · exact h.setPred
  · exact h.setGreg.setGreg
  · split
    · exact h.setGreg
    · split
      · exact h.setGreg
      · exact h

theorem State.Keeps.execFmaInstruction {f g mask op rd ra rb rc} (h : s₀.Keeps c s) :
    ∃ t, execFmaInstruction f g mask op rd ra rb rc s = .next t ∧ s₀.Keeps c t :=
  ⟨_, rfl, h.issue (fun _ _ _ _ k => k.eachThread (fun _ _ k1 => k1.fma1.advance))⟩

theorem State.Keeps.execSpecialFunction {f g mask fn rd ra} (h : s₀.Keeps c s) :
    ∃ t, execSpecialFunction f g mask fn rd ra s = .next t ∧ s₀.Keeps c t :=
  ⟨_, rfl, h.issue (fun _ _ _ _ k => k.eachThread (fun _ _ k1 => k1.setGreg.advance))⟩

theorem State.Keeps.evalColl {f g} (h : s₀.Keeps c s) : s₀.Keeps c (s.evalColl f g) := by
  unfold State.evalColl
  split
  · exact h
  · dsimp only
    split
    · split
      · split
        · exact h.foldl (fun _ _ k => k.regFault)
        · exact ((h.foldl (fun _ _ k => k.countRegs)).foldl (fun _ _ k => k.foldl (fun _ _ k1 => k1.setGreg))).foldl (fun _ _ k => k.advance.modThr)
      · exact h
    · exact h

theorem State.Keeps.beginWaits {f g ts w} (h : s₀.Keeps c s) : s₀.Keeps c (s.beginWaits f g ts w) :=
  (h.foldl (fun _ _ k => k.modThr)).units

theorem State.Keeps.collective {f g mask code d sreg x} (h : s₀.Keeps c s) : s₀.Keeps c (s.collective f g mask code d sreg x) := by
  unfold State.collective
  refine h.issue (fun _ _ _ _ k => ?_)
  split
  · exact k.trapEach
  · exact k.beginWaits.evalColl

theorem State.Keeps.execGshuf {f g mask d sreg i} (h : s₀.Keeps c s) : ∃ t, execGshuf f g mask d sreg i s = .next t ∧ s₀.Keeps c t :=
  ⟨_, rfl, h.collective⟩

theorem State.Keeps.execGxpose {f g mask d sreg} (h : s₀.Keeps c s) : ∃ t, execGxpose f g mask d sreg s = .next t ∧ s₀.Keeps c t :=
  ⟨_, rfl, h.collective⟩

theorem State.Keeps.execGmv {f g mask d sreg v} (h : s₀.Keeps c s) : ∃ t, execGmv f g mask d sreg v s = .next t ∧ s₀.Keeps c t :=
  ⟨_, rfl, h.collective⟩

theorem State.Keeps.execGred {f g mask op d sreg} (h : s₀.Keeps c s) : ∃ t, execGred f g mask op d sreg s = .next t ∧ s₀.Keeps c t :=
  ⟨_, rfl, h.collective⟩

theorem State.Keeps.execGscan {f g mask ty d sreg} (h : s₀.Keeps c s) : ∃ t, execGscan f g mask ty d sreg s = .next t ∧ s₀.Keeps c t :=
  ⟨_, rfl, h.collective⟩

theorem State.Keeps.evalBarG {f g b} (h : s₀.Keeps c s) : s₀.Keeps c (s.evalBarG f g b) := by
  unfold State.evalBarG
  dsimp only
  split
  · exact h.advanceAll
  · exact h

theorem State.Keeps.evalBarK {f k' b} (h : s₀.Keeps c s) : s₀.Keeps c (s.evalBarK f k' b) := by
  unfold State.evalBarK
  split
  · exact h
  · dsimp only
    split
    · exact h.foldl (fun _ _ k => k.advanceAll)
    · exact h

theorem State.Keeps.arrive {f g mask w ts} (h : s₀.Keeps c s) : s₀.Keeps c (s.arrive f g mask w ts) :=
  h.beginWaits.advanceAll

theorem State.Keeps.execBarG {f g mask b} (h : s₀.Keeps c s) : ∃ t, execBarG f g mask b s = .next t ∧ s₀.Keeps c t := by
  refine ⟨_, rfl, ?_⟩
  split
  · exact h.issue (fun _ _ _ _ k => k.arrive.evalBarG)
  · exact h

theorem State.Keeps.execBarK {f g mask b} (h : s₀.Keeps c s) : ∃ t, execBarK f g mask b s = .next t ∧ s₀.Keeps c t := by
  refine ⟨_, rfl, ?_⟩
  split
  · exact h.issue (fun _ _ _ _ k1 => k1.arrive.evalBarK)
  · exact h

theorem State.Keeps.reEval {f g} (h : s₀.Keeps c s) : s₀.Keeps c (s.reEval f g) := by
  unfold State.reEval
  extract_lets s1
  have h1 : s₀.Keeps c s1 := h.evalColl.foldl (fun _ _ k => k.evalBarG)
  clear_value s1
  cases Group.kernel _ with
  | none => exact h1
  | some _ =>
    dsimp only [Option.elim_some]
    refine h1.foldl (fun _ _ k => ?_)
    exact k.evalBarK

theorem State.Keeps.execExit {f g mask} (h : s₀.Keeps c s) : ∃ t, execExit f g mask s = .next t ∧ s₀.Keeps c t :=
  ⟨_, rfl, h.issue (fun _ _ _ _ k => ((k.foldl (fun _ _ k1 => k1.modThr)).advanceAll).reEval)⟩

theorem State.Keeps.execTrap {f g mask arg} (h : s₀.Keeps c s) : ∃ t, execTrap f g mask arg s = .next t ∧ s₀.Keeps c t :=
  ⟨_, rfl, h.issue (fun _ _ _ _ k => k.eachThread (fun _ _ k1 => k1.trap))⟩

theorem State.Keeps.execDivergentCollective {f g} (h : s₀.Keeps c s) : ∃ t, execDivergentCollective f g s = .next t ∧ s₀.Keeps c t := by
  refine ⟨_, rfl, ?_⟩
  split
  · exact h.trap
  · exact h

theorem State.Keeps.execBarrierDeadlock {f g} (h : s₀.Keeps c s) : ∃ t, execBarrierDeadlock f g s = .next t ∧ s₀.Keeps c t := by
  refine ⟨_, rfl, ?_⟩
  split
  · exact h.trap
  · exact h

theorem State.Keeps.execClusterPatternTest {f c' fails} (h : s₀.Keeps c s) : ∃ t, execClusterPatternTest f c' fails s = .next t ∧ s₀.Keeps c t := by
  refine ⟨_, rfl, ?_⟩
  split
  · dsimp only
    split
    · exact h.modFr.units.fenceEngine
    · exact h.modFr.units
  · exact h

theorem State.Keeps.placeEach {f g mask n place} (h : s₀.Keeps c s) (hplace : ∀ u k q t, s.Keeps false u → s.Keeps false (place u k q t)) :
    s₀.Keeps c (s.placeEach f g mask n place) := by
  unfold State.placeEach
  split
  · exact h
  · refine h.issue (fun _ _ _ _ k1 => ?_)
    split
    · exact k1.trapEach
    · exact k1.eachThread (fun _ _ k2 => hplace _ _ _ _ k2.sbDrain)

theorem State.Keeps.acmd1 {f g a n k' q t'} (h : s₀.Keeps c s) : s₀.Keeps c (s.acmd1 f g a n k' q t') := by
  unfold State.acmd1
  split
  · exact h.trapHere
  · split
    · exact h.faultKernel.advance
    · split
      · exact h.startWait
      · exact h.modArr.advance

theorem State.Keeps.execAcmd {f g mask a n} (h : s₀.Keeps c s) : ∃ t, execAcmd f g mask a n s = .next t ∧ s₀.Keeps c t := by
  refine ⟨_, rfl, ?_⟩
  split
  · exact h.placeEach (fun _ _ _ _ k1 => k1.acmd1)
  · exact h

theorem State.Keeps.dcmd1 {f g c' n k' q t'} (h : s₀.Keeps c s) : s₀.Keeps c (s.dcmd1 f g c' n k' q t') := by
  unfold State.dcmd1
  split
  · exact h.faultKernel.noteTag.advance
  · split
    · exact h.startWait
    · exact h.setDma.advance

theorem State.Keeps.execDcmd {f g mask c' n} (h : s₀.Keeps c s) : ∃ t, execDcmd f g mask c' n s = .next t ∧ s₀.Keeps c t := by
  refine ⟨_, rfl, ?_⟩
  split
  · exact h.placeEach (fun _ _ _ _ k1 => k1.dcmd1)
  · exact h

theorem State.Keeps.execAwait {f g mask a n} (h : s₀.Keeps c s) : ∃ t, execAwait f g mask a n s = .next t ∧ s₀.Keeps c t := by
  refine ⟨_, rfl, ?_⟩
  refine h.issue (fun _ _ _ _ k1 => k1.eachThread (fun _ _ k2 => ?_))
  split
  · exact k2.advance
  · exact k2.startWait

theorem State.Keeps.execDwait {f g mask c' n} (h : s₀.Keeps c s) : ∃ t, execDwait f g mask c' n s = .next t ∧ s₀.Keeps c t := by
  refine ⟨_, rfl, ?_⟩
  refine h.issue (fun _ _ _ _ k1 => k1.eachThread (fun _ _ k2 => ?_))
  split
  · exact k2.advance
  · exact k2.startWait

theorem State.Keeps.releaseKernel {f k'} (h : s₀.Keeps c s) : s₀.Keeps c (s.releaseKernel f k') := by
  unfold State.releaseKernel
  split
  · exact h
  · dsimp only
    refine (((h.foldl (fun _ _ k => k.units.setGrp.modFr)).foldl (fun _ _ k => ?_)).setKrn).dropFence
    split
    · exact k.modArr
    · exact k

theorem State.Keeps.discardCmds {f k'} (h : s₀.Keeps c s) : s₀.Keeps c (s.discardCmds f k') := by
  unfold State.discardCmds
  dsimp only
  refine (h.foldl (fun _ _ k => k.modArr)).foldl (fun _ _ k => .setDma ?_)
  split
  · split
    · exact k.rset
    · exact k
  · split
    · exact k.rset
    · exact k

theorem State.Keeps.execKernelAbort {f k'} (h : s₀.Keeps c s) : ∃ t, execKernelAbort f k' s = .next t ∧ s₀.Keeps c t := by
  refine ⟨_, rfl, ?_⟩
  split
  · exact h
  · split
    · exact h
    · split
      · exact h
      · exact h.discardCmds.sbDrain.releaseKernel.kernelDone

theorem State.Keeps.launchFail {f l reason fence} (h : s₀.Keeps c s) : s₀.Keeps c (s.launchFail f l reason fence) :=
  h.raise.kernelDone

theorem State.Keeps.launchTo {f l} (h : s₀.Keeps c s) : s₀.Keeps c (s.launchTo f l) := by
  unfold State.launchTo
  split
  · exact h.kernelDone
  · split
    · exact h.launchFail
    · split
      · exact h.launchFail
      · split
        · exact h.modFr
        · exact h.modFr.wakeReq

theorem State.Keeps.execLaunchRecord {f w0 w1 w2 w3 r i image} (h : s₀.Keeps c s) :
    ∃ t, execLaunchRecord f w0 w1 w2 w3 r i image s = .next t ∧ s₀.Keeps c t := by
  refine ⟨_, rfl, ?_⟩
  split
  · exact h.launchTo
  · exact h

theorem State.Keeps.startGroup {f k' entry p'} (h : s₀.Keeps c s) : s₀.Keeps c (s.startGroup f k' entry p') :=
  h.units.setGrp.foldl (fun _ _ k => k.setThr)

theorem State.Keeps.arrOwn {f k' tenant a} (h : s₀.Keeps c s) : s₀.Keeps c (s.arrOwn f k' tenant a) :=
  h.modArr

theorem State.Keeps.execKernelAdmission {f} (h : s₀.Keeps c s) : ∃ t, execKernelAdmission f s = .next t ∧ s₀.Keeps c t := by
  refine ⟨_, rfl, ?_⟩
  split
  · exact h
  · split
    · exact h
    · dsimp only
      split
      · exact ((h.setKrn.foldl (fun _ _ k => k.arrOwn)).foldl (fun _ _ k => k.startGroup)).modFr
      · exact h

theorem State.Keeps.execKernelExit {f k'} (h : s₀.Keeps c s) : ∃ t, execKernelExit f k' s = .next t ∧ s₀.Keeps c t := by
  refine ⟨_, rfl, ?_⟩
  split
  · exact h
  · split
    · dsimp only
      split
      · exact h.sbDrain
      · split
        · refine .kernelDone (.raise ?_)
          split
          · exact h.sbDrain.releaseKernel.sorNow
          · exact h.sbDrain.releaseKernel
        · refine .kernelDone ?_
          split
          · exact h.sbDrain.releaseKernel.sorNow
          · exact h.sbDrain.releaseKernel
    · exact h

theorem State.Keeps.ringEnable {r} (h : s₀.Keeps c s) : s₀.Keeps c (s.ringEnable r) := by
  unfold State.ringEnable
  split
  · exact h.rset.rset.rset.rset.rset.modRing
  · exact h.rset.raise

theorem State.Keeps.ringWriteOff {r} {u} (h : s₀.Keeps c s) (e : s.ringWriteOff r = some u) : s₀.Keeps c u := by
  unfold State.ringWriteOff at e
  split at e
  · cases e
    exact h
  · split at e
    · cases e
      exact h.tdispLock
    · cases e

theorem State.Keeps.execRingEnable {r} (h : s₀.Keeps c s) : ∃ t, execRingEnable r s = .next t ∧ s₀.Keeps c t := by
  refine ⟨_, rfl, ?_⟩
  split
  · next e =>
      exact h.ringWriteOff e
  · split
    · exact h.rset.ringEnable
    · exact h.rset.rset
    · exact h

theorem State.Keeps.ringStop {r} (h : s₀.Keeps c s) : s₀.Keeps c (s.ringStop r) := by
  unfold State.ringStop
  dsimp only
  split
  · exact h.rset.setRing.rset.radd.radd.units.foldl (fun _ _ k => k.complete)
  · split
    · exact h.rset.rset
    · exact h.rset

theorem State.Keeps.execRingDisable {r} (h : s₀.Keeps c s) : ∃ t, execRingDisable r s = .next t ∧ s₀.Keeps c t := by
  refine ⟨_, rfl, ?_⟩
  split
  · next e =>
      exact h.ringWriteOff e
  · exact h.ringStop

theorem State.Keeps.execRingDisableDone {r} (h : s₀.Keeps c s) : ∃ t, execRingDisableDone r s = .next t ∧ s₀.Keeps c t := by
  refine ⟨_, rfl, ?_⟩
  dsimp only
  split
  · split
    · exact h.rset.rset.ringEnable
    · exact h.rset
  · exact h

theorem State.Keeps.doorbellOff {r size ok} {u} (h : s₀.Keeps c s) (e : s.doorbellOff r size ok = some u) : s₀.Keeps c u := by
  unfold State.doorbellOff at e
  split at e
  · cases e
    exact h
  · split at e
    · cases e
      exact h.raise
    · split at e
      · cases e
        exact h.raise
      · cases e

theorem State.Keeps.execSqTail {r size v image} (h : s₀.Keeps c s) : ∃ t, execSqTail r size v image s = .next t ∧ s₀.Keeps c t := by
  refine ⟨_, rfl, ?_⟩
  dsimp only
  split
  · next e =>
      exact (h.foldl (fun _ _ k => k.hostStore)).doorbellOff e
  · split
    · exact (h.foldl (fun _ _ k => k.hostStore)).ringHalt
    · split
      · exact (h.foldl (fun _ _ k => k.hostStore)).ringHalt
      · exact (h.foldl (fun _ _ k => k.hostStore)).rset

theorem State.Keeps.execCqHead {r size v} (h : s₀.Keeps c s) : ∃ t, execCqHead r size v s = .next t ∧ s₀.Keeps c t := by
  refine ⟨_, rfl, ?_⟩
  split
  · next e =>
      exact h.doorbellOff e
  · dsimp only
    split
    · exact h.rset
    · exact h.ringHalt

-- `sub32` is hidden from the kernel, which else computes with its 2^32 in unary.
theorem State.Keeps.execDescriptorFetch {cp} (h : s₀.Keeps c s) : ∃ t, execDescriptorFetch cp s = .next t ∧ s₀.Keeps c t := by
  refine ⟨_, rfl, ?_⟩
  obtain ⟨sub, e⟩ : ∃ g, g = sub32 := ⟨_, rfl⟩
  rw [← e]
  split
  · exact h
  · split
    · exact h
    · dsimp only
      split
      · exact h.units.countHostFail.hostFault.ringHalt
      · exact h.units.atsFill.rset.modRing

theorem State.Keeps.startEffect {r i d} (h : s₀.Keeps c s) : s₀.Keeps c (s.startEffect r i d) := by
  unfold State.startEffect
  split
  · exact h.units
  · exact h

theorem State.Keeps.execDescriptorStart {r} (h : s₀.Keeps c s) : ∃ t, execDescriptorStart r s = .next t ∧ s₀.Keeps c t := by
  refine ⟨_, rfl, ?_⟩
  dsimp only
  split
  · exact h
  · split
    · exact h
    · split
      · exact h.setRing.complete
      · split
        · exact h.setRing.raise.complete
        · split
          · exact h.setRing.raise.complete
          · split
            · exact h.setRing.startEffect
            · exact h

theorem State.Keeps.ringIrq {r} (h : s₀.Keeps c s) : s₀.Keeps c (s.ringIrq r) :=
  h.msi.modRing

theorem State.Keeps.entryWritten {r irq} (h : s₀.Keeps c s) : s₀.Keeps c (s.entryWritten r irq) := by
  unfold State.entryWritten
  dsimp only
  split
  · exact h.rset.modRing.ringIrq
  · exact h.rset.modRing

theorem State.Keeps.execCompletionWrite {r} (h : s₀.Keeps c s) : ∃ t, execCompletionWrite r s = .next t ∧ s₀.Keeps c t := by
  refine ⟨_, rfl, ?_⟩
  split
  · exact h
  · dsimp only
    split
    · exact h.modRing.dmaResume
    · split
      · exact h
      · split
        · next e =>
            exact (((h.modRing.hostWrite.of_eq e).dmaResume).hostFault).ringHalt
        · next e =>
            exact ((h.modRing.hostWrite.of_eq e).dmaResume).entryWritten

theorem State.Keeps.execRingIrqTimer {r} (h : s₀.Keeps c s) : ∃ t, execRingIrqTimer r s = .next t ∧ s₀.Keeps c t := by
  refine ⟨_, rfl, ?_⟩
  split
  · split
    · exact h.ringIrq
    · exact h
  · exact h

theorem State.Keeps.execNop {r i} (h : s₀.Keeps c s) : ∃ t, execNop r i s = .next t ∧ s₀.Keeps c t := by
  refine ⟨_, rfl, ?_⟩
  split
  · exact h
  · exact h.complete

theorem State.Keeps.execFence {r i} (h : s₀.Keeps c s) : ∃ t, execFence r i s = .next t ∧ s₀.Keeps c t := by
  refine ⟨_, rfl, ?_⟩
  split
  · exact h
  · exact h.complete

theorem State.Keeps.execXlatInv {r i} (h : s₀.Keeps c s) : ∃ t, execXlatInv r i s = .next t ∧ s₀.Keeps c t := by
  refine ⟨_, rfl, ?_⟩
  split
  · exact h
  · dsimp only
    split
    · exact h
    · exact ((h.foldl (fun _ _ k => k.sbDrain)).xlatInv).complete

theorem State.Keeps.placeLaunch {loc f l} (h : s₀.Keeps c s) : s₀.Keeps c (s.placeLaunch loc f l) := by
  unfold State.placeLaunch
  split
  · exact h.raise.kernelDone
  · exact h.launchTo

theorem State.Keeps.execLaunch {r i} (h : s₀.Keeps c s) : ∃ t, execLaunch r i s = .next t ∧ s₀.Keeps c t := by
  refine ⟨_, rfl, ?_⟩
  split
  · dsimp only
    split
    · exact h.raise.complete
    · split
      · exact h
      · exact h.modRing.foldl (fun _ _ k => k.placeLaunch)
  · exact h

theorem State.Keeps.execRead {asid tenant va len} (h : s₀.Keeps false s) : s₀.Keeps false (s.execRead asid tenant va len).1 := by
  unfold State.execRead
  refine h.foldl_fst (fun _ _ k => ?_)
  split
  · exact k
  · split
    · next e =>
        exact k.xlate.of_eq e
    · next e =>
        split
        · exact ((k.xlate.of_eq e).noteFills).setWaited
        · split
          · next e1 =>
              exact ((k.xlate.of_eq e).read).of_eq e1
          · next e1 =>
              exact ((k.xlate.of_eq e).read).of_eq e1

theorem State.Keeps.icClear (h : s₀.Keeps c s) : s₀.Keeps c (s.icClear) :=
  h.foldl (fun _ _ k => k.modFr)

theorem State.Keeps.imageFail {r i reason} (h : s₀.Keeps c s) : s₀.Keeps c (s.imageFail r i reason) :=
  h.raise.complete

theorem State.Keeps.execImageLoad {r i} (h : s₀.Keeps c s) : ∃ t, execImageLoad r i s = .next t ∧ s₀.Keeps c t := by
  refine ⟨_, rfl, ?_⟩
  refine h.attempt (fun k => ?_)
  split
  · exact k
  · dsimp only
    split
    · next e =>
        exact (k.execRead.of_eq e).imageFail
    · next e =>
        split
        · exact (k.execRead.of_eq e).imageFail
        · split
          · next e1 =>
              exact (((k.execRead.of_eq e).execRead).of_eq e1).imageFail
          · next e1 =>
              split
              · exact (((k.execRead.of_eq e).execRead).of_eq e1).imageFail
              · split
                · exact (((k.execRead.of_eq e).execRead).of_eq e1).imageFail
                · split
                  · exact (((k.execRead.of_eq e).execRead).of_eq e1).imageFail
                  · exact (((((k.execRead.of_eq e).execRead).of_eq e1).units).icClear).complete

theorem State.Keeps.execImageUnload {r i} (h : s₀.Keeps c s) : ∃ t, execImageUnload r i s = .next t ∧ s₀.Keeps c t := by
  refine ⟨_, rfl, ?_⟩
  split
  · exact h
  · split
    · exact h
    · dsimp only
      split
      · exact h.imageFail
      · split
        · exact h.units
        · exact h.units.icClear.complete

theorem State.Keeps.placeDma {r i d} (h : s₀.Keeps c s) : s₀.Keeps c (s.placeDma r i d) := by
  unfold State.placeDma
  dsimp only
  split
  · exact h.raise.complete
  · split
    · exact h.complete
    · split
      · exact h.raise.complete
      · split
        · exact h
        · split
          · exact h
          · split
            · exact h.markRan.setDma
            · exact h.markRan.setDma.wakeReq

theorem State.Keeps.execRingCopy {r i} (h : s₀.Keeps c s) : ∃ t, execRingCopy r i s = .next t ∧ s₀.Keeps c t := by
  refine ⟨_, rfl, ?_⟩
  refine h.attempt (fun k => ?_)
  split
  · exact k
  · exact k.placeDma

end
end Sys2Proof.Machine
end

section
/-!
PROOFS. What every step keeps (`State.Keeps`): descriptors and sessions.
-/

namespace Sys2Proof.Machine
open State

set_option Elab.async false

section
variable {c : Bool} {s₀ s t : State}

theorem State.Keeps.execRingFill {r i} (h : s₀.Keeps c s) : ∃ t, execRingFill r i s = .next t ∧ s₀.Keeps c t := by
  refine ⟨_, rfl, ?_⟩
  refine h.attempt (fun k => ?_)
  split
  · exact k
  · exact k.placeDma

theorem State.Keeps.setSlot {x v} (h : s₀.Keeps c s) : s₀.Keeps c (s.setSlot x v) :=
  h.units

theorem State.Keeps.modSlot {x g} (h : s₀.Keeps c s) : s₀.Keeps c (s.modSlot x g) :=
  h.setSlot

theorem State.Keeps.setPool {k' v} (h : s₀.Keeps c s) : s₀.Keeps c (s.setPool k' v) :=
  h.units

theorem State.Keeps.sesIrq (h : s₀.Keeps c s) : s₀.Keeps c (s.sesIrq) := by
  unfold State.sesIrq
  split
  · exact h.msi
  · exact h

theorem State.Keeps.slotLost {x reason} (h : s₀.Keeps c s) : s₀.Keeps c (s.slotLost x reason) :=
  h.modSlot.raise.sesIrq

theorem State.Keeps.popPage {k'} (h : s₀.Keeps false s) : s₀.Keeps false (s.popPage k').1 := by
  unfold State.popPage
  dsimp only
  split
  · exact h
  · split
    · next e =>
        exact h.vread.of_eq e
    · next e =>
        exact (h.vread.of_eq e).setPool

theorem State.Keeps.pushPage {k' i} (h : s₀.Keeps false s) : s₀.Keeps false (s.pushPage k' i) := by
  unfold State.pushPage
  dsimp only
  split
  · next e =>
      exact h.vwrite.of_eq e
  · next e =>
      exact (h.vwrite.of_eq e).setPool

theorem State.Keeps.entryRead {p' va} (h : s₀.Keeps false s) : s₀.Keeps false (s.entryRead p' va).1 := by
  unfold State.entryRead
  split
  · next e =>
      exact h.vread.of_eq e
  · next e =>
      exact h.vread.of_eq e

theorem State.Keeps.entryWrite {p' va page} (h : s₀.Keeps false s) : s₀.Keeps false (s.entryWrite p' va page).1 := by
  unfold State.entryWrite
  split
  · next e =>
      exact h.vwrite.of_eq e
  · next e =>
      exact h.vwrite.of_eq e

theorem State.Keeps.listPage {x j} (h : s₀.Keeps false s) : s₀.Keeps false (s.listPage x j).1 :=
  h.entryRead

theorem State.Keeps.kvPage {x e'} (h : s₀.Keeps false s) : s₀.Keeps false (s.kvPage x e').1 := by
  unfold State.kvPage
  split
  · next e =>
      exact h.listPage.of_eq e
  · next e =>
      exact (h.listPage.of_eq e).entryRead

theorem State.Keeps.place {x list_ at_ page} (h : s₀.Keeps false s) : s₀.Keeps false (s.place x list_ at_ page).1 := by
  unfold State.place
  dsimp only
  split
  · exact h.entryWrite
  · split
    · next e =>
        exact h.listPage.of_eq e
    · next e =>
        exact (h.listPage.of_eq e).entryWrite

theorem State.Keeps.take {x list_ at_} (h : s₀.Keeps false s) : s₀.Keeps false (s.take x list_ at_).1 := by
  unfold State.take
  split
  · next e =>
      exact h.popPage.of_eq e
  · next e =>
      split
      · next e1 =>
          exact ((h.popPage.of_eq e).place).of_eq e1
      · next e1 =>
          exact (((h.popPage.of_eq e).place).of_eq e1).pushPage

theorem State.Keeps.grow {x n m j} (h : s₀.Keeps false s) : s₀.Keeps false (State.grow x n m s j).1 := by
  induction n generalizing s x m j with
  | zero =>
    rw [State.grow]
    exact h
  | succ n ih =>
    rw [State.grow]
    split
    · next e =>
        split
        · refine .of_eq ?_ e
          split
          · split
            · next e1 =>
                exact h.take.of_eq e1
            · next e1 =>
                exact h.take.of_eq e1
          · exact h
        · split
          · next e1 =>
              refine ih (.of_eq (.take (.of_eq ?_ e)) e1)
              split
              · split
                · next e2 =>
                    exact h.take.of_eq e2
                · next e2 =>
                    exact h.take.of_eq e2
              · exact h
          · next e1 =>
              refine .of_eq (.take (.of_eq ?_ e)) e1
              split
              · split
                · next e2 =>
                    exact h.take.of_eq e2
                · next e2 =>
                    exact h.take.of_eq e2
              · exact h

theorem State.Keeps.giveBack {rs} (h : s₀.Keeps false s) : s₀.Keeps false (s.giveBack rs) :=
  h.foldl (fun _ _ k => k.place.pushPage)

theorem State.Keeps.readAll {rd es} (h : s₀.Keeps c s) (hrd : ∀ u x1, s₀.Keeps c u → s₀.Keeps c (rd u x1).1) : s₀.Keeps c (s.readAll rd es).1 := by
  unfold State.readAll
  refine h.foldl_fst (fun _ _ k => ?_)
  split
  · next e1 =>
      exact (hrd _ _ k).of_eq e1

theorem State.Keeps.pushAll {k' l} (h : s₀.Keeps false s) : s₀.Keeps false (s.pushAll k' l) := by
  unfold State.pushAll
  refine h.foldl (fun _ _ k => ?_)
  split
  · exact k.pushPage
  · exact k

theorem State.Keeps.returnPages {x e0 e1 l0 l1 dir} (h : s₀.Keeps false s) : s₀.Keeps false (s.returnPages x e0 e1 l0 l1 dir).1 := by
  unfold State.returnPages
  dsimp only
  exact ((h.readAll (fun _ _ k => k.kvPage)).readAll (fun _ _ k => k.listPage)).pushAll

theorem State.Keeps.returnAll {x} (h : s₀.Keeps false s) : s₀.Keeps false (s.returnAll x).1 :=
  h.returnPages

theorem State.Keeps.slotCheck {x} (h : s₀.Keeps c s) : s₀.Keeps c (s.slotCheck x) := by
  unfold State.slotCheck
  dsimp only
  split
  · exact h.setSlot.slotLost
  · exact h

theorem State.Keeps.sesDown {r i} (h : s₀.Keeps c s) : s₀.Keeps c (s.sesDown r i) := by
  unfold State.sesDown
  dsimp only
  refine .complete ?_
  split
  · exact h
  · exact h.units.raise

theorem State.Keeps.sesFail {r i reason} (h : s₀.Keeps c s) : s₀.Keeps c (s.sesFail r i reason) :=
  h.complete

theorem State.Keeps.hold {x r i} (h : s₀.Keeps c s) : s₀.Keeps c (s.hold x r i) :=
  h.markRan.modSlot

theorem State.Keeps.seqDone {x status reason result} (h : s₀.Keeps c s) : s₀.Keeps c (s.seqDone x status reason result) := by
  unfold State.seqDone
  split
  · exact h
  · exact h.modSlot.complete

theorem State.Keeps.openGo {x r i d} (h : s₀.Keeps false s) : s₀.Keeps false (s.openGo x r i d) := by
  unfold State.openGo
  dsimp only
  split
  · exact h.complete
  · split
    · exact h.complete
    · split
      · exact h
      · split
        · exact h.sesFail
        · next e =>
            split
            · next e1 =>
                exact (((h.newKey e).popPage).of_eq e1).complete
            · next e1 =>
                exact ((((h.newKey e).popPage).of_eq e1).raise).sesFail
            · next e1 =>
                exact ((((h.newKey e).popPage).of_eq e1).setSlot).complete

theorem State.Keeps.closeGo {x r i} (h : s₀.Keeps false s) : s₀.Keeps false (s.closeGo x r i) := by
  unfold State.closeGo
  split
  · exact h.hold.modSlot.commitFor
  · exact h.setSlot.complete
  · split
    · next e =>
        exact ((h.modSlot.returnAll.of_eq e).setSlot).complete

theorem State.Keeps.truncateGo {x r i d} (h : s₀.Keeps false s) : s₀.Keeps false (s.truncateGo x r i d) := by
  unfold State.truncateGo
  dsimp only
  split
  · exact h.complete
  · split
    · exact h.returnPages.modSlot.complete
    · exact h.returnPages.slotLost.sesFail

theorem State.Keeps.parkPages {x dest key hdr n} (h : s₀.Keeps false s) : s₀.Keeps false (s.parkPages x dest key hdr n).1 := by
  induction n generalizing s x dest key hdr with
  | nil =>
    rw [State.parkPages]
    exact h
  | cons x l ih =>
    rw [State.parkPages]
    split
    · next e =>
        exact h.kvPage.of_eq e
    · next e =>
        split
        · next e1 =>
            exact ((h.kvPage.of_eq e).vread).of_eq e1
        · next e1 =>
            dsimp only
            split
            · next e2 =>
                exact ((((h.kvPage.of_eq e).vread).of_eq e1).hostWrite).of_eq e2
            · next e2 =>
                split
                · next e3 =>
                    exact ((((((h.kvPage.of_eq e).vread).of_eq e1).hostWrite).of_eq e2).hostWrite).of_eq e3
                · next e3 =>
                    exact ih (((((((h.kvPage.of_eq e).vread).of_eq e1).hostWrite).of_eq e2).hostWrite).of_eq e3)

theorem State.Keeps.setTenantKey {t' v} (h : s₀.Keeps c s) : s₀.Keeps c (s.setTenantKey t' v) :=
  h.units

theorem State.Keeps.needTenantKey {t'} {t} (h : s₀.Keeps c s) (e : s.needTenantKey t' = some t) : s₀.Keeps c t := by
  unfold State.needTenantKey at e
  split at e
  · cases e
    exact h
  · obtain ⟨x, hx, rfl⟩ := Option.map_eq_some_iff.mp e
    exact (h.newKey hx).setTenantKey

theorem State.Keeps.parkFail {x reason lost} (h : s₀.Keeps c s) : s₀.Keeps c (s.parkFail x reason lost) := by
  unfold State.parkFail
  dsimp only
  refine .seqDone ?_
  split
  · exact h.slotLost
  · exact h.modSlot.raise

theorem State.Keeps.parkGo {x r i d} (h : s₀.Keeps false s) : s₀.Keeps false (s.parkGo x r i d) := by
  unfold State.parkGo
  dsimp only
  split
  · exact h.complete
  · split
    · exact h
    · split
      · exact h.hold.modSlot.parkFail
      · next e =>
          split
          · next e1 =>
              exact (((h.hold.modSlot.needTenantKey e).parkPages).of_eq e1).parkFail
          · next e1 =>
              split
              · next e2 =>
                  exact (((((h.hold.modSlot.needTenantKey e).parkPages).of_eq e1).hostWrite).of_eq e2).parkFail
              · next e2 =>
                  exact (((((h.hold.modSlot.needTenantKey e).parkPages).of_eq e1).hostWrite).of_eq e2).commitFor

theorem State.Keeps.authFail {x} (h : s₀.Keeps c s) : s₀.Keeps c (s.authFail x) :=
  h.raise.sesIrq.modSlot.seqDone

theorem State.Keeps.resumePages {x src key hdr n} (h : s₀.Keeps false s) : s₀.Keeps false (s.resumePages x src key hdr n).1 := by
  induction n generalizing s x src key hdr with
  | nil =>
    rw [State.resumePages]
    exact h
  | cons x l ih =>
    rw [State.resumePages]
    split
    · split
      · exact h
      · split
        · next e =>
            exact h.kvPage.of_eq e
        · next e =>
            split
            · next e1 =>
                exact ((h.kvPage.of_eq e).vwrite).of_eq e1
            · next e1 =>
                exact ih (((h.kvPage.of_eq e).vwrite).of_eq e1)
    · exact h.countHostFail
    · exact h.countHostFail

theorem State.Keeps.resumeGo {x r i d} (h : s₀.Keeps false s) : s₀.Keeps false (s.resumeGo x r i d) := by
  unfold State.resumeGo
  dsimp only
  split
  · exact h.complete
  · split
    · exact h.slotLost.sesFail
    · split
      · exact h.hold.modSlot.countHostFail.raise.modSlot.seqDone
      · split
        · exact h.hold.modSlot.authFail
        · split
          · exact h.hold.modSlot.modSlot.seqDone
          · split
            · exact h.hold.modSlot.modSlot.seqDone
            · split
              · exact h.hold.modSlot.modSlot.seqDone
              · split
                · next e =>
                    exact ((h.hold.modSlot.popPage.of_eq e).modSlot).seqDone
                · next e =>
                    split
                    · next e1 =>
                        exact ((((((((h.hold.modSlot.popPage.of_eq e).modSlot).grow).of_eq e1).giveBack).pushPage).raise).modSlot).seqDone
                    · next e1 =>
                        split
                        · next e2 =>
                            exact ((((((h.hold.modSlot.popPage.of_eq e).modSlot).grow).of_eq e1).resumePages).of_eq e2).commitFor
                        · next e2 =>
                            exact (((((((h.hold.modSlot.popPage.of_eq e).modSlot).grow).of_eq e1).resumePages).of_eq e2).returnAll).authFail
                        · next e2 =>
                            exact (((((((((h.hold.modSlot.popPage.of_eq e).modSlot).grow).of_eq e1).resumePages).of_eq e2).returnAll).raise).modSlot).seqDone

theorem State.Keeps.slotCommitted {x ok} (h : s₀.Keeps false s) : s₀.Keeps false (s.slotCommitted x ok) := by
  unfold State.slotCommitted
  dsimp only
  split
  · split
    · exact h.returnAll.modSlot.seqDone
    · refine .seqDone (.modSlot ?_)
      split
      · exact h
      · exact h.setTenantKey
  · split
    · exact h.modSlot.seqDone
    · exact h.returnAll.modSlot.seqDone
  · split
    · exact h.seqDone.modSlot
    · exact h.modSlot.seqDone
  · exact h

theorem State.Keeps.slotGo {x r i op d} (h : s₀.Keeps false s) : s₀.Keeps false (s.slotGo x r i op d) := by
  unfold State.slotGo
  split
  · exact h.openGo
  · exact h.closeGo
  · split
    · exact h.parkGo
    · exact h.setWaited
  · split
    · exact h.resumeGo
    · exact h.setWaited
  · exact h.truncateGo
  · exact h

theorem State.Keeps.slotUpset {x upset} (h : s₀.Keeps c s) : s₀.Keeps c (s.slotUpset x upset) := by
  unfold State.slotUpset
  split
  · exact h
  · exact h.modSlot

theorem State.Keeps.slotArrive {x r i op d} (h : s₀.Keeps false s) : s₀.Keeps false (s.slotArrive x r i op d) := by
  unfold State.slotArrive
  dsimp only
  split
  · exact h.slotCheck.complete
  · split
    · split
      · exact h.slotCheck
      · exact h.slotCheck.slotGo
    · split
      · exact h.slotCheck.complete
      · exact h.slotCheck.markRan.modSlot
    · exact h.slotCheck.complete

theorem State.Keeps.slotOp {r i op} (h : s₀.Keeps false s) : s₀.Keeps false (s.slotOp r i op) := by
  unfold State.slotOp
  split
  · exact h
  · split
    · exact h.slotArrive
    · exact h.sesDown

theorem State.Keeps.execOpen {r i upset} (h : s₀.Keeps c s) : ∃ t, execOpen r i upset s = .next t ∧ s₀.Keeps c t := by
  refine ⟨_, rfl, ?_⟩
  refine h.attempt (fun k => ?_)
  split
  · exact k
  · split
    · exact k.sesDown
    · split
      · split
        · exact k.complete
        · exact k.openGo
      · exact k.slotUpset.slotArrive

theorem State.Keeps.execClose {r i upset} (h : s₀.Keeps c s) : ∃ t, execClose r i upset s = .next t ∧ s₀.Keeps c t := by
  refine ⟨_, rfl, ?_⟩
  refine h.attempt (fun k => ?_)
  split
  · exact k
  · split
    · exact k.slotUpset.slotArrive
    · exact k.sesDown

theorem State.Keeps.execPark {r i} (h : s₀.Keeps c s) : ∃ t, execPark r i s = .next t ∧ s₀.Keeps c t :=
  ⟨_, rfl, h.attempt (fun k => k.slotOp)⟩

theorem State.Keeps.execResume {r i} (h : s₀.Keeps c s) : ∃ t, execResume r i s = .next t ∧ s₀.Keeps c t :=
  ⟨_, rfl, h.attempt (fun k => k.slotOp)⟩

theorem State.Keeps.execTruncate {r i} (h : s₀.Keeps c s) : ∃ t, execTruncate r i s = .next t ∧ s₀.Keeps c t :=
  ⟨_, rfl, h.attempt (fun k => k.slotOp)⟩

theorem State.Keeps.execQuery {r i upset} (h : s₀.Keeps c s) : ∃ t, execQuery r i upset s = .next t ∧ s₀.Keeps c t := by
  refine ⟨_, rfl, ?_⟩
  refine h.attempt (fun k => ?_)
  split
  · exact k
  · split
    · exact k.sesDown
    · dsimp only
      split <;> exact k.slotUpset.slotCheck.complete

theorem State.Keeps.execSlotLatchedStart {x} (h : s₀.Keeps c s) : ∃ t, execSlotLatchedStart x s = .next t ∧ s₀.Keeps c t := by
  refine ⟨_, rfl, ?_⟩
  refine h.attempt (fun k => ?_)
  split
  · exact k
  · split
    · exact k.modSlot
    · split
      · exact k
      · dsimp only
        split
        · exact k.slotCheck.modSlot.slotGo
        · exact k.slotCheck
        · exact k.slotCheck.modSlot.complete

theorem State.Keeps.sesStop (h : s₀.Keeps c s) : s₀.Keeps c (s.sesStop) :=
  h.rset.units

theorem State.Keeps.seqRestart {x} (h : s₀.Keeps false s) : s₀.Keeps false (s.seqRestart x) := by
  unfold State.seqRestart
  split
  · exact h
  · split
    · exact h
    · split
      · exact h.modSlot.slotGo
      · exact h.returnAll.modSlot.slotGo
      · exact h.modSlot.slotGo
      · exact h

theorem State.Keeps.execSessionSequenceRestart (h : s₀.Keeps c s) : ∃ t, execSessionSequenceRestart s = .next t ∧ s₀.Keeps c t := by
  refine ⟨_, rfl, ?_⟩
  refine h.attempt (fun k => ?_)
  split
  · exact k.units.dropFence.foldl (fun _ _ k1 => k1.seqRestart)
  · exact k

theorem State.Keeps.execPoolCreate {r i} (h : s₀.Keeps c s) : ∃ t, execPoolCreate r i s = .next t ∧ s₀.Keeps c t := by
  refine ⟨_, rfl, ?_⟩
  refine h.attempt (fun k => ?_)
  split
  · exact k
  · dsimp only
    split
    · exact k.sesDown
    · split
      · exact k.complete
      · split
        · split
          · exact k.complete
          · split
            · next e =>
                exact ((k.vwrite.of_eq e).raise).sesFail
            · next e =>
                exact ((k.vwrite.of_eq e).setPool).complete
        · split
          · exact k.complete
          · split
            · next e =>
                exact ((k.vwrite.of_eq e).raise).sesFail
            · next e =>
                exact ((k.vwrite.of_eq e).setPool).complete

theorem State.Keeps.execPoolDestroy {r i} (h : s₀.Keeps c s) : ∃ t, execPoolDestroy r i s = .next t ∧ s₀.Keeps c t := by
  refine ⟨_, rfl, ?_⟩
  refine h.attempt (fun k => ?_)
  split
  · exact k
  · dsimp only
    split
    · exact k.sesDown
    · split
      · exact k.complete
      · exact k.setPool.complete

theorem State.Keeps.admitOne {r adv maxLayer ids j} (h : s₀.Keeps false p.1) : s₀.Keeps false (State.admitOne r adv maxLayer ids p j).1 := by
  unfold State.admitOne
  split
  · split
    · exact h
    · dsimp only
      split
      · split
        · exact h
        · split
          · next e =>
              dsimp only
              exact (h.grow.of_eq e).modSlot
          · next e =>
              exact (h.grow.of_eq e).giveBack
          · next e =>
              split
              · exact ((h.grow.of_eq e).giveBack).slotLost
              · exact ((h.grow.of_eq e).giveBack).raise
      · split
        · exact h.slotCheck
        · split
          · next e =>
              dsimp only
              exact (h.slotCheck.grow.of_eq e).modSlot
          · next e =>
              exact (h.slotCheck.grow.of_eq e).giveBack
          · next e =>
              split
              · exact ((h.slotCheck.grow.of_eq e).giveBack).slotLost
              · exact ((h.slotCheck.grow.of_eq e).giveBack).raise

theorem State.Keeps.release {adm} (h : s₀.Keeps c s) : s₀.Keeps c (s.release adm) := by
  unfold State.release
  refine h.foldl (fun _ _ k => ?_)
  split
  · exact k.modSlot
  · exact k

theorem State.Keeps.wakePlan {plan} (h : s₀.Keeps c s) : s₀.Keeps c (s.wakePlan plan) := by
  unfold State.wakePlan
  refine h.foldl (fun _ _ k => ?_)
  split
  · exact k.wakeReq
  · exact k

theorem State.Keeps.stepGo {r i d sched ids plan} (h : s₀.Keeps false s) : s₀.Keeps false (s.stepGo r i d sched ids plan) := by
  unfold State.stepGo
  dsimp only
  split
  · exact h.raise.sesFail
  · split
    · exact (((h.foldl_fst (fun _ _ k => k.admitOne)).giveBack).release).complete
    · split
      · next e =>
          exact ((((((h.foldl_fst (fun _ _ k => k.admitOne)).vwrite).of_eq e).giveBack).release).raise).complete
      · next e =>
          split
          · exact (((((h.foldl_fst (fun _ _ k => k.admitOne)).vwrite).of_eq e).giveBack).release).complete
          · split
            · exact (((h.foldl_fst (fun _ _ k => k.admitOne)).vwrite).of_eq e).complete
            · split
              · exact (((((h.foldl_fst (fun _ _ k => k.admitOne)).vwrite).of_eq e).giveBack).release).complete
              · split
                · exact ((((((h.foldl_fst (fun _ _ k => k.admitOne)).vwrite).of_eq e).giveBack).release).raise).complete
                · split
                  · exact ((((h.foldl_fst (fun _ _ k => k.admitOne)).vwrite).of_eq e).giveBack).release
                  · exact ((((((h.foldl_fst (fun _ _ k => k.admitOne)).vwrite).of_eq e).units).setStep).markRan).wakePlan

theorem State.Keeps.execStep {r i} (h : s₀.Keeps c s) : ∃ t, execStep r i s = .next t ∧ s₀.Keeps c t := by
  refine ⟨_, rfl, ?_⟩
  refine h.attempt (fun k => ?_)
  split
  · split
    · exact k.sesDown
    · split
      · exact k
      · dsimp only
        split
        · next e =>
            exact ((k.vread.of_eq e).raise).sesFail
        · next e =>
            split
            · next e1 =>
                exact ((((k.vread.of_eq e).vread).of_eq e1).raise).sesFail
            · next e1 =>
                exact (((k.vread.of_eq e).vread).of_eq e1).stepGo
  · exact k

theorem State.Keeps.modPlan {h' e' g} (h : s₀.Keeps c s) : s₀.Keeps c (s.modPlan h' e' g) := by
  unfold State.modPlan
  split
  · exact h
  · exact h.setStep

theorem State.Keeps.execPlanLaunch {h'} (h : s₀.Keeps c s) : ∃ t, execPlanLaunch h' s = .next t ∧ s₀.Keeps c t := by
  refine ⟨_, rfl, ?_⟩
  refine h.attempt (fun k => ?_)
  split
  · exact k
  · split
    · dsimp only
      split
      · exact k
      · exact k.modPlan.foldl (fun _ _ k1 => k1.placeLaunch)
    · exact k

theorem State.Keeps.stepFails {h' reason} (h : s₀.Keeps c s) : s₀.Keeps c (s.stepFails h' reason) := by
  unfold State.stepFails
  split
  · exact h
  · split
    · exact h
    · exact h.setStep

theorem State.Keeps.layerPages {x l n} (h : s₀.Keeps false s) : s₀.Keeps false (s.layerPages x l n).1 := by
  unfold State.layerPages
  split
  · next e =>
      exact (h.readAll (fun _ _ k => k.kvPage)).of_eq e

theorem State.Keeps.gatherAll {l adv n m j} (h : s₀.Keeps false s) : s₀.Keeps false (s.gatherAll l adv n m j).1 := by
  induction n generalizing s l adv m j with
  | nil =>
    rw [State.gatherAll]
    exact h
  | cons x l ih =>
    rw [State.gatherAll]
    split
    · next e =>
        exact h.layerPages.of_eq e
    · next e =>
        exact ih (h.layerPages.of_eq e)

theorem State.Keeps.prefetchPage {asid tenant va} (h : s₀.Keeps false s) : s₀.Keeps false (s.prefetchPage asid tenant va) := by
  unfold State.prefetchPage
  split
  · refine h.foldl (fun _ _ k => ?_)
    split
    · exact k.fetchLine
    · exact k
  · exact h

theorem State.Keeps.execPlanGather {h'} (h : s₀.Keeps c s) : ∃ t, execPlanGather h' s = .next t ∧ s₀.Keeps c t := by
  refine ⟨_, rfl, ?_⟩
  refine h.attempt (fun k => ?_)
  split
  · exact k
  · split
    · split
      · exact k
      · dsimp only
        split
        · next e =>
            exact ((k.modPlan.gatherAll.of_eq e).slotLost).stepFails
        · next e =>
            split
            · next e1 =>
                exact ((((k.modPlan.gatherAll.of_eq e).vwrite).of_eq e1).raise).stepFails
            · next e1 =>
                split
                · exact (((k.modPlan.gatherAll.of_eq e).vwrite).of_eq e1).foldl (fun _ _ k1 => k1.prefetchPage)
                · exact ((k.modPlan.gatherAll.of_eq e).vwrite).of_eq e1
    · exact k

theorem State.Keeps.execStepComplete {h'} (h : s₀.Keeps c s) : ∃ t, execStepComplete h' s = .next t ∧ s₀.Keeps c t := by
  refine ⟨_, rfl, ?_⟩
  refine h.attempt (fun k => ?_)
  split
  · exact k
  · split
    · exact k
    · exact (((k.foldl (fun _ _ k1 => k1.modSlot)).release).setStep).complete

theorem State.Keeps.stepFail {h'} (h : s₀.Keeps false s) : s₀.Keeps false (s.stepFail h') := by
  unfold State.stepFail
  split
  · exact h
  · split
    · exact h
    · exact h.giveBack.release.setStep.complete

theorem State.Keeps.execStepFail {h'} (h : s₀.Keeps c s) : ∃ t, execStepFail h' s = .next t ∧ s₀.Keeps c t :=
  ⟨_, rfl, h.attempt (fun k => k.stepFail)⟩

theorem State.Keeps.setZone {z v} (h : s₀.Keeps c s) : s₀.Keeps c (s.setZone z v) :=
  h.rset

theorem State.Keeps.endpointStart {c' i} (h : s₀.Keeps c s) : s₀.Keeps c (s.endpointStart c' i) := by
  unfold State.endpointStart
  split
  · exact h.modArr
  · exact h.modFr
  · exact h.units
  · exact h.units
  · exact h.units.rset
  · exact h.rset
  · exact h.units
  · exact h.rset

theorem State.Keeps.endpointFence {c' i} (h : s₀.Keeps c s) : s₀.Keeps c (s.endpointFence c' i) := by
  unfold State.endpointFence
  split
  · exact h.modArr.raise.addFence.capBump
  · split
    · exact h.modFr.fenceFrond
    · split
      · exact h.units.fencePile
      · split
        · dsimp only
          split
          · exact h.units.raise.addFence.capBump
          · exact h.units.raise
        · split
          · exact h.units.rset.raise
          · split
            · exact h.rset.fenceTower
            · split
              · exact h.units.raise
              · exact h.rset

theorem State.Keeps.kernelsOut {f} (h : s₀.Keeps c s) : s₀.Keeps c (s.kernelsOut f) := by
  unfold State.kernelsOut
  refine h.foldl (fun _ _ k1 => ?_)
  split
  · exact k1
  · exact k1.discardCmds.releaseKernel.kernelDone

theorem memWf_dropBlocks {size : Nat} {blocks : List Nat} {m : List Host.Cell} (h : memWf m) : memWf (dropBlocks size blocks m) :=
  spWf_filter _ _ h

theorem State.Keeps.frondDark {f} (h : s₀.Keeps c s) : s₀.Keeps c (s.frondDark f) := by
  unfold State.frondDark
  extract_lets s1 s2 s3 m fr s4
  have h3 : s₀.Keeps c s3 := (h.kernelsOut.dropQueued.dmaOut.foldl (fun _ _ k => k.setArr)).foldl (fun _ _ k => k.setDma)
  clear_value s3
  have h4 : s₀.Keeps c s4 := h3.stored (by exact ⟨id, id, id, memWf_dropBlocks, id⟩)
  exact h4.setFr

theorem State.Keeps.towerDark {t'} (h : s₀.Keeps c s) : s₀.Keeps c (s.towerDark t') := by
  unfold State.towerDark
  extract_lets s1 m ms s2
  have h1 : s₀.Keeps c s1 := h.foldl (fun _ _ k => k.frondDark)
  clear_value s1
  have h2 : s₀.Keeps c s2 := h1.stored (by exact ⟨id, id, memWf_dropBlocks, id, id⟩)
  exact h2.rset.rset

theorem State.Keeps.pileDark {p'} (h : s₀.Keeps c s) : s₀.Keeps c (s.pileDark p') :=
  h.stored (by exact ⟨id, spWf_filter _ _, id, id, id⟩)

theorem State.Keeps.coldState (h : s₀.Keeps c s) : s₀.Keeps c s.coldState := by
  unfold State.coldState
  refine .rset (.rset (.rset (.rset ?_)))
  exact h.trans ⟨rfl, rfl, rfl, fun _ _ => rfl, fun ⟨hr, _, _, _, ho⟩ => ⟨spWf_filter _ _ hr, rfl, rfl, rfl, ho⟩⟩

theorem State.Keeps.setReport {n r} (h : s₀.Keeps c s) : s₀.Keeps c (s.setReport n r) :=
  h.units

theorem State.Keeps.stageBegin {n} (h : s₀.Keeps c s) : s₀.Keeps c (s.stageBegin n) :=
  h.units.rset

theorem State.Keeps.stagePass {n elapsed endpoints rounds} (h : s₀.Keeps c s) : s₀.Keeps c (s.stagePass n elapsed endpoints rounds) :=
  h.setReport.stageBegin

theorem State.Keeps.stageFail {n reason outcome elapsed loc} (h : s₀.Keeps c s) : s₀.Keeps c (s.stageFail n reason outcome elapsed loc) :=
  h.raise.setReport.units

theorem State.Keeps.stageFailed {n reason elapsed} (h : s₀.Keeps c s) : s₀.Keeps c (s.stageFailed n reason elapsed) :=
  h.setReport.units

theorem State.Keeps.keepLatch {old z} (h : s₀.Keeps c s) : s₀.Keeps c (State.keepLatch old s z) := by
  unfold State.keepLatch
  split
  · dsimp only
    split <;> exact h.setZone.rset
  · exact h

theorem State.Keeps.keepStart {old} (h : s₀.Keeps c s) : s₀.Keeps c (State.keepStart old s) :=
  ((((h.foldl (fun _ _ k => k.setRword)).rset).rset).units).foldl (fun _ _ k => k.rset)

theorem State.Keeps.startAtPredawn {twilight} (h : s₀.Keeps c s) : s₀.Keeps c (s.startAtPredawn twilight) :=
  ((h.coldState.units.keepStart.foldl (fun _ _ k => k.keepLatch)).units).stageBegin

theorem State.Keeps.startCold (h : s₀.Keeps c s) : s₀.Keeps c (s.startCold) :=
  h.coldState.units

theorem State.Keeps.setFwuState {v} (h : s₀.Keeps c s) : s₀.Keeps c (s.setFwuState v) :=
  h.rset

theorem State.Keeps.setSlotImg {bank c' v} (h : s₀.Keeps c s) : s₀.Keeps c (s.setSlotImg bank c' v) :=
  h.units

theorem State.Keeps.spClear {o n} (h : s₀.Keeps c s) : s₀.Keeps c (s.spClear o n) :=
  h.units

theorem State.Keeps.spDiscard (h : s₀.Keeps c s) : s₀.Keeps c (s.spDiscard) :=
  h.units

theorem State.Keeps.updateRefused {r} (h : s₀.Keeps c s) : s₀.Keeps c (s.updateRefused r) := by
  unfold State.updateRefused
  dsimp only
  refine .raise ?_
  split
  · refine .manRefused ?_
    split
    · refine .rset ?_
      split
      · exact h.rset.rset
      · exact h.rset
    · split
      · exact h.rset.rset
      · exact h.rset
  · split
    · refine .rset ?_
      split
      · exact h.rset.rset
      · exact h.rset
    · split
      · exact h.rset.rset
      · exact h.rset

theorem State.Keeps.updateNext (h : s₀.Keeps c s) : s₀.Keeps c (s.updateNext) := by
  unfold State.updateNext
  split
  · exact h.units.rset.rset
  · dsimp only
    split
    · exact h.units.setFwuState.raise.units
    · exact h.units.setFwuState.raise

theorem State.Keeps.updateBegin {l} (h : s₀.Keeps c s) : s₀.Keeps c (s.updateBegin l) :=
  ((((h.rset.foldl (fun _ _ k => k.setSlotImg.units)).commit).units).setFwuState).updateNext

theorem State.Keeps.updateStart {host comps} (h : s₀.Keeps c s) : s₀.Keeps c (s.updateStart host comps) := by
  unfold State.updateStart
  split
  · exact h.updateRefused
  · exact h.updateBegin

theorem State.Keeps.classCommit {c'} (h : s₀.Keeps c s) : s₀.Keeps c (s.classCommit c') := by
  unfold State.classCommit
  split
  · exact h
  · dsimp only
    refine .commitFor (.units ?_)
    split
    · exact h.units
    · exact h

theorem State.Keeps.classFail {c' loc} (h : s₀.Keeps c s) : s₀.Keeps c (s.classFail c' loc) :=
  h.commit.units.setFwuState.rset.raise.raise

theorem State.Keeps.classCommitted {c' ok} (h : s₀.Keeps c s) : s₀.Keeps c (s.classCommitted c' ok) := by
  unfold State.classCommitted
  split
  · split
    · split
      · exact h
      · dsimp only
        refine .updateNext (.units ?_)
        split
        · refine .rset ?_
          split
          · exact h.rbit
          · exact h.rbit.units
        · split
          · exact h.rbit
          · exact h.rbit.units
    · exact h.classFail
  · exact h

theorem State.Keeps.spCheckComp {p'} (h : s₀.Keeps c s) : s₀.Keeps c (s.spCheckComp p') := by
  unfold State.spCheckComp
  split
  · exact h
  · dsimp only
    split
    · exact h.spClear
    · split
      · exact h
      · split
        · exact h.manRefused.spClear
        · refine h.foldl (fun _ _ k1 => ?_)
          split
          · exact k1.spClear
          · exact k1

theorem State.Keeps.sporeStart {cs} (h : s₀.Keeps c s) : s₀.Keeps c (s.sporeStart cs) := by
  unfold State.sporeStart
  dsimp only
  split
  · exact h.updateStart.spDiscard
  · exact h.updateStart

theorem State.Keeps.spComplete (h : s₀.Keeps c s) : s₀.Keeps c (s.spComplete) := by
  unfold State.spComplete
  split
  · exact h
  · split
    · exact h.spClear
    · dsimp only
      split
      · exact h.manRefused.spClear
      · split
        · exact h.units.raise.sporeStart
        · exact h.units.raise

theorem State.Keeps.sporeWrite {off bytes} (h : s₀.Keeps c s) : s₀.Keeps c (s.sporeWrite off bytes) := by
  unfold State.sporeWrite
  dsimp only
  refine .rset (.spComplete ?_)
  split
  · refine (h.foldl (fun _ _ k => ?_)).foldl (fun _ _ k => k.spCheckComp)
    split
    · exact k
    · exact k.units
  · split
    · refine (h.foldl (fun _ _ k => ?_)).spClear
      split
      · exact k
      · exact k.units
    · refine h.foldl (fun _ _ k => ?_)
      split
      · exact k
      · exact k.units

theorem State.Keeps.sporeGiveUp (h : s₀.Keeps c s) : s₀.Keeps c (s.sporeGiveUp) := by
  unfold State.sporeGiveUp
  split
  · exact h.spDiscard.raise.rset
  · exact h

theorem State.Keeps.sporeOff (h : s₀.Keeps c s) : s₀.Keeps c (s.sporeOff) :=
  h.sporeGiveUp.spDiscard.rset

theorem State.Keeps.sporeRead {b n} (h : s₀.Keeps c s) : s₀.Keeps c (s.sporeRead b n).1 := by
  unfold State.sporeRead
  dsimp only
  split
  · split
    · exact h.units.sporeGiveUp
    · exact h.units
  · exact h

theorem State.Keeps.sendReq {r i m va len} (h : s₀.Keeps c s) : s₀.Keeps c (s.sendReq r i m va len).1 := by
  unfold State.sendReq
  dsimp only
  split
  · exact h.units.deliverMsg
  · split
    · exact h.units.toLink
    · exact h.raise

theorem State.Keeps.jobMsg {r d k'} (h : s₀.Keeps false s) : s₀.Keeps false (s.jobMsg r d k').1 := by
  unfold State.jobMsg
  dsimp only
  split
  · split
    · next e =>
        exact (h.vread.of_eq e).vFault
    · next e =>
        exact h.vread.of_eq e
  · exact h
  · exact h
  · split
    · exact h
    · split
      · next e =>
          exact (h.kvPage.of_eq e).raise
      · next e =>
          split
          · next e1 =>
              exact (((h.kvPage.of_eq e).vread).of_eq e1).vFault
          · next e1 =>
              exact ((h.kvPage.of_eq e).vread).of_eq e1

theorem State.Keeps.modJob {r i g} (h : s₀.Keeps c s) : s₀.Keeps c (s.modJob r i g) :=
  h.units

theorem State.Keeps.dropJob {r i} (h : s₀.Keeps c s) : s₀.Keeps c (s.dropJob r i) :=
  h.units

end
end Sys2Proof.Machine
end

section
/-!
PROOFS. What every step keeps (`State.Keeps`): the fabric.
-/

namespace Sys2Proof.Machine
open State

set_option Elab.async false

section
variable {c : Bool} {s₀ s t : State}

theorem State.Keeps.jobSend {r i d n} (h : s₀.Keeps false s) : s₀.Keeps false (State.jobSend r i d n s) := by
  induction n generalizing s r i d with
  | zero =>
    rw [State.jobSend]
    exact h
  | succ n ih =>
    rw [State.jobSend]
    split
    · exact h
    · split
      · exact h
      · split
        · next e =>
            exact (h.jobMsg.of_eq e).modJob
        · next e =>
            split
            · exact ih (((h.jobMsg.of_eq e).route).modJob)
            · split
              · next e1 =>
                  exact ih ((((h.jobMsg.of_eq e).sendReq).of_eq e1).modJob)
              · next e1 =>
                  exact (((h.jobMsg.of_eq e).sendReq).of_eq e1).modJob

theorem State.Keeps.sessEnd {x ok} (h : s₀.Keeps false s) : s₀.Keeps false (s.sessEnd x ok) := by
  unfold State.sessEnd
  split
  · split
    · next e =>
        exact (h.modSlot.returnAll.of_eq e).setSlot
  · exact h.modSlot

theorem State.Keeps.jobEnd {j d} (h : s₀.Keeps false s) : s₀.Keeps false (s.jobEnd j d) := by
  unfold State.jobEnd
  dsimp only
  split
  · refine .complete ?_
    split
    · exact h.dropJob.sessEnd
    · exact h.dropJob
  · refine .complete ?_
    split
    · exact h.dropJob.sessEnd
    · exact h.dropJob

theorem State.Keeps.jobStep {r i} (h : s₀.Keeps false s) : s₀.Keeps false (s.jobStep r i) := by
  unfold State.jobStep
  split
  · exact h
  · split
    · exact h
    · dsimp only
      split
      · split
        · refine .jobEnd ?_
          split
          · exact h.jobSend
          · exact h
        · split
          · exact h.jobSend
          · exact h
      · split
        · exact h.jobSend
        · exact h

theorem State.Keeps.setSpore {j} (h : s₀.Keeps c s) : s₀.Keeps c (s.setSpore j) :=
  h.units

theorem State.Keeps.sporeSend {r i d n} (h : s₀.Keeps false s) : s₀.Keeps false (State.sporeSend r i d n s) := by
  induction n generalizing s r i d with
  | zero =>
    rw [State.sporeSend]
    exact h
  | succ n ih =>
    rw [State.sporeSend]
    split
    · exact h
    · split
      · exact h
      · split
        · exact h
        · dsimp only
          split
          · next e =>
              refine ih (.of_eq ?_ e)
              split
              · exact h.setSpore
              · split
                · next e1 =>
                    exact h.setSpore.vread.of_eq e1
                · next e1 =>
                    exact h.setSpore.vread.of_eq e1
          · next e =>
              split
              · next e1 =>
                  refine ih ?_
                  split
                  · refine .setSpore (.of_eq (.sendReq (.of_eq ?_ e)) e1)
                    split
                    · exact h.setSpore
                    · split
                      · next e2 =>
                          exact h.setSpore.vread.of_eq e2
                      · next e2 =>
                          exact h.setSpore.vread.of_eq e2
                  · refine .of_eq (.sendReq (.of_eq ?_ e)) e1
                    split
                    · exact h.setSpore
                    · split
                      · next e2 =>
                          exact h.setSpore.vread.of_eq e2
                      · next e2 =>
                          exact h.setSpore.vread.of_eq e2
              · next e1 =>
                  refine ih ?_
                  split
                  · split
                    · refine .setSpore (.of_eq (.sendReq (.of_eq ?_ e)) e1)
                      split
                      · exact h.setSpore
                      · split
                        · next e2 =>
                            exact h.setSpore.vread.of_eq e2
                        · next e2 =>
                            exact h.setSpore.vread.of_eq e2
                    · refine .of_eq (.sendReq (.of_eq ?_ e)) e1
                      split
                      · exact h.setSpore
                      · split
                        · next e2 =>
                            exact h.setSpore.vread.of_eq e2
                        · next e2 =>
                            exact h.setSpore.vread.of_eq e2
                  · refine .of_eq (.sendReq (.of_eq ?_ e)) e1
                    split
                    · exact h.setSpore
                    · split
                      · next e2 =>
                          exact h.setSpore.vread.of_eq e2
                      · next e2 =>
                          exact h.setSpore.vread.of_eq e2

theorem State.Keeps.sporeEnd {j d} (h : s₀.Keeps false s) : s₀.Keeps false (s.sporeEnd j d) := by
  unfold State.sporeEnd
  dsimp only
  split
  · next e =>
      exact ((h.units.vwrite.of_eq e).vFault).complete
  · next e =>
      exact (h.units.vwrite.of_eq e).complete

theorem State.Keeps.sporeTurn {j d} (h : s₀.Keeps false s) : s₀.Keeps false (s.sporeTurn j d) := by
  unfold State.sporeTurn
  dsimp only
  split
  · exact h.setSpore.sporeSend
  · split
    · exact h.sporeEnd
    · exact h.setSpore.sporeSend

theorem State.Keeps.sporeStep {r i} (h : s₀.Keeps false s) : s₀.Keeps false (s.sporeStep r i) := by
  unfold State.sporeStep
  split
  · exact h
  · dsimp only
    split
    · split
      · refine .sporeTurn ?_
        split
        · exact h.sporeSend
        · exact h
      · split
        · exact h.sporeSend
        · exact h
    · split
      · exact h.sporeSend
      · exact h

theorem State.Keeps.sporeTry {r i} (h : s₀.Keeps c s) : s₀.Keeps c (s.sporeTry r i) :=
  h.attempt (fun k => k.sporeStep)

theorem State.Keeps.sporeAnswer {q res} (h : s₀.Keeps c s) : s₀.Keeps c (s.sporeAnswer q res) := by
  unfold State.sporeAnswer
  split
  · exact h
  · exact h.setSpore.sporeTry

theorem State.Keeps.jobTry {r i} (h : s₀.Keeps c s) : s₀.Keeps c (s.jobTry r i) :=
  h.attempt (fun k => k.jobStep)

theorem State.Keeps.jobsGo (h : s₀.Keeps c s) : s₀.Keeps c (s.jobsGo) :=
  (h.foldl (fun _ _ k => k.sporeTry)).foldl (fun _ _ k => k.jobTry)

theorem State.Keeps.reqEnd {q res} (h : s₀.Keeps false s) : s₀.Keeps false (s.reqEnd q res) := by
  unfold State.reqEnd
  dsimp only
  refine .jobsGo ?_
  split
  · exact h.units.sporeAnswer
  · split
    · exact h.units.modJob.modJob
    · split
      · exact h.units.modJob
      · split
        · next e =>
            exact h.units.modJob.vwrite.of_eq e
        · next e =>
            exact ((h.units.modJob.vwrite.of_eq e).vFault).modJob

theorem State.Keeps.mcAck {r i} (h : s₀.Keeps c s) : s₀.Keeps c (s.mcAck r i) := by
  unfold State.mcAck
  split
  · split
    · exact h.setSpore.sporeTry
    · exact h
  · exact h.modJob.jobTry

theorem State.Keeps.setRed {g v} (h : s₀.Keeps c s) : s₀.Keeps c (s.setRed g v) :=
  h.units

theorem State.Keeps.redAbort {g reason except_} (h : s₀.Keeps c s) : s₀.Keeps c (s.redAbort g reason except_) := by
  unfold State.redAbort
  split
  · exact h
  · exact (((h.foldl (fun _ _ k => k.toLink)).setRed).raise).complete

theorem State.Keeps.redAdvance {g q} (h : s₀.Keeps c s) : s₀.Keeps c (s.redAdvance g q) := by
  unfold State.redAdvance
  refine h.foldl (fun _ _ k => ?_)
  split
  · exact k.toLink
  · exact k

theorem State.Keeps.redPerform {g q i v} (h : s₀.Keeps false s) : s₀.Keeps false (s.redPerform g q i v).1 := by
  unfold State.redPerform
  dsimp only
  split
  · split
    · next e =>
        exact h.vwrite.of_eq e
    · next e =>
        exact (h.vwrite.of_eq e).vFault
  · split
    · next e =>
        exact (h.xlate.of_eq e).vFault
    · next e =>
        split
        · exact ((h.xlate.of_eq e).noteFills).setWaited
        · split
          · next e1 =>
              exact ((h.xlate.of_eq e).reduceAt).of_eq e1
          · next e1 =>
              exact (((h.xlate.of_eq e).reduceAt).of_eq e1).accFault

theorem State.Keeps.redLocal {g n} (h : s₀.Keeps false s) : s₀.Keeps false (State.redLocal g n s) := by
  induction n generalizing s g with
  | zero =>
    rw [State.redLocal]
    exact h
  | succ n ih =>
    rw [State.redLocal]
    split
    · exact h
    · dsimp only
      split
      · split
        · exact h
        · split
          · next e =>
              exact ((h.vread.of_eq e).vFault).redAbort
          · next e =>
              split
              · split
                · next e1 =>
                    exact ih ((((h.vread.of_eq e).redPerform).of_eq e1).setRed)
                · next e1 =>
                    exact (((h.vread.of_eq e).redPerform).of_eq e1).redAbort
              · exact ih ((h.vread.of_eq e).setRed)
      · exact h

theorem State.Keeps.redRun {g n} (h : s₀.Keeps false s) : s₀.Keeps false (State.redRun g n s) := by
  induction n generalizing s g with
  | zero =>
    rw [State.redRun]
    exact h
  | succ n ih =>
    rw [State.redRun]
    split
    · exact h
    · dsimp only
      split
      · exact h
      · split
        · exact h
        · split
          · split
            · refine ih (.redLocal ?_)
              split
              · exact h.setRed.redAdvance
              · exact h.setRed
            · split
              · next e =>
                  refine ih (.redLocal ?_)
                  split
                  · exact ((h.redPerform.of_eq e).setRed).redAdvance
                  · exact (h.redPerform.of_eq e).setRed
              · next e =>
                  exact (h.redPerform.of_eq e).redAbort
          · refine ih (.redLocal ?_)
            split
            · exact h.toLink.setRed.redAdvance
            · exact h.toLink.setRed

theorem State.Keeps.redGo {g} (h : s₀.Keeps false s) : s₀.Keeps false (s.redGo g) := by
  unfold State.redGo
  split
  · exact h
  · exact h.redLocal.redRun

theorem State.Keeps.sentLost {why} (h : s₀.Keeps c s) : s₀.Keeps c (s.sentLost why) := by
  unfold State.sentLost
  split
  · exact h.mcAck
  · exact h

theorem State.Keeps.setXfer {x v} (h : s₀.Keeps c s) : s₀.Keeps c (s.setXfer x v) :=
  h.units

theorem State.Keeps.xferDrop {x} (h : s₀.Keeps false s) : s₀.Keeps false (s.xferDrop x) := by
  unfold State.xferDrop
  split
  · exact h.giveBack.modSlot.setXfer
  · exact h

theorem State.Keeps.xferLost {l} (h : s₀.Keeps c s) : s₀.Keeps c (s.xferLost l) := by
  unfold State.xferLost
  refine h.foldl (fun _ _ k => ?_)
  split
  · exact k.attempt (fun k1 => k1.xferDrop)
  · exact k

theorem State.Keeps.fabricDark (h : s₀.Keeps c s) : s₀.Keeps c (s.fabricDark) := by
  unfold State.fabricDark
  dsimp only
  refine h.units.foldl (fun _ _ k => ?_)
  split
  · exact k
  · exact k.setLink.setLinkState

/-- A request that fails writes nothing. -/
theorem State.Keeps.reqEnd_error {q e} (h : s₀.Keeps c s) : s₀.Keeps c (s.reqEnd q (.error e)) := by
  unfold State.reqEnd
  refine State.Keeps.jobsGo ?_
  split
  · exact h.units.sporeAnswer
  · exact h.units.modJob.modJob

theorem State.Keeps.linkDown {l reason} (h : s₀.Keeps c s) : s₀.Keeps c (s.linkDown l reason) := by
  unfold State.linkDown
  split
  · exact h
  · extract_lets q lost rs src s1 s2 leave s3
    have h3 : s₀.Keeps c s3 := by
      unfold s3
      split
      · exact h.setLink.setLinkState.raise
      · exact h.setLink.setLinkState.raise.addFence
    refine .capBump (.foldl (.foldl ?_ (fun _ _ k => k.reqEnd_error)) (fun _ _ k => ?_))
    · exact (h3.foldl (fun _ _ k => k.sentLost)).xferLost
    · split
      · exact k.redAbort
      · exact k

theorem State.Keeps.trainFail {l} (h : s₀.Keeps c s) : s₀.Keeps c (s.trainFail l) :=
  h.modLink.setLinkState

theorem State.Keeps.sendCtl {l op data} (h : s₀.Keeps c s) : s₀.Keeps c (s.sendCtl l op data) :=
  h.modLink

theorem State.Keeps.trainStart {l} (h : s₀.Keeps c s) : s₀.Keeps c (s.trainStart l) := by
  unfold State.trainStart
  split
  · exact h
  · exact h.modLink.setLinkState

theorem State.Keeps.trainUp {l} (h : s₀.Keeps c s) : s₀.Keeps c (s.trainUp l) :=
  h.modLink.units.setLinkState.dropFence.capBump.jobsGo

theorem State.Keeps.trainStep {l} (h : s₀.Keeps c s) : s₀.Keeps c (s.trainStep l) := by
  unfold State.trainStep
  dsimp only
  split
  · split
    · exact h
    · exact h.modLink
  · split
    · split
      · exact h.trainFail
      · next e =>
          exact ((h.random e).modLink).sendCtl
    · exact h
  · split
    · exact h
    · split
      · exact h.trainFail
      · next e =>
          exact (((h.random e).ecdsa).modLink).sendCtl
  · split
    · exact h.trainUp
    · exact h
  · exact h

theorem State.Keeps.setLaser {e' n v} (h : s₀.Keeps c s) : s₀.Keeps c (s.setLaser e' n v) :=
  h.units

theorem State.Keeps.hostNarrow {n} (h : s₀.Keeps c s) : s₀.Keeps c (s.hostNarrow n) := by
  unfold State.hostNarrow
  split
  · exact h.sidebandLost
  · split
    · exact h.rset
    · exact h

theorem State.Keeps.laneLost {e' n} (h : s₀.Keeps c s) : s₀.Keeps c (s.laneLost e' n) := by
  unfold State.laneLost
  dsimp only
  split
  · exact h.setLaser.raise.addFence.linkDown
  · split
    · exact h.setLaser.raise.addFence.rset
    · split
      · exact h.setLaser.raise.addFence.hostLinkDown
      · exact h.setLaser.raise.hostNarrow

theorem State.Keeps.laserReplace {e' n} (h : s₀.Keeps c s) : s₀.Keeps c (s.laserReplace e' n) := by
  unfold State.laserReplace
  dsimp only
  split
  · split
    · split
      · exact h.raise.units.setLaser.radd.commit.raise.zeroReserve
      · exact h.raise.units.setLaser.radd.commit.raise
    · exact h.raise.laneLost
  · split
    · split
      · exact h.raise.units.setLaser.radd.commit.raise.zeroReserve
      · exact h.raise.units.setLaser.radd.commit.raise
    · exact h.raise.laneLost

theorem State.Keeps.wornReplace {l} (h : s₀.Keeps c s) : s₀.Keeps c (s.wornReplace l) := by
  unfold State.wornReplace
  refine h.foldl (fun _ _ k => ?_)
  split
  · exact k.laserReplace
  · exact k

theorem State.Keeps.rxMsg {l ctl m} (h : s₀.Keeps c s) : s₀.Keeps c (s.rxMsg l ctl m) := by
  unfold State.rxMsg
  split
  · exact h.modLink
  · dsimp only
    split
    · exact h.radd.answer
    · exact h.radd

theorem State.Keeps.rxAck {l ack} (h : s₀.Keeps c s) : s₀.Keeps c (s.rxAck l ack) := by
  unfold State.rxAck
  dsimp only
  refine (h.modLink.foldl (fun _ _ k => ?_)).pump
  split
  · exact k.mcAck
  · split
    · exact k.setRed
    · exact k
  · exact k

theorem State.Keeps.rxNak {l} (h : s₀.Keeps c s) : s₀.Keeps c (s.rxNak l) := by
  unfold State.rxNak
  dsimp only
  split
  · exact h.setLinkState
  · exact h.modLink.radd

theorem State.Keeps.sendNak {l} (h : s₀.Keeps c s) : s₀.Keeps c (s.sendNak l) :=
  h.modLink

theorem State.Keeps.tagFail {l seq} (h : s₀.Keeps c s) : s₀.Keeps c (s.tagFail l seq) := by
  unfold State.tagFail
  dsimp only
  split
  · exact h.modLink.sendNak.linkDown
  · exact h.modLink.sendNak

theorem State.Keeps.portSet {p' en split} (h : s₀.Keeps c s) : s₀.Keeps c (s.portSet p' en split) := by
  unfold State.portSet
  dsimp only
  split
  · split
    · exact (((((h.foldl (fun _ _ k => k.linkDown)).rset).rset).setLinkState).setLinkState).foldl (fun _ _ k => k.trainStart)
    · exact ((((h.foldl (fun _ _ k => k.linkDown)).rset).rset).setLinkState).setLinkState
  · split
    · exact (((((h.foldl (fun _ _ k => k.linkDown)).rset).rset).setLinkState).setLinkState).foldl (fun _ _ k => k.trainStart)
    · exact ((((h.foldl (fun _ _ k => k.linkDown)).rset).rset).setLinkState).setLinkState

theorem State.Keeps.setLatched {p' v} (h : s₀.Keeps c s) : s₀.Keeps c (s.setLatched p' v) :=
  h.units.rset.rset

theorem State.Keeps.execFabPortCfgWrite {p' v} (h : s₀.Keeps c s) : ∃ t, execFabPortCfgWrite p' v s = .next t ∧ s₀.Keeps c t := by
  refine ⟨_, rfl, ?_⟩
  split
  · dsimp only
    split
    · split
      · exact h.rset.rset.rset.rset.rset
      · exact h.rset.rset.rset.rset.rset.setLatched
    · split
      · refine h.rset.rset.rset.rset.rset.foldl (fun _ _ k => ?_)
        split
        · exact k.trainStart
        · exact k
      · exact h.rset.rset.rset.rset.rset.portSet
  · exact h

theorem State.Keeps.execPortLatchedChange {p'} (h : s₀.Keeps c s) : ∃ t, execPortLatchedChange p' s = .next t ∧ s₀.Keeps c t := by
  refine ⟨_, rfl, ?_⟩
  split
  · split
    · exact h
    · exact h.setLatched.portSet
  · exact h

theorem State.Keeps.execLinkTraining {l ok} (h : s₀.Keeps c s) : ∃ t, execLinkTraining l ok s = .next t ∧ s₀.Keeps c t := by
  refine ⟨_, rfl, ?_⟩
  split
  · split
    · exact h.trainStep
    · exact h.trainFail
  · exact h

theorem State.Keeps.execTrainingRetry {l light} (h : s₀.Keeps c s) : ∃ t, execTrainingRetry l light s = .next t ∧ s₀.Keeps c t := by
  refine ⟨_, rfl, ?_⟩
  dsimp only
  split
  · split
    · exact h.modLink.trainStart
    · exact h.modLink
  · split
    · exact h.modLink.trainStart
    · exact h.modLink

theorem State.Keeps.execCrossedSwap {l again} (h : s₀.Keeps c s) : ∃ t, execCrossedSwap l again s = .next t ∧ s₀.Keeps c t := by
  refine ⟨_, rfl, ?_⟩
  split
  · dsimp only
    split
    · exact h.raise.addFence.trainFail
    · exact h.modLink.rset.raise
  · exact h

theorem State.Keeps.execBlockReceive {l phys block} (h : s₀.Keeps c s) : ∃ t, execBlockReceive l phys block s = .next t ∧ s₀.Keeps c t := by
  refine ⟨_, rfl, ?_⟩
  split
  · dsimp only
    split
    · split
      · exact h.modLink.radd.setLinkState
      · exact h.modLink.radd
    · split
      · exact h.modLink.modLink.setLinkState
      · exact h.modLink.modLink
  · exact h

theorem State.Keeps.flitDone {l w0 w1 area crcOk tagOk} (h : s₀.Keeps c s) : s₀.Keeps c (s.flitDone l w0 w1 area crcOk tagOk) := by
  unfold State.flitDone
  extract_lets ty st s1 s2 s3 s4 q first bytes
  have h3 : s₀.Keeps c s3 := by
    unfold s3
    split
    · exact h.modLink.rxAck.rxNak
    · exact h.modLink.rxAck
  clear_value s3
  split
  · exact h
  · split
    · split
      · exact h
      · exact h.sendNak
    · split
      · exact h
      · split
        · exact h
        · split
          · exact h.tagFail
          · split
            · exact h3
            · split
              · exact h3.sendNak
              · exact h3.modLink.modLink.foldl (fun _ _ k => k.rxMsg)

theorem State.Keeps.execFlitReceive {l w0 w1 area crcOk tagOk} (h : s₀.Keeps c s) :
    ∃ t, execFlitReceive l w0 w1 area crcOk tagOk s = .next t ∧ s₀.Keeps c t := by
  refine ⟨_, rfl, ?_⟩
  dsimp only
  refine .flitDone ?_
  split
  · exact h
  · exact h.modLink

theorem State.Keeps.execNakRepeat {l} (h : s₀.Keeps c s) : ∃ t, execNakRepeat l s = .next t ∧ s₀.Keeps c t := by
  refine ⟨_, rfl, ?_⟩
  split
  · split
    · exact h.modLink
    · exact h
  · exact h

theorem State.Keeps.execAckReport {l} (h : s₀.Keeps c s) : ∃ t, execAckReport l s = .next t ∧ s₀.Keeps c t := by
  refine ⟨_, rfl, ?_⟩
  split
  · exact h.modLink
  · exact h

theorem State.Keeps.execLinkRetrained {l ok} (h : s₀.Keeps c s) : ∃ t, execLinkRetrained l ok s = .next t ∧ s₀.Keeps c t := by
  refine ⟨_, rfl, ?_⟩
  split
  · split
    · split
      · exact h
      · exact h.setLinkState.radd.raise.modLink.wornReplace.pump
    · dsimp only
      split
      · exact h.linkDown
      · exact h.modLink
  · exact h

theorem State.Keeps.execRekeyStart {l} (h : s₀.Keeps c s) : ∃ t, execRekeyStart l s = .next t ∧ s₀.Keeps c t := by
  refine ⟨_, rfl, ?_⟩
  dsimp only
  split
  · split
    · exact h
    · next e =>
        exact ((h.random e).modLink).toLink
  · exact h

theorem State.Keeps.execMessageDropped {l} (h : s₀.Keeps c s) : ∃ t, execMessageDropped l s = .next t ∧ s₀.Keeps c t := by
  refine ⟨_, rfl, ?_⟩
  split
  · split
    · exact h.modLink.freeRx.dropMsg
    · exact h
  · exact h

theorem State.Keeps.execFabricLinkDown {l} (h : s₀.Keeps c s) : ∃ t, execFabricLinkDown l s = .next t ∧ s₀.Keeps c t :=
  ⟨_, rfl, h.modLink.linkDown⟩

theorem State.Keeps.takeRx {l op} {r} (h : s₀.Keeps c s) (e : s.takeRx l op = some r) : s₀.Keeps c r.2 := by
  unfold State.takeRx at e
  split at e
  · cases e
  · split at e
    · cases e
    · cases e
      exact h.modLink.freeRx

theorem State.Keeps.arrive_ {l m} (h : s₀.Keeps c s) : s₀.Keeps c (s.arrive_ l m).1 := by
  unfold State.arrive_
  split
  · exact h
  · split
    · exact h
    · split
      · dsimp only
        split
        · exact h
        · split
          · split
            · exact h
            · exact h.raise
          · refine h.foldl (fun _ _ k1 => ?_)
            split
            · exact k1.toLink
            · exact k1.radd
      · split
        · exact h
        · exact h.forward

theorem State.Keeps.reply {l m op target data} (h : s₀.Keeps c s) : s₀.Keeps c (s.reply l m op target data) := by
  unfold State.reply
  split
  · exact h.answer
  · exact h

theorem State.Keeps.refuse {l m reason} (h : s₀.Keeps c s) : s₀.Keeps c (s.refuse l m reason) := by
  unfold State.refuse
  split
  · exact h.raise
  · exact h.reply

theorem State.Keeps.winRefused {l m} (h : s₀.Keeps c s) : s₀.Keeps c (s.winRefused l m) :=
  h.raise.refuse

theorem State.Keeps.doWrite {l m} (h : s₀.Keeps false s) : s₀.Keeps false (s.doWrite l m) := by
  unfold State.doWrite
  split
  · split
    · exact h.sporeWrite.reply
    · exact h.winRefused
  · split
    · exact h.winRefused
    · dsimp only
      split
      · next e =>
          split
          · exact h.vwrite.of_eq e
          · exact (h.vwrite.of_eq e).reply
      · next e =>
          exact ((h.vwrite.of_eq e).vFault).refuse

theorem State.Keeps.execMsgWrite {l} (h : s₀.Keeps c s) : ∃ t, execMsgWrite l s = .next t ∧ s₀.Keeps c t := by
  refine ⟨_, rfl, ?_⟩
  refine h.attempt (fun k => ?_)
  split
  · exact k
  · next e =>
      split
      · next e1 =>
          exact ((k.takeRx e).arrive_).of_eq e1
      · next e1 =>
          exact (((k.takeRx e).arrive_).of_eq e1).doWrite

theorem State.Keeps.redWrite1 {w m x} (h : s₀.Keeps false s) : s₀.Keeps false (s.redWrite1 w m x).1 := by
  unfold State.redWrite1
  split
  · next e =>
      exact h.xlate.of_eq e
  · next e =>
      split
      · exact h.xlate.of_eq e
      · split
        · exact ((h.xlate.of_eq e).noteFills).setWaited
        · split
          · next e1 =>
              exact ((h.xlate.of_eq e).reduceAt).of_eq e1
          · next e1 =>
              exact ((h.xlate.of_eq e).reduceAt).of_eq e1

theorem State.Keeps.execMsgRedWrite {l} (h : s₀.Keeps c s) : ∃ t, execMsgRedWrite l s = .next t ∧ s₀.Keeps c t := by
  refine ⟨_, rfl, ?_⟩
  refine h.attempt (fun k => ?_)
  split
  · exact k
  · next e =>
      split
      · next e1 =>
          exact ((k.takeRx e).arrive_).of_eq e1
      · next e1 =>
          dsimp only
          split
          · exact (((k.takeRx e).arrive_).of_eq e1).winRefused
          · split
            · next e2 =>
                refine ((((((k.takeRx e).arrive_).of_eq e1).foldl_fst (fun _ _ k1 => ?_)).of_eq e2).vFault).refuse
                split
                · exact k1
                · exact k1.redWrite1
            · next e2 =>
                refine (((((k.takeRx e).arrive_).of_eq e1).foldl_fst (fun _ _ k1 => ?_)).of_eq e2).reply
                split
                · exact k1
                · exact k1.redWrite1

theorem State.Keeps.execMsgRead {l} (h : s₀.Keeps c s) : ∃ t, execMsgRead l s = .next t ∧ s₀.Keeps c t := by
  refine ⟨_, rfl, ?_⟩
  refine h.attempt (fun k => ?_)
  split
  · exact k
  · next e =>
      split
      · next e1 =>
          exact ((k.takeRx e).arrive_).of_eq e1
      · next e1 =>
          split
          · split
            · split
              · next e2 =>
                  exact (((((k.takeRx e).arrive_).of_eq e1).sporeRead).of_eq e2).reply
            · exact (((k.takeRx e).arrive_).of_eq e1).winRefused
          · split
            · exact (((k.takeRx e).arrive_).of_eq e1).winRefused
            · dsimp only
              split
              · next e2 =>
                  exact (((((k.takeRx e).arrive_).of_eq e1).vread).of_eq e2).reply
              · next e2 =>
                  exact ((((((k.takeRx e).arrive_).of_eq e1).vread).of_eq e2).vFault).refuse

theorem State.Keeps.execMsgSignal {l} (h : s₀.Keeps c s) : ∃ t, execMsgSignal l s = .next t ∧ s₀.Keeps c t := by
  refine ⟨_, rfl, ?_⟩
  split
  · next e =>
      split
      · exact h
      · split
        · next e1 =>
            exact ((h.takeRx e).arrive_).of_eq e1
        · next e1 =>
            exact (((h.takeRx e).arrive_).of_eq e1).units
  · exact h

theorem State.Keeps.xferFail {l x m} (h : s₀.Keeps false s) : s₀.Keeps false (s.xferFail l x m) :=
  h.xferDrop.raise.refuse

theorem State.Keeps.xferDone {x q} (h : s₀.Keeps c s) : s₀.Keeps c (s.xferDone x q) :=
  h.modSlot.setXfer

theorem State.Keeps.sessHead {l x m} (h : s₀.Keeps false s) : s₀.Keeps false (s.sessHead l x m) := by
  unfold State.sessHead
  dsimp only
  split
  · split
    · exact h.xferDrop.raise.refuse
    · split
      · next e =>
          exact (((h.xferDrop.grow.of_eq e).giveBack).raise).refuse
      · next e =>
          refine .reply ?_
          split
          · exact ((h.xferDrop.grow.of_eq e).modSlot).xferDone
          · exact ((h.xferDrop.grow.of_eq e).modSlot).setXfer
  · split
    · exact h.raise.refuse
    · split
      · next e =>
          exact (((h.grow.of_eq e).giveBack).raise).refuse
      · next e =>
          refine .reply ?_
          split
          · exact ((h.grow.of_eq e).modSlot).xferDone
          · exact ((h.grow.of_eq e).modSlot).setXfer

theorem State.Keeps.execMsgSess {l} (h : s₀.Keeps c s) : ∃ t, execMsgSess l s = .next t ∧ s₀.Keeps c t := by
  refine ⟨_, rfl, ?_⟩
  refine h.attempt (fun k => ?_)
  split
  · exact k
  · next e =>
      split
      · next e1 =>
          exact ((k.takeRx e).arrive_).of_eq e1
      · next e1 =>
          dsimp only
          split
          · exact (((k.takeRx e).arrive_).of_eq e1).sessHead
          · split
            · exact ((((k.takeRx e).arrive_).of_eq e1).raise).refuse
            · split
              · exact (((k.takeRx e).arrive_).of_eq e1).xferFail
              · split
                · next e2 =>
                    exact (((((k.takeRx e).arrive_).of_eq e1).kvPage).of_eq e2).xferFail
                · next e2 =>
                    split
                    · next e3 =>
                        exact (((((((k.takeRx e).arrive_).of_eq e1).kvPage).of_eq e2).vwrite).of_eq e3).xferFail
                    · next e3 =>
                        refine .reply ?_
                        split
                        · exact (((((((k.takeRx e).arrive_).of_eq e1).kvPage).of_eq e2).vwrite).of_eq e3).xferDone
                        · exact (((((((k.takeRx e).arrive_).of_eq e1).kvPage).of_eq e2).vwrite).of_eq e3).setXfer

theorem State.Keeps.response {l op res} (h : s₀.Keeps false s) : s₀.Keeps false (s.response l op res) := by
  unfold State.response
  split
  · exact h
  · next e =>
      split
      · next e1 =>
          exact ((h.takeRx e).arrive_).of_eq e1
      · next e1 =>
          split
          · exact (((h.takeRx e).arrive_).of_eq e1).reqEnd
          · exact ((h.takeRx e).arrive_).of_eq e1

theorem State.Keeps.execMsgDone {l} (h : s₀.Keeps c s) : ∃ t, execMsgDone l s = .next t ∧ s₀.Keeps c t :=
  ⟨_, rfl, h.attempt (fun k => k.response)⟩

theorem State.Keeps.execMsgData {l} (h : s₀.Keeps c s) : ∃ t, execMsgData l s = .next t ∧ s₀.Keeps c t :=
  ⟨_, rfl, h.attempt (fun k => k.response)⟩

theorem State.Keeps.execMsgError {l} (h : s₀.Keeps c s) : ∃ t, execMsgError l s = .next t ∧ s₀.Keeps c t :=
  ⟨_, rfl, h.attempt (fun k => k.response)⟩

theorem State.Keeps.execMsgChunk {l} (h : s₀.Keeps c s) : ∃ t, execMsgChunk l s = .next t ∧ s₀.Keeps c t := by
  refine ⟨_, rfl, ?_⟩
  refine h.attempt (fun k => ?_)
  split
  · exact k
  · next e =>
      dsimp only
      split
      · exact k.takeRx e
      · split
        · exact (k.takeRx e).redAbort
        · split
          · exact k.takeRx e
          · split
            · split
              · next e1 =>
                  exact ((((k.takeRx e).redPerform).of_eq e1).setRed).redGo
              · next e1 =>
                  exact (((k.takeRx e).redPerform).of_eq e1).redAbort
            · exact ((k.takeRx e).setRed).redGo

theorem State.Keeps.execMsgAdvance {l} (h : s₀.Keeps c s) : ∃ t, execMsgAdvance l s = .next t ∧ s₀.Keeps c t := by
  refine ⟨_, rfl, ?_⟩
  refine h.attempt (fun k => ?_)
  split
  · exact k
  · next e =>
      dsimp only
      split
      · exact k.takeRx e
      · split
        · split
          · exact ((k.takeRx e).setRed).redGo
          · exact (k.takeRx e).units
        · exact (k.takeRx e).units

theorem State.Keeps.execMsgAbort {l} (h : s₀.Keeps c s) : ∃ t, execMsgAbort l s = .next t ∧ s₀.Keeps c t := by
  refine ⟨_, rfl, ?_⟩
  split
  · exact h
  · next e =>
      dsimp only
      split
      · split
        · exact (h.takeRx e).redAbort
        · exact (h.takeRx e).units
      · exact (h.takeRx e).units

theorem State.Keeps.execMsgLeave {l} (h : s₀.Keeps c s) : ∃ t, execMsgLeave l s = .next t ∧ s₀.Keeps c t := by
  refine ⟨_, rfl, ?_⟩
  split
  · exact h
  · next e =>
      exact (h.takeRx e).linkDown

theorem State.Keeps.execMsgRekey {l} (h : s₀.Keeps c s) : ∃ t, execMsgRekey l s = .next t ∧ s₀.Keeps c t := by
  refine ⟨_, rfl, ?_⟩
  split
  · exact h
  · split
    · exact h
    · next e =>
      have h1 := h.takeRx e
      dsimp only
      split
      · exact h1
      · next e1 =>
        refine .modLink ?_
        split at e1
        · cases e1
          exact h1
        · obtain ⟨x, hx, rfl⟩ := Option.map_eq_some_iff.mp e1
          exact ((h1.random hx).modLink).toLink

theorem State.Keeps.execMsgIdent {l} (h : s₀.Keeps c s) : ∃ t, execMsgIdent l s = .next t ∧ s₀.Keeps c t := by
  refine ⟨_, rfl, ?_⟩
  split
  · exact h
  · next e =>
      split
      · exact h.takeRx e
      · dsimp only
        split
        · split
          · exact (((((h.takeRx e).rset).rset).raise).addFence).setLinkState
          · exact (((h.takeRx e).rset).rset).modLink
        · split
          · exact (((((h.takeRx e).rset).rset).raise).addFence).setLinkState
          · exact (((h.takeRx e).rset).rset).modLink

theorem State.Keeps.execMsgKeyx {l} (h : s₀.Keeps c s) : ∃ t, execMsgKeyx l s = .next t ∧ s₀.Keeps c t := by
  refine ⟨_, rfl, ?_⟩
  split
  · exact h
  · next e =>
      dsimp only
      split
      · exact h.takeRx e
      · split
        · split
          · exact (h.takeRx e).modLink
          · exact ((((h.takeRx e).raise).addFence).trainFail).setLinkState
        · split
          · exact ((h.takeRx e).raise).modLink
          · exact ((((h.takeRx e).raise).addFence).trainFail).setLinkState

theorem State.Keeps.execWinOpen {r i} (h : s₀.Keeps c s) : ∃ t, execWinOpen r i s = .next t ∧ s₀.Keeps c t := by
  refine ⟨_, rfl, ?_⟩
  refine h.attempt (fun k => ?_)
  split
  · exact k
  · dsimp only
    split
    · exact k.complete
    · split
      · exact k.complete
      · split
        · exact k.complete
        · exact k.units.complete

end
end Sys2Proof.Machine
end

section
/-!
PROOFS. What every step keeps (`State.Keeps`): fabric descriptors, security and power.
-/

namespace Sys2Proof.Machine
open State

set_option Elab.async false

section
variable {c : Bool} {s₀ s t : State}

theorem State.Keeps.execWinClose {r i} (h : s₀.Keeps c s) : ∃ t, execWinClose r i s = .next t ∧ s₀.Keeps c t := by
  refine ⟨_, rfl, ?_⟩
  split
  · exact h
  · dsimp only
    split
    · exact h.complete
    · split
      · exact h.complete
      · exact h.units.complete

theorem State.Keeps.jobBegin {r i d} (h : s₀.Keeps false s) : s₀.Keeps false (s.jobBegin r i d) :=
  h.units.markRan.jobStep

theorem State.Keeps.fabMalformed {r i} (h : s₀.Keeps c s) : s₀.Keeps c (s.fabMalformed r i) :=
  h.raise.complete

theorem State.Keeps.execPut {r i} (h : s₀.Keeps c s) : ∃ t, execPut r i s = .next t ∧ s₀.Keeps c t := by
  refine ⟨_, rfl, ?_⟩
  refine h.attempt (fun k => ?_)
  split
  · exact k
  · split
    · exact k.complete
    · split
      · exact k.fabMalformed
      · exact k.jobBegin

theorem State.Keeps.execGet {r i} (h : s₀.Keeps c s) : ∃ t, execGet r i s = .next t ∧ s₀.Keeps c t := by
  refine ⟨_, rfl, ?_⟩
  refine h.attempt (fun k => ?_)
  split
  · exact k
  · split
    · exact k.complete
    · exact k.jobBegin

theorem State.Keeps.execFabricSignal {r i} (h : s₀.Keeps c s) : ∃ t, execFabricSignal r i s = .next t ∧ s₀.Keeps c t := by
  refine ⟨_, rfl, ?_⟩
  refine h.attempt (fun k => ?_)
  split
  · exact k
  · split
    · exact k.complete
    · split
      · exact k
      · exact k.jobBegin

theorem State.Keeps.execSessionSend {r i} (h : s₀.Keeps c s) : ∃ t, execSessionSend r i s = .next t ∧ s₀.Keeps c t := by
  refine ⟨_, rfl, ?_⟩
  refine h.attempt (fun k => ?_)
  split
  · exact k
  · dsimp only
    split
    · exact k.complete
    · split
      · exact k.sesDown
      · split
        · exact k.raise.complete
        · split
          · exact k.slotCheck.complete
          · exact k.slotCheck.modSlot.jobBegin

/-- A transfer of a session that failed gives no pages back. -/
theorem State.Keeps.sessEnd_false {x} (h : s₀.Keeps c s) : s₀.Keeps c (s.sessEnd x false) := by
  unfold State.sessEnd
  rw [if_neg Bool.false_ne_true]
  exact h.modSlot

theorem State.Keeps.jobEnd_failed {j : Job} {e d} (h : s₀.Keeps c s) : s₀.Keeps c (s.jobEnd { j with err := some e } d) := by
  unfold State.jobEnd
  refine .complete ?_
  split
  · exact h.dropJob.sessEnd_false
  · exact h.dropJob

theorem State.Keeps.execFabricTimeout {tag} (h : s₀.Keeps c s) : ∃ t, execFabricTimeout tag s = .next t ∧ s₀.Keeps c t := by
  refine ⟨_, rfl, ?_⟩
  split
  · exact h
  · split
    · exact h
    · dsimp only
      split
      · exact h.raise.reqEnd_error
      · split
        · exact h.raise.units.jobEnd_failed.jobsGo
        · exact h.raise.units

theorem State.Keeps.execReduce {r i} (h : s₀.Keeps c s) : ∃ t, execReduce r i s = .next t ∧ s₀.Keeps c t := by
  refine ⟨_, rfl, ?_⟩
  refine h.attempt (fun k => ?_)
  split
  · exact k
  · dsimp only
    split
    · exact k.complete
    · split
      · exact k.fabMalformed
      · split
        · exact k.complete
        · split
          · exact k
          · split
            · exact k.units.markRan.setRed.setRed.raise.complete
            · split
              · split
                · exact k.units.markRan.setRed.redAbort
                · split
                  · exact k.units.markRan.setRed.redAbort
                  · exact k.units.markRan.setRed.redAdvance.redGo
              · split
                · exact k.units.markRan.setRed.redAbort
                · split
                  · exact k.units.markRan.setRed.redAbort
                  · exact k.units.markRan.setRed.redAdvance.redGo

theorem State.Keeps.execReduceComplete {g} (h : s₀.Keeps c s) : ∃ t, execReduceComplete g s = .next t ∧ s₀.Keeps c t := by
  refine ⟨_, rfl, ?_⟩
  refine h.attempt (fun k => ?_)
  split
  · exact k
  · split
    · exact k
    · dsimp only
      split
      · exact k.setRed
      · split
        · split
          · next e =>
              exact (k.setRed.sorNow.of_eq e).complete
          · next e =>
              exact ((k.setRed.sorNow.of_eq e).raise).complete
        · exact k.setRed.complete

theorem State.Keeps.execReductionTimeout {g} (h : s₀.Keeps c s) : ∃ t, execReductionTimeout g s = .next t ∧ s₀.Keeps c t := by
  refine ⟨_, rfl, ?_⟩
  split
  · exact h
  · split
    · exact h.redAbort
    · exact h

theorem State.Keeps.execFabTable {r i} (h : s₀.Keeps c s) : ∃ t, execFabTable r i s = .next t ∧ s₀.Keeps c t := by
  refine ⟨_, rfl, ?_⟩
  refine h.attempt (fun k => ?_)
  split
  · exact k
  · dsimp only
    split
    · split
      · exact k.fabMalformed
      · split
        · next e =>
            exact ((k.vread.of_eq e).vFault).complete
        · next e =>
            split
            · split
              · exact (k.vread.of_eq e).complete
              · exact ((k.vread.of_eq e).units).complete
            · split
              · exact (k.vread.of_eq e).complete
              · exact ((k.vread.of_eq e).units).complete
            · split
              · exact (k.vread.of_eq e).complete
              · split
                · exact (k.vread.of_eq e).complete
                · exact ((k.vread.of_eq e).units).complete
    · split
      · split
        · exact k.fabMalformed
        · split
          · next e =>
              exact ((k.vread.of_eq e).vFault).complete
          · next e =>
              split
              · split
                · exact (k.vread.of_eq e).complete
                · exact ((k.vread.of_eq e).units).complete
              · split
                · exact (k.vread.of_eq e).complete
                · exact ((k.vread.of_eq e).units).complete
              · split
                · exact (k.vread.of_eq e).complete
                · split
                  · exact (k.vread.of_eq e).complete
                  · exact ((k.vread.of_eq e).units).complete
      · split
        · exact k.fabMalformed
        · split
          · next e =>
              exact ((k.vread.of_eq e).vFault).complete
          · next e =>
              split
              · split
                · exact (k.vread.of_eq e).complete
                · exact ((k.vread.of_eq e).units).complete
              · split
                · exact (k.vread.of_eq e).complete
                · exact ((k.vread.of_eq e).units).complete
              · split
                · exact (k.vread.of_eq e).complete
                · split
                  · exact (k.vread.of_eq e).complete
                  · exact ((k.vread.of_eq e).units).complete

theorem State.Keeps.execFwSpore {r i} (h : s₀.Keeps c s) : ∃ t, execFwSpore r i s = .next t ∧ s₀.Keeps c t := by
  refine ⟨_, rfl, ?_⟩
  refine h.attempt (fun k => ?_)
  split
  · exact k
  · dsimp only
    split
    · next e =>
        exact ((k.vread.of_eq e).vFault).complete
    · next e =>
        split
        · next e1 =>
            exact ((((k.vread.of_eq e).vread).of_eq e1).vFault).complete
        · next e1 =>
            split
            · exact (((k.vread.of_eq e).vread).of_eq e1).sporeEnd
            · exact ((((((k.vread.of_eq e).vread).of_eq e1).units).foldl (fun _ _ k1 => k1.route)).markRan).sporeStep

theorem State.Keeps.rngFail (h : s₀.Keeps c s) : s₀.Keeps c (s.rngFail) :=
  h.units.rset.radd.raise

theorem State.Keeps.execRandomSourceFailure (h : s₀.Keeps c s) : ∃ t, execRandomSourceFailure s = .next t ∧ s₀.Keeps c t := by
  refine ⟨_, rfl, ?_⟩
  split
  · exact h.rngFail
  · exact h

theorem State.Keeps.execRandomSourceRetest {pass} (h : s₀.Keeps c s) : ∃ t, execRandomSourceRetest pass s = .next t ∧ s₀.Keeps c t := by
  refine ⟨_, rfl, ?_⟩
  split
  · exact h
  · split
    · exact h.rngFail
    · split
      · exact h.units.rset
      · exact h.units

theorem State.Keeps.answered {l} (h : s₀.Keeps c s) : s₀.Keeps c (s.answered l) :=
  h.units

theorem State.Keeps.spdmError {name} (h : s₀.Keeps c s) : s₀.Keeps c (s.spdmError name) :=
  h.answered

theorem State.Keeps.useIndex (h : s₀.Keeps c s) : s₀.Keeps c (s.useIndex) :=
  h.units

theorem State.Keeps.signEvidence {nonce} (h : s₀.Keeps c s) : s₀.Keeps c (s.signEvidence nonce) :=
  h.ecdsa.answered.useIndex

theorem State.Keeps.evidenceGo {nonce} (h : s₀.Keeps c s) : s₀.Keeps c (s.evidenceGo nonce) := by
  unfold State.evidenceGo
  split
  · exact h.raise.spdmError
  · split
    · exact h.spdmError
    · split
      · exact h.signEvidence
      · exact h.units

theorem State.Keeps.execLmsReservation (h : s₀.Keeps c s) : ∃ t, execLmsReservation s = .next t ∧ s₀.Keeps c t := by
  refine ⟨_, rfl, ?_⟩
  split
  · exact h.units.commitFor
  · exact h

theorem State.Keeps.execLmsReservationDone (h : s₀.Keeps c s) : ∃ t, execLmsReservationDone s = .next t ∧ s₀.Keeps c t := by
  refine ⟨_, rfl, ?_⟩
  split
  · exact h
  · dsimp only
    split
    · exact h.units.foldl (fun _ _ k => k.evidenceGo)
    · exact h.units.raise.foldl (fun _ _ k => k.spdmError)

theorem State.Keeps.execLmsTreeBuilt (h : s₀.Keeps c s) : ∃ t, execLmsTreeBuilt s = .next t ∧ s₀.Keeps c t := by
  refine ⟨_, rfl, ?_⟩
  split
  · exact h.units
  · exact h

theorem State.Keeps.execLmsIndexLow (h : s₀.Keeps c s) : ∃ t, execLmsIndexLow s = .next t ∧ s₀.Keeps c t := by
  refine ⟨_, rfl, ?_⟩
  dsimp only
  split
  · split
    · exact h.units.raise
    · exact h
  · split
    · exact h.units.raise
    · exact h

theorem State.Keeps.secRestart (h : s₀.Keeps c s) : s₀.Keeps c (s.secRestart) :=
  h.units

theorem State.Keeps.freeTenant {t'} (h : s₀.Keeps c s) : s₀.Keeps c (s.freeTenant t') :=
  h.foldl (fun _ _ k => k.setSlot)

theorem State.Keeps.execTenantErase {r i} (h : s₀.Keeps c s) : ∃ t, execTenantErase r i s = .next t ∧ s₀.Keeps c t := by
  refine ⟨_, rfl, ?_⟩
  split
  · exact h
  · dsimp only
    split
    · exact h.complete
    · split
      · exact h.setTenantKey.complete
      · exact h.setTenantKey.units.markRan.commitFor

theorem State.Keeps.eraseCommitted {r i ok} (h : s₀.Keeps c s) : s₀.Keeps c (s.eraseCommitted r i ok) := by
  unfold State.eraseCommitted
  split
  · exact h
  · dsimp only
    split
    · exact h.units.freeTenant.complete
    · exact h.units.complete

theorem State.Keeps.execKeySlotUncorrectable {kind slot} (h : s₀.Keeps c s) : ∃ t, execKeySlotUncorrectable kind slot s = .next t ∧ s₀.Keeps c t := by
  refine ⟨_, rfl, ?_⟩
  dsimp only
  split
  · split
    · exact h.raise.seqDone.modSlot.sesIrq
    · exact h
  · split
    · exact h.raise.setTenantKey
    · exact h
  · split
    · exact h.raise.linkDown
    · exact h
  · split
    · split
      · split
        · exact h.raise.ideFail
        · exact h.raise.setIde
      · exact h
    · split
      · split
        · exact h.raise.ideFail
        · exact h.raise.setIde
      · exact h
  · split
    · exact h.raise.units
    · exact h
  · split
    · exact h.raise.units
    · exact h
  · exact h

theorem State.Keeps.ownerMsg {k' m sig} (h : s₀.Keeps c s) : s₀.Keeps c (s.ownerMsg k' m sig) := by
  unfold State.ownerMsg
  split
  · exact h
  · split
    · exact h.units.commitFor
    · exact h.radd.raise.answered

theorem State.Keeps.ownerApply {m} (h : s₀.Keeps c s) : s₀.Keeps c (s.ownerApply m) := by
  unfold State.ownerApply
  dsimp only
  split
  · exact h.units.rset
  · exact (((h.units.foldl (fun _ _ k => k.setTenantKey.freeTenant)).units).rset).rset
  · exact h.units.rset
  · exact h.units

theorem State.Keeps.ownerCommitted {ok} (h : s₀.Keeps c s) : s₀.Keeps c (s.ownerCommitted ok) := by
  unfold State.ownerCommitted
  split
  · exact h
  · dsimp only
    split
    · exact h.units.ownerApply.answered
    · exact h.units.answered

theorem State.Keeps.execOwnerClaim {k' counter key} (h : s₀.Keeps c s) : ∃ t, execOwnerClaim k' counter key s = .next t ∧ s₀.Keeps c t :=
  ⟨_, rfl, h.ownerMsg⟩

theorem State.Keeps.execOwnerRelease {k' counter sig} (h : s₀.Keeps c s) : ∃ t, execOwnerRelease k' counter sig s = .next t ∧ s₀.Keeps c t :=
  ⟨_, rfl, h.ownerMsg⟩

theorem State.Keeps.execPolicySet {k' counter policy sig} (h : s₀.Keeps c s) : ∃ t, execPolicySet k' counter policy sig s = .next t ∧ s₀.Keeps c t :=
  ⟨_, rfl, h.ownerMsg⟩

theorem State.Keeps.execPeerTableLoad {k' counter peers sig} (h : s₀.Keeps c s) :
    ∃ t, execPeerTableLoad k' counter peers sig s = .next t ∧ s₀.Keeps c t :=
  ⟨_, rfl, h.ownerMsg⟩

theorem State.Keeps.keyExchange {night pub} (h : s₀.Keeps c s) : s₀.Keeps c (s.keyExchange night pub) := by
  unfold State.keyExchange
  split
  · exact h.spdmError
  · split
    · exact h.spdmError
    · next e =>
        dsimp only
        exact (((h.random e).ecdsa).units).answered

theorem State.Keeps.execSpdmRequest {night q} (h : s₀.Keeps c s) : ∃ t, execSpdmRequest night q s = .next t ∧ s₀.Keeps c t := by
  refine ⟨_, rfl, ?_⟩
  split
  · exact h
  · dsimp only
    split
    · exact h.answered
    · exact h.answered
    · exact h.answered
    · exact h.spdmError
    · split
      · exact h.ecdsa.answered
      · exact h.spdmError
    · exact h.ecdsa.answered
    · exact h.keyExchange
    · split
      · exact h.answered
      · exact h.spdmError
    · split
      · exact h.units.answered
      · exact h.spdmError
    · split
      · exact h.units.answered
      · exact h.spdmError
    · exact h.spdmError

theorem State.Keeps.execGetEvidence {night nonce} (h : s₀.Keeps c s) : ∃ t, execGetEvidence night nonce s = .next t ∧ s₀.Keeps c t := by
  refine ⟨_, rfl, ?_⟩
  split
  · exact h
  · split
    · exact h.spdmError
    · exact h.evidenceGo

theorem State.Keeps.execKeyProg {k' stream set key} (h : s₀.Keeps c s) : ∃ t, execKeyProg k' stream set key s = .next t ∧ s₀.Keeps c t := by
  refine ⟨_, rfl, ?_⟩
  dsimp only
  split
  · exact h.setIde
  · exact h

theorem State.Keeps.execKSetGo {stream set} (h : s₀.Keeps c s) : ∃ t, execKSetGo stream set s = .next t ∧ s₀.Keeps c t := by
  refine ⟨_, rfl, ?_⟩
  dsimp only
  split
  · split
    · exact h.setIde.units.ideStat
    · exact h
  · split
    · exact h.setIde.units.ideStat
    · exact h

theorem State.Keeps.execLockInterfaceRequest (h : s₀.Keeps c s) : ∃ t, execLockInterfaceRequest s = .next t ∧ s₀.Keeps c t := by
  refine ⟨_, rfl, ?_⟩
  dsimp only
  split
  · exact h.setTdi.answered
  · exact h.answered

theorem State.Keeps.execStartInterfaceRequest (h : s₀.Keeps c s) : ∃ t, execStartInterfaceRequest s = .next t ∧ s₀.Keeps c t := by
  refine ⟨_, rfl, ?_⟩
  split
  · exact h.setTdi.answered
  · exact h.answered

theorem State.Keeps.execStopInterfaceRequest (h : s₀.Keeps c s) : ∃ t, execStopInterfaceRequest s = .next t ∧ s₀.Keeps c t :=
  ⟨_, rfl, h.setTdi.answered⟩

theorem State.Keeps.updatePause (h : s₀.Keeps c s) : s₀.Keeps c (s.updatePause) := by
  unfold State.updatePause
  split
  · exact h.setFwuState.raise
  · exact h

theorem State.Keeps.updateResume (h : s₀.Keeps c s) : s₀.Keeps c (s.updateResume) := by
  unfold State.updateResume
  dsimp only
  split
  · exact h.setFwuState.raise
  · split
    · exact h.setFwuState.raise.updateNext
    · exact h

theorem State.Keeps.execStart {pages} (h : s₀.Keeps c s) : ∃ t, execStart pages s = .next t ∧ s₀.Keeps c t := by
  refine ⟨_, rfl, ?_⟩
  split
  · exact h
  · dsimp only
    split
    · exact (h.foldl (fun _ _ k => k.hostStore)).updateStart
    · exact (((h.foldl (fun _ _ k => k.hostStore)).countHostFail).hostFault).updateStart

theorem State.Keeps.execEndpointSwitch (h : s₀.Keeps c s) : ∃ t, execEndpointSwitch s = .next t ∧ s₀.Keeps c t := by
  refine ⟨_, rfl, ?_⟩
  split
  · exact h
  · split
    · exact h
    · split
      · split
        · exact h.units.rset
        · exact h
      · exact h.classCommit

theorem State.Keeps.switchEffect {c' i} (h : s₀.Keeps c s) : s₀.Keeps c (s.switchEffect c' i) := by
  unfold State.switchEffect
  split
  · exact h.secRestart.issueAlias
  · split
    · exact h.modFr
    · exact h

theorem State.Keeps.execEndpointReady (h : s₀.Keeps c s) : ∃ t, execEndpointReady s = .next t ∧ s₀.Keeps c t := by
  refine ⟨_, rfl, ?_⟩
  split
  · dsimp only
    refine .updatePause ?_
    split
    · exact h.units.switchEffect.fencesDue.classCommit
    · exact h.units.switchEffect.fencesDue
  · exact h

theorem State.Keeps.execSwitchFailed {oldFails} (h : s₀.Keeps c s) : ∃ t, execSwitchFailed oldFails s = .next t ∧ s₀.Keeps c t := by
  refine ⟨_, rfl, ?_⟩
  split
  · exact h.units.switchEffect.fencesDue.classFail.foldl (fun _ _ k => k.endpointFence.raise)
  · exact h

theorem State.Keeps.execAbandon (h : s₀.Keeps c s) : ∃ t, execAbandon s = .next t ∧ s₀.Keeps c t := by
  refine ⟨_, rfl, ?_⟩
  split
  · exact h.commit.units.setFwuState.raise
  · exact h

theorem State.Keeps.loaderStage {c' q} (h : s₀.Keeps c s) : s₀.Keeps c (s.loaderStage c' q) := by
  unfold State.loaderStage
  split
  · exact h.manRefused
  · exact h.setSlotImg

theorem State.Keeps.execPldmTransfer {c' manifest image} (h : s₀.Keeps c s) : ∃ t, execPldmTransfer c' manifest image s = .next t ∧ s₀.Keeps c t := by
  refine ⟨_, rfl, ?_⟩
  split
  · exact h
  · split
    · exact h.loaderStage
    · split
      · exact h.setSlotImg.units
      · exact h

theorem State.Keeps.execActivateFirmware (h : s₀.Keeps c s) : ∃ t, execActivateFirmware s = .next t ∧ s₀.Keeps c t := by
  refine ⟨_, rfl, ?_⟩
  dsimp only
  split
  · exact h
  · split
    · exact h.updateStart.answered
    · exact h.units.updateStart.answered

theorem State.Keeps.setIn {i v} (h : s₀.Keeps c s) : s₀.Keeps c (s.setIn i v) :=
  h.rset

theorem State.Keeps.carry {i} (h : s₀.Keeps c s) : s₀.Keeps c (s.carry i) :=
  h.setIn.raise

theorem State.Keeps.unqualify {i v} (h : s₀.Keeps c s) : s₀.Keeps c (s.unqualify i v) := by
  unfold State.unqualify
  dsimp only
  split
  · exact h.setIn.rset.rset.rset.rset.units.carry
  · exact h.setIn.rset.rset.rset.rset.units

theorem State.Keeps.readyShow (h : s₀.Keeps c s) : s₀.Keeps c (s.readyShow) :=
  h.rset

theorem State.Keeps.execInputQualified {i} (h : s₀.Keeps c s) : ∃ t, execInputQualified i s = .next t ∧ s₀.Keeps c t := by
  refine ⟨_, rfl, ?_⟩
  split
  · dsimp only
    refine .readyShow ?_
    split
    · split
      · exact h.units.rset.rset.setIn.raise
      · exact h.units.rset.rset.setIn
    · split
      · exact h.units.rset.rset.setIn.raise
      · exact h.units.rset.rset.setIn
  · exact h

theorem State.Keeps.execInputDisqualified {i} (h : s₀.Keeps c s) : ∃ t, execInputDisqualified i s = .next t ∧ s₀.Keeps c t := by
  refine ⟨_, rfl, ?_⟩
  split
  · split
    · exact h.raise.unqualify
    · split
      · exact h.unqualify
      · exact h
  · exact h

theorem State.Keeps.execReturnToMain (h : s₀.Keeps c s) : ∃ t, execReturnToMain s = .next t ∧ s₀.Keeps c t := by
  refine ⟨_, rfl, ?_⟩
  dsimp only
  split
  · split
    · exact h.setIn.carry
    · exact h
  · split
    · exact h.setIn.carry
    · exact h

theorem State.Keeps.execReversePolarity {i} (h : s₀.Keeps c s) : ∃ t, execReversePolarity i s = .next t ∧ s₀.Keeps c t := by
  refine ⟨_, rfl, ?_⟩
  split
  · dsimp only
    split
    · exact h.unqualify.raise
    · exact h.unqualify
  · exact h

theorem State.Keeps.execInputShort {i} (h : s₀.Keeps c s) : ∃ t, execInputShort i s = .next t ∧ s₀.Keeps c t := by
  refine ⟨_, rfl, ?_⟩
  split
  · exact h.raise.unqualify
  · exact h

theorem State.Keeps.discard {l} (h : s₀.Keeps c s) : s₀.Keeps c (s.discard l) :=
  h.units

theorem State.Keeps.removalOver (h : s₀.Keeps c s) : s₀.Keeps c (s.removalOver) :=
  h.units.rset.rset.rset

theorem State.Keeps.nightOff (h : s₀.Keeps c s) : s₀.Keeps c (s.nightOff) :=
  h.coldState.rset.units

theorem State.Keeps.onlyNight (h : s₀.Keeps c s) : s₀.Keeps c (s.onlyNight) :=
  h.coldState.units.foldl (fun _ _ k => k.keepLatch)

theorem State.Keeps.fenceModule {reason loc wid} (h : s₀.Keeps c s) : s₀.Keeps c (s.fenceModule reason loc wid) :=
  h.moduleFence.onlyNight.addFence

theorem State.Keeps.nightDark (h : s₀.Keeps c s) : s₀.Keeps c (s.nightDark) :=
  h.removalOver.units.setRword.rset.rset.rset

theorem State.Keeps.shutDown {begun reason loc} (h : s₀.Keeps c s) : s₀.Keeps c (s.shutDown begun reason loc) := by
  unfold State.shutDown
  dsimp only
  refine .nightDark (.nightOff (.foldl ?_ (fun _ _ k => k.ldgAppend)))
  split
  · split
    · refine .retainNow (.raise ?_)
      split
      · exact h.ldgAppend.discard
      · exact h
    · refine .raise ?_
      split
      · exact h.ldgAppend.discard
      · exact h
  · refine .raise ?_
    split
    · exact h.ldgAppend.discard
    · exact h

theorem State.Keeps.execBothSuppliesLost {begun} (h : s₀.Keeps c s) : ∃ t, execBothSuppliesLost begun s = .next t ∧ s₀.Keeps c t := by
  refine ⟨_, rfl, ?_⟩
  split
  · exact h
  · split
    · exact h.nightDark
    · exact h.shutDown

theorem State.Keeps.zoneOff {z} (h : s₀.Keeps c s) : s₀.Keeps c (s.zoneOff z) := by
  unfold State.zoneOff
  dsimp only
  split
  · exact h.setZone.towerDark
  · exact h.setZone.pileDark

theorem State.Keeps.pileShut {p'} (h : s₀.Keeps c s) : s₀.Keeps c (s.pileShut p') :=
  h.zoneOff.rset.markLost

theorem State.Keeps.execZoneLatchedSwitchOn {z} (h : s₀.Keeps c s) : ∃ t, execZoneLatchedSwitchOn z s = .next t ∧ s₀.Keeps c t := by
  refine ⟨_, rfl, ?_⟩
  split
  · split <;> exact h.setZone
  · exact h

theorem State.Keeps.execCellShed {c'} (h : s₀.Keeps c s) : ∃ t, execCellShed c' s = .next t ∧ s₀.Keeps c t := by
  refine ⟨_, rfl, ?_⟩
  split
  · dsimp only
    split
    · refine .fenceModule ?_
      split
      · exact h.units.rset.raise.commit.zeroReserve
      · exact h.units.rset.raise.commit
    · split
      · exact h.units.rset.raise.commit.zeroReserve
      · exact h.units.rset.raise.commit
  · exact h

theorem State.Keeps.execBranchShort {b} (h : s₀.Keeps c s) : ∃ t, execBranchShort b s = .next t ∧ s₀.Keeps c t := by
  refine ⟨_, rfl, ?_⟩
  dsimp only
  split
  · split
    · split
      · split
        · exact h.units.fenceTower.zoneOff.rset
        · exact h.units.fencePile.pileShut
      · exact h
    · exact h.units.raise
  · exact h

theorem State.Keeps.engineDark {e' reason loc} (h : s₀.Keeps c s) : s₀.Keeps c (s.engineDark e' reason loc) := by
  unfold State.engineDark
  dsimp only
  split
  · exact h.raise.addFence.foldl (fun _ _ k => k.linkDown)
  · split
    · exact h.raise.addFence.hostLinkDown
    · exact h.raise.addFence.rset

theorem State.Keeps.quadrantDark {t' die q} (h : s₀.Keeps c s) : s₀.Keeps c (s.quadrantDark t' die q) := by
  unfold State.quadrantDark
  dsimp only
  refine .stored ?_ (by exact ⟨id, id, spWf_filter _ _, id, id⟩)
  split
  · exact h.neitherMode
  · exact h

theorem State.Keeps.quadrantChannels {t' q loc wid} (h : s₀.Keeps c s) : s₀.Keeps c (s.quadrantChannels t' q loc wid) :=
  h.foldl (fun _ _ k => k.fenceChannel)

theorem State.Keeps.towerGroupDark {t' g loc} (h : s₀.Keeps c s) : s₀.Keeps c (s.towerGroupDark t' g loc) := by
  unfold State.towerGroupDark
  split
  · exact h.raise.units.foldl (fun _ _ k => k.fenceFrond)
  · split
    · exact h.fenceFrond
    · split
      · exact h.fenceFrond.quadrantChannels.quadrantDark.quadrantDark.distBump
      · split
        · exact h.quadrantChannels.quadrantDark.distBump
        · split
          · exact h.fenceTower
          · exact h.raise

theorem State.Keeps.phaseStep {k' n loc} (h : s₀.Keeps c s) : s₀.Keeps c (s.phaseStep k' n loc) := by
  unfold State.phaseStep
  split
  · dsimp only
    split
    · exact h.raise.zeroReserve
    · split
      · exact h.rbit.raise
      · split
        · exact h.rbit.towerGroupDark
        · exact h
  · split
    · dsimp only
      split
      · exact h.raise.zeroReserve
      · split
        · exact h.units.raise
        · split
          · exact h.fencePile.pileDark
          · exact h
    · split
      · dsimp only
        split
        · refine .fenceModule ?_
          split
          · exact h.raise
          · split
            · exact h.raise.zeroReserve
            · exact h.raise
        · refine .units ?_
          split
          · exact h.raise
          · split
            · exact h.raise.zeroReserve
            · exact h.raise
      · split
        · split
          · exact h.raise
          · split
            · exact h.raise.zeroReserve
            · split
              · exact h.engineDark
              · exact h
        · split
          · exact h.raise.zeroReserve
          · exact h.discard.rset

theorem State.Keeps.execPhaseFail {k' ph} (h : s₀.Keeps c s) : ∃ t, execPhaseFail k' ph s = .next t ∧ s₀.Keeps c t := by
  refine ⟨_, rfl, ?_⟩
  split
  · dsimp only
    refine .phaseStep (.commit ?_)
    split
    · exact h.units.radd
    · exact h.units
  · exact h

theorem State.Keeps.skipMore {fs} (h : s₀.Keeps c s) : s₀.Keeps c (s.skipMore fs) :=
  h.units

theorem State.Keeps.execRailOverLimit {t' rail} (h : s₀.Keeps c s) : ∃ t, execRailOverLimit t' rail s = .next t ∧ s₀.Keeps c t := by
  refine ⟨_, rfl, ?_⟩
  split
  · exact h.skipMore.radd
  · exact h

theorem State.Keeps.execInputOverLimit (h : s₀.Keeps c s) : ∃ t, execInputOverLimit s = .next t ∧ s₀.Keeps c t :=
  ⟨_, rfl, h.skipMore⟩

theorem State.Keeps.setClk {f mhz} (h : s₀.Keeps c s) : s₀.Keeps c (s.setClk f mhz) :=
  h.rset

theorem State.Keeps.setVolt {f v} (h : s₀.Keeps c s) : s₀.Keeps c (s.setVolt f v) :=
  h.units

theorem State.Keeps.setClkUp {f v} (h : s₀.Keeps c s) : s₀.Keeps c (s.setClkUp f v) :=
  h.units

theorem State.Keeps.aimClk {f mhz} (h : s₀.Keeps c s) : s₀.Keeps c (s.aimClk f mhz) := by
  unfold State.aimClk
  split
  · exact h.setClk.setClkUp.setVolt
  · split
    · exact h.setClk.setClkUp
    · exact h.setClkUp

theorem State.Keeps.execVoltageRampDone {f} (h : s₀.Keeps c s) : ∃ t, execVoltageRampDone f s = .next t ∧ s₀.Keeps c t := by
  refine ⟨_, rfl, ?_⟩
  split
  · split
    · exact h.setVolt.setClk.setClkUp
    · exact h
  · exact h

theorem State.Keeps.thmIrq (h : s₀.Keeps c s) : s₀.Keeps c (s.thmIrq) := by
  unfold State.thmIrq
  split
  · exact h.msi
  · exact h

theorem State.Keeps.execFlowPresent (h : s₀.Keeps c s) : ∃ t, execFlowPresent s = .next t ∧ s₀.Keeps c t := by
  refine ⟨_, rfl, ?_⟩
  split
  · exact h.rset.rset
  · exact h

theorem State.Keeps.execLowFlow (h : s₀.Keeps c s) : ∃ t, execLowFlow s = .next t ∧ s₀.Keeps c t :=
  ⟨_, rfl, h.raise⟩

theorem State.Keeps.execCoolantLost (h : s₀.Keeps c s) : ∃ t, execCoolantLost s = .next t ∧ s₀.Keeps c t :=
  ⟨_, rfl, h.rset.raise⟩

theorem State.Keeps.execReversedFlow (h : s₀.Keeps c s) : ∃ t, execReversedFlow s = .next t ∧ s₀.Keeps c t := by
  refine ⟨_, rfl, ?_⟩
  split
  · exact h.rset.raise.thmIrq
  · exact h

theorem State.Keeps.execReversedFlowCleared (h : s₀.Keeps c s) : ∃ t, execReversedFlowCleared s = .next t ∧ s₀.Keeps c t := by
  refine ⟨_, rfl, ?_⟩
  split
  · exact h.rset.raise.thmIrq
  · exact h

theorem State.Keeps.coolSample {h'} (h : s₀.Keeps c s) : s₀.Keeps c (s.coolSample h') := by
  unfold State.coolSample
  dsimp only
  split
  · exact h.rset.rset.rset.rset.rset
  · exact h.rset.rset.rset.rset

theorem State.Keeps.modelStep {h'} (h : s₀.Keeps c s) : s₀.Keeps c (s.modelStep h') :=
  h.units.units

theorem State.Keeps.modelStart {inlet} (h : s₀.Keeps c s) : s₀.Keeps c (s.modelStart inlet) :=
  h.units

theorem State.Keeps.sensorStep {h' k'} (h : s₀.Keeps c s) : s₀.Keeps c (s.sensorStep h' k') := by
  unfold State.sensorStep
  split
  · exact h
  · dsimp only
    split
    · split
      · exact h.units.raise
      · exact h.units
    · split
      · exact h.units.raise
      · exact h.units

theorem State.Keeps.offsetStep {h' n} (h : s₀.Keeps c s) : s₀.Keeps c (s.offsetStep h' n) := by
  unfold State.offsetStep
  dsimp only
  split
  · exact h.units
  · split <;> exact h.units

theorem State.Keeps.calStep {h' z} (h : s₀.Keeps c s) : s₀.Keeps c (s.calStep h' z) := by
  unfold State.calStep
  dsimp only
  split
  · split
    · split
      · split
        · split
          · exact h.units.rset.raise.thmIrq
          · exact h.units.rset.raise.thmIrq.setPileBand
        · split
          · exact h.units.rset
          · exact h.units
      · split
        · split
          · exact h.units.rset.raise.thmIrq
          · exact h.units.rset.raise.thmIrq.setPileBand
        · split
          · exact h.units.rset
          · exact h.units
    · split
      · split
        · split
          · exact h.units.rset.raise.thmIrq
          · exact h.units.rset.raise.thmIrq.setPileBand
        · split
          · exact h.units.rset
          · exact h.units
      · split
        · split
          · exact h.units.rset.raise.thmIrq
          · exact h.units.rset.raise.thmIrq.setPileBand
        · split
          · exact h.units.rset
          · exact h.units
  · split
    · split
      · split
        · split
          · exact h.units.rset.raise.thmIrq
          · exact h.units.rset.raise.thmIrq.setPileBand
        · split
          · exact h.units.rset
          · exact h.units
      · split
        · split
          · exact h.units.rset.raise.thmIrq
          · exact h.units.rset.raise.thmIrq.setPileBand
        · split
          · exact h.units.rset
          · exact h.units
    · split
      · split
        · split
          · exact h.units.rset.raise.thmIrq
          · exact h.units.rset.raise.thmIrq.setPileBand
        · split
          · exact h.units.rset
          · exact h.units
      · split
        · split
          · exact h.units.rset.raise.thmIrq
          · exact h.units.rset.raise.thmIrq.setPileBand
        · split
          · exact h.units.rset
          · exact h.units

theorem State.Keeps.modelFault {h'} (h : s₀.Keeps c s) : s₀.Keeps c (s.modelFault h') :=
  h.units.raise.foldl (fun _ _ k => k.setPileBand)

theorem State.Keeps.levelStep {h' f} (h : s₀.Keeps c s) : s₀.Keeps c (s.levelStep h' f) := by
  unfold State.levelStep
  dsimp only
  exact h.units

theorem State.Keeps.setTclk {f mhz} (h : s₀.Keeps c s) : s₀.Keeps c (s.setTclk f mhz) :=
  h.rset

theorem State.Keeps.tclkStep {h' f} (h : s₀.Keeps c s) : s₀.Keeps c (s.tclkStep h' f) := by
  unfold State.tclkStep
  dsimp only
  split
  · exact h.setTclk
  · split
    · exact h.setTclk
    · exact h

end
end Sys2Proof.Machine
end

section
/-!
PROOFS. What every step keeps (`State.Keeps`): temperature, the ledger and bring-up.
-/

namespace Sys2Proof.Machine
open State

set_option Elab.async false

section
variable {c : Bool} {s₀ s t : State}

theorem State.Keeps.warnStep {z t'} (h : s₀.Keeps c s) : s₀.Keeps c (s.warnStep z t') := by
  unfold State.warnStep
  dsimp only
  split
  · exact h.rset.raise.thmIrq
  · split
    · exact h.rset.raise.thmIrq
    · exact h

theorem State.Keeps.zoneShutdown {z} (h : s₀.Keeps c s) : s₀.Keeps c (s.zoneShutdown z) := by
  unfold State.zoneShutdown
  dsimp only
  refine .thmIrq ?_
  split
  · exact h.rset.fenceTower.zoneOff.rset.pileShut.pileShut.capBump
  · exact h.rset.fencePile.pileShut

theorem State.Keeps.zoneStep {h' z} (h : s₀.Keeps c s) : s₀.Keeps c (s.zoneStep h' z) := by
  unfold State.zoneStep
  split
  · dsimp only
    split
    · split
      · split
        · split
          · split
            · exact ((((((h.rset.rset.warnStep.foldl (fun _ _ k => k.levelStep)).foldl (fun _ _ k => k.tclkStep)).rset).rset).raise).thmIrq).zoneShutdown
            · exact (((((h.rset.rset.warnStep.foldl (fun _ _ k => k.levelStep)).foldl (fun _ _ k => k.tclkStep)).rset).rset).raise).thmIrq
          · split
            · exact ((((((h.rset.rset.warnStep.foldl (fun _ _ k => k.levelStep)).foldl (fun _ _ k => k.tclkStep)).rset).rset).raise).thmIrq).zoneShutdown
            · exact (((((h.rset.rset.warnStep.foldl (fun _ _ k => k.levelStep)).foldl (fun _ _ k => k.tclkStep)).rset).rset).raise).thmIrq
        · split
          · split
            · split
              · exact ((((((h.rset.rset.warnStep.foldl (fun _ _ k => k.levelStep)).foldl (fun _ _ k => k.tclkStep)).rset).rset).raise).thmIrq).zoneShutdown
              · exact (((((h.rset.rset.warnStep.foldl (fun _ _ k => k.levelStep)).foldl (fun _ _ k => k.tclkStep)).rset).rset).raise).thmIrq
            · split
              · exact ((((((h.rset.rset.warnStep.foldl (fun _ _ k => k.levelStep)).foldl (fun _ _ k => k.tclkStep)).rset).rset).raise).thmIrq).zoneShutdown
              · exact (((((h.rset.rset.warnStep.foldl (fun _ _ k => k.levelStep)).foldl (fun _ _ k => k.tclkStep)).rset).rset).raise).thmIrq
          · split
            · split
              · exact ((((h.rset.rset.warnStep.foldl (fun _ _ k => k.levelStep)).foldl (fun _ _ k => k.tclkStep)).rset).rset).zoneShutdown
              · exact (((h.rset.rset.warnStep.foldl (fun _ _ k => k.levelStep)).foldl (fun _ _ k => k.tclkStep)).rset).rset
            · split
              · exact ((((h.rset.rset.warnStep.foldl (fun _ _ k => k.levelStep)).foldl (fun _ _ k => k.tclkStep)).rset).rset).zoneShutdown
              · exact (((h.rset.rset.warnStep.foldl (fun _ _ k => k.levelStep)).foldl (fun _ _ k => k.tclkStep)).rset).rset
      · split
        · split
          · split
            · exact (((((h.rset.rset.warnStep.foldl (fun _ _ k => k.levelStep)).rset).rset).raise).thmIrq).zoneShutdown
            · exact ((((h.rset.rset.warnStep.foldl (fun _ _ k => k.levelStep)).rset).rset).raise).thmIrq
          · split
            · exact (((((h.rset.rset.warnStep.foldl (fun _ _ k => k.levelStep)).rset).rset).raise).thmIrq).zoneShutdown
            · exact ((((h.rset.rset.warnStep.foldl (fun _ _ k => k.levelStep)).rset).rset).raise).thmIrq
        · split
          · split
            · split
              · exact (((((h.rset.rset.warnStep.foldl (fun _ _ k => k.levelStep)).rset).rset).raise).thmIrq).zoneShutdown
              · exact ((((h.rset.rset.warnStep.foldl (fun _ _ k => k.levelStep)).rset).rset).raise).thmIrq
            · split
              · exact (((((h.rset.rset.warnStep.foldl (fun _ _ k => k.levelStep)).rset).rset).raise).thmIrq).zoneShutdown
              · exact ((((h.rset.rset.warnStep.foldl (fun _ _ k => k.levelStep)).rset).rset).raise).thmIrq
          · split
            · split
              · exact (((h.rset.rset.warnStep.foldl (fun _ _ k => k.levelStep)).rset).rset).zoneShutdown
              · exact ((h.rset.rset.warnStep.foldl (fun _ _ k => k.levelStep)).rset).rset
            · split
              · exact (((h.rset.rset.warnStep.foldl (fun _ _ k => k.levelStep)).rset).rset).zoneShutdown
              · exact ((h.rset.rset.warnStep.foldl (fun _ _ k => k.levelStep)).rset).rset
    · split
      · split
        · exact h.rset.rset.warnStep.rset.zoneShutdown
        · exact h.rset.rset.warnStep.rset
      · split
        · split
          · exact h.rset.rset.warnStep.rset.zoneShutdown
          · exact h.rset.rset.warnStep.rset
        · split
          · exact h.rset.rset.warnStep.zoneShutdown
          · exact h.rset.rset.warnStep

theorem State.Keeps.hubStep (h : s₀.Keeps c s) : s₀.Keeps c (s.hubStep) := by
  unfold State.hubStep
  dsimp only
  split
  · split
    · split
      · exact h.units.raise.thmIrq.units.fenceModule
      · exact h.units.raise.thmIrq.units
    · split
      · split
        · exact h.units.raise.thmIrq.units.fenceModule
        · exact h.units.raise.thmIrq.units
      · split
        · exact h.units.fenceModule
        · exact h.units
  · split
    · split
      · split
        · exact h.units.raise.thmIrq.units.fenceModule
        · exact h.units.raise.thmIrq.units
      · split
        · split
          · exact h.units.raise.thmIrq.units.fenceModule
          · exact h.units.raise.thmIrq.units
        · split
          · exact h.units.fenceModule
          · exact h.units
    · split
      · split
        · exact h.units.raise.thmIrq.fenceModule
        · exact h.units.raise.thmIrq
      · split
        · split
          · exact h.units.raise.thmIrq.fenceModule
          · exact h.units.raise.thmIrq
        · split
          · exact h.fenceModule
          · exact h

theorem State.Keeps.engineStep {e'} (h : s₀.Keeps c s) : s₀.Keeps c (s.engineStep e') := by
  unfold State.engineStep
  dsimp only
  split
  · exact h.units.engineDark
  · split
    · split
      · exact h.units
      · split
        · split
          · exact h.units.dropFence.foldl (fun _ _ k => k.trainStart)
          · exact h.units.dropFence
        · split <;> exact h.units.dropFence
    · exact h

theorem State.Keeps.thermalRound {h'} (h : s₀.Keeps c s) : s₀.Keeps c (s.thermalRound h') := by
  unfold State.thermalRound
  split
  · exact h
  · dsimp only
    split
    · split
      · exact ((h.modelFault.units.foldl (fun _ _ k1 => k1.sensorStep)).foldl (fun _ _ k => k.offsetStep)).foldl (fun _ _ k => k.calStep)
      · exact (((((h.modelFault.units.foldl (fun _ _ k1 => k1.sensorStep)).foldl (fun _ _ k => k.offsetStep)).foldl (fun _ _ k => k.calStep)).foldl (fun _ _ k => k.zoneStep)).hubStep).foldl (fun _ _ k => k.engineStep)
    · split
      · exact ((h.modelStep.units.foldl (fun _ _ k1 => k1.sensorStep)).foldl (fun _ _ k => k.offsetStep)).foldl (fun _ _ k => k.calStep)
      · exact (((((h.modelStep.units.foldl (fun _ _ k1 => k1.sensorStep)).foldl (fun _ _ k => k.offsetStep)).foldl (fun _ _ k => k.calStep)).foldl (fun _ _ k => k.zoneStep)).hubStep).foldl (fun _ _ k => k.engineStep)

theorem State.Keeps.wearRound {h'} (h : s₀.Keeps c s) : s₀.Keeps c (s.wearRound h') :=
  h.units

theorem State.Keeps.execHourlyCommit (h : s₀.Keeps c s) : ∃ t, execHourlyCommit s = .next t ∧ s₀.Keeps c t := by
  refine ⟨_, rfl, ?_⟩
  split
  · exact h.units.commit
  · exact h

theorem State.Keeps.inputSample {h' i} (h : s₀.Keeps c s) : s₀.Keeps c (s.inputSample h' i) := by
  unfold State.inputSample
  dsimp only
  refine .radd (.units ?_)
  split
  · exact h.rset.rset.setIn
  · split
    · exact h.rset.rset.setIn
    · exact h.rset.rset

theorem State.Keeps.contactStep {h' i pole c'} (h : s₀.Keeps c s) : s₀.Keeps c (s.contactStep h' i pole c') := by
  unfold State.contactStep
  dsimp only
  split
  · split
    · exact h.units.rbit.raise.rset
    · exact h.units
  · split
    · exact h.units.rbit.raise.rset
    · exact h.units

theorem State.Keeps.contactsStep {h' i} (h : s₀.Keeps c s) : s₀.Keeps c (s.contactsStep h' i) := by
  unfold State.contactsStep
  split
  · exact h
  · dsimp only
    split
    · split
      · exact ((((h.foldl (fun _ _ k => k.foldl (fun _ _ k1 => k1.contactStep))).units).raise).setIn).carry
      · exact (((h.foldl (fun _ _ k => k.foldl (fun _ _ k1 => k1.contactStep))).units).raise).setIn
    · exact h.foldl (fun _ _ k => k.foldl (fun _ _ k1 => k1.contactStep))

theorem State.Keeps.powerHold {input} (h : s₀.Keeps c s) : s₀.Keeps c (s.powerHold input) := by
  unfold State.powerHold
  dsimp only
  split
  · split
    · split
      · exact h.units.raise
      · exact h.units
    · exact h
  · split
    · split
      · split
        · exact h.units.raise
        · exact h.units
      · exact h
    · exact h

theorem State.Keeps.clockRound {h'} (h : s₀.Keeps c s) : s₀.Keeps c (s.clockRound h') :=
  h.foldl (fun _ _ k => k.foldl (fun _ _ k1 => k1.aimClk))

theorem State.Keeps.paceFlag {median f} (h : s₀.Keeps c s) : s₀.Keeps c (s.paceFlag median f) := by
  unfold State.paceFlag
  dsimp only
  split
  · split
    · split
      · exact h.rset.rset.rset.rset
      · exact h.rset
    · split
      · exact h.rset.rset.rset.rset
      · exact h.rset
  · split
    · split
      · exact h.rset.rset
      · exact h.rset
    · split
      · exact h.rset.rset
      · exact h.rset

theorem State.Keeps.paceEvict {f} (h : s₀.Keeps c s) : s₀.Keeps c (s.paceEvict f) := by
  unfold State.paceEvict
  split
  · dsimp only
    split
    · exact h.rset.rset
    · exact h.rset
  · exact h

theorem State.Keeps.paceRound {h'} (h : s₀.Keeps c s) : s₀.Keeps c (s.paceRound h') := by
  unfold State.paceRound
  dsimp only
  split
  · split
    · split
      · refine ((((h.foldl (fun _ _ k => ?_)).rset).rset).foldl (fun _ _ k => k.paceEvict)).capBump
        split
        · exact k.rset.rset.rset.rset
        · exact k.rset.rset
      · refine (((h.foldl (fun _ _ k => ?_)).rset).rset).foldl (fun _ _ k => k.paceEvict)
        split
        · exact k.rset.rset.rset.rset
        · exact k.rset.rset
    · split
      · refine (((((h.foldl (fun _ _ k => ?_)).rset).rset).rset).foldl (fun _ _ k => k.paceEvict)).capBump
        split
        · exact k.rset.rset.rset.rset
        · exact k.rset.rset
      · refine ((((h.foldl (fun _ _ k => ?_)).rset).rset).rset).foldl (fun _ _ k => k.paceEvict)
        split
        · exact k.rset.rset.rset.rset
        · exact k.rset.rset
  · split
    · split
      · refine (((((h.foldl (fun _ _ k => ?_)).rset).rset).foldl (fun _ _ k => k.paceFlag)).foldl (fun _ _ k => k.paceEvict)).capBump
        split
        · exact k.rset.rset.rset.rset
        · exact k.rset.rset
      · refine ((((h.foldl (fun _ _ k => ?_)).rset).rset).foldl (fun _ _ k => k.paceFlag)).foldl (fun _ _ k => k.paceEvict)
        split
        · exact k.rset.rset.rset.rset
        · exact k.rset.rset
    · split
      · refine ((((((h.foldl (fun _ _ k => ?_)).rset).rset).rset).foldl (fun _ _ k => k.paceFlag)).foldl (fun _ _ k => k.paceEvict)).capBump
        split
        · exact k.rset.rset.rset.rset
        · exact k.rset.rset
      · refine (((((h.foldl (fun _ _ k => ?_)).rset).rset).rset).foldl (fun _ _ k => k.paceFlag)).foldl (fun _ _ k => k.paceEvict)
        split
        · exact k.rset.rset.rset.rset
        · exact k.rset.rset

theorem State.Keeps.thrashStep {sl} (h : s₀.Keeps c s) : s₀.Keeps c (s.thrashStep sl) := by
  unfold State.thrashStep
  dsimp only
  split
  · split
    · split
      · exact h.rset.rset.units.raise.msi
      · exact h.rset.rset.units.raise
    · exact h.rset.rset
  · split
    · split
      · exact h.rset.rset.units.raise.msi
      · exact h.rset.rset.units.raise
    · exact h.rset.rset

theorem State.Keeps.thrashRound (h : s₀.Keeps c s) : s₀.Keeps c (s.thrashRound) :=
  (h.foldl (fun _ _ k => k.thrashStep)).units

theorem State.Keeps.laserSample {h' e' n} (h : s₀.Keeps c s) : s₀.Keeps c (s.laserSample h' e' n) := by
  unfold State.laserSample
  dsimp only
  split
  · split
    · exact h.rset.units.setLaser.units
    · exact h.rset.units
  · split
    · exact h.units.setLaser.units
    · exact h.units

theorem State.Keeps.laserDue {k'} (h : s₀.Keeps c s) : s₀.Keeps c (s.laserDue k') := by
  unfold State.laserDue
  dsimp only
  split
  · split
    · split
      · exact h.setLinkState
      · split
        · exact h
        · exact h.laserReplace
    · split
      · exact h.setLinkState
      · split
        · exact h
        · exact h.laserReplace
  · exact h.laserReplace

theorem State.Keeps.laserRound {h'} (h : s₀.Keeps c s) : s₀.Keeps c (s.laserRound h') := by
  unfold State.laserRound
  dsimp only
  split
  · exact h.foldl (fun _ _ k => k.rset.foldl (fun _ _ k1 => k1.laserSample))
  · exact (h.foldl (fun _ _ k => k.rset.foldl (fun _ _ k1 => k1.laserSample))).foldl (fun _ _ k1 => k1.laserDue)

theorem State.Keeps.execHousekeepingRound {h'} (h : s₀.Keeps c s) : ∃ t, execHousekeepingRound h' s = .next t ∧ s₀.Keeps c t := by
  refine ⟨_, rfl, ?_⟩
  split
  · exact h
  · dsimp only
    split
    · exact h.inputSample.inputSample.contactsStep.contactsStep.coolSample.thermalRound.rset.rset.rset.foldl (fun _ _ k => k.rset)
    · refine .updateResume ?_
      split
      · exact (((((((((h.inputSample.inputSample.contactsStep.contactsStep.coolSample.thermalRound.rset.rset.rset.foldl (fun _ _ k => k.rset)).powerHold).clockRound).units).paceRound).thrashRound).units).wearRound).laserRound).updatePause
      · exact ((((((((h.inputSample.inputSample.contactsStep.contactsStep.coolSample.thermalRound.rset.rset.rset.foldl (fun _ _ k => k.rset)).powerHold).clockRound).units).paceRound).thrashRound).units).wearRound).laserRound

theorem State.Keeps.lowCheck (h : s₀.Keeps c s) : s₀.Keeps c (s.lowCheck) := by
  unfold State.lowCheck
  split
  · split
    · exact h
    · exact h.rset.raise
  · exact h.rset

theorem State.Keeps.wearCheck {before} (h : s₀.Keeps c s) : s₀.Keeps c (s.wearCheck before) := by
  unfold State.wearCheck
  dsimp only
  split
  · refine .raise ?_
    split
    · exact h.raise
    · exact h
  · split
    · exact h.raise
    · exact h

theorem State.Keeps.pageFails {b page} (h : s₀.Keeps c s) : s₀.Keeps c (s.pageFails b page) := by
  unfold State.pageFails
  split
  · dsimp only
    split
    · exact h.units.raise.zeroReserve
    · exact h.units.raise
  · dsimp only
    refine .raise ?_
    split <;> exact h.units

theorem State.Keeps.ldgOutcome {who ok} (h : s₀.Keeps false s) : s₀.Keeps false (s.ldgOutcome who ok) := by
  unfold State.ldgOutcome
  split
  · exact h
  · exact h.slotCommitted
  · exact h.eraseCommitted
  · exact h.units
  · exact h.ownerCommitted
  · exact h.classCommitted
  · exact h.units
  · split
    · exact h.units
    · exact h

theorem State.Keeps.execLedgerCommit {badA badB} (h : s₀.Keeps c s) : ∃ t, execLedgerCommit badA badB s = .next t ∧ s₀.Keeps c t := by
  refine ⟨_, rfl, ?_⟩
  refine h.attempt (fun k => ?_)
  split
  · exact k
  · dsimp only
    refine .lowCheck (.wearCheck ?_)
    split
    · split
      · split
        · split
          · split
            · exact k.units.pageFails.pageFails.ldgAppend.ldgOutcome
            · exact k.units.pageFails.pageFails.raise.radd.ldgOutcome
          · split
            · exact k.units.pageFails.ldgAppend.ldgOutcome
            · exact k.units.pageFails.raise.radd.ldgOutcome
        · split
          · split
            · exact k.units.pageFails.ldgAppend.ldgOutcome
            · exact k.units.pageFails.raise.radd.ldgOutcome
          · split
            · exact k.units.ldgAppend.ldgOutcome
            · exact k.units.raise.radd.ldgOutcome
      · split
        · split
          · exact k.units.pageFails.ldgAppend.ldgOutcome
          · exact k.units.pageFails.raise.radd.ldgOutcome
        · split
          · exact k.units.ldgAppend.ldgOutcome
          · exact k.units.raise.radd.ldgOutcome
    · split
      · split
        · split
          · exact k.units.pageFails.ldgAppend.ldgOutcome
          · exact k.units.pageFails.raise.radd.ldgOutcome
        · split
          · exact k.units.ldgAppend.ldgOutcome
          · exact k.units.raise.radd.ldgOutcome
      · split
        · exact k.units.ldgAppend.ldgOutcome
        · exact k.units.raise.radd.ldgOutcome

theorem State.Keeps.execCompaction {b} (h : s₀.Keeps c s) : ∃ t, execCompaction b s = .next t ∧ s₀.Keeps c t := by
  refine ⟨_, rfl, ?_⟩
  split
  · dsimp only
    refine .lowCheck (.wearCheck ?_)
    split <;> exact h.units
  · exact h

theorem State.Keeps.copyRepair {b seq} (h : s₀.Keeps c s) : s₀.Keeps c (s.copyRepair b seq) := by
  unfold State.copyRepair
  split
  · split
    · exact h
    · dsimp only
      split
      · exact h
      · exact h.units.raise
  · split
    · exact h
    · dsimp only
      split
      · exact h
      · exact h.units.raise

theorem State.Keeps.markBad {crc mac} (h : s₀.Keeps c s) : s₀.Keeps c (s.markBad crc mac) :=
  h.units

theorem State.Keeps.execLedgerDailyRead {pages crc} (h : s₀.Keeps c s) : ∃ t, execLedgerDailyRead pages crc s = .next t ∧ s₀.Keeps c t := by
  refine ⟨_, rfl, ?_⟩
  split
  · exact h
  · dsimp only
    refine (((h.units.markBad.foldl (fun _ _ k => k.copyRepair)).foldl (fun _ _ k => ?_)).units).lowCheck
    split
    · split
      · exact k.units.raise.zeroReserve
      · exact k.units.raise
    · split
      · exact k.pageFails
      · exact k

theorem State.Keeps.mountReports (h : s₀.Keeps c s) : s₀.Keeps c (s.mountReports) :=
  h.foldl (fun _ _ k => k.raise)

theorem State.Keeps.mountRepair (h : s₀.Keeps c s) : s₀.Keeps c (s.mountRepair) := by
  unfold State.mountRepair
  dsimp only
  refine h.foldl (fun _ _ k => ?_)
  split
  · exact k
  · split <;> exact k.copyRepair

theorem State.Keeps.mountSecurity (h : s₀.Keeps c s) : s₀.Keeps c (s.mountSecurity) :=
  h.units.rset.rset.rset

theorem State.Keeps.mountRest (h : s₀.Keeps c s) : s₀.Keeps c (s.mountRest) := by
  unfold State.mountRest
  dsimp only
  refine .foldl (.units (.foldl ?_ (fun _ _ k => k.rbit))) (fun _ _ k1 => k1.rbit)
  split
  · exact h
  · exact h.rset.rset.rset

theorem State.Keeps.ldgMount {crc mac unreadable} (h : s₀.Keeps c s) : s₀.Keeps c (s.ldgMount crc mac unreadable).1 := by
  unfold State.ldgMount
  extract_lets s1 top s2
  have h1 : s₀.Keeps c s1 := h.markBad
  have h2 : s₀.Keeps c s2 := h1.mountReports.mountRepair
  clear_value s1 s2
  split
  · exact h1.raise
  · have h3 : s₀.Keeps c { s2 with ldg.seq := top, ldg.mounted := true } := h2.units
    exact h3.mountSecurity.mountRest.lowCheck

theorem State.Keeps.ite {q : Prop} [Decidable q] (h : s₀.Keeps c s) (k : s₀.Keeps c t) : s₀.Keeps c (if q then s else t) := by
  split
  · exact h
  · exact k

theorem State.Keeps.applyPower (h : s₀.Keeps c s) : s₀.Keeps c (s.applyPower) := by
  unfold State.applyPower
  extract_lets one s1 s2 s3
  have h1 : s₀.Keeps c s1 := h.foldl (fun _ _ k1 => k1.units.ite k1.units)
  have h3 : s₀.Keeps c s3 := by
    refine h1.rset.foldl (fun u x k1 => ?_)
    extract_lets n u1 u2
    have k2 : s₀.Keeps c u1 := k1.radd.ite k1
    have k3 : s₀.Keeps c u2 := k2.rbit.ite k2
    exact k3.rbit.ite k3
  clear_value s3
  exact h3.units

theorem State.Keeps.applyLasers (h : s₀.Keeps c s) : s₀.Keeps c (s.applyLasers) :=
  h.foldl (fun _ _ k => k.units.rset)

theorem State.Keeps.applyFuses (h : s₀.Keeps c s) : s₀.Keeps c (s.applyFuses) :=
  h.units

theorem State.Keeps.applyMemory (h : s₀.Keeps c s) : s₀.Keeps c (s.applyMemory) := by
  unfold State.applyMemory
  dsimp only
  refine (h.applyFuses.foldl (fun _ _ k1 => ?_)).foldl (fun _ _ k1 => ?_)
  · split
    · exact k1.units
    · split
      · exact k1.units
      · split
        · exact k1.units
        · split <;> exact k1.units
  · split <;> exact k1.units

theorem State.Keeps.applyNetwork (h : s₀.Keeps c s) : s₀.Keeps c (s.applyNetwork) := by
  unfold State.applyNetwork
  refine h.foldl (fun _ _ k1 => ?_)
  dsimp only
  split
  · split
    · exact k1.units.rbit
    · exact k1.units
  · split
    · exact k1.units
    · split
      · exact k1.units.rset.rset
      · exact k1.units.rset

theorem State.Keeps.execLaserFailed {e' n} (h : s₀.Keeps c s) : ∃ t, execLaserFailed e' n s = .next t ∧ s₀.Keeps c t := by
  refine ⟨_, rfl, ?_⟩
  split
  · dsimp only
    split
    · split
      · exact h.setLaser.laserReplace.setLinkState
      · exact h.setLaser.laserReplace
    · split
      · exact h.setLaser.laserReplace.setLinkState
      · exact h.setLaser.laserReplace
  · exact h

theorem State.Keeps.removalBegin (h : s₀.Keeps c s) : s₀.Keeps c (s.removalBegin) :=
  h.rset.raise.msi

theorem State.Keeps.abandon (h : s₀.Keeps c s) : s₀.Keeps c (s.abandon) :=
  h.units.raise.removalBegin

theorem State.Keeps.stageEnd {n endpoints rounds} (h : s₀.Keeps c s) : s₀.Keeps c (s.stageEnd n endpoints rounds) := by
  unfold State.stageEnd
  split
  · exact h.setReport.abandon
  · exact h.stagePass

theorem State.Keeps.execNightStage {romOk} (h : s₀.Keeps c s) : ∃ t, execNightStage romOk s = .next t ∧ s₀.Keeps c t := by
  refine ⟨_, rfl, ?_⟩
  split
  · exact h
  · dsimp only
    split
    · exact h.startCold.units.stageBegin.units.raise.setReport.units
    · split
      · exact h.startCold.units.stageBegin.units.setReport.units
      · exact h.startCold.units.stageBegin.units.setReport.units.rset.raise

theorem State.Keeps.sensorTest {bad} (h : s₀.Keeps c s) : s₀.Keeps c (s.sensorTest bad) :=
  h.foldl (fun _ _ k1 => k1.units.raise)

theorem State.Keeps.predawnWork {sensorsBad inlet} (h : s₀.Keeps c s) : s₀.Keeps c (s.predawnWork sensorsBad inlet) := by
  unfold State.predawnWork
  dsimp only
  split
  · exact h.applyPower.moduleFence.stageFailed
  · split
    · exact h.applyPower.moduleFence.stageFailed
    · exact h.applyPower.modelStart.sensorTest.stageEnd

theorem State.Keeps.execPredawn {fuseOk sensorsBad inlet} (h : s₀.Keeps c s) :
    ∃ t, execPredawn fuseOk sensorsBad inlet s = .next t ∧ s₀.Keeps c t := by
  refine ⟨_, rfl, ?_⟩
  split
  · dsimp only
    split
    · refine .predawnWork (.units ?_)
      split
      · exact h.stageBegin
      · exact h
    · refine .stageFail (.units ?_)
      split
      · exact h.stageBegin
      · exact h
  · exact h

theorem State.Keeps.earlyEnter (h : s₀.Keeps c s) : s₀.Keeps c (s.earlyEnter) :=
  h.units.foldl (fun _ _ k => k.units.deliver)

theorem State.Keeps.pickImage {c'} (h : s₀.Keeps c s) : s₀.Keeps c (s.pickImage c').1 := by
  unfold State.pickImage
  dsimp only
  split
  · exact h.units
  · split
    · exact h.manRefused.raise.units
    · exact h.manRefused.manRefused

theorem State.Keeps.loaderEnter (h : s₀.Keeps c s) : s₀.Keeps c (s.loaderEnter) :=
  h.rset.rset.units.rset.rset.raise

theorem State.Keeps.twilightEnter (h : s₀.Keeps c s) : s₀.Keeps c (s.twilightEnter) :=
  h.units.rset.rset.raise.capBump

theorem State.Keeps.coresStart {coresBad} (h : s₀.Keeps c s) : s₀.Keeps c (s.coresStart coresBad) := by
  unfold State.coresStart
  dsimp only
  split
  · refine (h.foldl (fun _ _ k => ?_)).stageFail
    split
    · exact k.endpointFence
    · exact k.endpointStart
  · split
    · refine ((h.foldl (fun _ _ k => ?_)).stageEnd).twilightEnter
      split
      · exact k.endpointFence
      · exact k.endpointStart
    · refine (h.foldl (fun _ _ k => ?_)).stageEnd
      split
      · exact k.endpointFence
      · exact k.endpointStart

theorem State.Keeps.secStart (h : s₀.Keeps c s) : s₀.Keeps c (s.secStart) := by
  unfold State.secStart
  dsimp only
  split
  · exact h.units.secRestart.endpointStart.rset.issueAlias.commitFor.commitFor
  · exact h.units.secRestart.endpointStart.rset.issueAlias.commitFor

theorem State.Keeps.execFirstLight {crc mac unreadable secStarts coresBad} (h : s₀.Keeps c s) :
    ∃ t, execFirstLight crc mac unreadable secStarts coresBad s = .next t ∧ s₀.Keeps c t := by
  refine ⟨_, rfl, ?_⟩
  split
  · exact h
  · dsimp only
    split
    · next e =>
        exact (h.earlyEnter.ldgMount.of_eq e).stageFail
    · next e =>
        split
        · next e1 =>
            exact (((h.earlyEnter.ldgMount.of_eq e).pickImage).of_eq e1).loaderEnter
        · next e1 =>
            split
            · exact (((h.earlyEnter.ldgMount.of_eq e).pickImage).of_eq e1).stageFail
            · split
              · exact ((((h.earlyEnter.ldgMount.of_eq e).pickImage).of_eq e1).secStart).stageFail
              · split
                · next e2 =>
                    exact ((((((h.earlyEnter.ldgMount.of_eq e).pickImage).of_eq e1).secStart).pickImage).of_eq e2).loaderEnter
                · next e2 =>
                    exact ((((((h.earlyEnter.ldgMount.of_eq e).pickImage).of_eq e1).secStart).pickImage).of_eq e2).coresStart

theorem State.Keeps.incomplete {c' i} (h : s₀.Keeps c s) : s₀.Keeps c (s.incomplete c' i) :=
  h.raise.endpointFence

theorem State.Keeps.sporeClass {lost c'} (h : s₀.Keeps c s) : s₀.Keeps c (s.sporeClass lost c').1 := by
  unfold State.sporeClass
  dsimp only
  split
  · next e =>
      exact (h.pickImage.of_eq e).foldl (fun _ _ k => k.incomplete)
  · next e =>
      refine (h.pickImage.of_eq e).foldl (fun _ _ k => ?_)
      split
      · exact k.incomplete
      · split
        · exact k.endpointStart
        · exact k

theorem State.Keeps.zoneOn {z} (h : s₀.Keeps c s) : s₀.Keeps c (s.zoneOn z) := by
  unfold State.zoneOn
  split
  · exact h
  · dsimp only
    split
    · exact h.setZone.rset.rset
    · exact h.setZone

theorem State.Keeps.darkEngines (h : s₀.Keeps c s) : s₀.Keeps c (s.darkEngines) :=
  h.foldl (fun _ _ k => k.engineDark)

theorem State.Keeps.execDawn {lost} (h : s₀.Keeps c s) : ∃ t, execDawn lost s = .next t ∧ s₀.Keeps c t := by
  refine ⟨_, rfl, ?_⟩
  split
  · exact h
  · extract_lets s1
    have h1 : s₀.Keeps c s1 := (h.foldl (fun _ _ k => k.zoneOn)).applyLasers.darkEngines
    clear_value s1
    split
    next s2 n rounds e =>
      have h2 : s₀.Keeps c s2 := by
        refine State.Keeps.of_eq (.foldl_fst h1 (fun _ _ k => ?_)) e
        exact k.sporeClass
      split
      · exact h2.stageFail
      · exact h2.stageEnd

theorem State.Keeps.marchTest {mk rows cols} (h : s₀.Keeps c s) : s₀.Keeps c (s.marchTest mk rows cols) := by
  unfold State.marchTest
  dsimp only
  split
  · exact h.units.fenceEngine
  · split
    · split
      · exact h
      · split
        · exact h.units.commit.zeroReserve
        · exact h.units.commit
    · split
      · refine .zeroReserve (.commit (.units ?_))
        split
        · exact h
        · split
          · exact h.units.commit.zeroReserve
          · exact h.units.commit
      · refine .commit (.units ?_)
        split
        · exact h
        · split
          · exact h.units.commit.zeroReserve
          · exact h.units.commit

theorem State.Keeps.linkBack {kind col} (h : s₀.Keeps c s) : s₀.Keeps c (s.linkBack kind col) := by
  unfold State.linkBack
  split <;> exact h.units.commit

theorem State.Keeps.retiredStay (h : s₀.Keeps c s) : s₀.Keeps c (s.retiredStay) :=
  (h.foldl (fun _ _ k => k.columnGone)).foldl (fun _ _ k => k.columnGone)

theorem State.Keeps.wireFails {wires} (h : s₀.Keeps c s) : s₀.Keeps c (s.wireFails wires) := by
  unfold State.wireFails
  refine h.foldl (fun _ _ k => ?_)
  split
  · exact k.wireTest
  · exact k

theorem State.Keeps.wireTests {wires} (h : s₀.Keeps c s) : s₀.Keeps c (s.wireTests wires) := by
  unfold State.wireTests
  dsimp only
  refine (((h.foldl (fun _ _ k => ?_)).foldl (fun _ _ k => ?_)).wireFails).retiredStay
  · split
    · exact k
    · exact k.linkBack
  · split
    · exact k
    · exact k.linkBack

theorem State.Keeps.execSunrise {piles coils march wires} (h : s₀.Keeps c s) :
    ∃ t, execSunrise piles coils march wires s = .next t ∧ s₀.Keeps c t := by
  refine ⟨_, rfl, ?_⟩
  split
  · exact h
  · dsimp only
    split
    · exact ((((((h.applyMemory.foldl (fun _ _ k => k.rset)).foldl (fun _ _ k => k.fencePile)).foldl (fun _ _ k => k.fencePile)).foldl (fun _ _ k => k.coilLost)).foldl (fun _ _ k => k.marchTest)).wireTests).stageFail
    · exact ((((((h.applyMemory.foldl (fun _ _ k => k.rset)).foldl (fun _ _ k => k.fencePile)).foldl (fun _ _ k => k.fencePile)).foldl (fun _ _ k => k.coilLost)).foldl (fun _ _ k => k.marchTest)).wireTests).stageEnd

theorem State.Keeps.frondTest {f e'} (h : s₀.Keeps c s) : s₀.Keeps c (s.frondTest f e') := by
  unfold State.frondTest
  split
  · exact h
  · split
    · exact h.fenceEngine
    · split
      · exact h.fenceEngine
      · exact h.fenceFrond

theorem State.Keeps.netLinkTest {links k'} (h : s₀.Keeps c s) : s₀.Keeps c (s.netLinkTest links k') := by
  unfold State.netLinkTest
  dsimp only
  split
  · exact h.rbit.laneCommit
  · exact h.foldl (fun _ _ k => k.netLane)

theorem State.Keeps.lanesFail {links} (h : s₀.Keeps c s) : s₀.Keeps c (s.lanesFail links) :=
  h.foldl (fun _ _ k => k.foldl (fun _ _ k1 => k1.netLane))

theorem State.Keeps.seqStart {f} (h : s₀.Keeps c s) : s₀.Keeps c (s.seqStart f) := by
  unfold State.seqStart
  split
  · exact h
  · dsimp only
    split
    · split
      · refine h.endpointStart.foldl (fun _ _ k => ?_)
        split
        · exact k
        · exact k.endpointStart
      · exact h.endpointStart
    · split
      · refine h.foldl (fun _ _ k => ?_)
        split
        · exact k
        · exact k.endpointStart
      · exact h

theorem State.Keeps.darkGroups {t'} (h : s₀.Keeps c s) : s₀.Keeps c (s.darkGroups t') :=
  h.foldl (fun _ _ k => k.towerGroupDark)

theorem State.Keeps.parkRestore {x} (h : s₀.Keeps c s) : s₀.Keeps c (s.parkRestore x) := by
  unfold State.parkRestore
  exact h.modSlot

theorem State.Keeps.morningTables (h : s₀.Keeps c s) : s₀.Keeps c (s.morningTables) :=
  ((h.units.foldl (fun _ _ k => k.rset.rset)).foldl (fun _ _ k => k.parkRestore)).foldl (fun _ _ k => k.setTclk)

theorem State.Keeps.execMorning {routers links tests} (h : s₀.Keeps c s) : ∃ t, execMorning routers links tests s = .next t ∧ s₀.Keeps c t := by
  refine ⟨_, rfl, ?_⟩
  split
  · exact h
  · dsimp only
    split
    · exact (((((((((h.applyNetwork.foldl (fun _ _ k => k.rset)).foldl (fun _ _ k1 => k1.netLinkTest)).foldl (fun _ _ k => k.foldl (fun _ _ k1 => k1.quadrantCheck))).foldl (fun _ _ k => k.fenceTower)).foldl (fun _ _ k => k.foldl (fun _ _ k1 => k1.towerLane))).foldl (fun _ _ k => k.routerFailed)).foldl (fun _ _ k => k.darkGroups.routeTables)).foldl (fun _ _ k => k.seqStart)).foldl (fun _ _ k => k.frondTest)).stageFail
    · exact ((((((((((h.applyNetwork.foldl (fun _ _ k => k.rset)).foldl (fun _ _ k1 => k1.netLinkTest)).foldl (fun _ _ k => k.foldl (fun _ _ k1 => k1.quadrantCheck))).foldl (fun _ _ k => k.fenceTower)).foldl (fun _ _ k => k.foldl (fun _ _ k1 => k1.towerLane))).foldl (fun _ _ k => k.routerFailed)).foldl (fun _ _ k => k.darkGroups.routeTables)).foldl (fun _ _ k => k.seqStart)).foldl (fun _ _ k => k.frondTest)).morningTables).stageEnd

theorem State.Keeps.noonStart (h : s₀.Keeps c s) : s₀.Keeps c (s.noonStart) :=
  h.units.foldl (fun _ _ k => k.trainStart)

theorem State.Keeps.raisesDue (h : s₀.Keeps c s) : s₀.Keeps c (s.raisesDue) := by
  unfold State.raisesDue
  refine h.foldl (fun _ _ k => ?_)
  split
  · exact k.units.rset.commit
  · exact k

theorem State.Keeps.updateInterrupted (h : s₀.Keeps c s) : s₀.Keeps c (s.updateInterrupted) := by
  unfold State.updateInterrupted
  dsimp only
  split
  · exact h
  · exact h.units.setFwuState.rset.updateResume

theorem State.Keeps.noonReached (h : s₀.Keeps c s) : s₀.Keeps c (s.noonReached) := by
  unfold State.noonReached
  dsimp only
  split
  · exact h.setReport.abandon
  · exact h.setReport.units.rset.commit.raisesDue.updateInterrupted.capBump

theorem State.Keeps.execNoon (h : s₀.Keeps c s) : ∃ t, execNoon s = .next t ∧ s₀.Keeps c t := by
  refine ⟨_, rfl, ?_⟩
  split
  · exact h
  · dsimp only
    split
    · split
      · exact h
      · exact h.noonReached
    · split
      · exact h.noonStart
      · exact h.noonStart.noonReached

theorem State.Keeps.execStageTimeout (h : s₀.Keeps c s) : ∃ t, execStageTimeout s = .next t ∧ s₀.Keeps c t := by
  refine ⟨_, rfl, ?_⟩
  split
  · exact h.stageFail
  · exact h

theorem State.Keeps.zonesOff (h : s₀.Keeps c s) : s₀.Keeps c (s.zonesOff) := by
  unfold State.zonesOff
  dsimp only
  refine h.fabricDark.rset.units.foldl (fun _ _ k => ?_)
  split
  · split
    · split
      · exact k.towerDark
      · exact k.towerDark.rset
    · split
      · exact k.setZone.towerDark
      · exact k.setZone.towerDark.rset
  · refine .pileDark ?_
    split
    · exact k
    · exact k.setZone

theorem State.Keeps.execFailedStartCounted (h : s₀.Keeps c s) : ∃ t, execFailedStartCounted s = .next t ∧ s₀.Keeps c t := by
  refine ⟨_, rfl, ?_⟩
  split
  · exact h
  · split
    · exact h
    · split
      · exact h.abandon
      · extract_lets count s1 s2 b s3 ws s4
        have h2 : s₀.Keeps c s2 := h.rset.rset.rset.raise
        have h3 : s₀.Keeps c s3 := h2.units
        have h4 : s₀.Keeps c s4 := h3.commitFor.zonesOff
        split
        · exact h4.twilightEnter
        · exact h4.units

theorem State.Keeps.execStartRetry (h : s₀.Keeps c s) : ∃ t, execStartRetry s = .next t ∧ s₀.Keeps c t := by
  refine ⟨_, rfl, ?_⟩
  split
  · split
    · exact h.startAtPredawn
    · exact h
  · exact h

theorem State.Keeps.execFailedStartCountCleared (h : s₀.Keeps c s) : ∃ t, execFailedStartCountCleared s = .next t ∧ s₀.Keeps c t := by
  refine ⟨_, rfl, ?_⟩
  split
  · split
    · exact h.rset.raise.commit
    · exact h
  · exact h

theorem State.Keeps.execRetry (h : s₀.Keeps c s) : ∃ t, execRetry s = .next t ∧ s₀.Keeps c t := by
  refine ⟨_, rfl, ?_⟩
  split
  · exact h.startAtPredawn
  · exact h

theorem State.Keeps.execRecoveryLoaderStart (h : s₀.Keeps c s) : ∃ t, execRecoveryLoaderStart s = .next t ∧ s₀.Keeps c t := by
  refine ⟨_, rfl, ?_⟩
  split
  · exact h.startAtPredawn
  · exact h

theorem State.Keeps.setRestarting {u v} (h : s₀.Keeps c s) : s₀.Keeps c (s.setRestarting u v) :=
  h.units

theorem State.Keeps.setRestartLatched {u v} (h : s₀.Keeps c s) : s₀.Keeps c (s.setRestartLatched u v) :=
  h.units

theorem State.Keeps.restartsDone {l status} (h : s₀.Keeps c s) : s₀.Keeps c (s.restartsDone l status) :=
  h.foldl (fun _ _ k => k.complete)

theorem State.Keeps.towerDramLost {t'} (h : s₀.Keeps c s) : s₀.Keeps c (s.towerDramLost t') := by
  unfold State.towerDramLost
  refine h.foldl (fun _ _ k => ?_)
  split
  · next e =>
      exact (k.fresh.of_eq_snd e).stored (by exact ⟨id, fun k => memWf_memPut k _ _, id, id, id⟩)

theorem State.Keeps.towerWriteBack {t' ok} (h : s₀.Keeps c s) : s₀.Keeps c (s.towerWriteBack t' ok) := by
  unfold State.towerWriteBack
  dsimp only
  split
  · exact ((h.foldl (fun _ _ k1 => k1.writeBack)).raise).towerDramLost
  · exact h.foldl (fun _ _ k1 => k1.writeBack)

theorem State.Keeps.frondRestart {f} (h : s₀.Keeps c s) : s₀.Keeps c (s.frondRestart f) := by
  unfold State.frondRestart
  split
  · exact h
  · exact h.fenceFrond

theorem State.Keeps.towerRestart {t' wbOk} (h : s₀.Keeps c s) : s₀.Keeps c (s.towerRestart t' wbOk) := by
  unfold State.towerRestart
  dsimp only
  refine .rset (.setZone (.towerDark (.towerWriteBack ?_)))
  split
  · exact h
  · exact h.fenceTower

theorem State.Keeps.restartBegin {u l wbOk} (h : s₀.Keeps c s) : s₀.Keeps c (s.restartBegin u l wbOk) := by
  unfold State.restartBegin
  split
  · exact h.restartsDone
  · split
    · exact h.setRestarting.frondRestart
    · exact ((h.foldl (fun _ _ k => k.setRestarting.setRestartLatched)).setRestarting).towerRestart

theorem State.Keeps.execRestart {r i wbOk} (h : s₀.Keeps c s) : ∃ t, execRestart r i wbOk s = .next t ∧ s₀.Keeps c t := by
  refine ⟨_, rfl, ?_⟩
  split
  · exact h
  · dsimp only
    split
    · split
      · exact h.markRan.complete
      · split
        · exact h.markRan.setRestarting
        · split
          · exact h.markRan.setRestartLatched
          · exact h.markRan.restartBegin
    · split
      · exact h.markRan.complete
      · split
        · exact h.markRan.setRestarting
        · split
          · exact h.markRan.setRestartLatched
          · exact h.markRan.restartBegin

end
end Sys2Proof.Machine
end

section
/-!
PROOFS. What every step keeps (`State.Keeps`): restarts, removal, register writes and sori.
-/

namespace Sys2Proof.Machine
open State

set_option Elab.async false

section
variable {c : Bool} {s₀ s t : State}

theorem State.Keeps.frondReload {f} (h : s₀.Keeps c s) : s₀.Keeps c (s.frondReload f) :=
  ((((((h.kernelsOut.sbDrain.dropQueued.dmaOut.lsZero.foldl (fun _ _ k => k.setArr)).setFr).rset).rset).rset).reloaded).clearPace

theorem State.Keeps.enginesBack {f} (h : s₀.Keeps c s) : s₀.Keeps c (s.enginesBack f) :=
  h.units

theorem State.Keeps.engineTest {f e'} (h : s₀.Keeps c s) : s₀.Keeps c (s.engineTest f e') := by
  unfold State.engineTest
  split
  · exact h.frondTest
  · exact h

theorem State.Keeps.restartEnd {u ok loc} (h : s₀.Keeps c s) : s₀.Keeps c (s.restartEnd u ok loc) := by
  unfold State.restartEnd
  dsimp only
  refine .restartsDone ?_
  split
  · exact h.setRestarting.units.radd.raise
  · exact h.setRestarting.units.raise

theorem State.Keeps.frondRestarted {f ok tests} (h : s₀.Keeps c s) : s₀.Keeps c (s.frondRestarted f ok tests) := by
  unfold State.frondRestarted
  dsimp only
  split
  · refine .restartEnd (.modFr (.frondReload ?_))
    split
    · exact h.raise
    · exact h
  · refine .restartEnd (.distBump (.units (.foldl (.seqStart (.dropFence (.enginesBack (.frondReload ?_)))) (fun _ _ k => k.engineTest))))
    split
    · exact h.raise
    · exact h

theorem State.Keeps.channelBack {c'} (h : s₀.Keeps c s) : s₀.Keeps c (s.channelBack c') := by
  unfold State.channelBack
  split
  · exact h.dropFence.rbit
  · exact h

theorem State.Keeps.towerTests {t' wires links routers} (h : s₀.Keeps c s) : s₀.Keeps c (s.towerTests t' wires links routers) :=
  h.wireFails.lanesFail.foldl (fun _ _ k => k.routerFailed)

theorem State.Keeps.stewardNew {t'} (h : s₀.Keeps c s) : s₀.Keeps c (s.stewardNew t') := by
  unfold State.stewardNew
  split
  · exact h.units
  · exact h

theorem State.Keeps.towerRestarted {t' ok tests chans wires links routers} (h : s₀.Keeps c s) :
    s₀.Keeps c (s.towerRestarted t' ok tests chans wires links routers) := by
  unfold State.towerRestarted
  dsimp only
  split
  · exact h.rset.restartEnd
  · exact ((((((((((h.setZone.dropFence.rset.rset.rset.foldl (fun _ _ k => k.frondReload.enginesBack)).foldl (fun _ _ k => k.modFr)).foldl (fun _ _ k => k.channelBack)).towerTests).routeTables).foldl (fun _ _ k => k.seqStart)).foldl (fun _ _ k => k.frondTest)).radd).stewardNew).distBump).restartEnd

theorem State.Keeps.execRestartCompleted {u ok tests chans wires links routers} (h : s₀.Keeps c s) :
    ∃ t, execRestartCompleted u ok tests chans wires links routers s = .next t ∧ s₀.Keeps c t := by
  refine ⟨_, rfl, ?_⟩
  split
  · exact h
  · split
    · split
      · exact h
      · exact h.frondRestarted
    · split
      · exact h.restartEnd
      · split
        · exact h.towerRestarted
        · exact h

theorem State.Keeps.execRestartLatchedStart {u wbOk} (h : s₀.Keeps c s) : ∃ t, execRestartLatchedStart u wbOk s = .next t ∧ s₀.Keeps c t := by
  refine ⟨_, rfl, ?_⟩
  split
  · split
    · exact h
    · exact h.setRestartLatched.restartBegin
  · exact h

theorem State.Keeps.execAutoFrondRestart {f} (h : s₀.Keeps c s) : ∃ t, execAutoFrondRestart f s = .next t ∧ s₀.Keeps c t := by
  refine ⟨_, rfl, ?_⟩
  split
  · exact h.units.restartBegin
  · exact h

theorem State.Keeps.execRecordHoldEnd {seq} (h : s₀.Keeps c s) : ∃ t, execRecordHoldEnd seq s = .next t ∧ s₀.Keeps c t := by
  refine ⟨_, rfl, ?_⟩
  split
  · exact h
  · split
    · exact h
    · split
      · exact h.units.deliver
      · exact h

theorem State.Keeps.ringCtlWrite {v} (h : s₀.Keeps c s) : s₀.Keeps c (s.ringCtlWrite v) := by
  unfold State.ringCtlWrite
  dsimp only
  split
  · exact h.setRword.units.rset.rset
  · exact h.setRword

theorem State.Keeps.execFaultRingEnable {v} (h : s₀.Keeps c s) : ∃ t, execFaultRingEnable v s = .next t ∧ s₀.Keeps c t :=
  ⟨_, rfl, h.ringCtlWrite⟩

theorem State.Keeps.execFaultRingIrq (h : s₀.Keeps c s) : ∃ t, execFaultRingIrq s = .next t ∧ s₀.Keeps c t := by
  refine ⟨_, rfl, ?_⟩
  dsimp only
  split
  · split
    · exact h.units.msi
    · exact h
  · split
    · exact h.units.msi
    · exact h

theorem State.Keeps.injCtlWrite {v} (h : s₀.Keeps c s) : s₀.Keeps c (s.injCtlWrite v) := by
  unfold State.injCtlWrite
  dsimp only
  split
  · refine .rset ?_
    split
    · exact h.setRword.rset
    · split
      · split
        · split <;> exact h.setRword.rset.rset
        · split <;> exact h.setRword.rset.rset
      · split
        · split <;> exact h.setRword.rset.rset
        · split <;> exact h.setRword.rset.rset
  · split
    · exact h.setRword.rset
    · split
      · split
        · split <;> exact h.setRword.rset.rset
        · split <;> exact h.setRword.rset.rset
      · split
        · split <;> exact h.setRword.rset.rset
        · split <;> exact h.setRword.rset.rset

theorem State.Keeps.execArm {v} (h : s₀.Keeps c s) : ∃ t, execArm v s = .next t ∧ s₀.Keeps c t :=
  ⟨_, rfl, h.injCtlWrite⟩

theorem State.Keeps.paceCtlWrite {v} (h : s₀.Keeps c s) : s₀.Keeps c (s.paceCtlWrite v) := by
  unfold State.paceCtlWrite
  dsimp only
  split
  · split
    · split
      · exact h.rset.capBump
      · exact h.rset
    · split
      · split
        · exact h.setRword.rset.capBump
        · exact h.setRword.rset
      · split
        · exact ((h.setRword.foldl (fun _ _ k => k.rset.rset)).rset).capBump
        · exact (h.setRword.foldl (fun _ _ k => k.rset.rset)).rset
  · split
    · split
      · exact h.capBump
      · exact h
    · split
      · split
        · exact h.setRword.capBump
        · exact h.setRword
      · split
        · exact (h.setRword.foldl (fun _ _ k => k.rset.rset)).capBump
        · exact h.setRword.foldl (fun _ _ k => k.rset.rset)

theorem State.Keeps.execEvictWrite {v} (h : s₀.Keeps c s) : ∃ t, execEvictWrite v s = .next t ∧ s₀.Keeps c t :=
  ⟨_, rfl, h.paceCtlWrite⟩

theorem State.Keeps.swapRoles (h : s₀.Keeps c s) : s₀.Keeps c (s.swapRoles) :=
  h.setRword.setRword.units

theorem State.Keeps.setPhys {i set} (h : s₀.Keeps c s) : s₀.Keeps c (s.setPhys i set) :=
  h.rset

theorem State.Keeps.roles {main} (h : s₀.Keeps c s) : s₀.Keeps c (s.roles main) := by
  unfold State.roles
  dsimp only
  refine .setPhys (.setPhys ?_)
  split
  · exact h.swapRoles
  · exact h

theorem State.Keeps.setSeen {i} (h : s₀.Keeps c s) : s₀.Keeps c (s.setSeen i) := by
  unfold State.setSeen
  split
  · split
    · exact h.setIn
    · exact h
  · split
    · exact h.raise.unqualify
    · split
      · exact h
      · exact h.unqualify

theorem State.Keeps.execPresenceChange {p0 p1} (h : s₀.Keeps c s) : ∃ t, execPresenceChange p0 p1 s = .next t ∧ s₀.Keeps c t := by
  refine ⟨_, rfl, ?_⟩
  dsimp only
  split
  · exact h
  · split
    · refine .nightDark (.setSeen (.setSeen ?_))
      split
      · exact h.rset.rset.roles
      · exact h.rset.rset
    · split
      · refine .raise ?_
        split
        · refine .raise (.setSeen (.setSeen ?_))
          split
          · exact h.rset.rset.roles
          · exact h.rset.rset
        · refine .setSeen (.setSeen ?_)
          split
          · exact h.rset.rset.roles
          · exact h.rset.rset
      · split
        · refine .raise (.setSeen (.setSeen ?_))
          split
          · exact h.rset.rset.roles
          · exact h.rset.rset
        · refine .setSeen (.setSeen ?_)
          split
          · exact h.rset.rset.roles
          · exact h.rset.rset

theorem State.Keeps.execSurpriseExtraction {begun} (h : s₀.Keeps c s) : ∃ t, execSurpriseExtraction begun s = .next t ∧ s₀.Keeps c t := by
  refine ⟨_, rfl, ?_⟩
  split
  · exact h
  · dsimp only
    refine .unqualify (.unqualify (.rset (.rset ?_)))
    split
    · exact h.nightDark
    · exact h.shutDown

theorem State.Keeps.execLatchOpen (h : s₀.Keeps c s) : ∃ t, execLatchOpen s = .next t ∧ s₀.Keeps c t := by
  refine ⟨_, rfl, ?_⟩
  dsimp only
  split
  · split
    · exact h.rset.units.rset
    · exact h.rset.units.rset.removalBegin
  · exact h.rset.readyShow

theorem State.Keeps.execLatchClose (h : s₀.Keeps c s) : ∃ t, execLatchClose s = .next t ∧ s₀.Keeps c t := by
  refine ⟨_, rfl, ?_⟩
  dsimp only
  split
  · exact h.rset.removalOver.units.startAtPredawn.readyShow
  · exact h.rset.readyShow

theorem State.Keeps.setPhase {n} (h : s₀.Keeps c s) : s₀.Keeps c (s.setPhase n) :=
  h.rset.readyShow

theorem State.Keeps.stepCut {h'} (h : s₀.Keeps false s) : s₀.Keeps false (s.stepCut h') := by
  unfold State.stepCut
  split
  · exact h
  · exact h.setStep.stepFail

theorem State.Keeps.cutWork (h : s₀.Keeps false s) : s₀.Keeps false (s.cutWork) :=
  ((h.foldl (fun _ _ k => k.faultKernel)).foldl (fun _ _ k => k.modFr.failLaunches.kernelsOut)).foldl (fun _ _ k => k.stepCut)

theorem State.Keeps.removalClose {x} (h : s₀.Keeps false s) : s₀.Keeps false (s.removalClose x) :=
  h.closeGo.radd

theorem State.Keeps.removalPark {x} (h : s₀.Keeps false s) : s₀.Keeps false (s.removalPark x) := by
  unfold State.removalPark
  dsimp only
  split
  · split
    · exact h.parkGo.units
    · exact h.parkGo
  · exact h.removalClose

theorem State.Keeps.parkPhase (h : s₀.Keeps false s) : s₀.Keeps false (s.parkPhase) := by
  unfold State.parkPhase
  dsimp only
  refine h.units.rset.rset.setPhase.foldl (fun _ _ k => ?_)
  split
  · exact k.removalPark
  · exact k.removalClose

theorem State.Keeps.leavePhase (h : s₀.Keeps false s) : s₀.Keeps false (s.leavePhase) := by
  unfold State.leavePhase
  dsimp only
  refine .setPhase (.commit (.foldl ?_ (fun _ _ k => k.toLink)))
  split
  · exact h.rset.foldl (fun _ _ k => k.removalClose)
  · exact (h.rset.foldl (fun _ _ k => k.removalClose)).raiseN

theorem State.Keeps.powerDown (h : s₀.Keeps c s) : s₀.Keeps c (s.powerDown) :=
  ((((h.foldl (fun _ _ k => k.linkDown)).onlyNight).units).setPhase).raise

theorem State.Keeps.execRemovalPhaseEnd (h : s₀.Keeps c s) : ∃ t, execRemovalPhaseEnd s = .next t ∧ s₀.Keeps c t := by
  refine ⟨_, rfl, ?_⟩
  refine h.attempt (fun k => ?_)
  split
  · split
    · exact (k.foldl (fun _ _ k1 => k1.ringStop)).setPhase
    · exact k
  · split
    · refine .parkPhase ?_
      split
      · exact k
      · exact k.cutWork
    · exact k
  · split
    · exact k.leavePhase
    · exact k
  · dsimp only
    split
    · exact k.powerDown
    · exact k
  · exact k.setPhase
  · exact k

theorem State.Keeps.nightPortDown (h : s₀.Keeps c s) : s₀.Keeps c (s.nightPortDown) := by
  unfold State.nightPortDown
  split
  · exact h.raise.addFence.rset
  · exact h

theorem State.Keeps.execBlockCrossed {night} (h : s₀.Keeps c s) : ∃ t, execBlockCrossed night s = .next t ∧ s₀.Keeps c t := by
  refine ⟨_, rfl, ?_⟩
  dsimp only
  split
  · split
    · exact h.rset.raise
    · exact h
  · split
    · exact h.rset.raise
    · exact h

theorem State.Keeps.execLowLight {e' lane} (h : s₀.Keeps c s) : ∃ t, execLowLight e' lane s = .next t ∧ s₀.Keeps c t := by
  refine ⟨_, rfl, ?_⟩
  dsimp only
  split
  · exact h
  · split
    · exact h.units.raise.nightPortDown
    · split
      · split
        · exact h.units.raise.hostLinkDown.addFence
        · exact h.units.raise.hostNarrow
      · exact h.units.raise

theorem State.Keeps.execLossOfLight {e'} (h : s₀.Keeps c s) : ∃ t, execLossOfLight e' s = .next t ∧ s₀.Keeps c t := by
  refine ⟨_, rfl, ?_⟩
  split
  · exact h.foldl (fun _ _ k => k.modLink.linkDown)
  · split
    · exact h.hostLinkDown.rset
    · split
      · exact h.nightPortDown.rset
      · exact h

theorem State.Keeps.execNightPortDown (h : s₀.Keeps c s) : ∃ t, execNightPortDown s = .next t ∧ s₀.Keeps c t :=
  ⟨_, rfl, h.nightPortDown⟩

theorem State.Keeps.execNightPortUp (h : s₀.Keeps c s) : ∃ t, execNightPortUp s = .next t ∧ s₀.Keeps c t := by
  refine ⟨_, rfl, ?_⟩
  split
  · exact h.units.dropFence.rset
  · exact h

theorem State.Keeps.execNightFrame {bytes} (h : s₀.Keeps c s) : ∃ t, execNightFrame bytes s = .next t ∧ s₀.Keeps c t := by
  refine ⟨_, rfl, ?_⟩
  split
  · exact h.radd
  · exact h

theorem State.Keeps.execLinkControlFrame (h : s₀.Keeps c s) : ∃ t, execLinkControlFrame s = .next t ∧ s₀.Keeps c t := by
  refine ⟨_, rfl, ?_⟩
  split
  · exact h.units
  · exact h

theorem State.Keeps.execMctpMessage {ty body} (h : s₀.Keeps c s) : ∃ t, execMctpMessage ty body s = .next t ∧ s₀.Keeps c t := by
  refine ⟨_, rfl, ?_⟩
  split
  · exact h.units
  · exact h

theorem State.Keeps.execManagementRead {off size} (h : s₀.Keeps c s) : ∃ t, execManagementRead off size s = .next t ∧ s₀.Keeps c t := by
  refine ⟨_, rfl, ?_⟩
  split
  · exact h.units
  · exact h

theorem State.Keeps.slotWrite {slot mask v} (h : s₀.Keeps c s) : s₀.Keeps c (s.slotWrite slot mask v) := by
  unfold State.slotWrite
  split
  · exact h.setRword
  · exact h

theorem State.Keeps.regionWrite {n slot mask v} (h : s₀.Keeps c s) : s₀.Keeps c (s.regionWrite n slot mask v) := by
  unfold State.regionWrite
  dsimp only
  split
  · exact .after (h.slotWrite.execRegionLostClear)
  · exact h.slotWrite

theorem State.Keeps.rngCtlWrite {r slot mask v} (h : s₀.Keeps c s) : s₀.Keeps c (s.rngCtlWrite r slot mask v) := by
  unfold State.rngCtlWrite
  dsimp only
  split
  · split
    · exact .after (h.slotWrite.execRingEnable)
    · exact .after (h.slotWrite.execRingDisable)
  · exact h.slotWrite

theorem State.Keeps.sporeCtlWrite {slot mask v} (h : s₀.Keeps c s) : s₀.Keeps c (s.sporeCtlWrite slot mask v) := by
  unfold State.sporeCtlWrite
  dsimp only
  split
  · exact h.slotWrite.sporeOff
  · exact h.slotWrite

theorem State.Keeps.ownLow {slot mask v} {u} (h : s₀.Keeps c s) (e : s.ownLow slot mask v = some u) : s₀.Keeps c u := by
  unfold State.ownLow at e
  split at e
  · cases e
    refine .slotWrite ?_
    split
    · exact .after (h.execApply)
    · exact h
  · split at e
    · cases e
      exact h.regionWrite
    · split at e
      · dsimp only at e
        cases e
        refine .slotWrite ?_
        split
        · exact h.slotWrite
        · exact .after (h.slotWrite.execSlotTableCommit)
      · split at e
        · split at e
          · cases e
            exact .after (h.execFabPortCfgWrite)
          · cases e
        · cases e

theorem State.Keeps.ownHigh {slot mask v} {u} (h : s₀.Keeps c s) (e : s.ownHigh slot mask v = some u) : s₀.Keeps c u := by
  unfold State.ownHigh at e
  split at e
  · dsimp only at e
    cases e
    split
    · exact .after (h.slotWrite.execRetry)
    · exact h.slotWrite
  · split at e
    · split at e
      · cases e
        exact h.ringCtlWrite
      · cases e
    · split at e
      · split at e
        · cases e
          exact h.injCtlWrite
        · cases e
      · split at e
        · cases e
          exact h.paceCtlWrite
        · split at e
          · dsimp only at e
            cases e
            split
            · refine .after (State.Keeps.execAbandon ?_)
              split
              · exact .after (h.execStart)
              · exact h
            · split
              · exact .after (h.execStart)
              · exact h
          · split at e
            · cases e
              exact h.sporeCtlWrite
            · split at e
              · cases e
                exact .after (h.execFrdSleepCtlWrite)
              · split at e
                · cases e
                  exact h.rngCtlWrite
                · cases e

theorem State.Keeps.msixWrite {slot mask v} (h : s₀.Keeps c s) : s₀.Keeps c (s.msixWrite slot mask v) := by
  unfold State.msixWrite
  extract_lets k dflt q s1 n
  have h1 : s₀.Keeps c s1 := h.units
  clear_value s1 n
  split
  · exact h1.units
  · exact h1

theorem State.Keeps.bar0Write {slot mask v} (h : s₀.Keeps c s) : s₀.Keeps c (s.bar0Write slot mask v) := by
  unfold State.bar0Write
  split
  · exact h
  · split
    · exact h.tdispLock
    · split
      · exact h.msixWrite
      · split
        · exact h
        · split
          · next e =>
              exact h.ownLow e
          · split
            · next e =>
                exact h.ownHigh e
            · exact h.slotWrite

theorem State.Keeps.execRegisterWrite {off size val} (h : s₀.Keeps c s) : ∃ t, execRegisterWrite off size val s = .next t ∧ s₀.Keeps c t := by
  refine ⟨_, rfl, ?_⟩
  split
  · exact h.bar0Write
  · exact h.units

theorem State.Keeps.sorTrap {f g t' reason} (h : s₀.Keeps c s) : s₀.Keeps c (s.sorTrap f g t' reason) :=
  h.trap

theorem State.Keeps.onSorus {f g t' gs act} (h : s₀.Keeps c s) (hact : ∀ u x1, s₀.Keeps c u → s₀.Keeps c (act u x1)) :
    s₀.Keeps c (s.onSorus f g t' gs act) := by
  unfold State.onSorus
  split
  · exact h.trapHere
  · exact hact _ _ h

theorem State.Keeps.sorThread {f g mask gs reads pair act} (h : s₀.Keeps c s) (hact : ∀ u k q n t, s.Keeps false u → s.Keeps false (act u k q n t)) :
    s₀.Keeps c (s.sorThread f g mask gs reads pair act) := by
  unfold State.sorThread
  refine h.issue (fun _ _ _ _ k1 => ?_)
  split
  · exact k1.trapEach
  · exact k1.eachThread (fun _ _ k2 => k2.onSorus (fun _ _ k3 => hact _ _ _ _ _ k3))

theorem State.Keeps.ssig1 {f g t' gn k' q n} (h : s₀.Keeps c s) : s₀.Keeps c (s.ssig1 f g t' gn k' q n) := by
  unfold State.ssig1
  dsimp only
  refine .advance ?_
  split
  · exact h.sbDrain
  · exact h.sbDrain.units

theorem State.Keeps.execSsig {f g mask gs gn} (h : s₀.Keeps c s) : ∃ t, execSsig f g mask gs gn s = .next t ∧ s₀.Keeps c t := by
  refine ⟨_, rfl, ?_⟩
  split
  · exact h
  · exact h.sorThread (fun _ _ _ _ _ k1 => k1.ssig1)

theorem State.Keeps.sorWait {f g t' n tenant thr inv} (h : s₀.Keeps c s) : s₀.Keeps c (s.sorWait f g t' n tenant thr inv) := by
  unfold State.sorWait
  dsimp only
  split
  · exact h.sorCheckErr.sorTrap
  · split
    · refine .advance ?_
      split
      · exact h.sorCheckErr.dcClear
      · exact h.sorCheckErr
    · split
      · exact h.sorCheckErr.sorTrap
      · exact h.sorCheckErr.modFr.startWait

theorem State.Keeps.execSwait {f g mask gs inv} (h : s₀.Keeps c s) : ∃ t, execSwait f g mask gs inv s = .next t ∧ s₀.Keeps c t :=
  ⟨_, rfl, h.sorThread (fun _ _ _ _ _ k => k.sorWait)⟩

theorem State.Keeps.execSwaitT {f g mask gs gt inv} (h : s₀.Keeps c s) : ∃ t, execSwaitT f g mask gs gt inv s = .next t ∧ s₀.Keeps c t :=
  ⟨_, rfl, h.sorThread (fun _ _ _ _ _ k => k.sorWait)⟩

theorem State.Keeps.srd1 {f g t' gd tenant n} (h : s₀.Keeps c s) : s₀.Keeps c (s.srd1 f g t' gd tenant n) := by
  unfold State.srd1
  dsimp only
  split
  · exact h.sorCheckErr.sorTrap
  · exact h.sorCheckErr.setGreg.setGreg.advance

theorem State.Keeps.execSrd {f g mask gd gs} (h : s₀.Keeps c s) : ∃ t, execSrd f g mask gd gs s = .next t ∧ s₀.Keeps c t :=
  ⟨_, rfl, h.sorThread (fun _ _ _ _ _ k => k.srd1)⟩

theorem State.Keeps.execSorusUpdateApply {bank} (h : s₀.Keeps c s) : ∃ t, execSorusUpdateApply bank s = .next t ∧ s₀.Keeps c t := by
  refine ⟨_, rfl, ?_⟩
  dsimp only
  split
  · exact h
  · split
    · exact h
    · exact h.units.applyUpd

theorem State.Keeps.execWatchRelease {f n} (h : s₀.Keeps c s) : ∃ t, execWatchRelease f n s = .next t ∧ s₀.Keeps c t := by
  refine ⟨_, rfl, ?_⟩
  dsimp only
  refine h.modFr.foldl (fun _ _ k => .advance ?_)
  split
  · exact k.dcClear
  · exact k

theorem State.Keeps.execWaitTimeout {f g t'} (h : s₀.Keeps c s) : ∃ t, execWaitTimeout f g t' s = .next t ∧ s₀.Keeps c t := by
  refine ⟨_, rfl, ?_⟩
  split
  · split
    · exact h.modFr.sorTrap
    · exact h
  · exact h

theorem State.Keeps.sorFail {r i n reason} (h : s₀.Keeps c s) : s₀.Keeps c (s.sorFail r i n reason) :=
  h.raise.complete

theorem State.Keeps.sorOp {r i op act} (h : s₀.Keeps c s) (hact : ∀ x0 u, s₀.Keeps c u → s₀.Keeps c (act x0 u)) :
    s₀.Keeps c (s.sorOp r i op act) := by
  unfold State.sorOp
  split
  · exact h
  · exact hact _ _ h.sorCheckErr

theorem State.Keeps.sorChecked {r i n act} (h : s₀.Keeps c s) (hact : s₀.Keeps c act) : s₀.Keeps c (s.sorChecked r i n act) := by
  unfold State.sorChecked
  split
  · exact h.sorFail
  · exact hact

theorem State.Keeps.execCreate {r i} (h : s₀.Keeps c s) : ∃ t, execCreate r i s = .next t ∧ s₀.Keeps c t := by
  refine ⟨_, rfl, ?_⟩
  refine h.sorOp (fun _ _ k => ?_)
  dsimp only
  split
  · exact k.setSorus.sorWrite.sorEval.complete
  · exact k.sorChecked k.complete

theorem State.Keeps.execDestroy {r i} (h : s₀.Keeps c s) : ∃ t, execDestroy r i s = .next t ∧ s₀.Keeps c t := by
  refine ⟨_, rfl, ?_⟩
  refine h.sorOp (fun _ _ k => ?_)
  dsimp only
  split
  · exact k.sorFail
  · split
    · split
      · exact k.sorFail
      · split
        · exact k.complete
        · exact k.setSorus.complete
    · split
      · exact k.sorFail
      · split
        · exact k.complete
        · exact k.setSorus.complete

theorem State.Keeps.execSignal {r i} (h : s₀.Keeps c s) : ∃ t, execSignal r i s = .next t ∧ s₀.Keeps c t := by
  refine ⟨_, rfl, ?_⟩
  refine h.sorOp (fun _ _ k => ?_)
  dsimp only
  split
  · next e =>
      exact (k.sorNow.of_eq e).sorFail
  · next e =>
      exact (k.sorNow.of_eq e).complete

theorem State.Keeps.execSet {r i} (h : s₀.Keeps c s) : ∃ t, execSet r i s = .next t ∧ s₀.Keeps c t :=
  ⟨_, rfl, h.sorOp (fun _ _ k => k.sorChecked k.setSorus.sorWrite.sorEval.complete)⟩

theorem State.Keeps.execWait {r i} (h : s₀.Keeps c s) : ∃ t, execWait r i s = .next t ∧ s₀.Keeps c t := by
  refine ⟨_, rfl, ?_⟩
  refine h.sorOp (fun _ _ k => ?_)
  dsimp only
  split
  · exact k
  · exact k.sorChecked k.markRan.units

theorem State.Keeps.waitEnd {r i status sat} (h : s₀.Keeps c s) : s₀.Keeps c (s.waitEnd r i status sat) := by
  unfold State.waitEnd
  split
  · exact h
  · split
    · exact h
    · exact h.units.complete

theorem State.Keeps.execWaitSatisfied {r i} (h : s₀.Keeps c s) : ∃ t, execWaitSatisfied r i s = .next t ∧ s₀.Keeps c t :=
  ⟨_, rfl, h.waitEnd⟩

theorem State.Keeps.execWaitTimedOut {r i} (h : s₀.Keeps c s) : ∃ t, execWaitTimedOut r i s = .next t ∧ s₀.Keeps c t :=
  ⟨_, rfl, h.waitEnd⟩

theorem State.Keeps.sorusRead {r i} (h : s₀.Keeps c s) : ∃ t, Machine.execRead r i s = .next t ∧ s₀.Keeps c t :=
  ⟨_, rfl, h.sorOp (fun _ _ k => k.sorChecked k.complete)⟩

end
end Sys2Proof.Machine
end

section
/-!
PROOFS. What every step keeps: all commands and the tick, and the statements that follow; the reset state.
-/

namespace Sys2Proof.Machine
open State

set_option Elab.async false

section
variable {c : Bool} {s₀ s t : State}

/-- Every command completes, and does what a step may do. -/
theorem State.Keeps.exec {i : Instr} (h : s₀.Keeps c s) : ∃ t, exec i s = .next t ∧ s₀.Keeps c t := by
  cases i with
  | registerWrite _ _ _ => exact h.execRegisterWrite
  | loadCb _ _ => exact h.execLoadCb
  | loadCbComplete _ _ => exact h.execLoadCbComplete
  | loadStat _ _ => exact h.execLoadStat
  | shadowLoadComplete _ _ => exact h.execShadowLoadComplete
  | pass _ _ _ _ => exact h.execPass
  | swapMarkerRelease _ _ _ _ _ => exact h.execSwapMarkerRelease
  | drain _ _ => exact h.execDrain
  | drainComplete _ _ => exact h.execDrainComplete
  | accumulatorPatternTest _ _ _ => exact h.execAccumulatorPatternTest
  | commandTimeout _ _ => exact h.execCommandTimeout
  | threadLoad _ _ _ _ _ _ _ _ => exact h.execThreadLoad
  | threadStore _ _ _ _ _ _ _ => exact h.execThreadStore
  | storeBufferWrite _ => exact h.execStoreBufferWrite
  | aliasStore _ _ _ _ _ _ _ => exact h.execAliasStore
  | atomic _ _ _ _ _ _ _ _ _ _ => exact h.execAtomic
  | fenceL _ _ _ => exact h.execFenceL
  | fenceM _ _ _ => exact h.execFenceM
  | fenceMi _ _ _ => exact h.execFenceMi
  | cinv _ _ _ _ _ => exact h.execCinv
  | translationWalk _ _ _ _ _ _ => exact h.execTranslationWalk
  | copy _ _ => exact h.execCopy
  | fill _ _ => exact h.execFill
  | dmaComplete _ _ => exact h.execDmaComplete
  | duskEntry _ => exact h.execDuskEntry
  | nightEntry _ => exact h.execNightEntry
  | darkEntry _ => exact h.execDarkEntry
  | sleepEntryComplete _ => exact h.execSleepEntryComplete
  | wakeRequest _ _ => exact h.execWakeRequest
  | wakeComplete _ => exact h.execWakeComplete
  | wakeTimeout _ => exact h.execWakeTimeout
  | sleepingLocalStoreAccess _ _ _ _ _ => exact h.execSleepingLocalStoreAccess
  | frdSleepCtlWrite _ _ => exact h.execFrdSleepCtlWrite
  | instructionIssue _ _ _ _ _ => exact h.execInstructionIssue
  | fmaInstruction _ _ _ _ _ _ _ _ => exact h.execFmaInstruction
  | specialFunction _ _ _ _ _ _ => exact h.execSpecialFunction
  | gshuf _ _ _ _ _ _ => exact h.execGshuf
  | gxpose _ _ _ _ _ => exact h.execGxpose
  | gmv _ _ _ _ _ _ => exact h.execGmv
  | gred _ _ _ _ _ _ => exact h.execGred
  | gscan _ _ _ _ _ _ => exact h.execGscan
  | barG _ _ _ _ => exact h.execBarG
  | barK _ _ _ _ => exact h.execBarK
  | exit _ _ _ => exact h.execExit
  | trap _ _ _ _ => exact h.execTrap
  | clusterPatternTest _ _ _ => exact h.execClusterPatternTest
  | acmd _ _ _ _ _ => exact h.execAcmd
  | dcmd _ _ _ _ _ => exact h.execDcmd
  | await _ _ _ _ _ => exact h.execAwait
  | dwait _ _ _ _ _ => exact h.execDwait
  | divergentCollective _ _ => exact h.execDivergentCollective
  | barrierDeadlock _ _ => exact h.execBarrierDeadlock
  | kernelAbort _ _ => exact h.execKernelAbort
  | launchRecord _ _ _ _ _ _ _ _ => exact h.execLaunchRecord
  | kernelAdmission _ => exact h.execKernelAdmission
  | kernelExit _ _ => exact h.execKernelExit
  | scratchpadAccess _ _ _ _ _ => exact h.execScratchpadAccess
  | bundleWireTest _ _ _ _ _ => exact h.execBundleWireTest
  | rowRepair _ _ _ _ _ _ => exact h.execRowRepair
  | patrolRead _ _ _ _ _ => exact h.execPatrolRead
  | patrolLate => exact h.execPatrolLate
  | thallusBandChange _ _ _ _ => exact h.execThallusBandChange
  | retentionEntry _ _ _ _ => exact h.execRetentionEntry
  | cacheRead _ _ _ => exact h.execCacheRead
  | cacheWrite _ _ _ => exact h.execCacheWrite
  | fillWaitRelease _ _ => exact h.execFillWaitRelease
  | setCacheMode _ _ => exact h.execSetCacheMode
  | switchToCache _ _ _ => exact h.execSwitchToCache
  | switchToScratchpad _ _ _ => exact h.execSwitchToScratchpad
  | modeSwitchComplete _ _ _ => exact h.execModeSwitchComplete
  | prefetch _ _ => exact h.execPrefetch
  | flush _ _ => exact h.execFlush
  | invalidate _ _ => exact h.execInvalidate
  | pin _ _ => exact h.execPin
  | unpin _ _ => exact h.execUnpin
  | postedReduction _ _ _ _ _ => exact h.execPostedReduction
  | sliceAtomic _ _ _ _ _ _ => exact h.execSliceAtomic
  | lineLockEnd _ => exact h.execLineLockEnd
  | apply => exact h.execApply
  | applyLatchedStart => exact h.execApplyLatchedStart
  | regionLostClear _ => exact h.execRegionLostClear
  | dramAccess _ _ _ _ => exact h.execDramAccess
  | refresh _ _ _ => exact h.execRefresh
  | pileBandChange _ => exact h.execPileBandChange
  | pileScrub _ _ => exact h.execPileScrub
  | rowRetirement _ _ _ => exact h.execRowRetirement
  | coilLoss _ _ _ => exact h.execCoilLoss
  | pileFailed _ => exact h.execPileFailed
  | flitReplay _ _ => exact h.execFlitReplay
  | networkLinkRetrain _ _ => exact h.execNetworkLinkRetrain
  | routerFailed _ _ => exact h.execRouterFailed
  | routeTableWrite _ => exact h.execRouteTableWrite
  | frondDrain _ => exact h.execFrondDrain
  | drainTimeout _ => exact h.execDrainTimeout
  | requestPromotion _ _ _ => exact h.execRequestPromotion
  | slotTableCommit _ => exact h.execSlotTableCommit
  | slotTableLatchedCommit _ => exact h.execSlotTableLatchedCommit
  | hostPortReset => exact h.execHostPortReset
  | linkDown _ => exact h.execLinkDown
  | hostLinkUp _ _ => exact h.execHostLinkUp
  | ideIntegrity _ => exact h.execIdeIntegrity
  | sidebandFrame _ _ => exact h.execSidebandFrame
  | sidebandLost => exact h.execSidebandLost
  | cxlMemAccess _ _ _ => exact h.execCxlMemAccess
  | hdmDecoderCommit _ _ _ _ _ _ => exact h.execHdmDecoderCommit
  | ringEnable _ => exact h.execRingEnable
  | ringDisable _ => exact h.execRingDisable
  | ringDisableDone _ => exact h.execRingDisableDone
  | sqTail _ _ _ _ => exact h.execSqTail
  | cqHead _ _ _ => exact h.execCqHead
  | descriptorFetch cp => exact h.execDescriptorFetch (cp := cp)
  | descriptorStart _ => exact h.execDescriptorStart
  | completionWrite _ => exact h.execCompletionWrite
  | nop _ _ => exact h.execNop
  | fence _ _ => exact h.execFence
  | xlatInv _ _ => exact h.execXlatInv
  | launch _ _ => exact h.execLaunch
  | imageLoad _ _ => exact h.execImageLoad
  | imageUnload _ _ => exact h.execImageUnload
  | ringCopy _ _ => exact h.execRingCopy
  | ringFill _ _ => exact h.execRingFill
  | ringIrqTimer _ => exact h.execRingIrqTimer
  | openSession _ _ _ => exact h.execOpen
  | close _ _ _ => exact h.execClose
  | step _ _ => exact h.execStep
  | planLaunch _ => exact h.execPlanLaunch
  | planGather _ => exact h.execPlanGather
  | stepComplete _ => exact h.execStepComplete
  | stepFail _ => exact h.execStepFail
  | park _ _ => exact h.execPark
  | resume _ _ => exact h.execResume
  | truncate _ _ => exact h.execTruncate
  | query _ _ _ => exact h.execQuery
  | poolCreate _ _ => exact h.execPoolCreate
  | poolDestroy _ _ => exact h.execPoolDestroy
  | slotLatchedStart _ => exact h.execSlotLatchedStart
  | sessionSequenceRestart => exact h.execSessionSequenceRestart
  | ssig _ _ _ _ _ => exact h.execSsig
  | swait _ _ _ _ _ => exact h.execSwait
  | swaitT _ _ _ _ _ _ => exact h.execSwaitT
  | srd _ _ _ _ _ => exact h.execSrd
  | sorusUpdateApply _ => exact h.execSorusUpdateApply
  | watchRelease _ _ => exact h.execWatchRelease
  | waitTimeout _ _ _ => exact h.execWaitTimeout
  | create _ _ => exact h.execCreate
  | destroy _ _ => exact h.execDestroy
  | signal _ _ => exact h.execSignal
  | setSorus _ _ => exact h.execSet
  | wait _ _ => exact h.execWait
  | waitSatisfied _ _ => exact h.execWaitSatisfied
  | waitTimedOut _ _ => exact h.execWaitTimedOut
  | read _ _ => exact h.sorusRead
  | fabPortCfgWrite _ _ => exact h.execFabPortCfgWrite
  | portLatchedChange _ => exact h.execPortLatchedChange
  | linkTraining _ _ => exact h.execLinkTraining
  | trainingRetry _ _ => exact h.execTrainingRetry
  | crossedSwap _ _ => exact h.execCrossedSwap
  | blockReceive _ _ _ => exact h.execBlockReceive
  | flitReceive _ _ _ _ _ _ => exact h.execFlitReceive
  | nakRepeat _ => exact h.execNakRepeat
  | ackReport _ => exact h.execAckReport
  | linkRetrained _ _ => exact h.execLinkRetrained
  | rekeyStart _ => exact h.execRekeyStart
  | messageDropped _ => exact h.execMessageDropped
  | fabricLinkDown _ => exact h.execFabricLinkDown
  | msgWrite _ => exact h.execMsgWrite
  | msgRedWrite _ => exact h.execMsgRedWrite
  | msgRead _ => exact h.execMsgRead
  | msgSignal _ => exact h.execMsgSignal
  | msgSess _ => exact h.execMsgSess
  | msgDone _ => exact h.execMsgDone
  | msgData _ => exact h.execMsgData
  | msgError _ => exact h.execMsgError
  | msgChunk _ => exact h.execMsgChunk
  | msgAdvance _ => exact h.execMsgAdvance
  | msgAbort _ => exact h.execMsgAbort
  | msgLeave _ => exact h.execMsgLeave
  | msgRekey _ => exact h.execMsgRekey
  | msgIdent _ => exact h.execMsgIdent
  | msgKeyx _ => exact h.execMsgKeyx
  | winOpen _ _ => exact h.execWinOpen
  | winClose _ _ => exact h.execWinClose
  | put _ _ => exact h.execPut
  | get _ _ => exact h.execGet
  | fabricSignal _ _ => exact h.execFabricSignal
  | reduce _ _ => exact h.execReduce
  | reduceComplete _ => exact h.execReduceComplete
  | reductionTimeout _ => exact h.execReductionTimeout
  | sessionSend _ _ => exact h.execSessionSend
  | fabTable _ _ => exact h.execFabTable
  | fabricTimeout _ => exact h.execFabricTimeout
  | randomSourceFailure => exact h.execRandomSourceFailure
  | randomSourceRetest _ => exact h.execRandomSourceRetest
  | lmsReservation => exact h.execLmsReservation
  | lmsReservationDone => exact h.execLmsReservationDone
  | lmsTreeBuilt => exact h.execLmsTreeBuilt
  | lmsIndexLow => exact h.execLmsIndexLow
  | tenantErase _ _ => exact h.execTenantErase
  | keySlotUncorrectable _ _ => exact h.execKeySlotUncorrectable
  | ownerClaim _ _ _ => exact h.execOwnerClaim
  | ownerRelease _ _ _ => exact h.execOwnerRelease
  | policySet _ _ _ _ => exact h.execPolicySet
  | peerTableLoad _ _ _ _ => exact h.execPeerTableLoad
  | spdmRequest _ _ => exact h.execSpdmRequest
  | getEvidence _ _ => exact h.execGetEvidence
  | keyProg _ _ _ _ => exact h.execKeyProg
  | kSetGo _ _ => exact h.execKSetGo
  | lockInterfaceRequest => exact h.execLockInterfaceRequest
  | stopInterfaceRequest => exact h.execStopInterfaceRequest
  | inputQualified _ => exact h.execInputQualified
  | inputDisqualified _ => exact h.execInputDisqualified
  | returnToMain => exact h.execReturnToMain
  | bothSuppliesLost _ => exact h.execBothSuppliesLost
  | reversePolarity _ => exact h.execReversePolarity
  | inputShort _ => exact h.execInputShort
  | cellShed _ => exact h.execCellShed
  | branchShort _ => exact h.execBranchShort
  | phaseFail _ _ => exact h.execPhaseFail
  | zoneLatchedSwitchOn _ => exact h.execZoneLatchedSwitchOn
  | railOverLimit _ _ => exact h.execRailOverLimit
  | inputOverLimit => exact h.execInputOverLimit
  | housekeepingRound _ => exact h.execHousekeepingRound
  | flowPresent => exact h.execFlowPresent
  | lowFlow => exact h.execLowFlow
  | coolantLost => exact h.execCoolantLost
  | reversedFlow => exact h.execReversedFlow
  | reversedFlowCleared => exact h.execReversedFlowCleared
  | hourlyCommit => exact h.execHourlyCommit
  | nightStage _ => exact h.execNightStage
  | predawn _ _ _ => exact h.execPredawn
  | firstLight _ _ _ _ _ => exact h.execFirstLight
  | dawn lost => exact h.execDawn (lost := lost)
  | sunrise _ _ _ _ => exact h.execSunrise
  | morning _ _ _ => exact h.execMorning
  | noon => exact h.execNoon
  | stageTimeout => exact h.execStageTimeout
  | failedStartCounted => exact h.execFailedStartCounted
  | startRetry => exact h.execStartRetry
  | failedStartCountCleared => exact h.execFailedStartCountCleared
  | retry => exact h.execRetry
  | recoveryLoaderStart => exact h.execRecoveryLoaderStart
  | restart _ _ _ => exact h.execRestart
  | restartCompleted _ _ _ _ _ _ _ => exact h.execRestartCompleted
  | restartLatchedStart _ _ => exact h.execRestartLatchedStart
  | autoFrondRestart _ => exact h.execAutoFrondRestart
  | ledgerCommit _ _ => exact h.execLedgerCommit
  | compaction _ => exact h.execCompaction
  | ledgerDailyRead _ _ => exact h.execLedgerDailyRead
  | laserFailed _ _ => exact h.execLaserFailed
  | recordHoldEnd _ => exact h.execRecordHoldEnd
  | faultRingEnable _ => exact h.execFaultRingEnable
  | faultRingIrq => exact h.execFaultRingIrq
  | arm _ => exact h.execArm
  | evictWrite _ => exact h.execEvictWrite
  | start _ => exact h.execStart
  | endpointSwitch => exact h.execEndpointSwitch
  | endpointReady => exact h.execEndpointReady
  | switchFailed _ => exact h.execSwitchFailed
  | abandon => exact h.execAbandon
  | pldmTransfer _ _ _ => exact h.execPldmTransfer
  | activateFirmware => exact h.execActivateFirmware
  | fwSpore _ _ => exact h.execFwSpore
  | presenceChange _ _ => exact h.execPresenceChange
  | latchOpen => exact h.execLatchOpen
  | latchClose => exact h.execLatchClose
  | removalPhaseEnd => exact h.execRemovalPhaseEnd
  | surpriseExtraction _ => exact h.execSurpriseExtraction
  | blockCrossed _ => exact h.execBlockCrossed
  | lowLight _ _ => exact h.execLowLight
  | lossOfLight _ => exact h.execLossOfLight
  | nightFrame _ => exact h.execNightFrame
  | linkControlFrame => exact h.execLinkControlFrame
  | mctpMessage _ _ => exact h.execMctpMessage
  | managementRead _ _ => exact h.execManagementRead
  | nightPortDown => exact h.execNightPortDown
  | applyComplete => exact h.execApplyComplete
  | startInterfaceRequest => exact h.execStartInterfaceRequest
  | atsInvalidation _ _ _ => exact h.execAtsInvalidation
  | nightPortUp => exact h.execNightPortUp
  | sidebandLockGained => exact h.execSidebandLockGained
  | voltageRampDone _ => exact h.execVoltageRampDone

/-- A tick of the Night clock is work on units and registers, and then the clock. -/
theorem State.Keeps.tick (s : State) : ∃ u, s.Keeps c u ∧ s.tick = { u with clock := u.clock + 1 } :=
  ⟨_, ((State.Keeps.refl s).foldl (fun _ _ k => k.slotTake)).foldl (fun _ _ k => k.idleMark), rfl⟩

end

/-- A step keeps the form, and holds no access where none was held. -/
theorem step_keeps {s t : State} (e : step s = .next t) : (s.Canonical → t.Canonical) ∧ (s.waited = false → t.waited = false) := by
  unfold step at e
  split at e
  · obtain ⟨u, k, hu⟩ := State.Keeps.tick (c := true) s
    obtain rfl : s.tick = t := Host.Outcome.next.inj e
    rw [hu]
    exact ⟨k.canonical, k.waited rfl⟩
  · next i rest _ =>
    obtain ⟨u, hu, k⟩ := (State.Keeps.refl (c := true) { s with pending := rest }).exec (i := i)
    obtain rfl : u = t := Host.Outcome.next.inj (hu.symm.trans e)
    exact ⟨k.canonical, k.waited rfl⟩

/-- Settles O58: each unit's work keeps the form (`State.Keeps`), and with it every command and the tick. -/
theorem stepKeepsCanonical : Obligations.StepKeepsCanonical :=
  fun _ _ h e => (step_keeps e).1 h

/-- Settles O60: no command's work, as a command performs it, leaves the mark of a wait. -/
theorem stepKeepsUnwaited : Obligations.StepKeepsUnwaited :=
  fun _ _ h e => (step_keeps e).2 h

/-- Settles O59. -/
theorem commandsLeaveQueue : Obligations.CommandsLeaveQueue := by
  intro c s
  obtain ⟨t, e, k⟩ := (State.Keeps.refl (c := true) s).exec (i := c)
  exact ⟨t, e, k.pending, k.part, k.clock⟩

/-- Settles O55. -/
theorem stepRunsFront : Obligations.StepRunsFront := by
  intro c rest s e
  unfold step
  rw [e]

/-- The ring registers at reset: 1,024 instances of one row each. -/
theorem rget_reset_ring : ∀ r, r < 1024 →
    State.reset.rget (Fd.RNG_CTL_STATE r) = 0 ∧ State.reset.rget (Fd.RNG_CTL_LOG2N r) = 6 ∧ State.reset.rget (Fd.RNG_IRQ_COUNT r) = 1 := by
  decide +kernel

/-- Settles O57. -/
theorem resetState : Obligations.ResetState := by
  have frd : ∀ f, f < 16 → State.reset.rget (Fd.FRD_SLEEP_CTL_FLOOR f) = 2 ∧ State.reset.rget (Fd.FRD_SLEEP_CTL_DARK_S f) = 600 ∧
      State.reset.rget (Fd.FRD_SLEEP_CTL_NIGHT_MS f) = 5 ∧ State.reset.rget (Fd.FRD_SLEEP_CTL_DUSK_US f) = 8 ∧
      State.reset.rget (Fd.FRD_DMA_CTL_RING_MASK f) = 0xF000 ∧ State.reset.sleep f = 0 := by decide +kernel
  have pil : ∀ n, n < 16 → 0 < n → State.reset.rget (Fd.PIL_REGION_EN n) = 0 := by decide +kernel
  unfold Obligations.ResetState
  dsimp only
  refine ⟨frd, rget_reset_ring, ?_, ?_, ?_, ?_, ?_, ?_, fun n h0 h => pil n h h0, ?_⟩
  · decide +kernel
  · decide +kernel
  · decide +kernel
  · decide +kernel
  · decide +kernel
  · decide +kernel
  · refine ⟨?_, ?_, ?_, ?_, ?_, ?_, ?_, ?_, ?_, ?_, ?_, ?_, ?_, ?_, ?_, ?_, ?_, ?_, ?_, rfl, rfl, rfl, rfl, rfl, rfl, rfl, rfl, canonical_reset⟩ <;>
      decide +kernel

end Sys2Proof.Machine
end

section
/-!
PROOFS. Attempts and sparse maps: an attempt none of whose accesses is held is its act, and what a chain of writes to a sparse map holds.
-/

namespace Sys2Proof.Machine

set_option Elab.async false

/-! ### Attempts and sparse maps -/

/-- An attempt none of whose accesses is held is the act. -/
theorem State.attempt_eq {act : State → State} {s t : State} (e : act s = t) (h : t.waited = false) : s.attempt act = t := by
  unfold State.attempt
  dsimp only
  rw [e, h]
  exact if_neg Bool.false_ne_true

section
variable {α : Type} (d : Nat → α)

theorem spIns_spIns (m : Sp α) (k : Nat) (v w : α) : spIns (spIns m k v) k w = spIns m k w := by
  induction m with
  | nil => simp [spIns]
  | cons p m ih =>
    obtain ⟨j, u⟩ := p
    by_cases h1 : k < j
    · simp [spIns, h1]
    · by_cases h2 : k = j
      · simp [spIns, h2]
      · simp [spIns, h1, h2, ih]

theorem spDel_spIns (m : Sp α) (k : Nat) (v : α) : spDel (spIns m k v) k = spDel m k := by
  induction m with
  | nil => simp [spIns, spDel]
  | cons p m ih =>
    obtain ⟨j, u⟩ := p
    by_cases h1 : k < j
    · simp [spIns, spDel, h1]
    · by_cases h2 : k = j
      · simp [spIns, spDel, h2]
      · simp [spIns, spDel, h1, h2, ih]

variable [DecidableEq α]

/-- The last write counts. -/
theorem spPut_spPut (m : Sp α) {k : Nat} {v : α} (h : v ≠ d k) (w : α) : spPut d (spPut d m k v) k w = spPut d m k w := by
  unfold spPut
  rw [if_neg h]
  split
  · exact spDel_spIns m k v
  · exact spIns_spIns m k v w

/-- Writes at keys other than `j`, one after the other, leave `j`. -/
theorem spGet_foldl_spPut_of_ne {β : Type} (l : List β) (key : β → Nat) (val : β → α) (m : Sp α) {j : Nat} (h : ∀ x ∈ l, key x ≠ j) :
    spGet d (l.foldl (fun m x => spPut d m (key x) (val x)) m) j = spGet d m j := by
  induction l generalizing m with
  | nil => rfl
  | cons x l ih =>
    rw [List.foldl_cons, ih _ (fun y hy => h y (List.mem_cons_of_mem x hy))]
    exact spGet_spPut_ne d m (val x) (h x List.mem_cons_self).symm

/-- Writes at distinct keys, one after the other: each key reads what was written there. -/
theorem spGet_foldl_spPut_mem {β : Type} (l : List β) (key : β → Nat) (val : β → α) (m : Sp α) (hn : (l.map key).Nodup) {x : β} (hx : x ∈ l) :
    spGet d (l.foldl (fun m x => spPut d m (key x) (val x)) m) (key x) = val x := by
  induction l generalizing m with
  | nil => cases hx
  | cons y l ih =>
    rw [List.map_cons, List.nodup_cons] at hn
    rw [List.foldl_cons]
    rcases List.mem_cons.mp hx with rfl | hx
    · rw [spGet_foldl_spPut_of_ne d l key val _ (fun z hz e => hn.1 (by rw [← e]; exact List.mem_map_of_mem hz))]
      exact spGet_spPut_same d m (key x) (val x)
    · exact ih _ hn.2 hx

/-- A block of writes from `off` on. -/
theorem spGet_foldl_range (n off : Nat) (val : Nat → α) (m : Sp α) {i : Nat} (h : i < n) :
    spGet d ((List.range n).foldl (fun m i => spPut d m (off + i) (val i)) m) (off + i) = val i :=
  spGet_foldl_spPut_mem d (List.range n) (off + ·) val m
    (List.nodup_range.map fun _ _ h => Nat.add_left_cancel h) (List.mem_range.mpr h)

end

/-- A map listed from a table holds its values, and the default elsewhere. -/
theorem spGet_filterMap_range {α : Type} [DecidableEq α] (e : α) (val : Nat → α) (n : Nat) {j : Nat} (h : j < n) :
    spGet (fun _ => e) ((List.range n).filterMap (fun k => if val k = e then none else some (k, val k))) j = val j := by
  have key : ∀ l : List Nat, j ∈ l → spGet (fun _ => e) (l.filterMap (fun k => if val k = e then none else some (k, val k))) j = val j := by
    intro l hj
    by_cases hv : val j = e
    · have out : ∀ l : List Nat, spGet (fun _ => e) (l.filterMap (fun k => if val k = e then none else some (k, val k))) j = e := by
        intro l
        induction l with
        | nil => rfl
        | cons x l ih =>
          by_cases hx : val x = e
          · simpa [List.filterMap_cons, hx] using ih
          · have hxj : x ≠ j := fun k => hx (k ▸ hv)
            simpa [List.filterMap_cons, hx, spGet, hxj] using ih
      rw [out l, hv]
    · induction l with
      | nil => cases hj
      | cons x l ih =>
        by_cases hxj : x = j
        · subst hxj
          simp [hv, spGet]
        · have hj := (List.mem_cons.mp hj).resolve_left (Ne.symm hxj)
          by_cases hx : val x = e
          · simpa [List.filterMap_cons, hx] using ih hj
          · simpa [List.filterMap_cons, hx, spGet, hxj] using ih hj
  exact key _ (List.mem_range.mpr h)

theorem State.setArr_setArr (s : State) (f a : Nat) {v : Arr} (h : v ≠ Arr.init) (w : Arr) : (s.setArr f a v).setArr f a w = s.setArr f a w := by
  unfold State.setArr
  rw [spPut_spPut _ _ h]

end Sys2Proof.Machine
end

section
/-!
PROOFS. Array loads (R63, R67, R75, R80, R82, R85): codebook and stationary loads, and the cells of a set.
-/

namespace Sys2Proof.Machine

set_option Elab.async false

/-! ### The bytes of the memories -/

/-- The bytes of the four addressed memories, without the marks beside them. -/
def State.bytes (s : State) : List Host.Cell × List Host.Cell × List Host.Cell × List Host.Cell := (s.mem.dram, s.mem.thl, s.mem.ls, s.mem.host)

theorem State.bytes_of_mem {s t : State} (h : t.mem = s.mem) : t.bytes = s.bytes := by unfold State.bytes; rw [h]

theorem State.sameMem_of_bytes {s t : State} (h : t.bytes = s.bytes) : s.SameMem t := by
  unfold State.bytes at h
  simp only [Prod.mk.injEq] at h
  obtain ⟨hd, ht, hl, hh⟩ := h
  exact fun a => ⟨by rw [hd], by rw [ht], by rw [hl], by rw [hh]⟩

theorem State.arr_congr {s t : State} (h : t.frd = s.frd) (f a : Nat) : t.arr f a = s.arr f a := by unfold State.arr; rw [h]

@[simp] theorem State.arr_modArr_same (s : State) (f a : Nat) (g : Arr → Arr) : (s.modArr f a g).arr f a = g (s.arr f a) :=
  State.arr_setArr_same s f a _

theorem State.arr_setCmd_same (s : State) (f a i : Nat) (g : ArrCmd → ArrCmd) :
    (s.setCmd f a i g).arr f a = { s.arr f a with queue := modAt g (s.arr f a).queue i } :=
  State.arr_modArr_same s f a _

/-- A noted injection is a mark beside the memories. -/
@[simp] theorem State.noteInj_keeps (s : State) (c k : Nat) : (s.noteInj c k).frd = s.frd ∧ (s.noteInj c k).bytes = s.bytes := by
  unfold State.noteInj
  split <;> exact ⟨rfl, rfl⟩

@[simp] theorem State.injDone_keeps (s : State) : s.injDone.frd = s.frd ∧ s.injDone.bytes = s.bytes := by
  unfold State.injDone
  split
  · exact ⟨rfl, rfl⟩
  · exact ⟨by simp, State.bytes_of_mem (by simp)⟩

/-! ### Codebook loads -/

/-- Codebook bytes stored in feeder memory. -/
theorem State.fmemPut_arr (s : State) (f a off : Nat) (bytes : List Byte) : ∃ bad, (s.fmemPut f a off bytes).arr f a = { s.arr f a with
    fmem := (List.range bytes.length).foldl (fun m i => spPut (fun _ => 0#8) m (off + i) (bytes.getD i 0#8)) (s.arr f a).fmem, fmemBad := bad } := by
  unfold State.fmemPut
  extract_lets q t
  have ht : t.arr f a = _ := State.arr_setArr_same s f a _
  split
  · next m _ =>
    refine ⟨spPut (fun _ => 0) (t.arr f a).fmemBad (off / 4) (m % 2 ^ 39), ?_⟩
    rw [State.arr_congr (State.injDone_keeps _).1, State.arr_congr (State.noteInj_keeps _ _ _).1, State.modArr, State.arr_setArr_same, ht]
  · exact ⟨_, ht⟩

@[simp] theorem State.fmemPut_bytes (s : State) (f a off : Nat) (bytes : List Byte) : (s.fmemPut f a off bytes).bytes = s.bytes := by
  unfold State.fmemPut
  extract_lets q t
  split
  · rw [(State.injDone_keeps _).2, (State.noteInj_keeps _ _ _).2]
    rfl
  · rfl

/-- A load of one slot marks it. -/
theorem Arr.loadSlots_one (q : Arr) (n : Nat) : spGet (fun _ => 0) (q.loadSlots n 1) n = 1 := by
  unfold Arr.loadSlots
  rw [if_pos rfl]
  exact spGet_spPut_same (fun _ => 0) _ n 1

/-- A load of sixteen marks the first as head and the others as its body. -/
theorem Arr.loadSlots_sixteen (q : Arr) (n : Nat) {i : Nat} (h : i < 16) :
    spGet (fun _ => 0) (q.loadSlots n 16) (n + i) = if i = 0 then 2 else 3 := by
  unfold Arr.loadSlots
  dsimp only
  rw [if_neg (by decide)]
  exact spGet_foldl_range _ 16 n (fun i => if i = 0 then 2 else 3) _ h

/-- A LOAD_CB whose checks hold, as one update (R80). -/
theorem State.loadCb_ok {s u : State} {f a i n : Nat} {c : ArrCmd} {bytes : List Byte}
    (hn : s.arrNext f a 1 = some (i, c)) (hb : c.bad = false) (hs : fld c.w0 14 14 = 1 → fld c.w0 13 8 % 16 = 0)
    (h2 : cbClash (s.arr f a).queue 2 (cbSlots c) = false) (h1 : cbClash (s.arr f a).queue 1 (cbSlots c) = false)
    (hr : s.vread (some f) 1 (s.kspace f c.kslot).1 (s.kspace f c.kslot).2 (fld c.w1 47 0) (if fld c.w0 14 14 = 1 then 16384 else 1024) =
      (u, .ok bytes)) (hc : n = if fld c.w0 14 14 = 1 then 16 else 1) :
    s.loadCb f a = ((u.setArr f a { u.arr f a with slots := (u.arr f a).loadSlots (fld c.w0 13 8) n }).fmemPut
      f a (fld c.w0 13 8 * 1024) bytes).setCmd f a i (fun c => { c with phase := 2 }) := by
  unfold State.loadCb
  have hs' : (fld c.w0 14 14 == 1 && fld c.w0 13 8 % 16 != 0) = false := by
    by_cases h : fld c.w0 14 14 = 1
    · simp [hs h]
    · simp [h]
  simp only [hn, hb, hs', h2, h1, Bool.or_self, Bool.false_eq_true, if_false, beq_iff_eq, hr, hc]

/-- What the array and the memories hold after a LOAD_CB. -/
theorem State.loadCb_leaves (u : State) (f a i slot n : Nat) (bytes : List Byte) :
    let t := ((u.setArr f a { u.arr f a with slots := (u.arr f a).loadSlots slot n }).fmemPut f a (slot * 1024) bytes).setCmd f a i
      (fun c => { c with phase := 2 })
    (∀ k, k < bytes.length → spGet (fun _ => 0#8) (t.arr f a).fmem (slot * 1024 + k) = bytes.getD k 0#8) ∧
    (t.arr f a).slots = (u.arr f a).loadSlots slot n ∧
    (t.arr f a).queue = modAt (fun x => { x with phase := 2 }) (u.arr f a).queue i ∧ (t.arr f a).active = (u.arr f a).active ∧
    (t.arr f a).shadow = (u.arr f a).shadow ∧ (t.arr f a).acc = (u.arr f a).acc ∧ u.SameMem t := by
  intro t
  obtain ⟨bad, ha⟩ := State.fmemPut_arr (u.setArr f a { u.arr f a with slots := (u.arr f a).loadSlots slot n }) f a (slot * 1024) bytes
  rw [State.arr_setArr_same] at ha
  have hq : t.arr f a = _ := State.arr_setCmd_same _ f a i _
  rw [ha] at hq
  rw [hq]
  refine ⟨fun k h => spGet_foldl_range _ _ _ _ _ h, rfl, rfl, rfl, rfl, rfl, State.sameMem_of_bytes ?_⟩
  calc t.bytes = _ := rfl
    _ = _ := State.fmemPut_bytes _ f a _ bytes
    _ = u.bytes := rfl

/-- LOAD_CB (R80, R85). -/
theorem execLoadCb_ok (s : State) (f a i : Nat) (c : ArrCmd) (bytes : List Byte) :
    let r := s.vread (some f) 1 (s.kspace f c.kslot).1 (s.kspace f c.kslot).2 (fld c.w1 47 0)
       (if fld c.w0 14 14 = 1 then 16384 else 1024)
    s.arrNext f a 1 = some (i, c) → c.bad = false → (fld c.w0 14 14 = 1 → fld c.w0 13 8 % 16 = 0) →
    cbClash (s.arr f a).queue 2 (cbSlots c) = false → cbClash (s.arr f a).queue 1 (cbSlots c) = false →
    r.2 = .ok bytes → r.1.waited = false →
    ∃ t, exec (.loadCb f a) s = .next t ∧
      (∀ n, n < bytes.length → spGet (fun _ => 0#8) (t.arr f a).fmem (fld c.w0 13 8 * 1024 + n) = bytes.getD n 0#8) ∧
      (fld c.w0 14 14 = 0 → (t.arr f a).slot (fld c.w0 13 8) = 1) ∧
      (fld c.w0 14 14 = 1 → ∀ n, n < 16 → (t.arr f a).slot (fld c.w0 13 8 + n) = if n = 0 then 2 else 3) ∧
      (t.arr f a).queue = modAt (fun x => { x with phase := 2 }) (r.1.arr f a).queue i ∧ (t.arr f a).active = (r.1.arr f a).active ∧
      (t.arr f a).shadow = (r.1.arr f a).shadow ∧ (t.arr f a).acc = (r.1.arr f a).acc ∧ r.1.SameMem t := by
  intro r hn hb hs h2 h1 hok hw
  obtain ⟨cnt, hc⟩ : ∃ n, n = if fld c.w0 14 14 = 1 then 16 else 1 := ⟨_, rfl⟩
  have e := State.loadCb_ok (u := r.1) hn hb hs h2 h1 (by rw [← hok]) hc
  clear_value r
  obtain ⟨hbytes, hslots, rest⟩ := State.loadCb_leaves r.1 f a i (fld c.w0 13 8) cnt bytes
  refine ⟨_, congrArg Host.Outcome.next (State.attempt_eq e (((State.Keeps.refl (c := true) r.1).setArr.fmemPut.setCmd).waited rfl hw)),
    hbytes, fun h => ?_, fun h k hk => ?_, rest⟩
  · rw [if_neg (by omega)] at hc
    unfold Arr.slot
    rw [hslots, hc]
    exact Arr.loadSlots_one _ _
  · rw [if_pos h] at hc
    unfold Arr.slot
    rw [hslots, hc]
    exact Arr.loadSlots_sixteen _ _ hk

/-! ### Stationary loads -/

theorem any_eq_false {α : Type} {l : List α} {p : α → Bool} (h : ∀ x ∈ l, p x = false) : l.any p = false := by
  rw [List.any_eq_false]
  intro x hx
  rw [h x hx]
  exact Bool.false_ne_true

/-- LOAD_STAT (R63, R75, R82): the shadow set of the columns read. -/
theorem execLoadStat_ok (s : State) (f a i : Nat) (c : ArrCmd) (d : Tensor) (cols : List StatCol) :
    let sp := s.kspace f c.kslot
    let r := s.readTensor f sp.1 sp.2 (fld c.w1 47 0)
    let q := r.1.readCols f sp.1 sp.2 d c (depthOf (fld c.w0 9 8))
    s.arrNext f a 2 = some (i, c) → c.bad = false → cbClash (s.arr f a).queue 1 (statSlots c) = false →
    runningCmd (s.arr f a).queue 2 = none → r.2 = .ok d → d.bad 0 = false →
    (fmtIsVq d.fmt = true → ∀ n ∈ statSlots c, (r.1.arr f a).slot n = if fmtIsVq3 d.fmt then 2 else 1) →
    fmtStationary d.fmt = true → (d.sparse = true → fmtSparse d.fmt = true) → depthRow d.fmt d.sparse (depthOf (fld c.w0 9 8)) = true →
    q.2 = .ok cols → (∀ x ∈ cols, x.badNib d.sparse = false ∧ x.badWord d.fmt (q.1.arr f a).fmemBad = none) → q.1.waited = false →
    ∃ t, exec (.loadStat f a) s = .next t ∧ t = q.1.setArr f a { q.1.arr f a with
      shadow := some (mkSet d (depthOf (fld c.w0 9 8)) (q.1.arr f a).fmem cols), shadowDone := false,
      queue := modAt (fun x => { x with phase := 2 }) (q.1.arr f a).queue i } := by
  intro sp r q hn hb h1 hrun hok hd hvq hst hsp hdep hq hcols hw
  have hvq' : (fmtIsVq d.fmt && (statSlots c).any (fun n => (r.1.arr f a).slot n != if fmtIsVq3 d.fmt then 2 else 1)) = false := by
    cases hv : fmtIsVq d.fmt with
    | false => rfl
    | true => exact any_eq_false fun n hn => by simp [hvq hv n hn]
  have hfmt : (!fmtStationary d.fmt || (d.sparse && !fmtSparse d.fmt) || !depthRow d.fmt d.sparse (depthOf (fld c.w0 9 8))) = false := by
    rw [hst, hdep]
    cases hs : d.sparse with
    | false => rfl
    | true => rw [hsp hs]; rfl
  have hnib : cols.any (fun x => x.badNib d.sparse) = false := any_eq_false fun x hx => (hcols x hx).1
  have hword : cols.filterMap (fun x => x.badWord d.fmt (q.1.arr f a).fmemBad) = [] :=
    List.filterMap_eq_nil_iff.mpr fun x hx => (hcols x hx).2
  have hr : s.readTensor f sp.1 sp.2 (fld c.w1 47 0) = (r.1, .ok d) := by rw [← hok]
  have hrq : r.1.readCols f sp.1 sp.2 d c (depthOf (fld c.w0 9 8)) = (q.1, .ok cols) := by rw [← hq]
  have e : s.loadStat f a = q.1.setArr f a { q.1.arr f a with
      shadow := some (mkSet d (depthOf (fld c.w0 9 8)) (q.1.arr f a).fmem cols), shadowDone := false,
      queue := modAt (fun x => { x with phase := 2 }) (q.1.arr f a).queue i } := by
    unfold State.loadStat
    simp only [hn, hb, h1, hrun, Option.isSome_none, Bool.or_self, Bool.false_eq_true, if_false]
    rw [hr]
    dsimp only
    rw [hd, hvq', hfmt]
    simp only [Bool.false_eq_true, if_false]
    rw [hrq]
    dsimp only
    rw [hnib, hword]
    simp only [Bool.false_eq_true, if_false, List.head?_nil]
    rw [State.setCmd, State.modArr, State.arr_modArr_same, State.modArr, State.setArr_setArr _ _ _ (by intro h; cases congrArg Arr.shadow h)]
  exact ⟨_, congrArg Host.Outcome.next (State.attempt_eq e hw), rfl⟩

/-- SHADOW_LOAD_COMPLETE (R67). -/
theorem execShadowLoadComplete_ok (s : State) (f a i : Nat) (h : runningCmd (s.arr f a).queue 2 = some i) :
    ∃ t, exec (.shadowLoadComplete f a) s = .next t ∧ t = s.setArr f a { s.arr f a with
      queue := (s.arr f a).queue.eraseIdx i, doneTag := some (s.tagAt f a i), shadowDone := true } := by
  refine ⟨_, rfl, ?_⟩
  rw [h]
  dsimp only
  rw [State.finishCmd, h]
  dsimp only
  rw [State.modArr, State.arr_modArr_same, State.modArr, State.setArr_setArr _ _ _ (by intro h; cases congrArg Arr.doneTag h)]

/-- The cells and scales of a set made of columns. -/
theorem mkSet_reads (d : Tensor) (depth : Nat) (fmem : Sp Byte) (cols : List StatCol) {r c g : Nat} (hr : r < 128) (hc : c < 128) (hg : g < 16) :
    (mkSet d depth fmem cols).cell r c = (cols.getD c ⟨0, [], [], [], 0⟩).cell d.fmt d.sparse depth fmem r ∧
    (mkSet d depth fmem cols).scale c g = (cols.getD c ⟨0, [], [], [], 0⟩).scales.getD g 0x7F := by
  constructor
  · have h := spGet_filterMap_range 0 (fun k => (cols.getD (k % 128) ⟨0, [], [], [], 0⟩).cell d.fmt d.sparse depth fmem (k / 128)) 16384
      (j := r * 128 + c) (by omega)
    rw [show (r * 128 + c) % 128 = c by omega, show (r * 128 + c) / 128 = r by omega] at h
    unfold StatSet.cell mkSet
    dsimp only
    exact h
  · have h := spGet_filterMap_range 0x7F (fun k => (cols.getD (k / 16) ⟨0, [], [], [], 0⟩).scales.getD (k % 16) 0x7F) 2048
      (j := c * 16 + g) (by omega)
    rw [show (c * 16 + g) % 16 = g by omega, show (c * 16 + g) / 16 = c by omega] at h
    unfold StatSet.scale mkSet
    dsimp only
    exact h

/-- Settles O1. -/
theorem arrayLoads : Obligations.ArrayLoads := by
  refine ⟨⟨execLoadCb_ok, fun s f a i h => ⟨_, rfl, ?_⟩⟩, ⟨execLoadStat_ok, execShadowLoadComplete_ok⟩,
    fun d depth fmem cols r c g hr hc hg => mkSet_reads d depth fmem cols hr hc hg⟩
  rw [State.finishCmd, h]
  rfl

end Sys2Proof.Machine
end

section
/-!
PROOFS. Array passes (R50, R65–R70, R84–R86, R96, R97): the sums of a vector, passes, their markers and their faults.
-/

namespace Sys2Proof.Machine

set_option Elab.async false

/-! ### The sums of one vector -/

/-- An accumulator value written. -/
theorem State.accPut_arr (s : State) (f a e c : Nat) (v : W32) : ∃ bad, (s.accPut f a e c v).arr f a =
    { s.arr f a with acc := spPut (fun _ => 0#32) (s.arr f a).acc (e * 128 + c) v, accBad := bad } := by
  unfold State.accPut
  extract_lets q k t
  have ht : t.arr f a = _ := State.arr_setArr_same s f a _
  split
  · next m _ =>
    refine ⟨spPut (fun _ => 0) (t.arr f a).accBad k (m % 2 ^ 39), ?_⟩
    rw [State.arr_congr (State.injDone_keeps _).1, State.arr_congr (State.noteInj_keeps _ _ _).1, State.arr_modArr_same, ht]
  · exact ⟨_, ht⟩

@[simp] theorem State.accPut_bytes (s : State) (f a e c : Nat) (v : W32) : (s.accPut f a e c v).bytes = s.bytes := by
  unfold State.accPut
  extract_lets q k t
  split
  · rw [(State.injDone_keeps _).2, (State.noteInj_keeps _ _ _).2]
    rfl
  · rfl

/-- The sum a column takes of one vector, from the value it starts with (R50, R65, R70). -/
def accSum (st : StatSet) (str : Nat) (v : Vec) (trans : Bool) (c : Nat) (start : W32) : W32 :=
  (if trans then rowGroups st str v c else colGroups st str v c).foldl fAdd start

theorem State.accEntry_eq (s : State) (f a e : Nat) (st : StatSet) (str : Nat) (v : Vec) (trans acc : Bool) :
    s.accEntry f a e st str v trans acc = (List.range 128).foldl (fun s c =>
      s.accPut f a e c (accSum st str v trans c (if acc then (s.arr f a).accGet e c else 0#32))) s := rfl

/-- The columns of an entry one after the other: each takes its sum, from what the entry held before them all. -/
theorem State.accFold (f a e : Nat) (st : StatSet) (str : Nat) (v : Vec) (trans acc : Bool) (l : List Nat) (hl : ∀ c ∈ l, c < 128) (hn : l.Nodup) (s : State) :
    let u := l.foldl (fun s c => s.accPut f a e c (accSum st str v trans c (if acc then (s.arr f a).accGet e c else 0#32))) s
    (∀ col ∈ l, (u.arr f a).accGet e col = accSum st str v trans col (if acc then (s.arr f a).accGet e col else 0#32)) ∧
    (∀ e' col, col < 128 → (e' ≠ e ∨ col ∉ l) → (u.arr f a).accGet e' col = (s.arr f a).accGet e' col) ∧
    (u.arr f a).active = (s.arr f a).active ∧ (u.arr f a).shadow = (s.arr f a).shadow ∧ (u.arr f a).queue = (s.arr f a).queue ∧ u.bytes = s.bytes := by
  induction l generalizing s with
  | nil => exact ⟨nofun, fun _ _ _ _ => rfl, rfl, rfl, rfl, rfl⟩
  | cons c l ih =>
    rw [List.nodup_cons] at hn
    have hc := hl c List.mem_cons_self
    obtain ⟨bad, ha⟩ := s.accPut_arr f a e c (accSum st str v trans c (if acc then (s.arr f a).accGet e c else 0#32))
    have hb := s.accPut_bytes f a e c (accSum st str v trans c (if acc then (s.arr f a).accGet e c else 0#32))
    rw [List.foldl_cons]
    generalize s.accPut f a e c (accSum st str v trans c (if acc then (s.arr f a).accGet e c else 0#32)) = s1 at ha hb ⊢
    obtain ⟨hin, hout, hact, hsh, hq, hbytes⟩ := ih (fun x hx => hl x (List.mem_cons_of_mem c hx)) hn.2 s1
    have hget e' col : (s1.arr f a).accGet e' col = if e' * 128 + col = e * 128 + c then
        accSum st str v trans c (if acc then (s.arr f a).accGet e c else 0#32) else (s.arr f a).accGet e' col := by
      unfold Arr.accGet
      rw [ha]
      exact spGet_spPut _ _ _ _ _
    refine ⟨fun col hcol => ?_, fun e' col h128 h => ?_, hact.trans (by rw [ha]), hsh.trans (by rw [ha]), hq.trans (by rw [ha]), hbytes.trans hb⟩
    · rcases List.mem_cons.mp hcol with rfl | hcol
      · rw [hout e col hc (.inr hn.1), hget, if_pos rfl]
      · have h128 := hl col (List.mem_cons_of_mem c hcol)
        have hne : col ≠ c := fun k => hn.1 (k ▸ hcol)
        rw [hin col hcol, hget, if_neg (show ¬ e * 128 + col = e * 128 + c by omega)]
    · have hne : e' ≠ e ∨ col ≠ c := h.imp id fun k k' => k (k' ▸ List.mem_cons_self)
      rw [hout e' col h128 (h.imp id fun k k' => k (List.mem_cons_of_mem c k')), hget, if_neg (show ¬ e' * 128 + col = e * 128 + c by omega)]

theorem State.accEntry_reads (s : State) (f a e : Nat) (st : StatSet) (str : Nat) (v : Vec) (trans acc : Bool) :
    let u := s.accEntry f a e st str v trans acc
    (∀ col, col < 128 → (u.arr f a).accGet e col = (if trans then rowGroups st str v col else colGroups st str v col).foldl fAdd
      (if acc then (s.arr f a).accGet e col else 0#32)) ∧
    (∀ e' col, e' ≠ e → col < 128 → (u.arr f a).accGet e' col = (s.arr f a).accGet e' col) ∧
    (u.arr f a).active = (s.arr f a).active ∧ (u.arr f a).shadow = (s.arr f a).shadow ∧ (u.arr f a).queue = (s.arr f a).queue ∧ s.SameMem u := by
  intro u
  obtain ⟨hin, hout, hact, hsh, hq, hb⟩ := State.accFold f a e st str v trans acc (List.range 128) (fun c hc => List.mem_range.mp hc)
    List.nodup_range s
  exact ⟨fun col hcol => hin col (List.mem_range.mpr hcol), fun e' col he hcol => hout e' col hcol (.inl he), hact, hsh, hq,
    State.sameMem_of_bytes hb⟩

/-! ### Passes -/

/-- The vectors of a pass that streams, one after the other. -/
theorem State.passVecs_streams {s0 u : State} {f a i : Nat} {c : ArrCmd} {t : StatSet} {d : Tensor} {n : Nat} {s : State} {m : Nat}
    (h : s.Streams f a c t d n m u) : s.passVecs s0 f a i c t d n m = u.finishCmd f a 3 := by
  induction n generalizing s m with
  | zero =>
    obtain rfl : u = s := h
    rfl
  | succ n ih =>
    obtain ⟨s1, v, hread, hbad, hrest⟩ := h
    have hb : (if fld c.w0 8 8 = 1 then (s1.arr f a).badCol (fld c.w3 25 16 + m) else none) = none := by
      split
      · next h => exact hbad h
      · rfl
    rw [State.passVecs]
    simp only [beq_iff_eq, hread, hb]
    exact ih hrest

/-- A pass that reaches its array (R66, R68, R84): the swap its marker asks for, then its vectors. -/
theorem State.passRun_streams {s s0 u : State} {f a i : Nat} {c : ArrCmd} {d : Tensor} {st : StatSet}
    (hset : ((if fld c.w0 10 10 = 1 then s.modArr f a (fun q => { q with active := q.shadow, shadow := none, shadowDone := false }) else s).arr f a).active =
      some st)
    (h : ((if fld c.w0 10 10 = 1 then s.modArr f a (fun q => { q with active := q.shadow, shadow := none, shadowDone := false }) else s).setCmd f a i
      (fun x => { x with phase := 2 })).Streams f a c st d (fld c.w3 15 0) 0 u) :
    s.passRun s0 f a i c d none = u.finishCmd f a 3 := by
  unfold State.passRun
  dsimp only
  rw [State.arr_setCmd_same]
  dsimp only
  rw [hset]
  exact State.passVecs_streams h

/-- What a pass checks before it runs or waits (R76, R96): the state and the descriptor after its read. -/
structure State.PassOk (s : State) (f a i : Nat) (c : ArrCmd) (u : State) (d : Tensor) (st : StatSet) : Prop where
  next : s.arrNext f a 3 = some (i, c)
  fresh : c.phase = 0
  good : c.bad = false
  range : passRange c = false
  aligned : fld c.w1 47 0 % 64 = 0
  read : s.readTensor f (s.kspace f c.kslot).1 (s.kspace f c.kslot).2 (fld c.w1 47 0) = (u, .ok d)
  set : (if fld c.w0 10 10 = 1 then (u.arr f a).shadow else (u.arr f a).active) = some st
  desc : d.bad 1 = false
  vectors : fld c.w2 31 0 + fld c.w3 15 0 ≤ d.vectors
  streamed : fmtStreamed d.fmt = true
  row : streamRow st d.fmt = true
  trans : fld c.w0 9 9 = 1 → transBad st = false

theorem State.pass_ok {s u : State} {f a i stall : Nat} {upset : Option Nat} {c : ArrCmd} {d : Tensor} {st : StatSet} (h : s.PassOk f a i c u d st) :
    s.pass f a stall upset = if fld c.w0 10 10 = 1 ∧ (u.arr f a).shadowDone = false then u.keepDesc f a i d 1
      else if drainWaits (u.arr f a).queue c then s else (u.entryStall f a c stall).passRun s f a i c d upset := by
  obtain ⟨hn, hp, hb, hr, hal, hread, hset, hd, hv, hf, hrow, htr⟩ := h
  have htr' : (decide (fld c.w0 9 9 = 1) && transBad st) = false := by
    by_cases h : fld c.w0 9 9 = 1
    · rw [htr h, Bool.and_false]
    · simp [h]
  have hv' : ¬ fld c.w2 31 0 + fld c.w3 15 0 > d.vectors := by omega
  unfold State.pass
  simp only [hn, hp, hb, hr, hal, Nat.zero_ne_one, if_false, Bool.false_eq_true, bne_self_eq_false, Bool.or_self, hread, hd, hv', decide_false,
    hf, Bool.not_true, beq_iff_eq, hset, hrow, htr', Bool.and_eq_true, Bool.not_eq_true']

/-- A pass that runs and streams its vectors. -/
theorem execPass_runs (s : State) (f a i stall : Nat) (c : ArrCmd) (d : Tensor) (st : StatSet) (u : State) :
    let r := s.readTensor f (s.kspace f c.kslot).1 (s.kspace f c.kslot).2 (fld c.w1 47 0)
    let s1 := r.1.entryStall f a c stall
    let s2 := if fld c.w0 10 10 = 1 then s1.modArr f a (fun q => { q with active := q.shadow, shadow := none, shadowDone := false }) else s1
    s.arrNext f a 3 = some (i, c) → c.phase = 0 → c.bad = false → passRange c = false → fld c.w1 47 0 % 64 = 0 → r.2 = .ok d →
    (if fld c.w0 10 10 = 1 then (r.1.arr f a).shadow else (r.1.arr f a).active) = some st → d.bad 1 = false →
    fld c.w2 31 0 + fld c.w3 15 0 ≤ d.vectors → fmtStreamed d.fmt = true → streamRow st d.fmt = true →
    (fld c.w0 9 9 = 1 → transBad st = false) → (fld c.w0 10 10 = 1 → (r.1.arr f a).shadowDone = true) →
    drainWaits (r.1.arr f a).queue c = false →
    (s2.setCmd f a i (fun x => { x with phase := 2 })).Streams f a c st d (fld c.w3 15 0) 0 u → (u.finishCmd f a 3).waited = false →
    ∃ t, exec (.pass f a stall none) s = .next t ∧ t = u.finishCmd f a 3 := by
  intro r s1 s2 hn hp hb hr hal hok hset hd hv hf hrow htr hdone hdr hst hw
  have e := State.pass_ok (stall := stall) (upset := none) ⟨hn, hp, hb, hr, hal, by rw [← hok], hset, hd, hv, hf, hrow, htr⟩
  have harr : s1.arr f a = r.1.arr f a := State.arr_congr (by unfold s1 State.entryStall; split <;> simp) f a
  rw [if_neg (fun h => by rw [hdone h.1] at h; exact Bool.noConfusion h.2), hdr, if_neg Bool.false_ne_true] at e
  rw [State.passRun_streams (u := u) ?_ hst] at e
  · exact ⟨_, congrArg Host.Outcome.next (State.attempt_eq e hw), rfl⟩
  · rw [← hset]
    split
    · rw [State.arr_modArr_same, harr]
    · rw [harr]

/-- A pass with a marker over a set not yet complete keeps its descriptor and waits (R68, R77). -/
theorem execPass_waits (s : State) (f a i stall : Nat) (upset : Option Nat) (c : ArrCmd) (d : Tensor) (st : StatSet) :
    let r := s.readTensor f (s.kspace f c.kslot).1 (s.kspace f c.kslot).2 (fld c.w1 47 0)
    s.arrNext f a 3 = some (i, c) → c.phase = 0 → c.bad = false → passRange c = false → fld c.w1 47 0 % 64 = 0 →
    r.2 = .ok d → fld c.w0 10 10 = 1 → (r.1.arr f a).shadow = some st → d.bad 1 = false →
    fld c.w2 31 0 + fld c.w3 15 0 ≤ d.vectors → fmtStreamed d.fmt = true → streamRow st d.fmt = true →
    (fld c.w0 9 9 = 1 → transBad st = false) → (r.1.arr f a).shadowDone = false → r.1.waited = false →
    ∃ t, exec (.pass f a stall upset) s = .next t ∧
      t = r.1.setArr f a { r.1.arr f a with queue := modAt (fun x => { x with phase := 1, desc := d.w }) (r.1.arr f a).queue i } := by
  intro r hn hp hb hr hal hok hsw hset hd hv hf hrow htr hdone hw
  have e := State.pass_ok (stall := stall) (upset := upset) ⟨hn, hp, hb, hr, hal, by rw [← hok], by rw [if_pos hsw]; exact hset, hd, hv, hf, hrow, htr⟩
  rw [if_pos ⟨hsw, hdone⟩] at e
  exact ⟨_, congrArg Host.Outcome.next (State.attempt_eq e hw), rfl⟩

/-- SWAP_MARKER_RELEASE (R68). -/
theorem execSwapMarkerRelease_runs (s : State) (f a i held stall : Nat) (c : ArrCmd) (st : StatSet) (u : State) :
    let s1 := (s.radd (Fd.FRD_ARR_STAT_SWAP_STALL f a) held).entryStall f a c stall
    let s2 := if fld c.w0 10 10 = 1 then s1.modArr f a (fun q => { q with active := q.shadow, shadow := none, shadowDone := false }) else s1
    s.arrNext f a 3 = some (i, c) → c.phase = 1 → (s.arr f a).shadowDone = true → drainWaits (s.arr f a).queue c = false →
    (s2.arr f a).active = some st →
    (s2.setCmd f a i (fun x => { x with phase := 2 })).Streams f a c st ⟨c.desc⟩ (fld c.w3 15 0) 0 u → (u.finishCmd f a 3).waited = false →
    ∃ t, exec (.swapMarkerRelease f a held stall none) s = .next t ∧ t = u.finishCmd f a 3 := by
  intro s1 s2 hn hp hdone hdr hset hst hw
  have e : s.swapRelease f a held stall none = u.finishCmd f a 3 := by
    unfold State.swapRelease
    simp only [hn, hp, hdone, hdr, decide_true, Bool.not_false, Bool.and_self, if_true]
    exact State.passRun_streams hset hst
  exact ⟨_, congrArg Host.Outcome.next (State.attempt_eq e hw), rfl⟩

/-! ### Faults of array commands (R97) -/

/-- A fault against a kernel that runs aborts it with its reason, fences it, and leaves the other units of the Frond (R165). -/
theorem State.faultKernelI_running {s : State} {f k : Nat} {q : Kernel} (hk : s.krn f k = some q) (ha : q.abort = none) (reason : Nat) (loc : Loc) (inj : Bool) :
    let t := s.faultKernelI f k reason loc inj
    t.frd = (s.setKrn f k (some { q with abort := some reason })).frd ∧ FUnit.kernel f k ∈ t.flt.fences := by
  have hr := s.raise_same ⟨reason, loc, 1, .kernel f k, some (q.launch.ktag, q.launch.tenant), false, false, inj, false⟩
  unfold State.faultKernelI
  rw [hk]
  dsimp only
  generalize s.raise _ = u at hr ⊢
  have hu : u.krn f k = some q := by unfold State.krn; rw [hr.frd]; exact hk
  unfold State.markAbort
  rw [hu]
  dsimp only
  rw [ha]
  dsimp only
  unfold State.addFence
  split
  · next hc => exact ⟨by unfold State.setKrn; rw [hr.frd], by simpa using hc⟩
  · exact ⟨by unfold State.setKrn; rw [hr.frd], List.mem_cons_self⟩

@[simp] theorem State.noteTag_frd (s s0 : State) (tag : Nat) : (s.noteTag s0 tag).frd = s.frd ∧ (s.noteTag s0 tag).flt.fences = s.flt.fences := by
  unfold State.noteTag
  split <;> exact ⟨rfl, rfl⟩

theorem State.krn_congr {s t : State} (h : t.frd = s.frd) (f k : Nat) : t.krn f k = s.krn f k := by unfold State.krn; rw [h]

/-- A cell that fails its parity as a pass uses it (R86, R96). -/
theorem State.passRun_upset {s s0 : State} {f a i x k : Nat} {c : ArrCmd} {d : Tensor} {st : StatSet} {q : Kernel}
    (hsw : fld c.w0 10 10 = 0) (hset : (s.arr f a).active = some st) (hc : c.kslot = k) (hk : s.krn f k = some q) (ha : q.abort = none) :
    let t := s.passRun s0 f a i c d (some x)
    (t.arr f a).active = none ∧ (t.arr f a).test = some (0x10 + x / 1024 % 16) ∧ t.krn f k = some { q with abort := some 0x0107 } ∧ s.Keeps true t := by
  subst hc
  have hne : ¬ fld c.w0 10 10 = 1 := by omega
  unfold State.passRun
  rw [if_neg hne]
  dsimp only
  rw [State.arr_setCmd_same]
  dsimp only
  rw [hset]
  dsimp only
  rw [State.arr_modArr_same]
  refine ⟨rfl, rfl, ?_, (State.Keeps.refl s).setCmd.arrFault.modArr⟩
  unfold State.arrFault
  generalize hs2 : ((s.setCmd f a i (fun c => { c with phase := 2 })).modArr f a (fun p => p.discard (dropFrom p.queue i c.kslot))) = s2
  have h2 : s2.krn f c.kslot = some q := by rw [← hs2]; exact hk
  rw [State.modArr]
  show State.krn (State.noteTag _ _ _) f c.kslot = _
  rw [State.krn_congr (State.noteTag_frd _ _ _).1, State.krn_congr (State.faultKernelI_running h2 ha 0x0107 (cellLoc f a x) false).1]
  exact State.krn_setKrn_same _ _ _ _

/-- A pass over a cell that fails its parity (R96). -/
theorem execPass_upset (s : State) (f a i stall x k : Nat) (c : ArrCmd) (d : Tensor) (st : StatSet) (q : Kernel) :
    let r := s.readTensor f (s.kspace f c.kslot).1 (s.kspace f c.kslot).2 (fld c.w1 47 0)
    s.arrNext f a 3 = some (i, c) → c.phase = 0 → c.bad = false → passRange c = false → fld c.w1 47 0 % 64 = 0 → r.2 = .ok d →
    fld c.w0 10 10 = 0 → (r.1.arr f a).active = some st → d.bad 1 = false → fld c.w2 31 0 + fld c.w3 15 0 ≤ d.vectors →
    fmtStreamed d.fmt = true → streamRow st d.fmt = true → fld c.w0 9 9 = 0 → drainWaits (r.1.arr f a).queue c = false → c.kslot = k →
    r.1.krn f k = some q → q.abort = none → r.1.waited = false →
    ∃ t, exec (.pass f a stall (some x)) s = .next t ∧ (t.arr f a).active = none ∧ (t.arr f a).test = some (0x10 + x / 1024 % 16) ∧
      t.krn f k = some { q with abort := some 0x0107 } := by
  intro r hn hp hb hr hal hok hsw hset hd hv hf hrow htr hdr hc hk ha hw
  have hne : ¬ fld c.w0 10 10 = 1 := by omega
  have e := State.pass_ok (stall := stall) (upset := some x)
    ⟨hn, hp, hb, hr, hal, by rw [← hok], by rw [if_neg hne]; exact hset, hd, hv, hf, hrow, fun h => by omega⟩
  rw [if_neg (fun h => hne h.1), hdr, if_neg Bool.false_ne_true] at e
  have hfrd : (r.1.entryStall f a c stall).frd = r.1.frd := by unfold State.entryStall; split <;> simp
  obtain ⟨hact, htest, hkrn, hcalm⟩ := State.passRun_upset (s0 := s) (i := i) (d := d) (x := x) hsw ((State.arr_congr hfrd f a).symm ▸ hset) hc
    ((State.krn_congr hfrd f k).symm ▸ hk) ha
  exact ⟨_, congrArg Host.Outcome.next (State.attempt_eq e ((State.Keeps.refl r.1).entryStall.trans hcalm |>.waited rfl hw)), hact, htest, hkrn⟩

/-- Settles O2. -/
theorem arrayPasses : Obligations.ArrayPasses := by
  refine ⟨⟨execPass_runs, execPass_waits, execSwapMarkerRelease_runs⟩, State.accEntry_reads, fun s f a i h => ?_, execPass_upset⟩
  rw [State.finishCmd, h]
  rfl

end Sys2Proof.Machine
end

section
/-!
PROOFS. What an access to memory leaves alone: the kernels and arrays of the Fronds and the units apart from memory.
-/

namespace Sys2Proof.Machine

set_option Elab.async false

/-! ### What an access to memory leaves alone

An access may correct errors, fill and empty lines, cache a translation and report what it met; the kernels and arrays of the Fronds and the units apart from
memory stay as they are. -/

/-- What an access leaves of a Frond: all but its count of idleness and its corrected words, and a translation also but its cached translations. -/
def Frond.steady (q : Frond) (cached : Bool := false) : Frond :=
  { q with idleFrom := 0, lsCorr := 0, tlb := if cached then q.tlb else [], walk := if cached then q.walk else [], asp := if cached then q.asp else [] }

theorem Frond.steady_lsCorr (q : Frond) (cd : Bool) (n : Nat) : Frond.steady { q with lsCorr := n } cd = q.steady cd := rfl

/-- The pieces no access to memory touches; where a translation is part of the access, but for what is cached of translations. -/
def State.corps (s : State) (cached : Bool := false) : Part × Nat × List Instr × FrdState × (Nat → Frond) × (Sp Ring × SesState × SorState × FabState × SecState × PwrState × ThmState × BootState × FwuState × ConState × PnwState) :=
  (s.part, s.clock, s.pending, { s.frd with frd := [] }, (fun f => (s.fr f).steady cached), s.rng, s.ses, s.sor, s.fab, s.sec, s.pwr, s.thm, s.boot, s.fwu, s.con, s.pnw)

section
variable {cd : Bool} (s : State)

theorem State.foldl_corps {α : Type} {g : State → α → State} (hg : ∀ u x, (g u x).corps cd = u.corps cd) (l : List α) : (l.foldl g s).corps cd = s.corps cd :=
  foldl_keeps (p := fun u => u.corps cd = s.corps cd) g (fun u x h => (hg u x).trans h) l rfl

theorem State.foldl_fst_corps {α β : Type} {g : State × β → α → State × β} (hg : ∀ q x, (g q x).1.corps cd = q.1.corps cd) (l : List α) (p : State × β) :
    (l.foldl g p).1.corps cd = p.1.corps cd :=
  foldl_keeps (p := fun q : State × β => q.1.corps cd = p.1.corps cd) g (fun q x h => (hg q x).trans h) l rfl

/-- Work on the pieces beside the corps. -/
theorem State.units_corps {free' waited' regs' mem' thl' msc' pil' hpt' ldg' flt'} : State.corps (cached := cd) { s with free := free', waited := waited', regs := regs', mem := mem', thl := thl', msc := msc', pil := pil', hpt := hpt', ldg := ldg', flt := flt' } = s.corps cd := (rfl)

@[simp] theorem State.rset_corps (f : Fd) (v : Nat) : (s.rset f v).corps cd = s.corps cd := (rfl)
@[simp] theorem State.radd_corps (f : Fd) (k : Nat) : (s.radd f k).corps cd = s.corps cd := (rfl)
@[simp] theorem State.rbit_corps (f : Fd) (i : Nat) (b : Bool) : (s.rbit f i b).corps cd = s.corps cd := (rfl)

theorem State.modFr_corps (f : Nat) (g : Frond → Frond) (hg : ∀ q, (g q).steady cd = q.steady cd) : (s.modFr f g).corps cd = s.corps cd := by
  have h : (fun i => ((s.modFr f g).fr i).steady cd) = fun i => (s.fr i).steady cd := by
    funext i
    unfold State.modFr
    by_cases hi : i = f
    · subst hi
      rw [State.fr_setFr_same, hg]
    · rw [State.fr_setFr_ne _ _ _ _ hi]
  unfold State.corps
  rw [h]
  rfl

@[simp] theorem State.setWay_corps (sl set way : Nat) (v : CLine) : (s.setWay sl set way v).corps cd = s.corps cd := (rfl)
@[simp] theorem State.modWay_corps (sl set way : Nat) (g : CLine → CLine) : (s.modWay sl set way g).corps cd = s.corps cd := (rfl)
@[simp] theorem State.plruUse_corps (sl set way : Nat) : (s.plruUse sl set way).corps cd = s.corps cd := (rfl)
@[simp] theorem State.setTagBad_corps (k v : Nat) : (s.setTagBad k v).corps cd = s.corps cd := (rfl)
@[simp] theorem State.dropInj_corps (c k : Nat) : (s.dropInj c k).corps cd = s.corps cd := (rfl)
@[simp] theorem State.bgUse_corps (key : Nat) : (s.bgUse key).corps cd = s.corps cd := (rfl)
@[simp] theorem State.thlUse_corps (o : Nat) : (s.thlUse o).corps cd = s.corps cd := (rfl)
@[simp] theorem State.noteFills_corps (pa len : Nat) : (s.noteFills pa len).corps cd = s.corps cd := (rfl)
@[simp] theorem State.setWaited_corps : s.setWaited.corps cd = s.corps cd := (rfl)

@[simp] theorem State.noteInj_corps (c k : Nat) : (s.noteInj c k).corps cd = s.corps cd := by
  unfold State.noteInj
  split <;> rfl

@[simp] theorem State.keepInj_corps (b : Bool) (c k : Nat) : (s.keepInj b c k).corps cd = s.corps cd := by
  unfold State.keepInj
  split <;> simp

@[simp] theorem State.clearInj_corps (b : Bool) (c k : Nat) : (s.clearInj b c k).corps cd = s.corps cd := by
  unfold State.clearInj
  split <;> simp

@[simp] theorem State.injDone_corps : s.injDone.corps cd = s.corps cd := by
  unfold State.injDone
  split <;> simp

@[simp] theorem State.injTransfer_corps (l : Loc) : (s.injTransfer l).corps cd = s.corps cd := by
  unfold State.injTransfer
  split <;> simp

/-! #### Reports -/

theorem State.corps_of_sameBut {t : State} (h : s.SameBut t) : t.corps cd = s.corps cd := by
  unfold State.corps
  have hf : (fun f => (t.fr f).steady cd) = fun f => (s.fr f).steady cd := by
    funext f
    unfold State.fr
    rw [h.frd]
  rw [hf, h.part, h.clock, h.pending, h.frd, h.rng, h.ses, h.sor, h.fab, h.sec, h.pwr, h.thm, h.boot, h.fwu, h.con, h.pnw]

@[simp] theorem State.raise_corps (a : RecArg) : (s.raise a).corps cd = s.corps cd := s.corps_of_sameBut (s.raise_same a)
@[simp] theorem State.msi_corps (v : Nat) : (s.msi v).corps cd = s.corps cd := s.corps_of_sameBut (s.msi_same v)
@[simp] theorem State.hostWrite_corps (a : Nat) (l : List Byte) : (s.hostWrite a l).1.corps cd = s.corps cd := s.corps_of_sameBut (s.hostWrite_same a l)

@[simp] theorem State.countHostFail_corps (why : Nat) : (s.countHostFail why).corps cd = s.corps cd := by
  unfold State.countHostFail
  split <;> simp

@[simp] theorem State.capBump_corps : s.capBump.corps cd = s.corps cd := by
  unfold State.capBump
  dsimp only
  split
  · rw [State.msi_corps]
    rfl
  · rfl

@[simp] theorem State.distBump_corps : s.distBump.corps cd = s.corps cd := by
  unfold State.distBump
  dsimp only
  rw [State.capBump_corps]
  split
  · rw [State.msi_corps]
    rfl
  · rfl

@[simp] theorem State.addFence_corps (u : FUnit) : (s.addFence u).corps cd = s.corps cd := by
  unfold State.addFence
  split <;> rfl

@[simp] theorem State.markLost_corps : s.markLost.corps cd = s.corps cd := by
  refine s.foldl_corps (fun u n => ?_) _
  split <;> simp

@[simp] theorem State.fenceChannelNow_corps (c : Nat) : (s.fenceChannelNow c).corps cd = s.corps cd := by
  unfold State.fenceChannelNow
  simp

/-! #### Thallus and channels -/

@[simp] theorem State.thlCorrected_corps (o : Nat) (inj : Bool) : (s.thlCorrected o inj).corps cd = s.corps cd := by
  unfold State.thlCorrected
  split
  · rfl
  · exact s.units_corps

@[simp] theorem State.thlTouch1_corps (o : Nat) : (s.thlTouch1 o).corps cd = s.corps cd := by
  unfold State.thlTouch1
  split
  · rfl
  · split
    · rfl
    · dsimp only
      rw [State.thlCorrected_corps, State.radd_corps, State.dropInj_corps]
      exact s.units_corps
    · exact s.radd_corps _ _

@[simp] theorem State.thlTouch_corps (o len : Nat) : (s.thlTouch o len).corps cd = s.corps cd :=
  (State.foldl_corps _ (fun u i => u.thlTouch1_corps (o + i)) _).trans (s.thlUse_corps o)

@[simp] theorem State.thlPoke1_corps (o : Nat) (b : Byte) : (s.thlPoke1 o b).corps cd = s.corps cd := by
  unfold State.thlPoke1
  extract_lets t
  split
  · rw [State.injDone_corps, State.noteInj_corps]
    rfl
  · rfl

theorem State.thlPokes_corps (o : Nat) (l : List Byte) : (s.thlPokes o l).corps cd = s.corps cd := by
  induction l generalizing s o with
  | nil => rfl
  | cons b l ih => exact (ih _ _).trans (s.thlPoke1_corps o b)

@[simp] theorem State.thlPoke_corps (o : Nat) (l : List Byte) : (s.thlPoke o l).corps cd = s.corps cd := State.thlPokes_corps _ o l

@[simp] theorem State.rowIsDue_corps (ch a : Nat) : (s.rowIsDue ch a).corps cd = s.corps cd := by
  unfold State.rowIsDue
  split <;> rfl

@[simp] theorem State.rowCorrected_corps (ch a : Nat) : (s.rowCorrected ch a).corps cd = s.corps cd := by
  unfold State.rowCorrected
  extract_lets l pil t
  have ht : t.corps cd = s.corps cd := s.units_corps
  clear_value t
  split
  · rw [State.rowIsDue_corps, ht]
  · exact ht

@[simp] theorem State.chanTouch_corps (ch a : Nat) : (s.chanTouch ch a).corps cd = s.corps cd := by
  unfold State.chanTouch
  extract_lets k inj
  split
  · rfl
  · split
    · rfl
    · split
      · rw [State.radd_corps, State.dropInj_corps]
        exact s.units_corps
      · rw [State.rowCorrected_corps, State.radd_corps, State.dropInj_corps]
        exact s.units_corps
    · split
      · exact s.radd_corps _ _
      · exact (State.rowIsDue_corps _ _ _).trans (s.radd_corps _ _)

@[simp] theorem State.chanPutSector_corps (ch a : Nat) (data : List Byte) (poison : Bool) : (s.chanPutSector ch a data poison).corps cd = s.corps cd := by
  unfold State.chanPutSector
  extract_lets k t
  split
  · rw [State.injDone_corps, State.noteInj_corps]
    rfl
  · rfl

@[simp] theorem State.chanMerge_corps (ch a : Nat) (bytes : List Byte) : (s.chanMerge ch a bytes).corps cd = s.corps cd := by
  unfold State.chanMerge
  extract_lets k unc base old new inj poisoned t
  have ht : t.corps cd = s.corps cd := s.chanTouch_corps ch a
  split
  · simpa using ht
  · split <;> simpa using ht

/-! #### Lines -/

@[simp] theorem State.writeBack_corps (sl set way : Nat) : (s.writeBack sl set way).corps cd = s.corps cd := by
  unfold State.writeBack
  extract_lets c pa
  split
  · rfl
  · refine s.foldl_corps (fun u i => ?_) _
    dsimp only
    split <;> simp

@[simp] theorem State.forgetLine_corps (l : Nat) : (s.forgetLine l).corps cd = s.corps cd := s.foldl_corps (fun u i => u.dropInj_corps 8 (l * 4 + i)) _

@[simp] theorem State.evict_corps (sl set way : Nat) : (s.evict sl set way).corps cd = s.corps cd := by
  unfold State.evict
  extract_lets c s1 early s2
  have h2 : s2.corps cd = s.corps cd := by
    unfold s2
    split
    · exact s1.units_corps.trans (s.writeBack_corps sl set way)
    · exact s.writeBack_corps sl set way
  split
  · rw [State.forgetLine_corps, State.setWay_corps, h2]
  · rfl

@[simp] theorem State.tagInject_corps (sl k copy : Nat) : (s.tagInject sl k copy).corps cd = s.corps cd := by
  unfold State.tagInject
  split <;> simp

/-- The state of a pair. -/
theorem State.corps_of_eq {α : Type} {t : State} {p : State × α} {x : α} (h : p.1.corps cd = s.corps cd) (e : p = (t, x)) : t.corps cd = s.corps cd := by
  rw [← h, e]

@[simp] theorem State.allocLine_corps (sl set tag : Nat) : (s.allocLine sl set tag).1.corps cd = s.corps cd := by
  unfold State.allocLine
  split
  · simp
  · split
    · rfl
    · next w _ =>
      simp only [State.plruUse_corps, State.tagInject_corps, State.setTagBad_corps]
      exact (s.evict_corps sl set w)

@[simp] theorem State.fetchSector_corps (sl set way i ch a : Nat) : (s.fetchSector sl set way i ch a).corps cd = s.corps cd := by
  unfold State.fetchSector
  extract_lets c t
  split
  · rfl
  · split
    · exact s.chanTouch_corps ch _
    · rw [State.setWay_corps]
      exact s.chanTouch_corps ch _

@[simp] theorem State.demandFill_corps (pa : Nat) : (s.demandFill pa).corps cd = s.corps cd := by
  unfold State.demandFill
  split
  · rfl
  · dsimp only
    split
    · split
      · next e => rw [State.fetchSector_corps, State.corps_of_eq _ (State.allocLine_corps _ _ _ _) e, State.units_corps]
      · next e => rw [State.chanTouch_corps, State.corps_of_eq _ (State.allocLine_corps _ _ _ _) e, State.units_corps]
    · exact s.chanTouch_corps _ _

@[simp] theorem State.tagCheck_corps (pa : Nat) : (s.tagCheck pa).corps cd = s.corps cd := by
  unfold State.tagCheck
  split
  · rfl
  · extract_lets keys inj both t
    split
    · rfl
    · split
      · rfl
      · rw [State.fenceChannelNow_corps, State.raise_corps]
        rfl

@[simp] theorem State.sectorFix_corps (sl set way i : Nat) (offs : List Nat) : (s.sectorFix sl set way i offs).corps cd = s.corps cd := by
  refine s.foldl_corps (fun u j => ?_) _
  dsimp only
  split <;> simp

@[simp] theorem State.dramTouch_corps (pa len : Nat) : (s.dramTouch pa len).corps cd = s.corps cd := by
  unfold State.dramTouch
  split
  · rfl
  · dsimp only
    split
    · split
      · split
        · split <;> simp
        · simp
      · simp
    · simp

@[simp] theorem State.wayPoke_corps (ch set w i off pa : Nat) (bytes : List Byte) : (s.wayPoke ch set w i off pa bytes).corps cd = s.corps cd := by
  unfold State.wayPoke
  dsimp only
  split <;> simp

@[simp] theorem State.dramPoke_corps (pa : Nat) (bytes : List Byte) : (s.dramPoke pa bytes).corps cd = s.corps cd := by
  unfold State.dramPoke
  split
  · rfl
  · dsimp only
    split
    · split
      · simp
      · split
        · next e => rw [State.chanPutSector_corps, State.corps_of_eq _ (State.allocLine_corps _ _ _ _) e]
        · next e => rw [State.wayPoke_corps, State.corps_of_eq _ (State.allocLine_corps _ _ _ _) e]
    · simp

/-! #### Local stores and pieces -/

@[simp] theorem State.lsWakeDusk_corps (f : Nat) : (s.lsWakeDusk f).corps cd = s.corps cd := by
  unfold State.lsWakeDusk
  extract_lets t
  have ht : t.corps cd = s.corps cd := s.modFr_corps f (fun q => { q with idleFrom := s.clock }) (fun _ => rfl)
  clear_value t
  split
  · exact (t.rset_corps _ _).trans ht
  · exact ht

@[simp] theorem State.lsCount_corps (f o len : Nat) : (s.lsCount f o len).corps cd = s.corps cd := by
  unfold State.lsCount
  extract_lets ws
  clear_value ws
  split
  · rfl
  · exact s.modFr_corps f _ (fun q => q.steady_lsCorr cd _)

@[simp] theorem State.lsPutWord_corps (k : Nat) (bytes : List Byte) : (s.lsPutWord k bytes).corps cd = s.corps cd := by
  unfold State.lsPutWord
  extract_lets
  split
  · rw [State.injDone_corps, State.noteInj_corps]
    rfl
  · rfl

@[simp] theorem State.lsPoke_corps (f o : Nat) (bytes : List Byte) : (s.lsPoke f o bytes).1.corps cd = s.corps cd := by
  refine State.foldl_fst_corps (fun q x => ?_) _ (s, none)
  split <;> simp

@[simp] theorem State.aliasPoke_corps (f o win : Nat) (bytes : List Byte) : (s.aliasPoke f o win bytes).1.corps cd = s.corps cd := by
  unfold State.aliasPoke
  split
  · split <;> simp
  · rfl

@[simp] theorem State.bundleUse_corps (f pa : Nat) (wr : Bool) : (s.bundleUse f pa wr).corps cd = s.corps cd := by
  unfold State.bundleUse
  split
  · split
    · exact s.foldl_corps (fun u p => u.injTransfer_corps _) _
    · rfl
  · rfl

@[simp] theorem State.wiresOf_corps (who : Option Nat) (pa : Nat) (wr : Bool) : (s.wiresOf who pa wr).corps cd = s.corps cd := by
  unfold State.wiresOf
  split <;> simp

@[simp] theorem State.touchPiece_corps (pa len : Nat) : (s.touchPiece pa len).corps cd = s.corps cd := by
  unfold State.touchPiece
  split
  · rfl
  · split
    · simp
    · split
      · simp
      · rfl
    · simp
    · simp
    · rfl

@[simp] theorem State.touch_corps (pa len : Nat) : (s.touch pa len).corps cd = s.corps cd := by
  unfold State.touch
  exact s.foldl_corps (fun u (p : Nat × Nat) => u.touchPiece_corps p.1 p.2) _

@[simp] theorem State.tagReads_corps (pa len : Nat) : (s.tagReads pa len).corps cd = s.corps cd := by
  refine s.foldl_corps (fun u p => ?_) _
  split <;> simp

@[simp] theorem State.read_corps (pa len : Nat) : (s.read pa len).1.corps cd = s.corps cd := (State.touch_corps _ pa len).trans (s.tagReads_corps pa len)

@[simp] theorem State.pokePiece_corps (pa : Nat) (bytes : List Byte) : (s.pokePiece pa bytes).1.corps cd = s.corps cd := by
  unfold State.pokePiece
  split
  · rfl
  · split
    · dsimp only
      split <;> simp
    · next h _ =>
      split
      all_goals
        next e => exact s.corps_of_eq (s.hostWrite_corps h bytes) e
    · simp
    · simp
    · simp
    · rfl

@[simp] theorem State.write_corps (pa : Nat) (bytes : List Byte) : (s.write pa bytes).1.corps cd = s.corps cd := by
  unfold State.write
  split
  · rfl
  · refine State.foldl_fst_corps (fun q x => ?_) _ (s, none)
    split <;> simp

/-! #### Translations and virtual accesses -/

@[simp] theorem State.tableTouch_corps (a len : Nat) : (s.tableTouch a len).corps cd = s.corps cd := by
  unfold State.tableTouch
  split <;> simp

theorem State.walkTouch_corps (va n m j : Nat) : (s.walkTouch va n m j).corps cd = s.corps cd := by
  induction n generalizing s m j with
  | zero => rfl
  | succ n ih =>
    rw [State.walkTouch]
    split
    · simp
    · split
      · rw [ih]
        simp
      · simp

@[simp] theorem State.roomFor_corps {α : Type} (cap : Nat) (l : List α) : (s.roomFor cap l).1.corps cd = s.corps cd := by
  unfold State.roomFor
  split <;> rfl

@[simp] theorem State.captureXlate_corps (f agent asid va : Nat) (e : XErr) : (s.captureXlate f agent asid va e).corps cd = s.corps cd := by
  unfold State.captureXlate
  split <;> simp

@[simp] theorem State.holdFor_corps (who : Option Nat) : (s.holdFor who).corps cd = s.corps cd := by
  unfold State.holdFor
  split <;> rfl

@[simp] theorem State.xlate_corps (who : Option Nat) (asid tenant va : Nat) (need : Need) : (s.xlate who asid tenant va need).1.corps = s.corps := by
  unfold State.xlate
  extract_lets f q cachedAsp asp s1 hit
  have h1 : s1.corps = s.corps := by
    unfold s1
    split <;> simp
  clear_value s1 asp hit
  split
  · rfl
  · split
    · exact h1
    · exact h1
    · extract_lets s2 start found s3
      have h2 : s2.corps = s.corps := by
        unfold s2
        split
        · refine (s1.modFr_corps f _ ?_).trans h1
          exact fun _ => rfl
        · exact h1
      have h3 : s3.corps = s.corps := (s2.walkTouch_corps va _ _ _).trans h2
      clear_value s3 start
      clear_value s2
      split
      · exact h2
      · split
        · exact h2
        · cases hit with
          | some e => dsimp only; split <;> exact h2
          | none =>
            dsimp only
            split
            · exact h2
            · clear_value found
              split
              · exact h3
              · split
                · split
                  all_goals
                    dsimp only
                    split
                    · rw [State.modFr_corps]
                      · exact (State.foldl_fst_corps (fun q x => by exact q.1.roomFor_corps 256 q.2) _ _).trans ((State.roomFor_corps _ _ _).trans h3)
                      · exact fun _ => rfl
                    · exact h3
                · split
                  all_goals
                    dsimp only
                    split
                    · rw [State.modFr_corps]
                      · exact (State.foldl_fst_corps (fun q x => by exact q.1.roomFor_corps 256 q.2) _ _).trans ((State.roomFor_corps _ _ _).trans h3)
                      · exact fun _ => rfl
                    · exact h3

theorem State.vreadPiece_corps (who : Option Nat) (agent asid tenant va len : Nat) : (s.vreadPiece who agent asid tenant va len).1.corps = s.corps := by
  unfold State.vreadPiece
  split
  · next e =>
    have h := s.corps_of_eq (s.xlate_corps who asid tenant va .r) e
    split <;> simpa using h
  · next t pa _ e =>
    have h := s.corps_of_eq (s.xlate_corps who asid tenant va .r) e
    have hw : (t.wiresOf who pa false).corps = s.corps := by simpa using h
    split
    · simpa using h
    · split
      all_goals
        next e1 => exact s.corps_of_eq ((State.read_corps _ pa len).trans hw) e1

theorem State.vread_corps (who : Option Nat) (agent asid tenant va len : Nat) : (s.vread who agent asid tenant va len).1.corps = s.corps := by
  refine State.foldl_fst_corps (fun q x => ?_) _ (s, Except.ok [])
  split
  · rfl
  · split
    all_goals
      next e => exact q.1.corps_of_eq (q.1.vreadPiece_corps who agent asid tenant x.1 x.2) e

theorem State.vwritePiece_corps (who : Option Nat) (agent asid tenant va : Nat) (bytes : List Byte) :
    (s.vwritePiece who agent asid tenant va bytes).1.corps = s.corps := by
  unfold State.vwritePiece
  split
  · next e =>
    have h := s.corps_of_eq (s.xlate_corps who asid tenant va .w) e
    split <;> simpa using h
  · next t pa _ e =>
    have h := s.corps_of_eq (s.xlate_corps who asid tenant va .w) e
    have hw : (t.wiresOf who pa true).corps = s.corps := by simpa using h
    split
    · simpa using h
    · split
      all_goals
        next e1 => exact s.corps_of_eq ((State.write_corps _ pa bytes).trans hw) e1

theorem State.vwrite_corps (who : Option Nat) (agent asid tenant va : Nat) (bytes : List Byte) :
    (s.vwrite who agent asid tenant va bytes).1.corps = s.corps := by
  refine State.foldl_fst_corps (fun q x => ?_) _ (s, none)
  split
  · rfl
  · exact State.vwritePiece_corps _ _ _ _ _ _ _

theorem State.readTensor_corps (f asid tenant va : Nat) : (s.readTensor f asid tenant va).1.corps = s.corps := by
  unfold State.readTensor
  split
  all_goals
    next e => exact s.corps_of_eq (s.vread_corps (some f) 1 asid tenant va 64) e

/-! #### What the corps holds -/

variable {s}

/-- The Fronds' kernels, arrays, groups, threads and DMA channels are of the corps. -/
theorem State.frd_of_corps {t : State} (h : t.corps cd = s.corps cd) : { t.frd with frd := [] } = { s.frd with frd := [] } := by
  unfold State.corps at h
  exact congrArg (fun x => x.2.2.2.1) h

/-- A Frond's store buffer, its caches of data and instructions, its queues and its sleep are of the corps. -/
theorem State.steady_of_corps {t : State} (h : t.corps cd = s.corps cd) (f : Nat) : (t.fr f).steady cd = (s.fr f).steady cd := by
  unfold State.corps at h
  exact congrFun (congrArg (fun x => x.2.2.2.2.1) h) f

theorem State.krn_of_corps {t : State} (h : t.corps cd = s.corps cd) (f k : Nat) : t.krn f k = s.krn f k := by
  have hk := congrArg (fun x : FrdState => x.krn) (State.frd_of_corps h)
  dsimp only at hk
  unfold State.krn
  rw [hk]

theorem State.arr_of_corps {t : State} (h : t.corps cd = s.corps cd) (f a : Nat) : t.arr f a = s.arr f a := by
  have hk := congrArg (fun x : FrdState => x.arr) (State.frd_of_corps h)
  dsimp only at hk
  unfold State.arr
  rw [hk]

theorem State.kspace_of_corps {t : State} (h : t.corps cd = s.corps cd) (f k : Nat) : t.kspace f k = s.kspace f k := by
  unfold State.kspace
  rw [State.krn_of_corps h]

end

end Sys2Proof.Machine
end

section
/-!
PROOFS. Drains, pattern tests and timeouts of the arrays (R52–R57, R86, R88–R90, R96, R97).
-/

namespace Sys2Proof.Machine

set_option Elab.async false

/-! ### Drains -/

/-- The rows of a drain whose accesses succeed, one after the other. -/
theorem State.drainRows_drains {s0 u : State} {f a i : Nat} {c : ArrCmd} {d : Tensor} {bias : List W32} {n : Nat} {s : State} {m : Nat} {lanes : List Nat}
    (h : s.Drains f a c d bias n m lanes u) : s.drainRows s0 f a i c d bias n m lanes = u.setCmd f a i (fun c => { c with phase := 2 }) := by
  induction n generalizing s m lanes with
  | zero =>
    obtain rfl : u = s := h
    rfl
  | succ n ih =>
    obtain ⟨hbad, s2, s3, hcodes, hscales, hrest⟩ := h
    rw [State.drainRows]
    dsimp only
    rw [hbad]
    dsimp only
    rw [hcodes]
    dsimp only
    split at hscales
    · next hemp =>
      subst hscales
      rw [if_pos hemp]
      exact ih hrest
    · next hemp =>
      rw [if_neg hemp, hscales]
      exact ih hrest

/-- The bias of a drain read, and its rows. -/
theorem State.drainRun_drains {s s0 u : State} {f a i : Nat} {c : ArrCmd} {d : Tensor} {b : List Byte} :
    let sp := s.kspace f c.kslot
    let n := fld c.w0 47 40 + 1
    let w := if fld c.w0 15 15 = 1 then s.vread (some f) 1 sp.1 sp.2 (fld c.w3 47 0) (n * (if fld c.w0 17 16 = 0 then 4 else 2)) else (s, .ok [])
    w.2 = .ok b →
    w.1.Drains f a c d (if fld c.w0 15 15 = 1 then biasVals (fld c.w0 17 16) b n else List.replicate n 0#32) (fld c.w0 29 20 + 1) 0
      ((List.range n).map (laneSeed (fld c.w2 63 32))) u →
    s.drainRun s0 f a i c d = u.setCmd f a i (fun c => { c with phase := 2 }) := by
  intro sp n w hok hd
  unfold State.drainRun
  dsimp only
  rw [show (if fld c.w0 15 15 = 1 then s.vread (some f) 1 sp.1 sp.2 (fld c.w3 47 0) (n * (if fld c.w0 17 16 = 0 then 4 else 2)) else (s, .ok [])) =
    (w.1, .ok b) by rw [← hok]]
  exact State.drainRows_drains hd

/-- A drain as it starts (R88, R89). -/
theorem execDrain_starts (s u : State) (f a i : Nat) (c : ArrCmd) (d : Tensor) (b : List Byte) :
    let sp := s.kspace f c.kslot
    let r := s.readTensor f sp.1 sp.2 (fld c.w1 47 0)
    let n := fld c.w0 47 40 + 1
    let w := if fld c.w0 15 15 = 1 then r.1.vread (some f) 1 sp.1 sp.2 (fld c.w3 47 0) (n * (if fld c.w0 17 16 = 0 then 4 else 2)) else (r.1, .ok [])
    s.arrNext f a 4 = some (i, c) → stalledDrain (s.arr f a).queue = none → c.bad = false → fld c.w1 47 0 % 64 = 0 →
    fld c.w0 39 30 + fld c.w0 29 20 ≤ 1023 → drainIn (s.arr f a).queue (blocksOf (fld c.w0 39 30) (fld c.w0 29 20 + 1)) (2 ≤ ·) = false →
    r.2 = .ok d → d.bad 2 = false → d.fmt = fld c.w0 12 8 → n ≤ d.size0 → fld c.w0 29 20 + 1 ≤ d.rows → (fmtIsMx d.fmt = true → n % 32 = 0) →
    w.2 = .ok b →
    w.1.Drains f a c d (if fld c.w0 15 15 = 1 then biasVals (fld c.w0 17 16) b n else List.replicate n 0#32) (fld c.w0 29 20 + 1) 0
      ((List.range n).map (laneSeed (fld c.w2 63 32))) u → u.waited = false →
    ∃ t, exec (.drain f a) s = .next t ∧ t = u.setArr f a { u.arr f a with queue := modAt (fun x => { x with phase := 2 }) (u.arr f a).queue i } := by
  intro sp r n w hn hst hb hal hle hin hok hd hfmt hcol hrow hmx hw hdr hwt
  have hsp : r.1.kspace f c.kslot = sp := State.kspace_of_corps (s.readTensor_corps f sp.1 sp.2 _) f c.kslot
  have hshape : (d.bad 2 || d.fmt != fld c.w0 12 8 || decide (n > d.size0) || decide (fld c.w0 29 20 + 1 > d.rows)) = false := by
    rw [hd, hfmt]
    simpa using ⟨hcol, by omega⟩
  have hblk : (fmtIsMx (fld c.w0 12 8) && n % 32 != 0) = false := by
    rw [← hfmt]
    cases h : fmtIsMx d.fmt with
    | false => rfl
    | true => simp [hmx h]
  have e : s.drain f a = u.setCmd f a i (fun c => { c with phase := 2 }) := by
    unfold State.drain
    have hr : s.readTensor f (s.kspace f c.kslot).1 (s.kspace f c.kslot).2 (fld c.w1 47 0) = (r.1, .ok d) := by rw [← hok]
    have hfit : ¬ fld c.w0 39 30 + fld c.w0 29 20 > 1023 := by omega
    dsimp only
    rw [hst, ite_self]
    dsimp only
    rw [hn]
    dsimp only
    rw [hb, hal, decide_eq_false hfit, hin]
    simp only [Bool.false_eq_true, if_false, bne_self_eq_false, Bool.or_self]
    rw [hr]
    dsimp only
    rw [hshape, hblk]
    refine State.drainRun_drains (b := b) ?_ ?_
    · rw [hsp]
      exact hw
    · rw [hsp]
      exact hdr
  exact ⟨_, congrArg Host.Outcome.next (State.attempt_eq e hwt), rfl⟩

/-- A drain that was stalled on its writes begins again (R88). -/
theorem execDrain_resumes (s u : State) (f a i : Nat) (c : ArrCmd) (b : List Byte) :
    let sp := s.kspace f c.kslot
    let n := fld c.w0 47 40 + 1
    let w := if fld c.w0 15 15 = 1 then s.vread (some f) 1 sp.1 sp.2 (fld c.w3 47 0) (n * (if fld c.w0 17 16 = 0 then 4 else 2)) else (s, .ok [])
    s.arrReady f a = true → stalledDrain (s.arr f a).queue = some (i, c) → w.2 = .ok b →
    w.1.Drains f a c ⟨c.desc⟩ (if fld c.w0 15 15 = 1 then biasVals (fld c.w0 17 16) b n else List.replicate n 0#32) (fld c.w0 29 20 + 1) 0
      ((List.range n).map (laneSeed (fld c.w2 63 32))) u → u.waited = false →
    ∃ t, exec (.drain f a) s = .next t ∧ t = u.setArr f a { u.arr f a with queue := modAt (fun x => { x with phase := 2 }) (u.arr f a).queue i } := by
  intro sp n w hr hst hok hdr hwt
  have e : s.drain f a = u.setCmd f a i (fun c => { c with phase := 2 }) := by
    unfold State.drain
    dsimp only
    rw [if_pos hr, hst]
    exact State.drainRun_drains hok hdr
  exact ⟨_, congrArg Host.Outcome.next (State.attempt_eq e hwt), rfl⟩

/-! ### Tests and timeouts -/

@[simp] theorem State.msi_flt (s : State) (v : Nat) : (s.msi v).flt = s.flt := by
  unfold State.msi
  split <;> rfl

@[simp] theorem State.capBump_flt (s : State) : s.capBump.flt = s.flt := by
  unfold State.capBump
  dsimp only
  split
  · rw [State.msi_flt]
  · rfl

@[simp] theorem State.distBump_flt (s : State) : s.distBump.flt = s.flt := by
  unfold State.distBump
  dsimp only
  rw [State.capBump_flt]
  split
  · rw [State.msi_flt]
  · rfl

/-- A fence is then among the fences, with those there were. -/
theorem State.mem_addFence (s : State) (u v : FUnit) : v ∈ (s.addFence u).flt.fences ↔ v = u ∨ v ∈ s.flt.fences := by
  unfold State.addFence
  split
  · next h =>
    have hu : u ∈ s.flt.fences := by simpa using h
    exact ⟨.inr, fun h => h.elim (fun e => e ▸ hu) id⟩
  · exact List.mem_cons

theorem State.switching_of_corps {s t : State} (h : t.corps = s.corps) : t.switching = s.switching := by
  have hf : t.fwu = s.fwu := by exact congrArg (fun x => x.2.2.2.2.2.2.2.2.2.2.2.2.2.1) h
  unfold State.switching
  rw [hf]

/-- A fence at engine level outside a switch (R599). -/
theorem State.fenceEngine_fences {s : State} (h : s.switching = none) (reason : Nat) (loc u : Loc) (wid degr : Bool) (ctx : Option (Nat × Nat)) :
    let t := s.fenceEngine reason loc u wid degr ctx
    t.corps = s.corps ∧ FUnit.engine u ∈ t.flt.fences := by
  unfold State.fenceEngine
  dsimp only
  rw [State.switching_of_corps (State.raise_corps _ _), h, if_neg (by simp)]
  unfold State.fenceEngineNow
  refine ⟨by simp, ?_⟩
  rw [State.capBump_flt]
  exact (State.mem_addFence _ _ _).mpr (.inl rfl)

/-- A failed pattern test (R86). -/
theorem execAccumulatorPatternTest_fails (s : State) (f a b : Nat) (ht : (s.arr f a).test = some b) (hs : s.switching = none) :
    ∃ t, exec (.accumulatorPatternTest f a true) s = .next t ∧ (t.arr f a).test = none ∧ FUnit.engine (arrLoc f a) ∈ t.flt.fences := by
  refine ⟨_, rfl, ?_⟩
  rw [ht]
  have hm : (s.modArr f a (fun q => { q with test := none })).switching = none := hs
  obtain ⟨hc, hf⟩ := State.fenceEngine_fences hm 0x0108 (locFrond f a b 0xFFFF) (arrLoc f a) true false none
  refine ⟨?_, hf⟩
  exact (congrArg Arr.test (State.arr_of_corps hc f a)).trans (congrArg Arr.test (State.arr_modArr_same s f a _))

/-- Commands discarded: the queue keeps the others. -/
@[simp] theorem Arr.discard_queue (q : Arr) (l : List ArrCmd) : (q.discard l).queue = l := by
  unfold Arr.discard
  split <;> rfl

/-- A fault of an array's command (R97): the commands of its kernel from there on are discarded, and the kernel ends. -/
theorem State.arrFault_running {s : State} {f a i k : Nat} {q : Kernel} (hk : s.krn f k = some q) (ha : q.abort = none) (reason : Nat) (loc : Loc) (inj : Bool) :
    let t := s.arrFault f a i k reason loc inj
    (t.arr f a).queue = dropFrom (s.arr f a).queue i k ∧ t.krn f k = some { q with abort := some reason } ∧ FUnit.kernel f k ∈ t.flt.fences := by
  intro t
  have h2 : (s.modArr f a (fun q => q.discard (dropFrom q.queue i k))).krn f k = some q := hk
  obtain ⟨hf, hm⟩ := State.faultKernelI_running h2 ha reason loc inj
  obtain ⟨hn, hnf⟩ := State.noteTag_frd ((s.modArr f a (fun q => q.discard (dropFrom q.queue i k))).faultKernelI f k reason loc inj) s (s.tagAt f a i)
  have ht : t.frd = _ := hn.trans hf
  refine ⟨?_, ?_, hnf ▸ hm⟩
  · rw [State.arr_congr ht]
    show ((s.modArr f a (fun q => q.discard (dropFrom q.queue i k))).arr f a).queue = _
    rw [State.arr_modArr_same]
    exact Arr.discard_queue _ _
  · rw [State.krn_congr ht]
    exact State.krn_setKrn_same _ _ _ _

/-- COMMAND_TIMEOUT (R96). -/
theorem execCommandTimeout_discards (s : State) (f a : Nat) (c : ArrCmd) (l : List ArrCmd) (k : Kernel)
    (hq : (s.arr f a).queue = c :: l) (hk : s.krn f c.kslot = some k) (ha : k.abort = none) (hs : s.endpointSwitching 7 (8 * f + a) = false) :
    ∃ t, exec (.commandTimeout f a) s = .next t ∧ (t.arr f a).queue = l.filter (fun x => x.kslot != c.kslot) ∧
      t.krn f c.kslot = some { k with abort := some 0x010C } ∧ FUnit.kernel f c.kslot ∈ t.flt.fences := by
  refine ⟨_, rfl, ?_⟩
  rw [hq]
  dsimp only
  rw [hs, if_neg Bool.false_ne_true]
  obtain ⟨hd, hab, hm⟩ := State.arrFault_running (a := a) (i := 0) hk ha 0x010C (feederLoc f a 4) false
  refine ⟨hd.trans ?_, hab, hm⟩
  rw [hq, dropFrom]
  simp

/-- Settles O3. -/
theorem drainAndTests : Obligations.DrainAndTests := by
  refine ⟨fun s u f a i c d b => execDrain_starts s u f a i c d b, execDrain_resumes, fun s f a i h => ⟨_, rfl, ?_⟩, fun s f a b h => ⟨_, rfl, ?_⟩,
    execAccumulatorPatternTest_fails, execCommandTimeout_discards⟩
  · rw [State.finishCmd, h]
    rfl
  · rw [h]
    rfl

end Sys2Proof.Machine
end

section
/-!
PROOFS. What the issue of an instruction and a write of registers leave: the threads that act and the registers they change.
-/

namespace Sys2Proof.Machine

set_option Elab.async false

/-! ### Instructions of a group -/

/-- An instruction that issues takes its effect on the threads chosen (R141, R142). -/
theorem State.issue_issues {s s' : State} {f g k : Nat} {q : Kernel} {ts : List Nat} (h : s.Issues f g s' k q ts)
    {eff : State → Nat → Kernel → List Nat → State} (hw : (eff s' k q ts).waited = false) : s.issue f g eff = eff s' k q ts := by
  obtain ⟨s0, pc, hk, ha, hp, hf, -⟩ := h
  refine State.attempt_eq ?_ hw
  rw [hk]
  dsimp only
  rw [ha]
  unfold State.issueNow
  rw [hk]
  dsimp only
  rw [hp]
  dsimp only
  rw [hf]
  rfl

/-! ### Registers of a thread -/

/-- A register written: what the Frond units hold beside the registers stays. -/
theorem State.setGreg_frd (s : State) (f g h n : Nat) (v : W32) : ∃ bad, (s.setGreg f g h n v).frd =
    { s.frd with gregs := spPut (fun _ => 0#32) s.frd.gregs (thrKey f g h * 128 + n) v, regBad := bad } := by
  unfold State.setGreg
  extract_lets k frd t
  split
  · next m _ =>
    refine ⟨spPut (fun _ => 0) t.frd.regBad k (m % 2 ^ 39), ?_⟩
    rw [(State.injDone_keeps _).1, (State.noteInj_keeps _ _ _).1]
    rfl
  · exact ⟨_, rfl⟩

@[simp] theorem State.setGreg_bytes (s : State) (f g h n : Nat) (v : W32) : (s.setGreg f g h n v).bytes = s.bytes := by
  unfold State.setGreg
  extract_lets k t
  split
  · rw [(State.injDone_keeps _).2, (State.noteInj_keeps _ _ _).2]
    rfl
  · rfl

theorem State.greg_setGreg (s : State) (f g h n m : Nat) (v : W32) : (s.setGreg f g h n v).greg f g h m = if m = n then v else s.greg f g h m := by
  obtain ⟨bad, e⟩ := s.setGreg_frd f g h n v
  unfold State.greg
  rw [e]
  dsimp only
  rw [spGet_spPut]
  exact if_congr (by omega) rfl rfl

/-- What the registers of a thread do not touch. -/
theorem State.putRegs_frame (s : State) (f g h n : Nat) (ws : List Nat) : let t := s.putRegs f g h n ws
    t.frd.frd = s.frd.frd ∧ t.frd.thr = s.frd.thr ∧ t.bytes = s.bytes := by
  induction ws generalizing s n with
  | nil => exact ⟨rfl, rfl, rfl⟩
  | cons w ws ih =>
    obtain ⟨bad, e⟩ := s.setGreg_frd f g h (n % 128) (BitVec.ofNat 32 w)
    obtain ⟨hfr, hthr, hb⟩ := ih (s.setGreg f g h (n % 128) (BitVec.ofNat 32 w)) (n + 1)
    rw [State.putRegs]
    exact ⟨hfr.trans (by rw [e]), hthr.trans (by rw [e]), hb.trans (s.setGreg_bytes _ _ _ _ _)⟩

/-- Registers from `n` on take the values given, and no others of the thread change. -/
theorem State.putRegs_reads (s : State) (f g h n : Nat) (ws : List Nat) (hl : ws.length ≤ 128) : let t := s.putRegs f g h n ws
    (∀ i, i < ws.length → t.greg f g h ((n + i) % 128) = BitVec.ofNat 32 (ws.getD i 0)) ∧
    (∀ m, m < 128 → (∀ i, i < ws.length → m ≠ (n + i) % 128) → t.greg f g h m = s.greg f g h m) := by
  induction ws generalizing s n with
  | nil => exact ⟨nofun, fun _ _ _ => rfl⟩
  | cons w ws ih =>
    rw [List.length_cons] at hl
    obtain ⟨hin, hout⟩ := ih (s.setGreg f g h (n % 128) (BitVec.ofNat 32 w)) (n + 1) (by omega)
    rw [State.putRegs]
    refine ⟨fun i hi => ?_, fun m hm hne => ?_⟩
    · cases i with
      | zero =>
        have h0 := hout (n % 128) (Nat.mod_lt _ (by decide)) (fun i hi => by omega)
        rw [State.greg_setGreg, if_pos rfl] at h0
        exact h0
      | succ i =>
        rw [List.length_cons] at hi
        rw [show n + (i + 1) = n + 1 + i by omega, hin i (by omega), List.getD_cons_succ]
    · rw [hout m hm (fun i hi => ?_), State.greg_setGreg, if_neg (by simpa using hne 0 (by simp))]
      have := hne (i + 1) (by simpa using hi)
      rwa [show n + (i + 1) = n + 1 + i by omega] at this

/-- A thread that moves on (R142). -/
theorem State.advance_thr (s : State) (f g h : Nat) : (s.advance f g h).thr f g h = { s.thr f g h with pc := ((s.thr f g h).pc + 8) % 2 ^ 48, wait := .ready } :=
  State.thr_setThr_same s f g h _

theorem State.thr_congr {s t : State} (h : t.frd.thr = s.frd.thr) (f g i : Nat) : t.thr f g i = s.thr f g i := by unfold State.thr; rw [h]

/-- A thread takes values in its registers and moves on. -/
theorem State.putRegs_advance (s : State) (f g h n : Nat) (ws : List Nat) (hl : ws.length ≤ 128) : let t := (s.putRegs f g h n ws).advance f g h
    (∀ i, i < ws.length → t.greg f g h ((n + i) % 128) = BitVec.ofNat 32 (ws.getD i 0)) ∧
    (∀ m, m < 128 → (∀ i, i < ws.length → m ≠ (n + i) % 128) → t.greg f g h m = s.greg f g h m) ∧
    (t.thr f g h).pc = ((s.thr f g h).pc + 8) % 2 ^ 48 ∧ (t.thr f g h).wait = .ready ∧ s.SameMem t ∧ t.frd.frd = s.frd.frd := by
  obtain ⟨hin, hout⟩ := s.putRegs_reads f g h n ws hl
  obtain ⟨hfr, hthr, hb⟩ := s.putRegs_frame f g h n ws
  refine ⟨hin, hout, ?_, ?_, State.sameMem_of_bytes hb, hfr⟩
  · rw [State.advance_thr, State.thr_congr hthr]
  · rw [State.advance_thr]

end Sys2Proof.Machine
end

section
/-!
PROOFS. Loads, stores, alias stores and atomics of a thread (R105, R109, R110, R145, R146).
-/

namespace Sys2Proof.Machine

set_option Elab.async false

/-! ### How many bytes a read answers -/

theorem memGetN_length (m : List Host.Cell) (a n : Nat) : (memGetN m a n).length = n := by
  induction n generalizing a with
  | zero => rfl
  | succ n ih => rw [memGetN, List.length_cons, ih]

theorem State.chanPeek_length {s : State} {ch a len : Nat} {l : List Byte} (h : s.chanPeek ch a len = .ok l) : l.length = len := by
  unfold State.chanPeek at h
  dsimp only at h
  split at h
  · cases h
  · split at h
    · cases h
    · cases h
      exact memGetN_length _ _ _

theorem State.dramPeek_length {s : State} {pa len : Nat} {l : List Byte} (h : s.dramPeek pa len = .ok l) : l.length = len := by
  unfold State.dramPeek at h
  split at h
  · cases h
  · dsimp only at h
    split at h
    · split at h
      · split at h
        · cases h
        · split at h
          · split at h
            · cases h
            · exact State.chanPeek_length h
          · cases h
            exact (List.length_map _).trans List.length_range
      · exact State.chanPeek_length h
    · exact State.chanPeek_length h

/-- A piece answers its own length. -/
theorem State.peekPiece_length {s : State} {pa len : Nat} {l : List Byte} (h : s.peekPiece pa len = .ok l) : l.length = len := by
  unfold State.peekPiece at h
  split at h
  · cases h
  · split at h
    · exact State.dramPeek_length h
    · unfold State.hostRead at h
      split at h
      · next hr =>
        split at hr
        · cases hr
        · cases hr
          cases h
          exact memGetN_length _ _ _
      · cases h
    · unfold State.thlPeek at h
      split at h
      · cases h
      · cases h
        exact (List.length_map _).trans List.length_range
    · unfold State.lsPeek at h
      generalize (wordsOf _ len).find? _ = w at h
      cases w with
      | some w => cases h
      | none =>
        cases h
        exact memGetN_length _ _ _
    · cases h

/-- A read answers at most 32 bytes for each of its pieces. -/
theorem State.peek_length_le {s : State} {pa len : Nat} {l : List Byte} (h : s.peek pa len = .ok l) : l.length ≤ 32 * (pieces pa len).length := by
  have hps : ∀ p ∈ pieces pa len, p.2 ≤ 32 := by
    intro p hp
    unfold pieces at hp
    split at hp
    · cases hp
    · obtain ⟨j, -, rfl⟩ := List.mem_map.mp hp
      dsimp only
      omega
  unfold State.peek at h
  generalize pieces pa len = ps at h hps ⊢
  have key : ∀ n (acc : Except MErr (List Byte)), (∀ m, acc = .ok m → m.length ≤ n) → ps.foldl (fun acc p =>
      match acc with
      | .error e => .error e
      | .ok l => match s.peekPiece p.1 p.2 with
        | .error e => .error e
        | .ok m => .ok (l ++ m)) acc = .ok l → l.length ≤ n + 32 * ps.length := by
    clear h
    induction ps with
    | nil => exact fun n acc hacc h => hacc l h
    | cons p ps ih =>
      intro n acc hacc h
      rw [List.foldl_cons] at h
      have := ih (fun q hq => hps q (List.mem_cons_of_mem p hq)) (n + 32) _ ?_ h
      · rw [List.length_cons]
        omega
      · intro m hm
        split at hm
        · cases hm
        · split at hm
          · cases hm
          · next l0 _ _ hp =>
            cases hm
            have h1 := State.peekPiece_length hp
            have h2 := hacc l0 rfl
            have h3 := hps p List.mem_cons_self
            rw [List.length_append]
            omega
  simpa using key 0 _ (fun m hm => by cases hm; exact Nat.le_refl 0) h

theorem State.read_length_le {s : State} {pa len : Nat} {l : List Byte} (h : (s.read pa len).2 = .ok l) : l.length ≤ 32 * (len / 32 + 2) := by
  have h1 := State.peek_length_le h
  have h2 : (pieces pa len).length ≤ len / 32 + 2 := by
    unfold pieces
    split
    · exact Nat.zero_le _
    · rw [List.length_map, List.length_range]
      omega
  omega

/-! ### Loads -/

@[simp] theorem State.forwarded_length (s : State) (f pa : Nat) (l : List Byte) : (s.forwarded f pa l).length = l.length := by
  unfold State.forwarded
  rw [List.length_map, List.length_range]

theorem slice_length_le {α : Type} (l : List α) (off len : Nat) : (slice l off len).length ≤ len := by
  unfold slice
  rw [List.length_take]
  exact Nat.min_le_left _ _

/-- A load of a thread finds no more bytes than it could hold in its registers. -/
theorem State.loadBytes_length {s : State} {f pa pte size : Nat} {l : List Byte} (hs : size ≤ 16) (h : (s.loadBytes f pa pte size).2 = .ok l) :
    l.length ≤ 128 := by
  have key : ∀ (t : State) (a n : Nat), n ≤ 16 → ∀ l, (t.read a n).2 = .ok l → l.length ≤ 128 := by
    intro t a n hn l h
    have := State.read_length_le h
    omega
  unfold State.loadBytes at h
  dsimp only at h
  split at h
  · split at h
    · cases h
      rw [State.forwarded_length]
      exact (slice_length_le _ _ _).trans (by omega)
    · split at h
      · cases h
        exact (slice_length_le _ _ _).trans (by omega)
      · cases h
  · split at h
    · next hr =>
      cases h
      rw [State.forwarded_length]
      exact key _ _ _ hs _ (by rw [hr])
    · cases h

/-- The register values of a load. -/
theorem State.loadRegs_frame (s : State) (l : List Byte) (conv : Nat) : let w := s.loadRegs l conv
    w.1.frd = s.frd ∧ w.1.bytes = s.bytes ∧ w.2.length ≤ max 1 (l.length / 4) := by
  unfold State.loadRegs
  split
  · exact ⟨rfl, rfl, by simp⟩
  · split
    · exact ⟨rfl, rfl, by simp⟩
    · exact ⟨rfl, rfl, by simp⟩

theorem sizeOk_le {n : Nat} (h : sizeOk n = true) : n ≤ 16 := by
  unfold sizeOk at h
  simp only [Bool.or_eq_true, beq_iff_eq] at h
  omega

/-- One thread's load (R109, R110). -/
theorem State.load_ok (s : State) (f g k h va size rd conv pa pte : Nat) (q : Kernel) (l : List Byte) :
    let r := s.xlate (some f) q.launch.asid q.launch.tenant va .r
    let m := r.1.loadBytes f pa pte size
    let w := m.1.loadRegs l conv
    sizeOk size = true → va % size = 0 → r.2 = .ok (pa, pte) → r.1.loadHeld f pa pte size = false → m.2 = .ok l →
    ∃ t, s.load f g k q h va size rd conv = t ∧
      (∀ i, i < w.2.length → i < 128 → t.greg f g h ((rd + i) % 128) = BitVec.ofNat 32 (w.2.getD i 0)) ∧
      (∀ n, n < 128 → (∀ i, i < w.2.length → n ≠ (rd + i) % 128) → t.greg f g h n = m.1.greg f g h n) ∧
      (t.thr f g h).pc = ((m.1.thr f g h).pc + 8) % 2 ^ 48 ∧ (t.thr f g h).wait = .ready ∧ m.1.SameMem t := by
  intro r m w hsz hva hok hheld hm
  have hr : s.xlate (some f) q.launch.asid q.launch.tenant va .r = (r.1, .ok (pa, pte)) := by rw [← hok]
  have hl : r.1.loadBytes f pa pte size = (m.1, .ok l) := by rw [← hm]
  obtain ⟨hfrd, hb, hlen⟩ := m.1.loadRegs_frame l conv
  have hl16 := State.loadBytes_length (sizeOk_le hsz) hm
  have hwl : w.2.length ≤ 128 := by
    have : w.2.length ≤ max 1 (l.length / 4) := hlen
    omega
  have e : s.load f g k q h va size rd conv = (w.1.putRegs f g h rd w.2).advance f g h := by
    unfold State.load
    rw [if_neg (not_not.mpr hva), hr]
    dsimp only
    rw [hheld, hl]
    rfl
  obtain ⟨hin, hout, hpc, hwait, hmem, -⟩ := w.1.putRegs_advance f g h rd w.2 hwl
  have hgr n : w.1.greg f g h n = m.1.greg f g h n := by unfold State.greg; rw [hfrd]
  refine ⟨_, e, fun i hi _ => hin i hi, fun n hn hne => (hout n hn hne).trans (hgr n), ?_, hwait, ?_⟩
  · rw [hpc, State.thr_congr (congrArg FrdState.thr hfrd)]
  · exact fun a => by
      obtain ⟨hd, ht, hs, ho⟩ := hmem a
      obtain ⟨hd', ht', hs', ho'⟩ := State.sameMem_of_bytes hb a
      exact ⟨hd.trans hd', ht.trans ht', hs.trans hs', ho.trans ho'⟩

/-- The register values of a load, by the kind of load (R60, R110). -/
theorem State.loadRegs_values (s : State) (l : List Byte) (conv : Nat) :
    (∀ fmt, convFmt conv = some fmt → s.loadRegs l conv = (s, [(toFp32From fmt (leNat l)).toNat])) ∧
    (convFmt conv = none → 4 ≤ l.length → s.loadRegs l conv = (s, (List.range (l.length / 4)).map (fun i => leNat (slice l (4 * i) 4)))) ∧
    (convFmt conv = none → l.length < 4 → ∃ x, (s.loadRegs l conv).2 = [leNat l + x * 2 ^ (8 * l.length)]) := by
  unfold State.loadRegs
  refine ⟨fun fmt h => by rw [h], fun h hl => ?_, fun h hl => ?_⟩
  · rw [h]
    dsimp only
    rw [if_neg (by omega)]
  · rw [h]
    dsimp only
    rw [if_pos hl]
    exact ⟨_, rfl⟩

theorem State.sbCheck_clean {s : State} {f line : Nat} (h : (s.fr f).sbuf.find? (fun e => e.line == line && secdedBad e.bad) = none) : s.sbCheck f line = s := by
  unfold State.sbCheck
  rw [h]

/-- What a load finds: the data cache's line, or memory, with the stores of the buffer over it (R108, R109). -/
theorem State.loadBytes_finds (s : State) (f pa pte size : Nat) (h : (s.fr f).sbuf.find? (fun e => e.line == pa / 128 && secdedBad e.bad) = none) :
    (∀ d, cacheable pa pte = true → (s.fr f).dcache.find? (fun d => d.line == pa / 128) = some d →
      s.loadBytes f pa pte size = (s, .ok (s.forwarded f pa (slice d.data (pa % 128) size)))) ∧
    (∀ l, cacheable pa pte = false → ((s.bundleUse f pa false).read pa size).2 = .ok l →
      (s.loadBytes f pa pte size).2 = .ok (((s.bundleUse f pa false).read pa size).1.forwarded f pa l)) ∧
    (∀ l, cacheable pa pte = true → (s.fr f).dcache.find? (fun d => d.line == pa / 128) = none →
      ((s.bundleUse f pa false).read (pa / 128 * 128) 128).2 = .ok l → (s.loadBytes f pa pte size).2 =
        .ok (slice (((s.bundleUse f pa false).read (pa / 128 * 128) 128).1.forwarded f (pa / 128 * 128) l) (pa % 128) size)) := by
  unfold State.loadBytes
  rw [State.sbCheck_clean h]
  dsimp only
  refine ⟨fun d hc hd => ?_, fun l hc hl => ?_, fun l hc hd hl => ?_⟩
  · rw [if_pos hc, hd]
  · rw [if_neg (by rw [hc]; exact Bool.false_ne_true)]
    generalize (s.bundleUse f pa false).read pa size = p at hl ⊢
    obtain ⟨u, x⟩ := p
    obtain rfl : x = .ok l := hl
    rfl
  · rw [if_pos hc, hd]
    dsimp only
    generalize (s.bundleUse f pa false).read (pa / 128 * 128) 128 = p at hl ⊢
    obtain ⟨u, x⟩ := p
    obtain rfl : x = .ok l := hl
    rfl

/-- A byte as a load sees it: the one found where no store of the buffer covers its line, else the youngest store's. -/
theorem State.forwarded_byte (s : State) (f pa i : Nat) (l : List Byte) (e : SbEntry) (es : List SbEntry) (b : Byte) (hi : i < l.length) :
    ((∀ x ∈ (s.fr f).sbuf, x.line ≠ (pa + i) / 128) → (s.forwarded f pa l).getD i 0#8 = l.getD i 0#8) ∧
    ((s.fr f).sbuf = es ++ [e] → e.line = (pa + i) / 128 → (∀ d, spGet (fun _ => d) e.bytes ((pa + i) % 128) = b) →
      (s.forwarded f pa l).getD i 0#8 = b) := by
  have hget : (s.forwarded f pa l).getD i 0#8 =
      (s.fr f).sbuf.foldl (fun b e => if e.line = (pa + i) / 128 then spGet (fun _ => b) e.bytes ((pa + i) % 128) else b) (l.getD i 0#8) := by
    unfold State.forwarded
    rw [List.getD_eq_getElem?_getD, List.getElem?_map, List.getElem?_range hi]
    rfl
  rw [hget]
  refine ⟨fun h => ?_, fun h hl hb => ?_⟩
  · generalize (s.fr f).sbuf = es' at h
    induction es' with
    | nil => rfl
    | cons x xs ih =>
      rw [List.foldl_cons, if_neg (h x List.mem_cons_self)]
      exact ih (fun y hy => h y (List.mem_cons_of_mem x hy))
  · rw [h, List.foldl_append, List.foldl_cons, List.foldl_nil, if_pos hl]
    exact hb _

/-! ### Stores -/

theorem spGet_foldl_spIns_range (n off : Nat) (val : Nat → Byte) (m : Sp Byte) {i : Nat} (h : i < n) :
    spGet (fun _ => 0#8) ((List.range n).foldl (fun m i => spIns m (off + i) (val i)) m) (off + i) = val i := by
  induction n with
  | zero => cases h
  | succ n ih =>
    rw [List.range_succ, List.foldl_append, List.foldl_cons, List.foldl_nil, spGet_spIns]
    by_cases hi : i = n
    · rw [if_pos (by rw [hi]), hi]
    · rw [if_neg (by omega)]
      exact ih (by omega)

/-- A store in the buffer: the entry of its line holds every byte of it (R109). -/
theorem State.sbPut_holds (s : State) (f k pa : Nat) (bytes : List Byte) :
    let u := if !((s.fr f).sbuf.any (fun e => e.line == pa / 128)) && (s.fr f).sbuf.length ≥ 64 then s.sbWrite f else s
    let t := s.sbPut f k pa bytes
    (∃ e ∈ (t.fr f).sbuf, e.line = pa / 128 ∧ ∀ i, i < bytes.length → spGet (fun _ => 0#8) e.bytes (pa % 128 + i) = bytes.getD i 0#8) ∧
    t.frd.thr = u.frd.thr ∧ t.frd.gregs = u.frd.gregs ∧ t.bytes = u.bytes := by
  intro u t
  unfold t State.sbPut
  extract_lets line put v l n
  have hput m i (hi : i < bytes.length) : spGet (fun _ => 0#8) (put m) (pa % 128 + i) = bytes.getD i 0#8 := spGet_foldl_spIns_range _ _ _ _ hi
  split
  · next i hi =>
    obtain ⟨-, e, he, hl⟩ := findIdxFrom_some _ _ _ _ hi
    refine ⟨⟨{ e with bytes := put e.bytes }, ?_, by simpa using hl, fun i hi => hput e.bytes i hi⟩, rfl, rfl, rfl⟩
    unfold State.modFr
    rw [State.fr_setFr_same]
    exact mem_modAt _ l i e he
  · split
    · next m _ =>
      have hk := State.injDone_keeps ((v.modFr f (fun q => { q with sbuf := l ++ [⟨line, put [], k, m % 2 ^ 39, n⟩] })).noteInj 6 (sbKey f n))
      have hn := State.noteInj_keeps (v.modFr f (fun q => { q with sbuf := l ++ [⟨line, put [], k, m % 2 ^ 39, n⟩] })) 6 (sbKey f n)
      have hfrd := hk.1.trans hn.1
      refine ⟨⟨⟨line, put [], k, m % 2 ^ 39, n⟩, ?_, rfl, fun i hi => hput [] i hi⟩, (congrArg FrdState.thr hfrd).trans rfl,
        (congrArg FrdState.gregs hfrd).trans rfl, hk.2.trans hn.2⟩
      unfold State.fr
      rw [hfrd]
      show _ ∈ ((v.modFr f (fun q => { q with sbuf := l ++ [⟨line, put [], k, m % 2 ^ 39, n⟩] })).fr f).sbuf
      unfold State.modFr
      rw [State.fr_setFr_same]
      simp
    · refine ⟨⟨⟨line, put [], k, 0, n⟩, ?_, rfl, fun i hi => hput [] i hi⟩, rfl, rfl, rfl⟩
      unfold State.modFr
      rw [State.fr_setFr_same]
      simp

/-- One thread's store (R109). -/
theorem State.store_ok (s : State) (f g k h va pa pte : Nat) (q : Kernel) (bytes : List Byte) :
    let r := s.xlate (some f) q.launch.asid q.launch.tenant va .w
    let u := if !((r.1.fr f).sbuf.any (fun e => e.line == pa / 128)) && (r.1.fr f).sbuf.length ≥ 64 then r.1.sbWrite f else r.1
    sizeOk bytes.length = true → va % bytes.length = 0 → r.2 = .ok (pa, pte) → r.1.sbStuck f pa = false →
    (∀ i o w, physClass pa ≠ .lstore i o (w + 1)) →
    ∃ t, s.store f g k q h va bytes false = t ∧
      (∃ e ∈ (t.fr f).sbuf, e.line = pa / 128 ∧ ∀ i, i < bytes.length → spGet (fun _ => 0#8) e.bytes (pa % 128 + i) = bytes.getD i 0#8) ∧
      (t.thr f g h).pc = ((u.thr f g h).pc + 8) % 2 ^ 48 ∧ t.frd.gregs = u.frd.gregs ∧ u.SameMem t := by
  intro r u _ hva hok hst hcls
  have hr : s.xlate (some f) q.launch.asid q.launch.tenant va .w = (r.1, .ok (pa, pte)) := by rw [← hok]
  obtain ⟨⟨e, he, hline, hbytes⟩, hthr, hgregs, hb⟩ := r.1.sbPut_holds f k pa bytes
  have e1 : s.store f g k q h va bytes false = (r.1.sbPut f k pa bytes).advance f g h ∨
      s.store f g k q h va bytes false = ((r.1.sbPut f k pa bytes).dcUpdate f pa bytes).advance f g h := by
    unfold State.store
    rw [if_neg (not_not.mpr hva), hr]
    dsimp only
    rw [hst, if_neg Bool.false_ne_true]
    split
    · next i o w hc => exact absurd hc (hcls i o w)
    · exact .inl (if_neg Bool.false_ne_true)
    · exact .inr rfl
  clear_value r
  rcases e1 with e1 | e1
  · refine ⟨_, e1, ⟨e, he, hline, hbytes⟩, ?_, hgregs, State.sameMem_of_bytes hb⟩
    rw [State.advance_thr, State.thr_congr hthr]
  · refine ⟨_, e1, ⟨e, ?_, hline, hbytes⟩, ?_, hgregs, State.sameMem_of_bytes hb⟩
    · show e ∈ (((r.1.sbPut f k pa bytes).dcUpdate f pa bytes).fr f).sbuf
      unfold State.dcUpdate State.modFr
      rw [State.fr_setFr_same]
      exact he
    · rw [State.advance_thr]
      exact congrArg (fun x : Thread => (x.pc + 8) % 2 ^ 48) (State.thr_congr (t := r.1.sbPut f k pa bytes) hthr f g h)

/-- One thread's store in an alias window (R105). -/
theorem State.store_alias (s u : State) (f g k h va pa pte i o w : Nat) (q : Kernel) (bytes : List Byte) (al : Bool) :
    let r := s.xlate (some f) q.launch.asid q.launch.tenant va .w
    va % bytes.length = 0 → r.2 = .ok (pa, pte) → r.1.sbStuck f pa = false → physClass pa = .lstore i o (w + 1) →
    r.1.sbHeld f = false → r.1.accHeld pa = false → (r.1.sbDrain f).write pa bytes = (u, none) →
    s.store f g k q h va bytes al = u.advance f g h := by
  intro r hva hok hst hcls hh ha hw
  have hr : s.xlate (some f) q.launch.asid q.launch.tenant va .w = (r.1, .ok (pa, pte)) := by rw [← hok]
  unfold State.store
  rw [if_neg (not_not.mpr hva), hr]
  dsimp only
  rw [hst, if_neg Bool.false_ne_true, hcls]
  dsimp only
  rw [hh, ha, Bool.or_self, if_neg Bool.false_ne_true, hw]

/-! ### Alias stores -/

/-- A whole word of a local store written (R105). -/
theorem State.lsPutWord_ls (s : State) (k : Nat) (bytes : List Byte) : (s.lsPutWord k bytes).mem.ls = memPutN s.mem.ls k bytes := by
  unfold State.lsPutWord
  extract_lets w m t
  have hmem : ∀ u : State, u.injDone.mem = u.mem := by
    intro u
    unfold State.injDone
    split <;> simp
  split
  · rw [hmem]
    unfold State.noteInj
    split <;> rfl
  · rfl

/-- The words of an aligned value of 4 or 8 bytes. -/
theorem wordPieces_aligned {k : Nat} (hk : k % 4 = 0) (l : List Byte) (hl : l.length = 4 ∨ l.length = 8) :
    wordPieces k l = if l.length = 4 then [(k, l)] else [(k, l.take 4), (k + 4, l.drop 4)] := by
  have h1 : (k + 1) % 4 ≠ 0 := by omega
  have h2 : (k + 1 + 1) % 4 ≠ 0 := by omega
  have h3 : (k + 1 + 1 + 1) % 4 ≠ 0 := by omega
  have h4 : (k + 1 + 1 + 1 + 1) % 4 = 0 := by omega
  have h5 : (k + 1 + 1 + 1 + 1 + 1) % 4 ≠ 0 := by omega
  have h6 : (k + 1 + 1 + 1 + 1 + 1 + 1) % 4 ≠ 0 := by omega
  have h7 : (k + 1 + 1 + 1 + 1 + 1 + 1 + 1) % 4 ≠ 0 := by omega
  rcases hl with hl | hl
  · obtain ⟨a, b, c, d, rfl⟩ := List.length_eq_four.mp hl
    simp [wordPieces, h1, h2, h3]
  · obtain ⟨a, b, c, d, l', rfl, hl'⟩ : ∃ a b c d l', l = a :: b :: c :: d :: l' ∧ l'.length = 4 := by
      match l, hl with
      | a :: b :: c :: d :: l', hl => exact ⟨a, b, c, d, l', rfl, by simpa using hl⟩
    obtain ⟨a', b', c', d', rfl⟩ := List.length_eq_four.mp hl'
    simp [wordPieces, h1, h2, h3, h4, h5, h6, h7]

/-- An aligned value of 4 or 8 bytes stored in a local store: its words are whole, so none is merged with what stood there. -/
theorem State.lsPoke_aligned (s : State) (f o : Nat) (l : List Byte) (hl : l.length = 4 ∨ l.length = 8) (ho : o % 4 = 0) :
    (s.lsPoke f o l).2 = none ∧ ∃ m, (s.lsPoke f o l).1.mem.ls = m ∧
      (∀ i, i < l.length → memGet m (lsKey f o + i) = l.getD i 0#8) ∧
      (∀ a, (a < lsKey f o ∨ lsKey f o + l.length ≤ a) → memGet m a = memGet s.mem.ls a) := by
  have hk : lsKey f o % 4 = 0 := by
    unfold lsKey
    omega
  unfold State.lsPoke
  rw [wordPieces_aligned hk l hl]
  split
  · next h4 =>
    refine ⟨by simp [h4], memPutN s.mem.ls (lsKey f o) l, ?_, fun i hi => memGet_memPutN_at _ _ _ hi, fun a ha => memGet_memPutN_outside _ _ _ ha⟩
    simp [h4, State.lsPutWord_ls]
  · next h4 =>
    have h8 := hl.resolve_left h4
    have ht : (l.take 4).length = 4 := by rw [List.length_take, h8]; rfl
    have hd : (l.drop 4).length = 4 := by rw [List.length_drop, h8]
    refine ⟨by simp [ht, hd], memPutN (memPutN s.mem.ls (lsKey f o) (l.take 4)) (lsKey f o + 4) (l.drop 4), ?_, fun i hi => ?_, fun a ha => ?_⟩
    · simp [h8, State.lsPutWord_ls]
    · by_cases hi4 : i < 4
      · rw [memGet_memPutN_outside _ _ _ (.inl (by omega)), memGet_memPutN_at _ _ _ (by omega)]
        simp [List.getD_eq_getElem?_getD, hi4]
      · have := memGet_memPutN_at (memPutN s.mem.ls (lsKey f o) (l.take 4)) (lsKey f o + 4) (l.drop 4) (i := i - 4) (by omega)
        rw [show lsKey f o + 4 + (i - 4) = lsKey f o + i by omega] at this
        rw [this]
        simp [List.getD_eq_getElem?_getD, List.getElem?_drop, show 4 + (i - 4) = i by omega]
    · rw [memGet_memPutN_outside _ _ _ (by omega), memGet_memPutN_outside _ _ _ (by omega)]

theorem memGetN_getD (m : List Host.Cell) (a n : Nat) {i : Nat} (h : i < n) : (memGetN m a n).getD i 0#8 = memGet m (a + i) := by
  induction n generalizing a i with
  | zero => cases h
  | succ n ih =>
    cases i with
    | zero => rfl
    | succ i =>
      rw [memGetN, List.getD_cons_succ, ih _ (by omega)]
      congr 1
      omega

/-- What an alias store of 4 or 8 bytes leaves (R105). -/
theorem State.aliasPoke_leaves (s : State) (f o win n val : Nat) (hn : n = 4 ∨ n = 8) (ho : o % n = 0)
    (hb : ∀ i, i < n / 4 → secdedBad (s.lsBadW (lsKey f o / 4 + i)) = false) :
    let r := s.aliasPoke f o win (leBytes n val)
    r.2 = none ∧
    (∀ i, i < n → memGet r.1.mem.ls (lsKey f o + i) =
      (if win = 1 then memGet s.mem.ls (lsKey f o + i) ||| (leBytes n val).getD i 0#8
       else memGet s.mem.ls (lsKey f o + i) &&& ~~~((leBytes n val).getD i 0#8))) ∧
    (∀ a, (a < lsKey f o ∨ lsKey f o + n ≤ a) → memGet r.1.mem.ls a = memGet s.mem.ls a) := by
  have ho4 : o % 4 = 0 := by rcases hn with rfl | rfl <;> omega
  have hk : lsKey f o % 4 = 0 := by
    unfold lsKey
    omega
  have hpeek : s.lsPeek f o n = .ok (memGetN s.mem.ls (lsKey f o) n) := by
    have hw : (wordsOf (lsKey f o) n).find? (fun w => secdedBad (s.lsBadW w)) = none := by
      rw [List.find?_eq_none]
      intro w hw
      unfold wordsOf at hw
      obtain ⟨i, hi, rfl⟩ := List.mem_map.mp hw
      have := hb i (by have := List.mem_range.mp hi; omega)
      rw [Nat.add_comm i, this]
      exact Bool.false_ne_true
    unfold State.lsPeek
    rw [hw]
    rfl
  generalize hnew : List.zipWith (fun a b => if win = 1 then a ||| b else a &&& ~~~b) (memGetN s.mem.ls (lsKey f o) n) (leBytes n val) = new
  have hlen : new.length = n := by
    rw [← hnew, List.length_zipWith, memGetN_length, leBytes_length, Nat.min_self]
  have e : s.aliasPoke f o win (leBytes n val) = s.lsPoke f o new := by
    unfold State.aliasPoke
    rw [leBytes_length, if_pos (by simpa using ⟨hn, ho⟩), hpeek]
    dsimp only
    rw [hnew]
  intro r
  obtain ⟨hok, m, hm, hin, hout⟩ := s.lsPoke_aligned f o new (by omega) ho4
  have hr : r = s.lsPoke f o new := e
  rw [hr, hm, hok]
  refine ⟨rfl, fun i hi => ?_, fun a ha => hout a (by omega)⟩
  rw [hin i (by omega), ← hnew, List.getD_eq_getElem?_getD, List.getElem?_zipWith]
  have h1 := memGetN_getD s.mem.ls (lsKey f o) n hi
  rw [List.getD_eq_getElem?_getD] at h1
  have h2 : i < (memGetN s.mem.ls (lsKey f o) n).length := by rw [memGetN_length]; exact hi
  have h3 : i < (leBytes n val).length := by rw [leBytes_length]; exact hi
  rw [List.getElem?_eq_getElem h2] at h1 ⊢
  rw [List.getD_eq_getElem?_getD, List.getElem?_eq_getElem h3]
  simp only [Option.getD_some] at h1 ⊢
  rw [h1]

/-! ### Write-outs and atomics -/

/-- STORE_BUFFER_WRITE (R109). -/
theorem execStoreBufferWrite_writes (s : State) (f : Nat) (e : SbEntry) (l : List SbEntry) (hq : (s.fr f).sbuf = e :: l) (hh : s.entryHeld e = false)
    (hb : secdedBad e.bad = false) :
    let s1 := (s.setFr f { s.fr f with sbuf := l, sbCorr := (s.fr f).sbCorr + (if popCount 39 e.bad = 1 then 1 else 0) }).dropInj 6 (sbKey f e.slot)
    ∃ t, exec (.storeBufferWrite f) s = .next t ∧ t = (sbRuns e.bytes).foldl (fun s r =>
      match (s.bundleUse f (e.line * 128 + r.1) true).write (e.line * 128 + r.1) r.2 with
      | (u, none) => u
      | (u, some x) => u.accFault (.kernel f e.kslot) x) s1 := by
  refine ⟨_, rfl, ?_⟩
  rw [hq]
  dsimp only
  rw [hh, if_neg Bool.false_ne_true, State.sbWrite, hq]
  dsimp only
  rw [hb, if_neg Bool.false_ne_true]
  rfl

/-- One thread's atomic (R146). -/
theorem State.atomic_ok (s u : State) (f g k h op va size v cmp rd pa pte old : Nat) (q : Kernel) :
    let r := s.xlate (some f) q.launch.asid q.launch.tenant va .w
    (size = 4 ∨ size = 8) → va % size = 0 → r.2 = .ok (pa, pte) → r.1.redHeld pa size = false → r.1.sbHeld f = false →
    (∀ a, physClass pa ≠ .host a) → ((r.1.sbDrain f).bundleUse f pa true).atomicAt op size pa v cmp = (u, .ok old) →
    ∃ t, s.atomic f g k q h op va size v cmp rd = t ∧
      (∀ i, i < size / 4 → t.greg f g h ((rd + i) % 128) = BitVec.ofNat 32 (old / 2 ^ (32 * i))) ∧
      (∀ n, n < 128 → (∀ i, i < size / 4 → n ≠ (rd + i) % 128) → t.greg f g h n = u.greg f g h n) ∧
      (t.fr f).dcache = (u.fr f).dcache.filter (fun d => d.line != pa / 128) ∧
      (t.thr f g h).pc = ((u.thr f g h).pc + 8) % 2 ^ 48 ∧ u.SameMem t := by
  intro r hsz hva hok hred hsb hcls hat
  have hr : s.xlate (some f) q.launch.asid q.launch.tenant va .w = (r.1, .ok (pa, pte)) := by rw [← hok]
  let ws := (List.range (size / 4)).map (fun i => old / 2 ^ (32 * i) % 2 ^ 32)
  have hlen : ws.length = size / 4 := (List.length_map _).trans List.length_range
  have e : s.atomic f g k q h op va size v cmp rd = ((u.dcDrop f (pa / 128)).putRegs f g h rd ws).advance f g h := by
    unfold State.atomic
    rw [if_neg (not_not.mpr hva), hr]
    dsimp only
    rw [hred, hsb, Bool.or_self, if_neg Bool.false_ne_true]
    split
    · next a hc => exact absurd hc (hcls a)
    · rw [hat]
  obtain ⟨hin, hout, hpc, -, hmem, hfr⟩ := (u.dcDrop f (pa / 128)).putRegs_advance f g h rd ws (by omega)
  refine ⟨_, e, fun i hi => ?_, fun n hn hne => hout n hn (fun i hi => hne i (by omega)), ?_, hpc, hmem⟩
  · rw [hin i (by omega)]
    have : ws.getD i 0 = old / 2 ^ (32 * i) % 2 ^ 32 := by
      rw [List.getD_eq_getElem?_getD, List.getElem?_map, List.getElem?_range hi]
      rfl
    rw [this]
    exact BitVec.eq_of_toNat_eq (by simp)
  · unfold State.fr
    rw [hfr]
    show ((u.dcDrop f (pa / 128)).fr f).dcache = _
    unfold State.dcDrop State.modFr
    rw [State.fr_setFr_same]
    rfl

/-- Settles O4. -/
theorem threadMemory : Obligations.ThreadMemory := by
  refine ⟨⟨?_, State.load_ok, State.loadRegs_values, State.loadBytes_finds, State.forwarded_byte⟩, ⟨?_, State.store_ok, ?_, State.store_alias⟩,
    fun s f o win n val hn ho _ hb => s.aliasPoke_leaves f o win n val hn ho hb, execStoreBufferWrite_writes, ?_, State.atomic_ok⟩
  · intro s s' f g mask size rd conv k reads vas ts q t hi hs hw
    exact congrArg Host.Outcome.next ((if_pos hs).trans (State.issue_issues hi hw))
  · intro s s' f g mask size rs k reads vas ts q t hi hs hw
    exact congrArg Host.Outcome.next ((if_pos hs).trans (State.issue_issues hi hw))
  · intro s s' f g mask size rs k reads vas ts q t hi hs hw
    exact congrArg Host.Outcome.next ((if_pos hs).trans (State.issue_issues hi hw))
  · intro s s' f g mask op size rv rc rd k reads vas ts q t hi hs hw
    exact congrArg Host.Outcome.next ((if_pos hs).trans (State.issue_issues hi hw))

end Sys2Proof.Machine
end

section
/-!
PROOFS. What faults and aborts leave alone: the units behind the fault unit, the fences and the ledger.
-/

namespace Sys2Proof.Machine

set_option Elab.async false

/-! ### What a fault leaves alone

A fault ends kernels, fences units and reports; the threads, their registers, the arrays, the store buffers, the data caches and the wakes stay as they are. -/

/-- The pieces no fault of a kernel touches. -/
def State.rear (s : State) : (Nat → List SbEntry × List DLine × Bool) × Sp Arr × Sp Group × Sp Thread × Sp W32 × Sp Nat ×
    (Nat → Nat → Bool) :=
  ((fun f => ((s.fr f).sbuf, (s.fr f).dcache, (s.fr f).waking)), s.frd.arr, s.frd.grp, s.frd.thr, s.frd.gregs, s.frd.preds,
    fun f k => (s.krn f k).isSome)

theorem State.rear_of_corps {s t : State} (h : t.corps = s.corps) : t.rear = s.rear := by
  have hf := State.frd_of_corps h
  have hb : (fun f => ((t.fr f).sbuf, (t.fr f).dcache, (t.fr f).waking)) = fun f => ((s.fr f).sbuf, (s.fr f).dcache, (s.fr f).waking) := by
    funext f
    have hq := congrArg (fun q : Frond => (q.sbuf, q.dcache, q.waking)) (State.steady_of_corps h f)
    exact hq
  have hk : (fun f k => (t.krn f k).isSome) = fun f k => (s.krn f k).isSome := by
    funext f k
    rw [State.krn_of_corps h]
  simp only [FrdState.mk.injEq] at hf
  obtain ⟨harr, -, -, -, hgrp, hthr, hgregs, hpreds, -, -⟩ := hf
  unfold State.rear
  rw [hb, harr, hgrp, hthr, hgregs, hpreds, hk]

theorem State.sbuf_of_rear {s t : State} (h : t.rear = s.rear) (f : Nat) : (t.fr f).sbuf = (s.fr f).sbuf :=
  congrArg (fun x => (x.1 f).1) h

theorem State.isSome_of_rear {s t : State} (h : t.rear = s.rear) (f k : Nat) : (t.krn f k).isSome = (s.krn f k).isSome :=
  congrArg (fun x => x.2.2.2.2.2.2 f k) h

theorem State.waking_of_rear {s t : State} (h : t.rear = s.rear) (f : Nat) : (t.fr f).waking = (s.fr f).waking :=
  congrArg (fun x => (x.1 f).2.2) h

section
variable (s : State)

theorem State.foldl_rear {α : Type} {g : State → α → State} (hg : ∀ u x, (g u x).rear = u.rear) (l : List α) : (l.foldl g s).rear = s.rear :=
  foldl_keeps (p := fun u => u.rear = s.rear) g (fun u x h => (hg u x).trans h) l rfl

@[simp] theorem State.rset_rear (f : Fd) (v : Nat) : (s.rset f v).rear = s.rear := (rfl)
@[simp] theorem State.radd_rear (f : Fd) (k : Nat) : (s.radd f k).rear = s.rear := (rfl)
theorem State.setKrn_rear {f k : Nat} {v : Option Kernel} (h : v.isSome = (s.krn f k).isSome) : (s.setKrn f k v).rear = s.rear := by
  have hk : (fun i j => ((s.setKrn f k v).krn i j).isSome) = fun i j => (s.krn i j).isSome := by
    funext i j
    by_cases hij : i * 8 + j = f * 8 + k
    · have h1 : (s.setKrn f k v).krn i j = v := by
        unfold State.setKrn State.krn
        rw [hij]
        exact spGet_spPut_same _ _ _ _
      have h2 : s.krn i j = s.krn f k := by
        unfold State.krn
        rw [hij]
      rw [h1, h2, h]
    · rw [State.krn_setKrn_ne _ _ _ _ _ _ hij]
  unfold State.rear
  rw [hk]
  rfl
@[simp] theorem State.setDma_rear (f c : Nat) (v : Dma) : (s.setDma f c v).rear = s.rear := (rfl)
@[simp] theorem State.modRing_rear (r : Nat) (g : Ring → Ring) : (s.modRing r g).rear = s.rear := (rfl)
@[simp] theorem State.setStep_rear (h : Nat) (v : Option StepRec) : (s.setStep h v).rear = s.rear := (rfl)
@[simp] theorem State.dropInj_rear (c k : Nat) : (s.dropInj c k).rear = s.rear := (rfl)
@[simp] theorem State.raise_rear (a : RecArg) : (s.raise a).rear = s.rear := State.rear_of_corps (s.raise_corps a)
@[simp] theorem State.addFence_rear (u : FUnit) : (s.addFence u).rear = s.rear := State.rear_of_corps (s.addFence_corps u)
@[simp] theorem State.distBump_rear : s.distBump.rear = s.rear := State.rear_of_corps s.distBump_corps

theorem State.modFr_rear (f : Nat) (g : Frond → Frond) (hg : ∀ q, (g q).sbuf = q.sbuf ∧ (g q).dcache = q.dcache ∧ (g q).waking = q.waking) : (s.modFr f g).rear = s.rear := by
  have h : (fun i => (((s.modFr f g).fr i).sbuf, ((s.modFr f g).fr i).dcache, ((s.modFr f g).fr i).waking)) = fun i => ((s.fr i).sbuf, (s.fr i).dcache, (s.fr i).waking) := by
    funext i
    unfold State.modFr
    by_cases hi : i = f
    · subst hi
      obtain ⟨h1, h2, h3⟩ := hg (s.fr i)
      rw [State.fr_setFr_same, h1, h2, h3]
    · rw [State.fr_setFr_ne _ _ _ _ hi]
  unfold State.rear
  rw [h]
  rfl

@[simp] theorem State.markAbort_rear (f k reason : Nat) : (s.markAbort f k reason).rear = s.rear := by
  unfold State.markAbort
  split
  · rfl
  · next q hq =>
    split
    · rfl
    · rw [State.addFence_rear]
      exact s.setKrn_rear (by rw [hq]; rfl)

@[simp] theorem State.dmaResume_rear (r i : Nat) : (s.dmaResume r i).rear = s.rear := by
  refine s.foldl_rear (fun u f => u.foldl_rear (fun v c => ?_) _) _
  split
  · split <;> simp
  · rfl

@[simp] theorem State.complete_rear (r i status reason result : Nat) : (s.complete r i status reason result).rear = s.rear := by
  unfold State.complete
  split
  · rfl
  · dsimp only
    split
    · simp
    · split <;> simp

@[simp] theorem State.kernelDone_rear (who : Issuer) (f : Nat) (ok : Bool) (reason : Nat) : (s.kernelDone who f ok reason).rear = s.rear := by
  unfold State.kernelDone
  split
  · unfold State.launchDone
    split
    · rfl
    · dsimp only
      split <;> simp
  · unfold State.stepKernelDone
    split <;> simp

@[simp] theorem State.failLaunches_rear (f reason : Nat) (l : List Launch) : (s.failLaunches f reason l).rear = s.rear := by
  unfold State.failLaunches
  exact s.foldl_rear (fun u (x : Launch) => u.kernelDone_rear x.issuer f false reason) l

@[simp] theorem State.faultKernelI_rear (f k reason : Nat) (loc : Loc) (inj : Bool) : (s.faultKernelI f k reason loc inj).rear = s.rear := by
  unfold State.faultKernelI
  split <;> simp

@[simp] theorem State.faultAgentI_rear (a : Agent) (reason : Nat) (loc : Loc) (inj : Bool) : (s.faultAgentI a reason loc inj).rear = s.rear := by
  unfold State.faultAgentI
  split <;> simp

@[simp] theorem State.faultAgent_rear (a : Agent) (reason : Nat) (loc : Loc) : (s.faultAgent a reason loc).rear = s.rear := s.faultAgentI_rear a reason loc false

@[simp] theorem State.abortAll_rear (f reason : Nat) : (s.abortAll f reason).rear = s.rear := s.foldl_rear (fun u k => u.markAbort_rear f k reason) _

@[simp] theorem State.clearPace_rear (f : Nat) : (s.clearPace f).rear = s.rear := by
  unfold State.clearPace
  simp

@[simp] theorem State.dropQueued_rear (f : Nat) : (s.dropQueued f).rear = s.rear :=
  (State.failLaunches_rear _ _ _ _).trans (s.modFr_rear f (fun q => { q with lq := [], stub := [] }) (fun _ => ⟨rfl, rfl, rfl⟩))

@[simp] theorem State.dropHeld_rear (f : Nat) : (s.dropHeld f).rear = s.rear :=
  (State.foldl_rear _ (fun u (a : HeldAcc) => u.faultAgent_rear a.agent 0x0601 (locFrondWhole f)) _).trans
    (s.modFr_rear f (fun q => { q with heldAcc := [] }) (fun _ => ⟨rfl, rfl, rfl⟩))

@[simp] theorem State.beginDrain_rear (f : Nat) : (s.beginDrain f).rear = s.rear := by
  unfold State.beginDrain
  split
  · exact s.modFr_rear f _ (fun _ => ⟨rfl, rfl, rfl⟩)
  · rw [State.dropHeld_rear, State.dropQueued_rear]
    exact s.modFr_rear f _ (fun _ => ⟨rfl, rfl, rfl⟩)

@[simp] theorem State.fenceFrondNow_rear (f : Nat) : (s.fenceFrondNow f).rear = s.rear := by
  unfold State.fenceFrondNow
  rw [State.distBump_rear, State.beginDrain_rear, State.modFr_rear _ f (fun q => { q with watch := [] }) (fun _ => ⟨rfl, rfl, rfl⟩)]
  simp

@[simp] theorem State.fenceFrond_rear (f reason : Nat) (loc : Loc) (wid : Bool) : (s.fenceFrond f reason loc wid).rear = s.rear := by
  unfold State.fenceFrond
  dsimp only
  split
  · unfold State.refence
    split
    · exact s.raise_rear _
    · exact s.raise_rear _
  · split
    · unfold State.defer
      split
      · exact s.raise_rear _
      · exact s.raise_rear _
    · rw [State.fenceFrondNow_rear, State.raise_rear]

@[simp] theorem State.bankCheck_rear (f bank : Nat) : (s.bankCheck f bank).rear = s.rear := by
  unfold State.bankCheck
  extract_lets l t
  have ht : t.rear = s.rear := s.modFr_rear f (fun q => { q with lsErr := l }) (fun _ => ⟨rfl, rfl, rfl⟩)
  clear_value t
  split
  · rw [State.fenceFrond_rear, ht]
  · exact ht

@[simp] theorem State.accFault_rear (a : Agent) (e : MErr) : (s.accFault a e).rear = s.rear := by
  unfold State.accFault
  dsimp only
  split <;> simp

end

/-! ### The store buffer written out -/

/-- The oldest entry leaves the buffer; its write is a store of its kernel, which may fault. -/
theorem State.sbWrite_rear {s : State} {f : Nat} {e : SbEntry} {rest : List SbEntry} (h : (s.fr f).sbuf = e :: rest) : (s.sbWrite f).rear =
    (s.modFr f (fun q => { q with sbuf := rest, sbCorr := q.sbCorr + (if popCount 39 e.bad = 1 then 1 else 0) })).rear := by
  unfold State.sbWrite
  rw [h]
  dsimp only
  generalize s.modFr f _ = t
  split
  · unfold State.sbFault
    simp
  · refine (State.foldl_rear _ (fun u r => ?_) _).trans (t.dropInj_rear 6 (sbKey f e.slot))
    have hw : ((u.bundleUse f (e.line * 128 + r.1) true).write (e.line * 128 + r.1) r.2).1.corps = u.corps := by simp
    split
    · next ew => exact State.rear_of_corps (u.corps_of_eq hw ew)
    · next ew => exact (State.accFault_rear _ _ _).trans (State.rear_of_corps (u.corps_of_eq hw ew))

theorem State.sbWrite_empty {s : State} {f : Nat} (h : (s.fr f).sbuf = []) : s.sbWrite f = s := by
  unfold State.sbWrite
  rw [h]

theorem State.sbWrite_sbuf (s : State) (f : Nat) : ((s.sbWrite f).fr f).sbuf = (s.fr f).sbuf.tail := by
  cases h : (s.fr f).sbuf with
  | nil => rw [State.sbWrite_empty h, h]; rfl
  | cons e rest =>
    rw [State.sbuf_of_rear (State.sbWrite_rear h), State.modFr, State.fr_setFr_same]
    rfl

/-- A store buffer written out leaves the arrays, the threads and which kernels there are. -/
theorem State.sbWrite_rear_snd (s : State) (f : Nat) : (s.sbWrite f).rear.2 = s.rear.2 := by
  cases h : (s.fr f).sbuf with
  | nil => rw [State.sbWrite_empty h]
  | cons e rest =>
    rw [State.sbWrite_rear h]
    rfl

theorem State.sbDrain_rear_snd (s : State) (f : Nat) : (s.sbDrain f).rear.2 = s.rear.2 :=
  foldl_keeps (p := fun u : State => u.rear.2 = s.rear.2) (fun u (_ : SbEntry) => u.sbWrite f) (fun u _ h => (u.sbWrite_rear_snd f).trans h) _ rfl

/-- A buffer written out is empty. -/
theorem State.sbDrain_sbuf (s : State) (f : Nat) : ((s.sbDrain f).fr f).sbuf = [] := by
  have key : ∀ (l : List SbEntry) (u : State), ((l.foldl (fun s _ => s.sbWrite f) u).fr f).sbuf = (u.fr f).sbuf.drop l.length := by
    intro l
    induction l with
    | nil => exact fun _ => rfl
    | cons x l ih =>
      intro u
      rw [List.foldl_cons, ih, State.sbWrite_sbuf, List.drop_tail, List.length_cons]
  unfold State.sbDrain
  rw [key, List.drop_length]

end Sys2Proof.Machine
end

section
/-!
PROOFS. Threads of a group that act in turn, and those that are ready.
-/

namespace Sys2Proof.Machine

set_option Elab.async false

/-! ### The threads of a group one after the other -/

theorem State.thr_modThr_ne (s : State) (f g : Nat) {h i : Nat} (φ : Thread → Thread) (hi : i ≠ h) : (s.modThr f g h φ).thr f g i = s.thr f g i :=
  State.thr_setThr_ne _ _ _ _ _ _ _ _ (by unfold thrKey; omega)

/-- Each of several threads changed: they alone, and each once. -/
theorem State.foldl_modThr (f g : Nat) (φ : Nat → Thread → Thread) (ts : List Nat) (hn : ts.Nodup) (s : State) :
    let t := ts.foldl (fun u h => u.modThr f g h (φ h)) s
    (∀ h ∈ ts, t.thr f g h = φ h (s.thr f g h)) ∧ (∀ h, h ∉ ts → t.thr f g h = s.thr f g h) ∧ t = { s with frd.thr := t.frd.thr } := by
  induction ts generalizing s with
  | nil => exact ⟨nofun, fun _ _ => rfl, rfl⟩
  | cons h ts ih =>
    rw [List.nodup_cons] at hn
    obtain ⟨hin, hout, hframe⟩ := ih hn.2 (s.modThr f g h (φ h))
    rw [List.foldl_cons]
    refine ⟨fun i hi => ?_, fun i hi => ?_, hframe⟩
    · rcases List.mem_cons.mp hi with rfl | hi
      · rw [hout i hn.1]
        exact State.thr_setThr_same _ _ _ _ _
      · rw [hin i hi, State.thr_modThr_ne _ _ _ _ (ne_of_mem_of_not_mem hi hn.1)]
    · rw [List.mem_cons, not_or] at hi
      rw [hout i hi.2, State.thr_modThr_ne _ _ _ _ hi.1]

/-- The threads ready to issue, in ascending index. -/
theorem State.readyThreads_sublist (s : State) (f g : Nat) : ((s.readyThreads f g).map Prod.fst).Sublist (List.range 32) := by
  unfold State.readyThreads
  split
  · exact List.nil_sublist _
  · next k q _ =>
    split
    · have e : ((List.range 32).filterMap (fun t =>
          if (s.thr f g t).live && s.waitOver f k (s.thr f g t).wait then some (t, (s.thr f g t).pc) else none)).map Prod.fst =
          (List.range 32).filter (fun t => (s.thr f g t).live && s.waitOver f k (s.thr f g t).wait) := by
        rw [List.map_filterMap, ← List.filterMap_eq_filter]
        congr 1
        funext t
        by_cases h : ((s.thr f g t).live && s.waitOver f k (s.thr f g t).wait) = true
        · simp [h, Option.guard]
        · simp [h, Option.guard]
      exact e ▸ List.filter_sublist
    · exact List.nil_sublist _

theorem State.Issues.sublist {s s' : State} {f g k : Nat} {q : Kernel} {ts : List Nat} (h : s.Issues f g s' k q ts) : ts.Sublist (List.range 32) := by
  obtain ⟨s0, pc, -, -, hp, -, -⟩ := h
  unfold State.pick at hp
  dsimp only at hp
  split at hp
  · cases hp
  · simp only [Prod.mk.injEq, Option.some.injEq] at hp
    obtain ⟨-, -, rfl⟩ := hp
    exact (List.filter_sublist.map _).trans (s.readyThreads_sublist f g)

/-- The threads that issue are distinct. -/
theorem State.Issues.nodup {s s' : State} {f g k : Nat} {q : Kernel} {ts : List Nat} (h : s.Issues f g s' k q ts) : ts.Nodup :=
  List.nodup_range.sublist h.sublist

theorem State.Issues.waited {s s' : State} {f g k : Nat} {q : Kernel} {ts : List Nat} (h : s.Issues f g s' k q ts) : s'.waited = false := by
  obtain ⟨-, -, -, -, -, -, hw⟩ := h
  exact hw

/-- With no register to read no thread traps, and none is counted. -/
theorem State.eachThread_nil (s : State) (f g mask : Nat) (ts : List Nat) (act : State → Nat → State) :
    s.eachThread f g mask [] ts act = ts.foldl (fun u h => if nbit mask h then act u h else u.advance f g h) s := rfl

end Sys2Proof.Machine
end

section
/-!
PROOFS. Fences of a thread (R114, Table 04-3).
-/

namespace Sys2Proof.Machine

set_option Elab.async false

/-! ### Fences -/

/-- What FENCE.L leaves of a thread. -/
def fenceLThr (mask h : Nat) (q : Thread) : Thread :=
  if nbit mask h then { q with pc := (q.pc + 8) % 2 ^ 48, wait := .ready, fences := q.fences + 1 } else { q with pc := (q.pc + 8) % 2 ^ 48, wait := .ready }

theorem State.setThr_setThr (s : State) (f g h : Nat) {v : Thread} (hv : v ≠ Thread.init) (w : Thread) : (s.setThr f g h v).setThr f g h w = s.setThr f g h w := by
  unfold State.setThr
  dsimp only
  rw [spPut_spPut (fun _ => Thread.init) s.frd.thr (k := thrKey f g h) hv w]

/-- FENCE.L of one thread is one change of it. -/
theorem State.fenceL_thread (s : State) (f g h : Nat) :
    (s.modThr f g h (fun q => { q with fences := q.fences + 1 })).advance f g h =
      s.modThr f g h (fun q => { q with pc := (q.pc + 8) % 2 ^ 48, wait := .ready, fences := q.fences + 1 }) := by
  unfold State.advance State.modThr
  rw [State.thr_setThr_same, State.setThr_setThr _ _ _ _ (by intro e; exact absurd (congrArg Thread.fences e) (Nat.succ_ne_zero _))]

/-- FENCE.L (R114). -/
theorem execFenceL_passes (s s' : State) (f g mask k : Nat) (ts : List Nat) (q : Kernel) (hi : s.Issues f g s' k q ts) :
    ∃ t, exec (.fenceL f g mask) s = .next t ∧
      (∀ h ∈ ts, t.thr f g h = if nbit mask h then { s'.thr f g h with
          pc := ((s'.thr f g h).pc + 8) % 2 ^ 48, wait := .ready, fences := (s'.thr f g h).fences + 1 }
        else { s'.thr f g h with pc := ((s'.thr f g h).pc + 8) % 2 ^ 48, wait := .ready }) ∧
      t.regs = s'.regs ∧ t.mem = s'.mem ∧ t.frd.frd = s'.frd.frd ∧ t.frd.gregs = s'.frd.gregs := by
  obtain ⟨hin, -, hframe⟩ := State.foldl_modThr f g (fenceLThr mask) ts hi.nodup s'
  have e : s'.eachThread f g mask [] ts (fun s t => (s.modThr f g t (fun q => { q with fences := q.fences + 1 })).advance f g t) =
      ts.foldl (fun u h => u.modThr f g h (fenceLThr mask h)) s' := by
    rw [State.eachThread_nil]
    congr 1
    funext u h
    unfold fenceLThr
    split
    · exact u.fenceL_thread f g h
    · rfl
  have hw : (ts.foldl (fun u h => u.modThr f g h (fenceLThr mask h)) s').waited = false := by rw [hframe]; exact hi.waited
  refine ⟨_, congrArg Host.Outcome.next (State.issue_issues hi (e.symm ▸ hw)), ?_⟩
  rw [e]
  refine ⟨hin, ?_, ?_, ?_, ?_⟩ <;> rw [hframe]

/-- The store buffer of a Frond is empty once a thread of those that issue has drained it. -/
theorem State.eachThread_emptied {p : State → Prop} {f g mask : Nat} {ts : List Nat} {act : State → Nat → State} (hact : ∀ u h, p (act u h))
    (hadv : ∀ u h, p u → p (u.advance f g h)) (s : State) (h : ∃ h ∈ ts, nbit mask h = true) : p (s.eachThread f g mask [] ts act) := by
  rw [State.eachThread_nil]
  induction ts generalizing s with
  | nil =>
    obtain ⟨h, hm, -⟩ := h
    cases hm
  | cons x ts ih =>
    have keep : ∀ (l : List Nat) u, p u → p (l.foldl (fun u h => if nbit mask h then act u h else u.advance f g h) u) := by
      intro l u hu
      refine foldl_keeps (p := p) _ (fun u h hu => ?_) l hu
      split
      · exact hact u h
      · exact hadv u h hu
    rw [List.foldl_cons]
    by_cases hx : nbit mask x = true
    · exact keep ts _ (by rw [if_pos hx]; exact hact _ _)
    · refine ih _ ?_
      obtain ⟨h, hm, hb⟩ := h
      exact ⟨h, (List.mem_cons.mp hm).resolve_left (fun e => hx (e ▸ hb)), hb⟩

/-- CINV of one thread (Table 04-3). -/
theorem State.cinv1_ok (s : State) (f g h va pa pte : Nat) (q : Kernel) :
    let r := s.xlate (some f) q.launch.asid q.launch.tenant va .r
    r.2 = .ok (pa, pte) →
    ∃ t, s.cinv1 f g q h va = t ∧ (t.fr f).dcache = (r.1.fr f).dcache.filter (fun d => d.line != pa / 128) ∧
      (t.thr f g h).pc = ((r.1.thr f g h).pc + 8) % 2 ^ 48 ∧ r.1.SameMem t ∧ t.regs = r.1.regs := by
  intro r hok
  have hr : s.xlate (some f) q.launch.asid q.launch.tenant va .r = (r.1, .ok (pa, pte)) := by rw [← hok]
  have e : s.cinv1 f g q h va = (r.1.dcDrop f (pa / 128)).advance f g h := by
    unfold State.cinv1
    rw [hr]
  refine ⟨_, e, ?_, ?_, fun _ => ⟨rfl, rfl, rfl, rfl⟩, rfl⟩
  · show ((r.1.dcDrop f (pa / 128)).fr f).dcache = _
    unfold State.dcDrop State.modFr
    rw [State.fr_setFr_same]
  · rw [State.advance_thr]
    rfl

/-- Settles O5. -/
theorem threadFences : Obligations.ThreadFences := by
  refine ⟨execFenceL_passes, ⟨?_, fun s f g h => ?_⟩, ⟨?_, fun s f g h => ?_⟩, ?_, State.cinv1_ok⟩
  · intro s s' f g mask k ts q t hi hh hw
    refine ⟨congrArg Host.Outcome.next ((if_neg (by rw [hh]; exact Bool.false_ne_true)).trans (State.issue_issues hi hw)), fun h => ?_⟩
    exact State.eachThread_emptied (p := fun u => (u.fr f).sbuf = []) (act := fun u h => (u.sbDrain f).advance f g h) (fun u h => u.sbDrain_sbuf f) (fun u h hu => hu) s' h
  · exact ⟨by rw [State.advance_thr], by rw [State.advance_thr], fun _ => ⟨rfl, rfl, rfl, rfl⟩, rfl, rfl⟩
  · intro s s' f g mask k ts q t hi hh hw
    refine ⟨congrArg Host.Outcome.next ((if_neg (by rw [hh]; exact Bool.false_ne_true)).trans (State.issue_issues hi hw)), fun h => ?_⟩
    refine State.eachThread_emptied (p := fun u => (u.fr f).sbuf = [] ∧ (u.fr f).dcache = []) (fun u h => ?_) (fun u h hu => hu) s' h
    show (((u.sbDrain f).dcClear f).fr f).sbuf = [] ∧ (((u.sbDrain f).dcClear f).fr f).dcache = []
    unfold State.dcClear State.modFr
    rw [State.fr_setFr_same]
    exact ⟨u.sbDrain_sbuf f, rfl⟩
  · refine ⟨?_, by rw [State.advance_thr]; rfl, fun _ => ⟨rfl, rfl, rfl, rfl⟩, rfl⟩
    show (((s.sbDrain f).dcClear f).fr f).dcache = []
    unfold State.dcClear State.modFr
    rw [State.fr_setFr_same]
  · intro s s' f g mask k reads vas ts q t hi hw
    exact congrArg Host.Outcome.next (State.issue_issues hi hw)

end Sys2Proof.Machine
end

section
/-!
PROOFS. Translation walks (R118, R123, R125).
-/

namespace Sys2Proof.Machine

set_option Elab.async false

/-! ### Registers and faults -/

theorem State.rword_rset_ne (s : State) (f : Fd) (v : Nat) {off : Nat} (h : off ≠ f.off) : (s.rset f v).rword off = s.rword off :=
  State.rword_setRword_ne _ _ h

theorem State.rword_raise (s : State) (a : RecArg) {off : Nat} (h : ¬ recSlot off) : (s.raise a).rword off = s.rword off := (s.raise_same a).rword off h

@[simp] theorem State.rword_addFence (s : State) (u : FUnit) (off : Nat) : (s.addFence u).rword off = s.rword off := by
  unfold State.addFence
  split <;> rfl

@[simp] theorem State.rword_markAbort (s : State) (f k reason off : Nat) : (s.markAbort f k reason).rword off = s.rword off := by
  unfold State.markAbort
  split
  · rfl
  · split
    · rfl
    · rw [State.rword_addFence]
      rfl

/-- A fault of a kernel writes no register outside the fault unit. -/
theorem State.rword_faultKernelI (s : State) (f k reason : Nat) (loc : Loc) (inj : Bool) {off : Nat} (h : ¬ recSlot off) :
    (s.faultKernelI f k reason loc inj).rword off = s.rword off := by
  unfold State.faultKernelI
  split
  · exact s.rword_raise _ h
  · rw [State.rword_markAbort, State.rword_raise _ _ h]

/-- A trap writes the registers of its trap, and none else outside the fault unit. -/
theorem State.rword_trapI (s : State) (f g t reason arg : Nat) (loc : Loc) (inj : Bool) {off : Nat} (h : ¬ recSlot off)
    (h1 : off ≠ (Fd.FRD_TG_STAT_TRAP_COUNT f).off) (h2 : off ≠ (Fd.FRD_TRAP_PC f).off) (h3 : off ≠ (Fd.FRD_TRAP_VALID f).off) :
    (s.trapI f g t reason arg loc inj).rword off = s.rword off := by
  unfold State.trapI
  split
  · rfl
  · split
    · rfl
    · split
      · exact State.rword_rset_ne _ _ _ h1
      · dsimp only
        rw [State.rword_markAbort, ← s.rword_raise _ h]
        split
        · rfl
        · rw [State.rword_rset_ne _ (Fd.FRD_TRAP_VALID f) _ h3, State.rword_rset_ne _ (Fd.FRD_TRAP_PC f) _ h2,
            State.rword_rset_ne _ (Fd.FRD_TRAP_CSEQ f) _ h2, State.rword_rset_ne _ (Fd.FRD_TRAP_THREAD f) _ h3,
            State.rword_rset_ne _ (Fd.FRD_TRAP_GROUP f) _ h3, State.rword_rset_ne _ (Fd.FRD_TRAP_KSLOT f) _ h3,
            State.rword_rset_ne _ (Fd.FRD_TRAP_CODE f) _ h3, State.rword_rset_ne _ (Fd.FRD_TRAP_ARG f) _ h3,
            State.rword_rset_ne _ (Fd.FRD_TRAP_KTAG f) _ h3]

/-! ### Walks -/

/-- A captured translation fault (R125). -/
theorem State.captureXlate_fields {s : State} {f agent asid va : Nat} {e : XErr} (h : s.rget (Fd.FRD_XLAT_FAULT_VALID f) = 0) (ha : agent < 4)
    (hva : va < 2 ^ 48) (has : asid < 4096) (hk : e.kind < 8) (hl : e.level < 4) :
    let t := s.captureXlate f agent asid va e
    t.rget (Fd.FRD_XLAT_FAULT_VALID f) = 1 ∧ t.rget (Fd.FRD_XLAT_FAULT_KIND f) = e.kind ∧ t.rget (Fd.FRD_XLAT_FAULT_LEVEL f) = e.level ∧
    t.rget (Fd.FRD_XLAT_FAULT_AGENT f) = agent ∧ t.rget (Fd.FRD_XLAT_FAULT_VA f) = va ∧ t.rget (Fd.FRD_XLAT_FAULT_ASID f) = asid := by
  unfold State.captureXlate
  rw [if_neg (by omega)]
  dsimp only
  simp only [Fd.FRD_XLAT_FAULT_VALID, Fd.FRD_XLAT_FAULT_KIND, Fd.FRD_XLAT_FAULT_LEVEL, Fd.FRD_XLAT_FAULT_AGENT, Fd.FRD_XLAT_FAULT_VA, Fd.FRD_XLAT_FAULT_ASID]
  refine ⟨?_, ?_, ?_, ?_, ?_, ?_⟩ <;> simp [State.rget_rset_same, State.rget_rset_ne] <;> omega

theorem State.tlb_of_corps {s t : State} (h : t.corps true = s.corps true) (f : Nat) : (t.fr f).tlb = (s.fr f).tlb := by
  have := congrArg (fun q : Frond => q.tlb) (State.steady_of_corps h f)
  exact this

/-- An address translated is among the Frond's cached translations (R118, R123). -/
theorem State.xlate_cached {s t : State} {f asid tenant va pa pte : Nat} {need : Need} (h : s.xlate (some f) asid tenant va need = (t, .ok (pa, pte))) :
    ∃ e ∈ (t.fr f).tlb, e.asid = asid ∧ e.vpage = va / 2 ^ e.bits := by
  unfold State.xlate at h
  extract_lets f' q cachedAsp asp s1 hit at h
  have h1 : (s1.fr f).tlb = (s.fr f).tlb := by
    unfold s1
    split
    · exact State.tlb_of_corps (s.tableTouch_corps _ _) f
    · rfl
  have hhit : ∀ e, hit = some e → e ∈ (s.fr f).tlb ∧ e.asid = asid ∧ e.vpage = va / 2 ^ e.bits := by
    intro e he
    have hf : (s.fr f).tlb.find? (fun e => e.asid == asid && e.vpage == va / 2 ^ e.bits) = some e := he
    have hp := List.find?_some hf
    simp only [Bool.and_eq_true, beq_iff_eq] at hp
    exact ⟨List.mem_of_find?_eq_some hf, hp⟩
  clear_value s1 asp hit
  split at h
  · cases h
  · split at h
    · cases h
    · cases h
    · extract_lets s2 start found s3 at h
      have h2 : (s2.fr f).tlb = (s.fr f).tlb := by
        unfold s2
        split
        · unfold State.modFr
          rw [show f' = f from rfl, State.fr_setFr_same]
          exact h1
        · exact h1
      clear_value s2 start s3
      split at h
      · cases h
      · split at h
        · cases h
        · cases hit with
          | some e =>
            dsimp only at h
            split at h
            · cases h
              obtain ⟨hm, hk⟩ := hhit e rfl
              exact ⟨e, h2 ▸ hm, hk⟩
            · cases h
          | none =>
            dsimp only at h
            split at h
            · cases h
            · clear_value found
              split at h
              · cases h
              · next p level seen =>
                have key : ∀ (bits : Nat) (u : State) (tl : List TlbE) (wl : List WalkE),
                    ∃ e ∈ ((u.modFr f (fun q => { q with tlb := ⟨asid, va / 2 ^ bits, bits, BitVec.ofNat 64 p⟩ :: tl, walk := wl })).fr f).tlb,
                      e.asid = asid ∧ e.vpage = va / 2 ^ e.bits := by
                  intro bits u tl wl
                  refine ⟨⟨asid, va / 2 ^ bits, bits, BitVec.ofNat 64 p⟩, ?_, rfl, rfl⟩
                  unfold State.modFr
                  rw [State.fr_setFr_same]
                  exact List.mem_cons_self
                simp only [Option.isSome_some, if_true] at h
                split at h
                all_goals
                  split at h
                  · cases h
                    exact key _ _ _ _
                  · cases h

/-- A walk that fails: the walker's fault is raised on the captured state (R125). -/
theorem State.walkFault_rword (u : State) (f g h k agent : Nat) (e : XErr) {off : Nat} (ho : ¬ recSlot off)
    (h1 : off ≠ (Fd.FRD_TG_STAT_TRAP_COUNT f).off) (h2 : off ≠ (Fd.FRD_TRAP_PC f).off) (h3 : off ≠ (Fd.FRD_TRAP_VALID f).off) :
    State.rword (if agent = 3 then u.trapI f g h e.reason 0 (fetchLoc f h) e.inj
      else if agent = 0 then u.xTrap f g h e else u.faultKernelI f k e.reason (atuLoc f) e.inj) off = u.rword off := by
  split
  · exact u.rword_trapI f g h _ _ _ _ ho h1 h2 h3
  · split
    · exact u.rword_trapI f g h _ _ _ _ ho h1 h2 h3
    · exact u.rword_faultKernelI f k _ _ _ ho

/-- TRANSLATION_WALK that fails. -/
theorem execTranslationWalk_fails (s : State) (f g h agent va k : Nat) (q : Kernel) (need : Need) (e : XErr) :
    let r := s.xlate (some f) q.launch.asid q.launch.tenant va need
    s.grpKernel f g = some (k, q) → r.2 = .error e → agent < 4 → va < 2 ^ 48 → q.launch.asid < 4096 → e.kind < 8 → e.level < 4 →
    r.1.waited = false → r.1.rget (Fd.FRD_XLAT_FAULT_VALID f) = 0 →
    ∃ t, exec (.translationWalk f g h agent va need) s = .next t ∧ t.rget (Fd.FRD_XLAT_FAULT_VALID f) = 1 ∧
      t.rget (Fd.FRD_XLAT_FAULT_KIND f) = e.kind ∧ t.rget (Fd.FRD_XLAT_FAULT_LEVEL f) = e.level ∧
      t.rget (Fd.FRD_XLAT_FAULT_AGENT f) = agent ∧ t.rget (Fd.FRD_XLAT_FAULT_VA f) = va ∧
      t.rget (Fd.FRD_XLAT_FAULT_ASID f) = q.launch.asid := by
  intro r hg herr ha hva has hk hl hw hv
  have hr : s.xlate (some f) q.launch.asid q.launch.tenant va need = (r.1, .error e) := by rw [← herr]
  clear_value r
  let u := r.1.captureXlate f agent q.launch.asid va e
  let t := if agent = 3 then u.trapI f g h e.reason 0 (fetchLoc f h) e.inj
      else if agent = 0 then u.xTrap f g h e else u.faultKernelI f k e.reason (atuLoc f) e.inj
  have hu : u.waited = false := ((State.Keeps.refl (c := true) r.1).captureXlate).waited rfl hw
  have ht : t.waited = false := by
    unfold t
    split
    · exact ((State.Keeps.refl (c := true) u).trapI).waited rfl hu
    · split
      · exact ((State.Keeps.refl (c := true) u).trapI).waited rfl hu
      · exact ((State.Keeps.refl (c := true) u).faultKernelI).waited rfl hu
  have hreg : ∀ fd : Fd, fd.off = 0x2000F0 + f * 0x10000 ∨ fd.off = 0x2000F8 + f * 0x10000 → t.rget fd = u.rget fd := by
    intro fd hfd
    unfold State.rget
    rw [State.walkFault_rword]
    · unfold recSlot
      simp only [Fd.HPT_ATS_STAT_FAILS]
      omega
    · simp only [Fd.FRD_TG_STAT_TRAP_COUNT]
      omega
    · simp only [Fd.FRD_TRAP_PC]
      omega
    · simp only [Fd.FRD_TRAP_VALID]
      omega
  obtain ⟨hvalid, hkind, hlevel, hagent, hvaf, hasid⟩ := State.captureXlate_fields (e := e) hv ha hva has hk hl
  refine ⟨t, congrArg Host.Outcome.next (State.attempt_eq ?_ ht), (hreg _ (.inl rfl)).trans hvalid, (hreg _ (.inl rfl)).trans hkind,
    (hreg _ (.inl rfl)).trans hlevel, (hreg _ (.inl rfl)).trans hagent, (hreg _ (.inl rfl)).trans hvaf, (hreg _ (.inr ?_)).trans hasid⟩
  · rw [hg]
    dsimp only
    rw [hr]
  · simp only [Fd.FRD_XLAT_FAULT_ASID]
    omega

/-- Settles O6. -/
theorem translationWalk : Obligations.TranslationWalk := by
  refine ⟨fun s f g h agent va k pa pte q need => ?_, execTranslationWalk_fails⟩
  intro r hg hok hw
  have hr : s.xlate (some f) q.launch.asid q.launch.tenant va need = (r.1, .ok (pa, pte)) := by rw [← hok]
  refine ⟨r.1, congrArg Host.Outcome.next (State.attempt_eq ?_ hw), rfl, State.xlate_cached hr⟩
  rw [hg]
  dsimp only
  rw [hr]

end Sys2Proof.Machine
end

section
/-!
PROOFS. DMA commands (R127–R130): the completion of a descriptor whose index is also to be discarded.
-/

namespace Sys2Proof.Machine

set_option Elab.async false

/-! ### A completed ring command, and the next one of its descriptor -/

/-- A command of descriptor 0 of ring 0: the first of a channel performed (phase 1), the second failed (phase 2). -/
def ringCmd (phase : Nat) : DmaCmd := ⟨0#64, 0#64, 0#64, 0#64, .ring 0 0, 0, 0, false, false, none, phase⟩

/-- The descriptor both commands stand for. -/
def ringStarted : Started := ⟨0, ⟨0#64, 0#64, 0#64, 0#64, 0#64, 0#64, 0#64, 0#64⟩, false, 0, 0, 0, 0, 0⟩

/-- Ring 0 was disabled while its descriptor 0 ran, and channel 0 of Frond 0 holds a performed and a failed command of it. -/
def discardedTwice : State :=
  (State.reset.setDma 0 0 ⟨[ringCmd 1, ringCmd 2], none⟩).modRing 0 (fun q => { q with started := [ringStarted], discard := [0] })

theorem discardedTwice_queue : (discardedTwice.dma 0 0).queue = [ringCmd 1, ringCmd 2] := by decide +kernel

theorem discardedTwice_still : discardedTwice.endpointSwitching 6 0 = false := by decide +kernel

/-- The performed command completes, and the failed one leaves with it. -/
theorem discardedTwice_completed : (((discardedTwice.doneDma 0 0).complete 0 0 0 0 0).dma 0 0).queue = [] := by decide +kernel

theorem execDmaComplete_discardedTwice : exec (.dmaComplete 0 0) discardedTwice = .next ((discardedTwice.doneDma 0 0).complete 0 0 0 0 0) := by
  refine congrArg Host.Outcome.next ?_
  rw [discardedTwice_queue]
  dsimp only
  rw [discardedTwice_still, if_neg (by decide), if_neg (by decide)]
  rfl

/-- Refutes O7: the completion of a descriptor whose ring was disabled resumes the channels it halted, so the failed command behind the
completed one leaves the channel too, and `drop 1` of the queue is not what remains. -/
theorem not_dmaCommands : ¬ Obligations.DmaCommands := by
  intro h
  obtain ⟨-, -, -, -, hring⟩ := h
  have hno : ¬ bit (ringCmd 1).w0 34 = true := by decide
  have h5 := hring discardedTwice 0 0 0 0 (ringCmd 1) [ringCmd 2] ringStarted
  rw [if_neg hno] at h5
  obtain ⟨t, he, hq, -, -⟩ := h5 discardedTwice_queue rfl discardedTwice_still rfl rfl (by decide +kernel)
  have ht := Host.Outcome.next.inj (execDmaComplete_discardedTwice.symm.trans he)
  rw [← ht, discardedTwice_completed, discardedTwice_queue] at hq
  exact absurd hq (by decide)

end Sys2Proof.Machine
end

section
/-!
PROOFS. Sleep states of a Frond (R131–R135).
-/

namespace Sys2Proof.Machine

set_option Elab.async false

/-! ### Fences stay -/

section
variable {u : FUnit} {s : State}

theorem State.mem_fences_of_flt {t : State} (h : u ∈ s.flt.fences) (e : t.flt = s.flt) : u ∈ t.flt.fences := e ▸ h

theorem State.mem_fences_modFr (h : u ∈ s.flt.fences) (f : Nat) (g : Frond → Frond) : u ∈ (s.modFr f g).flt.fences := h

theorem State.mem_fences_foldl {α : Type} {g : State → α → State} (hg : ∀ (v : State) x, u ∈ v.flt.fences → u ∈ (g v x).flt.fences) (l : List α)
    (h : u ∈ s.flt.fences) : u ∈ (l.foldl g s).flt.fences := foldl_keeps (p := fun v => u ∈ v.flt.fences) g hg l h

theorem State.mem_fences_raise (h : u ∈ s.flt.fences) (a : RecArg) : u ∈ (s.raise a).flt.fences := by
  rw [(s.raise_same a).fences]
  exact h

theorem State.mem_fences_markAbort (h : u ∈ s.flt.fences) (f k reason : Nat) : u ∈ (s.markAbort f k reason).flt.fences := by
  unfold State.markAbort
  split
  · exact h
  · split
    · exact h
    · exact (State.mem_addFence _ _ _).mpr (.inr h)

theorem State.mem_fences_faultAgent (h : u ∈ s.flt.fences) (a : Agent) (reason : Nat) (loc : Loc) : u ∈ (s.faultAgent a reason loc).flt.fences := by
  unfold State.faultAgent State.faultAgentI
  split
  · unfold State.faultKernelI
    split
    · exact State.mem_fences_raise h _
    · exact State.mem_fences_markAbort (State.mem_fences_raise h _) _ _ _
  · exact State.mem_fences_raise h _
  · exact State.mem_fences_raise h _

theorem State.mem_fences_complete (h : u ∈ s.flt.fences) (r i status reason result : Nat) : u ∈ (s.complete r i status reason result).flt.fences := by
  unfold State.complete
  split
  · exact h
  · dsimp only
    split
    · refine State.mem_fences_foldl (fun v f hv => State.mem_fences_foldl (fun w c hw => ?_) _ hv) _ h
      split
      · split
        · rw [State.rset_flt]
          exact hw
        · exact hw
      · exact hw
    · split
      · rw [State.radd_flt, State.radd_flt]
        exact h
      · rw [State.radd_flt]
        exact h

theorem State.mem_fences_failLaunches (h : u ∈ s.flt.fences) (f reason : Nat) (l : List Launch) : u ∈ (s.failLaunches f reason l).flt.fences := by
  unfold State.failLaunches
  refine State.mem_fences_foldl (fun v x hv => ?_) l h
  unfold State.kernelDone
  split
  · unfold State.launchDone
    split
    · exact hv
    · dsimp only
      split
      · exact State.mem_fences_complete (s := v.modRing _ _) hv _ _ _ _ _
      · exact hv
  · unfold State.stepKernelDone
    split
    · exact hv
    · exact hv

theorem State.mem_fences_dropQueued (h : u ∈ s.flt.fences) (f : Nat) : u ∈ (s.dropQueued f).flt.fences :=
  State.mem_fences_failLaunches (s := s.modFr f (fun q => { q with lq := [], stub := [] })) h f 0x0601 _

theorem State.mem_fences_dropHeld (h : u ∈ s.flt.fences) (f : Nat) : u ∈ (s.dropHeld f).flt.fences :=
  State.mem_fences_foldl (s := s.modFr f (fun q => { q with heldAcc := [] }))
    (fun _ (a : HeldAcc) hv => State.mem_fences_faultAgent hv a.agent 0x0601 (locFrondWhole f)) _ h

theorem State.mem_fences_abortAll (h : u ∈ s.flt.fences) (f reason : Nat) : u ∈ (s.abortAll f reason).flt.fences := by
  unfold State.abortAll
  exact State.mem_fences_foldl (fun _ k hv => State.mem_fences_markAbort hv f k reason) _ h

theorem State.mem_fences_beginDrain (h : u ∈ s.flt.fences) (f : Nat) : u ∈ (s.beginDrain f).flt.fences := by
  unfold State.beginDrain
  split
  · exact h
  · exact State.mem_fences_dropHeld (State.mem_fences_dropQueued (s := s.modFr f _) h f) f

end

@[simp] theorem State.clearPace_flt (s : State) (f : Nat) : (s.clearPace f).flt = s.flt := by
  unfold State.clearPace
  rw [State.rset_flt, State.rset_flt, State.rset_flt, State.rset_flt]

theorem State.mem_fences_fenceFrondNow (s : State) (f : Nat) : FUnit.frond f ∈ (s.fenceFrondNow f).flt.fences := by
  have h1 : FUnit.frond f ∈ (s.addFence (.frond f)).flt.fences := (State.mem_addFence _ _ _).mpr (.inl rfl)
  have h2 := State.mem_fences_abortAll h1 f 0x0601
  rw [← State.clearPace_flt _ f] at h2
  unfold State.fenceFrondNow
  rw [State.distBump_flt]
  exact State.mem_fences_beginDrain (State.mem_fences_modFr h2 f _) f

/-- A fence at Frond level outside a switch and of a Frond not yet fenced (R599). -/
theorem State.fenceFrond_fences {s : State} {f : Nat} (hf : s.fencedIn (.frond f) = false) (hs : s.switching = none) (reason : Nat) (loc : Loc) (wid : Bool) :
    FUnit.frond f ∈ (s.fenceFrond f reason loc wid).flt.fences := by
  unfold State.fenceFrond
  dsimp only
  rw [hf, if_neg Bool.false_ne_true, State.switching_of_corps (State.raise_corps _ _), hs, if_neg (by simp)]
  exact State.mem_fences_fenceFrondNow _ f

/-! ### Entries into sleep -/

theorem State.sleepEnter_enters {s : State} {f depth : Nat} (hu : s.frondUp f = true) (hi : s.idle f = true) (hs : s.sleep f + 1 = depth)
    (hfl : depth ≤ s.rget (Fd.FRD_SLEEP_CTL_FLOOR f)) (hd : s.idleDue f depth ≤ s.clock - (s.fr f).idleFrom) :
    let t := s.sleepEnter f depth
    t.rget (Fd.FRD_SLEEP_STAT_STATE f) = depth ∧ t.rget (Fd.FRD_SLEEP_STAT_ENTERING f) = 1 ∧
      s.SameRegs t (· = (Fd.FRD_SLEEP_STAT_STATE f).off) ∧ s.SameMem t ∧ t.frd = s.frd := by
  have hfl4 : s.rget (Fd.FRD_SLEEP_CTL_FLOOR f) < 4 := Nat.mod_lt _ (show 0 < 2 ^ (49 + 1 - 48) by decide)
  unfold State.sleepEnter
  rw [if_pos (by simp [hu, hi, hs, hfl, hd])]
  refine ⟨?_, ?_, fun off ho => ?_, fun _ => ⟨rfl, rfl, rfl, rfl⟩, rfl⟩
  · have : depth % 4 = depth := Nat.mod_eq_of_lt (by omega)
    simp only [Fd.FRD_SLEEP_STAT_STATE, Fd.FRD_SLEEP_STAT_ENTERING]
    simp [State.rget_rset_same, State.rget_rset_ne, this]
  · simp only [Fd.FRD_SLEEP_STAT_ENTERING]
    simp [State.rget_rset_same]
  · rw [State.rword_rset_ne _ (Fd.FRD_SLEEP_STAT_ENTERING f) _ ho, State.rword_rset_ne _ (Fd.FRD_SLEEP_STAT_STATE f) _ ho]
    rfl

/-! ### Ends of entries -/

/-- Each of several arrays of a Frond changed: they alone, and each once. -/
theorem State.foldl_modArr (f : Nat) (φ : Arr → Arr) (l : List Nat) (hn : l.Nodup) (s : State) :
    let t := l.foldl (fun u a => u.modArr f a φ) s
    (∀ a ∈ l, t.arr f a = φ (s.arr f a)) ∧ (∀ a, a ∉ l → t.arr f a = s.arr f a) ∧ t = { s with frd.arr := t.frd.arr } := by
  have hne : ∀ (u : State) {a i : Nat}, i ≠ a → (u.modArr f a φ).arr f i = u.arr f i := fun u a i hi =>
    State.arr_setArr_ne _ _ _ _ _ _ (by omega)
  induction l generalizing s with
  | nil => exact ⟨nofun, fun _ _ => rfl, rfl⟩
  | cons h ts ih =>
    rw [List.nodup_cons] at hn
    obtain ⟨hin, hout, hframe⟩ := ih hn.2 (s.modArr f h φ)
    rw [List.foldl_cons]
    refine ⟨fun i hi => ?_, fun i hi => ?_, hframe⟩
    · rcases List.mem_cons.mp hi with rfl | hi
      · rw [hout i hn.1]
        exact State.arr_modArr_same _ _ _ _
      · rw [hin i hi, hne s (ne_of_mem_of_not_mem hi hn.1)]
    · rw [List.mem_cons, not_or] at hi
      rw [hout i hi.2, hne s hi.1]

/-- What an array keeps of its state in Night and Dark (R131). -/
def Arr.asleep (q : Arr) : Arr := { Arr.init with seqUp := q.seqUp, test := q.test, accCorr := q.accCorr, doneTag := q.doneTag }

theorem State.logicLost_leaves (s : State) (f : Nat) : let t := s.logicLost f
    (∀ a, a < 8 → t.arr f a = (s.arr f a).asleep) ∧ t.regs = s.regs ∧ t.part = s.part ∧ t.mem = s.mem := by
  obtain ⟨hin, -, hframe⟩ := State.foldl_modArr f Arr.asleep (List.range 8) List.nodup_range s
  have ht : s.logicLost f = ((List.range 8).foldl (fun u a => u.modArr f a Arr.asleep) s).modFr f
    (fun q => { q with dcache := [], icache := [], icacheBad := [], icacheTenant := none, tlb := [], walk := [], asp := [] }) := rfl
  generalize (List.range 8).foldl (fun u a => u.modArr f a Arr.asleep) s = u at hin hframe ht
  rw [ht]
  refine ⟨fun a ha => hin a (List.mem_range.mpr ha), ?_, ?_, ?_⟩
  · have h := congrArg State.regs hframe
    exact h
  · have h := congrArg State.part hframe
    exact h
  · have h := congrArg State.mem hframe
    exact h

/-- SLEEP_ENTRY_COMPLETE (R131). -/
theorem execSleepEntryComplete_ends (s : State) (f : Nat) (he : s.entering f = true) :
    ∃ u, u.rget (Fd.FRD_SLEEP_STAT_ENTERING f) = 0 ∧ u.sleep f = s.sleep f ∧
      (2 ≤ s.sleep f → ∀ a, a < 8 → u.arr f a =
        { Arr.init with seqUp := (s.arr f a).seqUp, test := (s.arr f a).test, accCorr := (s.arr f a).accCorr, doneTag := (s.arr f a).doneTag }) ∧
      (s.sleep f < 2 → ∀ a, u.arr f a = s.arr f a) ∧ s.SameRegs u (· = (Fd.FRD_SLEEP_STAT_STATE f).off) ∧ s.SameMem u ∧
      exec (.sleepEntryComplete f) s = .next (if s.rget (Fd.FRD_SLEEP_STAT_WAKE_PENDING f) = 1 then
        ((u.serveHeld f).drainDue f).wakeStart f false else (u.serveHeld f).drainDue f) := by
  obtain ⟨s1, hs1⟩ : ∃ s1, s1 = s.rset (Fd.FRD_SLEEP_STAT_ENTERING f) 0 := ⟨_, rfl⟩
  obtain ⟨s2, hs2⟩ : ∃ s2, s2 = if s1.sleep f ≥ 2 then s1.logicLost f else s1 := ⟨_, rfl⟩
  have hsleep : s1.sleep f = s.sleep f := by
    rw [hs1]
    unfold State.sleep
    simp only [Fd.FRD_SLEEP_STAT_STATE, Fd.FRD_SLEEP_STAT_ENTERING]
    simp [State.rget_rset_ne]
  have hent : s1.rget (Fd.FRD_SLEEP_STAT_ENTERING f) = 0 := by
    rw [hs1]
    simp only [Fd.FRD_SLEEP_STAT_ENTERING]
    simp [State.rget_rset_same]
  have h1 : s1.frd = s.frd ∧ s1.mem = s.mem := by rw [hs1]; exact ⟨rfl, rfl⟩
  obtain ⟨hlost, hregs, hpart, hmem⟩ := s1.logicLost_leaves f
  have h2 : s2.regs = s1.regs ∧ s2.part = s1.part ∧ s2.mem = s1.mem := by
    rw [hs2]
    split
    · exact ⟨hregs, hpart, hmem⟩
    · exact ⟨rfl, rfl, rfl⟩
  obtain ⟨hr, hp, hm⟩ := h2
  refine ⟨s2.modFr f (fun q => { q with idleFrom := s2.clock }), ?_, ?_, fun h a ha => ?_, fun h a => ?_, fun off ho => ?_, fun a => ?_, ?_⟩
  · show s2.rget (Fd.FRD_SLEEP_STAT_ENTERING f) = 0
    rw [State.rget_congr hr hp, hent]
  · show s2.sleep f = s.sleep f
    rw [← hsleep]
    exact State.rget_congr hr hp _
  · show s2.arr f a = _
    rw [hs2, if_pos (by omega), hlost a ha, State.arr_congr h1.1]
    rfl
  · show s2.arr f a = _
    rw [hs2, if_neg (by omega), State.arr_congr h1.1]
  · have h3 : s2.rword off = s1.rword off := by unfold State.rword; rw [hr, hp]
    refine Eq.trans h3 ?_
    rw [hs1]
    exact State.rword_rset_ne _ (Fd.FRD_SLEEP_STAT_ENTERING f) _ ho
  · show memGet s2.mem.dram a = _ ∧ memGet s2.mem.thl a = _ ∧ memGet s2.mem.ls a = _ ∧ memGet s2.mem.host a = _
    rw [hm, h1.2]
    exact ⟨rfl, rfl, rfl, rfl⟩
  · refine congrArg Host.Outcome.next ?_
    rw [if_pos he]
    dsimp only
    rw [← hs1, ← hs2]
    simp only [beq_iff_eq]

/-! ### Wakes -/

/-- A memory with the cells of some addresses removed. -/
theorem memGet_filter (m : List Host.Cell) (p : Nat → Bool) (a : Nat) : memGet (m.filter (fun c => p c.1)) a = if p a then memGet m a else 0#8 := by
  induction m with
  | nil => exact (ite_self _).symm
  | cons c m ih =>
    unfold memGet at ih ⊢
    obtain ⟨j, v⟩ := c
    by_cases hj : p j = true
    · rw [List.filter_cons_of_pos (p := fun c : Host.Cell => p c.1) hj]
      by_cases ha : j = a
      · subst ha
        simp [spGet, hj]
      · simp [spGet, ha, ih]
    · rw [List.filter_cons_of_neg (p := fun c : Host.Cell => p c.1) hj, ih]
      by_cases ha : j = a
      · subst ha
        simp [hj]
      · simp [spGet, ha]

/-- What a wake that starts leaves (R131, R133). -/
theorem State.wakeStart_leaves (s : State) (f : Nat) (slow : Bool) : let t := s.wakeStart f slow
    (t.fr f).waking = true ∧ (t.fr f).wakeSlow = slow ∧ (t.fr f).wakeFrom = s.sleep f ∧ (t.fr f).wakeAt = s.clock ∧
    t.rget (Fd.FRD_SLEEP_STAT_WAKE_PENDING f) = 0 ∧ t.sleep f = 0 ∧
    s.SameRegs t (fun o => o = (Fd.FRD_SLEEP_STAT_STATE f).off ∨ (slow = true ∧ o = Fd.PWR_CAP_STAT_SLOW.off)) ∧
    (s.sleep f ≠ 3 → s.SameMem t) ∧ (s.sleep f = 3 → (∀ o, o < 2 ^ 24 → memGet t.mem.ls (lsKey f o) = 0#8) ∧
      ∀ a, a / 2 ^ 24 ≠ f → memGet t.mem.ls a = memGet s.mem.ls a) := by
  obtain ⟨s1, hs1⟩ : ∃ s1, s1 = if slow && decide (2 ≤ s.sleep f) then s.radd Fd.PWR_CAP_STAT_SLOW 1 else s := ⟨_, rfl⟩
  obtain ⟨s2, hs2⟩ : ∃ s2, s2 = if s.sleep f = 3 then s1.lsZero f else s1 := ⟨_, rfl⟩
  have e : s.wakeStart f slow = ((s2.rset (Fd.FRD_SLEEP_STAT_WAKE_PENDING f) 0).rset (Fd.FRD_SLEEP_STAT_STATE f) 0).modFr f
      (fun q => { q with waking := true, wakeSlow := slow, wakeFrom := s.sleep f, wakeAt := s2.clock }) := by
    rw [hs2, hs1]
    rfl
  have h1 : s1.mem = s.mem ∧ s1.clock = s.clock := by
    rw [hs1]
    split <;> exact ⟨rfl, rfl⟩
  have h2 : s2.regs = s1.regs ∧ s2.part = s1.part ∧ s2.clock = s1.clock := by
    rw [hs2]
    split <;> exact ⟨rfl, rfl, rfl⟩
  rw [e]
  obtain ⟨s3, hs3⟩ : ∃ s3, s3 = (s2.rset (Fd.FRD_SLEEP_STAT_WAKE_PENDING f) 0).rset (Fd.FRD_SLEEP_STAT_STATE f) 0 := ⟨_, rfl⟩
  have h3 : s3.mem = s2.mem := by rw [hs3]; rfl
  rw [← hs3]
  intro t
  have hfr : t.fr f = { s3.fr f with waking := true, wakeSlow := slow, wakeFrom := s.sleep f, wakeAt := s2.clock } := State.fr_setFr_same _ _ _
  have hm : t.mem = s2.mem := h3
  have hreg : ∀ off, t.rword off = s3.rword off := fun _ => rfl
  clear_value t
  refine ⟨by rw [hfr], by rw [hfr], by rw [hfr], by rw [hfr, h2.2.2, h1.2], ?_, ?_, fun off ho => ?_, fun h a => ?_, fun h => ?_⟩
  · unfold State.rget
    rw [hreg, hs3]
    change State.rget _ _ = 0
    simp only [Fd.FRD_SLEEP_STAT_WAKE_PENDING, Fd.FRD_SLEEP_STAT_STATE]
    simp [State.rget_rset_same, State.rget_rset_ne]
  · unfold State.sleep State.rget
    rw [hreg, hs3]
    change State.rget _ _ = 0
    simp only [Fd.FRD_SLEEP_STAT_STATE]
    simp [State.rget_rset_same]
  · rw [not_or, not_and] at ho
    rw [hreg, hs3, State.rword_rset_ne _ (Fd.FRD_SLEEP_STAT_STATE f) _ ho.1, State.rword_rset_ne _ (Fd.FRD_SLEEP_STAT_WAKE_PENDING f) _ ho.1]
    have : s2.rword off = s1.rword off := by unfold State.rword; rw [h2.1, h2.2.1]
    rw [this, hs1]
    split
    · next hc =>
      simp only [Bool.and_eq_true] at hc
      exact State.rword_rset_ne _ Fd.PWR_CAP_STAT_SLOW _ (ho.2 hc.1)
    · rfl
  · rw [hm, hs2, if_neg h, h1.1]
    exact ⟨rfl, rfl, rfl, rfl⟩
  · have hls : t.mem.ls = s.mem.ls.filter (fun c => c.1 / 2 ^ 24 != f) := by
      rw [hm, hs2, if_pos h]
      show s1.mem.ls.filter _ = _
      rw [h1.1]
    rw [hls]
    refine ⟨fun o ho => ?_, fun a ha => ?_⟩
    · have hk : lsKey f o / 2 ^ 24 = f := by unfold lsKey; omega
      exact (memGet_filter s.mem.ls (fun k => k / 2 ^ 24 != f) _).trans (if_neg (by rw [hk, bne_self_eq_false]; exact Bool.false_ne_true))
    · exact (memGet_filter s.mem.ls (fun k => k / 2 ^ 24 != f) _).trans (if_pos (by simpa using ha))

/-- A wake request of a Frond asleep (R131, R134). -/
theorem execWakeRequest_wakes (s : State) (f : Nat) (slow : Bool) (hf : f < s.fronds) (he : s.entering f = false) (hs : s.sleep f ≠ 0)
    (hw : (s.fr f).waking = false) : exec (.wakeRequest f slow) s = .next (s.wakeStart f slow) := by
  refine congrArg Host.Outcome.next ((if_pos hf).trans ?_)
  unfold State.wakeReq
  rw [he, hw, if_neg Bool.false_ne_true, if_neg (by simpa using hs)]

/-- A wake request during an entry is latched (R131). -/
theorem execWakeRequest_latches (s : State) (f : Nat) (slow : Bool) (hf : f < s.fronds) (he : s.entering f = true) :
    ∃ t, exec (.wakeRequest f slow) s = .next t ∧ t.rget (Fd.FRD_SLEEP_STAT_WAKE_PENDING f) = 1 ∧ t.frd = s.frd ∧ s.SameMem t ∧
      s.SameRegs t (· = (Fd.FRD_SLEEP_STAT_STATE f).off) := by
  refine ⟨s.rset (Fd.FRD_SLEEP_STAT_WAKE_PENDING f) 1, congrArg Host.Outcome.next ((if_pos hf).trans (if_pos he)), ?_, rfl,
    fun _ => ⟨rfl, rfl, rfl, rfl⟩, fun off ho => State.rword_rset_ne _ (Fd.FRD_SLEEP_STAT_WAKE_PENDING f) _ ho⟩
  simp only [Fd.FRD_SLEEP_STAT_WAKE_PENDING]
  simp [State.rget_rset_same]

@[simp] theorem State.reloaded_frame (s : State) (f : Nat) : (s.reloaded f).regs = s.regs ∧ (s.reloaded f).part = s.part ∧ (s.reloaded f).mem = s.mem ∧
    (s.reloaded f).frd = s.frd := by
  unfold State.reloaded
  split <;> exact ⟨rfl, rfl, rfl, rfl⟩

/-- WAKE_COMPLETE (R131, R133). -/
theorem execWakeComplete_runs (s : State) (f : Nat) (hw : (s.fr f).waking = true) :
    ∃ u, u.sleep f = 0 ∧ (u.fr f).waking = false ∧ (u.fr f).lq = (s.fr f).lq ++ (s.fr f).stub ∧ (u.fr f).stub = [] ∧ s.SameMem u ∧
      s.SameRegs u (· = (Fd.FRD_SLEEP_STAT_STATE f).off) ∧ (u.fr f).heldAcc = (s.fr f).heldAcc ∧
      exec (.wakeComplete f) s = .next ((u.serveHeld f).drainDue f) := by
  obtain ⟨s1, hs1⟩ : ∃ s1, s1 = (s.modFr f (fun q => { q with waking := false, idleFrom := s.clock })).rset (Fd.FRD_SLEEP_STAT_STATE f) 0 := ⟨_, rfl⟩
  obtain ⟨s2, hs2⟩ : ∃ s2, s2 = if (s.fr f).wakeFrom == 3 then s1.reloaded f else s1 := ⟨_, rfl⟩
  have hfr1 : s1.fr f = { s.fr f with waking := false, idleFrom := s.clock } := by
    rw [hs1]
    exact State.fr_setFr_same _ _ _
  have h2 : s2.regs = s1.regs ∧ s2.part = s1.part ∧ s2.mem = s1.mem ∧ s2.frd = s1.frd := by
    rw [hs2]
    split
    · exact s1.reloaded_frame f
    · exact ⟨rfl, rfl, rfl, rfl⟩
  obtain ⟨hr, hp, hm, hfrd⟩ := h2
  have hfr2 : s2.fr f = { s.fr f with waking := false, idleFrom := s.clock } := by
    rw [← hfr1]
    unfold State.fr
    rw [hfrd]
  obtain ⟨u, hu⟩ : ∃ u, u = s2.modFr f (fun q => { q with lq := q.lq ++ q.stub, stub := [] }) := ⟨_, rfl⟩
  have hfr : u.fr f = { s.fr f with waking := false, idleFrom := s.clock, lq := (s.fr f).lq ++ (s.fr f).stub, stub := [] } := by
    rw [hu]
    unfold State.modFr
    rw [State.fr_setFr_same, hfr2]
  have hreg : ∀ off, u.rword off = s1.rword off := by
    intro off
    rw [hu]
    show s2.rword off = _
    unfold State.rword
    rw [hr, hp]
  refine ⟨u, ?_, by rw [hfr], by rw [hfr], by rw [hfr], fun a => ?_, fun off ho => ?_, by rw [hfr], ?_⟩
  · unfold State.sleep State.rget
    rw [hreg, hs1]
    change State.rget _ _ = 0
    simp only [Fd.FRD_SLEEP_STAT_STATE]
    simp [State.rget_rset_same]
  · have : u.mem = s.mem := by
      rw [hu]
      show s2.mem = _
      rw [hm, hs1]
      rfl
    rw [this]
    exact ⟨rfl, rfl, rfl, rfl⟩
  · rw [hreg, hs1, State.rword_rset_ne _ (Fd.FRD_SLEEP_STAT_STATE f) _ ho]
    rfl
  · refine congrArg Host.Outcome.next ((if_pos hw).trans ?_)
    dsimp only
    rw [← hs1, ← hs2, ← hu]

/-- WAKE_TIMEOUT (R135). -/
theorem execWakeTimeout_fences (s : State) (f : Nat) (hw : (s.fr f).waking = true)
    (hlate : 100 * wakeUs (s.fr f).wakeFrom (s.fr f).wakeSlow < s.clock - (s.fr f).wakeAt) (hf : s.fencedIn (.frond f) = false) (hs : s.switching = none) :
    ∃ t, exec (.wakeTimeout f) s = .next t ∧ (t.fr f).waking = false ∧ FUnit.frond f ∈ t.flt.fences := by
  obtain ⟨s1, hs1⟩ : ∃ s1, s1 = ({ s with boot.wakeFenced := insNat s.boot.wakeFenced f } : State).modFr f
    (fun q => { q with waking := false, drainPend := false }) := ⟨_, rfl⟩
  have hw1 : (s1.fr f).waking = false := by
    rw [hs1]
    unfold State.modFr
    rw [State.fr_setFr_same]
  have hf1 : s1.fencedIn (.frond f) = false := by rw [hs1]; exact hf
  have hsw1 : s1.switching = none := by rw [hs1]; exact hs
  have hmem := State.fenceFrond_fences hf1 hsw1 0x020D (locFrondWhole f) false
  have hrear := s1.fenceFrond_rear f 0x020D (locFrondWhole f) false
  obtain ⟨s2, hs2⟩ : ∃ s2, s2 = s1.fenceFrond f 0x020D (locFrondWhole f) false := ⟨_, rfl⟩
  rw [← hs2] at hmem hrear
  have e : exec (.wakeTimeout f) s = .next (if (s.fr f).drainPend then s2.beginDrain f else s2) := by
    refine congrArg Host.Outcome.next ?_
    dsimp only
    rw [if_pos (by simp [hw, hlate]), ← hs1, ← hs2]
  refine ⟨_, e, ?_⟩
  split
  · exact ⟨(State.waking_of_rear ((s2.beginDrain_rear f).trans hrear) f).trans hw1, State.mem_fences_beginDrain hmem f⟩
  · exact ⟨(State.waking_of_rear hrear f).trans hw1, hmem⟩

/-! ### Accesses and the control register -/

theorem State.lsAccess_write {s u : State} {f : Nat} {a : HeldAcc} (hw : a.write = true)
    (h : s.write (0xC0000000000 + f * 0x4000000 + a.addr % 0x1000000) a.bytes = (u, none)) : s.lsAccess f a = u := by
  unfold State.lsAccess
  dsimp only
  rw [if_pos hw, h]

theorem State.lsAccess_read {s u : State} {f : Nat} {a : HeldAcc} {l : List Byte} (hw : a.write = false)
    (h : s.read (0xC0000000000 + f * 0x4000000 + a.addr % 0x1000000) a.bytes.length = (u, .ok l)) : s.lsAccess f a = u := by
  unfold State.lsAccess
  dsimp only
  rw [hw, if_neg Bool.false_ne_true, h]

/-- An access to the local store of a Frond neither entering nor waking is performed (R134). -/
theorem execSleepingLocalStoreAccess_performed (s : State) (f addr : Nat) (agent : Agent) (wr : Bool) (bytes : List Byte) (hm : s.moving f = false) :
    exec (.sleepingLocalStoreAccess f agent addr wr bytes) s = .next (s.lsAccess f ⟨agent, addr, wr, bytes⟩) :=
  congrArg Host.Outcome.next (if_neg (by simp [hm]))

/-- FRD_SLEEP_CTL written with the word `v`, field by field. -/
def State.sleepCtlSet (s : State) (f : Nat) (v : W64) : State :=
  (((s.rset (Fd.FRD_SLEEP_CTL_FLOOR f) (fld v 49 48)).rset (Fd.FRD_SLEEP_CTL_DARK_S f) (fld v 47 32)).rset
    (Fd.FRD_SLEEP_CTL_NIGHT_MS f) (fld v 31 16)).rset (Fd.FRD_SLEEP_CTL_DUSK_US f) (fld v 7 0)

theorem fld_mod (v : W64) (hi lo : Nat) : fld v hi lo % 2 ^ (hi + 1 - lo) = fld v hi lo :=
  Nat.mod_eq_of_lt (Nat.mod_lt _ (Nat.two_pow_pos _))

theorem State.sleepCtlSet_fields (s : State) (f : Nat) (v : W64) : (s.sleepCtlSet f v).rget (Fd.FRD_SLEEP_CTL_FLOOR f) = fld v 49 48 ∧
    (s.sleepCtlSet f v).rget (Fd.FRD_SLEEP_CTL_DARK_S f) = fld v 47 32 ∧ (s.sleepCtlSet f v).rget (Fd.FRD_SLEEP_CTL_NIGHT_MS f) = fld v 31 16 ∧
    (s.sleepCtlSet f v).rget (Fd.FRD_SLEEP_CTL_DUSK_US f) = fld v 7 0 := by
  rw [← fld_mod v 49 48, ← fld_mod v 47 32, ← fld_mod v 31 16, ← fld_mod v 7 0]
  unfold State.sleepCtlSet
  simp only [Fd.FRD_SLEEP_CTL_FLOOR, Fd.FRD_SLEEP_CTL_DARK_S, Fd.FRD_SLEEP_CTL_NIGHT_MS, Fd.FRD_SLEEP_CTL_DUSK_US]
  refine ⟨?_, ?_, ?_, ?_⟩ <;> simp [State.rget_rset_same, State.rget_rset_ne]

theorem State.sleepCtlSet_sleep (s : State) (f : Nat) (v : W64) : (s.sleepCtlSet f v).sleep f = s.sleep f := by
  unfold State.sleep State.sleepCtlSet
  simp only [Fd.FRD_SLEEP_STAT_STATE, Fd.FRD_SLEEP_CTL_FLOOR, Fd.FRD_SLEEP_CTL_DARK_S, Fd.FRD_SLEEP_CTL_NIGHT_MS, Fd.FRD_SLEEP_CTL_DUSK_US]
  simp [State.rget_rset_ne]

theorem State.sleepCtlSet_rword (s : State) (f : Nat) (v : W64) : s.SameRegs (s.sleepCtlSet f v) (· = (Fd.FRD_SLEEP_CTL_FLOOR f).off) := by
  intro off ho
  unfold State.sleepCtlSet
  rw [State.rword_rset_ne _ (Fd.FRD_SLEEP_CTL_DUSK_US f) _ ho, State.rword_rset_ne _ (Fd.FRD_SLEEP_CTL_NIGHT_MS f) _ ho,
    State.rword_rset_ne _ (Fd.FRD_SLEEP_CTL_DARK_S f) _ ho, State.rword_rset_ne _ (Fd.FRD_SLEEP_CTL_FLOOR f) _ ho]

theorem State.sleepCtlSet_frame (s : State) (f : Nat) (v : W64) : s.SameMem (s.sleepCtlSet f v) ∧ (s.sleepCtlSet f v).frd = s.frd :=
  by
  have hset (u : State) (d : Fd) (n : Nat) : (u.rset d n).mem = u.mem ∧ (u.rset d n).frd = u.frd := ⟨rfl, rfl⟩
  have hmem : (s.sleepCtlSet f v).mem = s.mem := by
    unfold State.sleepCtlSet
    rw [(hset _ _ _).1, (hset _ _ _).1, (hset _ _ _).1, (hset _ _ _).1]
  refine ⟨fun _ => ?_, ?_⟩
  · rw [hmem]
    exact ⟨rfl, rfl, rfl, rfl⟩
  · unfold State.sleepCtlSet
    rw [(hset _ _ _).2, (hset _ _ _).2, (hset _ _ _).2, (hset _ _ _).2]

/-- A write of FRD_SLEEP_CTL performs its four fields, then the wake a shallower FLOOR asks for (R132). -/
theorem execFrdSleepCtlWrite_eq (s : State) (f : Nat) (v : W64) (hf : f < s.fronds) : exec (.frdSleepCtlWrite f v) s =
    .next (if fld v 49 48 < s.sleep f then (s.sleepCtlSet f v).wakeReq f false else s.sleepCtlSet f v) := by
  have harm : exec (.frdSleepCtlWrite f v) s = execFrdSleepCtlWrite f v s := (rfl)
  rw [harm, ← State.sleepCtlSet_sleep s f v]
  unfold execFrdSleepCtlWrite
  rw [if_pos hf]
  dsimp only
  generalize hu : State.rset (State.rset (State.rset (State.rset _ _ _) _ _) _ _) _ _ = u
  have hset : s.sleepCtlSet f v = u := hu
  rw [hset]

/-- A write of FRD_SLEEP_CTL (R132). -/
theorem execFrdSleepCtlWrite_sets (s : State) (f : Nat) (v : W64) (hf : f < s.fronds) :
    ∃ u, u.rget (Fd.FRD_SLEEP_CTL_FLOOR f) = fld v 49 48 ∧
      u.rget (Fd.FRD_SLEEP_CTL_DARK_S f) = fld v 47 32 ∧ u.rget (Fd.FRD_SLEEP_CTL_NIGHT_MS f) = fld v 31 16 ∧
      u.rget (Fd.FRD_SLEEP_CTL_DUSK_US f) = fld v 7 0 ∧ s.SameRegs u (· = (Fd.FRD_SLEEP_CTL_FLOOR f).off) ∧ s.SameMem u ∧ u.frd = s.frd ∧
      exec (.frdSleepCtlWrite f v) s = .next (if fld v 49 48 < s.sleep f then u.wakeReq f false else u) := by
  obtain ⟨hfl, hdk, hnt, hdu⟩ := s.sleepCtlSet_fields f v
  exact ⟨s.sleepCtlSet f v, hfl, hdk, hnt, hdu, s.sleepCtlSet_rword f v, (s.sleepCtlSet_frame f v).1, (s.sleepCtlSet_frame f v).2,
    execFrdSleepCtlWrite_eq s f v hf⟩

/-- Settles O8. -/
theorem frondSleep : Obligations.FrondSleep := by
  refine ⟨⟨fun s f depth c hc hu hi hs hfl hd => ?_, execSleepEntryComplete_ends⟩,
    ⟨fun s f slow hf he hs hw => ⟨_, execWakeRequest_wakes s f slow hf he hs hw, s.wakeStart_leaves f slow⟩, execWakeRequest_latches,
      execWakeComplete_runs, execWakeTimeout_fences⟩,
    fun s f addr agent wr bytes hu hm => ⟨_, congrArg Host.Outcome.next (if_pos (by simp [hu, hm])), rfl⟩,
    fun s u f addr agent bytes hm h => ⟨_, execSleepingLocalStoreAccess_performed s f addr agent true bytes hm, State.lsAccess_write rfl h⟩,
    fun s u f addr agent bytes l hm h => ⟨_, execSleepingLocalStoreAccess_performed s f addr agent false bytes hm, State.lsAccess_read rfl h⟩,
    execFrdSleepCtlWrite_sets⟩
  have key := State.sleepEnter_enters hu hi hs hfl hd
  simp only [List.mem_cons, List.not_mem_nil, or_false, Prod.mk.injEq] at hc
  rcases hc with ⟨rfl, rfl⟩ | ⟨rfl, rfl⟩ | ⟨rfl, rfl⟩
  · exact ⟨_, rfl, key⟩
  · exact ⟨_, rfl, key⟩
  · exact ⟨_, rfl, key⟩

end Sys2Proof.Machine
end

section
/-!
PROOFS. Register writes by access code (R9–R12, R321): the fields of a slot, written one by one.
-/

namespace Sys2Proof.Machine

set_option Elab.async false

/-! ### Bits of words and fields -/

theorem nbit_eq_testBit (n i : Nat) : nbit n i = n.testBit i := by
  unfold nbit
  rw [Nat.testBit_eq_decide_div_mod_eq, Nat.shiftRight_eq_div_pow]
  exact beq_eq_decide _ _

theorem fld_testBit {n : Nat} (w : BitVec n) (hi lo j : Nat) : (fld w hi lo).testBit j = (decide (j < hi + 1 - lo) && w.toNat.testBit (lo + j)) := by
  unfold fld
  rw [Nat.testBit_mod_two_pow, Nat.testBit_shiftRight]

theorem fld_lt {n : Nat} (w : BitVec n) (hi lo : Nat) : fld w hi lo < 2 ^ (hi + 1 - lo) := Nat.mod_lt _ (Nat.two_pow_pos _)

/-- A bit of a word is a bit of the field that holds it. -/
theorem bit_eq_fld {n : Nat} (w : BitVec n) {hi lo b : Nat} (hl : lo ≤ b) (hh : b ≤ hi) : bit w b = (fld w hi lo).testBit (b - lo) := by
  rw [fld_testBit, decide_eq_true (by omega), Bool.true_and, show lo + (b - lo) = b by omega]
  exact nbit_eq_testBit _ _

theorem testBit_compl (m k j : Nat) (hj : j < k) : (m ^^^ (2 ^ k - 1)).testBit j = !m.testBit j := by
  rw [Nat.testBit_xor, Nat.testBit_two_pow_sub_one, decide_eq_true hj, Bool.xor_true]

theorem compl_lt {m k : Nat} (hm : m < 2 ^ k) : m ^^^ (2 ^ k - 1) < 2 ^ k := Nat.xor_lt_two_pow hm (by have := Nat.two_pow_pos k; omega)

/-- A field of two words merged under a mask is the two fields merged under the mask's field. -/
theorem fld_mergeWord (old v : W64) (mask : Nat) {hi lo : Nat} (hn : hi < 64) : fld (mergeWord old v mask) hi lo =
    (fld old hi lo &&& (fld (BitVec.ofNat 64 mask) hi lo ^^^ (2 ^ (hi + 1 - lo) - 1))) ||| (fld v hi lo &&& fld (BitVec.ofNat 64 mask) hi lo) := by
  refine Nat.eq_of_testBit_eq fun j => ?_
  by_cases hj : j < hi + 1 - lo
  · have hb (w : W64) : (fld w hi lo).testBit j = w.getLsbD (lo + j) := by
      rw [fld_testBit, decide_eq_true hj]
      rfl
    rw [Nat.testBit_or, Nat.testBit_and, Nat.testBit_and, testBit_compl _ _ _ hj, hb, hb, hb, hb]
    unfold mergeWord
    rw [BitVec.getLsbD_or, BitVec.getLsbD_and, BitVec.getLsbD_and, BitVec.getLsbD_not, decide_eq_true (by omega), Bool.true_and]
  · have hb (w : W64) : (fld w hi lo).testBit j = false := by rw [fld_testBit, decide_eq_false hj, Bool.false_and]
    rw [Nat.testBit_or, Nat.testBit_and, Nat.testBit_and, hb, hb, hb]
    rfl

/-- A word merged over all 64 bits is the new word. -/
theorem mergeWord_all (old v : W64) : mergeWord old v (2 ^ 64 - 1) = v := by
  unfold mergeWord
  rw [show BitVec.ofNat 64 (2 ^ 64 - 1) = BitVec.allOnes 64 from rfl]
  simp only [BitVec.not_allOnes, BitVec.and_zero, BitVec.zero_or, BitVec.and_allOnes]

/-! ### The fields of a slot -/

/-- A row whose fields lie inside the word and share no bit. -/
def RRow.Good (r : RRow) : Prop := (∀ f ∈ r.fields, f.lo ≤ f.hi ∧ f.hi < 64) ∧ r.fields.Pairwise (fun f g => f.hi < g.lo ∨ g.hi < f.lo)

theorem findRow_mem {l : List RRow} {off : Nat} {r : RRow} (h : findRow l off = some r) : r ∈ l := by
  induction l with
  | nil => cases h
  | cons q l ih =>
    unfold findRow at h
    split at h
    · cases h
      exact List.mem_cons_self
    · exact List.mem_cons_of_mem _ (ih h)

/-- `RRow.Good` as a test. -/
def RRow.good (r : RRow) : Bool :=
  r.fields.all (fun f => decide (f.lo ≤ f.hi) && decide (f.hi < 64)) && decide (r.fields.Pairwise (fun f g => f.hi < g.lo ∨ g.hi < f.lo))

/-- The register map's fields lie inside their words and share no bit. -/
theorem blockRows_good (off : Nat) : (blockRows off).all RRow.good = true := by
  have hite {c : Prop} [Decidable c] {a b : List RRow} (ha : a.all RRow.good = true) (hb : b.all RRow.good = true) :
      (if c then a else b).all RRow.good = true := by
    split
    · exact ha
    · exact hb
  unfold blockRows
  repeat' apply hite
  all_goals decide +kernel

theorem regRow_good {off : Nat} {r : RRow} (h : regRow off = some r) : r.Good := by
  have hr := List.all_eq_true.1 (blockRows_good off) r (findRow_mem h)
  unfold RRow.good at hr
  rw [Bool.and_eq_true, List.all_eq_true, decide_eq_true_eq] at hr
  exact ⟨fun f hf => by simpa using hr.1 f hf, hr.2⟩

/-- What a write leaves in one field, from what the field held. -/
def State.fieldNew (s : State) (slot mask : Nat) (v : W64) (f : FRow) (old : Nat) : Nat :=
  let m := fld (BitVec.ofNat 64 mask) f.hi f.lo
  let x := fld v f.hi f.lo
  let put := (old &&& (m ^^^ (2 ^ (f.hi + 1 - f.lo) - 1))) ||| (x &&& m)
  match f.acc with
  | .rw => put
  | .rwl => if s.rwlLocked slot then old else put
  | .setup => if s.setupOpen slot then put else old
  | .w1c => old &&& ((x &&& m) ^^^ (2 ^ (f.hi + 1 - f.lo) - 1))
  | .w1s => old ||| (x &&& m)
  | .ro => old
  | .wo => old
  | .own => old

section
variable (s : State) (slot mask : Nat) (v w : W64) {f g : FRow}

theorem State.fld_fieldWrite_ne (hl : f.lo ≤ f.hi) (hh : f.hi < 64) (hd : f.hi < g.lo ∨ g.hi < f.lo) :
    fld (s.fieldWrite slot mask v w f) g.hi g.lo = fld w g.hi g.lo := by
  have hset (x : Nat) : fld (setFld w f.hi f.lo x) g.hi g.lo = fld w g.hi g.lo := fld_setFld_disj w x hl hh hd.symm
  unfold State.fieldWrite
  cases f.acc
  case rw => exact hset _
  case rwl =>
    dsimp only
    split
    · rfl
    · exact hset _
  case setup =>
    dsimp only
    split
    · exact hset _
    · rfl
  case w1c => exact hset _
  case w1s => exact hset _
  all_goals rfl

theorem State.fld_fieldWrite_same (hl : f.lo ≤ f.hi) (hh : f.hi < 64) :
    fld (s.fieldWrite slot mask v w f) f.hi f.lo = s.fieldNew slot mask v f (fld w f.hi f.lo) := by
  have hset {x : Nat} (hx : x < 2 ^ (f.hi + 1 - f.lo)) : fld (setFld w f.hi f.lo x) f.hi f.lo = x :=
    (fld_setFld_same w x hl hh).trans (Nat.mod_eq_of_lt hx)
  have hold := fld_lt w f.hi f.lo
  have hm := fld_lt (BitVec.ofNat 64 mask) f.hi f.lo
  have hput := Nat.or_lt_two_pow (Nat.and_lt_two_pow (fld w f.hi f.lo) (compl_lt hm)) (Nat.and_lt_two_pow (fld v f.hi f.lo) hm)
  unfold State.fieldWrite State.fieldNew
  cases f.acc
  case rw => exact hset hput
  case rwl =>
    dsimp only
    split
    · rfl
    · exact hset hput
  case setup =>
    dsimp only
    split
    · exact hset hput
    · rfl
  case w1c => exact hset (Nat.and_lt_two_pow _ (compl_lt (Nat.and_lt_two_pow _ hm)))
  case w1s => exact hset (Nat.or_lt_two_pow hold (Nat.and_lt_two_pow _ hm))
  all_goals rfl

end

/-- Written in turn, each of a good row's fields holds what its own write leaves. -/
theorem State.fld_foldl_fieldWrite (s : State) (slot mask : Nat) (v : W64) {l : List FRow} (hl : ∀ f ∈ l, f.lo ≤ f.hi ∧ f.hi < 64)
    (hd : l.Pairwise (fun f g => f.hi < g.lo ∨ g.hi < f.lo)) (w : W64) :
    ∀ f ∈ l, fld (l.foldl (fun w f => s.fieldWrite slot mask v w f) w) f.hi f.lo = s.fieldNew slot mask v f (fld w f.hi f.lo) := by
  have hout (l : List FRow) (g : FRow) (hl : ∀ f ∈ l, f.lo ≤ f.hi ∧ f.hi < 64) (hd : ∀ f ∈ l, f.hi < g.lo ∨ g.hi < f.lo) (w : W64) :
      fld (l.foldl (fun w f => s.fieldWrite slot mask v w f) w) g.hi g.lo = fld w g.hi g.lo := by
    induction l generalizing w with
    | nil => rfl
    | cons f l ih =>
      have hf := hl f List.mem_cons_self
      exact (ih (fun f h => hl f (List.mem_cons_of_mem _ h)) (fun f h => hd f (List.mem_cons_of_mem _ h)) _).trans
        (s.fld_fieldWrite_ne slot mask v w hf.1 hf.2 (hd f List.mem_cons_self))
  induction l generalizing w with
  | nil => simp
  | cons f l ih =>
    have hf := hl f List.mem_cons_self
    have hl' := fun f h => hl f (List.mem_cons_of_mem _ h)
    obtain ⟨hfl, hd'⟩ := List.pairwise_cons.1 hd
    intro g hg
    rcases List.mem_cons.1 hg with rfl | hg
    · exact (hout l g hl' (fun f h => (hfl f h).symm) _).trans (s.fld_fieldWrite_same slot mask v w hf.1 hf.2)
    · exact (ih hl' hd' _ g hg).trans (congrArg _ (s.fld_fieldWrite_ne slot mask v w hf.1 hf.2 (hfl g hg)))

/-- A write to a slot of the map: its fields, and the rest of the machine. -/
theorem State.slotWrite_writes (s : State) {slot : Nat} (mask : Nat) (v : W64) {r : RRow} (hr : regRow slot = some r) :
    (∀ f ∈ r.fields, fld ((s.slotWrite slot mask v).rword slot) f.hi f.lo = s.fieldNew slot mask v f (fld (s.rword slot) f.hi f.lo)) ∧
    s.SameRegs (s.slotWrite slot mask v) (· = slot) ∧ (s.slotWrite slot mask v).mem = s.mem ∧ (s.slotWrite slot mask v).frd = s.frd ∧
    (s.slotWrite slot mask v).flt = s.flt := by
  obtain ⟨hl, hd⟩ := regRow_good hr
  have e : s.slotWrite slot mask v = s.setRword slot (r.fields.foldl (fun w f => s.fieldWrite slot mask v w f) (s.rword slot)) := by
    unfold State.slotWrite
    rw [hr]
  rw [e]
  refine ⟨?_, fun off ho => State.rword_setRword_ne s _ ho, rfl, rfl, rfl⟩
  rw [State.rword_setRword_same]
  exact s.fld_foldl_fieldWrite slot mask v hl hd _

/-! ### Writes to the port -/

/-- A write no unit takes for its own is the slot's (R9–R12). -/
theorem State.bar0Write_slot {s : State} {slot mask : Nat} {v : W64} (ht : s.twilight = false) (hl : s.tdiLocks slot = false) (hx : slot < 0x800000)
    (hs : s.slotThere slot = true) (h1 : s.ownLow slot mask v = none) (h2 : s.ownHigh slot mask v = none) :
    s.bar0Write slot mask v = s.slotWrite slot mask v := by
  unfold State.bar0Write
  rw [ht, Bool.false_and, if_neg Bool.false_ne_true, hl, if_neg Bool.false_ne_true, if_neg (by simp; omega), hs, h1, h2]
  rfl

theorem execRegisterWrite_good (s : State) {off size : Nat} (val : Nat) (h : (size = 4 ∨ size = 8) ∧ off % size = 0) :
    exec (.registerWrite off size val) s = .next (s.bar0Write (off - off % 8) (writeMask off size) (writeWord off size val)) :=
  congrArg Host.Outcome.next (if_pos (by simpa using h))

/-- A bit of a write's mask that lies in the word. -/
theorem nbit_mask (mask b : Nat) (hb : b < 64) : nbit mask b = (BitVec.ofNat 64 mask).toNat.testBit b := by
  rw [nbit_eq_testBit, BitVec.toNat_ofNat, Nat.testBit_mod_two_pow, decide_eq_true hb, Bool.true_and]

/-- Settles O51: the fields of a good row are written one by one, and none of them changes another. -/
theorem registerAccess : Obligations.RegisterAccess := by
  refine ⟨fun s off size val slot r hsz hal hslot ht hl hx hs h1 h2 hr => ?_, fun s v ht => ?_, fun s off size val h =>
    ⟨_, congrArg Host.Outcome.next (if_neg (by simpa using h)), rfl, rfl, rfl⟩⟩
  · have e := execRegisterWrite_good s val ⟨hsz, hal⟩
    rw [← hslot, State.bar0Write_slot ht hl hx hs h1 h2] at e
    obtain ⟨hf, hregs, hmem, hfrd, hflt⟩ := s.slotWrite_writes (writeMask off size) (writeWord off size val) hr
    obtain ⟨hin, -⟩ := regRow_good hr
    refine ⟨_, e, hregs, hmem, hfrd, hflt, fun f h ha => (hf f h).trans ?_, fun f h ha => (hf f h).trans ?_, fun f h ha => (hf f h).trans ?_,
      fun f h ha b hlo hhi => ?_, fun f h ha b hlo hhi => ?_⟩
    · unfold State.fieldNew
      rcases ha with ha | ha | ha <;> rw [ha]
    · rw [fld_mergeWord _ _ _ (hin f h).2]
      unfold State.fieldNew
      rcases ha with ha | ⟨ha, hk⟩ | ⟨ha, hk⟩
      · rw [ha]
      · rw [ha, hk]
        rfl
      · rw [ha, hk]
        rfl
    · unfold State.fieldNew
      rcases ha with ⟨ha, hk⟩ | ⟨ha, hk⟩
      · rw [ha, hk]
        rfl
      · rw [ha, hk]
        rfl
    · have hb : b < 64 := lt_of_le_of_lt hhi (hin f h).2
      rw [bit_eq_fld _ hlo hhi, hf f h, bit_eq_fld (s.rword slot) hlo hhi, bit_eq_fld (writeWord off size val) hlo hhi, nbit_mask _ _ hb]
      unfold State.fieldNew
      rw [ha]
      dsimp only
      rw [Nat.testBit_and, testBit_compl _ _ _ (by omega), Nat.testBit_and, fld_testBit (BitVec.ofNat 64 _), decide_eq_true (by omega), Bool.true_and,
        Nat.add_sub_cancel' hlo]
    · have hb : b < 64 := lt_of_le_of_lt hhi (hin f h).2
      rw [bit_eq_fld _ hlo hhi, hf f h, bit_eq_fld (s.rword slot) hlo hhi, bit_eq_fld (writeWord off size val) hlo hhi, nbit_mask _ _ hb]
      unfold State.fieldNew
      rw [ha]
      dsimp only
      rw [Nat.testBit_or, Nat.testBit_and, fld_testBit (BitVec.ofNat 64 _), decide_eq_true (by omega), Bool.true_and, Nat.add_sub_cancel' hlo]
  · have hr : ∃ r, regRow 0x10008 = some r ∧ (⟨63, 63, .rw, 0⟩ : FRow) ∈ r.fields ∧ (⟨9, 0, .rw, 500⟩ : FRow) ∈ r.fields :=
      ⟨_, rfl, by decide +kernel, by decide +kernel⟩
    obtain ⟨r, hr, h63, h9⟩ := hr
    have hsl : s.slotThere 0x10008 = true := by
      unfold State.slotThere
      simp
    have e := execRegisterWrite_good s (off := 0x10008) (size := 8) v ⟨.inr rfl, rfl⟩
    rw [show (0x10008 - 0x10008 % 8 : Nat) = 0x10008 from rfl, State.bar0Write_slot ht (by simp [State.tdiLocks]) (by norm_num) hsl
      (by simp [State.ownLow]) (by simp [State.ownHigh])] at e
    obtain ⟨hf, hregs, -⟩ := s.slotWrite_writes (writeMask 0x10008 8) (writeWord 0x10008 8 v) hr
    have hw : ∀ hi lo, hi < 64 → fld (writeWord 0x10008 8 v) hi lo = v / 2 ^ lo % 2 ^ (hi + 1 - lo) := by
      intro hi lo hh
      have hb : v % 2 ^ (8 * 8) * 2 ^ (8 * (0x10008 % 8)) = v % 2 ^ 64 := by norm_num
      unfold writeWord fld
      rw [hb, BitVec.toNat_ofNat, Nat.mod_mod]
      refine Nat.eq_of_testBit_eq fun j => ?_
      rw [Nat.testBit_mod_two_pow, Nat.testBit_mod_two_pow, Nat.testBit_shiftRight, Nat.testBit_mod_two_pow, Nat.testBit_div_two_pow]
      by_cases hj : j < hi + 1 - lo
      · rw [decide_eq_true (by omega : lo + j < 64), Bool.true_and, Nat.add_comm lo j]
      · rw [decide_eq_false hj, Bool.false_and, Bool.false_and]
    have hm : writeMask 0x10008 8 = 2 ^ 64 - 1 := by decide
    have hfld {f : FRow} (ha : f.acc = .rw) (hh : f.hi < 64) (h : f ∈ r.fields) :
        fld ((s.slotWrite 0x10008 (writeMask 0x10008 8) (writeWord 0x10008 8 v)).rword 0x10008) f.hi f.lo = v / 2 ^ f.lo % 2 ^ (f.hi + 1 - f.lo) := by
      rw [hf f h]
      unfold State.fieldNew
      rw [ha]
      dsimp only
      rw [← fld_mergeWord _ _ _ hh, hm, mergeWord_all, hw _ _ hh]
    refine ⟨_, e, (hfld rfl (by norm_num) h9).trans ?_, hfld rfl (by norm_num) h63, hregs⟩
    exact congrArg (· % 2 ^ 10) (Nat.div_one v)

end Sys2Proof.Machine
end

section
/-!
PROOFS. Issue of an instruction (R140–R142, R146, R147, R161, R164).
-/

namespace Sys2Proof.Machine

set_option Elab.async false

/-! ### Threads that only move -/

/-- Corrected registers counted: the counter of the Frond alone changes (R161). -/
theorem State.countRegs_frame (s : State) (f g h : Nat) (ns : List Nat) : let t := s.countRegs f g h ns
    t.frd.thr = s.frd.thr ∧ t.frd.gregs = s.frd.gregs ∧ t.frd.regBad = s.frd.regBad ∧ t.mem = s.mem ∧ t.regs = s.regs := by
  unfold State.countRegs
  dsimp only
  split
  · exact ⟨rfl, rfl, rfl, rfl, rfl⟩
  · exact ⟨rfl, rfl, rfl, rfl, rfl⟩

theorem State.badReg_congr {s t : State} (h : t.frd.regBad = s.frd.regBad) (f g i : Nat) (ns : List Nat) : t.badReg f g i ns = s.badReg f g i ns := by
  unfold State.badReg State.regMask
  rw [h]

/-- Chosen threads none of which meets an uncorrectable register each take the new thread state of the instruction, or move on where their
predicate fails, and nothing else than the count of corrected registers changes (R142, R161). -/
theorem State.eachThread_modThr (f g mask : Nat) (reads : List Nat) (φ : Nat → Thread → Thread) (ts : List Nat) (hn : ts.Nodup) (s : State)
    (hb : ∀ h ∈ ts, nbit mask h = true → s.badReg f g h reads = none) :
    let t := s.eachThread f g mask reads ts (fun u h => u.modThr f g h (φ h))
    (∀ h ∈ ts, t.thr f g h = if nbit mask h then φ h (s.thr f g h) else { s.thr f g h with pc := ((s.thr f g h).pc + 8) % 2 ^ 48, wait := .ready }) ∧
    (∀ h, h ∉ ts → t.thr f g h = s.thr f g h) ∧ t.frd.gregs = s.frd.gregs ∧ t.mem = s.mem ∧ t.regs = s.regs := by
  induction ts generalizing s with
  | nil => exact ⟨nofun, fun _ _ => rfl, rfl, rfl, rfl⟩
  | cons h ts ih =>
    rw [List.nodup_cons] at hn
    obtain ⟨s1, hs1⟩ : ∃ s1, s1 = if nbit mask h then (s.countRegs f g h reads).modThr f g h (φ h) else s.advance f g h := ⟨_, rfl⟩
    have h1 : s1.thr f g h = (if nbit mask h then φ h (s.thr f g h) else { s.thr f g h with pc := ((s.thr f g h).pc + 8) % 2 ^ 48, wait := .ready }) ∧
        (∀ i, i ≠ h → s1.thr f g i = s.thr f g i) ∧ s1.frd.gregs = s.frd.gregs ∧ s1.frd.regBad = s.frd.regBad ∧ s1.mem = s.mem ∧
        s1.regs = s.regs := by
      obtain ⟨hthr, hgr, hbad, hmem, hregs⟩ := s.countRegs_frame f g h reads
      rw [hs1]
      split
      · exact ⟨(State.thr_setThr_same _ _ _ _ _).trans (congrArg _ (State.thr_congr hthr f g h)),
          fun i hi => (State.thr_modThr_ne _ f g _ hi).trans (State.thr_congr hthr f g i), hgr, hbad, hmem, hregs⟩
      · exact ⟨State.thr_setThr_same _ _ _ _ _, fun i hi => State.thr_modThr_ne _ f g _ hi, rfl, rfl, rfl, rfl⟩
    have e : s.eachThread f g mask reads (h :: ts) (fun u h => u.modThr f g h (φ h)) =
        s1.eachThread f g mask reads ts (fun u h => u.modThr f g h (φ h)) := by
      rw [hs1]
      unfold State.eachThread
      rw [List.foldl_cons]
      by_cases hm : nbit mask h = true
      · simp only [hm, if_true, hb h List.mem_cons_self hm]
      · simp only [hm, Bool.false_eq_true, if_false]
    obtain ⟨hself, hother, hgr, hbad, hmem, hregs⟩ := h1
    obtain ⟨ihin, ihout, ihg, ihm, ihr⟩ := ih hn.2 s1 (fun i hi hm => (State.badReg_congr hbad f g i reads).trans (hb i (List.mem_cons_of_mem _ hi) hm))
    rw [e]
    refine ⟨fun i hi => ?_, fun i hi => ?_, ihg.trans hgr, ihm.trans hmem, ihr.trans hregs⟩
    · rcases List.mem_cons.mp hi with rfl | hi
      · rw [ihout i hn.1, hself]
      · rw [ihin i hi, hother i (ne_of_mem_of_not_mem hi hn.1)]
    · rw [List.mem_cons, not_or] at hi
      rw [ihout i hi.2, hother i hi.1]

/-! ### The effects of an issued instruction -/

section
variable {s s' : State} {f g k : Nat} {q : Kernel} {ts : List Nat}

theorem State.eachThread_waited {f g mask : Nat} {reads ts : List Nat} {act : State → Nat → State} {s : State} (hw : s.waited = false)
    (hact : ∀ u h, (s.Keeps true u) → s.Keeps true (act u h)) : (s.eachThread f g mask reads ts act).waited = false :=
  ((State.Keeps.refl (c := true) s).eachThread hact).waited rfl hw

/-- An instruction with results that only its encoding states (R141). -/
theorem execInstructionIssue_plain (hi : s.Issues f g s' k q ts) (mask : Nat) (reads writes : List Nat) :
    exec (.instructionIssue f g mask (.plain reads writes) []) s =
      .next (s'.eachThread f g mask reads ts (fun u h => (u.freeRegs f g h writes).advance f g h)) :=
  congrArg Host.Outcome.next (State.issue_issues (eff := fun s _ _ ts => s.eachThread f g mask reads ts (fun u h => (u.freeRegs f g h writes).advance f g h)) hi
    (State.eachThread_waited hi.waited fun _ _ h => h.freeRegs.advance))

theorem execInstructionIssue_special (hi : s.Issues f g s' k q ts) (mask rd n : Nat) :
    exec (.instructionIssue f g mask (.special rd n) []) s =
      .next (s'.eachThread f g mask [] ts (fun u h => (u.putRegs f g h rd (u.specialReg f g q h n)).advance f g h)) :=
  congrArg Host.Outcome.next (State.issue_issues
    (eff := fun s _ q ts => s.eachThread f g mask [] ts (fun u h => (u.putRegs f g h rd (u.specialReg f g q h n)).advance f g h)) hi
    (State.eachThread_waited hi.waited fun _ _ h => h.putRegs.advance))

theorem execInstructionIssue_branch (hi : s.Issues f g s' k q ts) (mask : Nat) (reads targets : List Nat) :
    exec (.instructionIssue f g mask (.branch reads targets) []) s = .next (s'.eachThread f g mask reads ts (fun u h =>
      u.modThr f g h (fun q => { q with pc := targets.getD h 0 / 8 * 8 % 2 ^ 48, wait := .ready }))) :=
  congrArg Host.Outcome.next (State.issue_issues (eff := fun s _ _ ts => s.eachThread f g mask reads ts (fun u h =>
      u.modThr f g h (fun q => { q with pc := targets.getD h 0 / 8 * 8 % 2 ^ 48, wait := .ready }))) hi
    (State.eachThread_waited hi.waited fun _ _ h => h.modThr))

theorem execInstructionIssue_illegal (hi : s.Issues f g s' k q ts) (mask : Nat) :
    exec (.instructionIssue f g mask .illegal []) s = .next (s'.trapEach f g 0x0280 (trapLoc f g) false ts) :=
  congrArg Host.Outcome.next (State.issue_issues (eff := fun s _ _ ts => s.trapEach f g 0x0280 (trapLoc f g) false ts) hi
    (((State.Keeps.refl (c := true) s').trapEach).waited rfl hi.waited))

end

/-- The lines an upset names fail from then on (R112). -/
theorem execInstructionIssue_upset (s : State) (f g mask : Nat) (kind : IssueKind) (upset : List Nat) :
    exec (.instructionIssue f g mask kind upset) s = exec (.instructionIssue f g mask kind []) (if upset = [] then s else
      s.setFr f { s.fr f with icacheBad := upset ++ (s.fr f).icacheBad }) := by
  cases upset with
  | nil => rfl
  | cons n l =>
    rw [if_neg (List.cons_ne_nil n l)]
    cases kind <;> rfl

/-- One thread of an issued instruction (R141, R142, R161). -/
theorem State.eachThread_cons (s : State) (f g mask h : Nat) (reads ts : List Nat) (act : State → Nat → State) :
    s.eachThread f g mask reads [] act = s ∧
    (nbit mask h = false → s.eachThread f g mask reads (h :: ts) act = (s.advance f g h).eachThread f g mask reads ts act) ∧
    (∀ n, nbit mask h = true → s.badReg f g h reads = some n →
      s.eachThread f g mask reads (h :: ts) act = (s.regFault f g h n).eachThread f g mask reads ts act) ∧
    (nbit mask h = true → s.badReg f g h reads = none →
      s.eachThread f g mask reads (h :: ts) act = (act (s.countRegs f g h reads) h).eachThread f g mask reads ts act) := by
  unfold State.eachThread
  refine ⟨rfl, fun hm => ?_, fun n hm hb => ?_, fun hm hb => ?_⟩
  · rw [List.foldl_cons, hm]
    rfl
  · rw [List.foldl_cons, hm, hb]
    rfl
  · rw [List.foldl_cons, hm, hb]
    rfl

/-- Settles O9: the effect of each kind, what one thread does, and what a plain instruction and a branch leave. -/
theorem instructionIssue : Obligations.InstructionIssue := by
  refine ⟨⟨fun s s' f g mask k reads writes ts q hi => ⟨_, execInstructionIssue_plain hi mask reads writes, rfl⟩,
    fun s s' f g mask rd n k ts q hi => ⟨_, execInstructionIssue_special hi mask rd n, rfl⟩,
    fun s s' f g mask k reads ts targets q hi => ⟨_, execInstructionIssue_branch hi mask reads targets, rfl⟩,
    fun s s' f g mask k ts q hi => ⟨_, execInstructionIssue_illegal hi mask, rfl⟩, execInstructionIssue_upset⟩, State.eachThread_cons,
    fun s s' f g mask k reads ts q hi hb => ⟨_, execInstructionIssue_plain hi mask reads [], ?_⟩,
    fun s s' f g mask k reads ts targets q hi hb => ⟨_, execInstructionIssue_branch hi mask reads targets, ?_⟩⟩
  · obtain ⟨hin, hout, hg, hm, hr⟩ := State.eachThread_modThr f g mask reads (fun _ q => { q with pc := (q.pc + 8) % 2 ^ 48, wait := .ready }) ts
      hi.nodup s' hb
    refine ⟨fun h hh => ?_, fun h hh _ => hout h hh, hg, hm, hr⟩
    have e := (hin h hh).trans (ite_self _)
    exact ⟨congrArg Thread.pc e, congrArg Thread.wait e⟩
  · obtain ⟨hin, hout, hg, hm, hr⟩ := State.eachThread_modThr f g mask reads
      (fun h q => { q with pc := targets.getD h 0 / 8 * 8 % 2 ^ 48, wait := .ready }) ts hi.nodup s' hb
    refine ⟨fun h hh => ?_, hg, hm, hr⟩
    refine (congrArg Thread.pc (hin h hh)).trans ?_
    split <;> rfl

end Sys2Proof.Machine
end

section
/-!
PROOFS. Arithmetic of the lanes (R58–R61), and what one thread of an instruction leaves of the others.
-/

namespace Sys2Proof.Machine

set_option Elab.async false

/-! ### What an effect on one thread leaves of another -/

/-- A thread as its instructions see it: its registers with their errors, its predicates and its place. -/
structure State.SameThread (f g h : Nat) (s t : State) : Prop where
  greg : ∀ n, n < 128 → t.greg f g h n = s.greg f g h n
  mask : ∀ n, n < 128 → t.regMask f g h n = s.regMask f g h n
  pred : t.pred f g h = s.pred f g h
  thr : t.thr f g h = s.thr f g h

namespace State.SameThread
variable {f g h : Nat} {s t u : State}

theorem refl (s : State) : SameThread f g h s s := ⟨fun _ _ => rfl, fun _ _ => rfl, rfl, rfl⟩

theorem trans (a : SameThread f g h s t) (b : SameThread f g h t u) : SameThread f g h s u :=
  ⟨fun n hn => (b.greg n hn).trans (a.greg n hn), fun n hn => (b.mask n hn).trans (a.mask n hn), b.pred.trans a.pred, b.thr.trans a.thr⟩

theorem rg (a : SameThread f g h s t) (n : Nat) : t.rg f g h n = s.rg f g h n := a.greg _ (Nat.mod_lt _ (by decide))

theorem badReg (a : SameThread f g h s t) {ns : List Nat} (hn : ∀ n ∈ ns, n < 128) : t.badReg f g h ns = s.badReg f g h ns := by
  unfold State.badReg
  induction ns with
  | nil => rfl
  | cons n ns ih =>
    rw [List.find?_cons, List.find?_cons, a.mask n (hn n List.mem_cons_self), ih fun m hm => hn m (List.mem_cons_of_mem _ hm)]

theorem countRegs (s : State) (f g h i : Nat) (ns : List Nat) : SameThread f g h s (s.countRegs f g i ns) := by
  unfold State.countRegs
  dsimp only
  split
  · exact refl s
  · exact ⟨fun _ _ => rfl, fun _ _ => rfl, rfl, rfl⟩

theorem modThr (s : State) (φ : Thread → Thread) {i : Nat} (hi : h ≠ i) : SameThread f g h s (s.modThr f g i φ) :=
  ⟨fun _ _ => rfl, fun _ _ => rfl, rfl, State.thr_modThr_ne s f g φ hi⟩

theorem advance (s : State) {i : Nat} (hi : h ≠ i) : SameThread f g h s (s.advance f g i) := modThr s _ hi

theorem setPred (s : State) (v : Nat) {i : Nat} (hi : h ≠ i) : SameThread f g h s (s.setPred f g i v) :=
  ⟨fun _ _ => rfl, fun _ _ => rfl, spGet_spPut_ne _ _ _ (by unfold thrKey; omega), rfl⟩

end State.SameThread

theorem State.regBad_setGreg (s : State) (f g i n : Nat) (v : W32) {j : Nat} (hj : j ≠ thrKey f g i * 128 + n) :
    spGet (fun _ => 0) (s.setGreg f g i n v).frd.regBad j = spGet (fun _ => 0) s.frd.regBad j := by
  have hdrop (c k : Nat) (u : State) : (u.dropInj c k).frd = u.frd := rfl
  unfold State.setGreg
  extract_lets k frd t
  split
  · rw [(State.injDone_keeps _).1, (State.noteInj_keeps _ _ _).1]
    refine (spGet_spPut_ne _ _ _ hj).trans ?_
    exact (spGet_spDel _ _ _ _).trans (if_neg hj)
  · exact (spGet_spDel _ _ _ _).trans (if_neg hj)

/-- A register written, seen from another thread. -/
theorem State.SameThread.setGreg (s : State) {f g h i n : Nat} (v : W32) (hi : h ≠ i) (hn : n < 128) : SameThread f g h s (s.setGreg f g i n v) := by
  obtain ⟨bad, e⟩ := s.setGreg_frd f g i n v
  refine ⟨fun m hm => ?_, fun m hm => ?_, ?_, ?_⟩
  · unfold State.greg
    rw [e]
    exact spGet_spPut_ne _ _ _ (by unfold thrKey; omega)
  · exact s.regBad_setGreg f g i n v (by unfold regKey thrKey; omega)
  · unfold State.pred
    rw [e]
  · unfold State.thr
    rw [e]

/-- One of the threads of an instruction, when none meets an uncorrectable register: it finds itself as it was at the issue, and what it leaves of
itself stays. `P` is what the whole instruction keeps. -/
theorem State.eachThread_at {P : State → Prop} (hP : ∀ u v : State, v.frd.gregs = u.frd.gregs → v.mem = u.mem → P u → P v) {f g mask : Nat}
    {reads : List Nat} (hr : ∀ n ∈ reads, n < 128) {act : State → Nat → State} (hact : ∀ u i, P u → P (act u i))
    (hloc : ∀ u i j, j ≠ i → SameThread f g j u (act u i)) {ts : List Nat} (hn : ts.Nodup) (s : State) (hs : P s)
    (hb : ∀ h ∈ ts, nbit mask h = true → s.badReg f g h reads = none) {h : Nat} (hh : h ∈ ts) :
    ∃ u, SameThread f g h s u ∧ P u ∧
      SameThread f g h (if nbit mask h then act u h else u.advance f g h) (s.eachThread f g mask reads ts act) ∧
      P (s.eachThread f g mask reads ts act) := by
  have hstep (u : State) (i : Nat) (hu : nbit mask i = true → u.badReg f g i reads = none) (ts : List Nat) :
      u.eachThread f g mask reads (i :: ts) act =
        (if nbit mask i then act (u.countRegs f g i reads) i else u.advance f g i).eachThread f g mask reads ts act := by
    obtain ⟨-, h0, -, h1⟩ := u.eachThread_cons f g mask i reads ts act
    by_cases hm : nbit mask i = true
    · rw [h1 hm (hu hm), if_pos hm]
    · rw [Bool.not_eq_true] at hm
      rw [h0 hm, if_neg (by simp [hm])]
  have hkeep (u : State) (i : Nat) (hu : P u) : P (if nbit mask i then act (u.countRegs f g i reads) i else u.advance f g i) := by
    obtain ⟨-, hgr, -, hmem, -⟩ := u.countRegs_frame f g i reads
    split
    · exact hact _ _ (hP u _ hgr hmem hu)
    · exact hP u _ rfl rfl hu
  have hother (u : State) (i j : Nat) (hj : j ≠ i) :
      SameThread f g j u (if nbit mask i then act (u.countRegs f g i reads) i else u.advance f g i) := by
    split
    · exact (SameThread.countRegs u f g j i reads).trans (hloc _ _ _ hj)
    · exact SameThread.advance u hj
  have hrest (ts : List Nat) (u : State) (hu : P u) (hb : ∀ i ∈ ts, nbit mask i = true → u.badReg f g i reads = none) (hn : ts.Nodup) :
      P (u.eachThread f g mask reads ts act) ∧ ∀ j, j ∉ ts → SameThread f g j u (u.eachThread f g mask reads ts act) := by
    induction ts generalizing u with
    | nil => exact ⟨hu, fun j _ => .refl u⟩
    | cons i ts ih =>
      rw [List.nodup_cons] at hn
      rw [hstep u i (hb i List.mem_cons_self)]
      obtain ⟨ihP, ihS⟩ := ih _ (hkeep u i hu) (fun j hj hm => ((hother u i j (ne_of_mem_of_not_mem hj hn.1)).badReg hr).trans
        (hb j (List.mem_cons_of_mem _ hj) hm)) hn.2
      refine ⟨ihP, fun j hj => ?_⟩
      rw [List.mem_cons, not_or] at hj
      exact (hother u i j hj.1).trans (ihS j hj.2)
  induction ts generalizing s with
  | nil => cases hh
  | cons i ts ih =>
    rw [List.nodup_cons] at hn
    have hb' : ∀ j ∈ ts, nbit mask j = true →
        (if nbit mask i then act (s.countRegs f g i reads) i else s.advance f g i).badReg f g j reads = none := fun j hj hm =>
      ((hother s i j (ne_of_mem_of_not_mem hj hn.1)).badReg hr).trans (hb j (List.mem_cons_of_mem _ hj) hm)
    rw [hstep s i (hb i List.mem_cons_self)]
    rcases List.mem_cons.mp hh with rfl | hh
    · obtain ⟨hPt, hSt⟩ := hrest ts _ (hkeep s h hs) hb' hn.2
      by_cases hm : nbit mask h = true
      · obtain ⟨-, hgr, -, hmem, -⟩ := s.countRegs_frame f g h reads
        refine ⟨s.countRegs f g h reads, .countRegs s f g h h reads, hP s _ hgr hmem hs, ?_, hPt⟩
        have := hSt h hn.1
        rw [if_pos hm] at this
        rw [if_pos hm, if_pos hm]
        exact this
      · refine ⟨s, .refl s, hs, ?_, hPt⟩
        have := hSt h hn.1
        rw [if_neg hm] at this
        rw [if_neg hm, if_neg hm]
        exact this
    · obtain ⟨u, hsu, hPu, hut, hPt⟩ := ih hn.2 _ (hkeep s i hs) hb' hh
      exact ⟨u, (hother s i h (ne_of_mem_of_not_mem hh hn.1)).trans hsu, hPu, hut, hPt⟩

/-! ### The operations of the lanes -/

/-- The one-register results of FMA_INSTRUCTION (R58–R60). -/
def fmaWord (op : Nat) (a b c : W32) : W32 :=
  match op with
  | 0 => fAdd a b
  | 1 => fMul a b
  | 2 => fFma a b c
  | 3 => fMin a b
  | 4 => fMax a b
  | _ => if op ≤ 20 then BitVec.ofNat 32 (fromFp32To (op - 16) false a) else BitVec.ofNat 32 (fromFp32To (op - 24) true a)

/-- The comparisons of FMA_INSTRUCTION. -/
def fmaTest (op : Nat) (a b : W32) : Bool :=
  match op with
  | 5 => fLt a b
  | 6 => fEq a b
  | 8 => fLe a b
  | 9 => fLt b a
  | 10 => fLe b a
  | 11 => !fEq a b
  | 12 => fUnordered a b
  | _ => !fUnordered a b

theorem State.fma1_word (s : State) (f g rd ra rb rc h : Nat) {op : Nat} (ho : op ≤ 4 ∨ (17 ≤ op ∧ op ≤ 20) ∨ (25 ≤ op ∧ op ≤ 28)) :
    s.fma1 f g op rd ra rb rc h = s.setGreg f g h (rd % 128) (fmaWord op (s.rg f g h ra) (s.rg f g h rb) (s.rg f g h rc)) := by
  rcases ho with ho | ⟨h1, h2⟩ | ⟨h1, h2⟩
  · interval_cases op <;> rfl
  · interval_cases op <;> rfl
  · interval_cases op <;> rfl

/-- The predicate bits with bit `k` set to `v`. -/
def predPut (p k : Nat) (v : Bool) : Nat := if v then p ||| (1 <<< k) else p &&& (0xFF ^^^ (1 <<< k))

theorem nbit_predPut (p : Nat) {k : Nat} (v : Bool) (hk : k < 8) : nbit (predPut p k v) k = v := by
  rw [nbit_eq_testBit]
  unfold predPut
  have h1 : (1 <<< k).testBit k = true := by rw [Nat.one_shiftLeft, Nat.testBit_two_pow_self]
  have h2 : (0xFF ^^^ (1 <<< k)).testBit k = false := by
    rw [Nat.testBit_xor, h1, show (0xFF : Nat) = 2 ^ 8 - 1 from rfl, Nat.testBit_two_pow_sub_one, decide_eq_true hk]
    rfl
  cases v
  · rw [if_neg Bool.false_ne_true, Nat.testBit_and, h2, Bool.and_false]
  · rw [if_pos rfl, Nat.testBit_or, h1, Bool.or_true]

theorem State.fma1_test (s : State) (f g rd ra rb rc h : Nat) {op : Nat} (ho : op = 5 ∨ op = 6 ∨ (8 ≤ op ∧ op ≤ 13)) :
    s.fma1 f g op rd ra rb rc h = s.setPred f g h (predPut (s.pred f g h) (rd % 8) (fmaTest op (s.rg f g h ra) (s.rg f g h rb))) := by
  rcases ho with rfl | rfl | ⟨h1, h2⟩
  · rfl
  · rfl
  · interval_cases op <;> rfl

/-- An operation of a lane writes registers or one predicate word of its thread. -/
theorem State.fma1_cases (s : State) (f g op rd ra rb rc h : Nat) : (∃ v, s.fma1 f g op rd ra rb rc h = s.setGreg f g h (rd % 128) v) ∨
    (∃ v, s.fma1 f g op rd ra rb rc h = s.setPred f g h v) ∨
    (∃ v w, s.fma1 f g op rd ra rb rc h = (s.setGreg f g h (rd % 128) v).setGreg f g h ((rd + 1) % 128) w) ∨ s.fma1 f g op rd ra rb rc h = s := by
  unfold State.fma1
  dsimp only
  split
  iterate 5 exact .inl ⟨_, rfl⟩
  iterate 8 exact .inr (.inl ⟨_, rfl⟩)
  · exact .inr (.inr (.inl ⟨_, _, rfl⟩))
  · split
    · exact .inl ⟨_, rfl⟩
    · split
      · exact .inl ⟨_, rfl⟩
      · exact .inr (.inr (.inr rfl))

theorem State.SameThread.fma1 (s : State) (f g op rd ra rb rc : Nat) {h i : Nat} (hi : h ≠ i) : SameThread f g h s (s.fma1 f g op rd ra rb rc i) := by
  have hm (n : Nat) : n % 128 < 128 := Nat.mod_lt _ (by decide)
  obtain ⟨v, e⟩ | ⟨v, e⟩ | ⟨v, w, e⟩ | e := s.fma1_cases f g op rd ra rb rc i
  · rw [e]
    exact setGreg s v hi (hm rd)
  · rw [e]
    exact setPred s v hi
  · rw [e]
    exact (setGreg s v hi (hm rd)).trans (setGreg _ w hi (hm (rd + 1)))
  · rw [e]
    exact refl s

theorem State.fma1_bytes (s : State) (f g op rd ra rb rc h : Nat) : (s.fma1 f g op rd ra rb rc h).bytes = s.bytes := by
  obtain ⟨v, e⟩ | ⟨v, e⟩ | ⟨v, w, e⟩ | e := s.fma1_cases f g op rd ra rb rc h
  · rw [e, State.setGreg_bytes]
  · rw [e]
    rfl
  · rw [e, State.setGreg_bytes, State.setGreg_bytes]
  · rw [e]

theorem fmaReads_lt (op ra rb rc : Nat) : ∀ n ∈ fmaReads op ra rb rc, n < 128 := by
  have hm (n : Nat) : n % 128 < 128 := Nat.mod_lt _ (by decide)
  unfold fmaReads
  split_ifs <;> simp [hm]

/-! ### The instructions -/

section
variable {s s' : State} {f g k : Nat} {q : Kernel} {ts : List Nat}

theorem execFmaInstruction_issues (hi : s.Issues f g s' k q ts) (mask op rd ra rb rc : Nat) : exec (.fmaInstruction f g mask op rd ra rb rc) s =
    .next (s'.eachThread f g mask (fmaReads op ra rb rc) ts (fun u h => (u.fma1 f g op rd ra rb rc h).advance f g h)) :=
  congrArg Host.Outcome.next (State.issue_issues
    (eff := fun s _ _ ts => s.eachThread f g mask (fmaReads op ra rb rc) ts (fun u h => (u.fma1 f g op rd ra rb rc h).advance f g h)) hi
    (State.eachThread_waited hi.waited fun _ _ h => h.fma1.advance))

theorem execSpecialFunction_issues (hi : s.Issues f g s' k q ts) (mask fn rd ra : Nat) : exec (.specialFunction f g mask fn rd ra) s =
    .next (s'.eachThread f g mask [ra % 128] ts (fun u h => (u.setGreg f g h (rd % 128) (specialFunction fn (u.rg f g h ra))).advance f g h)) :=
  congrArg Host.Outcome.next (State.issue_issues (eff := fun s _ _ ts => s.eachThread f g mask [ra % 128] ts
      (fun u h => (u.setGreg f g h (rd % 128) (specialFunction fn (u.rg f g h ra))).advance f g h)) hi
    (State.eachThread_waited hi.waited fun _ _ h => h.setGreg.advance))

/-- What a thread finds and what it leaves in an instruction of the lanes. -/
theorem State.fma_at (hi : s.Issues f g s' k q ts) {mask op rd ra rb rc h : Nat}
    (hb : ∀ i ∈ ts, nbit mask i = true → s'.badReg f g i (fmaReads op ra rb rc) = none) (hh : h ∈ ts) :
    let t := s'.eachThread f g mask (fmaReads op ra rb rc) ts (fun u h => (u.fma1 f g op rd ra rb rc h).advance f g h)
    t.bytes = s'.bytes ∧ ∃ u, SameThread f g h s' u ∧
      SameThread f g h (if nbit mask h then (u.fma1 f g op rd ra rb rc h).advance f g h else u.advance f g h) t := by
  obtain ⟨u, hsu, -, hut, ht⟩ := State.eachThread_at (act := fun u h => (u.fma1 f g op rd ra rb rc h).advance f g h)
    (P := fun u => u.bytes = s'.bytes) (fun u v _ hm hu => (State.bytes_of_mem hm).trans hu) (fmaReads_lt op ra rb rc) (fun u i hu => (u.fma1_bytes f g op rd ra rb rc i).trans hu)
    (fun u i j hj => (SameThread.fma1 u f g op rd ra rb rc hj).trans (.advance _ hj)) hi.nodup s' rfl hb hh
  exact ⟨ht, u, hsu, hut⟩

end

/-- A register written and the thread moved on. -/
theorem State.setGreg_advance (s : State) (f g h n : Nat) (v : W32) : let t := (s.setGreg f g h n v).advance f g h
    t.greg f g h n = v ∧ (∀ m, m ≠ n → t.greg f g h m = s.greg f g h m) ∧ (t.thr f g h).pc = ((s.thr f g h).pc + 8) % 2 ^ 48 := by
  obtain ⟨bad, e⟩ := s.setGreg_frd f g h n v
  refine ⟨(s.greg_setGreg f g h n n v).trans (if_pos rfl), fun m hm => (s.greg_setGreg f g h n m v).trans (if_neg hm), ?_⟩
  rw [State.advance_thr, State.thr_congr (s := s) (by rw [e])]

/-- Settles O10: a thread finds its registers as they were at the issue, and no later thread changes what it leaves. -/
theorem laneArithmetic : Obligations.LaneArithmetic := by
  refine ⟨⟨fun s s' f g mask op rd ra rb rc k ts q hi => ⟨_, execFmaInstruction_issues hi mask op rd ra rb rc, rfl⟩,
    fun s s' f g mask fn rd ra k ts q hi => ⟨_, execSpecialFunction_issues hi mask fn rd ra, rfl⟩⟩,
    fun s s' f g mask op rd ra rb rc k h ts q ho hi hb hh => ⟨_, execFmaInstruction_issues hi mask op rd ra rb rc, ?_⟩,
    fun s s' f g mask op rd ra rb rc k h ts q ho hi hb hh hm => ⟨_, execFmaInstruction_issues hi mask op rd ra rb rc, ?_⟩,
    fun s s' f g mask rd ra rb rc k h ts q hi hb hh hm => ⟨_, execFmaInstruction_issues hi mask 7 rd ra rb rc, ?_⟩,
    fun s s' f g mask fn rd ra k h ts q hi hb hh hm => ⟨_, execSpecialFunction_issues hi mask fn rd ra, ?_⟩⟩
  · obtain ⟨hbytes, u, hsu, hut⟩ := State.fma_at (rd := rd) hi hb hh
    rw [State.fma1_word u f g rd ra rb rc h ho, hsu.rg, hsu.rg, hsu.rg] at hut
    have hmod : rd % 128 < 128 := Nat.mod_lt _ (by decide)
    by_cases hm : nbit mask h = true
    · rw [if_pos hm] at hut
      obtain ⟨h1, h2, h3⟩ := u.setGreg_advance f g h (rd % 128) (fmaWord op (s'.rg f g h ra) (s'.rg f g h rb) (s'.rg f g h rc))
      rw [if_pos hm]
      refine ⟨((hut.greg _ hmod).trans h1).trans ?_, fun n hn hne => ((hut.greg n hn).trans (h2 n hne)).trans (hsu.greg n hn), ?_,
        State.sameMem_of_bytes hbytes⟩
      · unfold fmaWord
        rfl
      · rw [hut.thr, h3, hsu.thr]
    · rw [if_neg hm] at hut ⊢
      refine ⟨(hut.greg _ hmod).trans (hsu.greg _ hmod), fun n hn hne => (hut.greg n hn).trans (hsu.greg n hn), ?_, State.sameMem_of_bytes hbytes⟩
      rw [hut.thr, State.advance_thr, hsu.thr]
  · have hP (u : State) (i : Nat) (hu : u.frd.gregs = s'.frd.gregs ∧ u.mem = s'.mem) :
        ((u.fma1 f g op rd ra rb rc i).advance f g i).frd.gregs = s'.frd.gregs ∧ ((u.fma1 f g op rd ra rb rc i).advance f g i).mem = s'.mem := by
      rw [State.fma1_test u f g rd ra rb rc i ho]
      exact hu
    obtain ⟨u, hsu, -, hut, hg, hmem⟩ := State.eachThread_at (P := fun u => u.frd.gregs = s'.frd.gregs ∧ u.mem = s'.mem)
      (fun u v hg hm hu => ⟨hg.trans hu.1, hm.trans hu.2⟩) (fmaReads_lt op ra rb rc) hP
      (fun u i j hj => (State.SameThread.fma1 u f g op rd ra rb rc hj).trans (.advance _ hj)) hi.nodup s' ⟨rfl, rfl⟩ hb hh
    rw [if_pos hm, State.fma1_test u f g rd ra rb rc h ho, hsu.rg, hsu.rg] at hut
    refine ⟨?_, hg, hmem, ?_⟩
    · rw [hut.pred]
      refine (congrArg (nbit · (rd % 8)) (State.pred_setPred_same u f g h _)).trans ((nbit_predPut _ _ (Nat.mod_lt _ (by decide))).trans ?_)
      unfold fmaTest
      rfl
    · rw [hut.thr, State.advance_thr]
      exact congrArg (fun q : Thread => (q.pc + 8) % 2 ^ 48) hsu.thr
  · obtain ⟨-, u, hsu, hut⟩ := State.fma_at (rd := rd) hi hb hh
    have hmod (n : Nat) : n % 128 < 128 := Nat.mod_lt _ (by decide)
    rw [if_pos hm] at hut
    have e (n : Nat) : ((u.fma1 f g 7 rd ra rb rc h).advance f g h).greg f g h n =
        if n = (rd + 1) % 128 then fFma (u.rg f g h (ra + 1)) (u.rg f g h (rb + 1)) (u.rg f g h (rc + 1)) else
        if n = rd % 128 then fFma (u.rg f g h ra) (u.rg f g h rb) (u.rg f g h rc) else u.greg f g h n := by
      rw [← State.greg_setGreg]
      exact State.greg_setGreg _ f g h _ n _
    refine ⟨?_, ?_, fun n hn h0 h1 => ?_⟩
    · rw [hut.greg _ (hmod rd), e, if_neg (by omega), if_pos rfl, hsu.rg, hsu.rg, hsu.rg]
    · rw [hut.greg _ (hmod (rd + 1)), e, if_pos rfl, hsu.rg, hsu.rg, hsu.rg]
    · rw [hut.greg n hn, e, if_neg h1, if_neg h0, hsu.greg n hn]
  · have hmod (n : Nat) : n % 128 < 128 := Nat.mod_lt _ (by decide)
    obtain ⟨u, hsu, -, hut, hbytes⟩ := State.eachThread_at
      (act := fun u h => (u.setGreg f g h (rd % 128) (specialFunction fn (u.rg f g h ra))).advance f g h)
      (P := fun u => u.bytes = s'.bytes) (fun u v _ hm hu => (State.bytes_of_mem hm).trans hu)
      (by simp [hmod] : ∀ n ∈ [ra % 128], n < 128)
      (fun u i (hu : u.bytes = s'.bytes) => (u.setGreg_bytes f g i (rd % 128) (specialFunction fn (u.rg f g i ra))).trans hu)
      (fun u i j hj => (State.SameThread.setGreg u _ hj (hmod rd)).trans (.advance _ hj)) hi.nodup s' rfl hb hh
    rw [if_pos hm] at hut
    obtain ⟨h1, h2, h3⟩ := u.setGreg_advance f g h (rd % 128) (specialFunction fn (u.rg f g h ra))
    refine ⟨?_, fun n hn hne => ((hut.greg n hn).trans (h2 n hne)).trans (hsu.greg n hn), ?_, State.sameMem_of_bytes hbytes⟩
    · exact (hut.greg _ (hmod rd)).trans (h1.trans (congrArg _ (hsu.rg ra)))
    · exact (congrArg Thread.pc hut.thr).trans (h3.trans (congrArg (fun q : Thread => (q.pc + 8) % 2 ^ 48) hsu.thr))

end Sys2Proof.Machine
end

section
/-!
PROOFS. Group-wide instructions (R151–R154).
-/

namespace Sys2Proof.Machine

set_option Elab.async false

/-! ### Registers of several threads -/

/-- Values stored in registers of one thread. -/
def State.putList (s : State) (f g h : Nat) (l : List (Nat × W32)) : State := l.foldl (fun u w => u.setGreg f g h (w.1 % 128) w.2) s

theorem State.putList_frame (s : State) (f g h : Nat) (l : List (Nat × W32)) : let t := s.putList f g h l
    t.frd.thr = s.frd.thr ∧ t.bytes = s.bytes ∧ ∀ i, i ≠ h → SameThread f g i s t := by
  induction l generalizing s with
  | nil => exact ⟨rfl, rfl, fun i _ => .refl s⟩
  | cons w l ih =>
    obtain ⟨bad, e⟩ := s.setGreg_frd f g h (w.1 % 128) w.2
    obtain ⟨hthr, hb, hs⟩ := ih (s.setGreg f g h (w.1 % 128) w.2)
    exact ⟨hthr.trans (by rw [e]), hb.trans (s.setGreg_bytes _ _ _ _ _),
      fun i hi => (SameThread.setGreg s w.2 hi (Nat.mod_lt _ (by decide))).trans (hs i hi)⟩

theorem State.greg_putList_ne (s : State) (f g h : Nat) {l : List (Nat × W32)} {m : Nat} (hm : ∀ w ∈ l, m ≠ w.1 % 128) :
    (s.putList f g h l).greg f g h m = s.greg f g h m := by
  induction l generalizing s with
  | nil => rfl
  | cons w l ih =>
    refine (ih (s.setGreg f g h (w.1 % 128) w.2) fun x hx => hm x (List.mem_cons_of_mem _ hx)).trans ?_
    exact (State.greg_setGreg _ _ _ _ _ _ _).trans (if_neg (hm w List.mem_cons_self))

theorem State.greg_putList_mem (s : State) (f g h : Nat) {l : List (Nat × W32)} (hn : (l.map (fun w => w.1 % 128)).Nodup) {w : Nat × W32} (hw : w ∈ l) :
    (s.putList f g h l).greg f g h (w.1 % 128) = w.2 := by
  induction l generalizing s with
  | nil => cases hw
  | cons v l ih =>
    rw [List.map_cons, List.nodup_cons] at hn
    rcases List.mem_cons.mp hw with rfl | hw
    · refine (State.greg_putList_ne (s.setGreg f g h (w.1 % 128) w.2) f g h (l := l) fun x hx e => hn.1 ?_).trans
        ((State.greg_setGreg _ _ _ _ _ _ _).trans (if_pos rfl))
      rw [e]
      exact List.mem_map_of_mem hx
    · exact ih (s.setGreg f g h (v.1 % 128) v.2) hn.2 hw

/-- Distinct threads each take their own values. -/
theorem State.foldl_putList (f g : Nat) (R : Nat → List (Nat × W32)) (hR : ∀ h, ((R h).map (fun w => w.1 % 128)).Nodup) (hs : List Nat) (hn : hs.Nodup)
    (s : State) : let t := hs.foldl (fun u h => u.putList f g h (R h)) s
    t.frd.thr = s.frd.thr ∧ t.bytes = s.bytes ∧ (∀ h, h ∉ hs → SameThread f g h s t) ∧
    (∀ h ∈ hs, ∀ w ∈ R h, t.greg f g h (w.1 % 128) = w.2) ∧
    (∀ h ∈ hs, ∀ m, m < 128 → (∀ w ∈ R h, m ≠ w.1 % 128) → t.greg f g h m = s.greg f g h m) := by
  induction hs generalizing s with
  | nil => exact ⟨rfl, rfl, fun h _ => .refl s, nofun, nofun⟩
  | cons h hs ih =>
    rw [List.nodup_cons] at hn
    obtain ⟨hthr, hb, hother⟩ := s.putList_frame f g h (R h)
    obtain ⟨ihthr, ihb, ihout, ihin, ihne⟩ := ih hn.2 (s.putList f g h (R h))
    rw [List.foldl_cons]
    refine ⟨ihthr.trans hthr, ihb.trans hb, fun i hi => ?_, fun i hi w hw => ?_, fun i hi m hm hne => ?_⟩
    · rw [List.mem_cons, not_or] at hi
      exact (hother i hi.1).trans (ihout i hi.2)
    · rcases List.mem_cons.mp hi with rfl | hi
      · exact ((ihout i hn.1).greg _ (Nat.mod_lt _ (by decide))).trans (s.greg_putList_mem f g i (hR i) hw)
      · exact ihin i hi w hw
    · rcases List.mem_cons.mp hi with rfl | hi
      · exact ((ihout i hn.1).greg m hm).trans (s.greg_putList_ne f g i hne)
      · exact (ihne i hi m hm hne).trans ((hother i (ne_of_mem_of_not_mem hi hn.1)).greg m hm)

/-- A change made to each of several distinct threads: they alone, and each once. -/
theorem State.foldl_thr (f g : Nat) (φ : Nat → Thread → Thread) (σ : State → Nat → State) (hself : ∀ u h, (σ u h).thr f g h = φ h (u.thr f g h))
    (hother : ∀ u h i, i ≠ h → (σ u h).thr f g i = u.thr f g i) (hframe : ∀ u h, σ u h = { u with frd.thr := (σ u h).frd.thr })
    (ts : List Nat) (hn : ts.Nodup) (s : State) : let t := ts.foldl σ s
    (∀ h ∈ ts, t.thr f g h = φ h (s.thr f g h)) ∧ (∀ h, h ∉ ts → t.thr f g h = s.thr f g h) ∧ t = { s with frd.thr := t.frd.thr } := by
  induction ts generalizing s with
  | nil => exact ⟨nofun, fun _ _ => rfl, rfl⟩
  | cons h ts ih =>
    rw [List.nodup_cons] at hn
    obtain ⟨hin, hout, hfr⟩ := ih hn.2 (σ s h)
    rw [List.foldl_cons]
    refine ⟨fun i hi => ?_, fun i hi => ?_, ?_⟩
    · rcases List.mem_cons.mp hi with rfl | hi
      · rw [hout i hn.1, hself]
      · rw [hin i hi, hother _ _ _ (ne_of_mem_of_not_mem hi hn.1)]
    · rw [List.mem_cons, not_or] at hi
      rw [hout i hi.2, hother _ _ _ hi.1]
    · have e := hframe s h
      generalize σ s h = u at hfr e ⊢
      rw [e] at hfr ⊢
      exact hfr

/-! ### Group-wide instructions -/

theorem State.liveThreads_nodup (s : State) (f g : Nat) : (s.liveThreads f g).Nodup := List.nodup_range.filter _

theorem State.rowsIn_sublist (s : State) (f g : Nat) : (s.rowsIn f g).Sublist (s.liveThreads f g) := List.filter_sublist

/-- The registers a group-wide instruction writes to a thread are distinct. -/
theorem State.collResult_nodup (s : State) (f g code d sr x : Nat) (inn : List Nat) (h : Nat) :
    ((s.collResult f g code d sr x inn h).map (fun w => w.1 % 128)).Nodup := by
  unfold State.collResult
  split
  case h_2 =>
    rw [List.map_map, List.nodup_map_iff_inj_on List.nodup_range]
    intro i hi j hj e
    simp only [List.mem_range, Function.comp_apply] at hi hj e
    omega
  all_goals exact List.nodup_singleton _

/-- The registers a group-wide instruction writes: `d`, and for GXPOSE the 32 from `d` on. -/
theorem State.collResult_dest (s : State) (f g code d sr x : Nat) (inn : List Nat) (h : Nat) {w : Nat × W32} (hw : w ∈ s.collResult f g code d sr x inn h) :
    (code = 1 ∧ ∃ j, j < 32 ∧ w.1 = d + j) ∨ (code ≠ 1 ∧ w.1 = d) := by
  unfold State.collResult at hw
  split at hw
  case h_2 =>
    obtain ⟨j, hj, rfl⟩ := List.mem_map.mp hw
    exact .inl ⟨rfl, j, List.mem_range.mp hj, rfl⟩
  case h_5 =>
    rw [List.mem_singleton.mp hw]
    exact .inr ⟨‹_›, rfl⟩
  all_goals
    rw [List.mem_singleton.mp hw]
    exact .inr ⟨by decide, rfl⟩

theorem State.rowsIn_countRegs (s : State) (f g h : Nat) (ns : List Nat) : (s.countRegs f g h ns).frd.thr = s.frd.thr ∧
    (s.countRegs f g h ns).frd.gregs = s.frd.gregs ∧ (s.countRegs f g h ns).mem = s.mem := by
  obtain ⟨hthr, hg, -, hm, -⟩ := s.countRegs_frame f g h ns
  exact ⟨hthr, hg, hm⟩

/-- The results of a group-wide instruction depend on the registers alone. -/
theorem State.collResult_congr {s t : State} (hg : t.frd.gregs = s.frd.gregs) (f g code d sr x : Nat) (inn : List Nat) (h : Nat) :
    t.collResult f g code d sr x inn h = s.collResult f g code d sr x inn h := by
  have hrg (h n : Nat) : t.rg f g h n = s.rg f g h n := by unfold State.rg State.greg; rw [hg]
  have hrow (e : W32) (n : Nat) : t.row f g inn e n = s.row f g inn e n := by funext i; unfold State.row; rw [hrg]
  unfold State.collResult
  simp only [hrg, hrow]

/-- A thread that took part in a group-wide instruction moves on with CSEQ counted (R152). -/
def State.collAdvance (s : State) (f g h : Nat) : State := (s.advance f g h).modThr f g h (fun q => { q with cseq := (q.cseq + 1) % 65536 })

/-- A group-wide instruction every live thread of the group has come to (R152). -/
theorem State.evalColl_all {s : State} {f g code d sr x pc cs : Nat} (hne : s.liveThreads f g ≠ [])
    (hall : ∀ h ∈ s.liveThreads f g, (s.thr f g h).pc = pc ∧ (s.thr f g h).cseq = cs ∧ ∃ p, (s.thr f g h).wait = .coll code d sr x p)
    (hb : ∀ h ∈ s.rowsIn f g, s.badReg f g h (collReads code sr x) = none) :
    s.evalColl f g = (s.liveThreads f g).foldl (fun u h => u.collAdvance f g h)
      ((s.rowsIn f g).foldl (fun u h => u.putList f g h (s.collResult f g code d sr x (s.rowsIn f g) h))
        ((s.rowsIn f g).foldl (fun u h => u.countRegs f g h (collReads code sr x)) s)) := by
  obtain ⟨t0, rest, hl⟩ := List.exists_cons_of_ne_nil hne
  unfold State.evalColl
  rw [hl] at hall ⊢
  obtain ⟨hpc, hcs, p, hw⟩ := hall t0 List.mem_cons_self
  dsimp only
  rw [hw]
  dsimp only
  have hrest : rest.all (fun t => (match (s.thr f g t).wait with
          | .coll c _ _ _ _ => c == code
          | _ => false) && (s.thr f g t).pc == (s.thr f g t0).pc && (s.thr f g t).cseq == (s.thr f g t0).cseq) = true := by
    rw [List.all_eq_true]
    intro t ht
    obtain ⟨hpc', hcs', p', hw'⟩ := hall t (List.mem_cons_of_mem _ ht)
    rw [hw', hpc', hcs', hpc, hcs]
    simp
  have hnone : (s.rowsIn f g).filterMap (fun t => (s.badReg f g t (collReads code sr x)).map (fun n => (t, n))) = [] := by
    rw [List.filterMap_eq_nil_iff]
    intro t ht
    rw [hb t ht]
    rfl
  rw [if_pos (by exact hrest), hnone]
  dsimp only
  rw [List.foldl_map]
  have hg : ((s.rowsIn f g).foldl (fun u h => u.countRegs f g h (collReads code sr x)) s).frd.gregs = s.frd.gregs :=
    foldl_keeps (p := fun u : State => u.frd.gregs = s.frd.gregs) _ (fun u h hu => (u.rowsIn_countRegs f g h _).2.1.trans hu) _ rfl
  simp only [State.collResult_congr hg]
  rfl

/-- A group-wide instruction that a live thread has not come to waits (R152). -/
theorem State.evalColl_waits {s : State} {f g code d sr x h i : Nat} {p : Bool} (hh : h ∈ s.liveThreads f g) (hi : i ∈ s.liveThreads f g)
    (hw : (s.thr f g h).wait = .coll code d sr x p) (hn : ∀ d' sr' x' p', (s.thr f g i).wait ≠ .coll code d' sr' x' p') : s.evalColl f g = s := by
  unfold State.evalColl
  split
  · rfl
  · next t0 rest hl =>
    rw [hl] at hh hi
    dsimp only
    split
    · next c d0 sr0 x0 p0 hw0 =>
      refine if_neg fun hall => ?_
      rw [List.all_eq_true] at hall
      by_cases hc : c = code
      · subst hc
        rcases List.mem_cons.mp hi with rfl | hi
        · exact hn _ _ _ _ hw0
        · have h1 := hall i hi
          rw [Bool.and_eq_true, Bool.and_eq_true] at h1
          obtain ⟨⟨h1, -⟩, -⟩ := h1
          split at h1
          · next c' d' sr' x' p' hw' =>
            rw [beq_iff_eq] at h1
            subst h1
            exact hn _ _ _ _ hw'
          · cases h1
      · rcases List.mem_cons.mp hh with rfl | hh
        · rw [hw] at hw0
          cases hw0
          exact hc rfl
        · have h1 := hall h hh
          rw [hw] at h1
          simp only [Bool.and_eq_true, beq_iff_eq] at h1
          exact hc h1.1.1.symm
    · rfl

theorem State.collective_issues {s s' : State} {f g k : Nat} {q : Kernel} {ts : List Nat} (hi : s.Issues f g s' k q ts) {mask code d sr x : Nat}
    (hd : d < 128) (hsr : sr < 128) (h1 : code = 1 → d % 32 = 0) (h2 : code = 1 ∨ code = 2 → sr % 32 = 0) :
    s.collective f g mask code d sr x = (s'.beginWaits f g ts (fun h => .coll code d sr x (nbit mask h))).evalColl f g := by
  unfold State.collective
  have hc : ¬ (((code = 1 && (d % 32 ≠ 0 || sr % 32 ≠ 0)) || (code = 2 && sr % 32 ≠ 0) || d ≥ 128 || sr ≥ 128) = true) := by
    simp only [Bool.or_eq_true, Bool.and_eq_true, decide_eq_true_eq]
    omega
  rw [State.issue_issues hi]
  · exact if_neg hc
  · rw [if_neg hc]
    exact ((State.Keeps.refl (c := true) s').beginWaits.evalColl).waited rfl hi.waited

/-- Settles O11. -/
theorem groupWide : Obligations.GroupWide := by
  refine ⟨fun s s' f g mask code d sr x k ts q c hc hi hd hsr h1 h2 => ?_, fun s f g code d sr x pc cs inn hne hinn hall hb hd hd1 => ⟨_, rfl, ?_⟩,
    fun s f g code d sr x h i p hh hi hw hn => State.evalColl_waits hh hi hw hn⟩
  · have key := State.collective_issues (mask := mask) (x := x) hi hd hsr (fun h => (h1 h).1) h2
    simp only [List.mem_cons, List.not_mem_nil, or_false, Prod.mk.injEq] at hc
    rcases hc with ⟨rfl, rfl⟩ | ⟨rfl, rfl⟩ | ⟨rfl, rfl⟩ | ⟨rfl, rfl⟩ | ⟨rfl, rfl⟩
    · exact ⟨_, congrArg Host.Outcome.next key, rfl⟩
    · obtain ⟨-, rfl⟩ := h1 rfl
      exact ⟨_, congrArg Host.Outcome.next key, rfl⟩
    · exact ⟨_, congrArg Host.Outcome.next key, rfl⟩
    · exact ⟨_, congrArg Host.Outcome.next key, rfl⟩
    · exact ⟨_, congrArg Host.Outcome.next key, rfl⟩
  · subst hinn
    rw [State.evalColl_all hne hall hb]
    obtain ⟨s1, hs1⟩ : ∃ s1, s1 = (s.rowsIn f g).foldl (fun u h => u.countRegs f g h (collReads code sr x)) s := ⟨_, rfl⟩
    have h1 : s1.frd.thr = s.frd.thr ∧ s1.frd.gregs = s.frd.gregs ∧ s1.mem = s.mem := by
      rw [hs1]
      refine foldl_keeps (p := fun u : State => u.frd.thr = s.frd.thr ∧ u.frd.gregs = s.frd.gregs ∧ u.mem = s.mem) _ (fun u h hu => ?_) _ ⟨rfl, rfl, rfl⟩
      obtain ⟨ha, hb, hc⟩ := u.rowsIn_countRegs f g h (collReads code sr x)
      exact ⟨ha.trans hu.1, hb.trans hu.2.1, hc.trans hu.2.2⟩
    have hgreg (h n : Nat) : s1.greg f g h n = s.greg f g h n := by unfold State.greg; rw [h1.2.1]
    rw [← hs1]
    have hinn : (s.rowsIn f g).Nodup := (s.liveThreads_nodup f g).sublist (s.rowsIn_sublist f g)
    obtain ⟨hthr, hbytes, hout, hin, hnot⟩ := State.foldl_putList f g (s.collResult f g code d sr x (s.rowsIn f g))
      (s.collResult_nodup f g code d sr x _) (s.rowsIn f g) hinn s1
    generalize (s.rowsIn f g).foldl (fun u h => u.putList f g h (s.collResult f g code d sr x (s.rowsIn f g) h)) s1 = s2 at hthr hbytes hout hin hnot
    obtain ⟨hmoved, -, hframe⟩ := State.foldl_thr f g (fun _ q => { q with pc := (q.pc + 8) % 2 ^ 48, wait := .ready, cseq := (q.cseq + 1) % 65536 })
      (fun u h => u.collAdvance f g h) (fun u h => (State.thr_setThr_same _ _ _ _ _).trans (by rw [State.advance_thr]))
      (fun u h i hi => (State.thr_modThr_ne _ _ _ _ hi).trans (State.thr_modThr_ne _ _ _ _ hi)) (fun _ _ => rfl) (s.liveThreads f g)
      (s.liveThreads_nodup f g) s2
    generalize (s.liveThreads f g).foldl (fun u h => u.collAdvance f g h) s2 = t at hmoved hframe
    have hg (h n : Nat) : t.greg f g h n = s2.greg f g h n := by rw [hframe]; rfl
    have hput (h : Nat) (hh : h ∈ s.rowsIn f g) {n : Nat} {v : W32} (hn : n < 128) (hv : (n, v) ∈ s.collResult f g code d sr x (s.rowsIn f g) h) :
        t.greg f g h n = v := by
      have := hin h hh (n, v) hv
      rw [hg]
      rwa [Nat.mod_eq_of_lt hn] at this
    refine ⟨fun h hh => ?_, fun h hh => ⟨?_, ?_, ?_, ?_, ?_⟩, fun h _ hh n hn => ?_, fun h n hh hn hn1 hnd => ?_, State.sameMem_of_bytes ?_⟩
    · obtain ⟨hpc, hcs, -⟩ := hall h hh
      rw [hmoved h hh, State.thr_congr (hthr.trans h1.1), hpc, hcs]
      exact ⟨rfl, rfl, rfl⟩
    · rintro rfl
      exact hput h hh hd List.mem_cons_self
    · rintro rfl j hj
      have := hd1 rfl
      exact hput h hh (by omega) (List.mem_map.mpr ⟨j, List.mem_range.mpr hj, rfl⟩)
    · rintro rfl
      exact hput h hh hd List.mem_cons_self
    · rintro rfl
      exact hput h hh hd List.mem_cons_self
    · rintro rfl
      exact hput h hh hd List.mem_cons_self
    · rw [hg, (hout h hh).greg n hn, hgreg]
    · rw [hg]
      by_cases hr : h ∈ s.rowsIn f g
      · rw [hnot h hr n hn fun w hw e => ?_, hgreg]
        obtain ⟨hc, j, hj, hwd⟩ | ⟨hc, hwd⟩ := s.collResult_dest f g code d sr x _ h hw
        · have h0 := hd1 hc
          have := hn1 hc
          omega
        · have := hnd hc
          omega
      · rw [(hout h hr).greg n hn, hgreg]
    · rw [hframe]
      exact hbytes.trans (State.bytes_of_mem h1.2.2)

end Sys2Proof.Machine
end

section
/-!
PROOFS. Barriers, exits, traps and the cluster test (R155–R167, R173).
-/

namespace Sys2Proof.Machine

set_option Elab.async false

/-! ### What is seen of a thread while others change -/

/-- Distinct threads changed in turn, seen through `π`: each shows its own change. -/
theorem State.foldl_thr_view {β : Type} (π : Thread → β) (f g : Nat) (φ : Nat → β → β) (σ : State → Nat → State)
    (hself : ∀ u h, π ((σ u h).thr f g h) = φ h (π (u.thr f g h))) (hother : ∀ u h i, i ≠ h → (σ u h).thr f g i = u.thr f g i)
    (ts : List Nat) (hn : ts.Nodup) (s : State) (h : Nat) :
    π ((ts.foldl σ s).thr f g h) = if h ∈ ts then φ h (π (s.thr f g h)) else π (s.thr f g h) := by
  induction ts generalizing s with
  | nil => rfl
  | cons i ts ih =>
    rw [List.nodup_cons] at hn
    rw [List.foldl_cons, ih hn.2]
    by_cases hi : h = i
    · subst hi
      rw [if_neg hn.1, if_pos List.mem_cons_self, hself]
    · rw [hother _ _ _ hi]
      simp [hi]

/-- The place of a thread: how it waits, and its program counter. -/
def Thread.place (q : Thread) : Wait × Nat := (q.wait, q.pc)

theorem State.advanceAll_place (s : State) (f g : Nat) {ts : List Nat} (hn : ts.Nodup) (h : Nat) : ((s.advanceAll f g ts).thr f g h).place =
    if h ∈ ts then (.ready, ((s.thr f g h).place.2 + 8) % 2 ^ 48) else (s.thr f g h).place :=
  State.foldl_thr_view Thread.place f g (fun _ p => (.ready, (p.2 + 8) % 2 ^ 48)) (fun u h => u.advance f g h)
    (fun u h => by rw [State.advance_thr]; rfl) (fun u h i hi => State.thr_modThr_ne _ _ _ _ hi) ts hn s h

theorem State.beginWaits_place (s : State) (f g : Nat) {ts : List Nat} (w : Nat → Wait) (hn : ts.Nodup) (h : Nat) :
    ((s.beginWaits f g ts w).thr f g h).place = if h ∈ ts then (w h, (s.thr f g h).place.2) else (s.thr f g h).place :=
  State.foldl_thr_view Thread.place f g (fun h p => (w h, p.2))
    (fun s t => s.modThr f g t (fun q => { q with wait := w t, since := s.frd.stamp, waitClock := s.clock }))
    (fun _ _ => congrArg Thread.place (State.thr_setThr_same _ _ _ _ _)) (fun _ _ _ hi => State.thr_modThr_ne _ _ _ _ hi) ts hn s h

/-! ### Barriers -/

/-- A thread that arrives at a barrier waits at it, one whose predicate fails moves on (R155). -/
theorem State.arrive_place (s : State) (f g mask : Nat) (w : Wait) {ts : List Nat} (hn : ts.Nodup) {h : Nat} (hh : h ∈ ts) :
    ((s.arrive f g mask w ts).thr f g h).place =
      if nbit mask h then (w, (s.thr f g h).place.2) else (.ready, ((s.thr f g h).place.2 + 8) % 2 ^ 48) := by
  unfold State.arrive
  rw [State.advanceAll_place _ _ _ (hn.filter _), State.beginWaits_place _ _ _ _ (hn.filter _)]
  by_cases hm : nbit mask h = true
  · simp [hm, hh]
  · simp [hm, hh]

theorem State.evalBarG_waits {s : State} {f g b h : Nat} (hh : h ∈ s.liveThreads f g) (hw : (s.thr f g h).wait ≠ .barG b) : s.evalBarG f g b = s := by
  unfold State.evalBarG
  refine if_neg fun hall => ?_
  rw [Bool.and_eq_true, List.all_eq_true] at hall
  exact hw (beq_iff_eq.mp (hall.2 h hh))

/-- A group barrier at which every live thread waits releases them all (R155). -/
theorem State.evalBarG_releases {s : State} {f g b : Nat} (hall : ∀ h ∈ s.liveThreads f g, (s.thr f g h).wait = .barG b) {h : Nat}
    (hh : h ∈ s.liveThreads f g) : ((s.evalBarG f g b).thr f g h).place = (.ready, ((s.thr f g h).pc + 8) % 2 ^ 48) := by
  have e : s.evalBarG f g b = s.advanceAll f g (s.liveThreads f g) := by
    unfold State.evalBarG
    refine if_pos ?_
    rw [Bool.and_eq_true, List.all_eq_true]
    refine ⟨?_, fun i hi => beq_iff_eq.mpr (hall i hi)⟩
    rw [Bool.not_eq_true', List.isEmpty_eq_false_iff]
    exact List.ne_nil_of_mem hh
  rw [e, State.advanceAll_place _ _ _ (s.liveThreads_nodup f g), if_pos hh]
  rfl

theorem State.evalBarK_waits {s : State} {f k b g h : Nat} {q : Kernel} (hk : s.krn f k = some q) (hg : g ∈ q.groups) (hh : h ∈ s.liveThreads f g)
    (hw : (s.thr f g h).wait ≠ .barK b) : s.evalBarK f k b = s := by
  unfold State.evalBarK
  rw [hk]
  refine if_neg fun hall => ?_
  rw [Bool.and_eq_true, List.all_eq_true] at hall
  have h1 := hall.2 (g, s.liveThreads f g) (List.mem_map_of_mem hg)
  rw [List.all_eq_true] at h1
  exact hw (beq_iff_eq.mp (h1 h hh))

theorem State.liveThreads_lt {s : State} {f g h : Nat} (hh : h ∈ s.liveThreads f g) : h < 32 := List.mem_range.mp (List.mem_filter.mp hh).1

/-- Threads of one group that move on leave those of another. -/
theorem State.advanceAll_thr_ne (s : State) (f : Nat) {g i : Nat} {ts : List Nat} (ht : ∀ h ∈ ts, h < 32) (hi : i ≠ g) {j : Nat} (hj : j < 32) :
    (s.advanceAll f g ts).thr f i j = s.thr f i j := by
  induction ts generalizing s with
  | nil => rfl
  | cons h ts ih =>
    refine (ih (s.advance f g h) fun h hh => ht h (List.mem_cons_of_mem _ hh)).trans (State.thr_setThr_ne _ _ _ _ _ _ _ _ ?_)
    have := ht h List.mem_cons_self
    unfold thrKey
    omega

/-- A kernel barrier at which every live thread of every group waits releases them all (R155, R156). -/
theorem State.evalBarK_releases {s : State} {f k b : Nat} {q : Kernel} (hk : s.krn f k = some q) (hn : q.groups.Nodup)
    (hall : ∀ g ∈ q.groups, ∀ h ∈ s.liveThreads f g, (s.thr f g h).wait = .barK b) {g h : Nat} (hg : g ∈ q.groups) (hh : h ∈ s.liveThreads f g) :
    ((s.evalBarK f k b).thr f g h).place = (.ready, ((s.thr f g h).pc + 8) % 2 ^ 48) := by
  have e : s.evalBarK f k b = (q.groups.map (fun g => (g, s.liveThreads f g))).foldl (fun u p => u.advanceAll f p.1 p.2) s := by
    unfold State.evalBarK
    rw [hk]
    refine if_pos ?_
    rw [Bool.and_eq_true, List.any_eq_true, List.all_eq_true]
    refine ⟨⟨(g, s.liveThreads f g), List.mem_map_of_mem hg, ?_⟩, fun p hp => ?_⟩
    · rw [Bool.not_eq_true', List.isEmpty_eq_false_iff]
      exact List.ne_nil_of_mem hh
    · obtain ⟨i, hi, rfl⟩ := List.mem_map.mp hp
      exact List.all_eq_true.mpr fun j hj => beq_iff_eq.mpr (hall i hi j hj)
  have hout (l : List Nat) (u : State) (hl : g ∉ l) : (l.foldl (fun u i => u.advanceAll f i (s.liveThreads f i)) u).thr f g h = u.thr f g h := by
    induction l generalizing u with
    | nil => rfl
    | cons i l ih =>
      rw [List.mem_cons, not_or] at hl
      exact (ih _ hl.2).trans (State.advanceAll_thr_ne u f (fun _ hj => State.liveThreads_lt hj) hl.1 (State.liveThreads_lt hh))
  have hin (l : List Nat) (u : State) (hl : g ∈ l) (hn : l.Nodup) (hu : u.thr f g h = s.thr f g h) :
      ((l.foldl (fun u i => u.advanceAll f i (s.liveThreads f i)) u).thr f g h).place = (.ready, ((s.thr f g h).pc + 8) % 2 ^ 48) := by
    induction l generalizing u with
    | nil => cases hl
    | cons i l ih =>
      rw [List.nodup_cons] at hn
      by_cases hi : g = i
      · subst hi
        rw [List.foldl_cons, hout l _ hn.1, State.advanceAll_place _ _ _ (s.liveThreads_nodup f g), if_pos hh, hu]
        rfl
      · exact ih _ ((List.mem_cons.mp hl).resolve_left hi) hn.2
          ((State.advanceAll_thr_ne u f (fun _ hj => State.liveThreads_lt hj) hi (State.liveThreads_lt hh)).trans hu)
  rw [e, List.foldl_map]
  exact hin q.groups s hg hn rfl

/-! ### Exits -/

section
variable {s : State} {f g h : Nat} (hd : (s.thr f g h).live = false)
include hd

theorem State.exited_congr {t : State} (e : t.frd.thr = s.frd.thr) : (t.thr f g h).live = false := by rw [State.thr_congr e]; exact hd

theorem State.exited_modThr {φ : Thread → Thread} (hφ : ∀ q : Thread, q.live = false → (φ q).live = false) (f' g' i : Nat) :
    ((s.modThr f' g' i φ).thr f g h).live = false := by
  by_cases e : thrKey f g h = thrKey f' g' i
  · have h1 : (s.modThr f' g' i φ).thr f g h = φ (s.thr f g h) := by
      unfold State.modThr State.setThr State.thr
      rw [e]
      exact spGet_spPut_same _ _ _ _
    rw [h1]
    exact hφ _ hd
  · rw [State.modThr, State.thr_setThr_ne _ _ _ _ _ _ _ _ e]
    exact hd

theorem State.exited_foldl {α : Type} {σ : State → α → State} (hσ : ∀ (u : State) x, (u.thr f g h).live = false → ((σ u x).thr f g h).live = false)
    (l : List α) : ((l.foldl σ s).thr f g h).live = false := by
  induction l generalizing s with
  | nil => exact hd
  | cons x l ih => exact ih (hσ s x hd)

theorem State.exited_advance (f' g' i : Nat) : ((s.advance f' g' i).thr f g h).live = false :=
  State.exited_modThr (φ := fun q => { q with pc := (q.pc + 8) % 2 ^ 48, wait := .ready }) hd (fun _ hq => hq) f' g' i

theorem State.exited_advanceAll (f' g' : Nat) (ts : List Nat) : ((s.advanceAll f' g' ts).thr f g h).live = false :=
  foldl_keeps (p := fun u : State => (u.thr f g h).live = false) (fun u i => u.advance f' g' i)
    (fun _ i hu => State.exited_advance hu f' g' i) ts hd

omit hd in
/-- A trap changes no thread and no group. -/
theorem State.trapI_units (s : State) (f g t reason arg : Nat) (loc : Loc) (inj : Bool) :
    (s.trapI f g t reason arg loc inj).frd.thr = s.frd.thr ∧ (s.trapI f g t reason arg loc inj).frd.grp = s.frd.grp := by
  have hmark (u : State) (k reason : Nat) : (u.markAbort f k reason).frd.thr = u.frd.thr ∧ (u.markAbort f k reason).frd.grp = u.frd.grp :=
    ⟨congrArg (fun x => x.2.2.2.1) (u.markAbort_rear f k reason), congrArg (fun x => x.2.2.1) (u.markAbort_rear f k reason)⟩
  unfold State.trapI
  split
  · exact ⟨rfl, rfl⟩
  · split
    · exact ⟨rfl, rfl⟩
    · split
      · exact ⟨rfl, rfl⟩
      · extract_lets s1 s2
        have h1 : s1.frd = s.frd := (s.raise_same _).frd
        clear_value s1
        have hset (u : State) (d : Fd) (n : Nat) : (u.rset d n).frd = u.frd := rfl
        have h2 : s2.frd = s1.frd := by
          unfold s2
          rw [apply_ite State.frd]
          simp only [hset, ite_self]
        rw [(hmark _ _ _).1, (hmark _ _ _).2, h2, h1]
        exact ⟨rfl, rfl⟩

omit hd in
theorem State.regFault_thr (s : State) (f g t n : Nat) : (s.regFault f g t n).frd.thr = s.frd.thr := by
  unfold State.regFault
  exact (State.trapI_units _ _ _ _ _ _ _ _).1

/-- What a group-wide instruction does to a thread: it faults, or takes its result and moves on. -/
theorem State.exited_evalColl (f' g' : Nat) : ((s.evalColl f' g').thr f g h).live = false := by
  have hcongr {u v : State} (e : v.frd.thr = u.frd.thr) (hu : (u.thr f g h).live = false) : (v.thr f g h).live = false := State.exited_congr hu e
  have hfault (l : List (Nat × Nat)) : ((l.foldl (fun u p => u.regFault f' g' p.1 p.2) s).thr f g h).live = false :=
    foldl_keeps (p := fun u : State => (u.thr f g h).live = false) _ (fun u b hu => hcongr (u.regFault_thr f' g' b.1 b.2) hu) _ hd
  have hdone (l : List Nat) (ns : List Nat) (out : State → List (Nat × List (Nat × W32))) (ts : List Nat) :
      let s1 := l.foldl (fun u t => u.countRegs f' g' t ns) s
      let s2 := (out s1).foldl (fun u r => u.putList f' g' r.1 r.2) s1
      ((ts.foldl (fun u t => u.collAdvance f' g' t) s2).thr f g h).live = false := by
    intro s1 s2
    have h1 : (s1.thr f g h).live = false :=
      foldl_keeps (p := fun u : State => (u.thr f g h).live = false) _ (fun u i hu => hcongr (u.countRegs_frame f' g' i _).1 hu) _ hd
    have h2 : (s2.thr f g h).live = false :=
      foldl_keeps (p := fun u : State => (u.thr f g h).live = false) _ (fun u r hu => hcongr (u.putList_frame f' g' r.1 r.2).1 hu) _ h1
    exact foldl_keeps (p := fun u : State => (u.thr f g h).live = false) (fun u t => u.collAdvance f' g' t) (fun _ i hu =>
      State.exited_modThr (φ := fun q => { q with cseq := (q.cseq + 1) % 65536 }) (State.exited_advance hu f' g' i) (fun _ hq => hq) f' g' i) ts h2
  unfold State.evalColl
  generalize s.liveThreads f' g' = l
  cases l with
  | nil => exact hd
  | cons t0 rest =>
    dsimp only
    cases (s.thr f' g' t0).wait with
    | coll code d sr x p =>
      dsimp only
      split
      · generalize (s.rowsIn f' g').filterMap _ = bad
        cases bad with
        | nil => exact hdone _ _ (fun u => (s.rowsIn f' g').map (fun t => (t, u.collResult f' g' code d sr x (s.rowsIn f' g') t))) _
        | cons b l => exact hfault (b :: l)
      · exact hd
    | _ => exact hd

theorem State.exited_evalBarG (f' g' b : Nat) : ((s.evalBarG f' g' b).thr f g h).live = false := by
  unfold State.evalBarG
  dsimp only
  split
  · exact State.exited_advanceAll hd _ _ _
  · exact hd

theorem State.exited_evalBarK (f' k b : Nat) : ((s.evalBarK f' k b).thr f g h).live = false := by
  have hstep (u : State) (p : Nat × List Nat) (hu : (u.thr f g h).live = false) : ((u.advanceAll f' p.1 p.2).thr f g h).live = false :=
    State.exited_advanceAll hu f' p.1 p.2
  have hall (l : List (Nat × List Nat)) := State.exited_foldl hd hstep l
  unfold State.evalBarK
  cases s.krn f' k with
  | none => exact hd
  | some q =>
    dsimp only
    generalize q.groups.map (fun g => (g, s.liveThreads f' g)) = l
    split
    · exact hall l
    · exact hd

/-- The barriers and convergence points evaluated after an EXIT bring no thread back (R173). -/
theorem State.exited_reEval (f' g' : Nat) : ((s.reEval f' g').thr f g h).live = false := by
  obtain ⟨s8, hs8⟩ : ∃ s8, s8 = (List.range 8).foldl (fun u b => u.evalBarG f' g' b) (s.evalColl f' g') := ⟨_, rfl⟩
  have h8 : (s8.thr f g h).live = false := hs8 ▸ State.exited_foldl (State.exited_evalColl hd f' g')
    (fun _ b hu => State.exited_evalBarG hu f' g' b) (List.range 8)
  have hall (k : Nat) := State.exited_foldl h8 (σ := fun u b => u.evalBarK f' k b) (fun _ b hu => State.exited_evalBarK hu f' k b) (List.range 16)
  unfold State.reEval
  rw [← hs8]
  dsimp only
  cases (s8.grp f' g').kernel with
  | none => exact h8
  | some k =>
    rw [Option.elim_some]
    exact hall k

end

/-- The executing threads of an EXIT stop, the others move on, and the barriers are evaluated again (R173). -/
def State.exitAll (s : State) (f g mask : Nat) (ts : List Nat) : State :=
  (((ts.filter (nbit mask)).foldl (fun s t => s.modThr f g t (fun q => { q with live := false, wait := .ready })) s).advanceAll f g
    (ts.filter (fun t => !nbit mask t))).reEval f g

theorem State.Keeps.exitAll {c : Bool} {s₀ s : State} (h : s₀.Keeps c s) (f g mask : Nat) (ts : List Nat) : s₀.Keeps c (s.exitAll f g mask ts) :=
  ((h.foldl (fun _ _ h => h.modThr)).advanceAll).reEval

theorem execExit_issues {s s' : State} {f g k : Nat} {q : Kernel} {ts : List Nat} (hi : s.Issues f g s' k q ts) (mask : Nat) :
    exec (.exit f g mask) s = .next (s'.exitAll f g mask ts) :=
  congrArg Host.Outcome.next (State.issue_issues (eff := fun s _ _ ts => s.exitAll f g mask ts) hi
    (((State.Keeps.refl (c := true) s').exitAll f g mask ts).waited rfl hi.waited))

/-- A thread that exits is no longer live (R173). -/
theorem State.exitAll_exits {mask h : Nat} {ts : List Nat} (hn : ts.Nodup) (hh : h ∈ ts) (hm : nbit mask h = true) (s : State) (f g : Nat) :
    ((s.exitAll f g mask ts).thr f g h).live = false := by
  refine State.exited_reEval (State.exited_advanceAll ?_ f g _) f g
  have e := State.foldl_thr_view Thread.live f g (fun _ _ => false) (fun s t => s.modThr f g t (fun q => { q with live := false, wait := .ready }))
    (fun _ _ => congrArg Thread.live (State.thr_setThr_same _ _ _ _ _)) (fun _ _ _ hi => State.thr_modThr_ne _ _ _ _ hi) (ts.filter (nbit mask))
    (hn.filter _) s h
  rwa [if_pos (List.mem_filter.mpr ⟨hh, hm⟩)] at e

/-! ### Traps -/

/-- Raising a record writes no register of the Fronds (R604–R608). -/
theorem not_recSlot_of_le {off : Nat} (h : 0x200000 ≤ off) : ¬ recSlot off := by
  unfold recSlot
  simp only [Fd.HPT_ATS_STAT_FAILS]
  omega

/-- A trap of a kernel that runs aborts it with the reason and fences it (R163, R164). -/
theorem State.trap_aborts {s : State} {f g k : Nat} {q : Kernel} (hg : (s.grp f g).kernel = some k) (hk : s.krn f k = some q) (ha : q.abort = none)
    (t reason arg : Nat) (loc : Loc) : let u := s.trap f g t reason arg loc
    u.krn f k = some { q with abort := some reason } ∧ FUnit.kernel f k ∈ u.flt.fences := by
  unfold State.trap State.trapI
  rw [hg]
  dsimp only
  rw [hk]
  dsimp only
  rw [ha]
  dsimp only
  obtain ⟨s1, hs1⟩ : ∃ s1, s1 = s.raise ⟨reason, loc, 1, .kernel f k, some (q.launch.ktag, q.launch.tenant), false, false, false, false⟩ := ⟨_, rfl⟩
  have h1 : s1.frd = s.frd := hs1 ▸ (s.raise_same _).frd
  rw [← hs1]
  have hset (u : State) (d : Fd) (n : Nat) : (u.rset d n).frd = u.frd := rfl
  have hmark (u : State) (hu : u.frd = s.frd) : (u.markAbort f k reason).krn f k = some { q with abort := some reason } ∧
      FUnit.kernel f k ∈ (u.markAbort f k reason).flt.fences := by
    have hku : u.krn f k = some q := (State.krn_congr hu f k).trans hk
    unfold State.markAbort
    rw [hku]
    dsimp only
    rw [ha]
    dsimp only
    refine ⟨?_, (State.mem_addFence _ _ _).mpr (.inl rfl)⟩
    have hf (v : State) (x : FUnit) : (v.addFence x).frd = v.frd := by
      unfold State.addFence
      split <;> rfl
    exact (State.krn_congr (hf _ _) f k).trans (State.krn_setKrn_same _ _ _ _)
  refine hmark _ ?_
  split
  · exact h1
  · rw [hset, hset, hset, hset, hset, hset, hset, hset, hset, h1]

/-- The first trap since FRD_TRAP was freed is captured (R164). -/
theorem State.trap_captures {s : State} {f g k t reason arg : Nat} {q : Kernel} (hg : (s.grp f g).kernel = some k) (hk : s.krn f k = some q)
    (ha : q.abort = none) (hv : s.rget (Fd.FRD_TRAP_VALID f) = 0) (ht : t < 32) (hg64 : g < 64) (hk8 : k < 8) (hpc : (s.thr f g t).pc < 2 ^ 48)
    (hcs : (s.thr f g t).cseq < 65536) (loc : Loc) : let u := s.trap f g t reason arg loc
    u.rget (Fd.FRD_TRAP_VALID f) = 1 ∧ u.rget (Fd.FRD_TRAP_CODE f) = reason % 256 ∧ u.rget (Fd.FRD_TRAP_ARG f) = arg % 65536 ∧
    u.rget (Fd.FRD_TRAP_KSLOT f) = k ∧ u.rget (Fd.FRD_TRAP_GROUP f) = g ∧ u.rget (Fd.FRD_TRAP_THREAD f) = t ∧
    u.rget (Fd.FRD_TRAP_PC f) = (s.thr f g t).pc ∧ u.rget (Fd.FRD_TRAP_CSEQ f) = (s.thr f g t).cseq ∧
    u.rget (Fd.FRD_TRAP_KTAG f) = q.launch.ktag := by
  unfold State.trap State.trapI
  rw [hg]
  dsimp only
  rw [hk]
  dsimp only
  rw [ha]
  dsimp only
  obtain ⟨s1, hs1⟩ : ∃ s1, s1 = s.raise ⟨reason, loc, 1, .kernel f k, some (q.launch.ktag, q.launch.tenant), false, false, false, false⟩ := ⟨_, rfl⟩
  have hthr : s1.thr f g t = s.thr f g t := State.thr_congr (by rw [hs1, (s.raise_same _).frd]) f g t
  have hv1 : s1.rget (Fd.FRD_TRAP_VALID f) = 0 := by
    unfold State.rget at hv ⊢
    rw [hs1, State.rword_raise s _ (not_recSlot_of_le (by simp only [Fd.FRD_TRAP_VALID]; omega))]
    exact hv
  rw [← hs1, if_neg (by rw [hv1]; decide), hthr]
  have hmark (u : State) (d : Fd) : (u.markAbort f k reason).rget d = u.rget d := by
    unfold State.rget
    rw [State.rword_markAbort]
  have hkt : q.launch.ktag < 65536 := Nat.mod_lt _ (by decide)
  generalize (s.thr f g t).pc = pc at hpc
  generalize (s.thr f g t).cseq = cs at hcs
  generalize q.launch.ktag = kt at hkt
  simp only [hmark]
  simp only [Fd.FRD_TRAP_VALID, Fd.FRD_TRAP_CODE, Fd.FRD_TRAP_ARG, Fd.FRD_TRAP_KSLOT, Fd.FRD_TRAP_GROUP, Fd.FRD_TRAP_THREAD, Fd.FRD_TRAP_PC,
    Fd.FRD_TRAP_CSEQ, Fd.FRD_TRAP_KTAG]
  refine ⟨?_, ?_, ?_, ?_, ?_, ?_, ?_, ?_, ?_⟩ <;> simp [State.rget_rset_same, State.rget_rset_ne] <;> omega

/-- What a kernel's first trap leaves, and no later thread of the instruction changes: the abort, the fence and FRD_TRAP. -/
structure State.Trapped (f g k : Nat) (q : Kernel) (u v : State) : Prop where
  kernel : (v.grp f g).kernel = some k
  krn : v.krn f k = some q
  fence : FUnit.kernel f k ∈ v.flt.fences
  word0 : v.rword (Fd.FRD_TRAP_PC f).off = u.rword (Fd.FRD_TRAP_PC f).off
  word1 : v.rword (Fd.FRD_TRAP_VALID f).off = u.rword (Fd.FRD_TRAP_VALID f).off

/-- A further trap of an aborting kernel is counted and no more (R164). -/
theorem State.Trapped.trap {f g k : Nat} {q : Kernel} {u v : State} (h : State.Trapped f g k q u v) {r : Nat} (ha : q.abort = some r)
    (t reason arg : Nat) (loc : Loc) : State.Trapped f g k q u (v.trap f g t reason arg loc) := by
  have e : v.trap f g t reason arg loc = v.radd (Fd.FRD_TG_STAT_TRAP_COUNT f) 1 := by
    unfold State.trap State.trapI
    rw [h.kernel]
    dsimp only
    rw [h.krn]
    dsimp only
    rw [ha]
  rw [e]
  exact ⟨h.kernel, h.krn, h.fence, (State.rword_rset_ne _ _ _ (by simp only [Fd.FRD_TRAP_PC, Fd.FRD_TG_STAT_TRAP_COUNT]; omega)).trans h.word0,
    (State.rword_rset_ne _ _ _ (by simp only [Fd.FRD_TRAP_VALID, Fd.FRD_TG_STAT_TRAP_COUNT]; omega)).trans h.word1⟩

section
variable {s s' : State} {f g k : Nat} {q : Kernel} {ts : List Nat}

theorem State.Issues.running (h : s.Issues f g s' k q ts) : q.abort = none := by
  obtain ⟨-, -, -, ha, -⟩ := h
  exact ha

theorem execTrap_issues (hi : s.Issues f g s' k q ts) (mask arg : Nat) : exec (.trap f g mask arg) s =
    .next (s'.eachThread f g mask [] ts (fun u t => u.trap f g t 0x0285 (arg % 65536) (trapLoc f g t))) :=
  congrArg Host.Outcome.next (State.issue_issues
    (eff := fun s _ _ ts => s.eachThread f g mask [] ts (fun u t => u.trap f g t 0x0285 (arg % 65536) (trapLoc f g t))) hi
    (State.eachThread_waited hi.waited fun _ _ h => h.trap))

/-- TRAP: the lowest executing thread's trap is the kernel's (R161, R164). -/
theorem State.trapAll_captures (hn : ts.Nodup) (hg : (s'.grp f g).kernel = some k) (hk : s'.krn f k = some q) (ha : q.abort = none) {mask arg h : Nat}
    (hh : ts.find? (nbit mask) = some h) :
    ∃ u : State, u.thr f g h = s'.thr f g h ∧ (u.grp f g).kernel = some k ∧ u.krn f k = some q ∧ u.regs = s'.regs ∧ u.part = s'.part ∧
      State.Trapped f g k { q with abort := some 0x0285 } (u.trap f g h 0x0285 (arg % 65536) (trapLoc f g h))
        (s'.eachThread f g mask [] ts (fun u t => u.trap f g t 0x0285 (arg % 65536) (trapLoc f g t))) := by
  obtain ⟨hm, l1, l2, rfl, hl1⟩ := List.find?_eq_some_iff_append.mp hh
  rw [List.nodup_append] at hn
  obtain ⟨-, -, hdisj⟩ := hn
  rw [State.eachThread_nil, List.foldl_append, List.foldl_cons, if_pos hm]
  have hbefore (l : List Nat) (hl : ∀ i ∈ l, (!nbit mask i) = true) (hne : ∀ i ∈ l, i ≠ h) (v : State)
      (hv : v.thr f g h = s'.thr f g h ∧ v.frd.grp = s'.frd.grp ∧ v.frd.krn = s'.frd.krn ∧ v.regs = s'.regs ∧ v.part = s'.part) :
      let u := l.foldl (fun u i => if nbit mask i then u.trap f g i 0x0285 (arg % 65536) (trapLoc f g i) else u.advance f g i) v
      u.thr f g h = s'.thr f g h ∧ u.frd.grp = s'.frd.grp ∧ u.frd.krn = s'.frd.krn ∧ u.regs = s'.regs ∧ u.part = s'.part := by
    induction l generalizing v with
    | nil => exact hv
    | cons i l ih =>
      have hmi := hl i List.mem_cons_self
      rw [Bool.not_eq_true'] at hmi
      rw [List.foldl_cons, hmi, if_neg Bool.false_ne_true]
      refine ih (fun i hi => hl i (List.mem_cons_of_mem _ hi)) (fun i hi => hne i (List.mem_cons_of_mem _ hi)) (v.advance f g i) ?_
      exact ⟨(State.thr_modThr_ne v f g _ (hne i List.mem_cons_self).symm).trans hv.1, hv.2⟩
  obtain ⟨hthr, hgrp, hkrn, hregs, hpart⟩ := hbefore l1 hl1 (fun i hi e => hdisj i hi h List.mem_cons_self e) s' ⟨rfl, rfl, rfl, rfl, rfl⟩
  generalize l1.foldl _ s' = u at hthr hgrp hkrn hregs hpart ⊢
  have hug : (u.grp f g).kernel = some k := by unfold State.grp at hg ⊢; rw [hgrp]; exact hg
  have huk : u.krn f k = some q := by unfold State.krn at hk ⊢; rw [hkrn]; exact hk
  refine ⟨u, hthr, hug, huk, hregs, hpart, ?_⟩
  obtain ⟨h1, h2⟩ := State.trap_aborts hug huk ha h 0x0285 (arg % 65536) (trapLoc f g h)
  generalize hw : u.trap f g h 0x0285 (arg % 65536) (trapLoc f g h) = w at h1 h2 ⊢
  have hwg : (w.grp f g).kernel = some k := by
    have hr : w.frd.grp = u.frd.grp := by
      rw [← hw]
      exact (u.trapI_units f g h 0x0285 (arg % 65536) (trapLoc f g h) false).2
    unfold State.grp at hug ⊢
    rw [hr]
    exact hug
  have h0 : State.Trapped f g k { q with abort := some 0x0285 } w w := ⟨hwg, h1, h2, rfl, rfl⟩
  exact foldl_keeps (p := State.Trapped f g k { q with abort := some 0x0285 } w)
    (fun u i => if nbit mask i then u.trap f g i 0x0285 (arg % 65536) (trapLoc f g i) else u.advance f g i)
    (fun v i hv => by
      split
      · exact hv.trap rfl i 0x0285 (arg % 65536) (trapLoc f g i)
      · exact ⟨hv.kernel, hv.krn, hv.fence, hv.word0, hv.word1⟩) l2 h0

end

theorem State.grpKernel_some {s : State} {f g k : Nat} {q : Kernel} (h : s.grpKernel f g = some (k, q)) :
    (s.grp f g).kernel = some k ∧ s.krn f k = some q ∧ q.abort = none := by
  unfold State.grpKernel State.slotKernel at h
  cases hg : (s.grp f g).kernel with
  | none => simp [hg] at h
  | some k' =>
    cases hk : s.krn f k' with
    | none => simp [hg, hk] at h
    | some q' =>
      simp only [hg, hk, Option.map_some] at h
      split at h
      · next ha =>
        simp only [Option.some.injEq, Prod.mk.injEq] at h
        obtain ⟨rfl, rfl⟩ := h
        exact ⟨rfl, hk, Option.isNone_iff_eq_none.mp ha⟩
      · cases h

/-! ### Clusters -/

theorem Frond.clHeld_filter (l : List Nat) (c : Nat) : (l.filter (· != c)).contains c = false := by
  rw [List.contains_eq_any_beq, List.any_eq_false]
  intro i hi e
  rw [List.mem_filter] at hi
  simp only [beq_iff_eq] at e
  subst e
  simp at hi

/-- The state a cluster pattern test leaves before its outcome (R167). -/
def State.clusterTested (s : State) (f c : Nat) : State :=
  let u := s.modFr f (fun q => { q with clHeld := q.clHeld.filter (· != c), slotHeld := q.slotHeld.filter (fun g => g % 4 != c) })
  { u with frd.regBad := u.frd.regBad.filter (fun p => !(p.1 / 262144 == f && (p.1 / 4096) % 64 % 4 == c)) }

theorem State.clusterTested_held (s : State) (f c : Nat) : ((s.clusterTested f c).fr f).clHeld.contains c = false := by
  have e : (s.clusterTested f c).fr f =
      { s.fr f with clHeld := (s.fr f).clHeld.filter (· != c), slotHeld := (s.fr f).slotHeld.filter (fun g => g % 4 != c) } :=
    State.fr_setFr_same _ _ _
  rw [e]
  exact Frond.clHeld_filter _ c

theorem execClusterPatternTest_tests {s : State} {f c : Nat} (hh : (s.fr f).clHeld.contains c = true) (he : s.clusterEmpty f c = true) (fails : Bool) :
    exec (.clusterPatternTest f c fails) s = .next (if fails then
      (s.clusterTested f c).fenceEngine 0x0289 (clusterLoc f c) (clusterLoc f c) true false none else s.clusterTested f c) :=
  congrArg Host.Outcome.next (if_pos (by rw [hh, he]; rfl))

/-- Settles O12. -/
theorem barriersAndTraps : Obligations.BarriersAndTraps := by
  refine ⟨⟨fun s s' f g mask b k ts q hb hi => ⟨_, congrArg Host.Outcome.next ((if_pos hb).trans (State.issue_issues
        (eff := fun s _ _ ts => (s.arrive f g mask (.barG b) ts).evalBarG f g b) hi
        (((State.Keeps.refl (c := true) s').arrive.evalBarG).waited rfl hi.waited))), rfl⟩,
      fun s s' f g mask b k ts q hb hi => ⟨_, congrArg Host.Outcome.next ((if_pos hb).trans (State.issue_issues
        (eff := fun s k _ ts => (s.arrive f g mask (.barK b) ts).evalBarK f k b) hi
        (((State.Keeps.refl (c := true) s').arrive.evalBarK).waited rfl hi.waited))), rfl⟩,
      fun s f g mask h w ts hn hh => ?_, fun s f g b => ⟨fun ⟨h, hh, hw⟩ => State.evalBarG_waits hh hw, fun hall h hh => ?_⟩,
      fun s f k b q hk hn _ => ⟨fun ⟨g, hg, h, hh, hw⟩ => State.evalBarK_waits hk hg hh hw, fun hall g hg h hh => ?_⟩,
      fun s s' f g mask k h ts q hi hh hm => ⟨_, execExit_issues hi mask, ?_⟩⟩,
    ⟨fun s s' f g mask arg k h ts q hi hk hf hv hh hg hk8 hpc hcs hgk => ⟨_, execTrap_issues hi mask arg, ?_⟩,
      fun s f g h k q hgk ht => ?_, fun s f g h k q hgk ht => ?_⟩,
    fun s f c hh he => ⟨_, execClusterPatternTest_tests hh he false, s.clusterTested_held f c, rfl, rfl, rfl⟩,
    fun s f c hh he hs => ⟨_, execClusterPatternTest_tests hh he true, ?_⟩⟩
  · have e := s.arrive_place f g mask w hn hh
    by_cases hm : nbit mask h = true
    · rw [if_pos hm] at e
      rw [if_pos hm, if_pos hm]
      exact Prod.mk.inj e
    · rw [if_neg hm] at e
      rw [if_neg hm, if_neg hm]
      exact Prod.mk.inj e
  · exact Prod.mk.inj (State.evalBarG_releases hall hh)
  · exact Prod.mk.inj (State.evalBarK_releases hk hn hall hg hh)
  · exact State.exitAll_exits hi.nodup hh hm s' f g
  · have ha := hi.running
    obtain ⟨u, hthr, hug, huk, hregs, hpart, hT⟩ := State.trapAll_captures (arg := arg) hi.nodup hgk hk ha hf
    have hvu : u.rget (Fd.FRD_TRAP_VALID f) = 0 := by
      unfold State.rget State.rword at hv ⊢
      rw [hregs, hpart]
      exact hv
    obtain ⟨hvalid, hcode, harg, hslot, hgroup, hthread, hpcr, hcsr, hktag⟩ := State.trap_captures (reason := 0x0285) (arg := arg % 65536) hug huk ha
      hvu hh hg hk8 (by rw [hthr]; exact hpc) (by rw [hthr]; exact hcs) (trapLoc f g h)
    have h0 {d : Fd} {n : Nat} (hn : (u.trap f g h 0x0285 (arg % 65536) (trapLoc f g h)).rget d = n) (hd : d.off = (Fd.FRD_TRAP_PC f).off) :
        (s'.eachThread f g mask [] ts (fun u t => u.trap f g t 0x0285 (arg % 65536) (trapLoc f g t))).rget d = n := by
      unfold State.rget at hn ⊢
      rw [hd] at hn ⊢
      rw [hT.word0]
      exact hn
    have h1 {d : Fd} {n : Nat} (hn : (u.trap f g h 0x0285 (arg % 65536) (trapLoc f g h)).rget d = n) (hd : d.off = (Fd.FRD_TRAP_VALID f).off) :
        (s'.eachThread f g mask [] ts (fun u t => u.trap f g t 0x0285 (arg % 65536) (trapLoc f g t))).rget d = n := by
      unfold State.rget at hn ⊢
      rw [hd] at hn ⊢
      rw [hT.word1]
      exact hn
    refine ⟨hT.krn, hT.fence, h1 hvalid rfl, h1 hcode rfl, h1 (harg.trans (Nat.mod_mod _ _)) rfl, h1 hslot rfl, h1 hgroup rfl, h1 hthread rfl,
      h0 (hpcr.trans (by rw [hthr])) rfl, h0 (hcsr.trans (by rw [hthr])) rfl, h1 hktag rfl⟩
  · obtain ⟨hg, hk, ha⟩ := State.grpKernel_some hgk
    refine ⟨s.trap f g h 0x0283 0 (schedLoc f h), ?_, State.trap_aborts hg hk ha h 0x0283 0 (schedLoc f h)⟩
    refine congrArg Host.Outcome.next ?_
    rw [ht]
  · obtain ⟨hg, hk, ha⟩ := State.grpKernel_some hgk
    refine ⟨s.trap f g h 0x0284 0 (schedLoc f h), ?_, State.trap_aborts hg hk ha h 0x0284 0 (schedLoc f h)⟩
    refine congrArg Host.Outcome.next ?_
    rw [ht]
  · have hsw : (s.clusterTested f c).switching = none := hs
    obtain ⟨hc, hf⟩ := State.fenceEngine_fences hsw 0x0289 (clusterLoc f c) (clusterLoc f c) true false none
    refine ⟨?_, hf⟩
    have hq := congrArg (fun q : Frond => q.clHeld) (State.steady_of_corps hc f)
    exact (congrArg (fun l : List Nat => l.contains c) hq).trans (s.clusterTested_held f c)

end Sys2Proof.Machine
end

section
/-!
PROOFS. Command issue and waits for commands (R94, R147–R149).
-/

namespace Sys2Proof.Machine

set_option Elab.async false

/-! ### Commands placed -/

theorem State.placeEach_issues {s s' : State} {f g k n : Nat} {q : Kernel} {ts : List Nat} (hi : s.Issues f g s' k q ts) (hh : s.sbHeld f = false)
    (hn8 : n % 8 = 0) (hn : n < 128) {mask : Nat} {place : State → Nat → Kernel → Nat → State}
    (hw : (s'.eachThread f g mask (eightRegs n) ts (fun u h => place (u.sbDrain f) k q h)).waited = false) :
    s.placeEach f g mask n place = s'.eachThread f g mask (eightRegs n) ts (fun u h => place (u.sbDrain f) k q h) := by
  have hc : ¬ (decide (n % 8 ≠ 0) || decide (n ≥ 128)) = true := by
    simp only [Bool.or_eq_true, decide_eq_true_eq]
    omega
  unfold State.placeEach
  rw [hh, if_neg Bool.false_ne_true, State.issue_issues hi]
  · rw [if_neg hc]
  · rw [if_neg hc]
    exact hw

/-- An ACMD to an array the kernel owns, not fenced, with room in its queue (R147, R94). -/
theorem State.acmd1_queued {s : State} {f a : Nat} {q : Kernel} (ho : nbit q.launch.arrays a = true) (hf : s.arrFenced f a = false)
    (hl : (s.arr f a).queue.length < 16) (g n k h : Nat) : s.acmd1 f g a n k q h =
      (s.modArr f a (fun x => { x with queue := x.queue ++ [⟨(s.cmdWords f g h n).1, (s.cmdWords f g h n).2.1, (s.cmdWords f g h n).2.2.1,
        (s.cmdWords f g h n).2.2.2, k, 0, []⟩] })).advance f g h := by
  unfold State.acmd1
  rw [ho, hf, if_neg (by decide), if_neg (by decide), if_neg (by omega)]

theorem State.acmd1_full {s : State} {f a : Nat} {q : Kernel} (ho : nbit q.launch.arrays a = true) (hf : s.arrFenced f a = false)
    (hl : 16 ≤ (s.arr f a).queue.length) (g n k h : Nat) : s.acmd1 f g a n k q h = s.startWait f g h (.acmd a) := by
  unfold State.acmd1
  rw [ho, hf, if_neg (by decide), if_neg (by decide), if_pos hl]

theorem State.dcmd1_queued {s : State} {f c : Nat} (hr : nbit (s.rget (Fd.FRD_DMA_CTL_RING_MASK f)) c = false) (hl : (s.dma f c).queue.length < 16)
    (g n k h : Nat) (q : Kernel) : s.dcmd1 f g c n k q h = (s.setDma f c { s.dma f c with queue := (s.dma f c).queue ++
      [⟨(s.cmdWords f g h n).1, (s.cmdWords f g h n).2.1, (s.cmdWords f g h n).2.2.1, (s.cmdWords f g h n).2.2.2, .kernel f k, q.launch.asid,
        q.launch.tenant, false, false, none, 0⟩] }).advance f g h := by
  unfold State.dcmd1
  rw [hr, if_neg (by decide), if_neg (by omega)]

theorem State.dcmd1_full {s : State} {f c : Nat} (hr : nbit (s.rget (Fd.FRD_DMA_CTL_RING_MASK f)) c = false) (hl : 16 ≤ (s.dma f c).queue.length)
    (g n k h : Nat) (q : Kernel) : s.dcmd1 f g c n k q h = s.startWait f g h (.dcmd c) := by
  unfold State.dcmd1
  rw [hr, if_neg (by decide), if_pos hl]

theorem State.startWait_thr (s : State) (f g h : Nat) (w : Wait) : (s.startWait f g h w).thr f g h =
    { s.thr f g h with wait := w, since := s.frd.stamp, waitClock := s.clock } := State.thr_setThr_same s f g h _

theorem State.startWait_thr_ne (s : State) (f g : Nat) {h i : Nat} (w : Wait) (hi : i ≠ h) : (s.startWait f g h w).thr f g i = s.thr f g i :=
  State.thr_modThr_ne s f g (fun q => { q with wait := w, since := s.frd.stamp, waitClock := s.clock }) hi

theorem State.arr_advance (s : State) (f g h i a : Nat) : (s.advance f g h).arr i a = s.arr i a := rfl

/-! ### Waiting for commands -/

/-- What a thread does at AWAIT or DWAIT: it goes on, or waits as `w` (R147). -/
def State.passOrWait (s : State) (f g h : Nat) (pass : Bool) (w : Wait) : State := if pass then s.advance f g h else s.startWait f g h w

/-- What waiting threads do not touch. -/
structure State.SameWork (s t : State) : Prop where
  regs : t.regs = s.regs
  mem : t.mem = s.mem
  gregs : t.frd.gregs = s.frd.gregs
  arr : t.frd.arr = s.frd.arr
  dma : t.frd.dma = s.frd.dma
  waited : t.waited = s.waited

theorem State.SameWork.trans {s t u : State} (a : s.SameWork t) (b : t.SameWork u) : s.SameWork u :=
  ⟨b.regs.trans a.regs, b.mem.trans a.mem, b.gregs.trans a.gregs, b.arr.trans a.arr, b.dma.trans a.dma, b.waited.trans a.waited⟩

theorem State.passOrWait_sameWork (s : State) (f g h : Nat) (pass : Bool) (w : Wait) : s.SameWork (s.passOrWait f g h pass w) := by
  cases pass <;> exact ⟨rfl, rfl, rfl, rfl, rfl, rfl⟩

/-- Threads that go on or wait by one count of commands, which none of them changes. -/
theorem State.eachThread_passOrWait {f g mask : Nat} {ts : List Nat} (hn : ts.Nodup) (s : State) (count : State → Nat) (n : Nat) (w : Wait)
    (hc : ∀ u v : State, u.SameWork v → count v = count u) : let t := s.eachThread f g mask [] ts (fun u h => u.passOrWait f g h (count u ≤ n) w)
    s.SameWork t ∧ ∀ h ∈ ts, nbit mask h = true → (t.thr f g h).place =
      if count s ≤ n then (.ready, ((s.thr f g h).pc + 8) % 2 ^ 48) else (w, (s.thr f g h).pc) := by
  rw [State.eachThread_nil]
  have hstep (u : State) (h : Nat) : u.SameWork (if nbit mask h then u.passOrWait f g h (count u ≤ n) w else u.advance f g h) := by
    split
    · exact u.passOrWait_sameWork f g h _ w
    · exact u.passOrWait_sameWork f g h true w
  have hother (u : State) (h i : Nat) (hi : i ≠ h) : (if nbit mask h then u.passOrWait f g h (count u ≤ n) w else u.advance f g h).thr f g i = u.thr f g i := by
    unfold State.passOrWait
    split
    · split
      · exact State.thr_modThr_ne u f g _ hi
      · exact State.startWait_thr_ne u f g w hi
    · exact State.thr_modThr_ne u f g _ hi
  have hall (l : List Nat) (hl : l.Nodup) (v : State) (hv : s.SameWork v) :
      s.SameWork (l.foldl (fun u h => if nbit mask h then u.passOrWait f g h (count u ≤ n) w else u.advance f g h) v) ∧
      ∀ h, ((l.foldl (fun u h => if nbit mask h then u.passOrWait f g h (count u ≤ n) w else u.advance f g h) v).thr f g h).place =
        if h ∈ l then (if nbit mask h = true ∧ ¬ count s ≤ n then (w, (v.thr f g h).pc) else (.ready, ((v.thr f g h).pc + 8) % 2 ^ 48))
        else (v.thr f g h).place := by
    induction l generalizing v with
    | nil => exact ⟨hv, fun _ => rfl⟩
    | cons i l ih =>
      rw [List.nodup_cons] at hl
      obtain ⟨ihs, ihp⟩ := ih hl.2 _ (hv.trans (hstep v i))
      rw [List.foldl_cons]
      refine ⟨ihs, fun h => (ihp h).trans ?_⟩
      by_cases hi : h = i
      · subst hi
        rw [if_neg hl.1, if_pos List.mem_cons_self, ← hc s v hv]
        unfold State.passOrWait
        by_cases hm : nbit mask h = true
        · by_cases hp : count v ≤ n
          · simp only [hm, hp, decide_true, if_true, not_true, and_false, if_false, State.advance_thr]
            rfl
          · simp only [hm, hp, decide_false, if_true, not_false_eq_true, and_true, Bool.false_eq_true, if_false, State.startWait_thr]
            rfl
        · simp only [hm, Bool.false_eq_true, if_false, false_and, State.advance_thr]
          rfl
      · rw [hother _ _ _ hi]
        simp [hi]
  obtain ⟨h1, h2⟩ := hall ts hn s ⟨rfl, rfl, rfl, rfl, rfl, rfl⟩
  refine ⟨h1, fun h hh hm => ?_⟩
  rw [h2 h, if_pos hh]
  by_cases hp : count s ≤ n
  · rw [if_neg (by simp [hp]), if_pos hp]
  · rw [if_pos ⟨hm, hp⟩, if_neg hp]

theorem State.kArrCmds_congr (f k a : Nat) {s t : State} (h : s.SameWork t) : t.kArrCmds f k a = s.kArrCmds f k a := by
  unfold State.kArrCmds State.arr
  rw [h.arr]

theorem State.kDmaCmds_congr (f k c : Nat) {s t : State} (h : s.SameWork t) : t.kDmaCmds f k c = s.kDmaCmds f k c := by
  unfold State.kDmaCmds State.dma
  rw [h.dma]

section
variable {s s' : State} {f g k : Nat} {q : Kernel} {ts : List Nat}

theorem State.passOrWait_waited (hi : s.Issues f g s' k q ts) (mask : Nat) (count : State → Nat) (n : Nat) (w : Wait)
    (hc : ∀ u v : State, u.SameWork v → count v = count u) :
    (s'.eachThread f g mask [] ts (fun u h => u.passOrWait f g h (count u ≤ n) w)).waited = false :=
  (State.eachThread_passOrWait hi.nodup s' count n w hc).1.waited.trans hi.waited

theorem State.eachThread_ite (s : State) (mask : Nat) (count : State → Nat) (n : Nat) (w : Wait) :
    s.eachThread f g mask [] ts (fun u h => if count u ≤ n then u.advance f g h else u.startWait f g h w) =
      s.eachThread f g mask [] ts (fun u h => u.passOrWait f g h (count u ≤ n) w) := by
  unfold State.passOrWait
  simp only [decide_eq_true_eq]

theorem execAwait_issues (hi : s.Issues f g s' k q ts) (mask a n : Nat) : exec (.await f g mask a n) s =
    .next (s'.eachThread f g mask [] ts (fun u h => u.passOrWait f g h (u.kArrCmds f k a ≤ n) (.awaitA a n))) := by
  rw [← State.eachThread_ite s' mask (fun u => u.kArrCmds f k a)]
  refine congrArg Host.Outcome.next (State.issue_issues (eff := fun s k _ ts => s.eachThread f g mask [] ts (fun s t =>
    if s.kArrCmds f k a ≤ n then s.advance f g t else s.startWait f g t (.awaitA a n))) hi ?_)
  rw [State.eachThread_ite s' mask (fun u => u.kArrCmds f k a)]
  exact State.passOrWait_waited hi mask (fun u => u.kArrCmds f k a) n _ (fun _ _ h => State.kArrCmds_congr f k a h)

theorem execDwait_issues (hi : s.Issues f g s' k q ts) (mask c n : Nat) : exec (.dwait f g mask c n) s =
    .next (s'.eachThread f g mask [] ts (fun u h => u.passOrWait f g h (u.kDmaCmds f k c ≤ n) (.awaitD c n))) := by
  rw [← State.eachThread_ite s' mask (fun u => u.kDmaCmds f k c)]
  refine congrArg Host.Outcome.next (State.issue_issues (eff := fun s k _ ts => s.eachThread f g mask [] ts (fun s t =>
    if s.kDmaCmds f k c ≤ n then s.advance f g t else s.startWait f g t (.awaitD c n))) hi ?_)
  rw [State.eachThread_ite s' mask (fun u => u.kDmaCmds f k c)]
  exact State.passOrWait_waited hi mask (fun u => u.kDmaCmds f k c) n _ (fun _ _ h => State.kDmaCmds_congr f k c h)

end

/-- Settles O13. -/
theorem commandIssue : Obligations.CommandIssue := by
  refine ⟨⟨?_, fun s f g a n k h q ho hf => ⟨fun hl => ?_, fun hl => ⟨_, s.acmd1_queued ho hf hl g n k h, ?_⟩⟩, fun s f g a n k h q ho hgk => ?_⟩,
    ⟨?_, fun s f g c n k h q hr => ⟨fun hl => ?_, fun hl => ⟨_, s.dcmd1_queued hr hl g n k h q, ?_⟩⟩⟩, fun s s' f g mask a n k h ts q hi hh hm => ?_,
    fun s s' f g mask c n k h ts q hi hh hm => ?_⟩
  · intro s s' f g mask a n k ts q t hi ha hh h8 hn hw
    exact congrArg Host.Outcome.next ((if_pos ha).trans (State.placeEach_issues (place := fun s k q t => s.acmd1 f g a n k q t) hi hh h8 hn hw))
  · rw [State.acmd1_full ho hf hl]
    exact ⟨by rw [State.startWait_thr], fun _ => rfl⟩
  · refine ⟨?_, by rw [State.advance_thr]; rfl, rfl, rfl⟩
    rw [State.arr_advance, State.arr_modArr_same]
  · obtain ⟨hg, hk, ha⟩ := State.grpKernel_some hgk
    have e : s.acmd1 f g a n k q h = s.trapHere f g h 0x0286 := by
      unfold State.acmd1
      rw [ho]
      rfl
    rw [e]
    exact (State.trap_aborts hg hk ha h 0x0286 0 (trapLoc f g h)).1
  · intro s s' f g mask c n k ts q t hi hc hh h8 hn hw
    exact congrArg Host.Outcome.next ((if_pos hc).trans (State.placeEach_issues (place := fun s k q t => s.dcmd1 f g c n k q t) hi hh h8 hn hw))
  · rw [State.dcmd1_full hr hl]
    exact ⟨by rw [State.startWait_thr], fun _ => rfl⟩
  · refine ⟨?_, by rw [State.advance_thr]; rfl, rfl, rfl⟩
    exact congrArg Dma.queue (State.dma_setDma_same s f c _)
  · obtain ⟨hsame, hplace⟩ := State.eachThread_passOrWait (mask := mask) hi.nodup s' (fun u => u.kArrCmds f k a) n (.awaitA a n)
      (fun _ _ h => State.kArrCmds_congr f k a h)
    have hp := hplace h hh hm
    refine ⟨_, execAwait_issues hi mask a n, hsame.regs, hsame.mem, hsame.gregs, fun hle => ?_, fun hlt => ?_⟩
    · rw [if_pos hle] at hp
      exact (Prod.mk.inj hp).symm
    · rw [if_neg (by omega)] at hp
      exact (Prod.mk.inj hp).symm
  · obtain ⟨hsame, hplace⟩ := State.eachThread_passOrWait (mask := mask) hi.nodup s' (fun u => u.kDmaCmds f k c) n (.awaitD c n)
      (fun _ _ h => State.kDmaCmds_congr f k c h)
    have hp := hplace h hh hm
    refine ⟨_, execDwait_issues hi mask c n, hsame.regs, hsame.mem, hsame.gregs, fun hle => ?_, fun hlt => ?_⟩
    · rw [if_pos hle] at hp
      exact (Prod.mk.inj hp).symm
    · rw [if_neg (by omega)] at hp
      exact (Prod.mk.inj hp).symm

end Sys2Proof.Machine
end

section
/-!
PROOFS. Launch records, admission and the ends of kernels (R133, R139, R163, R168–R172).
-/

namespace Sys2Proof.Machine

set_option Elab.async false

/-! ### Descriptors completed -/

theorem Ring.find_idx {q : Ring} {i : Nat} {st : Started} (h : q.find i = some st) : st.idx = i := by
  have := List.find?_some h
  exact beq_iff_eq.mp this

theorem State.dmaResume_krn (s : State) (r i : Nat) : (s.dmaResume r i).frd.krn = s.frd.krn := by
  unfold State.dmaResume
  have hset (u : State) (d : Fd) (n : Nat) : (u.rset d n).frd.krn = u.frd.krn := rfl
  have hdma (u : State) (f c : Nat) (v : Dma) : (u.setDma f c v).frd.krn = u.frd.krn := rfl
  refine foldl_keeps (p := fun u : State => u.frd.krn = s.frd.krn) _ (fun u f hu => ?_) _ rfl
  refine foldl_keeps (p := fun u : State => u.frd.krn = s.frd.krn) _ (fun u c hu => ?_) _ hu
  split
  · split
    · rw [hset, hdma, hu]
    · exact hu
  · exact hu

theorem State.complete_krn (s : State) (r i status reason result : Nat) : (s.complete r i status reason result).frd.krn = s.frd.krn := by
  have hadd (u : State) (d : Fd) : (u.radd d 1).frd.krn = u.frd.krn := rfl
  have hring (u : State) (g : Ring → Ring) : (u.modRing r g).frd.krn = u.frd.krn := rfl
  unfold State.complete
  split
  · rfl
  · dsimp only
    split
    · rw [State.dmaResume_krn, hring]
    · split
      · rw [hadd, hadd, hring]
      · rw [hadd, hring]

/-- An issuer that hears of a kernel's end: no kernel slot changes. -/
theorem State.kernelDone_krn (s : State) (who : Issuer) (f : Nat) (ok : Bool) (reason : Nat) : (s.kernelDone who f ok reason).frd.krn = s.frd.krn := by
  have hring {r : Nat} (u : State) (g : Ring → Ring) : (u.modRing r g).frd.krn = u.frd.krn := rfl
  unfold State.kernelDone
  split
  · unfold State.launchDone
    split
    · rfl
    · dsimp only
      split
      · rw [State.complete_krn]
        exact hring _ _
      · exact hring _ _
  · unfold State.stepKernelDone
    split <;> rfl

/-! ### Launch records -/

theorem State.launchTo_good {s : State} {f : Nat} {l : Launch} (hu : s.frondUp f = true) (he : s.rget (Fd.FRD_ASPACE_BASE_EN f) = 1)
    (hb : s.launchBad f l = false) : s.launchTo f l = if s.awake f then s.modFr f (fun q => { q with lq := q.lq ++ [l] })
      else (s.modFr f (fun q => { q with stub := q.stub ++ [l] })).wakeReq f false := by
  unfold State.launchTo
  rw [hu, he, hb, if_neg (by decide), if_neg (by decide), if_neg (by decide)]

theorem State.wakeReq_stub (s : State) (f : Nat) (slow : Bool) : ((s.wakeReq f slow).fr f).stub = (s.fr f).stub := by
  unfold State.wakeReq
  split
  · rfl
  · split
    · rfl
    · unfold State.wakeStart
      extract_lets st s1 s2
      have h1 : s1.fr f = s.fr f := by
        unfold s1
        split <;> rfl
      have h2 : s2.fr f = s1.fr f := by
        unfold s2
        split <;> rfl
      rw [State.modFr, State.fr_setFr_same, ← h1, ← h2]
      rfl

/-! ### Admission -/

theorem dropGroup_get {α : Type} (d : Nat → α) (n f g : Nat) (m : Sp α) (j : Nat) :
    spGet d (dropGroup n f g m) j = if j / n = f * 64 + g then d j else spGet d m j := by
  unfold dropGroup
  induction m with
  | nil => exact (ite_self _).symm
  | cons p m ih =>
    obtain ⟨i, v⟩ := p
    by_cases hi : i / n = f * 64 + g
    · rw [List.filter_cons_of_neg (p := fun c : Nat × α => c.1 / n != f * 64 + g) (by simp [hi]), ih]
      by_cases hj : j / n = f * 64 + g
      · rw [if_pos hj, if_pos hj]
      · rw [if_neg hj, if_neg hj, spGet, if_neg (by rintro rfl; exact hj hi)]
    · rw [List.filter_cons_of_pos (p := fun c : Nat × α => c.1 / n != f * 64 + g) (by simp [hi]), spGet, spGet, ih]
      by_cases he : i = j
      · subst he
        rw [if_pos rfl, if_pos rfl, if_neg hi]
      · rw [if_neg he, if_neg he]

/-- A group whose threads have started for the kernel in slot `k` (R139, R171). -/
structure State.Begun (f k entry g : Nat) (s : State) : Prop where
  kernel : (s.grp f g).kernel = some k
  thr : ∀ h, h < 32 → s.thr f g h = { Thread.init with live := true, pc := entry }
  greg : ∀ h, h < 32 → ∀ n, n < 128 → s.greg f g h n = 0#32

theorem State.foldl_setThr (f g : Nat) (v : Thread) (l : List Nat) (s : State) : let t := l.foldl (fun u h => u.setThr f g h v) s
    (∀ h ∈ l, t.thr f g h = v) ∧ (∀ i h, thrKey f i h ∉ l.map (thrKey f g) → t.thr f i h = s.thr f i h) ∧ t = { s with frd.thr := t.frd.thr } := by
  induction l generalizing s with
  | nil => exact ⟨nofun, fun _ _ _ => rfl, rfl⟩
  | cons j l ih =>
    obtain ⟨hin, hout, hframe⟩ := ih (s.setThr f g j v)
    rw [List.foldl_cons]
    refine ⟨fun h hh => ?_, fun i h hh => ?_, hframe⟩
    · by_cases hl : h ∈ l
      · exact hin h hl
      · obtain rfl := (List.mem_cons.mp hh).resolve_right hl
        rw [hout g h fun hm => ?_]
        · exact State.thr_setThr_same _ _ _ _ _
        · obtain ⟨i, hi, he⟩ := List.mem_map.mp hm
          unfold thrKey at he
          exact hl ((by omega : i = h) ▸ hi)
    · rw [List.map_cons, List.mem_cons, not_or] at hh
      rw [hout i h hh.2]
      exact State.thr_setThr_ne _ _ _ _ _ _ _ _ hh.1

/-- What the start of a group does: its own threads begin, and the groups beside it stay begun. -/
theorem State.startGroup_begins (s : State) (f k entry n g : Nat) : let t := s.startGroup f k entry (n, g)
    State.Begun f k entry g t ∧ (∀ i, i ≠ g → State.Begun f k entry i s → State.Begun f k entry i t) ∧
    t.regs = s.regs ∧ t.mem = s.mem ∧ t.frd.arr = s.frd.arr ∧ t.frd.krn = s.frd.krn := by
  unfold State.startGroup
  dsimp only
  generalize hb : State.setGrp _ f g _ = s0
  obtain ⟨hin, hout, hframe⟩ := State.foldl_setThr f g { Thread.init with live := true, pc := entry } (List.range 32) s0
  generalize (List.range 32).foldl (fun u h => u.setThr f g h { Thread.init with live := true, pc := entry }) s0 = t at hin hout hframe
  have hgrp (i : Nat) : t.grp f i = s0.grp f i := by rw [hframe]; rfl
  have hgreg (i h m : Nat) : t.greg f i h m = s0.greg f i h m := by rw [hframe]; rfl
  subst hb
  refine ⟨⟨?_, fun h hh => hin h (List.mem_range.mpr hh), fun h hh m hm => ?_⟩, fun i hi hB => ⟨?_, fun h hh => ?_, fun h hh m hm => ?_⟩, ?_, ?_, ?_, ?_⟩
  · rw [hgrp]
    exact congrArg Group.kernel (State.grp_setGrp_same _ _ _ _)
  · rw [hgreg]
    refine (dropGroup_get (fun _ => 0#32) 4096 f g s.frd.gregs _).trans (if_pos ?_)
    unfold thrKey
    omega
  · rw [hgrp]
    exact (congrArg Group.kernel (State.grp_setGrp_ne _ _ _ _ _ _ (by omega))).trans hB.kernel
  · rw [hout i h fun hm => ?_]
    · refine (dropGroup_get (fun _ => Thread.init) 32 f g s.frd.thr _).trans ((if_neg ?_).trans (hB.thr h hh))
      unfold thrKey
      omega
    · obtain ⟨j, hj, he⟩ := List.mem_map.mp hm
      have := List.mem_range.mp hj
      unfold thrKey at he
      omega
  · rw [hgreg]
    refine (dropGroup_get (fun _ => 0#32) 4096 f g s.frd.gregs _).trans ((if_neg ?_).trans (hB.greg h hh m hm))
    unfold thrKey
    omega
  all_goals rw [hframe]; rfl

/-- The groups of a kernel start one by one (R171). -/
theorem State.foldl_startGroup (f k entry : Nat) (l : List (Nat × Nat)) (hn : (l.map Prod.snd).Nodup) (s : State) :
    let t := l.foldl (fun u p => u.startGroup f k entry p) s
    (∀ g ∈ l.map Prod.snd, State.Begun f k entry g t) ∧ (∀ g, g ∉ l.map Prod.snd → State.Begun f k entry g s → State.Begun f k entry g t) ∧
    t.regs = s.regs ∧ t.mem = s.mem ∧ t.frd.arr = s.frd.arr ∧ t.frd.krn = s.frd.krn := by
  induction l generalizing s with
  | nil => exact ⟨nofun, fun _ _ h => h, rfl, rfl, rfl, rfl⟩
  | cons p l ih =>
    rw [List.map_cons, List.nodup_cons] at hn
    obtain ⟨hself, hother, hregs, hmem, harr, hkrn⟩ := s.startGroup_begins f k entry p.1 p.2
    obtain ⟨ihin, ihout, ihregs, ihmem, iharr, ihkrn⟩ := ih hn.2 (s.startGroup f k entry p)
    rw [List.foldl_cons]
    refine ⟨fun g hg => ?_, fun g hg hB => ?_, ihregs.trans hregs, ihmem.trans hmem, iharr.trans harr, ihkrn.trans hkrn⟩
    · by_cases hl : g ∈ l.map Prod.snd
      · exact ihin g hl
      · rw [List.map_cons] at hg
        obtain rfl := (List.mem_cons.mp hg).resolve_right hl
        exact ihout _ hl hself
    · rw [List.map_cons, List.mem_cons, not_or] at hg
      exact ihout g hg.2 (hother g hg.1 hB)

theorem State.arrOwn_owner (s : State) (f k tenant a : Nat) : ((s.arrOwn f k tenant a).arr f a).owner = some k := by
  unfold State.arrOwn
  rw [State.arr_modArr_same]

theorem State.freeSlots_sublist (s : State) (f : Nat) : (s.freeSlots f).Sublist (List.range 64) := List.filter_sublist

/-- The arrays of a kernel admitted are its own (R170). -/
theorem State.foldl_arrOwn (f k tenant : Nat) (l : List Nat) (hn : l.Nodup) (s : State) : let t := l.foldl (fun u a => u.arrOwn f k tenant a) s
    (∀ a ∈ l, (t.arr f a).owner = some k) ∧ t = { s with frd.arr := t.frd.arr } := by
  obtain ⟨hin, -, hframe⟩ := State.foldl_modArr f (fun q =>
    { (if (match q.lastTenant with
        | some t => t != tenant
        | none => false) then { Arr.init with seqUp := q.seqUp, test := q.test, queue := q.queue, accCorr := q.accCorr, doneTag := q.doneTag } else q)
      with owner := some k, lastTenant := some tenant }) l hn s
  exact ⟨fun a ha => congrArg Arr.owner (hin a ha), hframe⟩

/-- The oldest record admitted (R170, R171). -/
theorem execKernelAdmission_admits {s : State} {f k : Nat} {l : Launch} {rest : List Launch} (hl : (s.fr f).lq = l :: rest)
    (hk : (List.range 8).find? (fun k => (s.krn f k).isNone) = some k) (hu : s.frondUp f = true) (hr : s.inRun f = true)
    (hs : l.groupsM1 + 1 ≤ (s.freeSlots f).length) (ha : ∀ a ∈ bitsOf 8 l.arrays, (s.arr f a).owner = none) :
    let slots := (s.freeSlots f).take (l.groupsM1 + 1)
    exec (.kernelAdmission f) s = .next (State.modFr (((List.range slots.length).zip slots).foldl (fun u p => u.startGroup f k l.entry p)
      ((bitsOf 8 l.arrays).foldl (fun u a => u.arrOwn f k l.tenant a) (s.setKrn f k (some ⟨l, slots, none⟩)))) f
      (fun q => { q with lq := rest, dcache := [], icache := if q.icacheTenant = some l.tenant then q.icache else [],
                         icacheBad := if q.icacheTenant = some l.tenant then q.icacheBad else [], icacheTenant := some l.tenant })) := by
  refine congrArg Host.Outcome.next ?_
  rw [hl]
  dsimp only
  rw [hk]
  dsimp only
  refine if_pos ?_
  have hall : (bitsOf 8 l.arrays).all (fun a => (s.arr f a).owner.isNone) = true := List.all_eq_true.mpr fun a h => by rw [ha a h]; rfl
  rw [hu, hr, hall, List.length_take, Nat.min_eq_left hs]
  simp

/-! ### Ends of kernels -/

theorem State.isSome_of_rear_snd {s t : State} (h : t.rear.2 = s.rear.2) (f k : Nat) : (t.krn f k).isSome = (s.krn f k).isSome :=
  congrArg (fun x => x.2.2.2.2.2 f k) h

theorem State.arr_of_rear_snd {s t : State} (h : t.rear.2 = s.rear.2) (f a : Nat) : t.arr f a = s.arr f a := by
  have harr : t.frd.arr = s.frd.arr := congrArg (fun x => x.1) h
  unfold State.arr
  rw [harr]

/-- A kernel's commands discarded from one DMA channel (R163). -/
def State.discardDma (s : State) (f k c : Nat) : State :=
  let mine := fun x : DmaCmd => x.src == Agent.kernel f k
  let s := if (match (s.dma f c).queue with
    | x :: _ => mine x
    | [] => false) then s.rset (Fd.FRD_DMA_STAT_HALTED f c) 0 else s
  s.setDma f c { s.dma f c with queue := (s.dma f c).queue.filter (fun x => !mine x) }

theorem State.discardDma_frd (s : State) (f k c : Nat) : (s.discardDma f k c).frd.arr = s.frd.arr ∧ (s.discardDma f k c).frd.krn = s.frd.krn := by
  have hset (v : State) (d : Fd) (n : Nat) : (v.rset d n).frd = v.frd := rfl
  have hdma (v : State) (x : Dma) : (v.setDma f c x).frd.arr = v.frd.arr ∧ (v.setDma f c x).frd.krn = v.frd.krn := ⟨rfl, rfl⟩
  unfold State.discardDma
  extract_lets mine w
  have hw : w.frd = s.frd := by
    unfold w
    rw [apply_ite State.frd, hset, ite_self]
  rw [(hdma _ _).1, (hdma _ _).2, hw]
  exact ⟨rfl, rfl⟩

theorem State.discardCmds_eq (s : State) (f k : Nat) : s.discardCmds f k = (List.range 16).foldl (fun u c => u.discardDma f k c)
    ((List.range 8).foldl (fun u a => u.modArr f a (fun q => q.discard (q.queue.filter (fun c => c.kslot != k)))) s) := (rfl)

/-- A kernel's commands discarded: no array's queue holds one, and the kernels stay (R163). -/
theorem State.discardCmds_leaves (s : State) (f k : Nat) : let t := s.discardCmds f k
    (∀ a, a < 8 → ∀ c ∈ (t.arr f a).queue, c.kslot ≠ k) ∧ t.frd.krn = s.frd.krn := by
  obtain ⟨hin, -, hframe⟩ := State.foldl_modArr f (fun q => q.discard (q.queue.filter (fun c => c.kslot != k))) (List.range 8) List.nodup_range s
  rw [State.discardCmds_eq]
  generalize (List.range 8).foldl (fun u a => u.modArr f a (fun q => q.discard (q.queue.filter (fun c => c.kslot != k)))) s = u at hin hframe ⊢
  obtain ⟨harr, hkrn⟩ := foldl_keeps (p := fun v : State => v.frd.arr = u.frd.arr ∧ v.frd.krn = u.frd.krn) (fun v c => v.discardDma f k c)
    (fun v c hv => ⟨(v.discardDma_frd f k c).1.trans hv.1, (v.discardDma_frd f k c).2.trans hv.2⟩) (List.range 16) ⟨rfl, rfl⟩
  generalize (List.range 16).foldl (fun v c => v.discardDma f k c) u = t at harr hkrn ⊢
  refine ⟨fun a ha c hc => ?_, hkrn.trans (by rw [hframe])⟩
  have e := hin a (List.mem_range.mpr ha)
  unfold State.arr at e hc
  rw [harr, e, Arr.discard_queue] at hc
  simpa using (List.mem_filter.mp hc).2

/-- The threads and registers of a group released. -/
def State.releaseGroup (s : State) (f g : Nat) : State :=
  let s := { s with frd.thr := dropGroup 32 f g s.frd.thr
                    frd.gregs := dropGroup 4096 f g s.frd.gregs
                    frd.preds := dropGroup 32 f g s.frd.preds }
  (s.setGrp f g Group.init).modFr f (fun q => { q with watch := q.watch.filter (fun w => w.g != g), idleFrom := s.clock })

/-- An array released by a kernel that owns it. -/
def State.releaseArr (s : State) (f k tenant a : Nat) : State :=
  if (s.arr f a).owner = some k then s.modArr f a (fun x => { x with owner := none, lastTenant := some tenant }) else s

theorem State.releaseKernel_eq {s : State} {f k : Nat} {q : Kernel} (h : s.krn f k = some q) : s.releaseKernel f k =
    (((List.range 8).foldl (fun u a => u.releaseArr f k q.launch.tenant a) (q.groups.foldl (fun u g => u.releaseGroup f g) s)).setKrn f k none).dropFence
      (.kernel f k) := by
  unfold State.releaseKernel
  rw [h]
  rfl

theorem State.foldl_releaseArr (f k tenant : Nat) (l : List Nat) (s : State) : let t := l.foldl (fun u a => u.releaseArr f k tenant a) s
    (∀ a, (t.arr f a).queue = (s.arr f a).queue) ∧ (∀ a, (s.arr f a).owner ≠ some k → (t.arr f a).owner ≠ some k) ∧
    ∀ a ∈ l, (t.arr f a).owner ≠ some k := by
  induction l generalizing s with
  | nil => exact ⟨fun _ => rfl, fun _ h => h, nofun⟩
  | cons b l ih =>
    have hstep : (∀ a, ((s.releaseArr f k tenant b).arr f a).queue = (s.arr f a).queue) ∧
        (∀ a, (s.arr f a).owner ≠ some k ∨ a = b → ((s.releaseArr f k tenant b).arr f a).owner ≠ some k) := by
      unfold State.releaseArr
      split
      · refine ⟨fun a => ?_, fun a ha => ?_⟩
        · by_cases hb : a = b
          · subst hb
            rw [State.arr_modArr_same]
          · rw [State.modArr, State.arr_setArr_ne _ _ _ _ _ _ (by omega)]
        · by_cases hb : a = b
          · subst hb
            rw [State.arr_modArr_same]
            exact fun e => nomatch e
          · rw [State.modArr, State.arr_setArr_ne _ _ _ _ _ _ (by omega)]
            exact ha.resolve_right hb
      · next ho =>
        refine ⟨fun _ => rfl, fun a ha => ?_⟩
        rcases ha with ha | rfl
        · exact ha
        · exact ho
    obtain ⟨ihq, iho, ihin⟩ := ih (s.releaseArr f k tenant b)
    rw [List.foldl_cons]
    refine ⟨fun a => (ihq a).trans (hstep.1 a), fun a ha => iho a (hstep.2 a (.inl ha)), fun a ha => ?_⟩
    rcases List.mem_cons.mp ha with rfl | ha
    · exact iho a (hstep.2 a (.inr rfl))
    · exact ihin a ha

/-- A kernel released: its slot is free and it owns no array (R163, R172). -/
theorem State.releaseKernel_leaves {s : State} {f k : Nat} (hk : (s.krn f k).isSome = true) : let t := s.releaseKernel f k
    t.krn f k = none ∧ ∀ a, a < 8 → (t.arr f a).owner ≠ some k ∧ (t.arr f a).queue = (s.arr f a).queue := by
  obtain ⟨q, hq⟩ := Option.isSome_iff_exists.mp hk
  rw [State.releaseKernel_eq hq]
  have hgrp : (q.groups.foldl (fun u g => u.releaseGroup f g) s).frd.arr = s.frd.arr :=
    foldl_keeps (p := fun u : State => u.frd.arr = s.frd.arr) (fun u g => u.releaseGroup f g) (fun _ _ hu => hu) _ rfl
  generalize q.groups.foldl (fun u g => u.releaseGroup f g) s = u at hgrp ⊢
  obtain ⟨hqueue, -, hown⟩ := State.foldl_releaseArr f k q.launch.tenant (List.range 8) u
  generalize (List.range 8).foldl (fun u a => u.releaseArr f k q.launch.tenant a) u = v at hqueue hown ⊢
  refine ⟨State.krn_setKrn_same _ _ _ _, fun a ha => ⟨hown a (List.mem_range.mpr ha), (hqueue a).trans ?_⟩⟩
  unfold State.arr
  rw [hgrp]

/-- A kernel over ends with its signal sent (R172). -/
theorem execKernelExit_ends {s w : State} {f k : Nat} {q : Kernel} (hk : s.krn f k = some q) (ha : q.abort = none) (ho : s.kernelOver f k q = true)
    (hh : s.sbHeld f = false) (hr : (s.sbDrain f).kRunning f k = true)
    (hw : (if q.launch.sig then ((s.sbDrain f).releaseKernel f k).sorNow f q.launch.sorus 1 q.launch.tenant else ((s.sbDrain f).releaseKernel f k, none)) =
      (w, none)) : exec (.kernelExit f k) s = .next (w.kernelDone q.launch.issuer f true 0) := by
  refine congrArg Host.Outcome.next ?_
  rw [hk]
  dsimp only
  rw [if_pos (by rw [ha, ho, hh]; rfl), hr, if_neg (by decide), hw]

/-- The last kernel of a LAUNCH to end well completes its descriptor with status 0 (R172). -/
theorem State.launchDone_completes {s : State} {f r i : Nat} {d : Started} (hf : (s.ring r).find i = some d) (hf16 : f < 16) (hrun : d.running = 2 ^ f)
    (hfail : d.failed = 0) : s.Completes (s.kernelDone (.ring r i) f true 0) r i 0 0 d.used := by
  obtain ⟨st, hst⟩ : ∃ st : Started, st = { d with running := 0 } := ⟨_, rfl⟩
  obtain ⟨u, hu⟩ : ∃ u, u = s.modRing r (fun q => { q with started := q.started.map (fun x => if x.idx = i then st else x) }) := ⟨_, rfl⟩
  have hz : (2 ^ f) &&& (0xFFFF ^^^ (1 <<< f)) = 0 := by interval_cases f <;> rfl
  have e : s.kernelDone (.ring r i) f true 0 = u.complete r i 0 0 d.used := by
    unfold State.kernelDone State.launchDone
    dsimp only
    rw [hf]
    dsimp only
    rw [hrun, hz, if_pos rfl, hfail, if_pos rfl, if_pos rfl, if_pos rfl, if_pos rfl, hu, hst, hfail]
    rfl
  have hring : u.ring r = { s.ring r with started := (s.ring r).started.map (fun x => if x.idx = i then st else x) } := by
    rw [hu]
    exact State.ring_setRing_same _ _ _
  have hidx : d.idx = i := Ring.find_idx hf
  have hfu : (u.ring r).find i = some st := by
    rw [hring]
    unfold Ring.find at hf ⊢
    dsimp only
    have hp : ((fun x : Started => x.idx == i) ∘ fun x => if x.idx = i then st else x) = fun x => x.idx == i := by
      funext x
      simp only [Function.comp_apply]
      split
      · next hx => rw [hst, hx, hidx]
      · rfl
    rw [List.find?_map, hp, hf, Option.map_some, if_pos hidx]
  obtain ⟨st', hst', hall⟩ := u.complete_completes hfu 0 0 d.used
  obtain rfl : st = st' := Option.some.inj (hfu.symm.trans hst')
  rw [e]
  refine ⟨d, hf, fun hd => ?_⟩
  obtain ⟨hnone, hdone⟩ := hall (by rw [hring]; exact hd)
  refine ⟨hnone, hdone.trans ?_⟩
  rw [hring, hst]

/-- Settles O14. -/
theorem kernels : Obligations.Kernels := by
  refine ⟨⟨fun s f r i image w0 w1 w2 w3 hr hu he hb ha => ⟨_, congrArg Host.Outcome.next ((if_pos hr).trans ((State.launchTo_good hu he hb).trans
        (if_pos ha))), rfl⟩,
      fun s f r i image w0 w1 w2 w3 hr hu he hb ha => ⟨_, congrArg Host.Outcome.next ((if_pos hr).trans ((State.launchTo_good hu he hb).trans
        (if_neg (by rw [ha]; exact Bool.false_ne_true)))), rfl, ?_⟩,
      fun s f k l rest hl hk hu hr hs ha => ⟨_, execKernelAdmission_admits hl hk hu hr hs ha, ?_⟩⟩,
    fun s f k reason q hk ha hh => ?_, ?_, fun s f r i d hf hf16 hrun hfail => ?_⟩
  · refine (State.wakeReq_stub _ f false).trans ?_
    exact congrArg Frond.stub (State.fr_setFr_same _ _ _)
  · have hnd : ((s.freeSlots f).take (l.groupsM1 + 1)).Nodup := List.nodup_range.sublist ((List.take_sublist _ _).trans (s.freeSlots_sublist f))
    generalize (s.freeSlots f).take (l.groupsM1 + 1) = slots at hnd ⊢
    obtain ⟨howner, hframe⟩ := State.foldl_arrOwn f k l.tenant (bitsOf 8 l.arrays) (List.nodup_range.filter _) (s.setKrn f k (some ⟨l, slots, none⟩))
    generalize (bitsOf 8 l.arrays).foldl (fun u a => u.arrOwn f k l.tenant a) (s.setKrn f k (some ⟨l, slots, none⟩)) = u at howner hframe ⊢
    have hzip : ((List.range slots.length).zip slots).map Prod.snd = slots := List.map_snd_zip (by rw [List.length_range])
    obtain ⟨hin, -, hregs, hmem, harr, hkrn⟩ := State.foldl_startGroup f k l.entry ((List.range slots.length).zip slots) (by rw [hzip]; exact hnd) u
    rw [hzip] at hin
    generalize ((List.range slots.length).zip slots).foldl (fun u p => u.startGroup f k l.entry p) u = v at hin hregs hmem harr hkrn ⊢
    have hfr := State.fr_setFr_same v f { v.fr f with lq := rest, dcache := [], icache := if (v.fr f).icacheTenant = some l.tenant then (v.fr f).icache else [], icacheBad := if (v.fr f).icacheTenant = some l.tenant then (v.fr f).icacheBad else [], icacheTenant := some l.tenant }
    refine ⟨congrArg Frond.lq hfr, congrArg Frond.dcache hfr, ?_, fun g hg => ⟨(hin g hg).kernel, fun h hh => ⟨(hin g hg).thr h hh, (hin g hg).greg h hh⟩⟩,
      fun a ha' => ?_, ?_, ?_⟩
    · have e : v.krn f k = (s.setKrn f k (some ⟨l, slots, none⟩)).krn f k := by
        unfold State.krn
        rw [hkrn, hframe]
      exact e.trans (State.krn_setKrn_same _ _ _ _)
    · have e : v.arr f a = u.arr f a := by unfold State.arr; rw [harr]
      exact (congrArg Arr.owner e).trans (howner a ha')
    · exact hregs.trans (by rw [hframe]; rfl)
    · exact hmem.trans (by rw [hframe]; rfl)
  · refine ⟨_, congrArg Host.Outcome.next ?_, rfl, ?_⟩
    · rw [hk]
      dsimp only
      rw [ha]
      dsimp only
      rw [hh]
      rfl
    · obtain ⟨hcmds, hkrn⟩ := s.discardCmds_leaves f k
      have hrear := (s.discardCmds f k).sbDrain_rear_snd f
      have hsome : (((s.discardCmds f k).sbDrain f).krn f k).isSome = true := by
        rw [State.isSome_of_rear_snd hrear, State.krn, hkrn]
        exact Option.isSome_iff_exists.mpr ⟨q, hk⟩
      obtain ⟨hnone, harr⟩ := State.releaseKernel_leaves hsome
      refine ⟨?_, fun a ha8 => ?_⟩
      · rw [State.krn, State.kernelDone_krn]
        exact hnone
      · rw [State.arr_of_rear_snd (congrArg Prod.snd (State.kernelDone_rear _ q.launch.issuer f false reason))]
        refine ⟨(harr a ha8).1, fun c hc => hcmds a ha8 c ?_⟩
        rw [(harr a ha8).2, State.arr_of_rear_snd hrear] at hc
        exact hc
  · intro s f k q hk ha ho hh hr u w hw
    refine ⟨_, execKernelExit_ends (w := w.1) hk ha ho hh hr (Prod.ext rfl hw), rfl, (State.releaseKernel_leaves ?_).1⟩
    unfold State.kRunning at hr
    split at hr
    · next hk' => exact Option.isSome_iff_exists.mpr ⟨_, hk'⟩
    · cases hr
  · exact State.launchDone_completes hf hf16 hrun hfail

end Sys2Proof.Machine
end

section
/-!
PROOFS. Patrol of the Thallus (R205): a place beyond its bank group.
-/

namespace Sys2Proof.Machine

set_option Elab.async false

/-! ### A patrol place beyond its bank group -/

/-- Tower 0 is up with patrol enabled, and the patrol place of its first bank group lies one byte beyond the group's 16 MiB. -/
def patrolBeyond : State :=
  { (State.reset.rset (Fd.TWR_STAT_STATE 0) 4).rset Fd.THL_SCRUB_CTL_EN 1 with thl.patrolPos := [(0, 2 ^ 24 + 1)] }

theorem patrolBeyond_pos : spGet (fun _ => 0) patrolBeyond.thl.patrolPos (bgKey 0 0 0 0) = 2 ^ 24 + 1 := by decide +kernel

theorem patrolBeyond_open : (patrolBeyond.bgThere 0 0 0 0 = true ∧ patrolBeyond.towerUp 0 = true ∧ patrolBeyond.rget Fd.THL_SCRUB_CTL_EN = 1) ∧
    patrolBeyond.thl.unavail.contains (bgKey 0 0 0 0) = false ∧ patrolBeyond.patrolOpen (bgKey 0 0 0 0) = true := by decide +kernel

/-- No byte is read, and the place stays where it is. -/
theorem patrolBeyond_stays :
    spGet (fun _ => 0) (after (exec (.patrolRead 0 0 0 0 1) patrolBeyond) patrolBeyond).thl.patrolPos (bgKey 0 0 0 0) = 2 ^ 24 + 1 := by decide +kernel

/-- Refutes O15: a patrol place beyond the 2^24 bytes of its bank group stays there, where the statement has it back at 0. -/
theorem not_thallus : ¬ Obligations.Thallus := by
  intro h
  obtain ⟨-, -, hpatrol, -⟩ := h
  obtain ⟨⟨hb, ht, he⟩, hu, ho⟩ := patrolBeyond_open
  obtain ⟨u, hexec, hpos, -⟩ := hpatrol patrolBeyond 0 0 0 0 1 hb ht he hu ho (by decide)
  have hstay := patrolBeyond_stays
  rw [hexec] at hstay
  rw [patrolBeyond_pos] at hpos
  exact absurd (hstay.symm.trans hpos) (by decide)

end Sys2Proof.Machine
end

section
/-!
PROOFS. Accesses, fills and waiting in the memory-side cache (R221, R223, R224, R244, R259).
-/

namespace Sys2Proof.Machine

set_option Elab.async false

/-! ### A read that misses -/

theorem State.injMask_disarmed {s : State} (h : s.rget Fd.FLT_INJ_CTL_ARM = 0) (kind : Nat) (l : Loc) : s.injMask kind l = none := by
  unfold State.injMask
  rw [h]
  rfl

theorem pieces_one (pa : Nat) : pieces pa 1 = [(pa, 1)] := by
  have h : (pa + 1 - 1) / 32 - pa / 32 + 1 = 1 := by rw [Nat.add_sub_cancel, Nat.sub_self]
  unfold pieces
  rw [if_neg (by decide), h, List.range_one, List.map_singleton]
  have h2 : max pa ((pa / 32 + 0) * 32) = pa := by omega
  have h3 : min (pa + 1) ((pa / 32 + 0) * 32 + 32) - pa = 1 := by omega
  dsimp only
  rw [h2, h3]

/-- With no tag in error a check of the tags changes nothing (R245). -/
theorem State.tagCheck_clean {s : State} (h : s.msc.tagBad = []) (pa : Nat) : s.tagCheck pa = s := by
  unfold State.tagCheck
  split
  · rfl
  · have hk (l : List Nat) : l.filter (fun k => spGet (fun _ => 0) s.msc.tagBad k != 0) = [] := by
      rw [h]
      simp
    dsimp only
    rw [hk]
    rfl

theorem State.chanTouch_clean {s : State} {ch a : Nat} (hp : s.sectorPoisoned (sectorKey ch a) = false) (hb : s.sectorBad (sectorKey ch a) = []) :
    s.chanTouch ch a = s := by
  unfold State.chanTouch
  dsimp only
  rw [hp, hb]
  rfl

theorem State.chanPeek_clean {s : State} {ch a : Nat} (hp : s.sectorPoisoned (sectorKey ch a) = false) (hb : s.sectorBad (sectorKey ch a) = []) (len : Nat) :
    s.chanPeek ch a len = .ok (memGetN s.mem.dram (dramKey ch a) len) := by
  unfold State.chanPeek
  dsimp only
  rw [hp, hb]
  rfl

/-- An absent line allocated in a free way, with the flip mask not armed (R223). -/
theorem State.allocLine_free {s : State} {sl set tag w : Nat} (hf : s.findWay sl set tag = none) (hw : s.fillWay sl set = some w)
    (hv : (s.way sl set w).valid = false) (ha : s.rget Fd.FLT_INJ_CTL_ARM = 0) :
    ∃ u, s.allocLine sl set tag = (u, some w) ∧ u.way sl set w = { CLine.init with valid := true, tag := tag } ∧ u.mem = s.mem ∧ u.regs = s.regs := by
  have hev : s.evict sl set w = s := by
    unfold State.evict
    dsimp only
    rw [hv, if_neg Bool.false_ne_true]
  have htag (u : State) (hu : u.regs = s.regs ∧ u.part = s.part) (k copy : Nat) : u.tagInject sl k copy = u := by
    have ha' : u.rget Fd.FLT_INJ_CTL_ARM = 0 := by
      unfold State.rget State.rword at ha ⊢
      rw [hu.1, hu.2]
      exact ha
    unfold State.tagInject
    rw [State.injMask_disarmed ha']
  obtain ⟨u, hu⟩ : ∃ u : State, u = ({ s.setWay sl set w { CLine.init with valid := true, tag := tag } with
      msc.fills := (s.setWay sl set w { CLine.init with valid := true, tag := tag }).msc.fills.filter
        (fun p => !(setOf (p / 128) == set && tagOf (p / 128) == tag)) } : State).setTagBad (wayKey sl set w) 0 := ⟨_, rfl⟩
  have huw : u.way sl set w = { CLine.init with valid := true, tag := tag } := by
    rw [hu]
    exact State.way_setWay_same s sl set w { CLine.init with valid := true, tag := tag }
  have hur : u.regs = s.regs ∧ u.part = s.part ∧ u.mem = s.mem := hu ▸ ⟨rfl, rfl, rfl⟩
  refine ⟨u.plruUse sl set w, ?_, huw, hur.2.2, hur.1⟩
  unfold State.allocLine
  rw [hf]
  dsimp only
  rw [hw]
  dsimp only
  rw [hev, ← hu, htag u ⟨hur.1, hur.2.1⟩, htag u ⟨hur.1, hur.2.1⟩]

/-- An absent sector fetched from a sector without errors (R223). -/
theorem State.fetchSector_clean {s : State} {sl set w i ch a : Nat} (hv : ((s.way sl set w).sec i).valid = false)
    (hp : s.sectorPoisoned (sectorKey ch (a + 32 * i)) = false) (hb : s.sectorBad (sectorKey ch (a + 32 * i)) = []) :
    s.fetchSector sl set w i ch a = s.setWay sl set w ((s.way sl set w).setSec i ⟨true, false, false, memGetN s.mem.dram (dramKey ch (a + 32 * i)) 32, []⟩) := by
  unfold State.fetchSector
  dsimp only
  rw [hv, if_neg Bool.false_ne_true, State.chanTouch_clean hp hb, State.chanPeek_clean hp hb]

theorem CLine.sec_setSec (c : CLine) {i : Nat} (hi : i < 4) (v : Sector) : (c.setSec i v).sec i = v ∧ (c.setSec i v).valid = c.valid ∧
    (c.setSec i v).tag = c.tag := by
  interval_cases i <;> exact ⟨rfl, rfl, rfl⟩

theorem State.findWay_congr {s t : State} (h : t.msc.lines = s.msc.lines) (sl set tag : Nat) : t.findWay sl set tag = s.findWay sl set tag := by
  unfold State.findWay State.way
  rw [h]

theorem State.fillWay_congr {s t : State} (h : t.msc.lines = s.msc.lines) (hm : t.msc.mode = s.msc.mode) (hp : t.msc.plru = s.msc.plru) (sl set : Nat) :
    t.fillWay sl set = s.fillWay sl set := by
  unfold State.fillWay State.way State.wayMode State.bgMode
  rw [h, hm, hp]

section
variable {s : State} {pa n w : Nat} {r : Region}

/-- A miss with a free way fetches its sector (R223). -/
theorem State.demandFill_fetches (hr : s.regionOf pa = some (n, r)) (ha : s.rget Fd.FLT_INJ_CTL_ARM = 0) (hway : s.hasWays (chanAddr r s.channels pa).1 = true)
    (hf : s.findWay (chanAddr r s.channels pa).1 (setOf (pa / 128)) (tagOf (pa / 128)) = none)
    (hw : s.fillWay (chanAddr r s.channels pa).1 (setOf (pa / 128)) = some w)
    (hv : (s.way (chanAddr r s.channels pa).1 (setOf (pa / 128)) w).valid = false)
    (hp : s.sectorPoisoned (sectorKey (chanAddr r s.channels pa).1 (chanAddr r s.channels pa).2) = false)
    (hb : s.sectorBad (sectorKey (chanAddr r s.channels pa).1 (chanAddr r s.channels pa).2) = []) :
    let ch := (chanAddr r s.channels pa).1
    let a := (chanAddr r s.channels pa).2
    let set := setOf (pa / 128)
    let t := s.demandFill pa
    (t.way ch set w).valid = true ∧ (t.way ch set w).tag = tagOf (pa / 128) ∧
      (t.way ch set w).sec (pa % 128 / 32) = ⟨true, false, false, memGetN s.mem.dram (dramKey ch (a / 32 * 32)) 32, []⟩ ∧
      t.mem.dram = s.mem.dram ∧ t.regs = s.regs := by
  have hmod : (chanAddr r s.channels pa).2 % 128 = pa % 128 := by
    unfold chanAddr
    dsimp only
    omega
  have haddr : (chanAddr r s.channels pa).2 - (chanAddr r s.channels pa).2 % 128 + 32 * (pa % 128 / 32) = (chanAddr r s.channels pa).2 / 32 * 32 := by omega
  have hkey (ch : Nat) : sectorKey ch ((chanAddr r s.channels pa).2 / 32 * 32) = sectorKey ch (chanAddr r s.channels pa).2 := by
    unfold sectorKey
    rw [Nat.mul_div_cancel _ (by decide)]
  obtain ⟨ch, hch⟩ : ∃ ch, ch = (chanAddr r s.channels pa).1 := ⟨_, rfl⟩
  obtain ⟨a, hca⟩ : ∃ a, a = (chanAddr r s.channels pa).2 := ⟨_, rfl⟩
  have hpair : chanAddr r s.channels pa = (ch, a) := by rw [hch, hca]
  rw [← hca] at hmod haddr hkey hp hb ⊢
  rw [← hch] at hway hf hw hv hp hb ⊢
  obtain ⟨s1, hs1⟩ : ∃ s1 : State, s1 = { s with msc.misses := spMod (fun _ => 0) s.msc.misses ch (· + 1) } := ⟨_, rfl⟩
  obtain ⟨u, hu, huw, hum, hur⟩ := State.allocLine_free (s := s1) (sl := ch) (set := setOf (pa / 128)) (tag := tagOf (pa / 128)) (w := w)
    (by rw [hs1]; exact hf) (by rw [hs1]; exact hw) (by rw [hs1]; exact hv) (by rw [hs1]; exact ha)
  have e : s.demandFill pa = u.fetchSector ch (setOf (pa / 128)) w (pa % 128 / 32) ch (a - a % 128) := by
    unfold State.demandFill
    rw [hr]
    dsimp only
    rw [hpair]
    dsimp only
    rw [hway, if_pos rfl, ← hs1, hu]
  have hi : pa % 128 / 32 < 4 := by omega
  have hmem : u.mem = s.mem := hum.trans (by rw [hs1])
  have hnew : ((u.way ch (setOf (pa / 128)) w).sec (pa % 128 / 32)).valid = false := by
    rw [huw]
    generalize pa % 128 / 32 = i at hi
    interval_cases i <;> rfl
  have hpu : u.sectorPoisoned (sectorKey ch (a - a % 128 + 32 * (pa % 128 / 32))) = false := by
    rw [haddr, hkey]
    unfold State.sectorPoisoned at hp ⊢
    rw [hmem]
    exact hp
  have hbu : u.sectorBad (sectorKey ch (a - a % 128 + 32 * (pa % 128 / 32))) = [] := by
    rw [haddr, hkey]
    unfold State.sectorBad at hb ⊢
    rw [hmem]
    exact hb
  intro ch' a' set t
  obtain ⟨hsec, hval, htag⟩ := CLine.sec_setSec (u.way ch (setOf (pa / 128)) w) hi ⟨true, false, false, memGetN s.mem.dram (dramKey ch (a / 32 * 32)) 32, []⟩
  have ht : t = u.setWay ch set w ((u.way ch set w).setSec (pa % 128 / 32) ⟨true, false, false, memGetN s.mem.dram (dramKey ch (a / 32 * 32)) 32, []⟩) := by
    refine e.trans ((State.fetchSector_clean hnew hpu hbu).trans ?_)
    rw [haddr, hmem]
  rw [ht, State.way_setWay_same]
  refine ⟨hval.trans (by rw [huw]), htag.trans (by rw [huw]), hsec, ?_, ?_⟩
  · exact congrArg (fun m => m.dram) hmem
  · exact hur.trans (by rw [hs1])

end

/-- A byte read from an absent sector: what the fill leaves (R223). -/
theorem State.read_miss {s : State} {pa n : Nat} {r : Region} (hc : physClass pa = .dram) (ht : s.msc.tagBad = []) (he : s.physErr pa = none)
    (hr : s.regionOf pa = some (n, r)) (hf : s.findWay (chanAddr r s.channels pa).1 (setOf (pa / 128)) (tagOf (pa / 128)) = none)
    (hp : s.sectorPoisoned (sectorKey (chanAddr r s.channels pa).1 (chanAddr r s.channels pa).2) = false)
    (hb : s.sectorBad (sectorKey (chanAddr r s.channels pa).1 (chanAddr r s.channels pa).2) = []) :
    ∃ l, s.read pa 1 = (s.demandFill pa, .ok l) := by
  have htags : s.tagReads pa 1 = s := by
    unfold State.tagReads
    rw [pieces_one, List.foldl_cons, List.foldl_nil]
    split
    · exact State.tagCheck_clean ht pa
    · rfl
  have htouch : s.touch pa 1 = s.demandFill pa := by
    unfold State.touch
    rw [pieces_one, List.foldl_cons, List.foldl_nil]
    unfold State.touchPiece
    rw [he, hc]
    dsimp only
    rw [State.tagCheck_clean ht pa]
    unfold State.dramTouch
    rw [hr]
    dsimp only
    rw [hf]
  have hpeek : s.peek pa 1 = .ok (memGetN s.mem.dram (dramKey (chanAddr r s.channels pa).1 (chanAddr r s.channels pa).2) 1) := by
    unfold State.peek
    rw [pieces_one, List.foldl_cons, List.foldl_nil]
    unfold State.peekPiece
    rw [he, hc]
    dsimp only
    unfold State.dramPeek
    rw [hr]
    dsimp only
    rw [hf]
    dsimp only
    rw [State.chanPeek_clean hp hb]
    rfl
  unfold State.read
  dsimp only
  rw [htags, htouch, hpeek]
  exact ⟨_, rfl⟩

/-- Settles O16. -/
theorem cacheAccess : Obligations.CacheAccess := by
  refine ⟨⟨fun s u agent pa len l hc hh hr => ⟨_, congrArg Host.Outcome.next ?_, rfl⟩, fun s agent pa len hc hh => ⟨_, congrArg Host.Outcome.next ?_, rfl⟩,
      fun s u agent pa bytes hc hh hw => ⟨_, congrArg Host.Outcome.next ?_, rfl⟩, fun s agent pa bytes hc hh => ⟨_, congrArg Host.Outcome.next ?_, rfl⟩,
      fun s agent pa wr bytes => ⟨fun h => if_pos h, fun h => if_neg (by rw [h]; exact Bool.false_ne_true)⟩, ?_, fun s u w hr hw ha => ?_⟩, ?_⟩
  · rw [hc]
    dsimp only
    rw [hh, if_neg Bool.false_ne_true, hr]
  · rw [hc]
    dsimp only
    rw [hh, if_pos rfl]
  · rw [hc]
    dsimp only
    rw [hh, if_neg Bool.false_ne_true, hw]
  · rw [hc]
    dsimp only
    rw [hh, if_pos rfl]
  · intro s sl set s1 s2 l hw hf
    refine ⟨_, congrArg Host.Outcome.next ?_, rfl⟩
    exact if_neg (by rw [hw, hf]; exact Bool.false_ne_true)
  · unfold State.waitGo
    by_cases hwr : w.write = true
    · obtain ⟨hh, hgo⟩ := hw hwr
      rw [if_pos hwr, hh, if_neg Bool.false_ne_true]
      unfold State.heldMemGo
      rw [if_pos hwr, hgo]
    · rw [Bool.not_eq_true] at hwr
      obtain ⟨hh, l, hgo⟩ := hr hwr
      have hheld : (if w.write then s.wrHeld w.pa w.bytes.length else s.rdHeld w.pa w.bytes.length) = false :=
        (if_neg (by rw [hwr]; exact Bool.false_ne_true)).trans hh
      rw [hheld, if_neg Bool.false_ne_true]
      unfold State.heldMemGo
      rw [hwr, if_neg Bool.false_ne_true, hgo]
      exact if_neg ha
  · intro s agent pa n w r ch a set hc hh ht he harm hr hf hw hv hp hb hway
    obtain ⟨l, hread⟩ := State.read_miss hc ht he hr hf hp hb
    refine ⟨s.demandFill pa, congrArg Host.Outcome.next ?_, State.demandFill_fetches hr harm hway hf hw hv hp hb⟩
    rw [hc]
    dsimp only
    rw [hh, if_neg Bool.false_ne_true, hread]

end Sys2Proof.Machine
end

section
/-!
PROOFS. Posted reductions, atomics and locks at a slice (R240–R244).
-/

namespace Sys2Proof.Machine

set_option Elab.async false

/-! ### Reductions, atomics and locks at a slice -/

theorem reduction_legal {op ty pa n : Nat} (hr : reduceReserved op ty = false) (hn : n % elemSize ty = 0) (hp : pa % elemSize ty = 0)
    (hc : physClass pa = .dram) : (reduceReserved op ty || decide (n % elemSize ty ≠ 0) || decide (pa % elemSize ty ≠ 0) || (physClass pa != .dram)) = false := by
  rw [hr, hn, hp, hc]
  rfl

/-- Element by element (R240). -/
theorem reduceBytes_succ (op ty n : Nat) (a b old v : List Byte) (ha : a.length = elemSize ty) (hb : b.length = elemSize ty) :
    reduceBytes op ty (n + 1) (a ++ old) (b ++ v) = leBytes (elemSize ty) (reduceElem op ty (leNat a) (leNat b)) ++ reduceBytes op ty n old v := by
  have hlen : ¬ (a ++ old).length < elemSize ty := by
    rw [List.length_append, ha]
    omega
  rw [reduceBytes, if_neg hlen, ← ha, List.take_left, List.drop_left, ha, ← hb, List.take_left, List.drop_left]

/-- Settles O17. -/
theorem sliceOperations : Obligations.SliceOperations := by
  refine ⟨fun s u agent op ty pa bytes hr hn hp hc hh hu => ⟨_, congrArg Host.Outcome.next ?_, rfl⟩,
    fun s agent op ty pa bytes hr hn hp hc hh => ⟨_, congrArg Host.Outcome.next ((if_neg (by rw [reduction_legal hr hn hp hc]; exact Bool.false_ne_true)).trans
      (if_pos hh)), rfl, fun _ => ⟨rfl, rfl, rfl, rfl⟩, rfl⟩, fun s s1 s2 op ty pa bytes old h1 h2 => ?_, reduceBytes_succ,
    fun s u agent op size pa v cmp old hc hs hp hh hu => ⟨_, congrArg Host.Outcome.next ?_, rfl⟩, fun s s1 s2 op size pa v cmp l h1 h2 => ?_,
    fun s pa n w r hr hw => ⟨_, rfl, ?_⟩⟩
  · refine (if_neg (by rw [reduction_legal hr hn hp hc]; exact Bool.false_ne_true)).trans ((if_neg (by rw [hh]; exact Bool.false_ne_true)).trans ?_)
    unfold State.reducePosted
    rw [hu]
  · unfold State.reduceAt
    rw [h1]
    dsimp only
    rw [h2]
  · refine (if_neg ?_).trans ((if_neg (by rw [hh]; exact Bool.false_ne_true)).trans ?_)
    · rw [hc, hp]
      rcases hs with rfl | rfl <;> decide
    · rw [hu]
  · unfold State.atomicAt
    rw [h1]
    dsimp only
    rw [h2]
  · unfold State.lockLine State.sliceSet
    rw [hr]
    dsimp only [Option.map_some]
    rw [hw]
    rfl

end Sys2Proof.Machine
end

section
/-!
PROOFS. Bank groups between scratchpad and cache mode (R227–R232).
-/

namespace Sys2Proof.Machine

set_option Elab.async false

/-! ### Requests for a mode -/

theorem State.bgMode_setMode_ne (s : State) {tq b c : Nat} (v : Nat) (h : c ≠ b) : (s.setMode tq b v).bgMode tq c = s.bgMode tq c :=
  spGet_spPut_ne _ _ _ (by unfold modeKey; omega)

theorem State.pendOf_setPend_ne (s : State) {tq b c : Nat} (v : Nat) (h : c ≠ b) : (s.setPend tq b v).pendOf tq c = s.pendOf tq c :=
  spGet_spPut_ne _ _ _ (by unfold modeKey; omega)

/-- A request while a group switches is latched (R231). -/
theorem State.modeRequest_switching {s : State} {tq b : Nat} (h : s.bgMode tq b = 2 ∨ s.bgMode tq b = 3) (cache : Bool) :
    (s.modeRequest tq b cache).bgMode tq b = s.bgMode tq b ∧ (s.modeRequest tq b cache).pendOf tq b = if cache then 2 else 1 := by
  have hm : (decide (s.bgMode tq b = 2) || decide (s.bgMode tq b = 3)) = true := by simpa using h
  unfold State.modeRequest
  dsimp only
  rw [if_pos hm]
  refine ⟨?_, State.pendOf_setPend_same _ _ _ _⟩
  split <;> rfl

/-- A request to a stable group starts its switch, or has no effect (R231). -/
theorem State.modeRequest_stable {s : State} {tq b : Nat} (h : s.bgMode tq b < 2) (cache : Bool) : (s.modeRequest tq b cache).bgMode tq b =
    if cache then (if s.bgMode tq b = 1 then 1 else 2) else (if s.bgMode tq b = 1 then 3 else 0) := by
  have hm : ¬ (decide (s.bgMode tq b = 2) || decide (s.bgMode tq b = 3)) = true := by simp; omega
  unfold State.modeRequest State.switchStart
  dsimp only
  rw [if_neg hm]
  have h01 : s.bgMode tq b = 0 ∨ s.bgMode tq b = 1 := by omega
  cases cache
  · rcases h01 with h0 | h1
    · rw [if_pos (by simp [h0]), h0]
      rfl
    · rw [if_neg (by simp [h1]), State.bgMode_setMode_same, h1]
      rfl
  · rcases h01 with h0 | h1
    · rw [if_neg (by simp [h0]), State.bgMode_setMode_same, h0]
      rfl
    · rw [if_pos (by simp [h1]), h1]
      rfl

theorem State.modeRequest_other (s : State) {tq b c : Nat} (h : c ≠ b) (cache : Bool) : (s.modeRequest tq b cache).bgMode tq c = s.bgMode tq c ∧
    (s.modeRequest tq b cache).pendOf tq c = s.pendOf tq c := by
  unfold State.modeRequest State.switchStart
  dsimp only
  split
  · constructor
    · split <;> rfl
    · rw [State.pendOf_setPend_ne _ _ h]
      split <;> rfl
  · split
    · exact ⟨rfl, rfl⟩
    · exact ⟨State.bgMode_setMode_ne s _ h, rfl⟩

theorem State.modeRequest_mem (s : State) (tq b : Nat) (cache : Bool) : (s.modeRequest tq b cache).mem = s.mem := by
  unfold State.modeRequest
  dsimp only
  split
  · split <;> rfl
  · split <;> rfl

/-- The requests of one operation, one for each group it names. -/
theorem State.foldl_modeRequest (tq : Nat) (cache : Nat → Bool) (l : List Nat) (hn : l.Nodup) (s : State) :
    let t := l.foldl (fun u b => u.modeRequest tq b (cache b)) s
    t.mem = s.mem ∧ ∀ b ∈ l,
      (s.bgMode tq b < 2 → t.bgMode tq b = if cache b then (if s.bgMode tq b = 1 then 1 else 2) else (if s.bgMode tq b = 1 then 3 else 0)) ∧
      (s.bgMode tq b = 2 ∨ s.bgMode tq b = 3 → t.bgMode tq b = s.bgMode tq b ∧ t.pendOf tq b = if cache b then 2 else 1) := by
  have hout (l : List Nat) (u : State) {b : Nat} (hb : b ∉ l) : (l.foldl (fun u b => u.modeRequest tq b (cache b)) u).bgMode tq b = u.bgMode tq b ∧
      (l.foldl (fun u b => u.modeRequest tq b (cache b)) u).pendOf tq b = u.pendOf tq b := by
    induction l generalizing u with
    | nil => exact ⟨rfl, rfl⟩
    | cons c l ih =>
      rw [List.mem_cons, not_or] at hb
      obtain ⟨h1, h2⟩ := ih (u.modeRequest tq c (cache c)) hb.2
      obtain ⟨h3, h4⟩ := u.modeRequest_other hb.1 (cache c)
      exact ⟨h1.trans h3, h2.trans h4⟩
  induction l generalizing s with
  | nil => exact ⟨rfl, nofun⟩
  | cons c l ih =>
    rw [List.nodup_cons] at hn
    obtain ⟨hmem, hin⟩ := ih hn.2 (s.modeRequest tq c (cache c))
    rw [List.foldl_cons]
    refine ⟨hmem.trans (s.modeRequest_mem tq c (cache c)), fun b hb => ?_⟩
    rcases List.mem_cons.mp hb with rfl | hb
    · obtain ⟨h1, h2⟩ := hout l (s.modeRequest tq b (cache b)) hn.1
      rw [h1, h2]
      exact ⟨fun h => State.modeRequest_stable h (cache b), fun h => State.modeRequest_switching h (cache b)⟩
    · obtain ⟨h3, -⟩ := s.modeRequest_other (ne_of_mem_of_not_mem hb hn.1) (cache c)
      have h := hin b hb
      rw [h3] at h
      exact h

/-- Operations that complete change no mode. -/
theorem State.modeOpsCheck_frame (s : State) : s.modeOpsCheck.mem = s.mem ∧ s.modeOpsCheck.thl = s.thl ∧ s.modeOpsCheck.msc.mode = s.msc.mode ∧
    s.modeOpsCheck.msc.pend = s.msc.pend ∧ s.modeOpsCheck.msc.switched = s.msc.switched := by
  unfold State.modeOpsCheck
  dsimp only
  obtain ⟨s0, hs0⟩ : ∃ s0 : State, s0 = { s with msc.modeOps := s.msc.modeOps.filter (fun o => !s.modeOpDone o) } := ⟨_, rfl⟩
  rw [← hs0]
  have h0 : s0.mem = s.mem ∧ s0.thl = s.thl ∧ s0.msc.mode = s.msc.mode ∧ s0.msc.pend = s.msc.pend ∧ s0.msc.switched = s.msc.switched :=
    hs0 ▸ ⟨rfl, rfl, rfl, rfl, rfl⟩
  refine foldl_keeps (p := fun u : State => u.mem = s.mem ∧ u.thl = s.thl ∧ u.msc.mode = s.msc.mode ∧ u.msc.pend = s.msc.pend ∧
    u.msc.switched = s.msc.switched) _ (fun u o hu => ?_) _ h0
  simpa using hu

/-! ### Switches -/

theorem mem_insNat (l : List Nat) (n : Nat) : n ∈ insNat l n := by
  induction l with
  | nil => exact List.mem_singleton_self n
  | cons j m ih =>
    unfold insNat
    split
    · exact List.mem_cons_self
    · split
      · next h => exact h ▸ List.mem_cons_self
      · exact List.mem_cons_of_mem j ih

/-- The stored bytes of a bank group dropped read as zero (R229, R230). -/
theorem State.bgZero_thl (s : State) (t die q b o : Nat) : memGet (s.bgZero t die q b).mem.thl o =
    if bgKey (thlTower o) (thlDie o) (thlQuad o) (thlBg o) = bgKey t die q b then 0#8 else memGet s.mem.thl o := by
  refine (memGet_filter s.mem.thl (fun o => !(bgKey (thlTower o) (thlDie o) (thlQuad o) (thlBg o) == bgKey t die q b)) o).trans ?_
  by_cases h : bgKey (thlTower o) (thlDie o) (thlQuad o) (thlBg o) = bgKey t die q b
  · rw [if_pos h, if_neg (by simp [h])]
  · rw [if_neg h, if_pos (by simpa using h)]

theorem spGet_filter_out {α : Type} (d : Nat → α) (m : Sp α) (p : Nat → Bool) {k : Nat} (hk : p k = false) : spGet d (m.filter (fun c => p c.1)) k = d k := by
  induction m with
  | nil => rfl
  | cons c m ih =>
    obtain ⟨j, v⟩ := c
    by_cases hj : p j = true
    · rw [List.filter_cons_of_pos (p := fun c : Nat × α => p c.1) hj, spGet, if_neg (by rintro rfl; rw [hk] at hj; cases hj), ih]
    · rw [List.filter_cons_of_neg (p := fun c : Nat × α => p c.1) hj, ih]

/-- A way of a bank group whose ways are dropped holds nothing. -/
theorem spGet_dropWays (m : Sp CLine) (sl : Nat) {set way b : Nat} (hset : set < 32768) (hway : way < 16) (hb : way / 4 = b % 4) :
    spGet (fun _ => CLine.init) (m.filter (fun p => !(p.1 / (32768 * 16) == sl && p.1 % 16 / 4 == b % 4))) (wayKey sl set way) = CLine.init := by
  have h1 : wayKey sl set way / (32768 * 16) = sl := by unfold wayKey; omega
  have h2 : wayKey sl set way % 16 / 4 = b % 4 := by unfold wayKey; omega
  exact spGet_filter_out (fun _ => CLine.init) m (fun k => !(k / (32768 * 16) == sl && k % 16 / 4 == b % 4)) (by
    rw [h1, h2, BEq.rfl, BEq.rfl]
    rfl)

/-- A switch to cache mode zeroes the group's bytes and drops its ways (R229, R230). -/
theorem execSwitchToCache_switches {s : State} {t q b : Nat} (h : s.bgMode (t * 4 + q) b = 2) :
    ∃ u, execSwitchToCache t q b s = .next u ∧ modeKey (t * 4 + q) b ∈ u.msc.switched ∧
      (∀ o, memGet u.mem.thl o = if bgKey (thlTower o) (thlDie o) (thlQuad o) (thlBg o) = bgKey t 1 q b then 0#8 else memGet s.mem.thl o) ∧
      (∀ set way, set < 32768 → way < 16 → way / 4 = b % 4 → (u.way (t * 32 + q * 8 + b / 4) set way).valid = false) ∧
      u.mem.dram = s.mem.dram ∧ u.regs = s.regs := by
  refine ⟨_, congrArg Host.Outcome.next (if_pos h), mem_insNat _ _, s.bgZero_thl t 1 q b, fun set way hset hway hb => ?_, rfl, rfl⟩
  unfold State.way
  dsimp only
  rw [spGet_dropWays _ _ hset hway hb]
  rfl

/-! ### What an eviction leaves of the Thallus -/

section
variable (s : State)

theorem State.keepInj_thlBytes (b : Bool) (c k : Nat) : (s.keepInj b c k).mem.thl = s.mem.thl := by
  unfold State.keepInj State.noteInj
  split
  · split <;> rfl
  · rfl

theorem State.chanPutSector_thlBytes (ch a : Nat) (data : List Byte) (poison : Bool) : (s.chanPutSector ch a data poison).mem.thl = s.mem.thl := by
  unfold State.chanPutSector
  extract_lets k t
  have hdone (u : State) : u.injDone.mem.thl = u.mem.thl := by
    unfold State.injDone
    split <;> simp
  split
  · exact (hdone _).trans (State.keepInj_thlBytes _ true 2 k)
  · rfl

theorem State.writeBack_thlBytes (sl set way : Nat) : (s.writeBack sl set way).mem.thl = s.mem.thl := by
  unfold State.writeBack
  extract_lets c pa
  split
  · rfl
  · refine foldl_keeps (p := fun u : State => u.mem.thl = s.mem.thl) _ (fun u i hu => ?_) _ rfl
    dsimp only
    split
    · exact ((State.keepInj_thlBytes _ _ _ _).trans (State.chanPutSector_thlBytes _ _ _ _ _)).trans hu
    · exact hu

theorem State.forgetLine_thlBytes (l : Nat) : (s.forgetLine l).mem.thl = s.mem.thl :=
  foldl_keeps (p := fun u : State => u.mem.thl = s.mem.thl) (fun u i => u.dropInj 8 (l * 4 + i)) (fun _ _ hu => hu) (List.range 4) rfl

theorem State.evict_thlBytes (sl set way : Nat) : (s.evict sl set way).mem.thl = s.mem.thl := by
  unfold State.evict
  extract_lets c s1 early s2
  have h2 : s2.mem.thl = s.mem.thl := by
    unfold s2
    split <;> exact s.writeBack_thlBytes sl set way
  split
  · exact (State.forgetLine_thlBytes _ _).trans h2
  · rfl

theorem State.movePinned_thlBytes (sl set way : Nat) : (s.movePinned sl set way).mem.thl = s.mem.thl := by
  unfold State.movePinned
  extract_lets ok target c
  generalize target = o
  cases o with
  | none => rfl
  | some w => exact s.evict_thlBytes sl set w

end

/-- A switch to scratchpad mode writes its lines back and zeroes the group's bytes (R229, R230). -/
theorem execSwitchToScratchpad_switches {s : State} {t q b : Nat} (h : s.bgMode (t * 4 + q) b = 3) :
    ∃ u, execSwitchToScratchpad t q b s = .next u ∧ modeKey (t * 4 + q) b ∈ u.msc.switched ∧
      ∀ o, memGet u.mem.thl o = if bgKey (thlTower o) (thlDie o) (thlQuad o) (thlBg o) = bgKey t 1 q b then 0#8 else memGet s.mem.thl o := by
  refine ⟨_, congrArg Host.Outcome.next (if_pos h), mem_insNat _ _, fun o => (State.bgZero_thl _ t 1 q b o).trans ?_⟩
  congr 2
  refine foldl_keeps (p := fun u : State => u.mem.thl = s.mem.thl) _ (fun u k hu => (u.evict_thlBytes _ _ _).trans hu) _ ?_
  refine foldl_keeps (p := fun u : State => u.mem.thl = s.mem.thl) _ (fun u k hu => ?_) _ rfl
  split
  · exact (u.movePinned_thlBytes _ _ _).trans hu
  · exact hu

/-! ### The end of a switch -/

theorem State.distBump_cache (s : State) : s.distBump.msc = s.msc ∧ s.distBump.thl.distGen = s.thl.distGen + 2 := by
  have hmsi (u : State) (v : Nat) : (u.msi v).msc = u.msc ∧ (u.msi v).thl = u.thl := by
    unfold State.msi
    split <;> exact ⟨rfl, rfl⟩
  have hcap (u : State) : u.capBump.msc = u.msc ∧ u.capBump.thl = u.thl := by
    unfold State.capBump
    dsimp only
    split
    · exact hmsi _ _
    · exact ⟨rfl, rfl⟩
  unfold State.distBump
  dsimp only
  rw [(hcap _).1, (hcap _).2]
  split
  · rw [(hmsi _ _).1, (hmsi _ _).2]
    exact ⟨rfl, rfl⟩
  · exact ⟨rfl, rfl⟩

/-- At the end of a switch the mode is stable and the distance table moves on; a request latched for the other mode starts its switch (R231, R232). -/
theorem execModeSwitchComplete_completes {s : State} {t q b : Nat} (h : s.msc.switched.contains (modeKey (t * 4 + q) b) = true) :
    ∃ u, execModeSwitchComplete t q b s = .next u ∧
      u.bgMode (t * 4 + q) b = (if s.bgMode (t * 4 + q) b = 2 then (if s.pendOf (t * 4 + q) b ≠ 0 ∧ s.pendOf (t * 4 + q) b ≠ 2 then 3 else 1)
        else (if s.pendOf (t * 4 + q) b = 2 then 2 else 0)) ∧
      u.pendOf (t * 4 + q) b = 0 ∧ modeKey (t * 4 + q) b ∉ u.msc.switched ∧ u.thl.distGen = s.thl.distGen + 2 := by
  refine ⟨_, congrArg Host.Outcome.next (if_pos h), ?_⟩
  dsimp only
  obtain ⟨s1, hs1⟩ : ∃ s1 : State, s1 = ({ s with msc.switched := s.msc.switched.filter (· != modeKey (t * 4 + q) b) }.setMode (t * 4 + q) b
    (if s.bgMode (t * 4 + q) b == 2 then 1 else 0)).setPend (t * 4 + q) b 0 := ⟨_, rfl⟩
  have hmode : s1.bgMode (t * 4 + q) b = if s.bgMode (t * 4 + q) b = 2 then 1 else 0 := by
    subst hs1
    refine (State.bgMode_setMode_same _ _ _ _).trans ?_
    simp only [beq_iff_eq]
  have hpend : s1.pendOf (t * 4 + q) b = 0 := hs1 ▸ State.pendOf_setPend_same _ _ _ _
  have hsw : modeKey (t * 4 + q) b ∉ s1.msc.switched := by
    subst hs1
    exact fun hc => absurd (List.mem_filter.mp hc).2 (by simp)
  have hgen : s1.thl.distGen = s.thl.distGen := hs1 ▸ rfl
  rw [← hs1]
  clear hs1
  obtain ⟨s2, hs2⟩ : ∃ s2 : State, s2 = if (!(s.bgMode (t * 4 + q) b == 2) && s1.columnDead t q b) = true then
    { s1 with thl.unavail := insNat s1.thl.unavail (bgKey t 1 q b) } else s1 := ⟨_, rfl⟩
  have h2 : s2.msc = s1.msc ∧ s2.thl.distGen = s1.thl.distGen := by
    subst hs2
    split <;> exact ⟨rfl, rfl⟩
  rw [← hs2]
  clear hs2
  obtain ⟨hmsc, hdist⟩ := s2.distBump_cache
  generalize s2.distBump = s3 at hmsc hdist ⊢
  rw [h2.1] at hmsc
  rw [h2.2, hgen] at hdist
  have hm3 : s3.bgMode (t * 4 + q) b = if s.bgMode (t * 4 + q) b = 2 then 1 else 0 := by
    rw [← hmode]
    exact congrArg (fun m : MscState => spGet (fun _ => 0) m.mode (modeKey (t * 4 + q) b)) hmsc
  have hp3 : s3.pendOf (t * 4 + q) b = 0 := by
    rw [← hpend]
    exact congrArg (fun m : MscState => spGet (fun _ => 0) m.pend (modeKey (t * 4 + q) b)) hmsc
  have hs3 : modeKey (t * 4 + q) b ∉ s3.msc.switched := hmsc ▸ hsw
  obtain ⟨s4, hs4⟩ : ∃ s4 : State, s4 = if (decide (s.pendOf (t * 4 + q) b ≠ 0) && decide ((s.pendOf (t * 4 + q) b = 2) ≠
    ((s.bgMode (t * 4 + q) b == 2) = true))) = true then s3.switchStart (t * 4 + q) b (decide (s.pendOf (t * 4 + q) b = 2)) else s3 := ⟨_, rfl⟩
  rw [← hs4]
  obtain ⟨-, hthl, hmodes, hpends, hsws⟩ := s4.modeOpsCheck_frame
  have hframe : s4.thl = s3.thl ∧ s4.msc.pend = s3.msc.pend ∧ s4.msc.switched = s3.msc.switched := by
    subst hs4
    split <;> exact ⟨rfl, rfl, rfl⟩
  obtain ⟨hthl4, hpend4, hsw4⟩ := hframe
  refine ⟨?_, ?_, ?_, ?_⟩
  · refine (congrArg (fun m => spGet (fun _ => 0) m (modeKey (t * 4 + q) b)) hmodes).trans (?_ : s4.bgMode (t * 4 + q) b = _)
    subst hs4
    by_cases h2 : s.bgMode (t * 4 + q) b = 2 <;> by_cases hp2 : s.pendOf (t * 4 + q) b = 2 <;> by_cases hp0 : s.pendOf (t * 4 + q) b = 0 <;>
      simp [h2, hp2, hp0, hm3, State.switchStart, State.bgMode_setMode_same]
  · refine (congrArg (fun m => spGet (fun _ => 0) m (modeKey (t * 4 + q) b)) (hpends.trans hpend4)).trans hp3
  · rw [hsws, hsw4]
    exact hs3
  · rw [hthl, hthl4, hdist]

/-! ### The operation -/

/-- An acceptable SET_CACHE_MODE asks every available group for the mode its mask names (R227, R231). -/
theorem execSetCacheMode_requests {s : State} {r i b : Nat} {d : Desc} (hop : s.opOf r i 7 1 = some d) (ht : d.f 1 1 0 < s.towers)
    (hmask : ∀ c ∈ bitsOf 32 (d.f 1 63 32), s.bgAvail (d.f 1 1 0 * 4 + d.f 1 3 2) c = true)
    (hpins : ∀ c ∈ ((List.range 32).filter (s.bgAvail (d.f 1 1 0 * 4 + d.f 1 3 2))).filter
        (fun c => !nbit (d.f 1 63 32) c && s.bgMode (d.f 1 1 0 * 4 + d.f 1 3 2) c == 1),
      s.pinsExceed (d.f 1 1 0 * 32 + ((d.f 1 1 0 * 4 + d.f 1 3 2) % 4) * 8 + c / 4)
        (s.sliceK (d.f 1 1 0 * 32 + ((d.f 1 1 0 * 4 + d.f 1 3 2) % 4) * 8 + c / 4) -
          ((((List.range 32).filter (s.bgAvail (d.f 1 1 0 * 4 + d.f 1 3 2))).filter
            (fun c => !nbit (d.f 1 63 32) c && s.bgMode (d.f 1 1 0 * 4 + d.f 1 3 2) c == 1)).filter (fun x => x / 4 == c / 4)).length) = false)
    (hb : b < 32) (hav : s.bgAvail (d.f 1 1 0 * 4 + d.f 1 3 2) b = true) :
    ∃ u, execSetCacheMode r i s = .next u ∧ u.mem = s.mem ∧
      (s.bgMode (d.f 1 1 0 * 4 + d.f 1 3 2) b < 2 → u.bgMode (d.f 1 1 0 * 4 + d.f 1 3 2) b = if nbit (d.f 1 63 32) b
        then (if s.bgMode (d.f 1 1 0 * 4 + d.f 1 3 2) b = 1 then 1 else 2) else (if s.bgMode (d.f 1 1 0 * 4 + d.f 1 3 2) b = 1 then 3 else 0)) ∧
      (s.bgMode (d.f 1 1 0 * 4 + d.f 1 3 2) b = 2 ∨ s.bgMode (d.f 1 1 0 * 4 + d.f 1 3 2) b = 3 →
        u.bgMode (d.f 1 1 0 * 4 + d.f 1 3 2) b = s.bgMode (d.f 1 1 0 * 4 + d.f 1 3 2) b ∧
        u.pendOf (d.f 1 1 0 * 4 + d.f 1 3 2) b = if nbit (d.f 1 63 32) b then 2 else 1) := by
  unfold execSetCacheMode
  rw [hop]
  dsimp only
  rw [if_neg]
  case hnc =>
    simp only [Bool.or_eq_true, List.any_eq_true, decide_eq_true_eq, not_or, not_exists, not_and]
    refine ⟨⟨by omega, fun c hc => by simp [hmask c hc]⟩, fun c hc => ?_⟩
    rw [hpins c hc]
    exact Bool.false_ne_true
  generalize d.f 1 1 0 * 4 + d.f 1 3 2 = tq at *
  have hmem : b ∈ (List.range 32).filter (s.bgAvail tq) := List.mem_filter.mpr ⟨List.mem_range.mpr hb, hav⟩
  obtain ⟨hm, hin⟩ := (s.markRan r i).foldl_modeRequest tq (nbit (d.f 1 63 32)) _ (List.nodup_range.filter (s.bgAvail tq))
  generalize ((List.range 32).filter (s.bgAvail tq)).foldl (fun u b => u.modeRequest tq b (nbit (d.f 1 63 32) b)) (s.markRan r i) = s1 at *
  obtain ⟨hmem2, -, hmodes, hpends, -⟩ := State.modeOpsCheck_frame
    { s1 with msc.modeOps := s1.msc.modeOps ++ [⟨r, i, tq, d.f 1 63 32, ofBits ((List.range 32).filter (s.bgAvail tq)), 0⟩] }
  have hmark : (s.markRan r i).mem = s.mem ∧ (s.markRan r i).msc = s.msc := by simp
  have hm0 : (s.markRan r i).bgMode tq b = s.bgMode tq b := congrArg (fun m : MscState => spGet (fun _ => 0) m.mode (modeKey tq b)) hmark.2
  have h := hin b hmem
  rw [hm0] at h
  refine ⟨_, rfl, hmem2.trans (hm.trans hmark.1), ?_⟩
  unfold State.bgMode State.pendOf
  rw [hmodes, hpends]
  exact h

/-- Settles O19: a request, a switch and its end, each by what it leaves of the modes, the lines and the bytes of its group. -/
theorem bankGroupModes : Obligations.BankGroupModes := by
  unfold Obligations.BankGroupModes
  refine ⟨fun s r i b d => ?_, fun s t q b h => execSwitchToCache_switches h, fun s t q b h => execSwitchToScratchpad_switches h, fun s t q b h => ?_⟩
  · intro t tq mask toScr hop ht hmask hpins hb hav
    exact execSetCacheMode_requests hop ht hmask hpins hb hav
  · exact execModeSwitchComplete_completes h

end Sys2Proof.Machine
end

section
/-!
PROOFS. Range operations over a cached line (R233–R239).
-/

namespace Sys2Proof.Machine

set_option Elab.async false

/-- What a range operation on a cached line rests on: the lines, the regions, the part, the rings and the mark of a wait. -/
def State.lineView (s : State) : Sp CLine × PilState × Part × Sp Ring × Bool := (s.msc.lines, s.pil, s.part, s.rng, s.waited)

theorem State.lineView_iff {s t : State} : t.lineView = s.lineView ↔
    t.msc.lines = s.msc.lines ∧ t.pil = s.pil ∧ t.part = s.part ∧ t.rng = s.rng ∧ t.waited = s.waited := by
  unfold State.lineView
  simp only [Prod.mk.injEq]

theorem State.lineView_of_units {s t : State} (hm : t.msc = s.msc) (hp : t.pil = s.pil) (hq : t.part = s.part) (hr : t.rng = s.rng)
    (hw : t.waited = s.waited) : t.lineView = s.lineView := State.lineView_iff.mpr ⟨congrArg MscState.lines hm, hp, hq, hr, hw⟩

section
variable (s : State)

theorem State.rset_lineView (f : Fd) (n : Nat) : (s.rset f n).lineView = s.lineView := State.lineView_of_units rfl rfl rfl rfl rfl

theorem State.raise_lineView (a : RecArg) : (s.raise a).lineView = s.lineView :=
  have h := s.raise_same a
  State.lineView_of_units h.msc h.pil h.part h.rng h.waited

theorem State.msi_lineView (v : Nat) : (s.msi v).lineView = s.lineView :=
  have h := s.msi_same v
  State.lineView_of_units h.msc h.pil h.part h.rng h.waited

theorem State.injDone_lineView : s.injDone.lineView = s.lineView := by
  unfold State.injDone
  split
  · rfl
  · rw [State.rset_lineView, State.rset_lineView]

theorem State.keepInj_lineView (b : Bool) (c k : Nat) : (s.keepInj b c k).lineView = s.lineView := by
  unfold State.keepInj State.noteInj
  split
  · split <;> rfl
  · rfl

theorem State.markLost_lineView : s.markLost.lineView = s.lineView := by
  unfold State.markLost
  refine foldl_keeps (p := fun u : State => u.lineView = s.lineView) _ (fun u n hu => ?_) _ rfl
  split
  · exact (u.rset_lineView _ _).trans hu
  · exact hu

theorem State.distBump_lineView : s.distBump.lineView = s.lineView := by
  have hcap (u : State) : u.capBump.lineView = u.lineView := by
    unfold State.capBump
    dsimp only
    split
    · exact State.msi_lineView _ _
    · rfl
  unfold State.distBump
  dsimp only
  rw [hcap]
  split
  · exact State.msi_lineView _ _
  · rfl

theorem State.fenceChannelNow_lineView (c : Nat) : (s.fenceChannelNow c).lineView = s.lineView := by
  unfold State.fenceChannelNow State.rbit State.addFence
  rw [State.distBump_lineView, State.markLost_lineView, State.rset_lineView]
  split <;> rfl

theorem State.tagCheck_lineView (pa : Nat) : (s.tagCheck pa).lineView = s.lineView := by
  unfold State.tagCheck
  split
  · rfl
  · dsimp only
    split
    · rfl
    · split
      · rfl
      · rw [State.fenceChannelNow_lineView, State.raise_lineView]
        rfl

theorem State.chanPutSector_lineView (ch a : Nat) (data : List Byte) (poison : Bool) : (s.chanPutSector ch a data poison).lineView = s.lineView := by
  unfold State.chanPutSector
  extract_lets k t
  split
  · exact (State.injDone_lineView _).trans (State.keepInj_lineView _ true 2 k)
  · rfl

/-- A line written back stays as it is, but for the bytes in the channel. -/
theorem State.writeBack_lineView (sl set way : Nat) : (s.writeBack sl set way).lineView = s.lineView := by
  unfold State.writeBack
  extract_lets c pa
  split
  · rfl
  · refine foldl_keeps (p := fun u : State => u.lineView = s.lineView) _ (fun u i hu => ?_) _ rfl
    dsimp only
    split
    · exact ((State.keepInj_lineView _ _ _ _).trans (State.chanPutSector_lineView _ _ _ _ _)).trans hu
    · exact hu

theorem State.way_of_lineView {s t : State} (h : t.lineView = s.lineView) (sl set w : Nat) : t.way sl set w = s.way sl set w := by
  unfold State.way
  rw [(State.lineView_iff.mp h).1]

theorem State.way_complete (r i status reason result sl set w : Nat) : (s.complete r i status reason result).way sl set w = s.way sl set w := by
  simp [State.way]

theorem State.modWay_line (sl set w : Nat) (g : CLine → CLine) : (s.modWay sl set w g).way sl set w = g (s.way sl set w) ∧
    (s.modWay sl set w g).rng = s.rng ∧ (s.modWay sl set w g).waited = s.waited := ⟨spGet_spPut_same _ _ _ _, rfl, rfl⟩

end

/-! ### The operation on a line that is in the cache -/

theorem foldl_fixed {σ α : Type} {f : σ → α → σ} {a : σ} : ∀ {l : List α}, (∀ b ∈ l, f a b = a) → l.foldl f a = a
  | [], _ => rfl
  | b :: l, h => by
    rw [List.foldl_cons, h b List.mem_cons_self]
    exact foldl_fixed fun c hc => h c (List.mem_cons_of_mem b hc)

section
variable {s : State} {pa n w : Nat} {g : Region}

theorem State.onLine_present (hr : s.regionOf pa = some (n, g)) (hf : s.findWay (chanAddr g s.channels pa).1 (setOf (pa / 128)) (tagOf (pa / 128)) = some w)
    (act : State → Nat → Nat → Nat → State) : s.onLine pa act = act s (chanAddr g s.channels pa).1 (setOf (pa / 128)) w := by
  unfold State.onLine
  rw [hr]
  dsimp only
  rw [hf]

theorem State.mustWait_present (hr : s.regionOf pa = some (n, g))
    (hf : s.findWay (chanAddr g s.channels pa).1 (setOf (pa / 128)) (tagOf (pa / 128)) = some w) : s.mustWait pa = false := by
  unfold State.mustWait State.sliceSet
  rw [hr]
  dsimp only [Option.map_some]
  rw [hf]
  split
  · simp
  · rfl

/-- A line that is in the cache whole is fetched without a change to it. -/
theorem State.fetchLine_present (hr : s.regionOf pa = some (n, g))
    (hf : s.findWay (chanAddr g s.channels pa).1 (setOf (pa / 128)) (tagOf (pa / 128)) = some w)
    (hv : ∀ j, j < 4 → ((s.way (chanAddr g s.channels pa).1 (setOf (pa / 128)) w).sec j).valid = true) :
    (s.fetchLine pa).lineView = s.lineView := by
  unfold State.fetchLine
  rw [hr]
  dsimp only
  rw [if_neg (by rw [State.mustWait_present hr hf]; exact Bool.false_ne_true)]
  split
  · rfl
  · have ht := s.tagCheck_lineView pa
    generalize s.tagCheck pa = t at ht ⊢
    have hft : t.allocLine (chanAddr g s.channels pa).1 (setOf (pa / 128)) (tagOf (pa / 128)) =
        (t.plruUse (chanAddr g s.channels pa).1 (setOf (pa / 128)) w, some w) := by
      unfold State.allocLine
      rw [State.findWay_congr (State.lineView_iff.mp ht).1, hf]
    rw [hft]
    dsimp only
    rw [foldl_fixed fun i hi => ?_]
    · exact ht
    · unfold State.fetchSector
      have hw : (t.plruUse (chanAddr g s.channels pa).1 (setOf (pa / 128)) w).way (chanAddr g s.channels pa).1 (setOf (pa / 128)) w =
        s.way (chanAddr g s.channels pa).1 (setOf (pa / 128)) w := State.way_of_lineView ht _ _ _
      rw [hw]
      exact if_pos (hv i (List.mem_range.mp hi))

/-- A cached line that is not locked is written back and is then clean (R234). -/
theorem State.flush1_present (hr : s.regionOf pa = some (n, g))
    (hf : s.findWay (chanAddr g s.channels pa).1 (setOf (pa / 128)) (tagOf (pa / 128)) = some w)
    (hl : (s.way (chanAddr g s.channels pa).1 (setOf (pa / 128)) w).locked = false) :
    ∃ v, s.flush1 pa = (v, 0) ∧ v.rng = s.rng ∧ v.waited = s.waited ∧
      v.way (chanAddr g s.channels pa).1 (setOf (pa / 128)) w = (s.way (chanAddr g s.channels pa).1 (setOf (pa / 128)) w).clean := by
  refine ⟨_, congrArg (·, 0) ((State.onLine_present hr hf _).trans (if_neg (by rw [hl]; exact Bool.false_ne_true))), ?_⟩
  have hb := s.writeBack_lineView (chanAddr g s.channels pa).1 (setOf (pa / 128)) w
  obtain ⟨hm, hr, hw⟩ := (s.writeBack (chanAddr g s.channels pa).1 (setOf (pa / 128)) w).modWay_line (chanAddr g s.channels pa).1 (setOf (pa / 128)) w CLine.clean
  obtain ⟨-, -, -, hbr, hbw⟩ := State.lineView_iff.mp hb
  exact ⟨hr.trans hbr, hw.trans hbw, hm.trans (congrArg _ (State.way_of_lineView hb _ _ _))⟩

/-- A cached line that is not locked is dropped (R235). -/
theorem State.invalidate1_present (hr : s.regionOf pa = some (n, g))
    (hf : s.findWay (chanAddr g s.channels pa).1 (setOf (pa / 128)) (tagOf (pa / 128)) = some w)
    (hl : (s.way (chanAddr g s.channels pa).1 (setOf (pa / 128)) w).locked = false) (d : Desc) (va : Nat) :
    ∃ v, s.invalidate1 d va pa = (v, 0) ∧ v.rng = s.rng ∧ v.waited = s.waited ∧
      v.way (chanAddr g s.channels pa).1 (setOf (pa / 128)) w = CLine.init := by
  refine ⟨_, congrArg (·, 0) ((State.onLine_present hr hf _).trans (if_neg (by rw [hl]; exact Bool.false_ne_true))), ?_, ?_, State.modWay_line _ _ _ _ (fun _ => CLine.init) |>.1⟩
  · split
    · rfl
    · unfold State.flushWay
      rw [if_neg (by rw [hl]; exact Bool.false_ne_true)]
      exact (State.lineView_iff.mp (s.writeBack_lineView _ _ _)).2.2.2.1
  · split
    · rfl
    · unfold State.flushWay
      rw [if_neg (by rw [hl]; exact Bool.false_ne_true)]
      exact (State.lineView_iff.mp (s.writeBack_lineView _ _ _)).2.2.2.2

theorem State.unpin1_present (hr : s.regionOf pa = some (n, g))
    (hf : s.findWay (chanAddr g s.channels pa).1 (setOf (pa / 128)) (tagOf (pa / 128)) = some w) :
    ∃ v, s.unpin1 pa = (v, 0) ∧ v.rng = s.rng ∧ v.waited = s.waited ∧
      v.way (chanAddr g s.channels pa).1 (setOf (pa / 128)) w = { s.way (chanAddr g s.channels pa).1 (setOf (pa / 128)) w with pinned := false } := by
  obtain ⟨hm, hr', hw⟩ := s.modWay_line (chanAddr g s.channels pa).1 (setOf (pa / 128)) w (fun c => { c with pinned := false })
  exact ⟨_, congrArg (·, 0) (State.onLine_present hr hf _), hr', hw, hm⟩

theorem State.prefetch1_present (hr : s.regionOf pa = some (n, g)) (he : s.physErr pa = none)
    (hf : s.findWay (chanAddr g s.channels pa).1 (setOf (pa / 128)) (tagOf (pa / 128)) = some w)
    (hv : ∀ j, j < 4 → ((s.way (chanAddr g s.channels pa).1 (setOf (pa / 128)) w).sec j).valid = true) :
    ∃ v, s.prefetch1 pa = (v, 0) ∧ v.rng = s.rng ∧ v.waited = s.waited ∧
      v.way (chanAddr g s.channels pa).1 (setOf (pa / 128)) w = s.way (chanAddr g s.channels pa).1 (setOf (pa / 128)) w := by
  have h := State.fetchLine_present hr hf hv
  obtain ⟨-, -, -, hr', hw⟩ := State.lineView_iff.mp h
  refine ⟨_, if_neg ?_, hr', hw, State.way_of_lineView h _ _ _⟩
  rw [he]
  exact Bool.false_ne_true

/-- A cached line within its set's quota is pinned (R236). -/
theorem State.pinLine_present (hr : s.regionOf pa = some (n, g))
    (hf : s.findWay (chanAddr g s.channels pa).1 (setOf (pa / 128)) (tagOf (pa / 128)) = some w)
    (hv : ∀ j, j < 4 → ((s.way (chanAddr g s.channels pa).1 (setOf (pa / 128)) w).sec j).valid = true)
    (hp : (s.way (chanAddr g s.channels pa).1 (setOf (pa / 128)) w).pinned = false)
    (hq : s.pinnedIn (chanAddr g s.channels pa).1 (setOf (pa / 128)) < s.pinQuota (s.sliceK (chanAddr g s.channels pa).1)) :
    ∃ v, s.pinLine pa = (v, true, true) ∧ v.rng = s.rng ∧ v.waited = s.waited ∧
      v.way (chanAddr g s.channels pa).1 (setOf (pa / 128)) w = { s.way (chanAddr g s.channels pa).1 (setOf (pa / 128)) w with pinned := true } := by
  have h := State.fetchLine_present hr hf hv
  obtain ⟨hlines, hpil, hpart, hr', hw⟩ := State.lineView_iff.mp h
  have hreg : (s.fetchLine pa).regionOf pa = some (n, g) := by
    unfold State.regionOf
    rw [hpil]
    exact hr
  have hch : (s.fetchLine pa).channels = s.channels := by
    unfold State.channels
    rw [hpart]
  have hf' : (s.fetchLine pa).findWay (chanAddr g (s.fetchLine pa).channels pa).1 (setOf (pa / 128)) (tagOf (pa / 128)) = some w := by
    rw [hch, State.findWay_congr hlines]
    exact hf
  have e := State.onLine_present hreg hf' (fun u ch set w => u.modWay ch set w (fun c => { c with pinned := true }))
  rw [hch] at e
  obtain ⟨hm, hr2, hw2⟩ := (s.fetchLine pa).modWay_line (chanAddr g s.channels pa).1 (setOf (pa / 128)) w (fun c => { c with pinned := true })
  rw [State.way_of_lineView h] at hm
  refine ⟨_, ?_, hr2.trans hr', hw2.trans hw, hm⟩
  unfold State.pinLine
  rw [hr]
  dsimp only
  rw [hf]
  dsimp only
  rw [if_neg (by rw [hp]; exact Bool.false_ne_true), if_neg (by omega), e]

end

/-! ### The walk -/

theorem State.opOf_find {s : State} {r i cls op : Nat} {d : Desc} (h : s.opOf r i cls op = some d) : ∃ st, (s.ring r).find i = some st ∧ st.d = d := by
  unfold State.opOf at h
  split at h
  · next st hst =>
    split at h
    · exact ⟨st, hst, Option.some.inj h⟩
    · cases h
  · cases h

/-- A completion on a state with the same rings is one on this state. -/
theorem State.Completes.of_rng {s v t : State} {r i status reason result : Nat} (h : v.rng = s.rng) (hc : v.Completes t r i status reason result) :
    s.Completes t r i status reason result := by
  have hr : v.ring r = s.ring r := by
    unfold State.ring
    rw [h]
  unfold State.Completes at hc ⊢
  rw [← hr]
  exact hc

theorem State.xlate_rng (s : State) (who : Option Nat) (asid tenant va : Nat) (need : Need) : (s.xlate who asid tenant va need).1.rng = s.rng :=
  congrArg (fun x => x.2.2.2.2.2.1) (s.xlate_corps who asid tenant va need)

section
variable {s u v : State} {r i op e va pa pte : Nat} {need : Need} {d : Desc} {g : Desc → State → Nat → Nat → State × Nat} {act : State → Nat → Nat → State × Nat}

/-- A walk that ends without a refusal gives no reason. -/
theorem State.walkRange_reason {act : State → Nat → Nat → State × Nat} {l : List Nat} (h : s.walkRange r need act l = (u, 0, e)) : e = 0 := by
  induction l generalizing s with
  | nil => exact (congrArg (fun p => p.2.2) h).symm
  | cons va l ih =>
    rw [State.walkRange] at h
    split at h
    · cases h
    · split at h
      · split at h
        · exact (congrArg (fun p => p.2.2) h).symm
        · split at h
          · exact ih h
          · next st hne hst =>
          exact absurd (congrArg (fun p => p.2.1) h) hne
      · exact ih h

/-- A walk that ends without a refusal completes its operation (R233). -/
theorem State.rangeOp_completes (hop : s.opOf r i 6 op = some d) (hw : s.walkRange r need (g d) (rangeLines (d.f 1 47 0) (d.f 2 47 0)) = (u, 0, e))
    (hu : u.waited = false) : s.rangeOp r i op need g = u.complete r i 0 0 0 := by
  unfold State.rangeOp
  refine State.attempt_eq ?_ (by simpa using hu)
  rw [hop]
  dsimp only
  obtain rfl := State.walkRange_reason hw
  rw [hw]
  unfold State.rangeEnd
  dsimp only
  exact if_neg (show ¬ (0 : Nat) = 0x80 by decide)

theorem State.walkRange_line (hx : s.xlate none (s.ringAsid r) (s.ringTenant r) va need = (u, .ok (pa, pte))) (hd : u.dramLine pa = true)
    (hh : u.accHeld pa = false) (hg : act u va pa = (v, 0)) (l : List Nat) : s.walkRange r need act (va :: l) = v.walkRange r need act l := by
  rw [State.walkRange, hx]
  dsimp only
  rw [if_pos hd, if_neg (by rw [hh]; exact Bool.false_ne_true), hg]
  rfl

theorem State.walkRange_skip (hx : s.xlate none (s.ringAsid r) (s.ringTenant r) va need = (u, .ok (pa, pte))) (hd : u.dramLine pa = false) (l : List Nat) :
    s.walkRange r need act (va :: l) = u.walkRange r need act l := by
  rw [State.walkRange, hx]
  dsimp only
  rw [if_neg (by rw [hd]; exact Bool.false_ne_true)]

/-- An operation on one line completes as the line's own operation leaves the cache. -/
theorem State.rangeOp_line (hop : s.opOf r i 6 op = some d) (hl : rangeLines (d.f 1 47 0) (d.f 2 47 0) = [va])
    (hx : (s.xlate none (s.ringAsid r) (s.ringTenant r) va need).2 = .ok (pa, pte))
    (hd : (s.xlate none (s.ringAsid r) (s.ringTenant r) va need).1.dramLine pa = true)
    (hh : (s.xlate none (s.ringAsid r) (s.ringTenant r) va need).1.accHeld pa = false)
    (hg : g d (s.xlate none (s.ringAsid r) (s.ringTenant r) va need).1 va pa = (v, 0)) (hv : v.waited = false)
    (hr : v.rng = (s.xlate none (s.ringAsid r) (s.ringTenant r) va need).1.rng) :
    s.rangeOp r i op need g = v.complete r i 0 0 0 ∧ s.Completes (v.complete r i 0 0 0) r i 0 0 0 := by
  obtain ⟨st, hst, -⟩ := State.opOf_find hop
  have hrng : v.rng = s.rng := hr.trans (s.xlate_rng none _ _ va need)
  have hw : s.walkRange r need (g d) (rangeLines (d.f 1 47 0) (d.f 2 47 0)) = (v, 0, 0) := by
    rw [hl, State.walkRange_line (Prod.ext rfl hx) hd hh hg]
    rfl
  have hst' : (v.ring r).find i = some st := by
    unfold State.ring
    rw [hrng]
    exact hst
  exact ⟨State.rangeOp_completes hop hw hv, (State.complete_completes v hst' 0 0 0).of_rng hrng⟩

end

/-- The lines of a walk with pins are taken one by one; a PIN within the cap whose walk ends well completes (R236). -/
theorem execPin_completes {s u : State} {r i e : Nat} {d : Desc} {mine : List Nat} (hop : s.opOf r i 6 4 = some d)
    (hcap : s.pinnedLines + s.msc.reserved_ + (rangeLines (d.f 1 47 0) (d.f 2 47 0)).length ≤ s.pinCap)
    (hw : s.pinWalk r (rangeLines (d.f 1 47 0) (d.f 2 47 0)) [] = (u, 0, e, mine)) (hu : u.waited = false) :
    execPin r i s = .next (u.complete r i 0 0 0) := by
  refine congrArg Host.Outcome.next (State.attempt_eq ?_ (by simpa using hu))
  rw [hop]
  dsimp only
  rw [if_neg (by omega), hw]
  rfl

theorem State.pinWalk_line {s v : State} {r va pa pte : Nat} (hx : (s.xlate none (s.ringAsid r) (s.ringTenant r) va .r).2 = .ok (pa, pte))
    (hd : (s.xlate none (s.ringAsid r) (s.ringTenant r) va .r).1.dramLine pa = true)
    (he : (s.xlate none (s.ringAsid r) (s.ringTenant r) va .r).1.physErr pa = none)
    (hh : (s.xlate none (s.ringAsid r) (s.ringTenant r) va .r).1.accHeld pa = false)
    (hg : (s.xlate none (s.ringAsid r) (s.ringTenant r) va .r).1.pinLine pa = (v, true, true)) :
    s.pinWalk r [va] [] = (v, 0, 0, [pa]) := by
  have e : s.xlate none (s.ringAsid r) (s.ringTenant r) va .r = ((s.xlate none (s.ringAsid r) (s.ringTenant r) va .r).1, .ok (pa, pte)) := Prod.ext rfl hx
  generalize (s.xlate none (s.ringAsid r) (s.ringTenant r) va .r).1 = u at *
  rw [State.pinWalk, e]
  dsimp only
  rw [if_pos hd, if_neg (by rw [he]; exact Bool.false_ne_true), if_neg (by rw [hh]; exact Bool.false_ne_true), hg]
  rfl

/-- Settles O18: the walk line by line, and what each operation leaves of a line that is in the cache. -/
theorem rangeOperations : Obligations.RangeOperations := by
  unfold Obligations.RangeOperations
  refine ⟨⟨?_, ?_, ?_⟩, ?_, ?_⟩
  · intro s u r i op e need d c g hmem hop hw hu
    refine ⟨_, ?_, rfl⟩
    simp only [List.mem_cons, Prod.mk.injEq, List.not_mem_nil, or_false] at hmem
    rcases hmem with ⟨rfl, rfl, rfl, rfl⟩ | ⟨rfl, rfl, rfl, rfl⟩ | ⟨rfl, rfl, rfl, rfl⟩ | ⟨rfl, rfl, rfl, rfl⟩
    · exact congrArg Host.Outcome.next (State.rangeOp_completes (g := fun _ v _ pa => v.prefetch1 pa) hop hw hu)
    · exact congrArg Host.Outcome.next (State.rangeOp_completes (g := fun _ v _ pa => v.flush1 pa) hop hw hu)
    · exact congrArg Host.Outcome.next (State.rangeOp_completes (g := fun d v va pa => v.invalidate1 d va pa) hop hw hu)
    · exact congrArg Host.Outcome.next (State.rangeOp_completes (g := fun _ v _ pa => v.unpin1 pa) hop hw hu)
  · exact fun s u v r va pa pte need l g => ⟨rfl, fun hx hd hh hg => State.walkRange_line hx hd hh hg l, fun hx hd => State.walkRange_skip hx hd l⟩
  · exact fun s u r i e d mine hop hcap hw hu => ⟨_, execPin_completes hop hcap hw hu, rfl⟩
  · intro s r i op va pa pte n w need d g c hmem u ch set hop hl hu hx hd hh he hr hf hlock hv
    simp only [List.mem_cons, Prod.mk.injEq, List.not_mem_nil, or_false] at hmem
    rcases hmem with ⟨rfl, rfl, rfl⟩ | ⟨rfl, rfl, rfl⟩ | ⟨rfl, rfl, rfl⟩ | ⟨rfl, rfl, rfl⟩
    · obtain ⟨v, hg, hrng, hw, hway⟩ := State.flush1_present hr hf hlock
      obtain ⟨h, hc⟩ := State.rangeOp_line (g := fun _ v _ pa => v.flush1 pa) hop hl hx hd hh hg (hw.trans hu) hrng
      exact ⟨_, congrArg Host.Outcome.next h, hc, fun _ => (State.way_complete _ _ _ _ _ _ _ _ _).trans hway, nofun, nofun, nofun⟩
    · obtain ⟨v, hg, hrng, hw, hway⟩ := State.invalidate1_present hr hf hlock d va
      obtain ⟨h, hc⟩ := State.rangeOp_line (g := fun d v va pa => v.invalidate1 d va pa) hop hl hx hd hh hg (hw.trans hu) hrng
      exact ⟨_, congrArg Host.Outcome.next h, hc, nofun, fun _ => (State.way_complete _ _ _ _ _ _ _ _ _).trans hway, nofun, nofun⟩
    · obtain ⟨v, hg, hrng, hw, hway⟩ := State.unpin1_present hr hf
      obtain ⟨h, hc⟩ := State.rangeOp_line (g := fun _ v _ pa => v.unpin1 pa) hop hl hx hd hh hg (hw.trans hu) hrng
      exact ⟨_, congrArg Host.Outcome.next h, hc, nofun, nofun, fun _ => (State.way_complete _ _ _ _ _ _ _ _ _).trans hway, nofun⟩
    · obtain ⟨v, hg, hrng, hw, hway⟩ := State.prefetch1_present hr he hf hv
      obtain ⟨h, hc⟩ := State.rangeOp_line (g := fun _ v _ pa => v.prefetch1 pa) hop hl hx hd hh hg (hw.trans hu) hrng
      exact ⟨_, congrArg Host.Outcome.next h, hc, nofun, nofun, nofun, fun _ => (State.way_complete _ _ _ _ _ _ _ _ _).trans hway⟩
  · intro s r i va pa pte n w d g u ch set hop hl hu hcap hx hd hh he hr hf hv hp hq _
    obtain ⟨v, hg, hrng, hw, hway⟩ := State.pinLine_present hr hf hv hp hq
    have hwalk := State.pinWalk_line hx hd he hh hg
    rw [← hl] at hwalk
    have h := execPin_completes hop (by rw [hl]; exact hcap) hwalk (hw.trans hu)
    have hrng' : v.rng = s.rng := hrng.trans (s.xlate_rng none _ _ va .r)
    obtain ⟨st, hst, -⟩ := State.opOf_find hop
    have hst' : (v.ring r).find i = some st := by
      unfold State.ring
      rw [hrng']
      exact hst
    exact ⟨_, h, (State.way_complete _ _ _ _ _ _ _ _ _).trans hway, (State.complete_completes v hst' 0 0 0).of_rng hrng'⟩

end Sys2Proof.Machine
end

section
/-!
PROOFS. A pile that fails in a tower fenced before (R275).
-/

namespace Sys2Proof.Machine

set_option Elab.async false

/-! ### A failed pile in a tower fenced before -/

/-- Tower 0 is fenced as a whole, and none of its channels on its own. -/
def towerFenced : State := { State.reset with flt.fences := [.tower 0] }

theorem towerFenced_pile : 0 < towerFenced.piles ∧ towerFenced.switching = none := by decide +kernel

/-- The failure of pile 0 fences none of its channels: the pile is already inside a fenced unit. -/
theorem towerFenced_pileFailed : (after (exec (.pileFailed 0) towerFenced) towerFenced).flt.fences = [.tower 0] := by decide +kernel

/-- Refutes O20: a pile that fails in a tower fenced before is inside a fence, and its channels join the fences not one by one. -/
theorem not_piles : ¬ Obligations.Piles := by
  intro h
  obtain ⟨-, -, -, -, -, -, -, -, hpile⟩ := h
  obtain ⟨hp, hs⟩ := towerFenced_pile
  obtain ⟨t, hexec, hch, -⟩ := hpile towerFenced 0 hp hs
  have hfen := towerFenced_pileFailed
  rw [hexec] at hfen
  have hmem := hch 0 (by decide)
  exact absurd (hfen ▸ hmem : FUnit.channel (16 * 0 + 0) ∈ [FUnit.tower 0]) (by decide)

end Sys2Proof.Machine
end

section
/-!
PROOFS. An invalidation of translations whose completion is discarded (R124, R343).
-/

namespace Sys2Proof.Machine

set_option Elab.async false

/-! ### An invalidation that a failed command of its own descriptor waits for -/

/-- XLAT_INV (class 0, operation 2) with nothing named. -/
def xlatInvDesc : Desc := ⟨0x02#64, 0#64, 0#64, 0#64, 0#64, 0#64, 0#64, 0#64⟩

/-- Ring 0 was disabled while its descriptor 0, an XLAT_INV, ran; channel 0 of Frond 0 is halted at a failed command of that descriptor. -/
def invDiscarded : State :=
  (State.reset.setDma 0 0 ⟨[ringCmd 2], none⟩).modRing 0 (fun q => { q with started := [⟨0, xlatInvDesc, false, 0, 0, 0, 0, 0⟩], discard := [0] })

/-- The state in which its translations are dropped: no store is buffered, and no Frond is up that would hold one. -/
def invDiscardedDrained : State := (List.range invDiscarded.fronds).foldl (fun s f => s.sbDrain f) invDiscarded

theorem invDiscarded_ready : invDiscarded.opOf 0 0 0 2 = some xlatInvDesc ∧ (List.range invDiscarded.fronds).any invDiscarded.sbHeld = false ∧
    invDiscardedDrained.opOf 0 0 0 2 = some xlatInvDesc := by decide +kernel

/-- Dropping translations leaves the halted channel. -/
theorem invDiscarded_dropped : ((invDiscardedDrained.xlatInv (xlatInvDesc.f 1 12 12 == 1) (xlatInvDesc.f 1 13 13 == 1) (xlatInvDesc.f 1 11 0)
    (alignDown (xlatInvDesc.f 2 47 0) 65536) (alignUp (xlatInvDesc.f 2 47 0 + xlatInvDesc.f 3 47 0) 65536)).dma 0 0).queue = [ringCmd 2] := by decide +kernel

/-- The completion, discarded, lets the channel go on. -/
theorem invDiscarded_completed : ((after (exec (.xlatInv 0 0) invDiscarded) invDiscarded).dma 0 0).queue = [] := by decide +kernel

theorem State.dma_congr {s t : State} (h : t.frd = s.frd) (f c : Nat) : t.dma f c = s.dma f c := by
  unfold State.dma
  rw [h]

/-- Refutes O27: an XLAT_INV whose completion is discarded resumes the channel halted for its descriptor, so the Fronds are not only without the
translations it names. -/
theorem not_controlDescriptors : ¬ Obligations.ControlDescriptors := by
  intro h
  obtain ⟨⟨-, hinv, -⟩, -⟩ := h
  obtain ⟨hop, hheld, hop'⟩ := invDiscarded_ready
  obtain ⟨t, hexec, -, -, hfrd, -⟩ := hinv invDiscarded 0 0 xlatInvDesc hop hheld hop'
  have hq := invDiscarded_completed
  rw [hexec] at hq
  exact absurd (invDiscarded_dropped.symm.trans ((congrArg Dma.queue (State.dma_congr hfrd 0 0)).symm.trans hq)) (by decide)

end Sys2Proof.Machine
end

section
/-!
PROOFS. A sorus created where an upset was injected before (R404).
-/

namespace Sys2Proof.Machine

set_option Elab.async false

/-! ### A sorus created where an upset was injected before -/

/-- CREATE (class 4, operation 0) of sorus 0 with value and threshold 0. -/
def createDesc : Desc := ⟨0x40#64, 0#64, 0#64, 0#64, 0#64, 0#64, 0#64, 0#64⟩

/-- Sorus 0 is FREE and still on the list of injected upsets; CREATE for it is descriptor 0 of ring 0. -/
def createInjected : State :=
  ({ State.reset with mem.injected := [(7, 0)] } : State).modRing 0 (fun q => { q with started := [⟨0, createDesc, false, 0, 0, 0, 0, 0⟩] })

theorem createInjected_ready : createInjected.opOf 0 0 4 0 = some createDesc ∧ (createInjected.sorus (createDesc.f 1 12 0)).st = .free ∧
    createInjected.rget Fd.FLT_INJ_CTL_ARM = 0 := by decide +kernel

/-- The write of the new value takes the sorus off the list of injected upsets. -/
theorem createInjected_created : (after (exec (.create 0 0) createInjected) createInjected).mem.injected = [] := by decide +kernel

/-- Refutes O34: CREATE writes the sorus, and so takes it off the list of injected upsets, which is part of the memories said to stay. -/
theorem not_sorusDescriptors : ¬ Obligations.SorusDescriptors := by
  intro h
  obtain ⟨hcreate, -⟩ := h
  obtain ⟨hop, hfree, harm⟩ := createInjected_ready
  obtain ⟨t, hexec, -, -, hmem⟩ := hcreate createInjected 0 0 createDesc hop hfree harm
  have hnone := createInjected_created
  rw [hexec] at hnone
  exact absurd (hnone.symm.trans (congrArg MemState.injected hmem)) (by decide)

end Sys2Proof.Machine
end

section
/-!
PROOFS. A step that wakes a Frond from Dark (R372).
-/

namespace Sys2Proof.Machine

set_option Elab.async false

/-! ### A step that wakes a Frond from Dark -/

/-- An operation's answer, where it has one. -/
def answer? {ε α : Type} : Except ε α → Option α
  | .ok a => some a
  | .error _ => none

theorem eq_ok_of_answer {ε α : Type} {x : Except ε α} {a : α} (h : answer? x = some a) : x = .ok a := by
  cases x with
  | ok b => exact congrArg Except.ok (Option.some.inj h)
  | error e => exact absurd h (by simp [answer?])

/-- Page tables in the Thallus: address space 0 of tenant 0 maps its first 2 MiB, to read and write, to the Thallus' second 2 MiB, and
the 2 MiB at `0x600000` to the first of the DRAM. -/
def pageTables : List Host.Cell :=
  ([(0, 0x80000001001), (0x1000, 0x80000002003), (0x2000, 0x80000003003), (0x3000, 0x8000020000D), (0x3018, 0xD)] : List (Nat × Nat)).foldl
    (fun m p => memPutN m p.1 (leBytes 8 p.2)) []

/-- Tower 0 up with translation on in its first Frond, and the session engine up. -/
def mapped : State :=
  { (((State.reset.rset (Fd.TWR_STAT_STATE 0) 4).rset (Fd.FRD_ASPACE_BASE_EN 0) 1).rset (Fd.FRD_ASPACE_BASE_BASE 0) 0x8000000).rset
      Fd.SES_STAT_ENGINE_UP 1 with mem.thl := pageTables }

/-- Slot 0 is resident, with 16 tokens in the pages of pool 0. -/
def wakeSlot : Slot := { Slot.init with st := .resident, bound := true, tb := 12, tokens := 16, dir := 1 }

/-- A STEP (class 2, operation 2) over the batch at `0x1000` and the plan at `0x2000`, with its statuses at `0x3000`. -/
def wakeDesc : Desc := ⟨0x22#64, 0x100000#64, 0x1000#64, 0x3000#64, 0x2000#64, 0x4000#64, 0x5000#64, 1000#64⟩

/-- The words of its pages: a directory entry, a page entry, and the two halves of the plan's first word. -/
def wakeCells : List (Nat × Nat) := [(0x310000, 0x80000002), (0x320000, 0x80000003), (0x202000, 1), (0x202004, 1)]

/-- Frond 0 in Dark, a byte listed in its local store, and a step whose one plan entry is a LAUNCH on that Frond. -/
def stepWakes : State :=
  let s := (mapped.rset (Fd.FRD_SLEEP_STAT_STATE 0) 3).setPool 0 ⟨true, 0, 0, 0x100000, 16, 10⟩
  let s := { s.setSlot 0 wakeSlot with mem.ls := [(0, 1#8)] }
  let s := { s with mem.thl := wakeCells.foldl (fun m (p : Nat × Nat) => memPutN m p.1 (leBytes 4 p.2)) s.mem.thl }
  (s.rset (Fd.RNG_CTL_STATE 0) 1).modRing 0 (fun q => { q with started := [⟨0, wakeDesc, false, 0, 0, 0, 0, 0⟩] })

/-- The batch: session 0 alone. -/
def wakeBatch : List Byte := [0#8, 0#8]

/-- The plan: one LAUNCH on Frond 0. -/
def wakePlanBytes : List Byte := leBytes 8 0x100000001 ++ List.replicate 24 0#8

/-- The states after the batch, the plan, the admissions and the statuses. -/
def wakeBatchRead : State := (stepWakes.vread none 0 (stepWakes.ringAsid 0) (stepWakes.ringTenant 0) (wakeDesc.f 2 47 0) 2).1
def wakePlanRead : State := (wakeBatchRead.vread none 0 (stepWakes.ringAsid 0) (stepWakes.ringTenant 0) (wakeDesc.f 4 47 0) 32).1
def wakeIds : List Nat := (List.range (wakeDesc.f 1 13 0 + 1)).map (fun j => leNat (slice wakeBatch (2 * j) 2))
def wakeLayer : Option Nat := (((planOf wakePlanBytes (wakeDesc.f 1 63 52 + 1)).filter (fun p => p.kind == 2)).map PlanE.layer).foldl
  (fun k l => some (max (k.getD 0) l)) none
def wakeAdmitted : State × AdmitAcc := (List.range wakeIds.length).foldl
  (State.admitOne 0 (wakeDesc.f 1 31 20) wakeLayer wakeIds) (wakePlanRead, ⟨[], [], [], none⟩)
def wakeSaid : State :=
  (wakeAdmitted.1.vwrite none 0 (wakeAdmitted.1.ringAsid 0) (wakeAdmitted.1.ringTenant 0) (wakeDesc.f 3 47 0) (wakeAdmitted.2.codes.map (BitVec.ofNat 8))).1

theorem eq_pair_of_snd {α β : Type} {x : α × β} {b : β} (h : x.2 = b) : x = (x.1, b) := by rw [← h]

theorem wakeBatchRead_eq : stepWakes.vread none 0 (stepWakes.ringAsid 0) (stepWakes.ringTenant 0) (wakeDesc.f 2 47 0) (2 * (wakeDesc.f 1 13 0 + 1)) =
    (wakeBatchRead, .ok wakeBatch) := eq_pair_of_snd (eq_ok_of_answer (by decide +kernel))

theorem wakePlanRead_eq : wakeBatchRead.vread none 0 (stepWakes.ringAsid 0) (stepWakes.ringTenant 0) (wakeDesc.f 4 47 0)
    (32 * (wakeDesc.f 1 63 52 + 1)) = (wakePlanRead, .ok wakePlanBytes) := eq_pair_of_snd (eq_ok_of_answer (by decide +kernel))

theorem wakeSaid_eq : wakeAdmitted.1.vwrite none 0 (wakeAdmitted.1.ringAsid 0) (wakeAdmitted.1.ringTenant 0) (wakeDesc.f 3 47 0)
    (wakeAdmitted.2.codes.map (BitVec.ofNat 8)) = (wakeSaid, none) := eq_pair_of_snd (by decide +kernel)

/-- The statuses written, the byte of the local store still stands; the step then wakes the Frond and clears it. -/
theorem stepWakes_clears : wakeSaid.mem.ls = [(0, 1#8)] ∧ (after (exec (.step 0 0) stepWakes) stepWakes).mem.ls = [] := by decide +kernel

/-- Refutes O31: a step wakes the Fronds its plan launches on, and one that wakes from Dark has its local store cleared. -/
theorem not_sessionSteps : ¬ Obligations.SessionSteps := by
  intro h
  obtain ⟨hstep, -⟩ := h
  obtain ⟨hsaid, hcleared⟩ := stepWakes_clears
  obtain ⟨t, hexec, -, -, -, hmem⟩ := hstep stepWakes wakeBatchRead wakePlanRead wakeAdmitted.1 wakeSaid 0 0 0 wakeDesc ⟨0, wakeDesc, false, 0, 0, 0, 0, 0⟩
    wakeBatch wakePlanBytes wakeAdmitted.2 (planOf wakePlanBytes (wakeDesc.f 1 63 52 + 1)) (by decide +kernel) (by decide +kernel) (by decide +kernel)
    ⟨0, by decide, by decide +kernel⟩ wakeBatchRead_eq wakePlanRead_eq (by decide +kernel) (Prod.mk.eta (p := wakeAdmitted)).symm (by decide +kernel) (by decide +kernel) (by decide +kernel)
    wakeSaid_eq (by decide +kernel) (by decide +kernel) (by decide +kernel) (by decide +kernel)
  rw [hexec] at hcleared
  have hls : t.mem.ls = wakeSaid.mem.ls := by rw [hmem]
  exact absurd (hcleared.symm.trans (hls.trans hsaid)) (by decide)

end Sys2Proof.Machine
end

section
/-!
PROOFS. A link that loses its light under a session transfer (R659).
-/

namespace Sys2Proof.Machine

set_option Elab.async false

/-! ### A link that loses its light under a session transfer -/

/-- Link 2, of port 1, is up, and a session arrives on it with one page of pool 0 reserved; the pool's arena lies in DRAM. -/
def xferOnLink : State :=
  let s := ({ mapped with pil.applied := [⟨true, true, 0, 0, 1, 0⟩] } : State)
  let s := (s.setPool 0 ⟨true, 0, 0, 0x600000, 16, 10⟩).setSlot 0 wakeSlot
  { s.setLinkState 2 2 with fab.xfers := [(0, some ⟨0, 16, 1, 0, [⟨0, false, 0, 3⟩], 2⟩)] }

/-- A link that goes down, up to the groups of reductions that name it. -/
def State.linkLost (s : State) (l reason : Nat) : State :=
  let q := s.link l
  let u := (s.setLink l { Link.init with light := q.light, crossed := q.crossed, rxbuf := q.rxbuf.filter (fun x => !x.m.linkLocal) }).setLinkState l 5
  let u := if reason = 0x0B08 then u.raise (recNote 0x0B08 (portLoc l))
    else (u.raise ⟨reason, portLoc l, 6, .port (portLoc l), none, false, false, false, false⟩).addFence (.port (portLoc l))
  let u := ((q.txq.map (·.2) ++ q.unack.map Unack.why).foldl (fun (u : State) w => u.sentLost w) u).xferLost l
  (s.fab.reqs.filter (fun x => x.link == l)).foldl (fun (u : State) x => u.reqEnd x (.error (if reason = 0x0B08 then 0x0B08 else 0x0B01))) u

/-- The reductions of the groups that name the link end. -/
def State.linkRedsLost (s : State) (l : Nat) : State :=
  (List.range 256).foldl (fun (s : State) g => if (s.rgrp g).links.contains l then s.redAbort g 0x0B0E (some l) else s) s

theorem State.linkDown_of_up {s : State} {l : Nat} (reason : Nat) (hthere : s.linkThere l = true) (hup : s.linkState l = 2) :
    s.linkDown l reason = ((s.linkLost l reason).linkRedsLost l).capBump := by
  unfold State.linkDown
  rw [if_neg (by simp [hthere, hup])]
  rfl

theorem State.linkRedsLost_of_none {s : State} {l : Nat} (h : ∀ g, (s.rgrp g).links.contains l = false) : s.linkRedsLost l = s :=
  foldl_fixed (fun g _ => if_neg (by rw [h g]; exact Bool.false_ne_true))

/-- A group that is not set up names link 0 as its parent. -/
theorem rgrp_of_no_groups {s : State} {l : Nat} (hl : l ≠ 0) (h : s.fab.groups = []) (g : Nat) : (s.rgrp g).links.contains l = false := by
  unfold State.rgrp
  rw [h]
  calc RGrp.init.links.contains l = [0].contains l := congrArg (·.contains l) (show RGrp.init.links = [0] by decide +kernel)
    _ = false := by simp [hl]

theorem State.capBump_mem (s : State) : s.capBump.mem = s.mem := by
  unfold State.capBump State.msi
  dsimp only
  split
  · split <;> rfl
  · rfl

/-- The state of the link without light, as its loss begins. -/
def xferOnLinkDark : State := xferOnLink.modLink 2 (fun q => { q with light := false })

/-- The link is quiet: nothing waits on it and no group of a reduction names it. -/
theorem xferOnLink_quiet : xferOnLink.QuietLink 2 := by
  have hreqs : xferOnLink.fab.reqs = [] := by decide +kernel
  have hgroups : xferOnLink.fab.groups = [] := by decide +kernel
  exact ⟨by decide +kernel, by decide +kernel, fun q hq => absurd (hreqs ▸ hq) (by simp), fun g _ => rgrp_of_no_groups (by decide) hgroups g⟩

/-- The transfer is dropped, and its page goes back to the free stack at the start of the arena. -/
theorem xferOnLink_dropped : xferOnLink.mem.dram = [] ∧ (xferOnLinkDark.linkLost 2 0x0B01).mem.dram ≠ [] ∧
    (xferOnLinkDark.linkLost 2 0x0B01).fab.groups = [] := by decide +kernel

theorem exec_lossOfLight_port (s : State) {e l : Nat} (he : e < 16) (hp : s.portLinks e = [l]) :
    exec (.lossOfLight e) s = .next ((s.modLink l (fun q => { q with light := false })).linkDown l 0x0B01) := by
  have h : exec (.lossOfLight e) s =
      .next ((s.portLinks e).foldl (fun (s : State) l => (s.modLink l (fun q => { q with light := false })).linkDown l 0x0B01) s) :=
    congrArg Host.Outcome.next (if_pos he)
  rw [h, hp, List.foldl_cons, List.foldl_nil]

theorem State.linkDown_mem_of_no_groups {s : State} {l reason : Nat} (hl : l ≠ 0) (hthere : s.linkThere l = true) (hup : s.linkState l = 2)
    (hgroups : (s.linkLost l reason).fab.groups = []) : (s.linkDown l reason).mem = (s.linkLost l reason).mem := by
  rw [State.linkDown_of_up reason hthere hup, State.capBump_mem, State.linkRedsLost_of_none (rgrp_of_no_groups hl hgroups)]

/-- Refutes O50: a link that loses its light drops the session transfers that arrive on it, and their pages go back to a free stack that may lie in
DRAM. -/
theorem not_lightAndNightPort : ¬ Obligations.LightAndNightPort := by
  intro h
  obtain ⟨-, -, -, hlight, -⟩ := h
  obtain ⟨hbefore, hafter, hgroups⟩ := xferOnLink_dropped
  obtain ⟨t, hexec, -, -, -, -, hdram⟩ := hlight xferOnLink 1 2 (by decide) (by decide +kernel) (by decide +kernel) (by decide +kernel) xferOnLink_quiet
  have hmem : t.mem = (xferOnLinkDark.linkLost 2 0x0B01).mem := by
    rw [← Host.Outcome.next.inj ((exec_lossOfLight_port (l := 2) xferOnLink (by decide) (by decide +kernel)).symm.trans hexec)]
    exact State.linkDown_mem_of_no_groups (by decide) (by decide +kernel) (by decide +kernel) hgroups
  exact hafter ((congrArg MemState.dram hmem).symm.trans (hdram.trans hbefore))

end Sys2Proof.Machine
end

section
/-!
PROOFS. A peer that leaves under a session transfer (R450).
-/

namespace Sys2Proof.Machine

set_option Elab.async false

/-! ### A peer that leaves under a session transfer -/

/-- The message by which a peer leaves. -/
def leaveNote : Msg := ⟨0x32, 0, 0, 0, false, 0, 0, 0, 0, 0, 0, 0, []⟩

/-- Link 2 holds that message, and both copies of a tag are bad in the set that the pool's free stack falls into. -/
def xferLeaving : State :=
  let s := xferOnLink.modLink 2 (fun q => { q with rxbuf := [⟨leaveNote, 0⟩] })
  { s with msc.tagBad := [(wayKey 0 (setOf 0) 0, 3)] }

/-- The state once the message is taken. -/
def xferLeft : State := (xferLeaving.modLink 2 (fun q => { q with rxbuf := [] })).freeRx 2 leaveNote

theorem xferLeaving_taken : xferLeaving.takeRx 2 0x32 = some (leaveNote, xferLeft) := by
  have hfind : findIdxFrom (fun x : RxMsg => x.m.op == 0x32) (xferLeaving.link 2).rxbuf 0 = some 0 := by decide +kernel
  have hbuf : (xferLeaving.link 2).rxbuf[0]? = some ⟨leaveNote, 0⟩ := by decide +kernel
  have hrest : (xferLeaving.link 2).rxbuf.eraseIdx 0 = [] := by decide +kernel
  unfold State.takeRx
  rw [hfind]
  dsimp only
  rw [hbuf]
  dsimp only
  unfold xferLeft State.modLink
  dsimp only
  rw [hrest]

theorem xferLeft_quiet : xferLeft.QuietLink 2 := by
  have hreqs : xferLeft.fab.reqs = [] := by decide +kernel
  have hgroups : xferLeft.fab.groups = [] := by decide +kernel
  exact ⟨by decide +kernel, by decide +kernel, fun q hq => absurd (hreqs ▸ hq) (by simp), fun g _ => rgrp_of_no_groups (by decide) hgroups g⟩

/-- The write that gives the page back finds both copies of a tag bad, and the channel is fenced. -/
theorem xferLeft_fenced : xferLeaving.flt.fences = [] ∧ (xferLeft.linkLost 2 0x0B08).flt.fences ≠ [] ∧ (xferLeft.linkLost 2 0x0B08).fab.groups = [] := by
  decide +kernel

theorem exec_msgLeave_taken {s u : State} {l : Nat} {m : Msg} (h : s.takeRx l 0x32 = some (m, u)) : exec (.msgLeave l) s = .next (u.linkDown l 0x0B08) := by
  show Host.Outcome.next (match s.takeRx l 0x32 with
    | none => s
    | some (_, s) => s.linkDown l 0x0B08) = _
  rw [h]

/-- Refutes O35: a peer that leaves drops the session transfers that arrive from it, and a page that goes back to its pool may meet a bad cache tag,
which fences the channel. -/
theorem not_fabricPorts : ¬ Obligations.FabricPorts := by
  intro h
  obtain ⟨-, -, -, -, -, -, hleave⟩ := h
  obtain ⟨hbefore, hafter, hgroups⟩ := xferLeft_fenced
  obtain ⟨t, hexec, -, hfences, -⟩ := hleave xferLeaving xferLeft 2 leaveNote xferLeaving_taken (by decide +kernel) (by decide +kernel) xferLeft_quiet
  have hflt : t.flt = (xferLeft.linkLost 2 0x0B08).flt := by
    rw [← Host.Outcome.next.inj ((exec_msgLeave_taken xferLeaving_taken).symm.trans hexec),
      State.linkDown_of_up 0x0B08 (by decide +kernel) (by decide +kernel), State.capBump_flt, State.linkRedsLost_of_none (rgrp_of_no_groups (by decide) hgroups)]
  exact hafter ((congrArg FltState.fences hflt).symm.trans (hfences.trans hbefore))

end Sys2Proof.Machine
end

section
/-!
PROOFS. Ring states and doorbells (R326–R332).
-/

namespace Sys2Proof.Machine

set_option Elab.async false

/-! ### Enabling and disabling -/

/-- Not a definitional rule: `simp` then rewrites by it step by step. -/
theorem State.setRing_rget (s : State) (r : Nat) (q : Ring) (f : Fd) : (s.setRing r q).rget f = s.rget f := (rfl)
theorem State.modRing_rget (s : State) (r : Nat) (g : Ring → Ring) (f : Fd) : (s.modRing r g).rget f = s.rget f := (rfl)

theorem State.ringEnable_of_ok {s : State} {r : Nat} (h : s.ringOk r = true) : s.ringEnable r =
    (((((s.rset (Fd.RNG_STAT_SQ_HEAD r) 0).rset (Fd.RNG_STAT_SQ_TAIL r) 0).rset (Fd.RNG_CSTAT_CQ_HEAD r) 0).rset (Fd.RNG_CSTAT_CQ_TAIL r) 0).rset
      (Fd.RNG_CTL_STATE r) 1).modRing r (fun q => { q with fetched := [], done := [], pendCnt := 0, pendAt := none }) := if_pos h

/-- The registers of a ring enabled with its checks good. -/
theorem State.ringEnable_regs {s : State} {r : Nat} (h : s.ringOk r = true) : (s.ringEnable r).ringState r = 1 ∧
    (s.ringEnable r).rget (Fd.RNG_CTL_ENABLE r) = s.rget (Fd.RNG_CTL_ENABLE r) ∧ (s.ringEnable r).rget (Fd.RNG_STAT_SQ_HEAD r) = 0 ∧
    (s.ringEnable r).rget (Fd.RNG_STAT_SQ_TAIL r) = 0 ∧ (s.ringEnable r).rget (Fd.RNG_CSTAT_CQ_HEAD r) = 0 ∧
    (s.ringEnable r).rget (Fd.RNG_CSTAT_CQ_TAIL r) = 0 := by
  rw [State.ringEnable_of_ok h]
  simp only [State.ringState, State.modRing_rget]
  simp only [Fd.RNG_CTL_ENABLE, Fd.RNG_CTL_STATE, Fd.RNG_STAT_SQ_HEAD, Fd.RNG_STAT_SQ_TAIL, Fd.RNG_CSTAT_CQ_HEAD, Fd.RNG_CSTAT_CQ_TAIL]
  simp [State.rget_rset_same, State.rget_rset_ne]

theorem State.ringEnable_ring {s : State} {r : Nat} (h : s.ringOk r = true) : ((s.ringEnable r).ring r).fetched = [] ∧ ((s.ringEnable r).ring r).done = [] := by
  rw [State.ringEnable_of_ok h, State.ring_modRing_same]
  exact ⟨rfl, rfl⟩

theorem State.ringEnable_mem {s : State} {r : Nat} (h : s.ringOk r = true) : (s.ringEnable r).mem = s.mem := by
  rw [State.ringEnable_of_ok h]
  simp only [State.modRing_frame, State.rset_frame]

theorem State.ringEnable_of_not_ok {s : State} {r : Nat} (h : s.ringOk r = false) : ∃ a, s.ringEnable r = (s.rset (Fd.RNG_CTL_ERR r) 0x09).raise a := by
  unfold State.ringEnable
  rw [if_neg (by rw [h]; exact Bool.false_ne_true)]
  exact ⟨_, rfl⟩

theorem State.ringEnable_refused {s : State} {r : Nat} (h : s.ringOk r = false) : (s.ringEnable r).ringState r = s.ringState r ∧
    (s.ringEnable r).rget (Fd.RNG_CTL_ERR r) = 0x09 ∧ (s.ringEnable r).rng = s.rng := by
  have hslot : ¬ recSlot (0x400000 + r * 0x100) := not_recSlot_of_ring (by omega)
  obtain ⟨a, he⟩ := State.ringEnable_of_not_ok h
  rw [he]
  refine ⟨(State.rget_raise _ _ _ hslot).trans ?_, (State.rget_raise _ _ _ hslot).trans ?_, (State.raise_same _ _).rng.trans ?_⟩
  · simp only [State.ringState]
    simp only [Fd.RNG_CTL_ERR, Fd.RNG_CTL_STATE]
    simp [State.rget_rset_ne]
  · simp only [Fd.RNG_CTL_ERR]
    simp [State.rget_rset_same]
  · simp only [State.rset_frame]

/-- What an enabled ring holds once it is disabled: what was fetched has ended with status `0x82` (R328). -/
def Ring.stopped (q : Ring) : Ring :=
  { q with fetched := [], done := q.done ++ q.fetched.map (fun p => ⟨p.1, p.2.f 0 63 32, 0x82, 0, 0, 0, p.2.f 0 17 17 == 1, false⟩) }

/-- The state of a ring that is disabled, before the waits of its descriptors end. -/
def State.ringStopped (s : State) (r : Nat) : State :=
  ((((s.rset (Fd.RNG_CTL_ENABLE r) 0).setRing r (s.ring r).stopped).rset (Fd.RNG_CTL_STATE r) 2).radd (Fd.RNG_CNT_DONE r)
    ((s.ring r).fetched.map (fun p => (⟨p.1, p.2.f 0 63 32, 0x82, 0, 0, 0, p.2.f 0 17 17 == 1, false⟩ : Compl))).length).radd (Fd.RNG_CNT_FAILED r)
    ((s.ring r).fetched.map (fun p => (⟨p.1, p.2.f 0 63 32, 0x82, 0, 0, 0, p.2.f 0 17 17 == 1, false⟩ : Compl))).length

theorem State.ringStop_of_enabled {s : State} {r : Nat} (h : s.ringState r = 1) : s.ringStop r =
    (((s.ringStopped r).sor.waits.filter (fun w => w.ring == r)).foldl (fun (s : State) w => s.complete r w.idx 4 0 (s.sorus w.sorus).value.toNat)
      { s.ringStopped r with sor.waits := (s.ringStopped r).sor.waits.filter (fun w => w.ring != r) }) := by
  unfold State.ringStop
  dsimp only
  rw [if_pos (by simp [h]), State.ring_rset]
  rfl

theorem State.ringStopped_frame (s : State) (r : Nat) : (s.ringStopped r).mem = s.mem ∧ (s.ringStopped r).sor = s.sor ∧
    (s.ringStopped r).ring r = (s.ring r).stopped ∧ (s.ringStopped r).ringState r = 2 ∧ (s.ringStopped r).rget (Fd.RNG_CTL_ENABLE r) = 0 := by
  unfold State.ringStopped
  refine ⟨?_, ?_, ?_, ?_, ?_⟩
  · simp only [State.radd_frame, State.rset_frame, State.setRing_frame]
  · simp only [State.radd_frame, State.rset_frame, State.setRing_frame]
  · simp only [State.radd, State.ring_rset, State.ring_setRing_same]
  · simp only [State.ringState, State.radd]
    simp only [Fd.RNG_CTL_STATE, Fd.RNG_CNT_DONE, Fd.RNG_CNT_FAILED]
    simp [State.rget_rset_same, State.rget_rset_ne, -State.rget_setRing]
  · simp only [State.radd]
    simp only [Fd.RNG_CTL_ENABLE, Fd.RNG_CTL_STATE, Fd.RNG_CNT_DONE, Fd.RNG_CNT_FAILED]
    simp [State.rget_rset_same, State.rget_rset_ne, State.setRing_rget, -State.rget_setRing]

theorem exec_ringEnable_of_off {s : State} {r : Nat} (hoff : s.ringWriteOff r = none) (hst : s.ringState r = 0) :
    exec (.ringEnable r) s = .next ((s.rset (Fd.RNG_CTL_ENABLE r) 1).ringEnable r) := by
  show execRingEnable r s = _
  unfold execRingEnable
  rw [hoff]
  simp only [hst]

theorem exec_ringDisable_of_off {s : State} {r : Nat} (hoff : s.ringWriteOff r = none) : exec (.ringDisable r) s = .next (s.ringStop r) := by
  show execRingDisable r s = _
  unfold execRingDisable
  rw [hoff]

theorem exec_ringDisable_of_enabled {s : State} {r : Nat} (hoff : s.ringWriteOff r = none) (h : s.ringState r = 1) (hw : s.sor.waits = []) :
    ∃ u : State, exec (.ringDisable r) s = .next { u with sor.waits := u.sor.waits.filter (fun w => w.ring != r) } ∧ u.mem = s.mem ∧
      u.ring r = (s.ring r).stopped ∧ u.ringState r = 2 ∧ u.rget (Fd.RNG_CTL_ENABLE r) = 0 := by
  obtain ⟨hmem, hsor, hring, hstate, hen⟩ := State.ringStopped_frame s r
  have hnone : (s.ringStopped r).sor.waits.filter (fun w => w.ring == r) = [] := by rw [hsor, hw]; rfl
  exact ⟨s.ringStopped r, by rw [exec_ringDisable_of_off hoff, State.ringStop_of_enabled h, hnone, List.foldl_nil], hmem, hring, hstate, hen⟩

/-! ### Doorbells -/

/-- Writes of the host leave the registers. -/
theorem State.foldl_hostStore (image : List (Nat × List Byte)) (s : State) : let u := image.foldl (fun (s : State) p => s.hostStore p.1 p.2) s
    u.regs = s.regs ∧ u.part = s.part := by
  induction image generalizing s with
  | nil => exact ⟨rfl, rfl⟩
  | cons p l ih => exact ih (s.hostStore p.1 p.2)

theorem exec_sqTail_good {s : State} {r v : Nat} (image : List (Nat × List Byte)) (hr : r < 1024) (ht : s.twilight = false) (hst : s.ringState r = 1)
    (hnew : sub32 (v % 2 ^ 32) (s.rget (Fd.RNG_STAT_SQ_TAIL r)) < 2 ^ 31)
    (hroom : sub32 (v % 2 ^ 32) (s.rget (Fd.RNG_STAT_SQ_HEAD r)) ≤ s.ringN r) :
    exec (.sqTail r 4 v image) s = .next ((image.foldl (fun s p => s.hostStore p.1 p.2) s).rset (Fd.RNG_STAT_SQ_TAIL r) (v % 2 ^ 32)) := by
  show execSqTail r 4 v image s = _
  unfold execSqTail
  obtain ⟨hregs, hpart⟩ := State.foldl_hostStore image s
  generalize image.foldl (fun (s : State) p => s.hostStore p.1 p.2) s = u at hregs hpart
  have hget (f : Fd) : u.rget f = s.rget f := State.rget_congr hregs hpart f
  have hst' : u.ringState r = 1 := (hget _).trans hst
  have ht' : u.twilight = false := Eq.trans (congrArg (· == 1) (hget _)) ht
  have hn : u.ringN r = s.ringN r := congrArg (fun n => 2 ^ max 6 (min 16 n)) (hget _)
  dsimp only
  rw [(congrArg _ (decide_eq_true hst')).trans (State.doorbellOff_eq_none hr ht')]
  dsimp only
  rw [if_neg (by rw [hget]; exact Nat.not_le.mpr hnew), if_neg (by rw [hget, hn]; exact Nat.not_lt.mpr hroom)]

theorem exec_cqHead_good {s : State} {r v : Nat} (hr : r < 1024) (ht : s.twilight = false) (hst : s.ringState r ≠ 0)
    (hroom : sub32 (s.rget (Fd.RNG_CSTAT_CQ_TAIL r)) (v % 2 ^ 32) ≤ s.ringN r)
    (hnew : sub32 (v % 2 ^ 32) (s.rget (Fd.RNG_CSTAT_CQ_HEAD r)) < 2 ^ 31) :
    exec (.cqHead r 4 v) s = .next (s.rset (Fd.RNG_CSTAT_CQ_HEAD r) (v % 2 ^ 32)) := by
  rw [exec_cqHead]
  unfold execCqHead
  rw [(congrArg _ (decide_eq_true hst)).trans (State.doorbellOff_eq_none hr ht)]
  dsimp only
  rw [if_pos (by simp only [Bool.and_eq_true, decide_eq_true_eq]; exact ⟨hroom, hnew⟩)]

/-- Settles O24, command by command: each guard holds by the clause's hypotheses, and what is left reads the registers of the ring. -/
theorem ringControl : Obligations.RingControl := by
  refine ⟨⟨?_, ?_, ?_, ?_⟩, ?_, ?_⟩
  · intro s r hoff hst hok
    obtain ⟨hstate, hen, hhead, htail, hchead, hctail⟩ := State.ringEnable_regs hok
    obtain ⟨hfetched, hdone⟩ := State.ringEnable_ring hok
    refine ⟨_, exec_ringEnable_of_off hoff hst, hstate, hen.trans ?_, hhead, htail, hchead, hctail, hfetched, hdone, (State.ringEnable_mem hok).trans ?_⟩
    · simp [State.rget_rset_same, Fd.RNG_CTL_ENABLE]
    · simp only [State.rset_frame]
  · intro s r hoff hst hok
    obtain ⟨hstate, herr, hrng⟩ := State.ringEnable_refused hok
    refine ⟨_, exec_ringEnable_of_off hoff hst, hstate.trans (Eq.trans ?_ hst), herr, hrng.trans ?_⟩
    · simp only [State.ringState]
      simp only [Fd.RNG_CTL_STATE, Fd.RNG_CTL_ENABLE]
      simp [State.rget_rset_ne]
    · simp only [State.rset_frame]
  · intro s r hoff hst hw
    obtain ⟨u, hexec, hmem, hring, hstate, hen⟩ := exec_ringDisable_of_enabled hoff hst hw
    have hring' : State.ring { u with sor.waits := u.sor.waits.filter (fun w => w.ring != r) } r = (s.ring r).stopped := hring
    refine ⟨_, hexec, ?_⟩
    rw [hring']
    exact ⟨hstate, hen, rfl, rfl, rfl, hmem⟩
  · intro s r hst hstarted hdone hpend
    refine ⟨_, ?_, rfl⟩
    show execRingDisableDone r s = _
    have hpend' : (s.rset (Fd.RNG_CTL_STATE r) 0).rget (Fd.RNG_CTL_PEND r) = 0 := by
      simp only [Fd.RNG_CTL_STATE, Fd.RNG_CTL_PEND] at hpend ⊢
      simp [State.rget_rset_ne, hpend]
    unfold execRingDisableDone
    dsimp only
    rw [if_pos (by simp [hst, hstarted, hdone]), if_neg (by rw [hpend']; decide)]
  · intro s r v image hr ht hst hnew hroom
    exact ⟨_, exec_sqTail_good image hr ht hst hnew hroom, rfl⟩
  · intro s r v hr ht hst hroom hnew
    exact ⟨_, exec_cqHead_good hr ht hst hroom hnew, rfl⟩

end Sys2Proof.Machine
end

section
/-!
PROOFS. Completion entries and completion interrupts (R343–R347).
-/

namespace Sys2Proof.Machine

set_option Elab.async false

/-! ### Completion entries -/

theorem State.atsFill_mem (s : State) (addr n : Nat) : (s.atsFill addr n).mem = s.mem := by simp

/-- Storing an entry writes its 32 bytes of host memory and nothing else of the memories. -/
theorem State.entryStored_mem (s : State) (r addr : Nat) (c : Compl) (rest : List Compl) : ∃ m, (s.entryStored r addr c rest).mem = { s.mem with host := m } ∧
    ∀ a, (a < addr ∨ addr + 32 ≤ a) → memGet m a = memGet s.mem.host a := by
  refine ⟨memPutN s.mem.host addr (c.bytes (s.rget (Fd.RNG_CSTAT_CQ_TAIL r)) (s.ringLog r) s.clock), ?_, fun a ha => ?_⟩
  · rw [State.entryStored, State.dmaResume_mem, State.hostStore, State.atsFill_mem]
    rfl
  · exact memGet_memPutN_outside _ _ _ (by rw [Compl.bytes_length]; exact ha)

/-- A success that no entry is asked for leaves the list of its ring's completions (R345). -/
theorem exec_completionWrite_silent {s : State} {r : Nat} {c : Compl} {rest : List Compl} (hd : (s.ring r).done = c :: rest) (hs : c.status = 0)
    (hc : c.cmpl = false) : exec (.completionWrite r) s = .next ((s.modRing r (fun q => { q with done := rest })).dmaResume r c.idx) := by
  rw [exec_completionWrite, execCompletionWrite, hd]
  dsimp only
  rw [if_pos (by simp [hs, hc])]

/-- A ring's timer raises its vector once the time it was set to is over (R347). -/
theorem exec_ringIrqTimer_due {s : State} {r c : Nat} (hp : (s.ring r).pendAt = some c) (hen : s.rget (Fd.RNG_IRQ_IRQ_EN r) = 1)
    (ht : 25 * s.rget (Fd.RNG_IRQ_TIME_US r) ≤ s.clock - c) : exec (.ringIrqTimer r) s = .next (s.ringIrq r) := by
  show execRingIrqTimer r s = _
  unfold execRingIrqTimer
  rw [hp]
  dsimp only
  rw [if_pos (by simp [hen, ht])]

/-- Settles O26: an entry stored and counted, a success without one, and the timer. -/
theorem completionWrite : Obligations.CompletionWrite := by
  refine ⟨?_, ?_, ?_⟩
  · intro s r c rest tail addr hd hc hup hroom hok
    obtain ⟨htail, hmem, hdone⟩ := (s.entryStored r addr c rest).entryWritten_spec r c.irq
    obtain ⟨m, hm, hout⟩ := s.entryStored_mem r addr c rest
    refine ⟨_, exec_completionWrite_room hd hc hup hroom rfl hok, hdone.trans (s.entryStored_done r addr c rest), ?_, fun i hi => ?_, fun a ha => ?_, ?_, ?_, ?_⟩
    · rw [htail, State.entryStored_cqTail]
    · rw [hmem, State.entryStored_byte s r addr c rest hi]
    · rw [hmem, hm]
      exact hout a ha
    all_goals rw [hmem, hm]
  · intro s r c rest hd hs hc
    have hne : ∀ f k, k < 16 → (Fd.RNG_CSTAT_CQ_TAIL r).off ≠ (Fd.FRD_DMA_STAT_HALTED f k).off := by
      intro f k hk
      simp only [Fd.RNG_CSTAT_CQ_TAIL, Fd.FRD_DMA_STAT_HALTED]
      omega
    refine ⟨_, exec_completionWrite_silent hd hs hc, ?_, ?_, ?_⟩
    · rw [State.ring_dmaResume, State.ring_modRing_same]
    · rw [State.dmaResume_mem]
      simp only [State.modRing_frame]
    · rw [State.rget_dmaResume _ _ _ hne, State.rget_modRing]
  · intro s r c hp hen ht hup hmask
    have hmsi : s.msi (s.rget (Fd.RNG_IRQ_VECTOR r)) = { s with hpt.sent := s.rget (Fd.RNG_IRQ_VECTOR r) :: s.hpt.sent } := if_neg (by simp [hmask, hup])
    obtain ⟨hregs, -, hmem, -⟩ := s.ringIrq_frame r
    refine ⟨_, exec_ringIrqTimer_due hp hen ht, ?_, ?_, ?_, hregs, hmem⟩
    all_goals rw [State.ringIrq, hmsi]
    · rfl
    all_goals rw [State.ring_modRing_same]

end Sys2Proof.Machine
end

section
/-!
PROOFS. Fetching and starting descriptors (R333, R334, R351).
-/

namespace Sys2Proof.Machine

set_option Elab.async false

/-! ### Fetching descriptors -/

/-- The state in which the processor's next ring in turn is the one after `r` (R333). -/
def State.cpTurned (s : State) (cp r : Nat) : State := { s with hpt.cpPtr := spPut (fun _ => 0) s.hpt.cpPtr cp ((r + 1) % 1024) }

theorem State.rget_cpTurned (s : State) (cp r : Nat) (f : Fd) : (s.cpTurned cp r).rget f = s.rget f := rfl
theorem State.ring_cpTurned (s : State) (cp r : Nat) (q : Nat) : (s.cpTurned cp r).ring q = s.ring q := rfl
theorem State.hostRead_cpTurned (s : State) (cp r addr len : Nat) : (s.cpTurned cp r).hostRead addr len = s.hostRead addr len := rfl

/-- A read of host memory at `addr`, after which the ring's head is `v`. -/
def State.fetchRead (s : State) (r addr len v : Nat) : State := (s.atsFill addr len).rset (Fd.RNG_STAT_SQ_HEAD r) v

theorem State.ring_fetchRead (s : State) (r addr len v q : Nat) : (s.fetchRead r addr len v).ring q = s.ring q :=
  State.ring_congr (by simp [State.fetchRead]) q

theorem State.rword_fetchRead (s : State) (r addr len v : Nat) {off : Nat} (h : off ≠ (Fd.RNG_STAT_SQ_HEAD r).off) :
    (s.fetchRead r addr len v).rword off = s.rword off :=
  (State.rword_rset_ne _ _ _ h).trans (rfl)

theorem State.rword_modRing (s : State) (r : Nat) (g : Ring → Ring) (off : Nat) : (s.modRing r g).rword off = s.rword off := (rfl)

/-- The `n` descriptors in `l`, numbered from `head` in the epoch `ep`. -/
def descriptorsIn (ep head n : Nat) (l : List Byte) : List (Nat × Desc) :=
  (List.range n).map (fun i => (ep * 2 ^ 32 + (head + i) % 2 ^ 32, Desc.ofBytes (slice l (64 * i) 64)))

/-- What a fetch of `len` bytes at `addr` leaves: the head at `v`, and `n` descriptors of the epoch `ep` at the end of the list. -/
def State.fetchFrom (s : State) (r addr len v ep head n : Nat) : State :=
  match s.hostRead addr len with
  | .error e => ((s.countHostFail e).hostFault e (s.ringCtx r)).ringHalt r 0x0804 (s.ringLoc r)
  | .ok l => (s.fetchRead r addr len v).modRing r (fun q =>
      { q with fetched := q.fetched ++ (List.range n).map (fun i => (ep * 2 ^ 32 + (head + i) % 2 ^ 32, Desc.ofBytes (slice l (64 * i) 64))) })

theorem exec_descriptorFetch_next {s : State} {cp r : Nat} {head n addr : Nat}
    (hup : s.hostUp = true) (hnext : s.nextRing cp = some r) (hhead : s.rget (Fd.RNG_STAT_SQ_HEAD r) = head)
    (hn : min 8 (min (sub32 (s.rget (Fd.RNG_STAT_SQ_TAIL r)) head) (s.ringN r - head % s.ringN r)) = n)
    (haddr : s.rget (Fd.RNG_SQ_BASE_BASE r) * 4096 + (head % s.ringN r) * 64 = addr) :
    exec (.descriptorFetch cp) s = .next ((s.cpTurned cp r).fetchFrom r addr (64 * n) ((head + n) % 2 ^ 32) (s.ring r).epoch head n) := by
  have hN : (s.cpTurned cp r).ringN r = s.ringN r := congrArg (fun n => 2 ^ max 6 (min 16 n)) (s.rget_cpTurned cp r _)
  have key (head' n' addr' : Nat) (hhead' : head' = head) (hn' : n' = n) (haddr' : addr' = addr) :
      (Host.Outcome.next ((s.cpTurned cp r).fetchFrom r addr' (64 * n') ((head' + n') % 2 ^ 32)
        (((s.cpTurned cp r).fetchRead r addr' (64 * n') ((head' + n') % 2 ^ 32)).ring r).epoch head' n') : Out) =
        .next ((s.cpTurned cp r).fetchFrom r addr (64 * n) ((head + n) % 2 ^ 32) (s.ring r).epoch head n) := by
    rw [hhead', hn', haddr', State.ring_fetchRead, State.ring_cpTurned]
  replace key := key ((s.cpTurned cp r).rget (Fd.RNG_STAT_SQ_HEAD r))
    (min 8 (min (sub32 ((s.cpTurned cp r).rget (Fd.RNG_STAT_SQ_TAIL r)) ((s.cpTurned cp r).rget (Fd.RNG_STAT_SQ_HEAD r)))
      ((s.cpTurned cp r).ringN r - (s.cpTurned cp r).rget (Fd.RNG_STAT_SQ_HEAD r) % (s.cpTurned cp r).ringN r)))
    ((s.cpTurned cp r).rget (Fd.RNG_SQ_BASE_BASE r) * 4096 +
      ((s.cpTurned cp r).rget (Fd.RNG_STAT_SQ_HEAD r) % (s.cpTurned cp r).ringN r) * 64)
    (by rw [State.rget_cpTurned, hhead]) (by rw [State.rget_cpTurned, State.rget_cpTurned, hN, hhead, hn])
    (by rw [State.rget_cpTurned, State.rget_cpTurned, hN, hhead, haddr])
  clear hN hhead hn haddr
  generalize (s.cpTurned cp r).fetchFrom r addr (64 * n) ((head + n) % 2 ^ 32) (s.ring r).epoch head n = v at key ⊢
  rw [State.fetchFrom.eq_def, State.fetchRead.eq_def, State.cpTurned.eq_def] at key
  show execDescriptorFetch cp s = _
  unfold execDescriptorFetch
  rw [if_neg (by simp [hup])]
  -- The kernel is not to compute these numbers while it compares the branches.
  generalize State.hostRead = hr, sub32 = sub, (HMod.hMod : Nat → Nat → Nat) = md, (min : Nat → Nat → Nat) = mn at key ⊢
  rw [hnext]
  as_aux_lemma => exact key

/-- A fetch that reads appends the descriptors to the ring's, moves its head and leaves the rest. -/
theorem State.fetchFrom_of_read {s : State} {r addr len v : Nat} {l : List Byte} (hread : s.hostRead addr len = .ok l)
    (hv : v < 2 ^ 32) (ep head n : Nat) :
    (s.fetchFrom r addr len v ep head n).rget (Fd.RNG_STAT_SQ_HEAD r) = v ∧
    ((s.fetchFrom r addr len v ep head n).ring r).fetched = (s.ring r).fetched ++ descriptorsIn ep head n l ∧
    ((s.fetchFrom r addr len v ep head n).ring r).started = (s.ring r).started ∧
    s.SameRegs (s.fetchFrom r addr len v ep head n) (· = (Fd.RNG_STAT_SQ_HEAD r).off) ∧ (s.fetchFrom r addr len v ep head n).mem = s.mem := by
  have h : s.fetchFrom r addr len v ep head n = (s.fetchRead r addr len v).modRing r
      (fun q => { q with fetched := q.fetched ++ descriptorsIn ep head n l }) := by
    rw [State.fetchFrom, hread, descriptorsIn]
  rw [h, State.ring_modRing_same, State.ring_fetchRead]
  refine ⟨?_, rfl, rfl, fun off hoff => ?_, ?_⟩
  · rw [State.modRing_rget, State.fetchRead, State.rget_rset_same _ _ _ (by simp [Fd.RNG_STAT_SQ_HEAD]) (by simp [Fd.RNG_STAT_SQ_HEAD])]
    exact Nat.mod_eq_of_lt hv
  · rw [State.rword_modRing]
    exact s.rword_fetchRead r addr len v hoff
  · simp only [State.modRing_frame, State.fetchRead, State.rset_frame, State.atsFill_mem]

/-! ### Starting descriptors -/

/-- The state after the oldest fetched descriptor of a ring, `d` at index `i`, joins the started ones (R334). -/
def State.begun (s : State) (r i : Nat) (d : Desc) (rest : List (Nat × Desc)) : State :=
  s.setRing r { s.ring r with fetched := rest, started := (s.ring r).started ++ [⟨i, d, false, 0, 0, 0, 0, s.schedMask⟩] }

/-- What becomes of the descriptor just begun: it is refused as malformed or for its class, or takes effect. -/
def State.judged (s u : State) (r i : Nat) (d : Desc) : State :=
  if !d.wellFormed then (u.raise (recErr 0x0801 (s.ringLoc r) (s.ringCtx r))).complete r i 0x81 0x0801 0
  else if d.cls = 7 && s.rget (Fd.RNG_CTL_PRIV r) = 0 then (u.raise (recErr 0x0806 (s.ringLoc r) (s.ringCtx r))).complete r i 0x80 0x0806 0
  else if s.accepts d then u.startEffect r i d else s

theorem exec_descriptorStart_judged {s : State} {r i : Nat} {d : Desc} {rest : List (Nat × Desc)} (hf : (s.ring r).fetched = (i, d) :: rest)
    (hst : s.ringState r = 1) (hfence : (s.ring r).fenced = false) (hafter : d.f 0 18 18 = 0 ∨ (s.ring r).started = [])
    (hbarrier : d.cls ≠ 0 ∨ d.op ≠ 1 ∨ (s.ring r).started = [])
    (hroom : (s.ring r).started.length + (s.ring r).done.length + sub32 (s.rget (Fd.RNG_CSTAT_CQ_TAIL r)) (s.rget (Fd.RNG_CSTAT_CQ_HEAD r)) < s.ringN r)
    (hlen : (s.ring r).started.length < 64) (hload : s.cpLoad (s.rget (Fd.RNG_CTL_CP r)) < 4096) (hrm : s.rget Fd.HUB_CONN_STAT_RM_PHASE = 0) :
    exec (.descriptorStart r) s = .next (s.judged (s.begun r i d rest) r i d) := by
  have hno : s.removalRefuses d = false := by simp [State.removalRefuses, hrm]
  have horder : ((d.f 0 18 18 == 1 || (d.cls == 0 && d.op == 1)) && !(s.ring r).started.isEmpty) = false := by
    rcases (s.ring r).started.eq_nil_or_concat with he | ⟨l, x, he⟩
    · simp [he]
    · have hne : (s.ring r).started ≠ [] := by simp [he]
      have h0 : d.f 0 18 18 = 0 := hafter.resolve_right hne
      have h1 : d.cls ≠ 0 ∨ d.op ≠ 1 := by
        rcases hbarrier with h | h | h
        · exact .inl h
        · exact .inr h
        · exact absurd h hne
      rcases h1 with h | h <;> simp [h0, h]
  show execDescriptorStart r s = _
  unfold execDescriptorStart
  generalize sub32 = sub at hroom ⊢
  as_aux_lemma =>
    dsimp only
    rw [hf]
    dsimp only
    rw [if_neg (by simp only [hst, hfence, horder]; simp; omega), hno, if_neg Bool.false_ne_true, State.judged, State.begun]

/-- The descriptor just begun is among the started ones. -/
theorem State.find_begun (s : State) (r i : Nat) (d : Desc) (rest : List (Nat × Desc)) : ∃ st, ((s.begun r i d rest).ring r).find i = some st := by
  rw [State.begun, State.ring_setRing_same]
  refine Option.isSome_iff_exists.mp (List.find?_isSome.mpr ⟨⟨i, d, false, 0, 0, 0, 0, s.schedMask⟩, ?_, by simp⟩)
  exact List.mem_append_right _ (List.mem_singleton_self _)

/-- A completion with a record first completes the descriptor. -/
theorem State.raise_complete_completes {s : State} {r i : Nat} {st : Started} (h : (s.ring r).find i = some st) (a : RecArg) (status reason result : Nat) :
    s.Completes ((s.raise a).complete r i status reason result) r i status reason result := by
  have hrng : (s.raise a).rng = s.rng := (s.raise_same a).rng
  refine State.Completes.of_rng hrng (State.complete_completes _ (st := st) ?_ _ _ _)
  rw [State.ring_congr hrng]
  exact h

/-- An unload marks the images it names as being unloaded (R351). -/
theorem State.startEffect_unload (s : State) {r i : Nat} {d : Desc} (hc : d.cls = 1) (ho : d.op = 2) {m : Image}
    (hm : m ∈ (s.startEffect r i d).hpt.images) (hh : m.handle = d.f 1 7 0) (ha : m.asid = s.ringAsid r) : m.unload.isSome = true := by
  rw [State.startEffect, if_pos (by simp [hc, ho])] at hm
  obtain ⟨m', -, rfl⟩ := List.mem_map.mp hm
  split
  · rfl
  · rename_i hn
    rw [if_neg hn] at hh ha
    simpa [hh, ha, Option.isNone_iff_eq_none, Option.isSome_iff_ne_none] using hn

/-- Settles O25: the fetch of a ring's descriptors, the start of the oldest one, and what an unload's start marks. -/
theorem descriptorFlow : Obligations.DescriptorFlow := by
  refine ⟨?_, ?_, ?_⟩
  · intro s cp r l head n hup hnext hread
    have hlt : (head + n) % 2 ^ 32 < 2 ^ 32 := Nat.mod_lt _ (Nat.two_pow_pos 32)
    exact ⟨_, exec_descriptorFetch_next hup hnext rfl rfl rfl, State.fetchFrom_of_read ((s.hostRead_cpTurned cp r _ _).trans hread) hlt _ _ _⟩
  · intro s r i d rest free u hf hst hfence hafter hbarrier hroom hlen hload hrm
    obtain ⟨st, hfind⟩ := s.find_begun r i d rest
    refine ⟨_, exec_descriptorStart_judged hf hst hfence hafter hbarrier hroom hlen hload hrm, fun hwf hpriv hacc => ?_, fun hwf hcls hpriv => ?_, fun hwf => ?_⟩
    · rw [State.judged, if_neg (by simp [hwf]), if_neg (by simp; intro h; simp [hpriv h]), if_pos hacc]
      rfl
    · rw [State.judged, if_neg (by simp [hwf]), if_pos (by simp [hcls, hpriv])]
      exact State.raise_complete_completes hfind _ _ _ _
    · rw [State.judged, if_pos (by simp [hwf])]
      exact State.raise_complete_completes hfind _ _ _ _
  · intro s r i d
    exact ⟨fun h => if_neg (by simpa using h), fun hc ho m hm hh ha => s.startEffect_unload hc ho hm hh ha⟩

end Sys2Proof.Machine
end

section
/-!
PROOFS. Pools (R361–R363).
-/

namespace Sys2Proof.Machine

set_option Elab.async false

/-! ### Pools -/

/-- A started operation completes as it is told to, whatever was done before that left the rings alone. -/
theorem State.opOf_completes {s v : State} {r i cls op : Nat} {d : Desc} (hop : s.opOf r i cls op = some d) (hrng : v.rng = s.rng)
    (status reason result : Nat) : s.Completes (v.complete r i status reason result) r i status reason result := by
  obtain ⟨st, hst, -⟩ := State.opOf_find hop
  refine State.Completes.of_rng hrng (v.complete_completes (st := st) ?_ status reason result)
  rw [State.ring_congr hrng]
  exact hst

theorem State.rng_of_corps {s t : State} (h : t.corps = s.corps) : t.rng = s.rng := congrArg (fun x => x.2.2.2.2.2.1) h

theorem State.pool_complete (s : State) (r i status reason result k : Nat) : (s.complete r i status reason result).pool k = s.pool k := by
  simp only [State.pool, State.complete_frame]

/-- A pool is created on a mapped arena of its tenant, once its free stack is written (R361, R362). -/
theorem exec_poolCreate_ok {s u : State} {r i root : Nat} {d : Desc} {n free : Nat} (hn : d.f 3 23 0 = n) (hfree : n - ceilDiv (n * 4) 65536 = free)
    (hop : s.opOf r i 7 2 = some d) (hup : s.sesUp = true) (hp : (s.pool (d.f 1 5 0)).valid = false)
    (hen : s.rget (Fd.FRD_ASPACE_BASE_EN 0) = 1)
    (hasp : s.aspRead (s.rget (Fd.FRD_ASPACE_BASE_BASE 0)) (d.f 1 27 16) = .ok (some (root, d.f 1 37 28)))
    (hmap : s.arenaMapped (d.f 1 27 16) (d.f 1 37 28) (d.f 2 47 0) n = true)
    (hw : s.vwrite none 0 (d.f 1 27 16) (d.f 1 37 28) (d.f 2 47 0) ((List.range free).flatMap (fun j => leBytes 4 (n - 1 - j))) = (u, none))
    (hu : u.waited = false) :
    exec (.poolCreate r i) s = .next ((u.setPool (d.f 1 5 0) ⟨true, d.f 1 37 28, d.f 1 27 16, d.f 2 47 0, n, free⟩).complete r i 0 0 0) := by
  refine congrArg Host.Outcome.next (State.attempt_eq ?_ (by simpa using hu))
  subst hn hfree
  rw [hop]
  dsimp only
  rw [if_neg (by simp [hup]), if_neg (by simp [hp]), hasp]
  dsimp only
  rw [if_neg (by simp [hen, hmap]), hw]

/-- A pool that no slot uses but free and parked ones is destroyed (R363). -/
theorem exec_poolDestroy_ok {s : State} {r i : Nat} {d : Desc} (hop : s.opOf r i 7 3 = some d) (hup : s.sesUp = true) (hw : s.waited = false)
    (hp : (s.pool (d.f 1 5 0)).valid = true) (hs : ∀ p ∈ s.ses.slots, p.2.pool = d.f 1 5 0 → p.2.st = .free ∨ p.2.st = .parked) :
    exec (.poolDestroy r i) s = .next ((s.setPool (d.f 1 5 0) .init).complete r i 0 0 0) := by
  have hused : s.ses.slots.any (fun p => p.2.pool == d.f 1 5 0 && p.2.st != .free && p.2.st != .parked) = false := by
    refine List.any_eq_false.mpr fun p hm => ?_
    by_cases hk : p.2.pool = d.f 1 5 0
    · rcases hs p hm hk with h | h <;> simp [h]
    · simp [hk]
  refine congrArg Host.Outcome.next (State.attempt_eq ?_ (by simpa using hw))
  rw [hop]
  dsimp only
  rw [if_neg (by simp [hup]), if_neg (by simp [hp, hused])]

/-- Settles O30: a pool created on its arena, and one destroyed that no slot uses. -/
theorem poolOperations : Obligations.PoolOperations := by
  refine ⟨?_, ?_⟩
  · intro s u r i root d n free hop hup hp hen hasp hmap hw hu
    have hrng : u.rng = s.rng := State.rng_of_corps (congrArg (fun p => State.corps p.1) hw ▸ s.vwrite_corps none 0 _ _ _ _)
    refine ⟨_, exec_poolCreate_ok rfl rfl hop hup hp hen hasp hmap hw hu, ?_, ?_, State.opOf_completes hop ?_ 0 0 0⟩
    · rw [State.pool_complete, State.pool_setPool_same]
    · simp only [State.complete_frame, State.setPool_frame]
    · simpa only [State.setPool_frame] using hrng
  · intro s r i d hop hup hw hp hs
    refine ⟨_, exec_poolDestroy_ok hop hup hw hp hs, ?_, fun k hk => ?_, State.opOf_completes hop ?_ 0 0 0, ?_⟩
    · rw [State.pool_complete, State.pool_setPool_same]
    · rw [State.pool_complete, State.pool_setPool_ne _ _ _ _ hk]
    · simp only [State.setPool_frame]
    · simp only [State.complete_frame, State.setPool_frame]

end Sys2Proof.Machine
end

section
/-!
PROOFS. Signals applied and waits satisfied (R393–R401).
-/

namespace Sys2Proof.Machine

set_option Elab.async false

/-! ### A signal at its bank (R393, R394) -/

/-- A wait entry after the waits on sorus `n` are compared with VALUE `v`. -/
def DWait.compared (n v : Nat) (w : DWait) : DWait := if w.sorus = n && w.thr ≤ v then { w with sat := true } else w

/-- A watch entry after the waits on sorus `n` are compared with VALUE `v`. -/
def WatchE.compared (n v : Nat) (w : WatchE) : WatchE := if w.sorus = n && w.thr ≤ v then { w with sat := true } else w

theorem DWait.sat_of_compared {n v : Nat} {w : DWait} {l : List DWait} (hm : w ∈ l.map (DWait.compared n v)) (hs : w.sorus = n) (ht : w.thr ≤ v) : w.sat = true := by
  obtain ⟨w', -, rfl⟩ := List.mem_map.mp hm
  unfold DWait.compared at hs ht ⊢
  split
  · rfl
  · rename_i h
    rw [if_neg h] at hs ht
    exact absurd (by simp [hs, ht]) h

theorem WatchE.sat_of_compared {n v : Nat} {w : WatchE} {l : List WatchE} (hm : w ∈ l.map (WatchE.compared n v)) (hs : w.sorus = n) (ht : w.thr ≤ v) : w.sat = true := by
  obtain ⟨w', -, rfl⟩ := List.mem_map.mp hm
  unfold WatchE.compared at hs ht ⊢
  split
  · rfl
  · rename_i h
    rw [if_neg h] at hs ht
    exact absurd (by simp [hs, ht]) h

theorem State.fr_modFr_same (s : State) (f : Nat) (g : Frond → Frond) : (s.modFr f g).fr f = g (s.fr f) := spGet_spPut_same _ _ _ _
theorem State.fr_modFr_ne (s : State) {f i : Nat} (g : Frond → Frond) (h : i ≠ f) : (s.modFr f g).fr i = s.fr i := spGet_spPut_ne _ _ _ h

/-- The watch list of each Frond that a step over `l` reaches becomes `c`'s image, as long as no Frond is reached twice. -/
theorem State.foldl_watch (c : WatchE → WatchE) (l : List Nat) (hn : l.Nodup) (s : State) (f : Nat) :
    ((l.foldl (fun s f => s.modFr f (fun q => { q with watch := q.watch.map c })) s).fr f).watch =
      if f ∈ l then (s.fr f).watch.map c else (s.fr f).watch := by
  induction l generalizing s with
  | nil => simp
  | cons a l ih =>
    obtain ⟨ha, hn⟩ := List.nodup_cons.mp hn
    rw [List.foldl_cons, ih hn]
    by_cases hf : f = a
    · subst hf
      rw [if_neg ha, if_pos List.mem_cons_self, State.fr_modFr_same]
    · rw [State.fr_modFr_ne _ _ hf]
      simp [hf]

/-- What the comparison of the waits on a sorus leaves. -/
theorem State.sorEval_spec (s : State) (n : Nat) :
    (s.sorEval n).sor = { s.sor with waits := s.sor.waits.map (DWait.compared n (s.sorus n).value.toNat) } ∧
    ∀ f, f < s.fronds → ((s.sorEval n).fr f).watch = (s.fr f).watch.map (WatchE.compared n (s.sorus n).value.toNat) := by
  refine ⟨?_, fun f hf => ?_⟩
  · exact foldl_keeps (p := fun u : State => u.sor = { s.sor with waits := s.sor.waits.map (DWait.compared n (s.sorus n).value.toNat) }) _
      (fun u f hu => by simpa only [State.modFr_frame] using hu) _ rfl
  · refine (State.foldl_watch (WatchE.compared n (s.sorus n).value.toNat) (List.range s.fronds) List.nodup_range _ f).trans ?_
    exact if_pos (List.mem_range.mpr hf)

/-- Storing VALUE writes the one sorus. -/
theorem State.sorWrite_sor (s : State) (n : Nat) (v : W64) :
    ∃ q, q.value = v ∧ (s.sorWrite n v).sor = { s.sor with sori := spPut (fun _ => Sorus.init) s.sor.sori n q } := by
  unfold State.sorWrite
  dsimp only
  split
  · exact ⟨_, rfl, by rw [(State.injDone_sor_flt _).1, (State.noteInj_sor_flt _ _ _).1]; rfl⟩
  · exact ⟨_, rfl, rfl⟩

/-- A signal added to a sorus: its VALUE saturates, the other sori, the signals queued and the turns stay, and every wait reached is satisfied. -/
structure State.Signalled (s t : State) (n amount : Nat) : Prop where
  value : (t.sorus n).value.toNat = min ((s.sorus n).value.toNat + amount) (2 ^ 64 - 1)
  other : ∀ m, m ≠ n → t.sorus m = s.sorus m
  queue : t.sor.queue = s.sor.queue
  ptr : t.sor.ptr = s.sor.ptr
  waits : ∀ w ∈ t.sor.waits, w.sorus = n → w.thr ≤ (t.sorus n).value.toNat → w.sat = true
  watch : ∀ f w, f < s.fronds → w ∈ (t.fr f).watch → w.sorus = n → w.thr ≤ (t.sorus n).value.toNat → w.sat = true

theorem State.sorWrite_sorEval (s : State) (n : Nat) (v : W64) (amount : Nat) (hv : v.toNat = min ((s.sorus n).value.toNat + amount) (2 ^ 64 - 1)) :
    s.Signalled ((s.sorWrite n v).sorEval n) n amount := by
  obtain ⟨q, hq, hsor⟩ := s.sorWrite_sor n v
  obtain ⟨heval, hwatch⟩ := (s.sorWrite n v).sorEval_spec n
  have hsori : ((s.sorWrite n v).sorEval n).sor.sori = spPut (fun _ => Sorus.init) s.sor.sori n q := by rw [heval, hsor]
  have hval : ((s.sorWrite n v).sorus n).value = v := by rw [State.sorus, hsor, spGet_spPut_same, hq]
  have hval' : (((s.sorWrite n v).sorEval n).sorus n).value = v := by rw [State.sorus, hsori, spGet_spPut_same, hq]
  refine ⟨by rw [hval', hv], fun m hm => ?_, by rw [heval, hsor], by rw [heval, hsor], fun w hw hs ht => ?_, fun f w hf hw hs ht => ?_⟩
  · rw [State.sorus, hsori, spGet_spPut_ne _ _ _ hm, State.sorus]
  · rw [heval] at hw
    rw [hval', ← hval] at ht
    exact DWait.sat_of_compared hw hs ht
  · have hpart : (s.sorWrite n v).fronds = s.fronds := by
      unfold State.fronds
      rw [((State.Keeps.refl (c := true) s).sorWrite).part]
    rw [hwatch f (hpart ▸ hf)] at hw
    rw [hval', ← hval] at ht
    exact WatchE.sat_of_compared hw hs ht

/-- A sum that does not fit records the saturation first (R394). -/
theorem State.sorAdd_signalled (s : State) (n amount : Nat) : s.Signalled (s.sorAdd n amount) n amount := by
  have hto : (BitVec.ofNat 64 (min ((s.sorus n).value.toNat + amount) (2 ^ 64 - 1))).toNat = min ((s.sorus n).value.toNat + amount) (2 ^ 64 - 1) := by
    rw [BitVec.toNat_ofNat]
    exact Nat.mod_eq_of_lt (by omega)
  unfold State.sorAdd
  dsimp only
  by_cases h : (s.sorus n).value.toNat + amount ≥ 2 ^ 64
  · rw [if_pos h]
    have hsame := s.raise_same (recNote 0x0A07 (sorLoc n))
    have hsor : ((s.raise (recNote 0x0A07 (sorLoc n))).radd Fd.SOR_ERR_STAT_SATURATED 1).sor = s.sor := by simpa only [State.radd_frame] using hsame.sor
    have hsorus (m : Nat) : ((s.raise (recNote 0x0A07 (sorLoc n))).radd Fd.SOR_ERR_STAT_SATURATED 1).sorus m = s.sorus m :=
      State.sorus_congr (by rw [hsor]) m
    obtain ⟨hv, ho, hq, hp, hw, hwatch⟩ := ((s.raise (recNote 0x0A07 (sorLoc n))).radd Fd.SOR_ERR_STAT_SATURATED 1).sorWrite_sorEval n _ amount
      (hto.trans (by rw [hsorus]))
    rw [hsorus] at hv
    rw [hsor] at hq hp
    refine ⟨hv, fun m hm => (ho m hm).trans (hsorus m), hq, hp, hw, fun f w hf => hwatch f w ?_⟩
    unfold State.fronds at hf ⊢
    simpa only [State.radd_frame, hsame.part] using hf
  · rw [if_neg h]
    exact s.sorWrite_sorEval n _ amount hto

theorem State.sorCheckErr_of_ok {s : State} {n : Nat} (h : s.SorusOk n) : s.sorCheckErr n = s := by
  obtain ⟨-, hv, ht, hb⟩ := h
  unfold State.sorCheckErr
  dsimp only
  exact if_neg (by simp [hv, ht, hb])

/-- A signal that a sound sorus does not refuse is added. -/
theorem State.sorSignal_of_ok {s : State} {n amount tenant : Nat} {remote : Bool} (h : s.SorusOk n) (ha : s.sorRefuse n tenant remote = none) :
    s.sorSignal n amount tenant remote = (s.sorAdd n amount, none) := by
  unfold State.sorSignal
  rw [State.sorCheckErr_of_ok h]
  dsimp only
  rw [ha]

theorem State.sorRefuse_of_ok {s : State} {n tenant : Nat} (h : s.SorusOk n) (ht : (s.sorus n).tenant = tenant) : s.sorRefuse n tenant false = none := by
  unfold State.sorRefuse
  simp [h.1, ht]

/-- A signal that a sound sorus takes was not refused. -/
theorem State.sorRefuse_of_signal {s u : State} {n amount tenant : Nat} {remote : Bool} (h : s.SorusOk n) (hs : s.sorSignal n amount tenant remote = (u, none)) :
    u = s.sorAdd n amount := by
  cases ha : s.sorRefuse n tenant remote with
  | none => exact (congrArg Prod.fst (hs.symm.trans (State.sorSignal_of_ok h ha)))
  | some e =>
    unfold State.sorSignal at hs
    rw [State.sorCheckErr_of_ok h] at hs
    dsimp only at hs
    rw [ha] at hs
    exact absurd (congrArg Prod.snd hs) (by simp)

/-- The state with a signal taken off the queue and its bank's turn behind its input. -/
def State.sorTurned (s : State) (bank p : Nat) (u : SUpd) : State :=
  { s with sor.queue := s.sor.queue.erase u, sor.ptr := spPut (fun _ => 0) s.sor.ptr bank ((p + 1) % 26) }

/-- A thread's signal that is not refused is added. -/
theorem State.applyUpd_thread {s : State} {u : SUpd} {f k h : Nat} (hsrc : u.src = .thread f k h) (hok : s.SorusOk u.sorus)
    (ht : (s.sorus u.sorus).tenant = u.tenant) : s.applyUpd u = s.sorAdd u.sorus u.n := by
  unfold State.applyUpd
  rw [hsrc]
  dsimp only
  rw [State.sorSignal_of_ok hok (State.sorRefuse_of_ok hok ht)]

/-- The first input after the last one served that has a signal for the bank (R393). -/
theorem exec_sorusUpdateApply_thread {s : State} {bank p : Nat} {u : SUpd} {f k h : Nat}
    (hp : ((List.range 26).map (fun i => (spGet (fun _ => 0) s.sor.ptr bank + i) % 26)).find? (fun q => s.sor.queue.any (fun u => u.at_ q bank)) = some p)
    (hu : s.sor.queue.find? (fun u => u.at_ p bank) = some u) (hsrc : u.src = .thread f k h) (hok : s.SorusOk u.sorus)
    (ht : (s.sorus u.sorus).tenant = u.tenant) :
    exec (.sorusUpdateApply bank) s = .next ((s.sorTurned bank p u).sorAdd u.sorus u.n) := by
  show execSorusUpdateApply bank s = _
  unfold execSorusUpdateApply
  dsimp only
  rw [hp]
  dsimp only
  rw [hu]
  exact congrArg Host.Outcome.next (State.applyUpd_thread (s := s.sorTurned bank p u) hsrc hok ht)

/-! ### Waiting threads (R400, R401) -/

/-- One released thread goes on, with the data cache emptied in the .I form. -/
def State.releaseOne (f : Nat) (s : State) (w : WatchE) : State :=
  (if (s.thr f w.g w.t).wait.invOf then s.dcClear f else s).advance f w.g w.t

/-- What is left of a watch list as the satisfied waits on sorus `n` leave it. -/
def unreleased (n : Nat) (l : List WatchE) : List WatchE := l.filter (fun w => !(w.sorus == n && w.sat))

theorem exec_watchRelease_eq (s : State) (f n : Nat) : exec (.watchRelease f n) s =
    .next (((s.fr f).watch.filter (fun w => w.sorus == n && w.sat)).foldl (State.releaseOne f) (s.modFr f (fun q => { q with watch := unreleased n q.watch }))) := rfl

/-- A release leaves the watch lists, the sori, the memories and the registers. -/
theorem State.releaseOne_frame (f : Nat) (s : State) (w : WatchE) : ((s.releaseOne f w).fr f).watch = (s.fr f).watch ∧
    (s.releaseOne f w).sor = s.sor ∧ (s.releaseOne f w).mem = s.mem ∧ (s.releaseOne f w).regs = s.regs := by
  unfold State.releaseOne State.advance
  split
  · refine ⟨?_, rfl, rfl, rfl⟩
    have h : ((s.dcClear f).fr f).watch = (s.fr f).watch := by rw [State.dcClear, State.fr_modFr_same]
    exact h
  · exact ⟨rfl, rfl, rfl, rfl⟩

/-- Whatever thread a release frees, a ready one stays ready. -/
theorem State.releaseOne_ready {f : Nat} {s : State} (w : WatchE) {g t : Nat} (h : (s.thr f g t).wait = .ready ∨ thrKey f g t = thrKey f w.g w.t) :
    ((s.releaseOne f w).thr f g t).wait = .ready := by
  have hadv (u : State) (hu : u.frd.thr = s.frd.thr) : ((u.advance f w.g w.t).thr f g t).wait = .ready := by
    have hthr : u.thr f g t = s.thr f g t := State.thr_congr hu f g t
    by_cases hk : thrKey f g t = thrKey f w.g w.t
    · have hv : (u.advance f w.g w.t).thr f g t = { u.thr f w.g w.t with pc := ((u.thr f w.g w.t).pc + 8) % 2 ^ 48, wait := .ready } := by
        rw [← State.advance_thr, State.thr, hk, State.thr]
      rw [hv]
    · have hv : (u.advance f w.g w.t).thr f g t = u.thr f g t := spGet_spPut_ne _ _ _ hk
      rw [hv, hthr]
      exact h.resolve_right hk
  unfold State.releaseOne
  split
  · exact hadv _ rfl
  · exact hadv _ rfl

theorem State.foldl_releaseOne_ready {f : Nat} (l : List WatchE) {s : State} {g t : Nat} (h : (s.thr f g t).wait = .ready ∨ ∃ w ∈ l, w.g = g ∧ w.t = t) :
    ((l.foldl (State.releaseOne f) s).thr f g t).wait = .ready := by
  induction l generalizing s with
  | nil => simpa using h
  | cons a l ih =>
    refine ih ?_
    rcases h with h | ⟨w, hw, hg, ht⟩
    · exact .inl (State.releaseOne_ready a (.inl h))
    · rcases List.mem_cons.mp hw with rfl | hw
      · exact .inl (State.releaseOne_ready w (.inr (by rw [hg, ht])))
      · exact .inr ⟨w, hw, hg, ht⟩

theorem State.frd_addFence (s : State) (x : FUnit) : (s.addFence x).frd = s.frd := by
  unfold State.addFence
  split <;> rfl

theorem State.fr_markAbort (s : State) (f k reason i : Nat) : (s.markAbort f k reason).fr i = s.fr i := by
  unfold State.markAbort State.fr
  split
  · rfl
  · split
    · rfl
    · rw [State.frd_addFence]
      rfl

/-- A trap leaves what the Fronds hold beside their kernels. -/
theorem State.fr_trapI (s : State) (f g t reason arg : Nat) (loc : Loc) (inj : Bool) (i : Nat) : (s.trapI f g t reason arg loc inj).fr i = s.fr i := by
  unfold State.trapI
  split
  · rfl
  · split
    · rfl
    · split
      · rfl
      · extract_lets s1 s2
        have h1 : s1.frd = s.frd := (s.raise_same _).frd
        clear_value s1
        have h2 : s2.frd = s1.frd := by
          unfold s2
          rw [apply_ite State.frd]
          simp only [State.rset_frame, ite_self]
        rw [State.fr_markAbort, State.fr, State.fr, h2, h1]

/-- A thread that has waited too long on a sorus leaves the watch list and traps (R401). -/
theorem exec_waitTimeout_due {s : State} {f g h n th : Nat} {inv : Bool} (hw : (s.thr f g h).wait = .sorus n th inv)
    (hm : ⟨g, h, n, th, false⟩ ∈ (s.fr f).watch) (ht : s.waitTo ≤ s.clock - (s.thr f g h).waitClock) :
    exec (.waitTimeout f g h) s =
      .next ((s.modFr f (fun q => { q with watch := q.watch.filter (fun w => !(w.g == g && w.t == h)) })).sorTrap f g h 0x0A04) := by
  have hany : (s.fr f).watch.any (fun w => w.g == g && w.t == h && w.sorus == n && !w.sat) = true :=
    List.any_eq_true.mpr ⟨_, hm, by simp⟩
  show execWaitTimeout f g h s = _
  unfold execWaitTimeout
  rw [hw]
  dsimp only
  rw [if_pos (by simp [hany, ht])]

/-- Settles O33: a signal applied in turn or at once, the release of satisfied waits, and the timeout of one. -/
theorem sorusUpdates : Obligations.SorusUpdates := by
  refine ⟨⟨?_, ?_⟩, ?_, ?_, ?_⟩
  · intro s bank p u f k h from_ hp hu hsrc hok ht
    obtain ⟨hvalue, hother, hqueue, hptr, hwaits, -⟩ := (s.sorTurned bank p u).sorAdd_signalled u.sorus u.n
    refine ⟨_, exec_sorusUpdateApply_thread hp hu hsrc hok ht, hqueue, ?_, hvalue, hother, hwaits⟩
    rw [hptr]
    exact spGet_spPut_same _ _ _ _
  · intro s u n amount tenant remote hok hs
    obtain rfl := State.sorRefuse_of_signal hok hs
    obtain ⟨hvalue, hother, -, -, -, hwatch⟩ := s.sorAdd_signalled n amount
    exact ⟨hvalue, hother, hwatch⟩
  · intro s f n
    obtain ⟨hwatch, hframe⟩ := foldl_keeps (p := fun u : State => (u.fr f).watch = unreleased n (s.fr f).watch ∧ u.sor = s.sor ∧ u.mem = s.mem ∧ u.regs = s.regs)
      (State.releaseOne f)
      (fun u w ⟨hw, hs, hm, hr⟩ => ⟨(State.releaseOne_frame f u w).1.trans hw, (State.releaseOne_frame f u w).2.1.trans hs,
        (State.releaseOne_frame f u w).2.2.1.trans hm, (State.releaseOne_frame f u w).2.2.2.trans hr⟩)
      ((s.fr f).watch.filter (fun w => w.sorus == n && w.sat)) (a := s.modFr f (fun q => { q with watch := unreleased n q.watch }))
      ⟨congrArg Frond.watch (s.fr_modFr_same f _), rfl, rfl, rfl⟩
    refine ⟨_, exec_watchRelease_eq s f n, hwatch, fun w hw hs hsat => State.foldl_releaseOne_ready _ (.inr ⟨w, ?_, rfl, rfl⟩), hframe⟩
    exact List.mem_filter.mpr ⟨hw, by simp [hs, hsat]⟩
  · intro s f n w hw
    refine ⟨_, exec_watchRelease_eq s f n, ?_⟩
    rw [hw, List.foldl_cons, List.foldl_nil, State.releaseOne, State.advance_thr]
    split <;> rfl
  · intro s f g h n th k inv q hw hm ht hk
    obtain ⟨hg, hkrn, ha⟩ := State.grpKernel_some hk
    obtain ⟨hab, hfence⟩ := State.trap_aborts (s := s.modFr f (fun q => { q with watch := q.watch.filter (fun w => !(w.g == g && w.t == h)) }))
      (f := f) (g := g) (k := k) (q := q) hg hkrn ha h 0x0A04 0 (sorThreadLoc f h)
    refine ⟨_, exec_waitTimeout_due hw hm ht, hab, hfence, fun w hmem ⟨h1, h2⟩ => ?_⟩
    rw [State.sorTrap, State.trap, State.fr_trapI, State.fr_modFr_same] at hmem
    have := (List.mem_filter.mp hmem).2
    simp [h1, h2] at this

end Sys2Proof.Machine
end

section
/-!
PROOFS. Sorus instructions of a thread (R394–R400).
-/

namespace Sys2Proof.Machine

set_option Elab.async false

/-! ### What the writes of a thread's registers leave -/

theorem State.injDone_rword (s : State) {off : Nat} (h : ¬ recSlot off) : s.injDone.rword off = s.rword off := by
  have hne : off ≠ 0xF0040 := fun e => h (by unfold recSlot; omega)
  unfold State.injDone
  split
  · rfl
  · rw [State.rword_rset_ne _ _ _ hne, State.rword_rset_ne _ _ _ hne]

theorem State.noteInj_rword (s : State) (c k off : Nat) : (s.noteInj c k).rword off = s.rword off := by
  unfold State.noteInj
  split <;> rfl

/-- A register written, struck by the flip mask or not, leaves the sori and every register but the fault unit's. -/
theorem State.setGreg_sor_rword (s : State) (f g h n : Nat) (v : W32) :
    (s.setGreg f g h n v).sor = s.sor ∧ ∀ off, ¬ recSlot off → (s.setGreg f g h n v).rword off = s.rword off := by
  unfold State.setGreg
  extract_lets k t
  split
  · refine ⟨?_, fun off ho => ?_⟩
    · rw [(State.injDone_sor_flt _).1, (State.noteInj_sor_flt _ _ _).1]
      rfl
    · rw [State.injDone_rword _ ho, State.noteInj_rword]
      rfl
  · exact ⟨rfl, fun _ _ => rfl⟩

/-! ### The instructions for all executing threads -/

/-- A sorus instruction whose pair of registers begins even acts for each executing thread on the sorus it names. -/
theorem State.sorThread_issues {s s' : State} {f g k : Nat} {q : Kernel} {ts : List Nat} (h : s.Issues f g s' k q ts) (mask gs : Nat) (reads : List Nat)
    {pair : Nat} (hp : pair % 2 = 0) (act : State → Nat → Kernel → Nat → Nat → State)
    (hw : (s'.eachThread f g mask reads ts (fun u t => u.onSorus f g t gs (fun v n => act v k q n t))).waited = false) :
    s.sorThread f g mask gs reads pair act = s'.eachThread f g mask reads ts (fun u t => u.onSorus f g t gs (fun v n => act v k q n t)) := by
  have he : (if pair % 2 = 1 then s'.trapEach f g 0x0280 (trapLoc f g) false ts
      else s'.eachThread f g mask reads ts (fun u t => u.onSorus f g t gs (fun v n => act v k q n t))) =
      s'.eachThread f g mask reads ts (fun u t => u.onSorus f g t gs (fun v n => act v k q n t)) := if_neg (by omega)
  unfold State.sorThread
  rw [State.issue_issues h (by rw [he]; exact hw), he]

/-! ### One thread -/

theorem sorusId_of_lt {w : W32} (h : w.toNat < 8192) : sorusId w = some w.toNat := if_pos h
theorem sorusId_of_le {w : W32} (h : 8192 ≤ w.toNat) : sorusId w = none := if_neg (Nat.not_lt.mpr h)

/-- A name beyond the sori traps (R394). -/
theorem State.onSorus_traps {s : State} {f g h gs k : Nat} {q : Kernel} (hn : 8192 ≤ (s.rg f g h gs).toNat) (hk : s.grpKernel f g = some (k, q))
    (act : State → Nat → State) : (s.onSorus f g h gs act).krn f k = some { q with abort := some 0x0280 } := by
  obtain ⟨hg, hkrn, ha⟩ := State.grpKernel_some hk
  unfold State.onSorus
  rw [sorusId_of_le hn]
  exact (State.trap_aborts hg hkrn ha h 0x0280 0 (trapLoc f g h)).1

/-- SSIG of a thread whose signal counts: the signal goes behind those its Frond sent before, and the thread moves on. -/
theorem State.ssig1_spec (s : State) (f g h gn k n : Nat) (q : Kernel) : let u := s.sbDrain f; let t := s.ssig1 f g h gn k q n
    (t.thr f g h).pc = ((u.thr f g h).pc + 8) % 2 ^ 48 ∧ t.mem = u.mem ∧ t.regs = u.regs ∧
    (((u.rg f g h gn).toNat = 0 ∨ (u.slotKernel f g).all (fun p => p.2.abort.isSome) = true) → t.sor = u.sor) ∧
    ((u.rg f g h gn).toNat ≠ 0 → (u.slotKernel f g).all (fun p => p.2.abort.isSome) = false →
      t.sor.queue = u.sor.queue ++ [⟨f, n, (u.rg f g h gn).toNat, q.launch.tenant, .thread f k h⟩]) := by
  unfold State.ssig1
  intro u t
  dsimp only [u, t]
  by_cases hc : ((s.sbDrain f).rg f g h gn).toNat = 0 ∨ ((s.sbDrain f).slotKernel f g).all (fun p => p.2.abort.isSome) = true
  · rw [if_pos (by simpa using hc)]
    refine ⟨by rw [State.advance_thr], rfl, rfl, fun _ => rfl, fun h0 h1 => ?_⟩
    rcases hc with hc | hc
    · exact absurd hc h0
    · exact absurd (h1.symm.trans hc) Bool.false_ne_true
  · rw [if_neg (by simpa using hc)]
    exact ⟨by rw [State.advance_thr]; rfl, rfl, rfl, fun h => absurd h hc, fun _ _ => rfl⟩

/-- A wait whose threshold VALUE has reached is passed at once (R398). -/
theorem State.sorWait_passed {s : State} {f g h n tenant th : Nat} {thr : Option Nat} (inv : Bool) (hok : s.SorusOk n) (ht : (s.sorus n).tenant = tenant)
    (hth : th = thr.getD (s.sorus n).thresh.toNat) (hv : th ≤ (s.sorus n).value.toNat) :
    s.sorWait f g h n tenant thr inv = (if inv then s.dcClear f else s).advance f g h := by
  unfold State.sorWait
  rw [State.sorCheckErr_of_ok hok]
  dsimp only
  rw [State.sorRefuse_of_ok hok ht, ← hth]
  exact if_pos hv

/-- A wait whose threshold is beyond VALUE goes to the watch list (R400). -/
theorem State.sorWait_waits {s : State} {f g h n tenant th : Nat} {thr : Option Nat} (inv : Bool) (hok : s.SorusOk n) (ht : (s.sorus n).tenant = tenant)
    (hth : th = thr.getD (s.sorus n).thresh.toNat) (hv : (s.sorus n).value.toNat < th) (hfull : (s.fr f).watchFull n = false) :
    s.sorWait f g h n tenant thr inv =
      (s.modFr f (fun q => { q with watch := q.watch ++ [⟨g, h, n, th, false⟩] })).startWait f g h (.sorus n th inv) := by
  unfold State.sorWait
  rw [State.sorCheckErr_of_ok hok]
  dsimp only
  rw [State.sorRefuse_of_ok hok ht, ← hth]
  dsimp only
  rw [if_neg (Nat.not_le.mpr hv), hfull]
  rfl

/-- A sorus of another tenant may not be waited on (R395). -/
theorem State.sorWait_traps {s : State} {f g h n tenant k : Nat} {q : Kernel} (thr : Option Nat) (inv : Bool) (hok : s.SorusOk n)
    (ht : (s.sorus n).tenant ≠ tenant) (hk : s.grpKernel f g = some (k, q)) :
    (s.sorWait f g h n tenant thr inv).krn f k = some { q with abort := some 0x0A02 } := by
  obtain ⟨hg, hkrn, ha⟩ := State.grpKernel_some hk
  have hr : s.sorRefuse n tenant false = some 0x0A02 := by
    unfold State.sorRefuse
    simp [hok.1, ht]
  unfold State.sorWait
  rw [State.sorCheckErr_of_ok hok]
  dsimp only
  rw [hr]
  exact (State.trap_aborts hg hkrn ha h 0x0A02 0 (sorThreadLoc f h)).1

/-- SRD leaves VALUE in the pair of registers from an even `gd` on (R397). -/
theorem State.srd1_eq {s : State} {gd n tenant : Nat} (f g h : Nat) (hok : s.SorusOk n) (ht : (s.sorus n).tenant = tenant) :
    s.srd1 f g h gd tenant n = ((s.setGreg f g h (gd % 128) (BitVec.ofNat 32 (s.sorus n).value.toNat)).setGreg f g h ((gd + 1) % 128)
      (BitVec.ofNat 32 ((s.sorus n).value.toNat / 2 ^ 32))).advance f g h := by
  unfold State.srd1
  rw [State.sorCheckErr_of_ok hok]
  dsimp only
  rw [State.sorRefuse_of_ok hok ht]

theorem State.srd1_spec {s : State} {gd n tenant : Nat} (f g h : Nat) (heven : gd % 2 = 0) (hlt : gd < 128) (hok : s.SorusOk n)
    (ht : (s.sorus n).tenant = tenant) : let t := s.srd1 f g h gd tenant n
    t.greg f g h gd = BitVec.ofNat 32 (s.sorus n).value.toNat ∧ t.greg f g h (gd + 1) = BitVec.ofNat 32 ((s.sorus n).value.toNat / 2 ^ 32) ∧
    (∀ m, m < 128 → m ≠ gd → m ≠ gd + 1 → t.greg f g h m = s.greg f g h m) ∧ (t.thr f g h).pc = ((s.thr f g h).pc + 8) % 2 ^ 48 ∧
    t.sor = s.sor ∧ s.SameMem t ∧ s.SameRegs t recSlot := by
  have hadv (u : State) (m : Nat) : (u.advance f g h).greg f g h m = u.greg f g h m := rfl
  rw [State.srd1_eq f g h hok ht, Nat.mod_eq_of_lt hlt, Nat.mod_eq_of_lt (by omega)]
  intro t
  dsimp only [t]
  refine ⟨?_, ?_, fun m hm h1 h2 => ?_, ?_, ?_, ?_, fun off ho => ?_⟩
  · rw [hadv, State.greg_setGreg, if_neg (by omega), State.greg_setGreg, if_pos rfl]
  · rw [hadv, State.greg_setGreg, if_pos rfl]
  · rw [hadv, State.greg_setGreg, if_neg h2, State.greg_setGreg, if_neg h1]
  · obtain ⟨_, e⟩ := s.setGreg_frd f g h gd (BitVec.ofNat 32 (s.sorus n).value.toNat)
    obtain ⟨_, e'⟩ := (s.setGreg f g h gd (BitVec.ofNat 32 (s.sorus n).value.toNat)).setGreg_frd f g h (gd + 1) (BitVec.ofNat 32 ((s.sorus n).value.toNat / 2 ^ 32))
    rw [State.advance_thr, State.thr_congr (s := s) (by rw [e', e])]
  · exact (State.setGreg_sor_rword _ f g h _ _).1.trans (State.setGreg_sor_rword s f g h _ _).1
  · refine sameMem_of_bytes ?_
    have hb (u : State) : (u.advance f g h).bytes = u.bytes := rfl
    rw [hb, State.setGreg_bytes, State.setGreg_bytes]
  · exact ((State.setGreg_sor_rword _ f g h _ _).2 off ho).trans ((State.setGreg_sor_rword s f g h _ _).2 off ho)

/-- Settles O32: the instructions for the executing threads in order, and what each does for one thread. -/
theorem sorusInstructions : Obligations.SorusInstructions := by
  refine ⟨⟨?_, ?_, ?_, ?_⟩, ?_, ?_, ?_, ?_, ?_⟩
  · intro s s' f g mask gs gn k ts q t hi hheld hw
    refine congrArg Host.Outcome.next ?_
    rw [if_neg (by simp [hheld])]
    exact State.sorThread_issues hi mask gs _ rfl (fun s k q n t => s.ssig1 f g t gn k q n) hw
  · intro s s' f g mask gs k inv ts q t hi hw
    exact congrArg Host.Outcome.next (State.sorThread_issues hi mask gs _ rfl (fun s _ q n t => s.sorWait f g t n q.launch.tenant none inv) hw)
  · intro s s' f g mask gs gt k inv ts q t hi hp hw
    exact congrArg Host.Outcome.next (State.sorThread_issues hi mask gs _ hp
      (fun s _ q n t => s.sorWait f g t n q.launch.tenant (some (s.regPair f g t gt)) inv) hw)
  · intro s s' f g mask gd gs k ts q t hi hp hw
    exact congrArg Host.Outcome.next (State.sorThread_issues hi mask gs _ hp (fun s _ q n t => s.srd1 f g t gd q.launch.tenant n) hw)
  · intro s f g h gs k q act
    refine ⟨fun hn => ?_, fun hn hk => State.onSorus_traps hn hk act⟩
    unfold State.onSorus
    rw [sorusId_of_lt hn]
  · intro s f g h gn k n q u
    exact ⟨_, rfl, s.ssig1_spec f g h gn k n q⟩
  · intro s f g h n th tenant thr inv hok ht hth
    refine ⟨fun hv => ⟨_, State.sorWait_passed inv hok ht hth hv, ?_⟩, fun hv hfull => ⟨_, State.sorWait_waits inv hok ht hth hv hfull, ?_⟩⟩
    · cases inv
      · exact ⟨by rw [State.advance_thr]; rfl, by rw [State.advance_thr], rfl, rfl, rfl, rfl, rfl⟩
      · have hfr : ((s.dcClear f).advance f g h).fr f = { s.fr f with dcache := [] } := s.fr_modFr_same f (fun q => { q with dcache := [] })
        exact ⟨by rw [State.advance_thr]; rfl, by rw [State.advance_thr], rfl, rfl, rfl, by rw [if_pos rfl, hfr], by rw [if_pos rfl, hfr]; rfl⟩
    · refine ⟨by rw [State.startWait_thr]; rfl, by rw [State.startWait_thr], by rw [State.startWait_thr]; rfl, ?_, rfl, rfl, rfl⟩
      exact congrArg Frond.watch (s.fr_modFr_same f (fun q => { q with watch := q.watch ++ [⟨g, h, n, th, false⟩] }))
  · intro s f g h gd n tenant heven hlt hok ht
    exact ⟨_, rfl, State.srd1_spec f g h heven hlt hok ht⟩
  · intro s f g h n tenant thr inv k q hok ht hk
    exact State.sorWait_traps thr inv hok ht hk

end Sys2Proof.Machine
end

section
/-!
PROOFS. What a message put on a link leaves.
-/

namespace Sys2Proof.Machine

set_option Elab.async false

/-! ### What a message put on a link leaves

A message goes to a link's queues and may end an armed injection into a transfer (R610); nothing else of the module moves. -/

/-- The module without its registers and the queues of its links. -/
def State.ashore (s : State) : State := { s with regs := [], fab.links := [] }

theorem State.foldl_ashore {α : Type} {g : State → α → State} (hg : ∀ u x, (g u x).ashore = u.ashore) (l : List α) (s : State) :
    (l.foldl g s).ashore = s.ashore := foldl_keeps (p := fun u : State => u.ashore = s.ashore) g (fun u x h => (hg u x).trans h) l rfl

@[simp] theorem State.rset_ashore (s : State) (f : Fd) (v : Nat) : (s.rset f v).ashore = s.ashore := rfl
@[simp] theorem State.setLink_ashore (s : State) (l : Nat) (q : Link) : (s.setLink l q).ashore = s.ashore := rfl
@[simp] theorem State.modLink_ashore (s : State) (l : Nat) (g : Link → Link) : (s.modLink l g).ashore = s.ashore := rfl
@[simp] theorem State.freeRx_ashore (s : State) (l : Nat) (m : Msg) : (s.freeRx l m).ashore = s.ashore := rfl

@[simp] theorem State.injDone_ashore (s : State) : s.injDone.ashore = s.ashore := by
  unfold State.injDone
  split
  · rfl
  · rw [State.rset_ashore, State.rset_ashore]

@[simp] theorem State.injTransfer_ashore (s : State) (l : Loc) : (s.injTransfer l).ashore = s.ashore := by
  unfold State.injTransfer
  split
  · exact s.injDone_ashore
  · rfl

@[simp] theorem State.pump_ashore (s : State) (l : Nat) : (s.pump l).ashore = s.ashore := by
  unfold State.pump
  split
  · dsimp only
    split
    · rfl
    · rw [State.injTransfer_ashore, State.setLink_ashore]
  · rfl

@[simp] theorem State.toLink_ashore (s : State) (l : Nat) (m : Msg) (why : SentFor) : (s.toLink l m why).ashore = s.ashore := by
  rw [State.toLink, State.pump_ashore, State.modLink_ashore]

theorem State.takeRx_ashore {s u : State} {l op : Nat} {m : Msg} (h : s.takeRx l op = some (m, u)) : u.ashore = s.ashore := by
  unfold State.takeRx at h
  split at h
  · simp at h
  · split at h
    · simp at h
    · simp only [Option.some.injEq, Prod.mk.injEq] at h
      rw [← h.2, State.freeRx_ashore, State.modLink_ashore]

section
variable {s t : State} (h : t.ashore = s.ashore)
include h

theorem State.rng_of_ashore : t.rng = s.rng := by
  have e : t.ashore.rng = s.ashore.rng := congrArg State.rng h
  exact e

theorem State.waited_of_ashore : t.waited = s.waited := by
  have e : t.ashore.waited = s.ashore.waited := congrArg State.waited h
  exact e

theorem State.mem_of_ashore : t.mem = s.mem := by
  have e : t.ashore.mem = s.ashore.mem := congrArg State.mem h
  exact e

theorem State.aborted_of_ashore : t.fab.aborted = s.fab.aborted := by
  have e : t.ashore.fab.aborted = s.ashore.fab.aborted := congrArg (fun u : State => u.fab.aborted) h
  exact e

end

end Sys2Proof.Machine
end

section
/-!
PROOFS. Reductions over the fabric (R445–R448).
-/

namespace Sys2Proof.Machine

set_option Elab.async false

/-! ### Reductions in the fabric -/

theorem State.red_setRed_same (s : State) (g : Nat) (v : Option Red) : (s.setRed g v).red g = v := spGet_spPut_same _ _ _ _

theorem State.red_congr {s t : State} (h : t.fab.reds = s.fab.reds) (g : Nat) : t.red g = s.red g := by
  unfold State.red
  rw [h]

/-- An aborted reduction is off its group and its descriptor fails with the reason (R448). -/
theorem State.redAbort_spec {s : State} {g : Nat} {q : Red} {st : Started} (hq : s.red g = some q) (hst : (s.ring q.ring).find q.idx = some st)
    (reason : Nat) (except_ : Option Nat) : let t := s.redAbort g reason except_
    t.red g = none ∧ s.Completes t q.ring q.idx 0x80 reason 0 ∧ t.waited = s.waited := by
  unfold State.redAbort
  rw [hq]
  intro t
  generalize hv : ((s.rgrp g).links.filter (fun l => except_ != some l && s.linkUp l)).foldl
    (fun s l => s.toLink l (redMsg s 0x31 (redTarget g q.seq reason) 0 0 (s.ringTenant q.ring) []) .other) s = v at t
  have hash : v.ashore = s.ashore := hv ▸ State.foldl_ashore (fun u l => u.toLink_ashore l _ _) _ s
  have hvrng : v.rng = s.rng := State.rng_of_ashore hash
  have hvwaited : v.waited = s.waited := State.waited_of_ashore hash
  obtain ⟨w, hw⟩ : ∃ w, w = (v.setRed g none).raise (recErr reason (redLoc g) (v.ringCtx q.ring)) := ⟨_, rfl⟩
  have hsame : (v.setRed g none).SameBut w := hw ▸ State.raise_same _ _
  have hrng : w.rng = s.rng := hsame.rng.trans hvrng
  have ht : t = w.complete q.ring q.idx 0x80 reason 0 := by
    rw [hw, ← hv]
  have hst' : (w.ring q.ring).find q.idx = some st := by rw [State.ring_congr hrng, hst]
  rw [ht]
  refine ⟨?_, State.Completes.of_rng hrng (w.complete_completes hst' _ _ _), ?_⟩
  · rw [State.red_congr (s := v.setRed g none) (by simp only [State.complete_frame, hsame.fab]), State.red_setRed_same]
  · simp only [State.complete_frame, hsame.waited]
    exact hvwaited

/-! ### What begins, what a child sends, and what a parent tells -/

/-- The state in which what came early for a sequence number of a group is used up (R447, R448). -/
def State.redFresh (s : State) (g seq : Nat) : State :=
  { s with fab := { s.fab with advs := s.fab.advs.filter (fun a => !(a.1 == g && a.2.1 == seq)),
                               aborted := s.fab.aborted.filter (· != (g, seq)) } }

theorem exec_reduce_starts {s : State} {r i g seq limit : Nat} {d : Desc} (hg : d.f 1 63 56 = g) (hseq : d.f 1 55 40 = seq)
    (hop : s.opOf r i 5 5 = some d) (hid : s.idValid = true) (hres : reduceReserved (d.f 1 39 36) (d.f 1 35 34) = false)
    (hvalid : (s.rgrp g).valid = true) (hsize : (s.rgrp g).localIn = true → d.f 3 31 0 % elemSize (d.f 1 35 34) = 0) (hred : s.red g = none)
    (hearly : s.fab.aborted.contains (g, seq) = false)
    (hlimit : limit = ((s.fab.advs.find? (fun a => a.1 == g && a.2.1 == seq)).map (·.2.2)).getD 0)
    (hwin : (s.rgrp g).role = 2 → s.redWinOk (s.rgrp g) (d.f 3 31 0) = true) (hup : ∀ l ∈ (s.rgrp g).links, s.linkUp l = true)
    (q : Red) (hq : q = ⟨r, i, seq, d.f 1 39 36, d.f 1 35 34, d.f 3 31 0 / 128, s.clock, 0, 0, limit, 0, false, []⟩)
    (hw : ((((s.redFresh g seq).markRan r i).setRed g (some q)).redAdvance g q |>.redGo g).waited = false) :
    exec (.reduce r i) s = .next ((((s.redFresh g seq).markRan r i).setRed g (some q)).redAdvance g q |>.redGo g) := by
  refine congrArg Host.Outcome.next (State.attempt_eq ?_ hw)
  subst hg hseq hq
  have hlim (o : Option (Nat × Nat × Nat)) : (match o with
      | some a => a.2.2
      | none => 0) = (o.map (·.2.2)).getD 0 := by cases o <;> rfl
  have hwin' : ¬((decide ((s.rgrp (d.f 1 63 56)).role = 2) && !s.redWinOk (s.rgrp (d.f 1 63 56)) (d.f 3 31 0)) = true) := by
    simp only [Bool.and_eq_true, decide_eq_true_eq, not_and]
    exact fun h => by simp [hwin h]
  have hdown : ¬((s.rgrp (d.f 1 63 56)).links.any (fun l => !s.linkUp l) = true) :=
    fun h => by
      obtain ⟨l, hl, hn⟩ := List.any_eq_true.mp h
      simp [hup l hl] at hn
  have hloc : ¬((!(s.rgrp (d.f 1 63 56)).valid || ((s.rgrp (d.f 1 63 56)).localIn && decide (d.f 3 31 0 % elemSize (d.f 1 35 34) ≠ 0))) = true) := by
    simp only [hvalid, Bool.not_true, Bool.false_or, Bool.and_eq_true, decide_eq_true_eq, not_and, not_not]
    exact hsize
  rw [hop]
  dsimp only
  rw [if_neg (by simp [hid]), if_neg (by simp [hres]), if_neg hloc, if_neg (by simp [hred]), hearly, if_neg Bool.false_ne_true, hlimit, ← hlim]
  exact (if_neg hwin').trans (if_neg hdown)

section
variable {s u : State} {l g seq k : Nat} {m : Msg} {q : Red} (hg : m.target / 2 ^ 40 = g) (hs : m.target / 2 ^ 24 % 65536 = seq) (hk : m.target % 2 ^ 24 = k)

/-- What a chunk in hand does to a reduction that runs. -/
def State.chunkIn (u : State) (l g k : Nat) (m : Msg) (q : Red) : State :=
  if u.redSplit (u.rgrp g) then
    match u.redPerform g q k m.data with
    | (v, true) => (v.setRed g (some (q.modChunk k (fun c => { c with from_ := c.from_ ||| (1 <<< l) })))).redGo g
    | (v, false) => v.redAbort g 0x0B0E none
  else (u.setRed g (some (q.modChunk k (fun c => { c with from_ := c.from_ ||| (1 <<< l), value := some (q.combine c.value m.data) })))).redGo g

include hg hs hk in
/-- A chunk that fits the reduction is taken in (R446). -/
theorem exec_msgChunk_fits (htake : s.takeRx l 0x20 = some (m, u)) (hq : u.red g = some q) (hseq : seq = q.seq) (hop : m.redop = q.redop)
    (hty : m.rtype = q.rtype) (hlt : k < q.chunks) (hchild : (u.rgrp g).children.contains l = true) (hlow : q.low ≤ k) (hhigh : k < q.low + 512)
    (hnew : ∀ c ∈ q.window, c.index = k → nbit c.from_ l = false) (hw : (u.chunkIn l g k m q).waited = false) :
    exec (.msgChunk l) s = .next (u.chunkIn l g k m q) := by
  have hdup : q.window.any (fun c => c.index == k && nbit c.from_ l) = false := List.any_eq_false.mpr fun c hc => by
    by_cases hi : c.index = k
    · simp [hnew c hc hi]
    · simp [hi]
  refine congrArg Host.Outcome.next (State.attempt_eq ?_ hw)
  rw [htake]
  dsimp only
  rw [hg, hs, hk, hq]
  dsimp only
  rw [if_neg (by simp [hseq, hop, hty, hlt, List.contains_iff_mem.mp hchild]), if_neg (by simp [hdup, Nat.not_lt.mpr hlow, Nat.not_le.mpr hhigh])]
  rfl

include hg hs hk in
/-- A chunk of another sequence number aborts the reduction (R446). -/
theorem exec_msgChunk_other (htake : s.takeRx l 0x20 = some (m, u)) (hq : u.red g = some q) (hseq : seq ≠ q.seq)
    (hw : (u.redAbort g 0x0B0C none).waited = false) : exec (.msgChunk l) s = .next (u.redAbort g 0x0B0C none) := by
  refine congrArg Host.Outcome.next (State.attempt_eq ?_ hw)
  rw [htake]
  dsimp only
  rw [hg, hs, hk, hq]
  exact if_pos (by simp [hseq])

include hg hs in
theorem exec_msgAbort_runs (htake : s.takeRx l 0x31 = some (m, u)) (hq : u.red g = some q) (hseq : seq = q.seq) :
    exec (.msgAbort l) s = .next (u.redAbort g 0x0B0E (some l)) := by
  refine congrArg Host.Outcome.next ?_
  rw [htake]
  dsimp only
  rw [hg, hs, hq]
  exact if_pos hseq.symm

include hg hs in
theorem exec_msgAbort_early (htake : s.takeRx l 0x31 = some (m, u)) (hq : u.red g = none) :
    exec (.msgAbort l) s = .next { u with fab.aborted := (g, seq) :: u.fab.aborted } := by
  refine congrArg Host.Outcome.next ?_
  rw [htake]
  dsimp only
  rw [hg, hs, hq]

include hg hs hk in
theorem exec_msgAdvance_runs (htake : s.takeRx l 0x30 = some (m, u)) (hq : u.red g = some q) (hseq : seq = q.seq) (hrole : (u.rgrp g).role ≠ 2)
    (hparent : (u.rgrp g).parent = l) (hw : ((u.setRed g (some { q with limit := max q.limit k })).redGo g).waited = false) :
    exec (.msgAdvance l) s = .next ((u.setRed g (some { q with limit := max q.limit k })).redGo g) := by
  refine congrArg Host.Outcome.next (State.attempt_eq ?_ hw)
  rw [htake]
  dsimp only
  rw [hg, hs, hk, if_neg (by simp [hrole, hparent]), hq]
  exact if_pos hseq.symm

include hg hs hk in
theorem exec_msgAdvance_early (htake : s.takeRx l 0x30 = some (m, u)) (hq : u.red g = none) (hrole : (u.rgrp g).role ≠ 2)
    (hparent : (u.rgrp g).parent = l) (hw : u.waited = false) :
    exec (.msgAdvance l) s = .next { u with fab.advs := (g, seq, k) :: u.fab.advs.filter (fun a => !(a.1 == g && a.2.1 == seq)) } := by
  refine congrArg Host.Outcome.next (State.attempt_eq ?_ hw)
  rw [htake]
  dsimp only
  rw [hg, hs, hk, if_neg (by simp [hrole, hparent]), hq]

end

/-! ### The ends of a reduction -/

/-- The state after a reduction left its group. -/
theorem exec_reduceComplete_plain {s : State} {g : Nat} {q : Red} {st : Started} (hq : s.red g = some q) (hst : (s.ring q.ring).find q.idx = some st)
    (hfin : q.fin = true) (hw : s.waited = false) (hrole : (s.rgrp g).role ≠ 2 ∨ st.d.f 1 13 13 = 0) :
    exec (.reduceComplete g) s = .next ((s.setRed g none).complete q.ring q.idx 0 0 0) := by
  have hcond : ¬((decide (((s.setRed g none).rgrp g).role = 2) && decide (st.d.f 1 13 13 = 1)) = true) := by
    have h : (s.setRed g none).rgrp g = s.rgrp g := rfl
    rw [h]
    rcases hrole with h | h <;> simp [h]
  refine congrArg Host.Outcome.next (State.attempt_eq ?_ (by simp only [State.complete_frame]; exact hw))
  have hring : (s.setRed g none).ring q.ring = s.ring q.ring := rfl
  rw [hq]
  dsimp only
  rw [if_neg (by simp [hfin]), hring, hst]
  exact if_neg hcond

theorem exec_reduceComplete_signals {s v : State} {g : Nat} {q : Red} {st : Started} (hq : s.red g = some q) (hst : (s.ring q.ring).find q.idx = some st)
    (hfin : q.fin = true) (hw : v.waited = false) (hrole : (s.rgrp g).role = 2) (hsig : st.d.f 1 13 13 = 1)
    (hsor : (s.setRed g none).sorNow (16 + s.rget (Fd.RNG_CTL_CP q.ring)) (st.d.f 1 12 0) 1 (s.ringTenant q.ring) = (v, none)) :
    exec (.reduceComplete g) s = .next (v.complete q.ring q.idx 0 0 0) := by
  have hcond : (decide (((s.setRed g none).rgrp g).role = 2) && decide (st.d.f 1 13 13 = 1)) = true := by
    have h : (s.setRed g none).rgrp g = s.rgrp g := rfl
    rw [h]
    simp [hrole, hsig]
  have hring : (s.setRed g none).ring q.ring = s.ring q.ring := rfl
  have hcp : (s.setRed g none).rget (Fd.RNG_CTL_CP q.ring) = s.rget (Fd.RNG_CTL_CP q.ring) := rfl
  have hten : (s.setRed g none).ringTenant q.ring = s.ringTenant q.ring := rfl
  refine congrArg Host.Outcome.next (State.attempt_eq ?_ (by simp only [State.complete_frame]; exact hw))
  rw [hq]
  dsimp only
  rw [if_neg (by simp [hfin]), hring, hst]
  dsimp only
  rw [if_pos hcond, hcp, hten, hsor]

theorem exec_reductionTimeout_due {s : State} {g : Nat} {q : Red} (hq : s.red g = some q)
    (ht : 25000 * max 1 (s.rget Fd.FAB_CTL_RED_TO_MS) ≤ s.clock - q.startAt) : exec (.reductionTimeout g) s = .next (s.redAbort g 0x0B0D none) := by
  refine congrArg Host.Outcome.next ?_
  rw [hq]
  exact if_pos ht

/-- Settles O39: the start of a reduction, the chunks and messages for it, early and in time, and its three ends. -/
theorem reductions : Obligations.Reductions := by
  refine ⟨?_, ?_, ?_, ?_, ?_, ?_⟩
  · intro s r i limit d g seq e b q t hop hid hres hvalid hsize hred hearly hlimit hwin hup hw
    exact exec_reduce_starts rfl rfl hop hid hres hvalid hsize hred hearly hlimit hwin hup q rfl hw
  · intro s r i d hop hid hres hvalid hw
    have hexec : exec (.reduce r i) s = .next (s.complete r i 4 0 0) := by
      refine congrArg Host.Outcome.next (State.attempt_eq ?_ (by simpa using hw))
      rw [hop]
      dsimp only
      rw [if_neg (by simp [hid]), if_neg (by simp [hres]), if_pos (by simp [hvalid])]
    exact ⟨_, hexec, State.opOf_completes hop rfl 4 0 0, by simp only [State.complete_frame], by simp only [State.complete_frame]⟩
  · intro s u l m q g k htake hq hseq hop hty hlt hchild hlow hhigh hnew
    refine ⟨fun hsplit t ht hw => ?_, fun hsplit v t hperf ht hw => ?_⟩
    · have hin : u.chunkIn l g k m q = t := by rw [← ht, State.chunkIn, hsplit]; rfl
      exact hin ▸ exec_msgChunk_fits rfl rfl rfl htake hq hseq hop hty hlt hchild hlow hhigh hnew (hin ▸ hw)
    · have hin : u.chunkIn l g k m q = t := by rw [← ht, State.chunkIn, if_pos hsplit, hperf]
      exact hin ▸ exec_msgChunk_fits rfl rfl rfl htake hq hseq hop hty hlt hchild hlow hhigh hnew (hin ▸ hw)
  · intro s u l m q st g seq hq hst hw
    refine ⟨fun htake hseq => ?_, fun htake hseq => ?_, fun htake hseq hrole hparent t ht hwt => ?_⟩
    · obtain ⟨h1, h2, h3⟩ := State.redAbort_spec hq hst 0x0B0C none
      exact ⟨_, exec_msgChunk_other rfl rfl rfl htake hq hseq (h3.trans hw), h1, h2⟩
    · obtain ⟨h1, h2, -⟩ := State.redAbort_spec hq hst 0x0B0E (some l)
      exact ⟨_, exec_msgAbort_runs rfl rfl htake hq hseq, h1, h2⟩
    · subst ht
      exact exec_msgAdvance_runs rfl rfl rfl htake hq hseq hrole hparent hwt
  · intro s u l m hq hw
    have hrng {op : Nat} (htake : s.takeRx l op = some (m, u)) : u.rng = s.rng := State.rng_of_ashore (State.takeRx_ashore htake)
    refine ⟨fun htake => ?_, fun htake hrole hparent => ?_⟩
    · refine ⟨_, exec_msgAbort_early rfl rfl htake hq, ?_, hrng htake⟩
      rw [State.aborted_of_ashore (State.takeRx_ashore htake)]
    · exact ⟨_, exec_msgAdvance_early rfl rfl rfl htake hq hrole hparent hw, List.mem_cons_self, hrng htake⟩
  · intro s g q st hq hst
    refine ⟨fun hfin hw hrole => ?_, fun v hfin hw hrole hsig hsor => ?_, fun ht => ?_⟩
    · refine ⟨_, exec_reduceComplete_plain hq hst hfin hw hrole, ?_, ?_, ?_⟩
      · rw [State.red_congr (s := s.setRed g none) (by simp only [State.complete_frame]), State.red_setRed_same]
      · exact State.Completes.of_rng (v := s.setRed g none) rfl (State.complete_completes (s.setRed g none) (st := st) hst 0 0 0)
      · simp only [State.complete_frame]
        rfl
    · exact exec_reduceComplete_signals hq hst hfin hw hrole hsig hsor
    · obtain ⟨h1, h2, -⟩ := State.redAbort_spec hq hst 0x0B0D none
      exact ⟨_, exec_reductionTimeout_due hq ht, h1, h2⟩

end Sys2Proof.Machine
end

section
/-!
PROOFS. Tenant keys, owner messages, IDE keys and the TDI (R474–R485).
-/

namespace Sys2Proof.Machine

set_option Elab.async false

/-! ### The erasure of a tenant (R474) -/

theorem exec_tenantErase_refused {s : State} {r i code : Nat} {d : Desc} (hop : s.opOf r i 7 5 = some d) (href : s.eraseRefused (d.f 1 9 0) = some code) :
    exec (.tenantErase r i) s = .next (s.complete r i code 0 0) := by
  refine congrArg Host.Outcome.next ?_
  rw [hop]
  dsimp only
  rw [href]

/-- An erasure with nothing to commit completes at once. -/
theorem exec_tenantErase_bare {s : State} {r i : Nat} {d : Desc} (hop : s.opOf r i 7 5 = some d) (href : s.eraseRefused (d.f 1 9 0) = none)
    (hws : s.eraseWrites (d.f 1 9 0) = []) : exec (.tenantErase r i) s =
      .next ((s.setTenantKey (d.f 1 9 0) none).complete r i 0 0 (s.tenantSlots (d.f 1 9 0)).length) := by
  refine congrArg Host.Outcome.next ?_
  rw [hop]
  dsimp only
  rw [href]
  dsimp only
  exact if_pos (by rw [hws]; rfl)

/-- The state of an erasure whose commit is to end it. -/
def State.erasing (s : State) (r i t n : Nat) : State := { s with sec.erasing := s.sec.erasing ++ [(r, i, t, n)] }

theorem exec_tenantErase_commits {s : State} {r i : Nat} {d : Desc} (hop : s.opOf r i 7 5 = some d) (href : s.eraseRefused (d.f 1 9 0) = none)
    (hws : s.eraseWrites (d.f 1 9 0) ≠ []) : exec (.tenantErase r i) s =
      .next ((((s.setTenantKey (d.f 1 9 0) none).erasing r i (d.f 1 9 0) (s.tenantSlots (d.f 1 9 0)).length).markRan r i).commitFor
        (s.eraseWrites (d.f 1 9 0)) (.erase r i)) := by
  refine congrArg Host.Outcome.next ?_
  rw [hop]
  dsimp only
  rw [href]
  dsimp only
  exact if_neg (by simpa using hws)

/-! ### Uncorrectable key slots (R459) -/

section
variable (s : State)

/-- The state with an uncorrectable key slot recorded. -/
def State.keyNoted (kind slot : Nat) : State := s.raise (recNote 0x0C0A (secLoc 1 kind slot))

theorem State.keyNoted_same (kind slot : Nat) : s.SameBut (s.keyNoted kind slot) := s.raise_same _

/-- A session's key that is lost takes its slot with it. -/
def State.keyLost (x : Nat) : State :=
  (((s.keyNoted 0 x).seqDone x 0x80 0x0C0A 0).modSlot x (fun q => { q with key := none, st := .lost })).sesIrq

theorem exec_keySlotUncorrectable_session {x : Nat} (h : (s.slot x).key.isSome = true) : exec (.keySlotUncorrectable 0 x) s = .next (s.keyLost x) :=
  congrArg Host.Outcome.next (if_pos h)

theorem State.seqDone_mem (x status reason result : Nat) : (s.seqDone x status reason result).mem = s.mem := by
  unfold State.seqDone
  split
  · rfl
  · simp only [State.complete_frame, State.modSlot_frame]

theorem State.sesIrq_same : s.SameBut s.sesIrq := by
  unfold State.sesIrq
  split
  · exact s.msi_same _
  · exact .refl s

theorem State.slot_congr {s t : State} (h : t.ses = s.ses) (x : Nat) : t.slot x = s.slot x := by
  unfold State.slot
  rw [h]

theorem State.slot_modSlot_same (x : Nat) (g : Slot → Slot) : (s.modSlot x g).slot x = g (s.slot x) := State.slot_setSlot_same _ _ _

theorem State.keyLost_spec (x : Nat) : ((s.keyLost x).slot x).key = none ∧ ((s.keyLost x).slot x).st = .lost ∧ (s.keyLost x).mem.dram = s.mem.dram := by
  obtain ⟨v, hv⟩ : ∃ v, v = (s.keyNoted 0 x).seqDone x 0x80 0x0C0A 0 := ⟨_, rfl⟩
  have hsame := (v.modSlot x (fun q => { q with key := none, st := .lost })).sesIrq_same
  unfold State.keyLost
  rw [← hv, State.slot_congr hsame.ses, State.slot_modSlot_same, hsame.mem_dram]
  refine ⟨rfl, rfl, ?_⟩
  simp only [State.modSlot_frame]
  rw [hv, State.seqDone_mem, (s.keyNoted_same 0 x).mem_dram]

theorem State.tenantKey_congr {s t : State} (h : t.sec = s.sec) (x : Nat) : t.tenantKey x = s.tenantKey x := by
  unfold State.tenantKey
  rw [h]

theorem State.ideStream_congr {s t : State} (h : t.sec = s.sec) (x : Nat) : t.ideStream x = s.ideStream x := by
  unfold State.ideStream
  rw [h]

theorem State.ideStream_setIde_same (n : Nat) (v : IdeStream) : (s.setIde n v).ideStream n = v := spGet_spPut_same _ _ _ _

/-- A tenant's key that is lost. -/
theorem exec_keySlotUncorrectable_tenant {x : Nat} (h : (s.tenantKey x).isSome = true) :
    exec (.keySlotUncorrectable 1 x) s = .next ((s.keyNoted 1 x).setTenantKey x none) := congrArg Host.Outcome.next (if_pos h)

/-- The state in which the SPDM session at index `x` is closed, with its record. -/
def State.spdmGone (x : Nat) : State := { s.keyNoted 4 x with sec.spdm := spDel s.sec.spdm x, sec.spdmNight := s.sec.spdmNight.filter (· != x) }

theorem exec_keySlotUncorrectable_spdm {x : Nat} (h : (spGet (fun _ => none) s.sec.spdm x).isSome = true) :
    exec (.keySlotUncorrectable 4 x) s = .next (s.spdmGone x) := congrArg Host.Outcome.next (if_pos h)

/-- The state without derived keys. -/
def State.underived : State := { s with sec.derived := false }

theorem exec_keySlotUncorrectable_derived (h : s.sec.derived = true) :
    exec (.keySlotUncorrectable 5 0) s = .next (s.keyNoted 5 0).underived := congrArg Host.Outcome.next (if_pos h)

theorem exec_keySlotUncorrectable_ide {x : Nat} (h : (s.ideStream x).set0.isSome = true) (hu : (s.ideStream x).use ≠ some 0) :
    exec (.keySlotUncorrectable 3 (2 * x)) s = .next ((s.keyNoted 3 (2 * x)).setIde x { s.ideStream x with set0 := none }) := by
  have h2 : 2 * x / 2 = x := by omega
  have h0 : 2 * x % 2 = 0 := by omega
  refine congrArg Host.Outcome.next ?_
  dsimp only
  rw [h2, h0, if_pos rfl, if_pos h, if_neg hu]
  rfl

/-! ### Owner messages (R477, R478) -/

/-- The state in which an owner message waits for its commit. -/
def State.ownerTold (m : OwnerMsg) : State :=
  { s with sec.ownerMsgs := s.sec.ownerMsgs ++ [m], sec.releasing := s.sec.releasing || m.kind == 1 }

/-- The refusal of an owner message is counted, recorded and answered. -/
def State.ownerRefused : State :=
  ((s.radd Fd.SEC_ERR_STAT_REFUSED 1).raise (recErr 0x0C0B (secLoc 5 0xFF 0xFFFF) none)).answered (ascii "owner message refused")

theorem State.ownerMsg_ok {k : Nat} {m : OwnerMsg} {sig : List Byte} (hsw : s.secSwitching = false) (h : s.ownerOk k m sig = true) :
    s.ownerMsg k m sig = (s.ownerTold m).commitFor (s.ownerWrites m) .owner := by
  unfold State.ownerMsg
  rw [if_neg (by simp [hsw]), if_pos h]
  rfl

theorem State.ownerMsg_refused {k : Nat} {m : OwnerMsg} {sig : List Byte} (hsw : s.secSwitching = false) (h : s.ownerOk k m sig = false) :
    s.ownerMsg k m sig = s.ownerRefused := by
  unfold State.ownerMsg
  rw [if_neg (by simp [hsw]), if_neg (by simp [h])]
  rfl

/-- A counter that is bumped reads its saturated sum. -/
theorem State.rget_radd_same (f : Fd) (k : Nat) (h : f.lo ≤ f.hi) (hn : f.hi < 64) :
    (s.radd f k).rget f = satAdd (2 ^ (f.hi + 1 - f.lo) - 1) (s.rget f) k := by
  unfold State.radd
  rw [State.rget_rset_same _ _ _ h hn]
  have hpos := Nat.two_pow_pos (f.hi + 1 - f.lo)
  have hle : satAdd (2 ^ (f.hi + 1 - f.lo) - 1) (s.rget f) k ≤ 2 ^ (f.hi + 1 - f.lo) - 1 := by
    unfold satAdd
    split <;> omega
  exact Nat.mod_eq_of_lt (by omega)

/-- A refused owner message has no effect but its record, its count and its answer (R477). -/
theorem State.ownerRefused_spec : s.ownerRefused.sec.ownerKey = s.sec.ownerKey ∧ s.ownerRefused.sec.peers = s.sec.peers ∧
    s.ownerRefused.rget Fd.SEC_STAT_POLICY = s.rget Fd.SEC_STAT_POLICY ∧ s.ownerRefused.sec.ownerMsgs = s.sec.ownerMsgs ∧
    s.ownerRefused.rget Fd.SEC_ERR_STAT_REFUSED =
      satAdd (2 ^ (Fd.SEC_ERR_STAT_REFUSED.hi + 1 - Fd.SEC_ERR_STAT_REFUSED.lo) - 1) (s.rget Fd.SEC_ERR_STAT_REFUSED) 1 := by
  have hsame := (s.radd Fd.SEC_ERR_STAT_REFUSED 1).raise_same (recErr 0x0C0B (secLoc 5 0xFF 0xFFFF) none)
  have hsec : s.ownerRefused.sec = { s.sec with reply := ascii "owner message refused" } := by
    unfold State.ownerRefused State.answered
    rw [hsame.sec]
    rfl
  have hget (f : Fd) (h : ¬ recSlot f.off) : s.ownerRefused.rget f = (s.radd Fd.SEC_ERR_STAT_REFUSED 1).rget f := State.rget_raise _ _ f h
  refine ⟨by rw [hsec], by rw [hsec], ?_, by rw [hsec], ?_⟩
  · rw [hget _ (by unfold recSlot; decide), State.rget_radd_off _ _ (by decide)]
  · rw [hget _ (by unfold recSlot; decide), State.rget_radd_same _ _ _ (by decide) (by decide)]

/-! ### IDE keys and the TDI (R483, R485) -/

theorem exec_kSetGo_ok {stream set : Nat} (hst : stream < 6) (hset : set < 2)
    (h : (if set = 0 then (s.ideStream stream).set0 else (s.ideStream stream).set1).isSome = true) : exec (.kSetGo stream set) s =
      .next ({ s.setIde stream { s.ideStream stream with use := some set } with hpt.ideBad := s.hpt.ideBad.filter (· != stream) } : State).ideStat :=
  congrArg Host.Outcome.next (if_pos (by simp only [h, decide_eq_true hst, decide_eq_true hset, Bool.and_self]))

/-- A key set that goes takes over its stream, and mends it (R483). -/
theorem State.kSetGo_spec (stream set : Nat) :
    let t := ({ s.setIde stream { s.ideStream stream with use := some set } with hpt.ideBad := s.hpt.ideBad.filter (· != stream) } : State).ideStat
    (t.ideStream stream).use = some set ∧ stream ∉ t.hpt.ideBad ∧ t.mem = s.mem := by
  intro t
  have hsec : t.sec = (s.setIde stream { s.ideStream stream with use := some set }).sec := by simp only [t, State.ideStat, State.rset_frame]
  have hbad : t.hpt.ideBad = s.hpt.ideBad.filter (· != stream) := by simp only [t, State.ideStat, State.rset_frame]
  refine ⟨?_, by simp [hbad], by simp only [t, State.ideStat, State.rset_frame, State.setIde_frame]⟩
  rw [State.ideStream_congr hsec, State.ideStream_setIde_same]

theorem exec_keyProg_ok {k stream set : Nat} {key : List Byte} (hup : s.secUp = true) (hk : (spGet (fun _ => none) s.sec.spdm k).isSome = true)
    (hst : stream < 6) (hset : set < 2) (hu : (s.ideStream stream).use ≠ some set) : exec (.keyProg k stream set key) s =
      .next (s.setIde stream (if set = 0 then { s.ideStream stream with set0 := some key } else { s.ideStream stream with set1 := some key })) :=
  congrArg Host.Outcome.next (if_pos (by simp [hup, hk, hst, hset, hu]))

/-- A step of the TDI shows in both its registers. -/
theorem State.setTdi_spec {v : Nat} (hv : v < 4) (l : List Byte) : ((s.setTdi v).answered l).tdi = v ∧
    ((s.setTdi v).answered l).rget Fd.HPT_LINK_STAT_TDISP = v ∧ ((s.setTdi v).answered l).rng = s.rng ∧ ((s.setTdi v).answered l).mem = s.mem := by
  have hans (u : State) (f : Fd) : (u.answered l).rget f = u.rget f := rfl
  refine ⟨?_, ?_, ?_, ?_⟩
  · rw [State.tdi, hans, State.setTdi, State.rget_rset_off _ _ (by decide), State.rget_rset_same _ _ _ (by decide) (by decide)]
    exact Nat.mod_eq_of_lt hv
  · rw [hans, State.setTdi, State.rget_rset_same _ _ _ (by decide) (by decide)]
    exact Nat.mod_eq_of_lt hv
  · simp only [State.answered, State.setTdi, State.rset_frame]
  · simp only [State.answered, State.setTdi, State.rset_frame]

theorem exec_lockInterfaceRequest_ok (htdi : s.tdi = 0) (hv : s.rget Fd.SEC_TDI_BIND_VALID = 1) (hsec : ∃ n, n < 5 ∧ s.ideSecure n = true)
    (hcm : s.hpt.hdm0.committed = true ∨ s.hpt.hdm1.committed = true → s.ideSecure 5 = true) :
    exec .lockInterfaceRequest s = .next ((s.setTdi 1).answered (ascii "LOCK_INTERFACE_RESPONSE")) := by
  obtain ⟨n, hn, h⟩ := hsec
  have hany : (List.range 5).any s.ideSecure = true := List.any_eq_true.mpr ⟨n, List.mem_range.mpr hn, h⟩
  have hcm' : (!(s.hpt.hdm0.committed || s.hpt.hdm1.committed) || s.ideSecure 5) = true := by
    cases hc : s.hpt.hdm0.committed || s.hpt.hdm1.committed
    · rfl
    · simpa using hcm (by simpa using hc)
  exact congrArg Host.Outcome.next (if_pos (by rw [htdi, hv, hany, hcm']; rfl))

end

/-- Settles O41: erasures, lost keys, owner messages, key sets and the TDI's steps. -/
theorem keysOwnerAndTdi : Obligations.KeysOwnerAndTdi := by
  refine ⟨?_, ?_, ?_, ?_, ?_, ?_, ?_, ?_, ?_, ?_, ?_, ?_, ?_, ?_⟩
  · intro s r i d hop href
    refine ⟨fun hws => ⟨_, exec_tenantErase_bare hop href hws, ?_, State.opOf_completes hop (by simp only [State.setTenantKey_frame]) _ _ _, ?_, ?_⟩,
      fun hws => ⟨_, exec_tenantErase_commits hop href hws, ?_, ?_, ?_, ?_⟩⟩
    · rw [State.tenantKey_congr (s := s.setTenantKey (d.f 1 9 0) none) (by simp only [State.complete_frame]), State.tenantKey_setTenantKey_same]
    · simp only [State.complete_frame, State.setTenantKey_frame]
    · simp only [State.complete_frame, State.setTenantKey_frame]
    · rw [State.tenantKey]
      simp only [State.commitFor_frame, State.markRan_frame, State.erasing]
      exact s.tenantKey_setTenantKey_same _ _
    · simp only [State.commitFor_frame, State.markRan_frame, State.erasing, State.setTenantKey_frame]
    · simp only [State.commitFor, State.markRan_frame, State.erasing, State.setTenantKey_frame]
    · simp only [State.commitFor_frame, State.markRan_frame, State.erasing, State.setTenantKey_frame]
  · intro s r i code d hop href
    exact ⟨_, exec_tenantErase_refused hop href, State.opOf_completes hop rfl _ _ _, by simp only [State.complete_frame],
      by simp only [State.complete_frame], by simp only [State.complete_frame]⟩
  · intro s x h
    exact ⟨_, exec_keySlotUncorrectable_session s h, s.keyLost_spec x⟩
  · intro s x h
    have hsame := s.keyNoted_same 1 x
    refine ⟨_, exec_keySlotUncorrectable_tenant s h, State.tenantKey_setTenantKey_same _ _ _, fun y hy => ?_, ?_⟩
    · rw [State.tenantKey_setTenantKey_ne _ _ _ _ hy, State.tenantKey_congr hsame.sec]
    · simpa only [State.setTenantKey_frame] using hsame.ses
  · intro s x h
    refine ⟨_, exec_keySlotUncorrectable_spdm s h, ?_, (s.keyNoted_same 4 x).ses⟩
    rw [State.spdmGone, spGet_spDel, if_pos rfl]
    rfl
  · intro s h
    exact ⟨_, exec_keySlotUncorrectable_derived s h, rfl, (s.keyNoted_same 5 0).ses⟩
  · intro s x h hu
    exact ⟨_, exec_keySlotUncorrectable_ide s h hu, State.ideStream_setIde_same _ _ _, (s.keyNoted_same 3 (2 * x)).ses⟩
  · intro s k counter policy key sig peers m c hc hsw
    have hexec : exec c s = .next (s.ownerMsg k m sig) := by
      rcases hc with ⟨rfl, rfl, rfl⟩ | ⟨rfl, rfl⟩ | ⟨rfl, rfl⟩ | ⟨rfl, rfl⟩ <;> rfl
    refine ⟨_, hexec, ?_⟩
    cases hok : s.ownerOk k m sig
    · rw [State.ownerMsg_refused s hsw hok]
      obtain ⟨h1, h2, h3, h4, h5⟩ := s.ownerRefused_spec
      exact ⟨h1, h2, h3, nofun, fun _ => ⟨h4, h5⟩⟩
    · rw [State.ownerMsg_ok s hsw hok]
      exact ⟨rfl, rfl, rfl, fun _ => ⟨rfl, rfl⟩, nofun⟩
  · intro s k stream key hup hk hst
    exact ⟨fun hu => ⟨_, exec_keyProg_ok s hup hk hst (by decide) hu, State.ideStream_setIde_same _ _ _, rfl, rfl⟩,
      fun hu => ⟨_, exec_keyProg_ok s hup hk hst (by decide) hu, State.ideStream_setIde_same _ _ _, rfl, rfl⟩⟩
  · intro s stream hst h
    exact ⟨_, exec_kSetGo_ok s hst (by decide) h, s.kSetGo_spec stream 1⟩
  · intro s stream hst h
    exact ⟨_, exec_kSetGo_ok s hst (by decide) h, s.kSetGo_spec stream 0⟩
  · intro s htdi hv hsec hcm
    obtain ⟨h1, h2, -, h4⟩ := s.setTdi_spec (v := 1) (by decide) (ascii "LOCK_INTERFACE_RESPONSE")
    exact ⟨_, exec_lockInterfaceRequest_ok s htdi hv hsec hcm, h1, h2, h4⟩
  · intro s htdi
    obtain ⟨h1, h2, -, h4⟩ := s.setTdi_spec (v := 2) (by decide) (ascii "START_INTERFACE_RESPONSE")
    exact ⟨_, congrArg Host.Outcome.next (if_pos htdi), h1, h2, h4⟩
  · intro s
    exact ⟨_, rfl, s.setTdi_spec (v := 0) (by decide) (ascii "STOP_INTERFACE_RESPONSE")⟩

end Sys2Proof.Machine
end

section
/-!
PROOFS. The random source, indices, evidence and SPDM (R459–R482).
-/

namespace Sys2Proof.Machine

set_option Elab.async false

section
variable (s : State)

/-! ### Random bytes and signatures (R459) -/

/-- A state that differs only in what the random source was asked for. -/
def State.drawn (free requests : Nat) : State := { s with free := free, sec.requests := requests }

theorem State.drawBytes_shape (n : Nat) : ∃ free, (s.drawBytes n).1 = { s with free := free } := by
  induction n generalizing s with
  | zero => exact ⟨s.free, rfl⟩
  | succ n ih =>
    obtain ⟨free, h⟩ := ih { s with free := s.free + 1 }
    exact ⟨free, h⟩

theorem State.random_drawn {s u : State} {n : Nat} {e : List Byte} (h : s.random n = some (u, e)) : ∃ free requests, u = s.drawn free requests := by
  unfold State.random at h
  split at h
  · obtain ⟨free, hd⟩ := State.drawBytes_shape { s with sec.requests := (s.sec.requests + 1) % 2 ^ 20 } n
    have hu := congrArg Prod.fst (Option.some.inj h)
    exact ⟨free, _, hu.symm.trans hd⟩
  · simp at h

theorem State.ecdsa_drawn (key msg : List Byte) : ∃ free requests, (s.ecdsa key msg).1 = s.drawn free requests := by
  unfold State.ecdsa
  split
  · rename_i h
    exact State.random_drawn h
  · exact ⟨s.free, s.sec.requests, rfl⟩

/-- A failed health test takes the random source out of service (R459). -/
theorem State.rngFail_spec : s.rngFail.rngOk = false ∧ s.rngFail.sec.passes = 0 ∧ s.rngFail.mem.dram = s.mem.dram ∧
    s.rngFail.rget Fd.SEC_ERR_STAT_RNG_FAILS =
      satAdd (2 ^ (Fd.SEC_ERR_STAT_RNG_FAILS.hi + 1 - Fd.SEC_ERR_STAT_RNG_FAILS.lo) - 1) (s.rget Fd.SEC_ERR_STAT_RNG_FAILS) 1 := by
  obtain ⟨u, hu⟩ : ∃ u, u = ({ s with sec.passes := 0, sec.retestAt := s.clock } : State) := ⟨_, rfl⟩
  have hget (f : Fd) : u.rget f = s.rget f := by rw [hu]; rfl
  have hpass : u.sec.passes = 0 := by rw [hu]
  have hmem : u.mem = s.mem := by rw [hu]
  have hsame := ((u.rset Fd.SEC_STAT_RNG_OK 0).radd Fd.SEC_ERR_STAT_RNG_FAILS 1).raise_same (recNote 0x0C06 (secLoc 0 0xFF 0xFFFF))
  have hfail : s.rngFail = ((u.rset Fd.SEC_STAT_RNG_OK 0).radd Fd.SEC_ERR_STAT_RNG_FAILS 1).raise (recNote 0x0C06 (secLoc 0 0xFF 0xFFFF)) := by
    rw [hu, State.rngFail]
  rw [hfail]
  refine ⟨?_, ?_, ?_, ?_⟩
  · rw [State.rngOk, State.rget_raise _ _ _ (by unfold recSlot; decide), State.rget_radd_off _ _ (by decide),
      State.rget_rset_same _ _ _ (by decide) (by decide)]
    rfl
  · simp only [hsame.sec, State.radd_frame, State.rset_frame, hpass]
  · simp only [hsame.mem_dram, State.radd_frame, State.rset_frame, hmem]
  · rw [State.rget_raise _ _ _ (by unfold recSlot; decide), State.rget_radd_same _ _ _ (by decide) (by decide), State.rget_rset_off _ _ (by decide), hget]

section
variable (hok : s.rngOk = false) (ht : s.sec.retestAt + 25000000 ≤ s.clock)
include hok ht

theorem State.retest_due : ¬((s.rngOk || decide (s.clock < s.sec.retestAt + 25000000)) = true) := by
  rw [hok, Bool.false_or, decide_eq_true_iff]
  exact Nat.not_lt.mpr ht

theorem exec_randomSourceRetest_fails : exec (.randomSourceRetest false) s = .next s.rngFail :=
  congrArg Host.Outcome.next ((if_neg (s.retest_due hok ht)).trans (if_pos rfl))

theorem exec_randomSourceRetest_counts (hp : s.sec.passes < 9) :
    exec (.randomSourceRetest true) s = .next { s with sec.passes := s.sec.passes + 1, sec.retestAt := s.clock } :=
  congrArg Host.Outcome.next ((if_neg (s.retest_due hok ht)).trans ((if_neg nofun).trans (if_neg (Nat.not_le.mpr (Nat.succ_lt_succ hp)))))

theorem exec_randomSourceRetest_ends (hp : s.sec.passes = 9) :
    exec (.randomSourceRetest true) s = .next (({ s with sec.passes := 0 } : State).rset Fd.SEC_STAT_RNG_OK 1) :=
  congrArg Host.Outcome.next ((if_neg (s.retest_due hok ht)).trans ((if_neg nofun).trans (if_pos (Nat.succ_le_succ hp.ge))))

end

/-! ### Reserved indices (R468, R469) -/

/-- The state in which the outcome of a reservation is taken up. -/
def State.lmsTaken : State := { s with sec.lmsBusy := false, sec.lmsDone := none, sec.evWait := [] }

theorem exec_lmsReservationDone_refused (h : s.sec.lmsDone = some false) : exec .lmsReservationDone s =
    .next (s.sec.evWait.foldl (fun s _ => s.spdmError "LMS reservation") (s.lmsTaken.raise (recNote 0x0C07 (secLoc 3 0xFF 0xFFFF)))) := by
  refine congrArg Host.Outcome.next ?_
  rw [h]
  rfl

/-- Answers with errors write the reply alone. -/
theorem State.foldl_spdmError (name : String) (l : List Nat) : ∃ reply, l.foldl (fun s _ => s.spdmError name) s = { s with sec.reply := reply } :=
  foldl_keeps (p := fun u : State => ∃ reply, u = { s with sec.reply := reply }) _
    (fun _ _ ⟨_, hr⟩ => ⟨ascii "ERROR " ++ ascii name, (congrArg (fun v : State => v.spdmError name) hr).trans rfl⟩) l ⟨s.sec.reply, rfl⟩

/-- A refused reservation moves no index (R468). -/
theorem State.lmsRefused_spec (l : List Nat) :
    let t := l.foldl (fun s _ => s.spdmError "LMS reservation") (s.lmsTaken.raise (recNote 0x0C07 (secLoc 3 0xFF 0xFFFF)))
    t.sec.lmsBusy = false ∧ t.sec.lmsDone = none ∧ t.sec.evWait = [] ∧ t.sec.lmsNext = s.sec.lmsNext ∧ t.sec.nextIdx = s.sec.nextIdx := by
  have hsame := s.lmsTaken.raise_same (recNote 0x0C07 (secLoc 3 0xFF 0xFFFF))
  obtain ⟨reply, h⟩ := State.foldl_spdmError (s.lmsTaken.raise (recNote 0x0C07 (secLoc 3 0xFF 0xFFFF))) "LMS reservation" l
  intro t
  have ht : t.sec = { s.lmsTaken.sec with reply := reply } := by
    have e := congrArg State.sec h
    dsimp only at e
    rw [hsame.sec] at e
    exact e
  rw [ht]
  exact ⟨rfl, rfl, rfl, rfl, rfl⟩

theorem exec_lmsIndexLow_due (hd : s.sec.derived = true) (hlow : 2 ^ 40 - 2 ^ 36 < s.sec.nextIdx) (htop : s.sec.nextIdx ≤ 2 ^ 40)
    (hagain : ∀ c, s.sec.lowAt = some c → 2160000000000 ≤ s.clock - c) :
    exec .lmsIndexLow s = .next (({ s with sec.lowAt := some s.clock } : State).raise (recNote 0x0C08 (secLoc 3 0xFF 0xFFFF))) := by
  have hlt : 2 ^ 40 - s.nextQ < 2 ^ 36 := by
    unfold State.nextQ
    omega
  refine congrArg Host.Outcome.next ?_
  cases h : s.sec.lowAt with
  | none => exact if_pos (by simp only [hd, decide_eq_true hlt]; rfl)
  | some c => exact if_pos (by simp only [hd, decide_eq_true hlt, decide_eq_true (hagain c h)]; rfl)

/-! ### Evidence (R470) -/

theorem State.evidenceGo_ready {nonce : Nat} (hq : s.sec.nextIdx < 2 ^ 40) (hb : s.signBusy = false) (hr : s.indexReady = true) :
    s.evidenceGo nonce = s.signEvidence nonce := by
  unfold State.evidenceGo
  rw [if_neg (by simpa [State.nextQ] using hq), if_neg (by simp [hb]), if_pos hr]

theorem State.signEvidence_spec (nonce : Nat) : let t := s.signEvidence nonce; let body := s.evidenceBody nonce s.sec.nextIdx
    t.sec.reply = body ++ (s.ecdsa s.aliasKey body).2 ++ signHss s.sec.nextIdx body ∧ t.sec.nextIdx = s.sec.nextIdx + 1 ∧
    t.sec.lmsNext = s.sec.lmsNext ∧ t.regs = s.regs ∧ t.mem = s.mem := by
  obtain ⟨free, requests, h⟩ := s.ecdsa_drawn s.aliasKey (s.evidenceBody nonce s.sec.nextIdx)
  unfold State.signEvidence State.nextQ
  dsimp only
  rw [h]
  exact ⟨rfl, rfl, rfl, rfl, rfl⟩

/-- A request over a port that is up is heard. -/
theorem State.spdm_heard {night : Bool} (hup : s.secUp = true) (hn : night = true → s.rget Fd.HUB_CONN_STAT_NIGHT_UP = 1) :
    ¬((!s.secUp || (night && decide (s.rget Fd.HUB_CONN_STAT_NIGHT_UP = 0))) = true) := by
  cases night
  · simp [hup]
  · simp [hup, hn rfl]

theorem exec_getEvidence_heard {night : Bool} {nonce : Nat} (hup : s.secUp = true) (hn : night = true → s.rget Fd.HUB_CONN_STAT_NIGHT_UP = 1) :
    exec (.getEvidence night nonce) s =
      .next (if nbit (s.rget Fd.SEC_STAT_POLICY) 3 && !night then s.spdmError "RequestRefused" else s.evidenceGo nonce) :=
  congrArg Host.Outcome.next (if_neg (s.spdm_heard hup hn))

/-! ### SPDM (R480–R482) -/

theorem exec_getMeasurements {night : Bool} {nonce : List Byte} (hup : s.secUp = true) (hn : night = true → s.rget Fd.HUB_CONN_STAT_NIGHT_UP = 1) :
    exec (.spdmRequest night (.getMeasurements nonce)) s = .next ((s.ecdsa s.aliasKey (s.measurements ++ nonce)).1.answered
      (s.measurements ++ (s.ecdsa s.aliasKey (s.measurements ++ nonce)).2)) :=
  congrArg Host.Outcome.next (if_neg (s.spdm_heard hup hn))

theorem exec_keyExchange {night : Bool} {pub : List Byte} (hup : s.secUp = true) (hn : night = true → s.rget Fd.HUB_CONN_STAT_NIGHT_UP = 1) :
    exec (.spdmRequest night (.keyExchange pub)) s = .next (s.keyExchange night pub) :=
  congrArg Host.Outcome.next (if_neg (s.spdm_heard hup hn))

theorem exec_endSession {night : Bool} {k : Nat} (hup : s.secUp = true) (hn : night = true → s.rget Fd.HUB_CONN_STAT_NIGHT_UP = 1)
    (hk : (spGet (fun _ => none) s.sec.spdm k).isSome = true) : exec (.spdmRequest night (.endSession k)) s =
      .next (({ s with sec.spdm := spDel s.sec.spdm k, sec.spdmNight := s.sec.spdmNight.filter (· != k) } : State).answered (ascii "END_SESSION_ACK")) :=
  congrArg Host.Outcome.next ((if_neg (s.spdm_heard hup hn)).trans (if_pos hk))

/-- A key exchange opens the session it takes, and no other. -/
theorem State.keyExchange_spec {u : State} {night : Bool} {pub e : List Byte} {k : Nat}
    (hk : (List.range 4).find? (fun k => (spGet (fun _ => none) s.sec.spdm k).isNone) = some k) (hr : s.random 6 = some (u, e)) :
    let t := s.keyExchange night pub
    (spGet (fun _ => none) t.sec.spdm k).isSome = true ∧ (∀ j, j ≠ k → spGet (fun _ => none) t.sec.spdm j = spGet (fun _ => none) s.sec.spdm j) ∧
    t.regs = s.regs ∧ t.mem = s.mem := by
  obtain ⟨free, requests, hu⟩ := State.random_drawn hr
  obtain ⟨free', requests', hv⟩ := u.ecdsa_drawn devIdKey (publicKey e ++ pub)
  unfold State.keyExchange
  rw [hk]
  dsimp only
  rw [hr]
  dsimp only
  generalize hp : u.ecdsa devIdKey (publicKey e ++ pub) = p at hv
  obtain ⟨v, sig⟩ := p
  dsimp only at hv ⊢
  subst hv hu
  refine ⟨?_, fun j hj => ?_, rfl, rfl⟩
  · simp only [State.answered, spGet_spPut_same]
    rfl
  · simp only [State.answered, spGet_spPut_ne _ _ _ hj]
    rfl

end

/-- Settles O40: the random source, the indices, evidence and SPDM. -/
theorem securityEngine : Obligations.SecurityEngine := by
  refine ⟨?_, ?_, ?_, ?_, ?_, ?_, ?_, ?_, ?_, ?_, ?_, ?_⟩
  · intro s hok
    exact ⟨_, congrArg Host.Outcome.next (if_pos hok), s.rngFail_spec⟩
  · intro s hok ht
    refine ⟨fun hp => ⟨_, exec_randomSourceRetest_ends s hok ht hp, ?_, by simp only [State.rset_frame]⟩,
      fun hp => ⟨_, exec_randomSourceRetest_counts s hok ht hp, rfl⟩,
      ⟨_, exec_randomSourceRetest_fails s hok ht, s.rngFail_spec.1, s.rngFail_spec.2.1⟩⟩
    rw [State.rngOk, State.rget_rset_same _ _ _ (by decide) (by decide)]
    rfl
  · intro s hup hd hb hr
    exact ⟨_, congrArg Host.Outcome.next (if_pos (by simp [hup, hd, hb, hr])), rfl, rfl, rfl, rfl, rfl⟩
  · intro s hd hw
    refine ⟨_, ?_, rfl⟩
    refine congrArg Host.Outcome.next ?_
    rw [hd, hw]
    rfl
  · intro s hd
    exact ⟨_, exec_lmsReservationDone_refused s hd, s.lmsRefused_spec _⟩
  · intro s n hb
    refine ⟨_, congrArg Host.Outcome.next ?_, rfl⟩
    rw [hb]
  · intro s hd hlow htop hagain
    exact ⟨_, exec_lmsIndexLow_due s hd hlow htop hagain, (State.raise_same _ _).sec, fun hst => State.raise_hasRecord _ _ hst rfl⟩
  · intro s night nonce body hup hn hpol hq hb hr
    have hnot : ¬((nbit (s.rget Fd.SEC_STAT_POLICY) 3 && !night) = true) := by rcases hpol with h | h <;> simp [h]
    refine ⟨s.signEvidence nonce, ?_, s.signEvidence_spec nonce⟩
    rw [exec_getEvidence_heard s hup hn, if_neg hnot, s.evidenceGo_ready hq hb hr]
  · intro s nonce hup hpol
    refine ⟨s.spdmError "RequestRefused", ?_, rfl, rfl⟩
    rw [exec_getEvidence_heard s (night := false) hup (fun h => absurd h Bool.false_ne_true), if_pos (by simp [hpol])]
  · intro s night nonce hup hn
    obtain ⟨free, requests, h⟩ := s.ecdsa_drawn s.aliasKey (s.measurements ++ nonce)
    refine ⟨_, exec_getMeasurements s hup hn, rfl, ?_, ?_⟩
    all_goals rw [h]; rfl
  · intro s u night pub e k hup hn hk hr
    exact ⟨_, exec_keyExchange s hup hn, s.keyExchange_spec hk hr⟩
  · intro s night k hup hn hk
    refine ⟨_, exec_endSession s hup hn hk, ?_, rfl, rfl, rfl⟩
    simp only [State.answered, spGet_spDel]
    rfl

end Sys2Proof.Machine
end

section
/-!
PROOFS. The fault unit: held records, its ring, the flip mask, eviction (R597–R616).
-/

namespace Sys2Proof.Machine

set_option Elab.async false

/-! ### Words with some bits taken from another -/

theorem bit_eq_fld_self {n : Nat} (w : BitVec n) (i : Nat) : bit w i = (fld w i i).testBit 0 := by
  rw [bit_eq_fld w (hi := i) (lo := i) (Nat.le_refl i) (Nat.le_refl i), Nat.sub_self]

theorem bit_setFld_in {n : Nat} (w : BitVec n) {hi lo i : Nat} (v : Nat) (hl : lo ≤ i) (hh : i ≤ hi) (hn : hi < n) :
    bit (setFld w hi lo v) i = (v % 2 ^ (hi + 1 - lo)).testBit (i - lo) := by
  rw [bit_eq_fld _ hl hh, fld_setFld_same _ _ (hl.trans hh) hn]

theorem bit_setFld_out {n : Nat} (w : BitVec n) {hi lo i : Nat} (v : Nat) (hlh : lo ≤ hi) (hn : hi < n) (h : i < lo ∨ hi < i) :
    bit (setFld w hi lo v) i = bit w i := by
  rw [bit_eq_fld_self, fld_setFld_disj _ _ hlh hn h, ← bit_eq_fld_self]

theorem bit_putBits_in (w v : W64) {hi lo i : Nat} (hl : lo ≤ i) (hh : i ≤ hi) (hn : hi < 64) : bit (putBits w v hi lo) i = bit v i := by
  rw [putBits, bit_setFld_in _ _ hl hh hn, Nat.mod_eq_of_lt (fld_lt v hi lo), ← bit_eq_fld v hl hh]

theorem bit_putBits_out (w v : W64) {hi lo i : Nat} (hlh : lo ≤ hi) (hn : hi < 64) (h : i < lo ∨ hi < i) : bit (putBits w v hi lo) i = bit w i :=
  bit_setFld_out _ _ hlh hn h

/-- Words that agree on the bits of a field agree on the field. -/
theorem fld_congr {a b : W64} {hi lo : Nat} (h : ∀ i, lo ≤ i → i ≤ hi → bit a i = bit b i) : fld a hi lo = fld b hi lo := by
  refine Nat.eq_of_testBit_eq fun j => ?_
  by_cases hj : j < hi + 1 - lo
  · have hb (w : W64) : (fld w hi lo).testBit j = bit w (lo + j) := by
      rw [bit_eq_fld w (Nat.le_add_right lo j) (show lo + j ≤ hi by omega), Nat.add_sub_cancel_left]
    rw [hb, hb, h _ (by omega) (by omega)]
  · rw [fld_testBit, fld_testBit, decide_eq_false hj, Bool.false_and, Bool.false_and]

theorem fld_putBits_in (w v : W64) {hi lo a b : Nat} (hl : lo ≤ b) (hh : a ≤ hi) (hn : hi < 64) : fld (putBits w v hi lo) a b = fld v a b :=
  fld_congr fun _ h1 h2 => bit_putBits_in w v (hl.trans h1) (h2.trans hh) hn

theorem fld_putBits_out (w v : W64) {hi lo a b : Nat} (hlh : lo ≤ hi) (hn : hi < 64) (h : a < lo ∨ hi < b) : fld (putBits w v hi lo) a b = fld w a b :=
  fld_congr fun i h1 h2 => bit_putBits_out w v hlh hn (by omega)

theorem fld_bit (w : W64) (i : Nat) : fld w i i = if bit w i then 1 else 0 := by
  have h : fld w i i < 2 ^ (i + 1 - i) := fld_lt w i i
  have h2 : fld w i i < 2 := by simpa using h
  rw [bit_eq_fld_self]
  rcases Nat.lt_or_ge (fld w i i) 1 with hz | hz
  · rw [show fld w i i = 0 by omega]
    rfl
  · rw [show fld w i i = 1 by omega]
    rfl

theorem fld_bit_of_true {w : W64} {i : Nat} (h : bit w i = true) : fld w i i = 1 := by rw [fld_bit, h]; rfl
theorem fld_bit_of_false {w : W64} {i : Nat} (h : bit w i = false) : fld w i i = 0 := by rw [fld_bit, h]; rfl

section
variable (s : State)

theorem State.rget_rset_width {f : Fd} (v : Nat) {k : Nat} (h : f.lo ≤ f.hi) (hn : f.hi < 64) (hk : f.hi + 1 - f.lo = k) :
    (s.rset f v).rget f = v % 2 ^ k := by rw [State.rget_rset_same _ _ _ h hn, hk]

theorem State.rget_setRword_same {off : Nat} (w : W64) {f : Fd} (h : f.off = off) : (s.setRword off w).rget f = fld w f.hi f.lo := by
  rw [State.rget, h, State.rword_setRword_same]

theorem State.rget_setRword_ne {off : Nat} (w : W64) {f : Fd} (h : f.off ≠ off) : (s.setRword off w).rget f = s.rget f := by
  rw [State.rget, State.rword_setRword_ne _ _ h, State.rget]

/-! ### The release of a held record (R597) -/

theorem modAt_const {α : Type} (l : List α) (i : Nat) (x : α) : modAt (fun _ => x) l i = l.set i x := by
  induction l generalizing i with
  | nil => rfl
  | cons y l ih =>
    cases i with
    | zero => rfl
    | succ i => rw [modAt, ih, List.set_cons_succ]

/-- The state in which the log's entry `i` is `r`. -/
def State.logged (i : Nat) (r : FaultRec) : State := { s with flt.log := modAt (fun _ => r) s.flt.log i }

theorem exec_recordHoldEnd_due {seq i : Nat} {r : FaultRec} (hi : findIdxFrom (fun q => q.seq == seq && q.held) s.flt.log 0 = some i)
    (hr : s.flt.log[i]? = some r) (ht : s.rget Fd.FLT_CTL_COAL_MS * 25000 ≤ s.clock - r.timestamp) :
    exec (.recordHoldEnd seq) s = .next ((s.logged i { r with held := false }).deliver { r with held := false }) := by
  refine congrArg Host.Outcome.next ?_
  rw [hi]
  dsimp only
  rw [hr]
  exact if_pos ht

/-! ### The fault ring's control (R606, R607) -/

/-- The word a write of FLT_RING_CTL leaves. -/
def ringCtlWord (old v : W64) : W64 :=
  putBits (if bit old 63 then putBits (putBits old v 54 54) v 42 32 else putBits (putBits (putBits old v 54 54) v 42 32) v 62 55) v 63 63

/-- The state with a word of FLT_RING_CTL written. -/
def State.ringSet (w : W64) : State := s.setRword Fd.FLT_RING_CTL_EN.off w

/-- The fault ring begins at the next record. -/
def State.ringBegun : State := { s with flt.ringFrom := s.flt.seqNext }

theorem State.ringCtlWrite_eq (v : W64) : s.ringCtlWrite v =
    if !bit (s.rword Fd.FLT_RING_CTL_EN.off) 63 && bit v 63 then
      ((s.ringSet (ringCtlWord (s.rword Fd.FLT_RING_CTL_EN.off) v)).ringBegun.rset Fd.FLT_RING_PTR_HEAD
        (s.ringSet (ringCtlWord (s.rword Fd.FLT_RING_CTL_EN.off) v)).flt.seqNext).rset Fd.FLT_RING_PTR_DELIVERED
        (s.ringSet (ringCtlWord (s.rword Fd.FLT_RING_CTL_EN.off) v)).flt.seqNext
    else s.ringSet (ringCtlWord (s.rword Fd.FLT_RING_CTL_EN.off) v) := by
  unfold State.ringCtlWrite ringCtlWord State.ringBegun State.ringSet
  rfl

theorem State.ringCtlWrite_starts {v : W64} (he : bit (s.rword Fd.FLT_RING_CTL_EN.off) 63 = false) (hv : bit v 63 = true) :
    s.ringCtlWrite v = ((s.ringSet (ringCtlWord (s.rword Fd.FLT_RING_CTL_EN.off) v)).ringBegun.rset Fd.FLT_RING_PTR_HEAD s.flt.seqNext).rset
      Fd.FLT_RING_PTR_DELIVERED s.flt.seqNext := by
  have hflt (w : W64) : (s.ringSet w).flt = s.flt := rfl
  rw [State.ringCtlWrite_eq, if_pos (by rw [he, hv]; rfl), hflt]

theorem State.ringCtlWrite_runs {v : W64} (he : bit (s.rword Fd.FLT_RING_CTL_EN.off) 63 = true) :
    s.ringCtlWrite v = s.ringSet (ringCtlWord (s.rword Fd.FLT_RING_CTL_EN.off) v) := by
  rw [State.ringCtlWrite_eq, if_neg (by rw [he]; exact Bool.false_ne_true)]

theorem State.rget_ringSet (w : W64) {f : Fd} (hf : f.off = Fd.FLT_RING_CTL_EN.off) : (s.ringSet w).rget f = fld w f.hi f.lo := s.rget_setRword_same w hf

theorem State.ringSet_frame (w : W64) : s.SameRegs (s.ringSet w) (· = Fd.FLT_RING_CTL_EN.off) ∧ (s.ringSet w).mem = s.mem ∧ (s.ringSet w).flt = s.flt :=
  ⟨fun _ ho => State.rword_setRword_ne _ _ ho, rfl, rfl⟩

theorem State.ringBegun_mem : s.ringBegun.mem = s.mem := (rfl)

theorem State.rget_ringBegun (f : Fd) : s.ringBegun.rget f = s.rget f := rfl

theorem bit_of_rget_one {f : Fd} (hf : f.hi = f.lo) (h : s.rget f = 1) : bit (s.rword f.off) f.lo = true := by
  rw [State.rget, hf, fld_bit] at h
  by_contra hb
  simp [hb] at h

theorem bit_of_rget_zero {f : Fd} (hf : f.hi = f.lo) (h : s.rget f = 0) : bit (s.rword f.off) f.lo = false := by
  rw [State.rget, hf, fld_bit] at h
  by_contra hb
  simp [hb] at h

theorem ringCtlWord_on {old v : W64} (he : bit old 63 = true) : fld (ringCtlWord old v) 63 63 = fld v 63 63 ∧
    fld (ringCtlWord old v) 62 58 = fld old 62 58 ∧ fld (ringCtlWord old v) 57 55 = fld old 57 55 ∧ fld (ringCtlWord old v) 54 54 = fld v 54 54 := by
  rw [ringCtlWord, if_pos he]
  refine ⟨fld_putBits_in _ _ (by decide) (by decide) (by decide), ?_, ?_, ?_⟩
  all_goals rw [fld_putBits_out _ _ (by decide) (by decide) (by decide), fld_putBits_out _ _ (by decide) (by decide) (by decide)]
  · exact fld_putBits_out _ _ (by decide) (by decide) (by decide)
  · exact fld_putBits_out _ _ (by decide) (by decide) (by decide)
  · exact fld_putBits_in _ _ (by decide) (by decide) (by decide)

theorem ringCtlWord_off {old v : W64} (he : bit old 63 = false) : fld (ringCtlWord old v) 63 63 = fld v 63 63 ∧
    fld (ringCtlWord old v) 62 58 = fld v 62 58 ∧ fld (ringCtlWord old v) 57 55 = fld v 57 55 ∧ fld (ringCtlWord old v) 42 32 = fld v 42 32 := by
  rw [ringCtlWord, if_neg (by simp [he])]
  refine ⟨fld_putBits_in _ _ (by decide) (by decide) (by decide), ?_, ?_, ?_⟩
  all_goals rw [fld_putBits_out _ _ (by decide) (by decide) (by decide)]
  · exact fld_putBits_in _ _ (by decide) (by decide) (by decide)
  · exact fld_putBits_in _ _ (by decide) (by decide) (by decide)
  · rw [fld_putBits_out _ _ (by decide) (by decide) (by decide)]
    exact fld_putBits_in _ _ (by decide) (by decide) (by decide)

/-- The fault ring's interrupt is due no more. -/
def State.ringIrqNow : State := { s with flt.ringIrqDue := false, flt.ringIrqAt := some s.clock }

theorem exec_faultRingIrq_due (hd : s.flt.ringIrqDue = true) (hl : ∀ c, s.flt.ringIrqAt = some c → 2500 ≤ s.clock - c) : exec .faultRingIrq s =
    .next (s.ringIrqNow.msi (s.rget Fd.FLT_RING_CTL_VECTOR)) := by
  refine congrArg Host.Outcome.next ?_
  cases h : s.flt.ringIrqAt with
  | none => exact if_pos (by rw [hd]; rfl)
  | some c => exact if_pos (by simp only [hd, decide_eq_true (hl c h)]; rfl)

/-! ### The flip mask armed (R609) -/

/-- The word a write of FLT_INJ_CTL first leaves. -/
def injCtlWord (old v : W64) : W64 :=
  let w := putBits (putBits (putBits old v 59 58) v 55 52) v 44 33
  let w := if bit v 61 then setFld w 61 61 0 else w
  if bit v 60 then setFld w 60 60 0 else w

theorem fld_ite_setFld (c : Bool) (w : W64) {hi lo hi' lo' : Nat} (x : Nat) (h : lo ≤ hi) (hn : hi < 64) (hd : hi' < lo ∨ hi < lo') :
    fld (if c then setFld w hi lo x else w) hi' lo' = fld w hi' lo' := by
  split
  · exact fld_setFld_disj w x h hn hd
  · rfl

theorem fld_injCtlWord {old v : W64} {hi lo : Nat} (h60 : hi < 60 ∨ 60 < lo) (h61 : hi < 61 ∨ 61 < lo) :
    fld (injCtlWord old v) hi lo = fld (putBits (putBits (putBits old v 59 58) v 55 52) v 44 33) hi lo := by
  unfold injCtlWord
  dsimp only
  rw [fld_ite_setFld _ _ _ (by decide) (by decide) h60, fld_ite_setFld _ _ _ (by decide) (by decide) h61]

theorem injCtlWord_spec (old v : W64) : fld (injCtlWord old v) 55 52 = fld v 55 52 ∧ fld (injCtlWord old v) 59 58 = fld v 59 58 ∧
    fld (injCtlWord old v) 44 39 = fld v 44 39 ∧ fld (injCtlWord old v) 38 33 = fld v 38 33 ∧ fld (injCtlWord old v) 63 63 = fld old 63 63 ∧
    (bit v 61 = true → fld (injCtlWord old v) 61 61 = 0) ∧ (bit v 60 = true → fld (injCtlWord old v) 60 60 = 0) := by
  refine ⟨?_, ?_, ?_, ?_, ?_, fun h => ?_, fun h => ?_⟩
  · rw [fld_injCtlWord (by decide) (by decide), fld_putBits_out _ _ (by decide) (by decide) (by decide), fld_putBits_in _ _ (by decide) (by decide) (by decide)]
  · rw [fld_injCtlWord (by decide) (by decide), fld_putBits_out _ _ (by decide) (by decide) (by decide), fld_putBits_out _ _ (by decide) (by decide) (by decide),
      fld_putBits_in _ _ (by decide) (by decide) (by decide)]
  · rw [fld_injCtlWord (by decide) (by decide), fld_putBits_in _ _ (by decide) (by decide) (by decide)]
  · rw [fld_injCtlWord (by decide) (by decide), fld_putBits_in _ _ (by decide) (by decide) (by decide)]
  · rw [fld_injCtlWord (by decide) (by decide), fld_putBits_out _ _ (by decide) (by decide) (by decide), fld_putBits_out _ _ (by decide) (by decide) (by decide),
      fld_putBits_out _ _ (by decide) (by decide) (by decide)]
  · unfold injCtlWord
    dsimp only
    rw [fld_ite_setFld _ _ _ (by decide) (by decide) (by decide), if_pos h, fld_setFld_same _ _ (by decide) (by decide)]
    rfl
  · unfold injCtlWord
    dsimp only
    rw [if_pos h, fld_setFld_same _ _ (by decide) (by decide)]
    rfl

/-- A write of FLT_INJ_CTL locks it where it says so. -/
def State.injLocked (b : Bool) : State := if b then s.rset Fd.FLT_INJ_CTL_LOCK 1 else s

/-- The state with the word of FLT_INJ_CTL as a write first leaves it. -/
def State.injWritten (v : W64) : State := s.setRword Fd.FLT_INJ_CTL_ARM.off (injCtlWord (s.rword Fd.FLT_INJ_CTL_ARM.off) v)

theorem State.injLocked_spec (b : Bool) : (∀ f : Fd, f.off = Fd.FLT_INJ_CTL_LOCK.off → f.hi < 63 → (s.injLocked b).rget f = s.rget f) ∧
    (s.injLocked b).rget Fd.FLT_INJ_CTL_LOCK = (if b then 1 else s.rget Fd.FLT_INJ_CTL_LOCK) ∧
    s.SameRegs (s.injLocked b) (· = Fd.FLT_INJ_CTL_ARM.off) ∧ (s.injLocked b).mem = s.mem := by
  cases b
  · exact ⟨fun _ _ _ => rfl, rfl, fun _ _ => rfl, rfl⟩
  · refine ⟨fun f _ hf => State.rget_rset_ne _ _ _ _ (by decide) (by decide) (.inr (.inl hf)), State.rget_rset_same _ _ _ (by decide) (by decide),
      fun off h => State.rword_rset_ne _ _ _ h, ?_⟩
    show (s.rset Fd.FLT_INJ_CTL_LOCK 1).mem = s.mem
    simp only [State.rset_frame]

theorem State.rget_injWritten (v : W64) {f : Fd} (hf : f.off = Fd.FLT_INJ_CTL_ARM.off) :
    (s.injWritten v).rget f = fld (injCtlWord (s.rword Fd.FLT_INJ_CTL_ARM.off) v) f.hi f.lo := s.rget_setRword_same _ hf

theorem State.rget_injWritten_ne (v : W64) {f : Fd} (hf : f.off ≠ Fd.FLT_INJ_CTL_ARM.off) : (s.injWritten v).rget f = s.rget f :=
  s.rget_setRword_ne _ hf

/-- What an arm is refused for (R609). -/
theorem State.armRefused_injWritten (v : W64) (hl : s.rget Fd.FLT_INJ_CTL_LOCK = 0) : ((s.injWritten v).armRefused = false ↔
    injKindOk (fld v 55 52) s.injLoc = true ∧ s.tdiLocked = false ∧ s.injPresent s.injLoc = true ∧ s.fencedIn (injUnit s.injLoc) = false ∧
    nfld (s.rget Fd.FLT_INJ_LOC_LOCATION) 63 50 = s.devId ∧ (fld v 55 52 = 2 → fld v 44 39 ≤ 35 ∧ fld v 38 33 ≤ 35)) := by
  obtain ⟨hkind, -, hb, ha, hlock, -, -⟩ := injCtlWord_spec (s.rword Fd.FLT_INJ_CTL_ARM.off) v
  have hloc : (s.injWritten v).injLoc = s.injLoc := by
    unfold State.injLoc
    rw [s.rget_injWritten_ne v (by decide)]
  have hdev : (s.injWritten v).devId = s.devId := by
    unfold State.devId
    rw [s.rget_injWritten_ne v (by decide), s.rget_injWritten_ne v (by decide)]
  have htdi : (s.injWritten v).tdiLocked = s.tdiLocked := by
    unfold State.tdiLocked State.tdi
    rw [s.rget_injWritten_ne v (by decide)]
  have hk : (s.injWritten v).rget Fd.FLT_INJ_CTL_KIND = fld v 55 52 := (s.rget_injWritten v (f := Fd.FLT_INJ_CTL_KIND) rfl).trans hkind
  have hA : (s.injWritten v).rget Fd.FLT_INJ_CTL_SYM_A = fld v 38 33 := (s.rget_injWritten v (f := Fd.FLT_INJ_CTL_SYM_A) rfl).trans ha
  have hB : (s.injWritten v).rget Fd.FLT_INJ_CTL_SYM_B = fld v 44 39 := (s.rget_injWritten v (f := Fd.FLT_INJ_CTL_SYM_B) rfl).trans hb
  have hL : (s.injWritten v).rget Fd.FLT_INJ_CTL_LOCK = 0 := ((s.rget_injWritten v (f := Fd.FLT_INJ_CTL_LOCK) rfl).trans hlock).trans hl
  have hpres (l : Loc) : (s.injWritten v).injPresent l = s.injPresent l := rfl
  have hfence (u : FUnit) : (s.injWritten v).fencedIn u = s.fencedIn u := rfl
  unfold State.armRefused
  rw [hloc, hdev, htdi, hk, hA, hB, hL, s.rget_injWritten_ne v (by decide)]
  dsimp only
  rw [hpres, hfence]
  simp only [Bool.or_eq_false_iff, Bool.and_eq_false_iff, beq_eq_false_iff_ne, bne_eq_false_iff_eq, Bool.not_eq_false', decide_eq_false_iff_not, gt_iff_lt,
    Nat.not_lt]
  constructor
  · rintro ⟨⟨⟨⟨⟨⟨-, h1⟩, h2⟩, h3⟩, h4⟩, h5⟩, h6⟩
    exact ⟨h2, h1, h3, h4, h5, fun hk2 => (h6.resolve_left (not_not.mpr hk2)).symm⟩
  · rintro ⟨h2, h1, h3, h4, h5, h6⟩
    refine ⟨⟨⟨⟨⟨⟨by decide, h1⟩, h2⟩, h3⟩, h4⟩, h5⟩, ?_⟩
    by_cases hk2 : fld v 55 52 = 2
    · exact .inr (h6 hk2).symm
    · exact .inl hk2

/-- What a write of FLT_INJ_CTL leaves of its word beside ARM and REFUSED. -/
structure State.InjWrote (s t : State) (v : W64) : Prop where
  kind : t.rget Fd.FLT_INJ_CTL_KIND = fld v 55 52
  mode : t.rget Fd.FLT_INJ_CTL_MODE = fld v 59 58
  lock : t.rget Fd.FLT_INJ_CTL_LOCK = if bit v 63 then 1 else s.rget Fd.FLT_INJ_CTL_LOCK
  regs : s.SameRegs t (· = Fd.FLT_INJ_CTL_ARM.off)
  mem : t.mem = s.mem

/-- ARM and REFUSED set as a write decides. -/
def State.armSet (a r : Nat) : State := (s.rset Fd.FLT_INJ_CTL_ARM a).rset Fd.FLT_INJ_CTL_REFUSED r

theorem State.armSet_spec (v : W64) {a r : Nat} (ha : a < 2) (hr : r < 2) : s.InjWrote (((s.injWritten v).armSet a r).injLocked (bit v 63)) v ∧
    (((s.injWritten v).armSet a r).injLocked (bit v 63)).rget Fd.FLT_INJ_CTL_ARM = a ∧
    (((s.injWritten v).armSet a r).injLocked (bit v 63)).rget Fd.FLT_INJ_CTL_REFUSED = r := by
  obtain ⟨hkind, hmode, -, -, hlock, -, -⟩ := injCtlWord_spec (s.rword Fd.FLT_INJ_CTL_ARM.off) v
  obtain ⟨hget, hlk, hregs, hmem⟩ := ((s.injWritten v).armSet a r).injLocked_spec (bit v 63)
  have hset (f : Fd) (h1 : f.hi < 60 ∨ 60 < f.lo) (h2 : f.hi < 62 ∨ 62 < f.lo) : ((s.injWritten v).armSet a r).rget f = (s.injWritten v).rget f := by
    rw [State.armSet, State.rget_rset_ne _ _ _ _ (by decide) (by decide) (.inr h1), State.rget_rset_ne _ _ _ _ (by decide) (by decide) (.inr h2)]
  refine ⟨⟨?_, ?_, ?_, fun off ho => ?_, ?_⟩, ?_, ?_⟩
  · rw [hget Fd.FLT_INJ_CTL_KIND rfl (by decide), hset _ (by decide) (by decide)]
    exact (s.rget_injWritten v (f := Fd.FLT_INJ_CTL_KIND) rfl).trans hkind
  · rw [hget Fd.FLT_INJ_CTL_MODE rfl (by decide), hset _ (by decide) (by decide)]
    exact (s.rget_injWritten v (f := Fd.FLT_INJ_CTL_MODE) rfl).trans hmode
  · rw [hlk, hset _ (by decide) (by decide)]
    exact congrArg (fun n => if bit v 63 then 1 else n) ((s.rget_injWritten v (f := Fd.FLT_INJ_CTL_LOCK) rfl).trans hlock)
  · have hne : off ≠ Fd.FLT_INJ_CTL_ARM.off := ho
    rw [hregs off ho, State.armSet, State.rword_rset_ne _ Fd.FLT_INJ_CTL_REFUSED _ hne, State.rword_rset_ne _ Fd.FLT_INJ_CTL_ARM _ hne, State.injWritten,
      State.rword_setRword_ne _ _ hne]
  · rw [hmem]
    simp only [State.armSet, State.rset_frame]
    rfl
  · rw [hget Fd.FLT_INJ_CTL_ARM rfl (by decide), State.armSet, State.rget_rset_ne _ _ _ _ (by decide) (by decide) (by decide), State.rget_rset_same _ _ _ (by decide) (by decide)]
    exact Nat.mod_eq_of_lt ha
  · rw [hget Fd.FLT_INJ_CTL_REFUSED rfl (by decide), State.armSet, State.rget_rset_same _ _ _ (by decide) (by decide)]
    exact Nat.mod_eq_of_lt hr

theorem exec_arm_eq (v : W64) : exec (.arm v) s = .next ((if !bit v 62 then (s.injWritten v).rset Fd.FLT_INJ_CTL_ARM 0
    else if (s.injWritten v).armRefused then (s.injWritten v).armSet 0 1 else (s.injWritten v).armSet 1 0).injLocked (bit v 63)) := rfl

/-- A write that does not arm disarms, and clears what it is told to. -/
theorem State.disarmed_spec (v : W64) : let t := ((s.injWritten v).rset Fd.FLT_INJ_CTL_ARM 0).injLocked (bit v 63)
    t.rget Fd.FLT_INJ_CTL_ARM = 0 ∧ (bit v 61 = true → t.rget Fd.FLT_INJ_CTL_DONE = 0) ∧ (bit v 60 = true → t.rget Fd.FLT_INJ_CTL_REFUSED = 0) ∧
    s.SameRegs t (· = Fd.FLT_INJ_CTL_ARM.off) ∧ t.mem = s.mem := by
  obtain ⟨-, -, -, -, -, hdone, href⟩ := injCtlWord_spec (s.rword Fd.FLT_INJ_CTL_ARM.off) v
  obtain ⟨hget, -, hregs, hmem⟩ := ((s.injWritten v).rset Fd.FLT_INJ_CTL_ARM 0).injLocked_spec (bit v 63)
  refine ⟨?_, fun h => ?_, fun h => ?_, fun off ho => ?_, ?_⟩
  · rw [hget Fd.FLT_INJ_CTL_ARM rfl (by decide), State.rget_rset_same _ _ _ (by decide) (by decide)]
    rfl
  · rw [hget Fd.FLT_INJ_CTL_DONE rfl (by decide), State.rget_rset_ne _ _ _ _ (by decide) (by decide) (by decide)]
    exact (s.rget_injWritten v (f := Fd.FLT_INJ_CTL_DONE) rfl).trans (hdone h)
  · rw [hget Fd.FLT_INJ_CTL_REFUSED rfl (by decide), State.rget_rset_ne _ _ _ _ (by decide) (by decide) (by decide)]
    exact (s.rget_injWritten v (f := Fd.FLT_INJ_CTL_REFUSED) rfl).trans (href h)
  · have hne : off ≠ Fd.FLT_INJ_CTL_ARM.off := ho
    rw [hregs off ho, State.rword_rset_ne _ Fd.FLT_INJ_CTL_ARM _ hne, State.injWritten, State.rword_setRword_ne _ _ hne]
  · rw [hmem]
    simp only [State.rset_frame]
    rfl

/-! ### Eviction (R611, R616) -/

/-- The word a write of FLT_PACE_CTL leaves, before it locks. -/
def paceCtlWord (old v : W64) : W64 := putBits (putBits (putBits old v 62 62) v 55 32) v 15 0

theorem paceCtlWord_spec (old v : W64) : fld (paceCtlWord old v) 62 62 = fld v 62 62 ∧ fld (paceCtlWord old v) 55 48 = fld v 55 48 ∧
    fld (paceCtlWord old v) 47 32 = fld v 47 32 ∧ fld (paceCtlWord old v) 15 0 = fld v 15 0 ∧ fld (paceCtlWord old v) 63 63 = fld old 63 63 := by
  unfold paceCtlWord
  refine ⟨?_, ?_, ?_, fld_putBits_in _ _ (by decide) (by decide) (by decide), ?_⟩
  all_goals rw [fld_putBits_out _ _ (by decide) (by decide) (by decide)]
  · rw [fld_putBits_out _ _ (by decide) (by decide) (by decide)]
    exact fld_putBits_in _ _ (by decide) (by decide) (by decide)
  · exact fld_putBits_in _ _ (by decide) (by decide) (by decide)
  · exact fld_putBits_in _ _ (by decide) (by decide) (by decide)
  · rw [fld_putBits_out _ _ (by decide) (by decide) (by decide)]
    exact fld_putBits_out _ _ (by decide) (by decide) (by decide)

/-- The state with a word of FLT_PACE_CTL written. -/
def State.paceSet (w : W64) : State := s.setRword Fd.FLT_PACE_CTL_EVICT.off w

/-- The marks of one Frond's eviction cleared. -/
def State.paceClear (f : Nat) : State := (s.rset (Fd.FLT_PACE_EVICTED f) 0).rset (Fd.FLT_PACE_DENIED f) 0

/-- The marks of eviction cleared. -/
def State.paceCleared : State := (List.range 16).foldl State.paceClear s

/-- A write of FLT_PACE_CTL locks it where it says so, and a change of the mask is announced. -/
def State.paceEnds (b : Bool) (before : Nat) : State :=
  let u := if b then s.rset Fd.FLT_PACE_CTL_LOCK 1 else s
  if u.schedMask ≠ before then u.capBump else u

theorem exec_evictWrite_eq (v : W64) : exec (.evictWrite v) s = .next ((if s.rget Fd.FLT_PACE_CTL_LOCK = 1 then s
    else if bit v 62 then s.paceSet (paceCtlWord (s.rword Fd.FLT_PACE_CTL_EVICT.off) v)
    else (s.paceSet (paceCtlWord (s.rword Fd.FLT_PACE_CTL_EVICT.off) v)).paceCleared).paceEnds (bit v 63) s.schedMask) := rfl

theorem State.capBump_keeps : s.capBump.regs = s.regs ∧ s.capBump.part = s.part ∧ s.capBump.mem = s.mem ∧ s.capBump.frd = s.frd := by
  have hmsi (u : State) (n : Nat) : (u.msi n).regs = u.regs ∧ (u.msi n).part = u.part ∧ (u.msi n).mem = u.mem ∧ (u.msi n).frd = u.frd := by
    unfold State.msi
    split <;> exact ⟨rfl, rfl, rfl, rfl⟩
  unfold State.capBump
  dsimp only
  split
  · exact hmsi _ _
  · exact ⟨rfl, rfl, rfl, rfl⟩

theorem State.paceEnds_spec (b : Bool) (before : Nat) :
    (∀ f : Fd, (f.off ≠ Fd.FLT_PACE_CTL_LOCK.off ∨ f.hi < 63) → (s.paceEnds b before).rget f = s.rget f) ∧
    (s.paceEnds b before).rget Fd.FLT_PACE_CTL_LOCK = (if b then 1 else s.rget Fd.FLT_PACE_CTL_LOCK) ∧
    (s.paceEnds b before).mem = s.mem ∧ (s.paceEnds b before).frd = s.frd := by
  obtain ⟨u, hu⟩ : ∃ u, u = if b then s.rset Fd.FLT_PACE_CTL_LOCK 1 else s := ⟨_, rfl⟩
  have hends : (s.paceEnds b before).regs = u.regs ∧ (s.paceEnds b before).part = u.part ∧ (s.paceEnds b before).mem = u.mem ∧
      (s.paceEnds b before).frd = u.frd := by
    unfold State.paceEnds
    rw [← hu]
    dsimp only
    split
    · exact u.capBump_keeps
    · exact ⟨rfl, rfl, rfl, rfl⟩
  obtain ⟨hregs, hpart, hmem, hfrd⟩ := hends
  have hget (f : Fd) : (s.paceEnds b before).rget f = u.rget f := State.rget_congr hregs hpart f
  rw [hmem, hfrd]
  cases b
  · rw [if_neg Bool.false_ne_true] at hu
    subst hu
    exact ⟨fun f _ => hget f, hget _, rfl, rfl⟩
  · rw [if_pos rfl] at hu
    refine ⟨fun f hf => ?_, ?_, ?_, ?_⟩
    · rw [hget, hu]
      exact State.rget_rset_ne _ _ _ _ (by decide) (by decide) (hf.imp id .inl)
    · rw [hget, hu]
      exact State.rget_rset_same _ _ _ (by decide) (by decide)
    · rw [hu]
      simp only [State.rset_frame]
    · rw [hu]
      simp only [State.rset_frame]

theorem State.rget_paceSet (w : W64) {f : Fd} (hf : f.off = Fd.FLT_PACE_CTL_EVICT.off) : (s.paceSet w).rget f = fld w f.hi f.lo := s.rget_setRword_same w hf
theorem State.paceSet_mem (w : W64) : (s.paceSet w).mem = s.mem := (rfl)
theorem State.rget_paceSet_ne (w : W64) {f : Fd} (hf : f.off ≠ Fd.FLT_PACE_CTL_EVICT.off) : (s.paceSet w).rget f = s.rget f := s.rget_setRword_ne w hf

theorem State.paceCleared_frame {f : Fd} (hf : f.off < 0xF0100) : s.paceCleared.rget f = s.rget f ∧ s.paceCleared.mem = s.mem := by
  refine foldl_keeps (p := fun u : State => u.rget f = s.rget f ∧ u.mem = s.mem) _ (fun u i ⟨h1, h2⟩ => ⟨?_, ?_⟩) _ ⟨rfl, rfl⟩
  · rw [State.paceClear, State.rget_rset_off _ _ (by simp only [Fd.FLT_PACE_DENIED]; omega),
      State.rget_rset_off _ _ (by simp only [Fd.FLT_PACE_EVICTED]; omega), h1]
  · simpa only [State.paceClear, State.rset_frame] using h2

theorem State.paceClear_same (f : Nat) : (s.paceClear f).rget (Fd.FLT_PACE_EVICTED f) = 0 ∧ (s.paceClear f).rget (Fd.FLT_PACE_DENIED f) = 0 := by
  unfold State.paceClear
  refine ⟨?_, ?_⟩
  · rw [State.rget_rset_ne _ _ _ _ (by simp [Fd.FLT_PACE_DENIED]) (by simp [Fd.FLT_PACE_DENIED]) (by simp [Fd.FLT_PACE_DENIED, Fd.FLT_PACE_EVICTED]),
      State.rget_rset_same _ _ _ (by simp [Fd.FLT_PACE_EVICTED]) (by simp [Fd.FLT_PACE_EVICTED]), Nat.zero_mod]
  · rw [State.rget_rset_same _ _ _ (by simp [Fd.FLT_PACE_DENIED]) (by simp [Fd.FLT_PACE_DENIED]), Nat.zero_mod]

theorem State.paceClear_ne {f a : Nat} (h : f ≠ a) : (s.paceClear a).rget (Fd.FLT_PACE_EVICTED f) = s.rget (Fd.FLT_PACE_EVICTED f) ∧
    (s.paceClear a).rget (Fd.FLT_PACE_DENIED f) = s.rget (Fd.FLT_PACE_DENIED f) := by
  unfold State.paceClear
  refine ⟨?_, ?_⟩
  all_goals rw [State.rget_rset_off _ _ (by simp only [Fd.FLT_PACE_DENIED, Fd.FLT_PACE_EVICTED]; omega),
    State.rget_rset_off _ _ (by simp only [Fd.FLT_PACE_DENIED, Fd.FLT_PACE_EVICTED]; omega)]

/-- Clearing over a list of Fronds clears each of them. -/
theorem State.foldl_paceClear (l : List Nat) (u : State) (f : Nat)
    (h : f ∈ l ∨ (u.rget (Fd.FLT_PACE_EVICTED f) = 0 ∧ u.rget (Fd.FLT_PACE_DENIED f) = 0)) :
    (l.foldl State.paceClear u).rget (Fd.FLT_PACE_EVICTED f) = 0 ∧
    (l.foldl State.paceClear u).rget (Fd.FLT_PACE_DENIED f) = 0 := by
  induction l generalizing u with
  | nil => exact h.resolve_left (by simp)
  | cons a l ih =>
    rw [List.foldl_cons]
    refine ih _ ?_
    by_cases ha : f = a
    · exact .inr (ha ▸ u.paceClear_same f)
    · obtain ⟨he, hd⟩ := u.paceClear_ne ha
      rw [he, hd]
      exact h.imp_left fun h => (List.mem_cons.mp h).resolve_left ha

theorem State.paceCleared_marks {f : Nat} (hf : f < 16) : s.paceCleared.rget (Fd.FLT_PACE_EVICTED f) = 0 ∧ s.paceCleared.rget (Fd.FLT_PACE_DENIED f) = 0 :=
  State.foldl_paceClear (List.range 16) s f (.inl (List.mem_range.mpr hf))

end

/-- Settles O47: the release of a held record, the fault ring's control and interrupt, arms, and the writes of FLT_PACE_CTL. -/
theorem faultUnit : Obligations.FaultUnit := by
  refine ⟨?_, ?_, ?_, ?_, ?_, ?_, ?_, ?_, ?_, ?_⟩
  · intro s seq i r hi hr ht
    have hsame := (s.logged i { r with held := false }).deliver_same { r with held := false }
    refine ⟨_, exec_recordHoldEnd_due s hi hr ht, ?_, fun off ho => hsame.rword off ho, hsame.mem_dram, hsame.frd⟩
    rw [State.deliver_log]
    exact modAt_const _ _ _
  · intro s v hen hv
    have he := bit_of_rget_zero s (f := Fd.FLT_RING_CTL_EN) rfl hen
    obtain ⟨h1, h2, h3, h4⟩ := ringCtlWord_off (v := v) he
    refine ⟨_, congrArg Host.Outcome.next (s.ringCtlWrite_starts he hv), ?_, ?_, ?_, ?_, ?_, ?_, ?_⟩
    · rw [State.rget_rset_off _ _ (by decide), State.rget_rset_off _ _ (by decide), State.rget_ringBegun, s.rget_ringSet _ (f := Fd.FLT_RING_CTL_EN) rfl]
      exact h1.trans (fld_bit_of_true hv)
    · rw [State.rget_rset_ne _ _ _ _ (by decide) (by decide) (by decide), State.rget_rset_width _ _ (k := 32) (by decide) (by decide) (by decide)]
    · rw [State.rget_rset_width _ _ (k := 32) (by decide) (by decide) (by decide)]
    · rw [State.rget_rset_off _ _ (by decide), State.rget_rset_off _ _ (by decide), State.rget_ringBegun, s.rget_ringSet _ (f := Fd.FLT_RING_CTL_LOG2N) rfl]
      exact h2
    · rw [State.rget_rset_off _ _ (by decide), State.rget_rset_off _ _ (by decide), State.rget_ringBegun, s.rget_ringSet _ (f := Fd.FLT_RING_CTL_MIN_SEV) rfl]
      exact h3
    · rw [State.rget_rset_off _ _ (by decide), State.rget_rset_off _ _ (by decide), State.rget_ringBegun, s.rget_ringSet _ (f := Fd.FLT_RING_CTL_VECTOR) rfl]
      exact h4
    · simp only [State.rset_frame, State.ringBegun_mem, s.ringSet_frame]
  · intro s v hen
    have he := bit_of_rget_one s (f := Fd.FLT_RING_CTL_EN) rfl hen
    obtain ⟨h1, h2, h3, h4⟩ := ringCtlWord_on (v := v) he
    exact ⟨_, congrArg Host.Outcome.next (s.ringCtlWrite_runs he), (s.rget_ringSet _ (f := Fd.FLT_RING_CTL_EN) rfl).trans h1,
      (s.rget_ringSet _ (f := Fd.FLT_RING_CTL_LOG2N) rfl).trans h2, (s.rget_ringSet _ (f := Fd.FLT_RING_CTL_MIN_SEV) rfl).trans h3,
      (s.rget_ringSet _ (f := Fd.FLT_RING_CTL_IRQ_EN) rfl).trans h4, s.ringSet_frame _⟩
  · intro s hd hl
    refine ⟨_, exec_faultRingIrq_due s hd hl, ?_⟩
    have hmask : (s.ringIrqNow.msiMasked (s.rget Fd.FLT_RING_CTL_VECTOR) || !s.ringIrqNow.hostUp) = (s.msiMasked (s.rget Fd.FLT_RING_CTL_VECTOR) || !s.hostUp) := rfl
    unfold State.msi
    rw [hmask]
    split
    · exact ⟨rfl, rfl, rfl, rfl, rfl⟩
    · exact ⟨rfl, rfl, rfl, rfl, rfl⟩
  · intro s v hv hl
    refine ⟨_, exec_arm_eq s v, ?_⟩
    rw [if_neg (by simp [hv]), ← s.armRefused_injWritten v hl]
    have hlock (h : s.rget Fd.FLT_INJ_CTL_LOCK = 0) : (if bit v 63 then 1 else s.rget Fd.FLT_INJ_CTL_LOCK) = fld v 63 63 := by rw [h, fld_bit]
    cases hr : (s.injWritten v).armRefused
    · obtain ⟨⟨h1, h2, h3, h4, h5⟩, ha, href⟩ := s.armSet_spec v (a := 1) (r := 0) (by decide) (by decide)
      rw [if_neg Bool.false_ne_true]
      exact ⟨h1, h2, h3.trans (hlock hl), by rw [ha, href], by simp only [ha], h4, h5⟩
    · obtain ⟨⟨h1, h2, h3, h4, h5⟩, ha, href⟩ := s.armSet_spec v (a := 0) (r := 1) (by decide) (by decide)
      rw [if_pos rfl]
      exact ⟨h1, h2, h3.trans (hlock hl), by rw [ha, href], by simp [ha], h4, h5⟩
  · intro s v hv hl
    have href : (s.injWritten v).armRefused = true := by
      obtain ⟨-, -, -, -, hlock, -, -⟩ := injCtlWord_spec (s.rword Fd.FLT_INJ_CTL_ARM.off) v
      have hL : (s.injWritten v).rget Fd.FLT_INJ_CTL_LOCK = 1 := ((s.rget_injWritten v (f := Fd.FLT_INJ_CTL_LOCK) rfl).trans hlock).trans hl
      simp [State.armRefused, hL]
    obtain ⟨⟨-, -, h3, h4, h5⟩, ha, hr⟩ := s.armSet_spec v (a := 0) (r := 1) (by decide) (by decide)
    refine ⟨_, exec_arm_eq s v, ?_⟩
    rw [if_neg (by simp [hv]), if_pos href]
    exact ⟨ha, hr, by rw [h3, hl, ite_self], h4, h5⟩
  · intro s v hv
    refine ⟨_, exec_arm_eq s v, ?_⟩
    rw [if_pos (by simp [hv])]
    exact s.disarmed_spec v
  · intro s v hl hv
    refine ⟨_, exec_evictWrite_eq s v, ?_⟩
    rw [if_neg (by simp [hl]), if_pos hv]
    obtain ⟨h1, h2, -, h4, -⟩ := paceCtlWord_spec (s.rword Fd.FLT_PACE_CTL_EVICT.off) v
    obtain ⟨hget, -, hmem, -⟩ := (s.paceSet (paceCtlWord (s.rword Fd.FLT_PACE_CTL_EVICT.off) v)).paceEnds_spec (bit v 63) s.schedMask
    refine ⟨?_, ?_, ?_, fun f hf => ?_, hmem.trans (s.paceSet_mem _)⟩
    · rw [hget _ (by decide), s.rget_paceSet _ rfl]
      exact h1.trans (fld_bit_of_true hv)
    · rw [hget _ (by decide), s.rget_paceSet _ (f := Fd.FLT_PACE_CTL_THRESH_PCT) rfl]
      exact h2
    · rw [hget _ (by decide), s.rget_paceSet _ (f := Fd.FLT_PACE_CTL_SCHED_MASK) rfl]
      exact h4
    · rw [hget _ (.inr (by simp [Fd.FLT_PACE_EVICTED])), s.rget_paceSet_ne _ (by simp only [Fd.FLT_PACE_EVICTED, Fd.FLT_PACE_CTL_EVICT]; omega)]
  · intro s v hl hv
    refine ⟨_, exec_evictWrite_eq s v, ?_⟩
    rw [if_neg (by simp [hl]), if_neg (by simp [hv])]
    obtain ⟨h1, h2, h3, h4, h5⟩ := paceCtlWord_spec (s.rword Fd.FLT_PACE_CTL_EVICT.off) v
    obtain ⟨u, hu⟩ : ∃ u, u = s.paceSet (paceCtlWord (s.rword Fd.FLT_PACE_CTL_EVICT.off) v) := ⟨_, rfl⟩
    have hset {f : Fd} (hf : f.off = Fd.FLT_PACE_CTL_EVICT.off) : u.rget f = fld (paceCtlWord (s.rword Fd.FLT_PACE_CTL_EVICT.off) v) f.hi f.lo := by
      rw [hu, s.rget_paceSet _ hf]
    have hmemu : u.mem = s.mem := by rw [hu, s.paceSet_mem]
    rw [← hu]
    obtain ⟨hget, hlock, hmem, -⟩ := u.paceCleared.paceEnds_spec (bit v 63) s.schedMask
    have hcl {f : Fd} (hf : f.off = Fd.FLT_PACE_CTL_EVICT.off) : u.paceCleared.rget f = u.rget f := (u.paceCleared_frame (by rw [hf]; decide)).1
    refine ⟨?_, ?_, ?_, ?_, ?_, fun f hf => ⟨?_, ?_⟩, ?_⟩
    · rw [hget _ (by decide), hcl rfl, hset rfl]
      exact h1.trans (fld_bit_of_false hv)
    · rw [hget _ (by decide), hcl (f := Fd.FLT_PACE_CTL_THRESH_PCT) rfl, hset (f := Fd.FLT_PACE_CTL_THRESH_PCT) rfl]
      exact h2
    · rw [hget _ (by decide), hcl (f := Fd.FLT_PACE_CTL_HOLD_MS) rfl, hset (f := Fd.FLT_PACE_CTL_HOLD_MS) rfl]
      exact h3
    · rw [hget _ (by decide), hcl (f := Fd.FLT_PACE_CTL_SCHED_MASK) rfl, hset (f := Fd.FLT_PACE_CTL_SCHED_MASK) rfl]
      exact h4
    · rw [hlock, hcl (f := Fd.FLT_PACE_CTL_LOCK) rfl, hset (f := Fd.FLT_PACE_CTL_LOCK) rfl, fld_bit v]
      exact congrArg (fun n => if bit v 63 then 1 else n) (h5.trans hl)
    · rw [hget _ (.inr (by simp [Fd.FLT_PACE_EVICTED]))]
      exact (u.paceCleared_marks hf).1
    · rw [hget _ (.inr (by simp [Fd.FLT_PACE_DENIED]))]
      exact (u.paceCleared_marks hf).2
    · rw [hmem, (u.paceCleared_frame (f := Fd.FLT_PACE_CTL_LOCK) (by decide)).2, hmemu]
  · intro s v hl
    refine ⟨_, exec_evictWrite_eq s v, ?_⟩
    rw [if_pos hl]
    obtain ⟨hget, -, hmem, hfrd⟩ := s.paceEnds_spec (bit v 63) s.schedMask
    exact ⟨hget _ (by decide), hget _ (by decide), hmem, hfrd⟩

end Sys2Proof.Machine
end

section
/-!
PROOFS. What the end of a unit's work leaves alone.
-/

namespace Sys2Proof.Machine

set_option Elab.async false

/-! ### What the end of a unit's work leaves alone

Kernels and descriptors that end with their unit change rings, Fronds, sessions and the fault unit; the start's own bookkeeping, the power and
thermal units, the contacts and the module's own registers stay as they are. -/

/-- A register that no ring, Frond, fabric link and no fault record writes. -/
def quietOff (off : Nat) : Bool :=
  !(decide (0xF0000 ≤ off) && decide (off < 0x100000)) && off != Fd.HPT_ATS_STAT_FAILS.off && !(decide (0x90098 ≤ off) && decide (off < 0x90118)) &&
    (decide (off < 0x200000) || (decide (0x300000 ≤ off) && decide (off < 0x400000) && off % 0x10000 == 0))

theorem quietOff_iff (off : Nat) : quietOff off = true ↔ ¬ recSlot off ∧ ¬(0x90098 ≤ off ∧ off < 0x90118) ∧
    (off < 0x200000 ∨ (0x300000 ≤ off ∧ off < 0x400000 ∧ off % 0x10000 = 0)) := by
  unfold quietOff recSlot
  simp only [Bool.and_eq_true, Bool.not_eq_true', Bool.and_eq_false_iff, Bool.or_eq_true, decide_eq_true_eq, decide_eq_false_iff_not, bne_iff_ne, beq_iff_eq, ne_eq]
  omega

/-- What those ends leave alone. -/
def State.still (s : State) : Part × Nat × Bool × BootState × ConState × PwrState × ThmState × FwuState × LdgState × (Nat → W64) :=
  (s.part, s.clock, s.waited, { s.boot with lightCtl := [], pileCtl := [] }, s.con, s.pwr, s.thm, s.fwu, { s.ldg with queue := [] },
    fun off => if quietOff off then s.rword off else 0#64)

section
variable (s : State)

theorem State.foldl_still {α : Type} {g : State → α → State} (hg : ∀ u x, (g u x).still = u.still) (l : List α) : (l.foldl g s).still = s.still :=
  foldl_keeps (p := fun u : State => u.still = s.still) g (fun u x h => (hg u x).trans h) l rfl

/-- Work on the other units. -/
theorem State.units_still {free' pending' mem' frd' thl' msc' pil' pnw' hpt' rng' ses' sor' fab' sec' flt'} :
    State.still { s with free := free', pending := pending', mem := mem', frd := frd', thl := thl', msc := msc', pil := pil', pnw := pnw', hpt := hpt',
                         rng := rng', ses := ses', sor := sor', fab := fab', sec := sec', flt := flt' } = s.still := (rfl)

theorem State.still_of_sameBut {t : State} (h : s.SameBut t) : t.still = s.still := by
  have hregs : (fun off => if quietOff off then t.rword off else 0#64) = fun off => if quietOff off then s.rword off else 0#64 := by
    funext off
    by_cases hq : quietOff off = true
    · rw [if_pos hq, if_pos hq, h.rword off ((quietOff_iff off).mp hq).1]
    · rw [if_neg hq, if_neg hq]
  unfold State.still
  rw [hregs, h.part, h.clock, h.waited, h.boot, h.con, h.pwr, h.thm, h.fwu, h.ldg]

theorem State.raise_still (a : RecArg) : (s.raise a).still = s.still := s.still_of_sameBut (s.raise_same a)
theorem State.msi_still (v : Nat) : (s.msi v).still = s.still := s.still_of_sameBut (s.msi_same v)

/-- A register that is not quiet may be written. -/
theorem State.rset_still {f : Fd} (h : quietOff f.off = false) (v : Nat) : (s.rset f v).still = s.still := by
  have hregs : (fun off => if quietOff off then (s.rset f v).rword off else 0#64) = fun off => if quietOff off then s.rword off else 0#64 := by
    funext off
    by_cases hq : quietOff off = true
    · rw [if_pos hq, if_pos hq, State.rword_rset_ne _ _ _ (fun e => by rw [e, h] at hq; exact Bool.false_ne_true hq)]
    · rw [if_neg hq, if_neg hq]
  unfold State.still
  rw [hregs]
  simp only [State.rset_frame]

theorem State.radd_still {f : Fd} (h : quietOff f.off = false) (k : Nat) : (s.radd f k).still = s.still := s.rset_still h _

theorem not_quiet_halted {f c : Nat} (hc : c < 16) : quietOff (Fd.FRD_DMA_STAT_HALTED f c).off = false := by
  rw [Bool.eq_false_iff, ne_eq, quietOff_iff]
  simp only [Fd.FRD_DMA_STAT_HALTED]
  omega

theorem not_quiet_ring {off : Nat} (h : 0x400000 ≤ off) : quietOff off = false := by
  rw [Bool.eq_false_iff, ne_eq, quietOff_iff]
  omega

theorem State.foldl_still_mem {α : Type} {g : State → α → State} (l : List α) (hg : ∀ u, ∀ x ∈ l, (g u x).still = u.still) : (l.foldl g s).still = s.still :=
  List.foldlRecOn (motive := fun u : State => u.still = s.still) l g rfl fun u hu x hx => (hg u x hx).trans hu

theorem State.modRing_still (r : Nat) (g : Ring → Ring) : (s.modRing r g).still = s.still := s.units_still
theorem State.setDma_still (f c : Nat) (v : Dma) : (s.setDma f c v).still = s.still := s.units_still
theorem State.setArr_still (f a : Nat) (v : Arr) : (s.setArr f a v).still = s.still := s.units_still
theorem State.modFr_still (f : Nat) (g : Frond → Frond) : (s.modFr f g).still = s.still := s.units_still
theorem State.setStep_still (h : Nat) (v : Option StepRec) : (s.setStep h v).still = s.still := s.units_still
theorem State.dropFence_still (u : FUnit) : (s.dropFence u).still = s.still := s.units_still
theorem State.setKrn_still (f k : Nat) (v : Option Kernel) : (s.setKrn f k v).still = s.still := s.units_still

theorem State.dmaResume_still (r i : Nat) : (s.dmaResume r i).still = s.still := by
  unfold State.dmaResume
  refine State.foldl_still s (fun u f => State.foldl_still_mem u _ fun v c hc => ?_) _
  split
  · split
    · rw [State.rset_still _ (not_quiet_halted (List.mem_range.mp hc)), State.setDma_still]
    · rfl
  · rfl

theorem State.complete_still (r i status reason result : Nat) : (s.complete r i status reason result).still = s.still := by
  have hd (r : Nat) : quietOff (Fd.RNG_CNT_DONE r).off = false := not_quiet_ring (by simp only [Fd.RNG_CNT_DONE]; omega)
  have hf (r : Nat) : quietOff (Fd.RNG_CNT_FAILED r).off = false := not_quiet_ring (by simp only [Fd.RNG_CNT_FAILED]; omega)
  unfold State.complete
  split
  · rfl
  · dsimp only
    split
    · rw [State.dmaResume_still, State.modRing_still]
    · split
      · rw [State.radd_still _ (hf r), State.radd_still _ (hd r), State.modRing_still]
      · rw [State.radd_still _ (hd r), State.modRing_still]

theorem State.launchDone_still (r i f : Nat) (ok : Bool) (reason : Nat) : (s.launchDone r i f ok reason).still = s.still := by
  unfold State.launchDone
  split
  · rfl
  · dsimp only
    split
    · rw [State.complete_still, State.modRing_still]
    · rw [State.modRing_still]

theorem State.kernelDone_still (who : Issuer) (f : Nat) (ok : Bool) (reason : Nat) : (s.kernelDone who f ok reason).still = s.still := by
  unfold State.kernelDone
  split
  · exact s.launchDone_still _ _ _ _ _
  · unfold State.stepKernelDone
    split
    · rfl
    · exact s.setStep_still _ _

theorem State.failLaunches_still (f reason : Nat) (l : List Launch) : (s.failLaunches f reason l).still = s.still :=
  s.foldl_still (fun u _ => u.kernelDone_still _ _ _ _) l

theorem State.discardCmds_still (f k : Nat) : (s.discardCmds f k).still = s.still := by
  unfold State.discardCmds
  dsimp only
  refine (State.foldl_still_mem _ _ fun u c hc => ?_).trans (State.foldl_still s (fun u a => u.setArr_still f a _) _)
  rw [State.setDma_still, apply_ite State.still, State.rset_still _ (not_quiet_halted (List.mem_range.mp hc)), ite_self]

theorem State.releaseKernel_still (f k : Nat) : (s.releaseKernel f k).still = s.still := by
  unfold State.releaseKernel
  split
  · rfl
  · dsimp only
    rw [State.dropFence_still, State.setKrn_still]
    refine (State.foldl_still _ (fun u a => ?_) _).trans (State.foldl_still _ (fun u g => ?_) _)
    · split
      · exact u.setArr_still f a _
      · rfl
    · exact u.units_still

theorem State.kernelsOut_still (f : Nat) : (s.kernelsOut f).still = s.still := by
  unfold State.kernelsOut
  refine s.foldl_still (fun u k => ?_) _
  split
  · rfl
  · rw [State.kernelDone_still, State.releaseKernel_still, State.discardCmds_still]

theorem State.dropQueued_still (f : Nat) : (s.dropQueued f).still = s.still := by
  unfold State.dropQueued
  dsimp only
  rw [State.failLaunches_still, State.modFr_still]

theorem State.dmaOut_still (f : Nat) : (s.dmaOut f).still = s.still := by
  unfold State.dmaOut
  refine s.foldl_still_mem _ fun u c hc => ?_
  dsimp only
  refine (State.foldl_still _ (fun v x => ?_) _).trans ?_
  · split
    · exact v.complete_still _ _ _ _ _
    · rfl
  · rw [State.rset_still _ (not_quiet_halted (List.mem_range.mp hc)), State.setDma_still]

/-- What a dark Frond held is gone. -/
def State.frondCleared (f : Nat) : State :=
  { s with mem.ls := dropBlocks (2 ^ 24) [f] s.mem.ls, mem.lsBad := dropBlocks (2 ^ 22) [f] s.mem.lsBad
           frd.krn := dropBlocks 8 [f] s.frd.krn, frd.grp := dropBlocks 64 [f] s.frd.grp
           frd.thr := dropBlocks 2048 [f] s.frd.thr, frd.gregs := dropBlocks (2048 * 128) [f] s.frd.gregs
           frd.preds := dropBlocks 2048 [f] s.frd.preds, frd.regBad := dropBlocks (2048 * 128) [f] s.frd.regBad }

theorem State.frondCleared_still (f : Nat) : (s.frondCleared f).still = s.still := s.units_still
theorem State.setFr_still (f : Nat) (q : Frond) : (s.setFr f q).still = s.still := s.units_still

theorem State.frondDark_still (f : Nat) : (s.frondDark f).still = s.still := by
  have e : s.frondDark f = (((List.range 16).foldl (fun s c => s.setDma f c Dma.init)
    ((List.range 8).foldl (fun s a => s.setArr f a Arr.init) (((s.kernelsOut f).dropQueued f).dmaOut f))).frondCleared f).setFr f Frond.init := rfl
  rw [e, State.setFr_still, State.frondCleared_still, State.foldl_still _ (fun u c => u.setDma_still f c _) _,
    State.foldl_still _ (fun u a => u.setArr_still f a _) _, State.dmaOut_still, State.dropQueued_still, State.kernelsOut_still]

/-! ### Reading what stayed -/

variable {s} {t : State} (h : t.still = s.still)
include h

theorem State.part_of_still : t.part = s.part := congrArg (fun x => x.1) h
theorem State.clock_of_still : t.clock = s.clock := congrArg (fun x => x.2.1) h
theorem State.waited_of_still : t.waited = s.waited := congrArg (fun x => x.2.2.1) h
theorem State.boot_of_still : { t.boot with lightCtl := [], pileCtl := [] } = { s.boot with lightCtl := [], pileCtl := [] } := congrArg (fun x => x.2.2.2.1) h
theorem State.con_of_still : t.con = s.con := congrArg (fun x => x.2.2.2.2.1) h
theorem State.ldg_of_still : { t.ldg with queue := [] } = { s.ldg with queue := [] } := congrArg (fun x => x.2.2.2.2.2.2.2.2.1) h

theorem State.rword_of_still {off : Nat} (ho : quietOff off = true) : t.rword off = s.rword off := by
  have e := congrFun (congrArg (fun x => x.2.2.2.2.2.2.2.2.2) h) off
  unfold State.still at e
  dsimp only at e
  rwa [if_pos ho, if_pos ho] at e

theorem State.rget_of_still {f : Fd} (ho : quietOff f.off = true) : t.rget f = s.rget f := by
  rw [State.rget, State.rword_of_still h ho, State.rget]

end

end Sys2Proof.Machine
end

section
/-!
PROOFS. Switching the zones off.
-/

namespace Sys2Proof.Machine

set_option Elab.async false

/-! ### Switching the zones off -/

/-- A quiet register of the module as a whole, other than the zones' own word. -/
def chiefOff (off : Nat) : Bool := quietOff off && decide (off < 0x200000) && off != Fd.PWR_ZONE_STAT_ZONE.off

/-- What switching zones and units off leaves alone. -/
def State.chief (s : State) : Part × Nat × BootState × ConState × LdgState × (Nat → W64) :=
  (s.part, s.clock, { s.boot with lightCtl := [], pileCtl := [] }, s.con, { s.ldg with queue := [] }, fun off => if chiefOff off then s.rword off else 0#64)

section
variable (s : State)

theorem State.chief_of_still {t : State} (h : t.still = s.still) : t.chief = s.chief := by
  have hregs : (fun off => if chiefOff off then t.rword off else 0#64) = fun off => if chiefOff off then s.rword off else 0#64 := by
    funext off
    by_cases hq : chiefOff off = true
    · have hq' : quietOff off = true := by
        unfold chiefOff at hq
        exact (Bool.and_eq_true_iff.mp (Bool.and_eq_true_iff.mp hq).1).1
      rw [if_pos hq, if_pos hq, State.rword_of_still h hq']
    · rw [if_neg hq, if_neg hq]
  unfold State.chief
  rw [hregs, State.part_of_still h, State.clock_of_still h, State.boot_of_still h, State.con_of_still h, State.ldg_of_still h]

theorem State.foldl_chief {α : Type} {g : State → α → State} (l : List α) (hg : ∀ u, ∀ x ∈ l, (g u x).chief = u.chief) : (l.foldl g s).chief = s.chief :=
  List.foldlRecOn (motive := fun u : State => u.chief = s.chief) l g rfl fun u hu x hx => (hg u x hx).trans hu

theorem State.rset_chief {f : Fd} (h : chiefOff f.off = false) (v : Nat) : (s.rset f v).chief = s.chief := by
  have hregs : (fun off => if chiefOff off then (s.rset f v).rword off else 0#64) = fun off => if chiefOff off then s.rword off else 0#64 := by
    funext off
    by_cases hq : chiefOff off = true
    · rw [if_pos hq, if_pos hq, State.rword_rset_ne _ _ _ (fun e => by rw [e, h] at hq; exact Bool.false_ne_true hq)]
    · rw [if_neg hq, if_neg hq]
  unfold State.chief
  rw [hregs]
  simp only [State.rset_frame]

/-- The same write after states whose chief parts agree. -/
theorem State.rset_chief_congr {t : State} (h : t.chief = s.chief) (f : Fd) (v : Nat) : (t.rset f v).chief = (s.rset f v).chief := by
  have hregs : (fun off => if chiefOff off then (t.rset f v).rword off else 0#64) = fun off => if chiefOff off then (s.rset f v).rword off else 0#64 := by
    funext off
    by_cases hq : chiefOff off = true
    · rw [if_pos hq, if_pos hq]
      have hw : t.rword off = s.rword off := by
        have e := congrFun (congrArg (fun x => x.2.2.2.2.2) h) off
        unfold State.chief at e
        dsimp only at e
        rwa [if_pos hq, if_pos hq] at e
      by_cases he : off = f.off
      · subst he
        rw [State.rset, State.rset, State.rword_setRword_same, State.rword_setRword_same, hw]
      · rw [State.rword_rset_ne _ _ _ he, State.rword_rset_ne _ _ _ he, hw]
    · rw [if_neg hq, if_neg hq]
  have h5 : (t.part, t.clock, ({ t.boot with lightCtl := [], pileCtl := [] } : BootState), t.con, ({ t.ldg with queue := [] } : LdgState)) =
      (s.part, s.clock, ({ s.boot with lightCtl := [], pileCtl := [] } : BootState), s.con, ({ s.ldg with queue := [] } : LdgState)) :=
    congrArg (fun x => (x.1, x.2.1, x.2.2.1, x.2.2.2.1, x.2.2.2.2.1)) h
  obtain ⟨hp, hc, hb, hn, hl⟩ : _ ∧ _ ∧ _ ∧ _ ∧ _ := by simpa only [Prod.mk.injEq] using h5
  unfold State.chief
  rw [hregs]
  simp only [State.rset_frame]
  rw [hp, hc, hb, hn, hl]

theorem not_chief_of_le {off : Nat} (h : 0x200000 ≤ off) : chiefOff off = false := by
  unfold chiefOff
  rw [decide_eq_false (Nat.not_lt.mpr h), Bool.and_false, Bool.false_and]

theorem not_chief_link {l : Nat} (h : l < 32) : chiefOff (linkFd Fd.FAB_PORT_STAT_STATE l).off = false := by
  have hq : quietOff (linkFd Fd.FAB_PORT_STAT_STATE l).off = false := by
    rw [Bool.eq_false_iff, ne_eq, quietOff_iff]
    simp only [linkFd, Fd.FAB_PORT_STAT_STATE]
    omega
  unfold chiefOff
  rw [hq, Bool.false_and, Bool.false_and]

/-- Work on the other units. -/
theorem State.units_chief {mem' thl' msc' fab' l c} :
    State.chief { s with mem := mem', thl := thl', msc := msc', fab := fab', boot.lightCtl := l, boot.pileCtl := c } = s.chief := (rfl)

theorem State.linksDark_chief (l : List Nat) (hl : ∀ x ∈ l, x < 32) :
    (l.foldl (fun (s : State) l => if s.linkState l = 0 then s else (s.setLink l Link.init).setLinkState l 0) s).chief = s.chief := by
  refine s.foldl_chief l fun v x hx => ?_
  split
  · rfl
  · exact ((v.setLink x Link.init).rset_chief (not_chief_link (hl x hx)) 0).trans v.units_chief

theorem State.fabricDark_chief : s.fabricDark.chief = s.chief := by
  unfold State.fabricDark
  exact (State.linksDark_chief _ (List.range 32) fun x hx => List.mem_range.mp hx).trans s.units_chief

theorem State.setZone_chief (z v : Nat) : (s.setZone z v).chief = s.chief := s.rset_chief (by decide) _

/-- What a dark tower's stacks held is gone. -/
def State.stacksCleared (t : Nat) : State :=
  { s with mem.thl := dropBlocks (2 ^ 32) [t] s.mem.thl, mem.thlBad := dropBlocks (2 ^ 32) [t] s.mem.thlBad
           msc.lines := dropBlocks (32 * 32768 * 16) [t] s.msc.lines, msc.plru := dropBlocks (32 * 32768) [t] s.msc.plru
           msc.tagBad := dropBlocks (32 * 32768 * 16) [t] s.msc.tagBad }

theorem State.stacksCleared_chief (t : Nat) : (s.stacksCleared t).chief = s.chief := s.units_chief
theorem State.stacksCleared_regs (t : Nat) : (s.stacksCleared t).regs = s.regs := (rfl)

theorem State.towerDark_eq (t : Nat) : s.towerDark t =
    ((((List.range 4).foldl (fun s q => s.frondDark (4 * t + q)) s).stacksCleared t).rset (Fd.TWR_STAT_STEWARD_UP t) 0).rset (Fd.TWR_STAT_CHAIN_OK t) 0 := (rfl)

theorem State.towerDark_chief (t : Nat) : (s.towerDark t).chief = s.chief := by
  have ht {f : Fd} (h : f.off = 0x300000 + t * 0x10000) : chiefOff f.off = false := not_chief_of_le (by omega)
  rw [State.towerDark_eq, State.rset_chief _ (ht rfl), State.rset_chief _ (ht rfl), State.stacksCleared_chief]
  exact State.chief_of_still _ (s.foldl_still (fun u q => u.frondDark_still _) _)

theorem State.pileDark_chief (p : Nat) : (s.pileDark p).chief = s.chief := s.units_chief
theorem State.pileDark_regs (p : Nat) : (s.pileDark p).regs = s.regs := (rfl)

/-- Zone `z` is off. -/
def State.zoneCut (z : Nat) : State :=
  let s := if s.zoneLatched z then s else s.setZone z 0
  if z < 4 then
    let s := s.towerDark z
    if s.rget (Fd.TWR_STAT_STATE z) = 7 then s else s.rset (Fd.TWR_STAT_STATE z) 1
  else s.pileDark (z - 4)

/-- No fabric, no session engine. -/
def State.unplugged : State := { s.fabricDark.rset Fd.SES_STAT_ENGINE_UP 0 with boot.pileCtl := [] }

theorem State.zonesOff_eq : s.zonesOff = s.unplugged.zones.foldl State.zoneCut s.unplugged := (rfl)

theorem State.zoneCut_chief (z : Nat) : (s.zoneCut z).chief = s.chief := by
  have hl : (if s.zoneLatched z then s else s.setZone z 0).chief = s.chief := by
    rw [apply_ite State.chief, State.setZone_chief, ite_self]
  unfold State.zoneCut
  dsimp only
  rw [apply_ite State.chief, apply_ite State.chief, State.rset_chief _ (not_chief_of_le (off := (Fd.TWR_STAT_STATE z).off) (by simp only [Fd.TWR_STAT_STATE]; omega)), ite_self, State.towerDark_chief,
    State.pileDark_chief, ite_self, hl]

/-! ### What is off then -/

variable {s} in
theorem State.part_of_chief {t : State} (h : t.chief = s.chief) : t.part = s.part := congrArg (fun x => x.1) h
variable {s} in
theorem State.clock_of_chief {t : State} (h : t.chief = s.chief) : t.clock = s.clock := congrArg (fun x => x.2.1) h
variable {s} in
theorem State.boot_of_chief {t : State} (h : t.chief = s.chief) : { t.boot with lightCtl := [], pileCtl := [] } = { s.boot with lightCtl := [], pileCtl := [] } :=
  congrArg (fun x => x.2.2.1) h
variable {s} in
theorem State.con_of_chief {t : State} (h : t.chief = s.chief) : t.con = s.con := congrArg (fun x => x.2.2.2.1) h

variable {s} in
theorem State.rword_of_chief {t : State} (h : t.chief = s.chief) {off : Nat} (ho : chiefOff off = true) : t.rword off = s.rword off := by
  have e := congrFun (congrArg (fun x => x.2.2.2.2.2) h) off
  unfold State.chief at e
  dsimp only at e
  rwa [if_pos ho, if_pos ho] at e

variable {s} in
theorem State.rget_of_chief {t : State} (h : t.chief = s.chief) {f : Fd} (ho : chiefOff f.off = true) : t.rget f = s.rget f := by
  rw [State.rget, State.rword_of_chief h ho, State.rget]

theorem quiet_tower {k : Nat} (hk : k < 4) : quietOff (Fd.TWR_STAT_STATE k).off = true := by
  rw [quietOff_iff]
  simp only [Fd.TWR_STAT_STATE, recSlot, Fd.HPT_ATS_STAT_FAILS]
  omega

theorem State.rget_setZone_ne (z v : Nat) {f : Fd} (h : f.off ≠ Fd.PWR_ZONE_STAT_ZONE.off) : (s.setZone z v).rget f = s.rget f := by
  rw [State.rget, State.setZone, State.rword_rset_ne _ _ _ h, State.rget]

/-- A tower's own word after its stacks and Fronds are dark, but for its steward's bits. -/
theorem State.towerDark_state (t : Nat) {k : Nat} (hk : k < 4) : (s.towerDark t).rget (Fd.TWR_STAT_STATE k) = s.rget (Fd.TWR_STAT_STATE k) := by
  have hstill : (((List.range 4).foldl (fun s q => s.frondDark (4 * t + q)) s).stacksCleared t).rget (Fd.TWR_STAT_STATE k) = s.rget (Fd.TWR_STAT_STATE k) :=
    State.rget_of_still (((State.units_still _).trans (s.foldl_still (fun u q => u.frondDark_still _) _))) (quiet_tower hk)
  rw [State.towerDark_eq]
  by_cases h : t = k
  · subst h
    rw [State.rget_rset_ne _ _ _ _ (by decide : 59 ≤ 59) (by decide : 59 < 64) (Or.inr (Or.inr (by decide : 59 < 61))),
      State.rget_rset_ne _ _ _ _ (by decide : 60 ≤ 60) (by decide : 60 < 64) (Or.inr (Or.inr (by decide : 60 < 61))), hstill]
  · have hn : (Fd.TWR_STAT_STATE k).off ≠ 0x300000 + t * 0x10000 := by simp only [Fd.TWR_STAT_STATE]; omega
    rw [State.rget, State.rword_rset_ne _ _ _ hn, State.rword_rset_ne _ _ _ hn, ← State.rget, hstill]

/-- The zone of another unit leaves a tower's state. -/
theorem State.zoneCut_state_ne {z k : Nat} (hk : k < 4) (hz : z ≠ k) : (s.zoneCut z).rget (Fd.TWR_STAT_STATE k) = s.rget (Fd.TWR_STAT_STATE k) := by
  have hn : (Fd.TWR_STAT_STATE k).off ≠ (Fd.TWR_STAT_STATE z).off := by simp only [Fd.TWR_STAT_STATE]; omega
  have hl : (if s.zoneLatched z then s else s.setZone z 0).rget (Fd.TWR_STAT_STATE k) = s.rget (Fd.TWR_STAT_STATE k) := by
    split
    · rfl
    · exact s.rget_setZone_ne z 0 (by simp only [Fd.TWR_STAT_STATE, Fd.PWR_ZONE_STAT_ZONE]; omega)
  unfold State.zoneCut
  dsimp only
  generalize (if s.zoneLatched z then s else s.setZone z 0) = u at hl ⊢
  split
  · split
    · rw [State.towerDark_state _ _ hk, hl]
    · rw [State.rget, State.rword_rset_ne _ _ _ hn, ← State.rget, State.towerDark_state _ _ hk, hl]
  · exact (congrArg (fun r => fld (spGet _ r _) 63 61) (State.pileDark_regs _ _)).trans hl

/-- A tower whose zone is off is not up. -/
theorem State.zoneCut_state {k : Nat} (hk : k < 4) : (s.zoneCut k).rget (Fd.TWR_STAT_STATE k) ≠ 4 := by
  unfold State.zoneCut
  dsimp only
  rw [if_pos hk]
  generalize (if s.zoneLatched k then s else s.setZone k 0) = u
  split
  · next h => rw [h]; decide
  · rw [State.rget_rset_same _ _ _ (by decide : 61 ≤ 63) (by decide : 63 < 64)]
    exact (by decide : 1 % 2 ^ (63 + 1 - 61) ≠ 4)

theorem foldl_reaches {α σ : Type} {p : σ → Prop} {g : σ → α → σ} (a : α) (hkeep : ∀ u x, p u → p (g u x)) (hget : ∀ u, p (g u a)) (l : List α) (u : σ)
    (h : a ∈ l) : p (l.foldl g u) := by
  obtain ⟨l₁, l₂, rfl⟩ := List.append_of_mem h
  rw [List.foldl_append, List.foldl_cons]
  exact foldl_keeps g hkeep l₂ (hget _)

theorem State.zoneCut_keeps_down {k : Nat} (hk : k < 4) (z : Nat) (h : s.rget (Fd.TWR_STAT_STATE k) ≠ 4) : (s.zoneCut z).rget (Fd.TWR_STAT_STATE k) ≠ 4 := by
  by_cases hz : z = k
  · subst hz
    exact s.zoneCut_state hk
  · rwa [s.zoneCut_state_ne hk hz]

theorem Part.towers_le (p : Part) : p.towers ≤ 4 := by cases p <;> decide

theorem State.unplugged_chief : s.unplugged.chief = ((s.fabricDark).rset Fd.SES_STAT_ENGINE_UP 0).chief := State.units_chief _

theorem State.unplugged_part : s.unplugged.part = s.part :=
  State.part_of_chief (s.unplugged_chief.trans (State.rset_chief_congr s s.fabricDark_chief _ _)) |>.trans (State.rset_frame ..).1

/-- Every tower is off. -/
theorem State.zonesOff_towers (k : Nat) : s.zonesOff.towerUp k = false := by
  unfold State.towerUp
  rw [Bool.and_eq_false_iff]
  by_cases hk : k < s.zonesOff.towers
  · refine Or.inr ?_
    have h4 : k < 4 := lt_of_lt_of_le hk (Part.towers_le _)
    rw [beq_eq_false_iff_ne, State.zonesOff_eq]
    refine foldl_reaches (p := fun u : State => u.rget (Fd.TWR_STAT_STATE k) ≠ 4) k (fun u x => u.zoneCut_keeps_down h4 x) (fun u => u.zoneCut_state h4) _ _ ?_
    rw [State.zonesOff_eq] at hk
    have hp : (s.unplugged.zones.foldl State.zoneCut s.unplugged).part = s.unplugged.part :=
      congrArg (fun x => x.1) (State.foldl_chief _ s.unplugged.zones fun u x _ => u.zoneCut_chief x)
    have hk' : k < s.unplugged.towers := by rwa [State.towers, ← hp]
    exact List.mem_filter.mpr ⟨List.mem_range.mpr (by omega), by rw [State.zoneThere, decide_eq_true hk', Bool.true_or]⟩
  · exact Or.inl (decide_eq_false hk)

/-- Switching the zones off stops the session engine, and nothing else of the chief registers changes. -/
theorem State.zonesOff_chief : s.zonesOff.chief = (s.rset Fd.SES_STAT_ENGINE_UP 0).chief := by
  rw [State.zonesOff_eq, State.foldl_chief _ s.unplugged.zones fun u x _ => u.zoneCut_chief x, State.unplugged_chief]
  exact State.rset_chief_congr s s.fabricDark_chief _ _

end

end Sys2Proof.Machine
end

section
/-!
PROOFS. A cold state, and a start from Predawn.
-/

namespace Sys2Proof.Machine

set_option Elab.async false

/-! ### A cold state, and a start from Predawn -/

/-- The words of the contacts, the inputs and the start. -/
def coldOff (off : Nat) : Bool := off == 0x10000 || off == 0xB0008 || off == 0xB0010 || off == 0xD0000

/-- All but the registers and the metered energy, and those words. -/
def State.cold (s : State) : State × (Nat → W64) := ({ s with regs := [], pwr.energyRest := [] }, fun off => if coldOff off then s.rword off else 0#64)

section
variable (s : State)

theorem State.setRword_cold {off : Nat} (h : coldOff off = false) (w : W64) : (s.setRword off w).cold = s.cold := by
  have hregs : (fun o => if coldOff o then (s.setRword off w).rword o else 0#64) = fun o => if coldOff o then s.rword o else 0#64 := by
    funext o
    by_cases hq : coldOff o = true
    · rw [if_pos hq, if_pos hq, State.rword_setRword_ne _ _ (fun e => by rw [e, h] at hq; exact Bool.false_ne_true hq)]
    · rw [if_neg hq, if_neg hq]
  exact congrArg (Prod.mk ({ s with regs := [], pwr.energyRest := [] } : State)) hregs

theorem State.rset_cold {f : Fd} (h : coldOff f.off = false) (v : Nat) : (s.rset f v).cold = s.cold := s.setRword_cold h _

theorem State.foldl_cold {α : Type} {g : State → α → State} (l : List α) (hg : ∀ u, ∀ x ∈ l, (g u x).cold = u.cold) : (l.foldl g s).cold = s.cold :=
  List.foldlRecOn (motive := fun u : State => u.cold = s.cold) l g rfl fun u hu x hx => (hg u x hx).trans hu

theorem not_cold_of_le {off : Nat} (h : 0x200000 ≤ off) : coldOff off = false := by
  simp only [coldOff, Bool.or_eq_false_iff, beq_eq_false_iff_ne]
  omega

theorem not_cold_pile (p : Nat) : coldOff (0x40088 + p * 0x8) = false ∨ 12 ≤ p := by
  simp only [coldOff, Bool.or_eq_false_iff, beq_eq_false_iff_ne]
  omega

theorem State.energy_cold (e : Sp Nat) : State.cold { s with pwr.energyRest := e } = s.cold := (rfl)

theorem State.keepStart_cold (old : State) : (old.keepStart s).cold = s.cold := by
  unfold State.keepStart
  dsimp only
  rw [State.foldl_cold _ _ fun u x _ => u.rset_cold (not_cold_of_le (by simp only [Fd.TWR_STAT_FENCE_REASON]; omega)) _, State.energy_cold,
    State.rset_cold _ (by decide), State.rset_cold _ (by decide)]
  exact State.foldl_cold _ _ fun u x hx => u.setRword_cold (by revert x; decide) _

theorem State.keepLatch_cold (old : State) {z : Nat} (hz : z < 12) : (old.keepLatch s z).cold = s.cold := by
  unfold State.keepLatch
  split
  · dsimp only
    split
    · rw [State.rset_cold _ (not_cold_of_le (by simp only [Fd.TWR_STAT_STATE]; omega))]
      exact s.rset_cold (by decide) _
    · rw [State.rset_cold _ ((not_cold_pile (z - 4)).resolve_right (by omega))]
      exact s.rset_cold (by decide) _
  · rfl

theorem State.mem_zones {z : Nat} (h : z ∈ s.zones) : z < 12 := List.mem_range.mp (List.mem_of_mem_filter h)

theorem State.keepLatches_cold (old : State) : (old.zones.foldl (fun (t : State) z => old.keepLatch t z) s).cold = s.cold :=
  State.foldl_cold _ _ fun u _ hz => u.keepLatch_cold old (old.mem_zones hz)

theorem spGet_filter_in {α : Type} (d : Nat → α) (m : Sp α) (p : Nat → Bool) {k : Nat} (hk : p k = true) : spGet d (m.filter (fun c => p c.1)) k = spGet d m k := by
  induction m with
  | nil => rfl
  | cons c m ih =>
    obtain ⟨j, v⟩ := c
    by_cases hj : p j = true
    · rw [List.filter_cons_of_pos (p := fun c : Nat × α => p c.1) hj, spGet, spGet, ih]
    · rw [List.filter_cons_of_neg (p := fun c : Nat × α => p c.1) hj, ih, spGet, if_neg (by rintro rfl; exact hj hk)]

/-! The cold state. -/

theorem State.coldState_part : s.coldState.part = s.part := by
  unfold State.coldState
  simp only [State.rset_frame]

theorem State.coldState_clock : s.coldState.clock = s.clock := by
  unfold State.coldState
  simp only [State.rset_frame]

theorem State.coldState_ldg : s.coldState.ldg = { s.ldg with mounted := false } := by
  unfold State.coldState
  simp only [State.rset_frame]

theorem resetWord_boot (g : Nat) : fld (resetWord g 0xD0000) 59 59 = 0 := by
  have e : resetWord g 0xD0000 = resetWord 0 0xD0000 := by
    unfold resetWord
    rw [if_neg (by decide), if_neg (by decide), if_neg (by decide)]
  rw [e]
  decide +kernel

/-- The words a cold state keeps. -/
theorem State.coldState_kept {off : Nat} (h : keptReg off = true) (h1 : off ≠ 0x40000) (h2 : off ≠ 0xD0000) : s.coldState.rword off = s.rword off := by
  unfold State.coldState
  dsimp only
  rw [State.rword_rset_ne _ _ _ h1, State.rword_rset_ne _ _ _ h2, State.rword_rset_ne _ _ _ h2, State.rword_rset_ne _ _ _ h2]
  exact spGet_filter_in _ s.regs keptReg h

/-- The failed starts stay counted. -/
theorem State.coldState_failedStarts : s.coldState.rget Fd.BOOT_STAT_FAILED_STARTS = s.rget Fd.BOOT_STAT_FAILED_STARTS := by
  unfold State.coldState
  dsimp only
  rw [State.rget_rset_ne _ _ _ _ (by decide) (by decide) (by decide)]
  rw [State.rget_rset_width _ _ (k := 4) (by decide) (by decide) (by decide)]
  exact Nat.mod_eq_of_lt (fld_lt _ _ _)

theorem State.coldState_twilight : s.coldState.rget Fd.BOOT_STAT_TWILIGHT = 0 := by
  unfold State.coldState
  dsimp only
  rw [State.rget_rset_ne _ _ _ _ (by decide) (by decide) (by decide), State.rget_rset_ne _ _ _ _ (by decide) (by decide) (by decide),
    State.rget_rset_ne _ _ _ _ (by decide) (by decide) (by decide), State.rget_rset_ne _ _ _ _ (by decide) (by decide) (by decide)]
  exact (congrArg (fun w => fld w 59 59) (spGet_filter_out _ s.regs keptReg (by decide))).trans (resetWord_boot _)

/-- With these branches lost. -/
def State.withBranches (b : List Nat) : State := { s with pwr.branches := b }

theorem State.withBranches_rget (b : List Nat) (f : Fd) : (s.withBranches b).rget f = s.rget f := (rfl)
theorem State.withBranches_boot (b : List Nat) : (s.withBranches b).boot = s.boot := (rfl)
theorem State.withBranches_ldg (b : List Nat) : (s.withBranches b).ldg = s.ldg := (rfl)

/-- The state a start from Predawn begins with: cold, with what the latches and the start itself keep. -/
def State.predawnKept : State :=
  s.zones.foldl (fun (t : State) z => s.keepLatch t z) (s.keepStart (s.coldState.withBranches s.pwr.branches))

theorem State.predawnKept_cold : s.predawnKept.cold = (s.coldState.withBranches s.pwr.branches).cold :=
  (State.keepLatches_cold _ s).trans (State.keepStart_cold _ s)

variable {s} in
theorem State.boot_of_cold {t : State} (h : t.cold = s.cold) : t.boot = s.boot := congrArg (fun x => x.1.boot) h
variable {s} in
theorem State.ldg_of_cold {t : State} (h : t.cold = s.cold) : t.ldg = s.ldg := congrArg (fun x => x.1.ldg) h

variable {s} in
theorem State.rget_of_cold {t : State} (h : t.cold = s.cold) {f : Fd} (ho : coldOff f.off = true) : t.rget f = s.rget f := by
  have e := congrFun (congrArg Prod.snd h) f.off
  unfold State.cold at e
  dsimp only at e
  rw [if_pos ho, if_pos ho] at e
  rw [State.rget, e, State.rget]

theorem State.rget_predawnKept {f : Fd} (ho : coldOff f.off = true) : s.predawnKept.rget f = s.coldState.rget f :=
  (State.rget_of_cold s.predawnKept_cold ho).trans (State.withBranches_rget _ _ _)

theorem State.stageBegin_rget_ne (n : Nat) {f : Fd} (h : f.off ≠ Fd.BOOT_STAT_STAGE.off ∨ f.hi < 61) : (s.stageBegin n).rget f = s.rget f := by
  unfold State.stageBegin
  rw [State.rget_rset_ne _ _ _ _ (by decide) (by decide) (h.elim Or.inl fun h => Or.inr (Or.inl h))]
  rfl

theorem State.stageBegin_stage {n : Nat} (h : n < 8) : (s.stageBegin n).stage = n := by
  unfold State.stageBegin State.stage
  rw [State.rget_rset_width _ _ (k := 3) (by decide) (by decide) (by decide)]
  exact Nat.mod_eq_of_lt h

theorem State.coldState_boot : s.coldState.boot.retryAt = none := by
  unfold State.coldState
  simp only [State.rset_frame]
  exact (rfl : BootState.init.retryAt = none)

theorem State.predawnKept_boot : s.predawnKept.boot = s.coldState.boot :=
  (State.boot_of_cold s.predawnKept_cold).trans (State.withBranches_boot s.coldState s.pwr.branches)
theorem State.predawnKept_ldg : s.predawnKept.ldg = { s.ldg with mounted := false } :=
  ((State.ldg_of_cold s.predawnKept_cold).trans (State.withBranches_ldg s.coldState s.pwr.branches)).trans s.coldState_ldg

/-- The start from the state kept. -/
def State.started (tw : Bool) : State :=
  { s with ldg.starts := s.ldg.starts + 1, boot.startsHeld := true, boot.running := true, boot.failed := none
           boot.reports := [], boot.fromTwilight := tw }

theorem State.started_rget (tw : Bool) (f : Fd) : (s.started tw).rget f = s.rget f := (rfl)
theorem State.started_ldg (tw : Bool) : (s.started tw).ldg.starts = s.ldg.starts + 1 := (rfl)
theorem State.started_boot (tw : Bool) : (s.started tw).boot =
    { s.boot with startsHeld := true, running := true, failed := none, reports := [], fromTwilight := tw } := (rfl)

theorem State.stageBegin_boot (n : Nat) :
    (s.stageBegin n).boot = { s.boot with stageAt := s.clock, seqAt := s.flt.seqNext, earlyAt := s.flt.early.length, dropAt := s.flt.earlyDrop } := by
  unfold State.stageBegin
  simp only [State.rset_frame]

theorem State.stageBegin_ldg (n : Nat) : (s.stageBegin n).ldg = s.ldg := by
  unfold State.stageBegin
  simp only [State.rset_frame]

theorem State.startAtPredawn_eq (tw : Bool) : s.startAtPredawn tw = (s.predawnKept.started tw).stageBegin 1 := (rfl)

/-- A start from Predawn: running in stage 1, counted, nothing held from an earlier failure; the failed starts stay counted. -/
theorem State.startAtPredawn_starts (tw : Bool) :
    (s.startAtPredawn tw).boot.running = true ∧ (s.startAtPredawn tw).stage = 1 ∧ (s.startAtPredawn tw).ldg.starts = s.ldg.starts + 1 ∧
    (s.startAtPredawn tw).boot.retryAt = none ∧ (s.startAtPredawn tw).boot.fromTwilight = tw ∧ (s.startAtPredawn tw).twilight = false ∧
    (s.startAtPredawn tw).rget Fd.BOOT_STAT_FAILED_STARTS = s.rget Fd.BOOT_STAT_FAILED_STARTS := by
  rw [State.startAtPredawn_eq, State.stageBegin_boot, State.started_boot, State.predawnKept_boot, State.stageBegin_ldg, State.started_ldg, State.predawnKept_ldg]
  refine ⟨rfl, State.stageBegin_stage _ (by decide), rfl, s.coldState_boot, rfl, ?_, ?_⟩
  · rw [State.twilight, State.stageBegin_rget_ne _ _ (Or.inr (by decide)), State.started_rget, State.rget_predawnKept _ (by decide), State.coldState_twilight]
    rfl
  · rw [State.stageBegin_rget_ne _ _ (Or.inr (by decide)), State.started_rget, State.rget_predawnKept _ (by decide), State.coldState_failedStarts]

/-- The contacts' word. -/
theorem State.startAtPredawn_contacts (tw : Bool) {f : Fd} (h : f.off = 0x10000) : (s.startAtPredawn tw).rget f = s.rget f := by
  rw [s.startAtPredawn_eq tw]
  refine (State.stageBegin_rget_ne _ _ (Or.inl (by rw [h]; decide))).trans ((State.started_rget s.predawnKept tw f).trans ?_)
  rw [State.rget_predawnKept _ (by rw [h]; rfl), State.rget, h, State.coldState_kept _ (by rfl) (by decide) (by decide), State.rget, h]

end

end Sys2Proof.Machine
end

section
/-!
PROOFS. Failed starts and Twilight mode (R538, R554–R558).
-/

namespace Sys2Proof.Machine

set_option Elab.async false

/-! ### Failed starts -/

section
variable (s : State)

/-- The host port but for what it sends. -/
def State.port (s : State) : HptState := { s.hpt with ats := [], pba := [], sent := [] }

theorem State.regs_port (s : State) (r m) : State.port { s with regs := r, mem := m } = s.port := (rfl)
theorem State.rset_port (f : Fd) (v : Nat) : (s.rset f v).port = s.port := s.regs_port _ s.mem
theorem State.flt_port (f l) : State.port { s with flt := f, ldg := l } = s.port := (rfl)
theorem State.msi_port (v : Nat) : (s.msi v).port = s.port := by
  unfold State.msi
  split <;> rfl

theorem State.hostWrite_port (a : Nat) (l : List Byte) : (s.hostWrite a l).1.port = s.port := by
  unfold State.hostWrite
  split
  · unfold State.countHostFail
    rw [apply_ite State.port, State.radd, State.rset_port, ite_self]
  · rfl

theorem State.fltIrq_port : s.fltIrq.port = s.port := by
  unfold State.fltIrq
  split
  · split
    · split
      · rw [State.msi_port, State.flt_port]
      · rfl
    · rw [State.msi_port, State.flt_port]
  · rfl

theorem State.deliver_port (r : FaultRec) : (s.deliver r).port = s.port := by
  have hretain : (s.retain r).port = s.port := by
    have hnow : (s.retainNow r).port = s.port := by
      unfold State.retainNow
      dsimp only
      rw [apply_ite State.port, State.radd, State.rset_port]
      exact ite_self _
    unfold State.retain
    rw [apply_ite State.port, hnow, ite_self]
  have hring (u : State) : (u.toRing r).port = u.port := by
    unfold State.toRing
    split
    · split
      · rfl
      · split
        · exact u.rset_port _ _
        · dsimp only
          have hw := u.hostWrite_port (u.rget Fd.FLT_RING_BASE_BASE * 4096 + r.seq % u.fltRingN * 32) r.bytes
          split
          · next h => rw [h] at hw; exact (State.rset_port _ _ _).trans hw
          · next h => rw [h] at hw; exact (State.fltIrq_port _).trans hw
    · rfl
  unfold State.deliver
  dsimp only
  rw [apply_ite State.port, State.rset_port, ite_self, hring, hretain]

theorem State.raise_port (a : RecArg) : (s.raise a).port = s.port := by
  unfold State.raise State.raiseN
  dsimp only
  repeat' split
  all_goals first | rfl | rw [State.deliver_port]; rfl

theorem State.capBump_port : s.capBump.port = { s.port with capGen := s.hpt.capGen + 2 } := by
  unfold State.capBump
  dsimp only
  split
  · rw [State.msi_port]; rfl
  · rfl

/-! ### A stage that fails -/

theorem State.stageFail_fails (n reason outcome elapsed : Nat) (loc : Loc) :
    (s.stageFail n reason outcome elapsed loc).boot.failed = some (n, reason) ∧ (s.stageFail n reason outcome elapsed loc).boot.running = false ∧
    (report (s.stageFail n reason outcome elapsed loc).boot.reports n).outcome = outcome ∧
    (report (s.stageFail n reason outcome elapsed loc).boot.reports n).fatal = reason := by
  have hr : report (s.stageFail n reason outcome elapsed loc).boot.reports n = (s.raise (recNote reason loc)).stageReport outcome reason elapsed 0 0 :=
    spGet_spPut_same _ _ _ _
  rw [hr]
  exact ⟨rfl, rfl, rfl, rfl⟩

/-! ### A failed start is counted -/

/-- The start's word with the failure in it. -/
def State.failNoted (count n reason : Nat) : State :=
  ((s.rset Fd.BOOT_STAT_FAILED_STARTS count).rset Fd.BOOT_STAT_FAIL_STAGE n).rset Fd.BOOT_STAT_FAIL_REASON reason

/-- The failure kept with the start's reports. -/
def State.failKept : State := { s with boot.failed := none, boot.lastFailed := s.boot.reports, boot.failHeld := true }

/-- The sections a counted failure commits. -/
def State.failWrites : List LWrite :=
  [s.bootRec, ⟨0x0C, 2, false, [leNat (reportSet s.boot.lastFailed)], 14336⟩] ++ (if s.boot.startsHeld then [s.startsRec] else [])

/-- The failure kept, committed, and the zones switched off. -/
def State.failCommitted (count n reason : Nat) : State :=
  ((((s.failNoted count n reason).raise (recNote 0x0F0F modLoc)).failKept).commitFor
    (((s.failNoted count n reason).raise (recNote 0x0F0F modLoc)).failKept).failWrites .boot).zonesOff

/-- Another try after one second. -/
def State.retryLater : State := { s with boot.retryAt := some (s.clock + 25000000) }

theorem execFailedStartCounted_counts {s : State} {n reason : Nat} (hf : s.boot.failed = some (n, reason)) (hr : reason ≠ 0x0F02)
    (hrem : s.rget Fd.HUB_CONN_STAT_REMOVE = 0) :
    execFailedStartCounted s = .next (
      if min 15 (s.rget Fd.BOOT_STAT_FAILED_STARTS + 1) ≥ 3 then
        (s.failCommitted (min 15 (s.rget Fd.BOOT_STAT_FAILED_STARTS + 1)) n reason).twilightEnter
      else (s.failCommitted (min 15 (s.rget Fd.BOOT_STAT_FAILED_STARTS + 1)) n reason).retryLater) := by
  unfold execFailedStartCounted
  rw [hf]
  exact congrArg Host.Outcome.next ((if_neg hr).trans (if_neg (by rw [hrem]; decide)))

/-- Field `f` of the word of the start is one of the failure's. -/
theorem State.failNoted_reads {count n reason : Nat} (hc : count < 16) (hn : n < 8) (hr : reason < 65536) :
    (s.failNoted count n reason).rget Fd.BOOT_STAT_FAILED_STARTS = count ∧ (s.failNoted count n reason).rget Fd.BOOT_STAT_FAIL_STAGE = n ∧
    (s.failNoted count n reason).rget Fd.BOOT_STAT_FAIL_REASON = reason := by
  unfold State.failNoted
  refine ⟨?_, ?_, ?_⟩
  · rw [State.rget_rset_ne _ _ _ _ (by decide) (by decide) (by decide), State.rget_rset_ne _ _ _ _ (by decide) (by decide) (by decide),
      State.rget_rset_width _ _ (k := 4) (by decide) (by decide) (by decide)]
    exact Nat.mod_eq_of_lt hc
  · rw [State.rget_rset_ne _ _ _ _ (by decide) (by decide) (by decide), State.rget_rset_width _ _ (k := 3) (by decide) (by decide) (by decide)]
    exact Nat.mod_eq_of_lt hn
  · rw [State.rget_rset_width _ _ (k := 16) (by decide) (by decide) (by decide)]
    exact Nat.mod_eq_of_lt hr

theorem State.failNoted_frame (count n reason : Nat) : (s.failNoted count n reason).boot = s.boot ∧ (s.failNoted count n reason).clock = s.clock := by
  unfold State.failNoted
  simp only [State.rset_frame, and_self]

theorem State.zonesOff_rget {f : Fd} (h : chiefOff f.off = true) (hn : f.off ≠ Fd.SES_STAT_ENGINE_UP.off) : s.zonesOff.rget f = s.rget f := by
  rw [State.rget_of_chief s.zonesOff_chief h, State.rget, State.rword_rset_ne _ _ _ hn, State.rget]

theorem State.zonesOff_engine : s.zonesOff.rget Fd.SES_STAT_ENGINE_UP = 0 := by
  rw [State.rget_of_chief s.zonesOff_chief (by decide), State.rget_rset_width _ _ (k := 1) (by decide) (by decide) (by decide), Nat.zero_mod]

theorem State.zonesOff_boot : { s.zonesOff.boot with lightCtl := [], pileCtl := [] } = { s.boot with lightCtl := [], pileCtl := [] } := by
  rw [State.boot_of_chief s.zonesOff_chief, (State.rset_frame ..).2.2.2.2.2.2.2.2.2.2.2.2.2.2.2.2.2.2.2.1]

theorem State.zonesOff_clock : s.zonesOff.clock = s.clock := (State.clock_of_chief s.zonesOff_chief).trans (State.rset_frame ..).2.1

/-! Twilight mode. -/

theorem State.capBump_boot : s.capBump.boot = s.boot := by
  unfold State.capBump
  dsimp only
  split
  · exact (State.msi_same _ _).boot
  · rfl

/-- No start runs, and the host port is ready. -/
def State.twilit : State := { s with boot.running := false, hpt.ready := true }

theorem State.twilit_rget (f : Fd) : s.twilit.rget f = s.rget f := (rfl)
theorem State.twilit_boot : s.twilit.boot = { s.boot with running := false } := (rfl)
theorem State.twilit_ready : s.twilit.port.ready = true := (rfl)

theorem State.twilightEnter_eq : s.twilightEnter =
    (((s.twilit.rset Fd.BOOT_STAT_TWILIGHT 1).rset Fd.BOOT_STAT_STAGE 7).raise (recNote 0x0F11 modLoc)).capBump := (rfl)

theorem State.twilightEnter_boot : s.twilightEnter.boot = { s.boot with running := false } := by
  rw [State.twilightEnter_eq, State.capBump_boot, (State.raise_same _ _).boot]
  simp only [State.rset_frame]
  exact s.twilit_boot

theorem State.twilightEnter_part : s.twilightEnter.part = s.part := by
  rw [State.twilightEnter_eq, (State.capBump_keeps _).2.1, (State.raise_same _ _).part]
  simp only [State.rset_frame]
  exact (rfl : s.twilit.part = s.part)

theorem State.port_ready : s.port.ready = s.hpt.ready := (rfl)

theorem State.twilightEnter_port : s.twilightEnter.port.ready = true := by
  rw [State.twilightEnter_eq, State.capBump_port]
  have h : (((s.twilit.rset Fd.BOOT_STAT_TWILIGHT 1).rset Fd.BOOT_STAT_STAGE 7).raise (recNote 0x0F11 modLoc)).port = s.twilit.port := by
    rw [State.raise_port, State.rset_port, State.rset_port]
  rw [h]
  exact s.twilit_ready

theorem not_recSlot_start : ¬ recSlot 0xD0000 := by
  unfold recSlot
  decide

theorem State.twilightEnter_readsRaised {f : Fd} (h : ¬ recSlot f.off) :
    s.twilightEnter.rget f = ((s.twilit.rset Fd.BOOT_STAT_TWILIGHT 1).rset Fd.BOOT_STAT_STAGE 7).rget f := by
  rw [State.twilightEnter_eq, State.rget_congr (State.capBump_keeps _).1 (State.capBump_keeps _).2.1, State.rget_raise _ _ _ h]

/-- Twilight mode changes two fields of the start's word. -/
theorem State.twilightEnter_rget {f : Fd} (h : ¬ recSlot f.off) (hd : f.off ≠ 0xD0000 ∨ f.hi < 59) : s.twilightEnter.rget f = s.rget f := by
  have h1 : f.off ≠ Fd.BOOT_STAT_STAGE.off ∨ f.hi < 61 ∨ 63 < f.lo := hd.imp id fun h => Or.inl (h.trans (by decide))
  have h2 : f.off ≠ Fd.BOOT_STAT_TWILIGHT.off ∨ f.hi < 59 ∨ 59 < f.lo := hd.imp id Or.inl
  rw [State.twilightEnter_readsRaised _ h, State.rget_rset_ne _ _ _ _ (by decide) (by decide) h1, State.rget_rset_ne _ _ _ _ (by decide) (by decide) h2,
    State.twilit_rget]

theorem State.twilightEnter_stage : s.twilightEnter.stage = 7 := by
  rw [State.stage, State.twilightEnter_readsRaised _ not_recSlot_start, State.rget_rset_width _ _ (k := 3) (by decide) (by decide) (by decide)]
  exact (by decide : 7 % 2 ^ 3 = 7)

theorem State.twilightEnter_twilight : s.twilightEnter.twilight = true := by
  rw [State.twilight, State.twilightEnter_readsRaised _ not_recSlot_start, State.rget_rset_ne _ _ _ _ (by decide) (by decide) (by decide),
    State.rget_rset_width _ _ (k := 1) (by decide) (by decide) (by decide)]
  rfl

theorem State.twilightEnter_towerUp (k : Nat) (h : s.towerUp k = false) : s.twilightEnter.towerUp k = false := by
  have hn : ¬ recSlot (Fd.TWR_STAT_STATE k).off := not_recSlot_of_le (by simp only [Fd.TWR_STAT_STATE]; omega)
  rw [State.towerUp, State.towers, State.twilightEnter_part, State.twilightEnter_rget _ hn (Or.inl (by simp only [Fd.TWR_STAT_STATE]; omega))]
  exact h

/-! The failure as a whole. -/

theorem BootState.failure_of_still {a b : BootState} {l : List _}
    (h : { a with lightCtl := [], pileCtl := [] } = { b with lightCtl := [], pileCtl := [], failed := none, lastFailed := l, failHeld := true }) :
    a.failed = none ∧ a.lastFailed = l := ⟨congrArg BootState.failed h, congrArg BootState.lastFailed h⟩

theorem BootState.failure_of_running {a b : BootState} (h : a = { b with running := false }) : a.failed = b.failed ∧ a.lastFailed = b.lastFailed := by
  subst h
  exact ⟨rfl, rfl⟩

theorem State.failCommitted_boot (count n reason : Nat) : { (s.failCommitted count n reason).boot with lightCtl := [], pileCtl := [] } =
    { s.boot with lightCtl := [], pileCtl := [], failed := none, lastFailed := s.boot.reports, failHeld := true } := by
  have hb (u : State) : u.failKept.boot = { u.boot with failed := none, lastFailed := u.boot.reports, failHeld := true } := (rfl)
  unfold State.failCommitted
  rw [State.zonesOff_boot]
  simp only [State.commitFor_frame]
  rw [hb, (State.raise_same _ _).boot, (State.failNoted_frame _ _ _ _).1]

theorem State.failCommitted_clock (count n reason : Nat) : (s.failCommitted count n reason).clock = s.clock := by
  have hb (u : State) : u.failKept.clock = u.clock := (rfl)
  unfold State.failCommitted
  rw [State.zonesOff_clock]
  simp only [State.commitFor_frame]
  rw [hb, (State.raise_same _ _).clock, (State.failNoted_frame _ _ _ _).2]

theorem State.failCommitted_rget (count n reason : Nat) {f : Fd} (h : f.off = 0xD0000) :
    (s.failCommitted count n reason).rget f = (s.failNoted count n reason).rget f := by
  have hb (u : State) : u.failKept.rget f = u.rget f := (rfl)
  have hc (u : State) (ws) (who) : (u.commitFor ws who).rget f = u.rget f := (rfl)
  unfold State.failCommitted
  rw [State.zonesOff_rget _ (by rw [h]; rfl) (by rw [h]; decide), hc, hb, State.rget_raise _ _ _ (h ▸ not_recSlot_start)]

theorem State.retryLater_reads (f : Fd) : s.retryLater.rget f = s.rget f := (rfl)
theorem State.retryLater_towerUp (k : Nat) : s.retryLater.towerUp k = s.towerUp k := (rfl)
theorem State.retryLater_failed : s.retryLater.boot.failed = s.boot.failed := (rfl)
theorem State.retryLater_lastFailed : s.retryLater.boot.lastFailed = s.boot.lastFailed := (rfl)
theorem State.retryLater_retryAt : s.retryLater.boot.retryAt = some (s.clock + 25000000) := (rfl)

end

/-- A start abandoned for a removal (R540). -/
theorem State.abandon_removes (s : State) : s.abandon.boot.failed = none ∧ s.abandon.boot.running = false ∧ s.abandon.rget Fd.HUB_CONN_STAT_RM_PHASE = 1 ∧
    s.abandon.rget Fd.BOOT_STAT_FAILED_STARTS = s.rget Fd.BOOT_STAT_FAILED_STARTS := by
  have hb (u : State) : u.removalBegin.boot = u.boot := by
    unfold State.removalBegin
    rw [(State.msi_same _ _).boot, (State.raise_same _ _).boot]
    simp only [State.rset_frame]
  have hmsi (u : State) (n : Nat) {f : Fd} (h : ¬ recSlot f.off) : (u.msi n).rget f = u.rget f := by
    rw [State.rget, (State.msi_same _ _).rword _ h, State.rget]
  have hnr : ¬ recSlot 0x10000 := by unfold recSlot; decide
  have hu (f : Fd) : ({ s with boot.running := false, boot.failed := none } : State).rget f = s.rget f := (rfl)
  refine ⟨?_, ?_, ?_, ?_⟩
  · unfold State.abandon
    rw [hb, (State.raise_same _ _).boot]
  · unfold State.abandon
    rw [hb, (State.raise_same _ _).boot]
  · unfold State.abandon State.removalBegin
    rw [hmsi _ _ hnr, State.rget_raise _ _ _ hnr, State.rget_rset_width _ _ (k := 3) (by decide) (by decide) (by decide)]
    exact (by decide : 1 % 2 ^ 3 = 1)
  · unfold State.abandon State.removalBegin
    rw [hmsi _ _ not_recSlot_start, State.rget_raise _ _ _ not_recSlot_start, State.rget_rset_ne _ _ _ _ (by decide) (by decide) (by decide),
      State.rget_raise _ _ _ not_recSlot_start, hu]

/-- The count of failed starts set to zero and committed (R554). -/
def State.startsCleared (s : State) : State := (s.rset Fd.BOOT_STAT_FAILED_STARTS 0).raise (recNote 0x0F10 modLoc)

theorem State.commit_bootRec (s : State) : (s.commit [s.bootRec]).ldg.queue.getLast? = some ⟨[(s.commit [s.bootRec]).bootRec], .nobody⟩ ∧
    (∀ f, (s.commit [s.bootRec]).rget f = s.rget f) ∧ (s.commit [s.bootRec]).mem.dram = s.mem.dram :=
  ⟨List.getLast?_concat, fun _ => rfl, rfl⟩

theorem State.startsCleared_reads (s : State) : s.startsCleared.rget Fd.BOOT_STAT_FAILED_STARTS = 0 := by
  unfold State.startsCleared
  rw [State.rget_raise _ _ _ not_recSlot_start, State.rget_rset_width _ _ (k := 4) (by decide) (by decide) (by decide), Nat.zero_mod]

theorem State.startsCleared_dram (s : State) : s.startsCleared.mem.dram = s.mem.dram := by
  unfold State.startsCleared
  rw [(State.raise_same _ _).mem_dram]
  simp only [State.rset_frame]

/-- Where a counted failure ends: in Twilight mode, or with another try (R554). -/
def State.failEnd (s : State) (count n reason : Nat) : State :=
  if count ≥ 3 then (s.failCommitted count n reason).twilightEnter else (s.failCommitted count n reason).retryLater

theorem State.failCommitted_ends (s : State) {n reason count : Nat} (hc : min 15 (s.rget Fd.BOOT_STAT_FAILED_STARTS + 1) = count) (hn : n < 8)
    (hreason : reason < 65536) : (s.failEnd count n reason).rget Fd.BOOT_STAT_FAILED_STARTS = count ∧
      (s.failEnd count n reason).rget Fd.BOOT_STAT_FAIL_STAGE = n ∧ (s.failEnd count n reason).rget Fd.BOOT_STAT_FAIL_REASON = reason ∧
      (s.failEnd count n reason).boot.failed = none ∧ (s.failEnd count n reason).boot.lastFailed = s.boot.reports ∧
      (s.rget Fd.BOOT_STAT_FAILED_STARTS < 2 → (s.failEnd count n reason).boot.retryAt = some (s.clock + 25000000)) ∧
      (2 ≤ s.rget Fd.BOOT_STAT_FAILED_STARTS → (s.failEnd count n reason).twilight = true ∧ (s.failEnd count n reason).stage = 7 ∧
        (s.failEnd count n reason).hpt.ready = true) ∧
      (s.failEnd count n reason).rget Fd.SES_STAT_ENGINE_UP = 0 ∧ (∀ k, k < s.towers → (s.failEnd count n reason).towerUp k = false) := by
  have hcount : count < 16 := by omega
  unfold State.failEnd
  obtain ⟨hreads1, hreads2, hreads3⟩ := s.failNoted_reads hcount hn hreason
  obtain ⟨hfailed, hlast⟩ := BootState.failure_of_still (s.failCommitted_boot count n reason)
  have hengine : (s.failCommitted count n reason).rget Fd.SES_STAT_ENGINE_UP = 0 := State.zonesOff_engine _
  have htowers (k : Nat) : (s.failCommitted count n reason).towerUp k = false := State.zonesOff_towers _ k
  by_cases h3 : count ≥ 3
  · rw [if_pos h3]
    refine ⟨?_, ?_, ?_, ?_, ?_, fun h => absurd h (by omega), fun _ => ⟨State.twilightEnter_twilight _, State.twilightEnter_stage _, ?_⟩, ?_,
      fun k _ => State.twilightEnter_towerUp _ k (htowers k)⟩
    · rw [State.twilightEnter_rget _ not_recSlot_start (Or.inr (by decide)), State.failCommitted_rget _ _ _ _ rfl, hreads1]
    · rw [State.twilightEnter_rget _ not_recSlot_start (Or.inr (by decide)), State.failCommitted_rget _ _ _ _ rfl, hreads2]
    · rw [State.twilightEnter_rget _ not_recSlot_start (Or.inr (by decide)), State.failCommitted_rget _ _ _ _ rfl, hreads3]
    · exact (BootState.failure_of_running (State.twilightEnter_boot _)).1.trans hfailed
    · exact (BootState.failure_of_running (State.twilightEnter_boot _)).2.trans hlast
    · exact (State.port_ready _).symm.trans (State.twilightEnter_port _)
    · rw [State.twilightEnter_rget _ (by unfold recSlot; decide) (Or.inl (by decide)), hengine]
  · rw [if_neg h3]
    refine ⟨?_, ?_, ?_, ?_, ?_, fun _ => ?_, fun h => absurd h (by omega), ?_, fun k _ => ?_⟩
    · rw [State.retryLater_reads, State.failCommitted_rget _ _ _ _ rfl, hreads1]
    · rw [State.retryLater_reads, State.failCommitted_rget _ _ _ _ rfl, hreads2]
    · rw [State.retryLater_reads, State.failCommitted_rget _ _ _ _ rfl, hreads3]
    · rw [State.retryLater_failed, hfailed]
    · rw [State.retryLater_lastFailed, hlast]
    · rw [State.retryLater_retryAt, State.failCommitted_clock]
    · rw [State.retryLater_reads, hengine]
    · rw [State.retryLater_towerUp, htowers]

/-- Settles O44. -/
theorem failedStarts : Obligations.FailedStarts := by
  unfold Obligations.FailedStarts
  refine ⟨?_, ?_, ?_, ?_, ?_, ?_, ?_, ?_⟩
  · intro s hw hd
    refine ⟨s.stageFail s.stage 0x0F01 3 s.elapsed modLoc, congrArg Host.Outcome.next (if_pos (by simp [hw, hd])), ?_⟩
    exact s.stageFail_fails _ _ _ _ _
  · intro s n reason hf hr hrem hn hreason
    exact ⟨_, execFailedStartCounted_counts hf hr hrem, s.failCommitted_ends rfl hn hreason⟩
  · intro s n reason hf hr hrem
    obtain ⟨h1, h2, h3, h4⟩ := s.abandon_removes
    refine ⟨s.abandon, ?_, h4, h1, h2, h3⟩
    unfold exec execFailedStartCounted
    rw [hf]
    exact congrArg Host.Outcome.next ((if_neg hr).trans (if_pos hrem))
  · intro s n hf
    unfold exec execFailedStartCounted
    rw [hf]
    exact congrArg Host.Outcome.next (if_pos rfl)
  · intro s c hc hle hp
    refine ⟨s.startAtPredawn s.twilight, ?_, ?_⟩
    · refine congrArg Host.Outcome.next ?_
      rw [hc]
      exact if_pos (by simp [hle, hp])
    · obtain ⟨h1, h2, h3, h4, h5, h6, h7⟩ := s.startAtPredawn_starts s.twilight
      exact ⟨h1, h2, h3, h4, h5, h6, h7⟩
  · intro s c hc hnoon hfs hd
    obtain ⟨hlast, hget, hdram⟩ := s.startsCleared.commit_bootRec
    refine ⟨s.startsCleared.commit [s.startsCleared.bootRec], ?_, (hget _).trans s.startsCleared_reads, hlast, hdram.trans s.startsCleared_dram⟩
    refine congrArg Host.Outcome.next ?_
    rw [hc]
    exact if_pos (by simp [hnoon, hfs, hd])
  · intro s htw hp
    obtain ⟨h1, h2, h3, -, h5, -, -⟩ := s.startAtPredawn_starts true
    exact ⟨_, congrArg Host.Outcome.next (if_pos (by simp [htw, hp])), h1, h2, h5, h3⟩
  · intro s hl hp
    by_cases hpass : [0, 1].all (fun c => s.slotPasses 0 c || s.slotPasses 1 c) = true
    · obtain ⟨h1, h2, -, -, h5, -, -⟩ := s.startAtPredawn_starts true
      exact ⟨s.startAtPredawn true, congrArg Host.Outcome.next (if_pos (by rw [hpass]; simp [hl, hp])), fun _ => ⟨h1, h2, h5⟩,
        fun h => absurd hpass (by rw [h]; decide)⟩
    · exact ⟨s, congrArg Host.Outcome.next (if_neg (by rw [Bool.eq_false_iff.mpr hpass]; simp)), fun h => absurd h hpass, fun _ => rfl⟩

end Sys2Proof.Machine
end

section
/-!
PROOFS. Contacts, the latch and the removal sequence (R646–R658).
-/

namespace Sys2Proof.Machine

set_option Elab.async false

/-! ### Rings that stop -/

section
variable (s : State)

/-- A value that fits its field reads back. -/
theorem State.rget_rset_fits {f : Fd} (v : Nat) {k : Nat} (h : f.lo ≤ f.hi) (hn : f.hi < 64) (hk : f.hi + 1 - f.lo = k) (hv : v < 2 ^ k) :
    (s.rset f v).rget f = v := by rw [State.rget_rset_width _ _ h hn hk, Nat.mod_eq_of_lt hv]

theorem State.rget_dmaResume_of_le (r i : Nat) {g : Fd} (hg : 0x400000 ≤ g.off) : (s.dmaResume r i).rget g = s.rget g := by
  unfold State.dmaResume
  refine List.foldlRecOn (motive := fun t : State => t.rget g = s.rget g) _ _ rfl fun t ht f hf => ?_
  refine List.foldlRecOn (motive := fun t : State => t.rget g = s.rget g) _ _ ht fun u hu c hc => ?_
  have hf' : f < 16 := lt_of_lt_of_le (List.mem_range.mp hf) (Nat.mul_le_mul_left 4 (Part.towers_le s.part))
  have hc' := List.mem_range.mp hc
  split
  · split
    · rw [State.rget_rset_off _ _ (by simp only [Fd.FRD_DMA_STAT_HALTED]; omega)]
      exact hu
    · exact hu
  · exact hu

/-- A completion leaves every ring's control word. -/
theorem State.complete_ringCtl (r i status reason result k : Nat) :
    (s.complete r i status reason result).rget (Fd.RNG_CTL_ENABLE k) = s.rget (Fd.RNG_CTL_ENABLE k) := by
  have hd : (Fd.RNG_CTL_ENABLE k).off ≠ (Fd.RNG_CNT_DONE r).off := by simp only [Fd.RNG_CTL_ENABLE, Fd.RNG_CNT_DONE]; omega
  have hf : (Fd.RNG_CTL_ENABLE k).off ≠ (Fd.RNG_CNT_FAILED r).off := by simp only [Fd.RNG_CTL_ENABLE, Fd.RNG_CNT_FAILED]; omega
  unfold State.complete
  split
  · rfl
  · dsimp only
    split
    · rw [State.rget_dmaResume_of_le _ _ _ (by simp only [Fd.RNG_CTL_ENABLE]; omega), State.modRing_rget]
    · split
      · rw [State.radd, State.rget_rset_off _ _ hf, State.radd, State.rget_rset_off _ _ hd, State.modRing_rget]
      · rw [State.radd, State.rget_rset_off _ _ hd, State.modRing_rget]

variable {s} in
theorem State.ringStop_of_live {r : Nat} (h : s.ringState r = 1 ∨ s.ringState r = 3) : s.ringStop r =
    (((s.ringStopped r).sor.waits.filter (fun w => w.ring == r)).foldl (fun (s : State) w => s.complete r w.idx 4 0 (s.sorus w.sorus).value.toNat)
      { s.ringStopped r with sor.waits := (s.ringStopped r).sor.waits.filter (fun w => w.ring != r) }) := by
  unfold State.ringStop
  dsimp only
  rw [if_pos (by simpa using h), State.ring_rset]
  rfl

/-- A ring that stops is not enabled; no other ring's control word changes. -/
theorem State.ringStop_enable (r k : Nat) : (s.ringStop r).rget (Fd.RNG_CTL_ENABLE k) = if r = k then 0 else s.rget (Fd.RNG_CTL_ENABLE k) := by
  have hd : (Fd.RNG_CTL_ENABLE k).off ≠ (Fd.RNG_CNT_DONE r).off := by simp only [Fd.RNG_CTL_ENABLE, Fd.RNG_CNT_DONE]; omega
  have hf : (Fd.RNG_CTL_ENABLE k).off ≠ (Fd.RNG_CNT_FAILED r).off := by simp only [Fd.RNG_CTL_ENABLE, Fd.RNG_CNT_FAILED]; omega
  have hen : (s.rset (Fd.RNG_CTL_ENABLE r) 0).rget (Fd.RNG_CTL_ENABLE k) = if r = k then 0 else s.rget (Fd.RNG_CTL_ENABLE k) := by
    split
    · next h => rw [h, State.rget_rset_width _ _ (k := 1) (by decide : 63 ≤ 63) (by decide : 63 < 64) (by decide : 63 + 1 - 63 = 1), Nat.zero_mod]
    · next h => exact State.rget_rset_off _ _ (by simp only [Fd.RNG_CTL_ENABLE]; omega)
  have hst (u : State) (v : Nat) : (u.rset (Fd.RNG_CTL_STATE r) v).rget (Fd.RNG_CTL_ENABLE k) = u.rget (Fd.RNG_CTL_ENABLE k) :=
    State.rget_rset_ne _ _ _ _ (by decide : 61 ≤ 62) (by decide : 62 < 64) (Or.inr (Or.inr (by decide : 62 < 63)))
  have hpend (u : State) (v : Nat) : (u.rset (Fd.RNG_CTL_PEND r) v).rget (Fd.RNG_CTL_ENABLE k) = u.rget (Fd.RNG_CTL_ENABLE k) :=
    State.rget_rset_ne _ _ _ _ (by decide : 60 ≤ 60) (by decide : 60 < 64) (Or.inr (Or.inr (by decide : 60 < 63)))
  have hcut (u : State) (w : List DWait) : ({ u with sor.waits := w } : State).rget (Fd.RNG_CTL_ENABLE k) = u.rget (Fd.RNG_CTL_ENABLE k) := (rfl)
  have hstopped : (s.ringStopped r).rget (Fd.RNG_CTL_ENABLE k) = if r = k then 0 else s.rget (Fd.RNG_CTL_ENABLE k) := by
    unfold State.ringStopped
    rw [State.radd, State.rget_rset_off _ _ hf, State.radd, State.rget_rset_off _ _ hd, hst, State.setRing_rget, hen]
  by_cases hlive : s.ringState r = 1 ∨ s.ringState r = 3
  · rw [State.ringStop_of_live hlive]
    exact List.foldlRecOn (motive := fun u : State => u.rget (Fd.RNG_CTL_ENABLE k) = if r = k then 0 else s.rget (Fd.RNG_CTL_ENABLE k)) _ _
      ((hcut _ _).trans hstopped)
      fun u hu w _ => (u.complete_ringCtl r w.idx 4 0 _ k).trans hu
  · unfold State.ringStop
    dsimp only
    rw [if_neg (by simpa using hlive), apply_ite (fun u : State => u.rget (Fd.RNG_CTL_ENABLE k)), hpend, hen, ite_self]

theorem State.ringStop_still (r : Nat) : (s.ringStop r).still = s.still := by
  have hq {f : Fd} (h : 0x400000 ≤ f.off) (u : State) (v : Nat) : (u.rset f v).still = u.still := u.rset_still (not_quiet_ring h) v
  have hstopped : (s.ringStopped r).still = s.still := by
    unfold State.ringStopped
    rw [State.radd, hq (by simp only [Fd.RNG_CNT_FAILED]; omega), State.radd, hq (by simp only [Fd.RNG_CNT_DONE]; omega),
      hq (by simp only [Fd.RNG_CTL_STATE]; omega)]
    exact (State.units_still _).trans (hq (by simp only [Fd.RNG_CTL_ENABLE]; omega) _ _)
  by_cases hlive : s.ringState r = 1 ∨ s.ringState r = 3
  · rw [State.ringStop_of_live hlive, State.foldl_still _ fun u w => u.complete_still _ _ _ _ _]
    exact (State.units_still _).trans hstopped
  · unfold State.ringStop
    dsimp only
    rw [if_neg (by simpa using hlive), apply_ite State.still, hq (by simp only [Fd.RNG_CTL_PEND]; omega), hq (by simp only [Fd.RNG_CTL_ENABLE]; omega), ite_self]

end

/-! ### Contacts and inputs -/

/-- The words of the contacts and the two inputs. -/
def inputOff (off : Nat) : Bool := off == 0x10000 || off == 0xB0008 || off == 0xB0010

/-- All but those words and the state of the inputs. -/
def State.besideInputs (s : State) : State × (Nat → W64) :=
  ({ s with regs := [], pwr := .init }, fun off => if inputOff off then 0#64 else s.rword off)

section
variable (s : State)

theorem State.setRword_besideInputs {off : Nat} (h : inputOff off = true) (w : W64) : (s.setRword off w).besideInputs = s.besideInputs := by
  have hregs : (fun o => if inputOff o then 0#64 else (s.setRword off w).rword o) = fun o => if inputOff o then 0#64 else s.rword o := by
    funext o
    by_cases hq : inputOff o = true
    · rw [if_pos hq, if_pos hq]
    · rw [if_neg hq, if_neg hq, State.rword_setRword_ne _ _ (fun e => by rw [e, h] at hq; exact hq rfl)]
  exact congrArg (Prod.mk ({ s with regs := [], pwr := .init } : State)) hregs

theorem State.rset_besideInputs {f : Fd} (h : inputOff f.off = true) (v : Nat) : (s.rset f v).besideInputs = s.besideInputs := s.setRword_besideInputs h _
theorem State.pwr_besideInputs (p : PwrState) : State.besideInputs { s with pwr := p } = s.besideInputs := (rfl)

variable {s} in
theorem State.rget_of_besideInputs {t : State} (h : t.besideInputs = s.besideInputs) {f : Fd} (ho : inputOff f.off = false) : t.rget f = s.rget f := by
  have e := congrFun (congrArg Prod.snd h) f.off
  unfold State.besideInputs at e
  dsimp only at e
  rw [ho] at e
  rw [State.rget, show t.rword f.off = s.rword f.off from e, State.rget]
variable {s} in
theorem State.mem_of_besideInputs {t : State} (h : t.besideInputs = s.besideInputs) : t.mem = s.mem := congrArg (fun x => x.1.mem) h
variable {s} in
theorem State.stage_of_besideInputs {t : State} (h : t.besideInputs = s.besideInputs) : t.stage = s.stage := State.rget_of_besideInputs h rfl
variable {s} in
theorem State.devId_of_besideInputs {t : State} (h : t.besideInputs = s.besideInputs) : t.devId = s.devId := by
  unfold State.devId
  rw [State.rget_of_besideInputs h rfl, State.rget_of_besideInputs h rfl]

theorem State.setIn_inSt (i : Nat) {v : Nat} (hv : v < 8) : (s.setIn i v).inSt i = v := by
  rw [State.setIn, State.inSt, State.rget_rset_width _ _ (k := 3) (by decide : 61 ≤ 63) (by decide : 63 < 64) (by decide : 63 + 1 - 61 = 3)]
  exact Nat.mod_eq_of_lt hv

theorem inputOff_in {i : Nat} (h : i < 2) : inputOff (0xB0008 + i * 0x8) = true := by
  obtain rfl | rfl : i = 0 ∨ i = 1 := by omega
  · rfl
  · rfl

theorem State.swapRoles_besideInputs : s.swapRoles.besideInputs = s.besideInputs := by
  unfold State.swapRoles
  exact (State.pwr_besideInputs _ _).trans ((State.setRword_besideInputs _ rfl _).trans (State.setRword_besideInputs _ rfl _))

theorem State.roles_besideInputs (m : Nat) : (s.roles m).besideInputs = s.besideInputs := by
  unfold State.roles State.setPhys
  dsimp only
  rw [State.rset_besideInputs _ rfl, State.rset_besideInputs _ rfl, apply_ite State.besideInputs, State.swapRoles_besideInputs, ite_self]

/-- Every input takes its role from the main set. -/
theorem State.roles_phys {m : Nat} (hm : m < 2) : (s.roles m).rget (Fd.PWR_IN_STAT_PHYS 0) = m ∧ (s.roles m).rget (Fd.PWR_IN_STAT_PHYS 1) = 1 - m := by
  unfold State.roles State.setPhys
  dsimp only
  constructor
  · rw [State.rget_rset_off _ _ (by decide), State.rget_rset_width _ _ (k := 1) (by decide) (by decide) (by decide)]
    omega
  · rw [State.rget_rset_width _ _ (k := 1) (by decide) (by decide) (by decide)]
    omega

/-- The contacts' word is no input's. -/
theorem State.roles_contacts (m : Nat) {f : Fd} (hf : f.off = 0x10000) : (s.roles m).rget f = s.rget f := by
  have hne (i : Nat) (h : i < 2) : f.off ≠ (Fd.PWR_IN_STAT_PHYS i).off := by simp only [Fd.PWR_IN_STAT_PHYS]; omega
  have hs : s.swapRoles.rget f = s.rget f := by
    unfold State.swapRoles
    refine Eq.trans (b := ((s.setRword 0xB0008 (s.rword 0xB0010)).setRword 0xB0010 (s.rword 0xB0008)).rget f) rfl ?_
    rw [State.rget_setRword_ne _ _ (by omega), State.rget_setRword_ne _ _ (by omega)]
  unfold State.roles State.setPhys
  dsimp only
  rw [State.rget_rset_off _ _ (hne 1 (by decide)), State.rget_rset_off _ _ (hne 0 (by decide)), apply_ite (fun u : State => u.rget f), hs, ite_self]

/-- An input whose set is present is not absent. -/
theorem State.setSeen_of_present {i : Nat} (h : s.setPresent (s.rget (Fd.PWR_IN_STAT_PHYS i)) = true) :
    s.setSeen i = if s.inSt i = 0 then s.setIn i 1 else s := if_pos h

theorem State.setPresent_of_codes {p0 p1 : Nat} (h0 : s.rget Fd.HUB_CONN_STAT_PRES0 = p0) (h1 : s.rget Fd.HUB_CONN_STAT_PRES1 = p1) (n0 : p0 ≠ 3)
    (n1 : p1 ≠ 3) (k : Nat) : s.setPresent k = true := by
  unfold State.setPresent
  split
  · rw [h0, bne_iff_ne]
    exact n0
  · rw [h1, bne_iff_ne]
    exact n1

/-- Both inputs' sets present: neither input is absent, and nothing else has changed. -/
theorem State.setSeen_both {p0 p1 : Nat} (h0 : s.rget Fd.HUB_CONN_STAT_PRES0 = p0) (h1 : s.rget Fd.HUB_CONN_STAT_PRES1 = p1) (n0 : p0 ≠ 3) (n1 : p1 ≠ 3) :
    ((s.setSeen 0).setSeen 1).inSt 0 ≠ 0 ∧ ((s.setSeen 0).setSeen 1).inSt 1 ≠ 0 ∧
    (∀ f : Fd, f.hi < 61 → ((s.setSeen 0).setSeen 1).rget f = s.rget f) ∧ ((s.setSeen 0).setSeen 1).besideInputs = s.besideInputs := by
  have hseen (u : State) (i : Nat) (hi : i < 2) (hu0 : u.rget Fd.HUB_CONN_STAT_PRES0 = p0) (hu1 : u.rget Fd.HUB_CONN_STAT_PRES1 = p1) :
      (u.setSeen i).inSt i ≠ 0 ∧ (u.setSeen i).inSt (1 - i) = u.inSt (1 - i) ∧ (∀ f : Fd, f.hi < 61 → (u.setSeen i).rget f = u.rget f) ∧
      (u.setSeen i).besideInputs = u.besideInputs := by
    rw [State.setSeen_of_present _ (State.setPresent_of_codes _ hu0 hu1 n0 n1 _)]
    split
    · refine ⟨by rw [State.setIn_inSt _ _ (by decide)]; decide, ?_, fun f hf => ?_, State.rset_besideInputs _ (inputOff_in hi) _⟩
      · exact State.rget_rset_off _ _ (by simp only [Fd.PWR_IN_STAT_STATE]; omega)
      · exact State.rget_rset_ne _ _ _ _ (by decide : 61 ≤ 63) (by decide : 63 < 64) (Or.inr (Or.inl hf))
    · next h => exact ⟨h, rfl, fun _ _ => rfl, rfl⟩
  obtain ⟨ha, -, hra, hba⟩ := hseen s 0 (by decide) h0 h1
  obtain ⟨hb, hb', hrb, hbb⟩ := hseen (s.setSeen 0) 1 (by decide) ((hra _ (by decide)).trans h0) ((hra _ (by decide)).trans h1)
  exact ⟨by rw [hb']; exact ha, hb, fun f hf => (hrb f hf).trans (hra f hf), hbb.trans hba⟩

/-- The contacts read codes `p0` and `p1`, and the inputs follow (R646, R647). -/
def State.contactsRead (p0 p1 m : Nat) : State :=
  ((((s.rset Fd.HUB_CONN_STAT_PRES0 p0).rset Fd.HUB_CONN_STAT_PRES1 p1).roles m).setSeen 0).setSeen 1

theorem State.contactsRead_reads {p0 p1 m : Nat} (h0 : p0 < 3) (h1 : p1 < 3) (hm : m < 2) :
    (s.contactsRead p0 p1 m).rget Fd.HUB_CONN_STAT_PRES0 = p0 ∧ (s.contactsRead p0 p1 m).rget Fd.HUB_CONN_STAT_PRES1 = p1 ∧
    (s.contactsRead p0 p1 m).rget (Fd.PWR_IN_STAT_PHYS 0) = m ∧ (s.contactsRead p0 p1 m).rget (Fd.PWR_IN_STAT_PHYS 1) = 1 - m ∧
    (s.contactsRead p0 p1 m).inSt 0 ≠ 0 ∧ (s.contactsRead p0 p1 m).inSt 1 ≠ 0 ∧ (s.contactsRead p0 p1 m).besideInputs = s.besideInputs := by
  have hp0 : (((s.rset Fd.HUB_CONN_STAT_PRES0 p0).rset Fd.HUB_CONN_STAT_PRES1 p1).roles m).rget Fd.HUB_CONN_STAT_PRES0 = p0 := by
    rw [State.roles_contacts _ _ rfl, State.rget_rset_ne _ _ _ _ (by decide) (by decide) (by decide), State.rget_rset_width _ _ (k := 2) (by decide) (by decide) (by decide)]
    omega
  have hp1 : (((s.rset Fd.HUB_CONN_STAT_PRES0 p0).rset Fd.HUB_CONN_STAT_PRES1 p1).roles m).rget Fd.HUB_CONN_STAT_PRES1 = p1 := by
    rw [State.roles_contacts _ _ rfl, State.rget_rset_width _ _ (k := 2) (by decide) (by decide) (by decide)]
    omega
  obtain ⟨hphys0, hphys1⟩ := State.roles_phys ((s.rset Fd.HUB_CONN_STAT_PRES0 p0).rset Fd.HUB_CONN_STAT_PRES1 p1) hm
  obtain ⟨ha, hb, hr, hbeside⟩ := State.setSeen_both _ hp0 hp1 (by omega) (by omega)
  exact ⟨(hr _ (by decide)).trans hp0, (hr _ (by decide)).trans hp1, (hr _ (by decide)).trans hphys0, (hr _ (by decide)).trans hphys1, ha, hb,
    hbeside.trans ((State.roles_besideInputs _ _).trans ((State.rset_besideInputs _ rfl _).trans (State.rset_besideInputs _ rfl _)))⟩

/-- The records of codes `p0` and `p1`. -/
def State.codesSaid (p0 p1 : Nat) : State :=
  let u := if validCode p0 && p1 = 1 && p0 ≠ p1 then s.raise (recNote 0x0D04 (inputLoc 0)) else s
  match badCode p0 p1 with
  | some set => u.raise (recNote 0x1201 (presenceLoc set))
  | none => u

theorem State.codesSaid_in_order : s.codesSaid 1 2 = s := (rfl)
theorem State.codesSaid_swapped : s.codesSaid 2 1 = s.raise (recNote 0x0D04 (inputLoc 0)) := (rfl)
theorem State.codesSaid_alike : s.codesSaid 1 1 = s.raise (recNote 0x1201 (presenceLoc 1)) := (rfl)

/-- Codes that leave a set present: the contacts are read, then the records raised. -/
theorem execPresenceChange_reads {p0 p1 m : Nat} (h0 : p0 < 3) (h1 : p1 < 3) (hm : mainSet p0 p1 = some m)
    (hnew : ¬(s.rget Fd.HUB_CONN_STAT_PRES0 = p0 ∧ s.rget Fd.HUB_CONN_STAT_PRES1 = p1)) :
    execPresenceChange p0 p1 s = .next ((s.contactsRead p0 p1 m).codesSaid p0 p1) := by
  have e0 : p0 % 4 = p0 := Nat.mod_eq_of_lt (by omega)
  have e1 : p1 % 4 = p1 := Nat.mod_eq_of_lt (by omega)
  unfold execPresenceChange
  dsimp only
  rw [e0, e1, if_neg (by simp; omega), if_neg (by simp; omega), hm]
  rfl

/-! ### An input that no longer serves -/

/-- The word of an input out of use. -/
def State.wordOut (i v : Nat) : State :=
  (((s.setIn i v).rset (Fd.PWR_IN_STAT_SUP_FLAG i) 0).rset (Fd.PWR_IN_STAT_RET_FLAG i) 0).rset (Fd.PWR_IN_STAT_SUP_OK i) 8 |>.rset
    (Fd.PWR_IN_STAT_RET_OK i) 8

/-- When it went out of use. -/
def State.outSince (i : Nat) : State :=
  { s with pwr.qualAt := spPut (fun _ => none) s.pwr.qualAt i none
           pwr.offAt := spPut (fun _ => none) s.pwr.offAt i (some s.clock)
           pwr.contactRuns := s.pwr.contactRuns.filter (fun p => p.1 / 16 != s.rget (Fd.PWR_IN_STAT_PHYS i)) }

theorem State.outSince_rget (i : Nat) (f : Fd) : (s.outSince i).rget f = s.rget f := (rfl)
theorem State.outSince_besideInputs (i : Nat) : (s.outSince i).besideInputs = s.besideInputs := s.pwr_besideInputs _

/-- An input not qualified, before the other one carries. -/
def State.outOfUse (i v : Nat) : State := (s.wordOut i v).outSince i

theorem State.unqualify_eq (i v : Nat) : s.unqualify i v =
    if s.inSt i = 3 && (s.outOfUse i v).inSt (1 - i) == 2 then (s.outOfUse i v).carry (1 - i) else s.outOfUse i v := (rfl)

theorem State.outOfUse_besideInputs {i : Nat} (hi : i < 2) (v : Nat) : (s.outOfUse i v).besideInputs = s.besideInputs := by
  unfold State.outOfUse State.wordOut
  rw [State.outSince_besideInputs, State.rset_besideInputs _ (inputOff_in hi), State.rset_besideInputs _ (inputOff_in hi), State.rset_besideInputs _ (inputOff_in hi),
    State.rset_besideInputs _ (inputOff_in hi)]
  exact s.rset_besideInputs (inputOff_in hi) _

/-- Its word: the state, and its counts and flags as at reset. -/
theorem State.outOfUse_word (i : Nat) {v : Nat} (hv : v < 8) : (s.outOfUse i v).inSt i = v ∧ (s.outOfUse i v).rget (Fd.PWR_IN_STAT_SUP_FLAG i) = 0 ∧
    (∀ f : Fd, f.off ≠ (Fd.PWR_IN_STAT_STATE i).off → (s.outOfUse i v).rget f = s.rget f) := by
  have e (f : Fd) : (s.outOfUse i v).rget f = (s.wordOut i v).rget f := State.outSince_rget _ i f
  have hb {f g : Fd} (u : State) (w : Nat) (h : f.lo ≤ f.hi) (hn : f.hi < 64) (hd : g.hi < f.lo ∨ f.hi < g.lo) : (u.rset f w).rget g = u.rget g :=
    State.rget_rset_ne _ _ _ _ h hn (Or.inr hd)
  refine ⟨?_, ?_, fun f hf => ?_⟩
  · rw [State.inSt, e, State.wordOut, hb _ _ (by decide : 52 ≤ 55) (by decide : 55 < 64) (Or.inr (by decide : 55 < 61)), hb _ _ (by decide : 56 ≤ 59) (by decide : 59 < 64) (Or.inr (by decide : 59 < 61)),
      hb _ _ (by decide : 8 ≤ 15) (by decide : 15 < 64) (Or.inr (by decide : 15 < 61)), hb _ _ (by decide : 0 ≤ 7) (by decide : 7 < 64) (Or.inr (by decide : 7 < 61))]
    exact s.setIn_inSt i hv
  · rw [e, State.wordOut, hb _ _ (by decide : 52 ≤ 55) (by decide : 55 < 64) (Or.inl (by decide : 7 < 52)), hb _ _ (by decide : 56 ≤ 59) (by decide : 59 < 64) (Or.inl (by decide : 7 < 56)),
      hb _ _ (by decide : 8 ≤ 15) (by decide : 15 < 64) (Or.inl (by decide : 7 < 8)),
      State.rget_rset_width _ _ (k := 8) (by decide : 0 ≤ 7) (by decide : 7 < 64) (by decide : 7 + 1 - 0 = 8), Nat.zero_mod]
  · have ho {g : Fd} (hg : g.off = (Fd.PWR_IN_STAT_STATE i).off) (u : State) (w : Nat) : (u.rset g w).rget f = u.rget f := State.rget_rset_off _ _ (by rw [hg]; exact hf)
    rw [e, State.wordOut]
    unfold State.setIn
    rw [ho (g := Fd.PWR_IN_STAT_RET_OK i) rfl, ho (g := Fd.PWR_IN_STAT_SUP_OK i) rfl, ho (g := Fd.PWR_IN_STAT_RET_FLAG i) rfl,
      ho (g := Fd.PWR_IN_STAT_SUP_FLAG i) rfl, ho (g := Fd.PWR_IN_STAT_STATE i) rfl]

theorem State.outOfUse_other {i : Nat} (hi : i < 2) {v : Nat} (hv : v < 8) : (s.outOfUse i v).inSt (1 - i) = s.inSt (1 - i) :=
  (s.outOfUse_word i hv).2.2 _ (by simp only [Fd.PWR_IN_STAT_STATE]; omega)

theorem not_recSlot_input {f : Fd} {i : Nat} (hi : i < 2) (h : f.off = 0xB0008 + i * 0x8) : ¬ recSlot f.off := by
  unfold recSlot
  simp only [Fd.HPT_ATS_STAT_FAILS]
  omega

theorem State.carry_inSt {i : Nat} (hi : i < 2) : (s.carry i).inSt i = 3 ∧ (s.carry i).inSt (1 - i) = s.inSt (1 - i) := by
  unfold State.carry State.inSt
  constructor
  · rw [State.rget_raise _ _ _ (not_recSlot_input hi rfl)]
    exact s.setIn_inSt i (by decide)
  · rw [State.rget_raise _ _ _ (not_recSlot_input (i := 1 - i) (by omega) rfl)]
    exact State.rget_rset_off _ _ (by simp only [Fd.PWR_IN_STAT_STATE]; omega)

/-- The two inputs after one is out of use: where it carried the load and the other stood by, the other carries it now. -/
theorem State.unqualify_inSt {i v : Nat} (hi : i < 2) (hv : v < 8) : (s.unqualify i v).inSt i = v ∧
    (s.unqualify i v).inSt (1 - i) = if s.inSt i = 3 ∧ s.inSt (1 - i) = 2 then 3 else s.inSt (1 - i) := by
  obtain ⟨hin, -, -⟩ := s.outOfUse_word i hv
  rw [State.unqualify_eq, s.outOfUse_other hi hv]
  by_cases h : s.inSt i = 3 ∧ s.inSt (1 - i) = 2
  · obtain ⟨h3, h2⟩ := h
    obtain ⟨hc, hc'⟩ := (s.outOfUse i v).carry_inSt (i := 1 - i) (by omega)
    rw [if_pos (by simp [h3, h2]), if_pos ⟨h3, h2⟩]
    have e : 1 - (1 - i) = i := by omega
    rw [e] at hc'
    exact ⟨hc'.trans hin, hc⟩
  · rw [if_neg (by simpa using h), if_neg h]
    exact ⟨hin, s.outOfUse_other hi hv⟩

/-- The stored bytes of piles and towers, and units beside the inputs. -/
def State.stores : List Host.Cell × List Host.Cell × FrdState × Sp Ring × ConState := (s.mem.dram, s.mem.thl, s.frd, s.rng, s.con)

theorem State.raise_stores (a : RecArg) : (s.raise a).stores = s.stores := by
  have h := s.raise_same a
  unfold State.stores
  rw [h.mem_dram, h.mem_thl, h.frd, h.rng, h.con]

variable {s} in
theorem State.stores_of_besideInputs {t : State} (h : t.besideInputs = s.besideInputs) : t.stores = s.stores := congrArg (fun x => x.1.stores) h

theorem State.carry_stores {i : Nat} (hi : i < 2) : (s.carry i).stores = s.stores :=
  (State.raise_stores _ _).trans (State.stores_of_besideInputs (s.rset_besideInputs (inputOff_in hi) 3))

/-- What else an input out of use leaves: the units and stored bytes. -/
theorem State.unqualify_stores {i : Nat} (hi : i < 2) (v : Nat) : (s.unqualify i v).stores = s.stores := by
  rw [State.unqualify_eq, apply_ite State.stores, State.carry_stores _ (by omega), State.stores_of_besideInputs (s.outOfUse_besideInputs hi v), ite_self]

/-- Its flags are clear. -/
theorem State.unqualify_flag {i v : Nat} (hi : i < 2) (hv : v < 8) : (s.unqualify i v).rget (Fd.PWR_IN_STAT_SUP_FLAG i) = 0 := by
  obtain ⟨-, hflag, -⟩ := s.outOfUse_word i hv
  have hc : ((s.outOfUse i v).carry (1 - i)).rget (Fd.PWR_IN_STAT_SUP_FLAG i) = (s.outOfUse i v).rget (Fd.PWR_IN_STAT_SUP_FLAG i) := by
    rw [State.carry, State.rget_raise _ _ _ (not_recSlot_input hi rfl)]
    exact State.rget_rset_off _ _ (by simp only [Fd.PWR_IN_STAT_SUP_FLAG, Fd.PWR_IN_STAT_STATE]; omega)
  rw [State.unqualify_eq, apply_ite (fun u : State => u.rget _), hc, ite_self, hflag]

/-- The contacts' word stays. -/
theorem State.unqualify_contacts {i v : Nat} (hv : v < 8) {f : Fd} (hf : f.off = 0x10000) : (s.unqualify i v).rget f = s.rget f := by
  obtain ⟨-, -, hoff⟩ := s.outOfUse_word i hv
  have hne (j : Nat) : f.off ≠ (Fd.PWR_IN_STAT_STATE j).off := by simp only [Fd.PWR_IN_STAT_STATE]; omega
  have hc : ((s.outOfUse i v).carry (1 - i)).rget f = (s.outOfUse i v).rget f := by
    rw [State.carry, State.rget_raise _ _ _ (by rw [hf]; unfold recSlot; decide)]
    exact State.rget_rset_off _ _ (hne _)
  rw [State.unqualify_eq, apply_ite (fun u : State => u.rget f), hc, ite_self, hoff f (hne i)]

/-! ### All but the Night domain off -/

/-- What is off in a cold state. -/
def State.unitsOff (t : State) : Prop :=
  t.mem.dram = [] ∧ t.mem.thl = [] ∧ t.mem.ls = [] ∧ t.frd = FrdState.init ∧ t.rng = [] ∧ t.ses = SesState.init

theorem State.coldState_mem : s.coldState.mem = { MemState.init with host := s.mem.host } := by
  unfold State.coldState
  simp only [State.rset_frame]
  rfl

theorem State.coldState_units : s.coldState.frd = FrdState.init ∧ s.coldState.rng = [] ∧ s.coldState.ses = SesState.init := by
  refine ⟨?_, ?_, ?_⟩
  all_goals
    unfold State.coldState
    simp only [State.rset_frame]
    rfl

theorem State.coldState_off : s.coldState.unitsOff := by
  unfold State.unitsOff
  rw [State.coldState_mem]
  exact ⟨rfl, rfl, rfl, s.coldState_units⟩

variable {s} in
/-- Units that stay off. -/
theorem State.unitsOff_congr {t : State} (h : s.unitsOff) (hm : t.mem = s.mem) (hf : t.frd = s.frd) (hr : t.rng = s.rng) (hs : t.ses = s.ses) : t.unitsOff := by
  unfold State.unitsOff
  rw [hm, hf, hr, hs]
  exact h

/-- The module's own state that the Night domain kept. -/
def State.moduleBlank : State := { s with con.lowLanes := [], con.frame := [], con.eid := 0, flt.early := [], flt.earlyDrop := 0 }
def State.removalBlank : State := { s with con.rmAt := none, con.parkList := [], con.parkNext := 0 }

theorem State.moduleBlank_frame : s.moduleBlank.mem = s.mem ∧ s.moduleBlank.frd = s.frd ∧ s.moduleBlank.rng = s.rng ∧ s.moduleBlank.ses = s.ses ∧
    s.moduleBlank.con.shutdown = s.con.shutdown ∧ s.moduleBlank.ldg = s.ldg ∧ s.moduleBlank.part = s.part ∧ s.moduleBlank.pending = s.pending :=
  ⟨rfl, rfl, rfl, rfl, rfl, rfl, rfl, rfl⟩
theorem State.removalBlank_frame : s.removalBlank.mem = s.mem ∧ s.removalBlank.frd = s.frd ∧ s.removalBlank.rng = s.rng ∧ s.removalBlank.ses = s.ses ∧
    s.removalBlank.con.shutdown = s.con.shutdown ∧ s.removalBlank.ldg = s.ldg ∧ s.removalBlank.part = s.part ∧ s.removalBlank.pending = s.pending :=
  ⟨rfl, rfl, rfl, rfl, rfl, rfl, rfl, rfl⟩

theorem State.removalOver_eq : s.removalOver =
    ((s.removalBlank.rset Fd.HUB_CONN_STAT_REMOVE 0).rset Fd.HUB_CONN_STAT_READY 0).rset Fd.HUB_CONN_STAT_RM_PHASE 0 := (rfl)

theorem State.nightDark_eq : s.nightDark = (((s.removalOver.moduleBlank.setRword 0x10000 (resetWord s.removalOver.moduleBlank.part.dramGib 0x10000)).rset
    Fd.HUB_CONN_STAT_LATCH_OPEN (s.removalOver.moduleBlank.rget Fd.HUB_CONN_STAT_LATCH_OPEN)).rset
    Fd.HUB_CONN_STAT_PRES0 (s.removalOver.moduleBlank.rget Fd.HUB_CONN_STAT_PRES0)).rset
    Fd.HUB_CONN_STAT_PRES1 (s.removalOver.moduleBlank.rget Fd.HUB_CONN_STAT_PRES1) := (rfl)

theorem State.nightDark_frame : s.nightDark.mem = s.mem ∧ s.nightDark.frd = s.frd ∧ s.nightDark.rng = s.rng ∧ s.nightDark.ses = s.ses ∧
    s.nightDark.con.shutdown = s.con.shutdown ∧ s.nightDark.ldg = s.ldg ∧ s.nightDark.part = s.part ∧ s.nightDark.pending = s.pending := by
  obtain ⟨hm, hf, hr, hs, hc, hl, hp, hq⟩ := s.removalOver.moduleBlank_frame
  obtain ⟨bm, bf, br, bs, bc, bl, bp, bq⟩ := s.removalBlank_frame
  rw [State.nightDark_eq]
  simp only [State.rset_frame, State.setRword_frame, hm, hf, hr, hs, hc, hl, hp, hq]
  rw [State.removalOver_eq]
  simp only [State.rset_frame, bm, bf, br, bs, bc, bl, bp, bq, and_self]

/-- What the Night domain's own loss changes in a cold state. -/
def State.nightCut : State :=
  { s with con.shutdown := true, thl := { ThlState.init with fuseRows := s.thl.fuseRows, fuseCols := s.thl.fuseCols }, pil := .init, pnw := .init, pwr := { s.pwr with phases := [], cells := [] }
           flt.early := [], flt.earlyDrop := 0
           ldg := { s.ldg with queue := [], lasers := [], sparesUsed := [], wornDue := []
                               wear := s.wearCommitted
                               starts := match s.ldgLive 0x06 0 with
                                 | some w => w.payload.getD 0 0
                                 | none => s.ldg.starts } }

theorem State.nightOff_eq : s.nightOff = (s.coldState.rset Fd.PIL_MAP_CTL_LOCK 0).nightCut := (rfl)

theorem State.nightCut_frame : s.nightCut.mem = s.mem ∧ s.nightCut.frd = s.frd ∧ s.nightCut.rng = s.rng ∧ s.nightCut.ses = s.ses ∧
    s.nightCut.con.shutdown = true ∧ s.nightCut.ldg.queue = [] ∧ s.nightCut.part = s.part ∧ s.nightCut.pending = s.pending := ⟨rfl, rfl, rfl, rfl, rfl, rfl, rfl, rfl⟩

theorem State.coldState_pending : s.coldState.pending = s.pending := by
  unfold State.coldState
  simp only [State.rset_frame]

/-- Everything but the Night domain is off, and it too. -/
theorem State.nightOff_off : s.nightOff.nightDark.unitsOff ∧ s.nightOff.nightDark.con.shutdown = true ∧ s.nightOff.nightDark.ldg.queue = [] ∧
    s.nightOff.nightDark.part = s.part ∧ s.nightOff.nightDark.pending = s.pending := by
  obtain ⟨dm, df, dr, ds, dc, dl, dp, dq⟩ := s.nightOff.nightDark_frame
  obtain ⟨cm, cf, cr, cs, cc, cl, cp, cq⟩ := (s.coldState.rset Fd.PIL_MAP_CTL_LOCK 0).nightCut_frame
  rw [← State.nightOff_eq] at cm cf cr cs cc cl cp cq
  simp only [State.rset_frame] at cm cf cr cs cp cq
  refine ⟨State.unitsOff_congr (State.unitsOff_congr s.coldState_off cm cf cr cs) dm df dr ds, dc.trans cc, ?_, dp.trans (cp.trans s.coldState_part), dq.trans (cq.trans s.coldState_pending)⟩
  rw [dl]
  exact cl

/-- A shutdown ends with everything off. -/
theorem State.shutDown_off (begun reason : Nat) (loc : Loc) : (s.shutDown begun reason loc).unitsOff ∧ (s.shutDown begun reason loc).con.shutdown = true ∧
    (s.shutDown begun reason loc).ldg.queue = [] := by
  unfold State.shutDown
  dsimp only
  exact ⟨(State.nightOff_off _).1, (State.nightOff_off _).2.1, (State.nightOff_off _).2.2.1⟩

/-! ### The latch -/

theorem State.readyShow_rget {f : Fd} (h : f.off ≠ 0x10000 ∨ f.hi < 61 ∨ 61 < f.lo) : s.readyShow.rget f = s.rget f :=
  State.rget_rset_ne _ _ _ _ (by decide) (by decide) h

/-- A register write of the module's own changes its register only. -/
theorem State.readyShow_frame : s.readyShow.mem = s.mem ∧ s.readyShow.con = s.con ∧ s.readyShow.boot = s.boot ∧ s.readyShow.flt = s.flt ∧
    s.readyShow.rng = s.rng ∧ s.readyShow.ses = s.ses ∧ s.readyShow.ldg = s.ldg ∧ s.readyShow.waited = s.waited := by
  unfold State.readyShow
  simp only [State.rset_frame, and_self]

theorem State.setPhase_rget {n : Nat} (hn : n < 8) : (s.setPhase n).rget Fd.HUB_CONN_STAT_RM_PHASE = n := by
  unfold State.setPhase
  rw [State.readyShow_rget _ (by decide), State.rget_rset_width _ _ (k := 3) (by decide) (by decide) (by decide)]
  exact Nat.mod_eq_of_lt hn

/-- In phase 6 the module is ready to be taken out. -/
theorem State.setPhase_ready : (s.setPhase 6).rget Fd.HUB_CONN_STAT_READY = 1 := by
  have h : (s.rset Fd.HUB_CONN_STAT_RM_PHASE 6).rget Fd.HUB_CONN_STAT_RM_PHASE = 6 :=
    State.rget_rset_fits _ _ (k := 3) (by decide) (by decide) (by decide) (by decide)
  unfold State.setPhase State.readyShow
  rw [h, BEq.rfl, Bool.true_or]
  exact State.rget_rset_fits _ _ (k := 1) (by decide) (by decide) (by decide) (by decide)

theorem State.setPhase_rget_ne (n : Nat) {f : Fd} (h : f.off ≠ 0x10000 ∨ f.hi < 58 ∨ 61 < f.lo) : (s.setPhase n).rget f = s.rget f := by
  unfold State.setPhase
  rw [State.readyShow_rget _ (by omega), State.rget_rset_ne _ _ _ _ (by decide) (by decide)]
  exact h.imp id (Or.imp id fun h => lt_trans (by decide : 60 < 61) h)

theorem State.setPhase_frame (n : Nat) : (s.setPhase n).mem = s.mem ∧ (s.setPhase n).con = s.con ∧ (s.setPhase n).boot = s.boot ∧ (s.setPhase n).flt = s.flt ∧
    (s.setPhase n).rng = s.rng ∧ (s.setPhase n).ses = s.ses ∧ (s.setPhase n).ldg = s.ldg ∧ (s.setPhase n).waited = s.waited := by
  obtain ⟨h1, h2, h3, h4, h5, h6, h7, h8⟩ := (s.rset Fd.HUB_CONN_STAT_RM_PHASE n).readyShow_frame
  unfold State.setPhase
  rw [h1, h2, h3, h4, h5, h6, h7, h8]
  simp only [State.rset_frame, and_self]

/-- A removal asked for. -/
def State.removalAsked : State := { s with con.rmAt := some s.clock }

theorem State.removalAsked_rget (f : Fd) : s.removalAsked.rget f = s.rget f := (rfl)

theorem State.removalAsked_frame : s.removalAsked.rng = s.rng ∧ s.removalAsked.ses = s.ses ∧ s.removalAsked.mem = s.mem ∧
    s.removalAsked.con.rmAt = some s.clock := ⟨rfl, rfl, rfl, rfl⟩

theorem not_recSlot_contacts : ¬ recSlot 0x10000 := by
  unfold recSlot
  decide

theorem State.msi_rget (v : Nat) {f : Fd} (h : ¬ recSlot f.off) : (s.msi v).rget f = s.rget f := by
  rw [State.rget, (s.msi_same v).rword _ h, State.rget]

/-- The removal sequence begins: phase 1, with its record and interrupt. -/
theorem State.removalBegin_begins : s.removalBegin.rget Fd.HUB_CONN_STAT_RM_PHASE = 1 ∧
    (∀ f : Fd, f.off = 0x10000 → f.hi < 58 ∨ 60 < f.lo → s.removalBegin.rget f = s.rget f) ∧
    (2 ≤ s.stage → s.removalBegin.HasRecord 0x1202 (Loc.whole.code s.devId)) ∧ s.removalBegin.con = s.con ∧ s.removalBegin.rng = s.rng ∧
    s.removalBegin.ses = s.ses ∧ s.removalBegin.mem.dram = s.mem.dram := by
  have hmsi := State.msi_same ((s.rset Fd.HUB_CONN_STAT_RM_PHASE 1).raise (recNote 0x1202 modLoc)) (s.rget Fd.HUB_RM_CTL_VECTOR)
  have hraise := (s.rset Fd.HUB_CONN_STAT_RM_PHASE 1).raise_same (recNote 0x1202 modLoc)
  have hget {f : Fd} (h : f.off = 0x10000) : s.removalBegin.rget f = (s.rset Fd.HUB_CONN_STAT_RM_PHASE 1).rget f := by
    unfold State.removalBegin
    rw [State.msi_rget _ _ (h ▸ not_recSlot_contacts), State.rget_raise _ _ _ (h ▸ not_recSlot_contacts)]
  have hstage : (s.rset Fd.HUB_CONN_STAT_RM_PHASE 1).stage = s.stage := State.rget_rset_off _ _ (by decide)
  have hdev : (s.rset Fd.HUB_CONN_STAT_RM_PHASE 1).devId = s.devId := by
    unfold State.devId
    rw [State.rget_rset_off _ _ (by decide), State.rget_rset_off _ _ (by decide)]
  refine ⟨?_, fun f hf hd => ?_, fun h2 => ?_, ?_, ?_, ?_, ?_⟩
  · rw [hget rfl, State.rget_rset_width _ _ (k := 3) (by decide) (by decide) (by decide)]
    exact (by decide : 1 % 2 ^ 3 = 1)
  · rw [hget hf, State.rget_rset_ne _ _ _ _ (by decide) (by decide) (Or.inr hd)]
  · unfold State.removalBegin State.HasRecord
    rw [State.msi_flt, ← hdev]
    exact State.raise_hasRecord _ _ (by rw [hstage]; exact h2) rfl
  · unfold State.removalBegin
    rw [hmsi.con, hraise.con]
    simp only [State.rset_frame]
  · unfold State.removalBegin
    rw [hmsi.rng, hraise.rng]
    simp only [State.rset_frame]
  · unfold State.removalBegin
    rw [hmsi.ses, hraise.ses]
    simp only [State.rset_frame]
  · unfold State.removalBegin
    rw [hmsi.mem_dram, hraise.mem_dram]
    simp only [State.rset_frame]

/-- What an open latch does. -/
def State.latchOpened : State :=
  let s := s.rset Fd.HUB_CONN_STAT_LATCH_OPEN 1
  if s.boot.predawn && s.rget Fd.HUB_CONN_STAT_REMOVE = 0 then
    let s := ({ s with con.rmAt := some s.clock } : State).rset Fd.HUB_CONN_STAT_REMOVE 1
    if s.boot.running || s.boot.failed.isSome then s else s.removalBegin
  else s.readyShow

theorem execLatchOpen_eq : execLatchOpen s = .next s.latchOpened := (rfl)

variable {s} in
theorem State.latchOpened_asks (hpre : s.boot.predawn = true) (hrem : s.rget Fd.HUB_CONN_STAT_REMOVE = 0) (hrun : s.boot.running = false)
    (hfail : s.boot.failed = none) :
    s.latchOpened = ((s.rset Fd.HUB_CONN_STAT_LATCH_OPEN 1).removalAsked.rset Fd.HUB_CONN_STAT_REMOVE 1).removalBegin := by
  have hboot (u : State) : u.removalAsked.boot = u.boot := (rfl)
  have hb : ((s.rset Fd.HUB_CONN_STAT_LATCH_OPEN 1).removalAsked.rset Fd.HUB_CONN_STAT_REMOVE 1).boot = s.boot := by
    simp only [State.rset_frame, hboot]
  have hc : ((s.rset Fd.HUB_CONN_STAT_LATCH_OPEN 1).boot.predawn && decide ((s.rset Fd.HUB_CONN_STAT_LATCH_OPEN 1).rget Fd.HUB_CONN_STAT_REMOVE = 0)) = true := by
    rw [State.rget_rset_ne _ _ _ _ (by decide) (by decide) (by decide)]
    simp [hpre, hrem]
  refine (if_pos hc).trans (if_neg ?_)
  refine fun h => ?_
  have h' : (((s.rset Fd.HUB_CONN_STAT_LATCH_OPEN 1).removalAsked.rset Fd.HUB_CONN_STAT_REMOVE 1).boot.running ||
    ((s.rset Fd.HUB_CONN_STAT_LATCH_OPEN 1).removalAsked.rset Fd.HUB_CONN_STAT_REMOVE 1).boot.failed.isSome) = true := h
  rw [hb, hrun, hfail] at h'
  cases h'

variable {s} in
theorem State.latchOpened_shows (hpre : s.boot.predawn = false) : s.latchOpened = (s.rset Fd.HUB_CONN_STAT_LATCH_OPEN 1).readyShow := by
  refine if_neg ?_
  simp only [State.rset_frame, hpre, Bool.false_and]
  decide

/-- A removal that is over. -/
theorem State.removalOver_reads : s.removalOver.rget Fd.HUB_CONN_STAT_RM_PHASE = 0 ∧ s.removalOver.rget Fd.HUB_CONN_STAT_REMOVE = 0 ∧
    s.removalOver.rget Fd.HUB_CONN_STAT_LATCH_OPEN = s.rget Fd.HUB_CONN_STAT_LATCH_OPEN := by
  have hb (f : Fd) : s.removalBlank.rget f = s.rget f := (rfl)
  rw [State.removalOver_eq]
  refine ⟨?_, ?_, ?_⟩
  · rw [State.rget_rset_width _ _ (k := 3) (by decide) (by decide) (by decide), Nat.zero_mod]
  · rw [State.rget_rset_ne _ _ _ _ (by decide) (by decide) (by decide), State.rget_rset_ne _ _ _ _ (by decide) (by decide) (by decide),
      State.rget_rset_width _ _ (k := 1) (by decide) (by decide) (by decide), Nat.zero_mod]
  · rw [State.rget_rset_ne _ _ _ _ (by decide) (by decide) (by decide), State.rget_rset_ne _ _ _ _ (by decide) (by decide) (by decide),
      State.rget_rset_ne _ _ _ _ (by decide) (by decide) (by decide), hb]

/-- Neither shut down nor its coolant's condition said. -/
def State.reinserted : State := { s with con.shutdown := false, boot.coolantSaid := false }
theorem State.reinserted_reads (f : Fd) : s.reinserted.rget f = s.rget f := (rfl)
theorem State.reinserted_ldg : s.reinserted.ldg = s.ldg := (rfl)

/-! ### The phases of a removal -/

/-- Shut down, with these branches lost. -/
def State.shutWith (b : List Nat) : State := { s with con.shutdown := true, pwr.branches := b }
theorem State.shutWith_rget (b : List Nat) (f : Fd) : (s.shutWith b).rget f = s.rget f := (rfl)
theorem State.shutWith_units (b : List Nat) : (s.shutWith b).mem = s.mem ∧ (s.shutWith b).frd = s.frd ∧ (s.shutWith b).waited = s.waited ∧
    (s.shutWith b).con.shutdown = true := ⟨rfl, rfl, rfl, rfl⟩

variable {s} in
theorem State.units_of_cold {t : State} (h : t.cold = s.cold) : t.mem = s.mem ∧ t.frd = s.frd ∧ t.waited = s.waited ∧ t.con = s.con :=
  ⟨congrArg (fun x => x.1.mem) h, congrArg (fun x => x.1.frd) h, congrArg (fun x => x.1.waited) h, congrArg (fun x => x.1.con) h⟩

theorem State.coldState_waited : s.coldState.waited = false := by
  unfold State.coldState
  simp only [State.rset_frame]
  rfl

/-- Only the Night domain stays on: units and stored bytes are gone, the inputs' words stay. -/
theorem State.onlyNight_off : s.onlyNight.mem.dram = [] ∧ s.onlyNight.frd = FrdState.init ∧ s.onlyNight.con.shutdown = true ∧ s.onlyNight.waited = false ∧
    ∀ i, i < 2 → s.onlyNight.inSt i = s.inSt i := by
  have h : s.onlyNight.cold = (s.coldState.shutWith s.pwr.branches).cold := State.keepLatches_cold _ s
  obtain ⟨hm, hf, hw, hc⟩ := State.units_of_cold h
  obtain ⟨um, uf, uw, uc⟩ := s.coldState.shutWith_units s.pwr.branches
  obtain ⟨om, -, -, of, -, -⟩ := s.coldState_off
  refine ⟨by rw [hm, um]; exact om, by rw [hf, uf]; exact of, by rw [hc]; exact uc, by rw [hw, uw]; exact s.coldState_waited, fun i hi => ?_⟩
  have hoff : (Fd.PWR_IN_STAT_STATE i).off = 0xB0008 ∨ (Fd.PWR_IN_STAT_STATE i).off = 0xB0010 := by simp only [Fd.PWR_IN_STAT_STATE]; omega
  have hcold : coldOff (Fd.PWR_IN_STAT_STATE i).off = true := by
    rcases hoff with h | h <;> rw [h] <;> rfl
  have hkept : s.coldState.rword (Fd.PWR_IN_STAT_STATE i).off = s.rword (Fd.PWR_IN_STAT_STATE i).off := by
    rcases hoff with h | h <;> rw [h] <;> exact s.coldState_kept (by rfl) (by decide) (by decide)
  rw [State.inSt, State.rget_of_cold h hcold, State.shutWith_rget, State.rget, hkept, ← State.rget, ← State.inSt]

/-- With the time of the removal request. -/
def State.asked (c : Option Nat) : State := { s with con.rmAt := c }
theorem State.asked_frame (c : Option Nat) : (s.asked c).mem = s.mem ∧ (s.asked c).frd = s.frd ∧ (s.asked c).waited = s.waited ∧
    (s.asked c).con.shutdown = s.con.shutdown ∧ ∀ f, (s.asked c).rget f = s.rget f := ⟨rfl, rfl, rfl, rfl, fun _ => rfl⟩

/-- Phase 5 begins: everything but the Night domain is off. -/
theorem State.powerDown_off (hl : ∀ l, l < 32 → s.linkUp l = false) : s.powerDown.rget Fd.HUB_CONN_STAT_RM_PHASE = 5 ∧ s.powerDown.con.shutdown = true ∧
    s.powerDown.mem.dram = [] ∧ s.powerDown.frd = FrdState.init ∧ s.powerDown.inSt 0 = s.inSt 0 ∧ s.powerDown.inSt 1 = s.inSt 1 ∧ s.powerDown.waited = false := by
  have hno : (List.range 32).filter s.linkUp = [] := List.filter_eq_nil_iff.mpr fun l hm => by rw [hl l (List.mem_range.mp hm)]; decide
  have e : s.powerDown = (((s.onlyNight.asked s.con.rmAt).setPhase 5).raise (recNote 0x1205 modLoc)) := by
    unfold State.powerDown
    rw [hno, List.foldl_nil]
    rfl
  obtain ⟨om, of, oc, ow, oi⟩ := s.onlyNight_off
  obtain ⟨am, af, aw, ac, ar⟩ := s.onlyNight.asked_frame s.con.rmAt
  obtain ⟨pm, pc, -, -, -, -, -, pw⟩ := (s.onlyNight.asked s.con.rmAt).setPhase_frame 5
  have hsame := ((s.onlyNight.asked s.con.rmAt).setPhase 5).raise_same (recNote 0x1205 modLoc)
  have hin (i : Nat) (hi : i < 2) : (((s.onlyNight.asked s.con.rmAt).setPhase 5).raise (recNote 0x1205 modLoc)).inSt i = s.inSt i := by
    rw [← oi i hi, State.inSt, State.rget_raise _ _ _ (not_recSlot_input hi rfl), State.setPhase_rget_ne _ _ (Or.inl (by simp only [Fd.PWR_IN_STAT_STATE]; omega)), ar]
    rfl
  rw [e]
  refine ⟨?_, ?_, ?_, ?_, hin 0 (by decide), hin 1 (by decide), ?_⟩
  · rw [State.rget_raise _ _ _ not_recSlot_contacts, State.setPhase_rget _ (by decide)]
  · rw [hsame.con, pc, ac, oc]
  · rw [hsame.mem_dram, pm, am, om]
  · rw [hsame.frd]
    unfold State.setPhase State.readyShow
    simp only [State.rset_frame]
    rw [af, of]
  · rw [hsame.waited, pw, aw, ow]

/-- No session parked by a removal yet. -/
def State.noneParked : State := { s with con.parkNext := 0, con.parkList := [] }
theorem State.noneParked_frame : s.noneParked.mem = s.mem ∧ s.noneParked.ses = s.ses ∧ s.noneParked.waited = s.waited ∧ s.noneParked.con.parkList = [] :=
  ⟨rfl, rfl, rfl, rfl⟩

variable {s} in
/-- Phase 3 with no session RESIDENT. -/
theorem State.parkPhase_of_none (h : s.residents = []) : s.parkPhase.rget Fd.HUB_CONN_STAT_RM_PHASE = 3 ∧ s.parkPhase.rget Fd.HUB_CONN_STAT_SESS_PARKED = 0 ∧
    s.parkPhase.rget Fd.HUB_CONN_STAT_SESS_CLOSED = 0 ∧ s.parkPhase.con.parkList = [] ∧ s.parkPhase.ses = s.ses ∧ s.parkPhase.mem = s.mem ∧
    s.parkPhase.waited = s.waited := by
  have e : s.parkPhase = ((s.noneParked.rset Fd.HUB_CONN_STAT_SESS_PARKED 0).rset Fd.HUB_CONN_STAT_SESS_CLOSED 0).setPhase 3 := by
    have hr : ((s.noneParked.rset Fd.HUB_CONN_STAT_SESS_PARKED 0).rset Fd.HUB_CONN_STAT_SESS_CLOSED 0).residents = [] := h
    unfold State.parkPhase
    exact congrArg (fun l : List Nat => l.foldl _ _) hr
  obtain ⟨nm, ns, nw, nc⟩ := s.noneParked_frame
  obtain ⟨pm, pc, -, -, -, ps, -, pw⟩ := ((s.noneParked.rset Fd.HUB_CONN_STAT_SESS_PARKED 0).rset Fd.HUB_CONN_STAT_SESS_CLOSED 0).setPhase_frame 3
  simp only [State.rset_frame] at pm pc ps pw
  rw [e]
  refine ⟨State.setPhase_rget _ (by decide), ?_, ?_, by rw [pc]; exact nc, ps.trans ns, pm.trans nm, pw.trans nw⟩
  · rw [State.setPhase_rget_ne _ _ (by decide), State.rget_rset_ne _ _ _ _ (by decide) (by decide) (by decide)]
    exact State.rget_rset_fits _ _ (k := 16) (by decide) (by decide) (by decide) (by decide)
  · rw [State.setPhase_rget_ne _ _ (by decide)]
    exact State.rget_rset_fits _ _ (k := 16) (by decide) (by decide) (by decide) (by decide)

/-- What is left to close is closed, the record raised, LEAVE sent and the wear section committed. -/
def State.leaveRest : State :=
  let s := s.residents.foldl (fun (s : State) x => s.removalClose x) s
  let n := s.rget Fd.HUB_CONN_STAT_SESS_CLOSED
  let s := if n = 0 then s else s.raiseN (recNote 0x1204 modLoc) n
  let s := ((List.range 32).filter s.linkUp).foldl (fun (s : State) l => s.toLink l (redMsg s 0x32 0 0 0 0 []) .other) s
  (s.commit s.wearWrites).setPhase 4

theorem State.leavePhase_eq : s.leavePhase = (s.rset Fd.HUB_CONN_STAT_SESS_PARKED
    (min 0xFFFF (s.con.parkList.filter (fun x => (s.slot x).st == .parked)).length)).leaveRest := (rfl)

variable {s} in
theorem State.leaveRest_of_none (hres : s.residents = []) (hcl : s.rget Fd.HUB_CONN_STAT_SESS_CLOSED = 0) (hl : ∀ l, l < 32 → s.linkUp l = false) :
    s.leaveRest = (s.commit s.wearWrites).setPhase 4 := by
  have hno : (List.range 32).filter s.linkUp = [] := List.filter_eq_nil_iff.mpr fun l hm => by rw [hl l (List.mem_range.mp hm)]; decide
  unfold State.leaveRest
  dsimp only
  rw [hres, List.foldl_nil, if_pos hcl, hno, List.foldl_nil]

/-- An act that leaves the state is the state. -/
theorem State.attempt_self {act : State → State} (e : act s = s) : s.attempt act = s := by
  unfold State.attempt
  dsimp only
  rw [e]
  exact ite_self _

variable {s} in
/-- Phase 4 with nothing left to close and no link up. -/
theorem State.leavePhase_of_none (hpark : s.con.parkList = []) (hres : s.residents = []) (hcl : s.rget Fd.HUB_CONN_STAT_SESS_CLOSED = 0)
    (hl : ∀ l, l < 32 → s.linkUp l = false) : s.leavePhase.rget Fd.HUB_CONN_STAT_RM_PHASE = 4 ∧
    s.leavePhase.ldg.queue = s.ldg.queue ++ [⟨s.wearWrites, .nobody⟩] ∧ s.leavePhase.mem = s.mem ∧ s.leavePhase.waited = s.waited := by
  have hu : ∀ l, l < 32 → (s.rset Fd.HUB_CONN_STAT_SESS_PARKED 0).linkUp l = false := fun l h => by
    have e : (s.rset Fd.HUB_CONN_STAT_SESS_PARKED 0).linkUp l = s.linkUp l := by
      unfold State.linkUp State.linkThere State.linkState State.portSplit
      rw [State.rget_rset_off (g := linkFd Fd.FAB_PORT_STAT_STATE l) _ _ (by simp only [linkFd, Fd.FAB_PORT_STAT_STATE, Fd.HUB_CONN_STAT_SESS_PARKED]; omega),
        State.rget_rset_off (g := Fd.FAB_PORT_CFG_SPLIT (l / 2)) _ _ (by simp only [Fd.FAB_PORT_CFG_SPLIT, Fd.HUB_CONN_STAT_SESS_PARKED]; omega)]
      simp only [State.rset_frame]
    exact e.trans (hl l h)
  have e : s.leavePhase = ((s.rset Fd.HUB_CONN_STAT_SESS_PARKED 0).commit s.wearWrites).setPhase 4 := by
    rw [State.leavePhase_eq, hpark]
    exact State.leaveRest_of_none (s := s.rset Fd.HUB_CONN_STAT_SESS_PARKED 0) hres
      (by rw [State.rget_rset_ne _ _ _ _ (by decide) (by decide) (by decide), hcl]) hu
  obtain ⟨pm, -, -, -, -, -, pl, pw⟩ := ((s.rset Fd.HUB_CONN_STAT_SESS_PARKED 0).commit s.wearWrites).setPhase_frame 4
  rw [e]
  exact ⟨State.setPhase_rget _ (by decide), by rw [pl]; rfl, by rw [pm]; rfl, by rw [pw]; rfl⟩

end

/-- Settles O49. -/
theorem removalAndContacts : Obligations.RemovalAndContacts := by
  unfold Obligations.RemovalAndContacts
  refine ⟨?_, ?_, ?_, ?_, ?_, ?_, ?_, ?_, ?_, ?_, ?_, ?_, ?_, ?_⟩
  · intro s hnew
    obtain ⟨h0, h1, hp0, hp1, hi0, hi1, hb⟩ := s.contactsRead_reads (p0 := 1) (p1 := 2) (m := 0) (by decide) (by decide) (by decide)
    exact ⟨s.contactsRead 1 2 0, (execPresenceChange_reads s (by decide) (by decide) rfl hnew).trans (congrArg Host.Outcome.next (State.codesSaid_in_order _)), h0, h1, hp0, hp1, hi0, hi1, State.mem_of_besideInputs hb⟩
  · intro s hnew
    obtain ⟨h0, h1, hp0, hp1, -, -, hb⟩ := s.contactsRead_reads (p0 := 2) (p1 := 1) (m := 1) (by decide) (by decide) (by decide)
    have hsame := (s.contactsRead 2 1 1).raise_same (recNote 0x0D04 (inputLoc 0))
    refine ⟨(s.contactsRead 2 1 1).raise (recNote 0x0D04 (inputLoc 0)),
      (execPresenceChange_reads s (by decide) (by decide) rfl hnew).trans (congrArg Host.Outcome.next (State.codesSaid_swapped _)), ?_, ?_, ?_, ?_, fun h2 => ?_, ?_⟩
    · rw [State.rget_raise _ _ _ not_recSlot_contacts, h0]
    · rw [State.rget_raise _ _ _ not_recSlot_contacts, h1]
    · rw [State.rget_raise _ _ _ (not_recSlot_input (i := 0) (by decide) rfl), hp0]
    · rw [State.rget_raise _ _ _ (not_recSlot_input (i := 1) (by decide) rfl), hp1]
    · rw [← State.devId_of_besideInputs hb]
      exact State.raise_hasRecord _ _ (by rw [State.stage_of_besideInputs hb]; exact h2) rfl
    · rw [hsame.mem_dram, State.mem_of_besideInputs hb]
  · intro s hnew
    obtain ⟨-, -, hp0, hp1, -, -, hb⟩ := s.contactsRead_reads (p0 := 1) (p1 := 1) (m := 0) (by decide) (by decide) (by decide)
    have hsame := (s.contactsRead 1 1 0).raise_same (recNote 0x1201 (presenceLoc 1))
    refine ⟨(s.contactsRead 1 1 0).raise (recNote 0x1201 (presenceLoc 1)),
      (execPresenceChange_reads s (by decide) (by decide) rfl hnew).trans (congrArg Host.Outcome.next (State.codesSaid_alike _)), ?_, ?_, fun h2 => ?_, ?_⟩
    · rw [State.rget_raise _ _ _ (not_recSlot_input (i := 0) (by decide) rfl), hp0]
    · rw [State.rget_raise _ _ _ (not_recSlot_input (i := 1) (by decide) rfl), hp1]
    · rw [← State.devId_of_besideInputs hb]
      exact State.raise_hasRecord _ _ (by rw [State.stage_of_besideInputs hb]; exact h2) rfl
    · rw [hsame.mem_dram, State.mem_of_besideInputs hb]
  · intro s begun hph hpres hsd
    obtain ⟨hoff, hshut, -⟩ := s.shutDown_off begun 0x1206 modLoc
    obtain ⟨hd, hthl, -, hfrd, hrng, -⟩ := hoff
    generalize hx : s.shutDown begun 0x1206 modLoc = x at hd hthl hfrd hrng hshut
    have hstores : (((((x.rset Fd.HUB_CONN_STAT_PRES0 3).rset Fd.HUB_CONN_STAT_PRES1 3).unqualify 0 0).unqualify 1 0)).stores = x.stores := by
      rw [State.unqualify_stores _ (by decide), State.unqualify_stores _ (by decide), State.stores_of_besideInputs (State.rset_besideInputs _ rfl _),
        State.stores_of_besideInputs (State.rset_besideInputs _ rfl _)]
    obtain ⟨e1, e2, e3, e4, e5⟩ : _ ∧ _ ∧ _ ∧ _ ∧ _ := by simpa only [State.stores, Prod.mk.injEq] using hstores
    obtain ⟨hu0, -⟩ := ((x.rset Fd.HUB_CONN_STAT_PRES0 3).rset Fd.HUB_CONN_STAT_PRES1 3).unqualify_inSt (i := 0) (v := 0) (by decide) (by decide)
    obtain ⟨hv1, hv0⟩ := (((x.rset Fd.HUB_CONN_STAT_PRES0 3).rset Fd.HUB_CONN_STAT_PRES1 3).unqualify 0 0).unqualify_inSt (i := 1) (v := 0) (by decide) (by decide)
    refine ⟨((((x.rset Fd.HUB_CONN_STAT_PRES0 3).rset Fd.HUB_CONN_STAT_PRES1 3).unqualify 0 0).unqualify 1 0), ?_, ?_, ?_, ?_, hv1, e1.trans hd, e2.trans hthl,
      e3.trans hfrd, e4.trans hrng, by rw [e5]; exact hshut⟩
    · refine congrArg Host.Outcome.next ?_
      rw [if_neg (by simpa using ⟨hph, fun h => not_and.mp hpres h⟩), if_neg (by rw [hsd]; decide), hx]
    · rw [State.unqualify_contacts _ (by decide) rfl, State.unqualify_contacts _ (by decide) rfl, State.rget_rset_ne _ _ _ _ (by decide) (by decide) (by decide),
        State.rget_rset_width _ _ (k := 2) (by decide) (by decide) (by decide)]
      exact (by decide : 3 % 2 ^ 2 = 3)
    · rw [State.unqualify_contacts _ (by decide) rfl, State.unqualify_contacts _ (by decide) rfl,
        State.rget_rset_width _ _ (k := 2) (by decide) (by decide) (by decide)]
      exact (by decide : 3 % 2 ^ 2 = 3)
    · rw [hu0] at hv0
      exact hv0.trans (if_neg (by omega))
  · intro s hpre hrem hrun hfail
    have hopen : (((s.rset Fd.HUB_CONN_STAT_LATCH_OPEN 1).removalAsked.rset Fd.HUB_CONN_STAT_REMOVE 1)).rget Fd.HUB_CONN_STAT_LATCH_OPEN = 1 := by
      rw [State.rget_rset_ne _ _ _ _ (by decide) (by decide) (by decide), State.removalAsked_rget, State.rget_rset_fits _ _ (k := 1) (by decide) (by decide) (by decide) (by decide)]
    have hrm : (((s.rset Fd.HUB_CONN_STAT_LATCH_OPEN 1).removalAsked.rset Fd.HUB_CONN_STAT_REMOVE 1)).rget Fd.HUB_CONN_STAT_REMOVE = 1 :=
      State.rget_rset_fits _ _ (k := 1) (by decide) (by decide) (by decide) (by decide)
    have hkeep {f : Fd} (hf : f.off ≠ 0x10000) : (((s.rset Fd.HUB_CONN_STAT_LATCH_OPEN 1).removalAsked.rset Fd.HUB_CONN_STAT_REMOVE 1)).rget f = s.rget f := by
      rw [State.rget_rset_off _ _ hf, State.removalAsked_rget, State.rget_rset_off _ _ hf]
    obtain ⟨h1, h2, h3, h4, h5, h6, h7⟩ := ((s.rset Fd.HUB_CONN_STAT_LATCH_OPEN 1).removalAsked.rset Fd.HUB_CONN_STAT_REMOVE 1).removalBegin_begins
    have hframe : ((s.rset Fd.HUB_CONN_STAT_LATCH_OPEN 1).removalAsked.rset Fd.HUB_CONN_STAT_REMOVE 1).rng = s.rng ∧
        ((s.rset Fd.HUB_CONN_STAT_LATCH_OPEN 1).removalAsked.rset Fd.HUB_CONN_STAT_REMOVE 1).ses = s.ses ∧
        ((s.rset Fd.HUB_CONN_STAT_LATCH_OPEN 1).removalAsked.rset Fd.HUB_CONN_STAT_REMOVE 1).mem = s.mem ∧
        ((s.rset Fd.HUB_CONN_STAT_LATCH_OPEN 1).removalAsked.rset Fd.HUB_CONN_STAT_REMOVE 1).con.rmAt = some s.clock := by
      obtain ⟨a1, a2, a3, a4⟩ := (s.rset Fd.HUB_CONN_STAT_LATCH_OPEN 1).removalAsked_frame
      simp only [State.rset_frame, a1, a2, a3, a4, and_self]
    obtain ⟨fr, fs, fm, fc⟩ := hframe
    refine ⟨((s.rset Fd.HUB_CONN_STAT_LATCH_OPEN 1).removalAsked.rset Fd.HUB_CONN_STAT_REMOVE 1).removalBegin, ?_, ?_, ?_, h1, ?_, fun hs => ?_, h5.trans fr,
      h6.trans fs, by rw [h7, fm]⟩
    · exact (execLatchOpen_eq s).trans (congrArg Host.Outcome.next (State.latchOpened_asks hpre hrem hrun hfail))
    · rw [h2 _ rfl (by decide), hopen]
    · rw [h2 _ rfl (by decide), hrm]
    · rw [h4, fc]
    · have hdev : ((s.rset Fd.HUB_CONN_STAT_LATCH_OPEN 1).removalAsked.rset Fd.HUB_CONN_STAT_REMOVE 1).devId = s.devId := by
        unfold State.devId
        rw [hkeep (by decide), hkeep (by decide)]
      rw [← hdev]
      exact h3 (by rw [State.stage, hkeep (by decide)]; exact hs)
  · intro s hpre
    obtain ⟨h1, h2, h3, h4, -⟩ := (s.rset Fd.HUB_CONN_STAT_LATCH_OPEN 1).readyShow_frame
    simp only [State.rset_frame] at h1 h2 h3 h4
    refine ⟨_, (execLatchOpen_eq s).trans (congrArg Host.Outcome.next (State.latchOpened_shows hpre)), ?_, ?_, h2, h3, h4, h1⟩
    · rw [State.readyShow_rget _ (by decide)]
      exact State.rget_rset_fits _ _ (k := 1) (by decide) (by decide) (by decide) (by decide)
    · rw [State.readyShow_rget _ (by decide), State.rget_rset_ne _ _ _ _ (by decide) (by decide) (by decide)]
  · intro s hph
    have hphase : (s.rset Fd.HUB_CONN_STAT_LATCH_OPEN 0).rget Fd.HUB_CONN_STAT_RM_PHASE = 6 := by
      rw [State.rget_rset_ne _ _ _ _ (by decide) (by decide) (by decide), hph]
    obtain ⟨hover, hremove, hlatch⟩ := (s.rset Fd.HUB_CONN_STAT_LATCH_OPEN 0).removalOver_reads
    obtain ⟨-, -, -, -, -, hldg, -, -⟩ := (s.rset Fd.HUB_CONN_STAT_LATCH_OPEN 0).removalBlank_frame
    have hstarts : (s.rset Fd.HUB_CONN_STAT_LATCH_OPEN 0).removalOver.ldg.starts = s.ldg.starts := by
      rw [State.removalOver_eq]
      simp only [State.rset_frame] at hldg ⊢
      rw [hldg]
    obtain ⟨hrun, hstage, hst, -⟩ := State.startAtPredawn_starts (s.rset Fd.HUB_CONN_STAT_LATCH_OPEN 0).removalOver.reinserted false
    have hcon {f : Fd} (hf : f.off = 0x10000) (hd : f.hi < 61 ∨ 61 < f.lo) :
        ((s.rset Fd.HUB_CONN_STAT_LATCH_OPEN 0).removalOver.reinserted.startAtPredawn false).readyShow.rget f = (s.rset Fd.HUB_CONN_STAT_LATCH_OPEN 0).removalOver.rget f := by
      rw [State.readyShow_rget _ (Or.inr hd), State.startAtPredawn_contacts _ _ hf, State.reinserted_reads]
    obtain ⟨-, -, hboot, -, -, -, hl, -⟩ := ((s.rset Fd.HUB_CONN_STAT_LATCH_OPEN 0).removalOver.reinserted.startAtPredawn false).readyShow_frame
    refine ⟨((s.rset Fd.HUB_CONN_STAT_LATCH_OPEN 0).removalOver.reinserted.startAtPredawn false).readyShow,
      congrArg Host.Outcome.next (if_pos hphase), ?_, ?_, ?_, ?_, ?_, ?_⟩
    · rw [hcon rfl (by decide), hlatch]
      exact State.rget_rset_fits _ _ (k := 1) (by decide) (by decide) (by decide) (by decide)
    · rw [hcon rfl (by decide), hover]
    · rw [hcon rfl (by decide), hremove]
    · rw [hboot, hrun]
    · rw [State.stage, State.readyShow_rget _ (by decide), ← State.stage, hstage]
    · rw [hl, hst, State.reinserted_ldg, hstarts]
  · intro s hph
    have hphase : (s.rset Fd.HUB_CONN_STAT_LATCH_OPEN 0).rget Fd.HUB_CONN_STAT_RM_PHASE = s.rget Fd.HUB_CONN_STAT_RM_PHASE :=
      State.rget_rset_ne _ _ _ _ (by decide) (by decide) (by decide)
    obtain ⟨h1, h2, h3, h4, h5, h6, -⟩ := (s.rset Fd.HUB_CONN_STAT_LATCH_OPEN 0).readyShow_frame
    simp only [State.rset_frame] at h1 h2 h3 h4 h5 h6
    refine ⟨(s.rset Fd.HUB_CONN_STAT_LATCH_OPEN 0).readyShow, congrArg Host.Outcome.next (if_neg (by rw [hphase]; exact hph)), ?_, ?_, h2, h3, h5, h6, h1⟩
    · rw [State.readyShow_rget _ (by decide)]
      exact State.rget_rset_fits _ _ (k := 1) (by decide) (by decide) (by decide) (by decide)
    · rw [State.readyShow_rget _ (by decide), hphase]
  · intro s hw hph
    have hstill (l : List Nat) (u : State) : (l.foldl (fun (s : State) r => s.ringStop r) u).still = u.still := u.foldl_still (fun v r => v.ringStop_still r) l
    by_cases hdue : s.rmDue s.graceMs = true
    · obtain ⟨-, -, -, -, -, -, -, hwt⟩ := (s.liveRings.foldl (fun (s : State) r => s.ringStop r) s).setPhase_frame 2
      refine ⟨(s.liveRings.foldl (fun (s : State) r => s.ringStop r) s).setPhase 2,
        congrArg Host.Outcome.next (State.attempt_eq ?_ (hwt.trans ((State.waited_of_still (hstill _ s)).trans hw))),
        fun _ => ⟨State.setPhase_rget _ (by decide), fun r hr => ?_⟩, fun h => absurd hdue (by rw [h]; decide)⟩
      · dsimp only
        rw [hph]
        exact if_pos hdue
      · by_cases hst : s.rget (Fd.RNG_CTL_STATE r) = 0
        · exact Or.inr hst
        · refine Or.inl ?_
          have hmem : r ∈ s.liveRings := List.mem_filter.mpr ⟨List.mem_range.mpr hr, by simpa using hst⟩
          rw [State.setPhase_rget_ne _ _ (Or.inl (by simp only [Fd.RNG_CTL_ENABLE]; omega))]
          refine foldl_reaches (p := fun u : State => u.rget (Fd.RNG_CTL_ENABLE r) = 0) r (fun u x hu => ?_) (fun u => ?_) _ _ hmem
          · rw [State.ringStop_enable, hu, ite_self]
          · rw [State.ringStop_enable, if_pos rfl]
    · refine ⟨s, congrArg Host.Outcome.next (State.attempt_eq ?_ hw), fun h => absurd h hdue, fun _ => rfl⟩
      dsimp only
      rw [hph]
      exact if_neg hdue
  · intro s hw hph hdr hres
    obtain ⟨h1, h2, h3, h4, h5, h6, h7⟩ := s.parkPhase_of_none hres
    refine ⟨s.parkPhase, congrArg Host.Outcome.next (State.attempt_eq ?_ (h7.trans hw)), h1, h2, h3, h4, h5, h6⟩
    dsimp only
    rw [hph]
    exact (if_pos (by rw [hdr, Bool.true_or])).trans (congrArg State.parkPhase (if_pos hdr))
  · intro s hph hdr hdue
    exact congrArg Host.Outcome.next (s.attempt_self (by
      dsimp only
      rw [hph]
      exact if_neg (by rw [hdr, hdue]; decide)))
  · intro s hw hph hpark hres hcl hlinks
    obtain ⟨h1, h2, h3, h4⟩ := s.leavePhase_of_none hpark hres hcl hlinks
    refine ⟨s.leavePhase, congrArg Host.Outcome.next (State.attempt_eq ?_ (h4.trans hw)), h1, h2, h3⟩
    dsimp only
    rw [hph]
    exact if_pos (by rw [hpark]; rfl)
  · intro s hw hph hdue hlinks
    obtain ⟨h1, h2, h3, h4, h5, h6, hwt⟩ := s.powerDown_off hlinks
    refine ⟨s.powerDown, congrArg Host.Outcome.next (State.attempt_eq ?_ hwt), h1, h2, h3, h4, h5, h6⟩
    dsimp only
    rw [hph]
    exact if_pos (by rw [hdue, Bool.or_true])
  · intro s hw hph
    obtain ⟨hm, hc, -, -, -, -, -, hwt⟩ := s.setPhase_frame 6
    refine ⟨s.setPhase 6, congrArg Host.Outcome.next (State.attempt_eq ?_ (hwt.trans hw)), s.setPhase_rget (by decide), ?_, hc, hm⟩
    · dsimp only
      rw [hph]
      rfl
    · exact State.setPhase_ready s

end Sys2Proof.Machine
end
